-- ==== Sys2Proof/Word.lean ====
section
/-! DEFINITION. The word types of the endpoint's registers, tables and bytes, and the one container used for sparse arrays. -/

namespace Sys2Proof

/-- One byte of memory or of a frame. -/
abbrev Byte := BitVec 8

/-- A register, a slate-table word or a memory word: 64 bits; a 32-bit register uses bits [31:0] (R4, R27). -/
abbrev Word := BitVec 64

/-- A sparse array: entries by rising index; an index that is not listed holds the array's reset content,
which the reader of the array names. -/
abbrev SMap (α : Type) := List (Nat × α)

end Sys2Proof
end

