-- ==== Sys2Proof/Syntax.lean ====
section
/-! DEFINITION. The commands of the endpoint: one constructor of Instr per row of spec/opcode_table.json, with the
operands a command carries (log entry 5), and the plain records those operands are made of. -/

namespace Sys2Proof

/-- The block types of the block base table (R25). -/
inductive PageKind where
  | global | time | cycle | stream | xfer | lz | codec | mover | mem | ddr | evt | cnt | trace | alarm | fault
  | mgmt | pwr | sec | pgrp | port | mch
deriving DecidableEq, Repr

/-- One register page: its block type and its instance (R25). -/
structure PageRef where
  kind : PageKind
  inst : Nat
deriving DecidableEq, Repr

/-- One access of a core to the register region (R26 to R28). -/
structure Access where
  /-- Core that issues the access, 0 to 15. -/
  core  : Nat
  /-- Region offset: the address less 0x00F0_0000_0000. -/
  off   : Nat
  /-- Width in bytes. -/
  width : Nat
  /-- The value written, or none for a read. -/
  data  : Option Word
deriving DecidableEq, Repr

/-- The operations of the RISC-V A extension on memory. -/
inductive AmoOp where
  | swap | add | xor | and | or | min | max | minu | maxu
deriving DecidableEq, Repr

/-- How a core accesses memory (R321). -/
inductive MemOp where
  | load
  | store (v : Word)
  | amo (op : AmoOp) (v : Word)
  | lr
  | sc (v : Word)
deriving DecidableEq, Repr

/-- One access of a core: a load or a store to the register region, or an access of any kind to a device physical address (R202,
R321). -/
inductive CoreAccess where
  | reg (a : Access)
  | mem (core addr width : Nat) (op : MemOp)
deriving DecidableEq, Repr

/-- An IEEE 802.1Q tag with TPID 0x8100 (R136, R184). -/
structure VlanTag where
  pcp : Nat
  dei : Bool
  vid : Nat
deriving DecidableEq, Repr

/-- An Ethernet frame from its destination address to the byte before its FCS (R136, encapsulation table of
Itpitos frames). `body` is everything after the EtherType, pad included. -/
structure Frame where
  da        : BitVec 48
  sa        : BitVec 48
  tag       : Option VlanTag
  etherType : BitVec 16
  body      : List Byte
deriving DecidableEq, Repr

/-- A frame as a port receives it: what the PCS and MAC report beside the frame's bytes. -/
structure RxFrame where
  port   : Fin 1024
  frame  : Frame
  /-- Every codeword that carried the frame was correctable (R126). -/
  fecOk  : Bool
  /-- The FCS was right (R136). -/
  fcsOk  : Bool
  /-- Crossing of the timestamp point in units of 2^-16 ns of the port group's replica (R47, R107). -/
  tRx    : Nat
  /-- Hub edge on which the frame reaches stage 6, when it goes to the hub (R20). -/
  edge   : Nat
  /-- When relayed: the output ports on which its first bit has already left when stage 1 or 2 ends (R369). -/
  begun  : List (Fin 1024)
deriving DecidableEq, Repr

/-- The payload of a clapper (R49). Times in units of 2^-16 ns. -/
structure Clapper where
  /-- CYCLE field of the frame's header (R51). -/
  hdrCycle   : Nat
  cycle      : Nat
  origin     : Nat
  correction : Int
  tbRank     : Nat
  tbNode     : Nat
  steps      : Nat
  ticks      : Nat
  flags      : Nat
deriving DecidableEq, Repr

/-- The contents of a HELLO frame (R133 and its payload table). -/
structure Hello where
  node      : Nat
  port      : Nat
  tag       : Nat
  word      : Word
  etherType : Nat
  ack       : Bool
  switch    : Bool
  sleep     : Bool
deriving DecidableEq, Repr

/-- One received FEC codeword (R122 to R126). -/
inductive Codeword where
  /-- Standard FEC: 10-bit symbols corrected, or uncorrectable. -/
  | std (corrected : Nat) (uncorr : Bool)
  /-- Standard FEC: the 544 received symbols, c_543 first. -/
  | rs (symbols : List Nat)
  /-- LL-FEC: the 272 received symbols, c_271 first. -/
  | ll (symbols : List Nat)
  /-- Codeword or alignment lock was lost. -/
  | lockLost
deriving DecidableEq, Repr

/-- A burst heard by a rooster (R142, R143). -/
structure WakeBurst where
  preambleBits : Nat
  words        : List Word
  /-- Largest gap before a word, in bit times. -/
  gap          : Nat
deriving DecidableEq, Repr

/-- A PAUSE or priority flow control frame (R138, R139). -/
structure PauseFrame where
  /-- true: priority flow control; false: PAUSE. -/
  pfc     : Bool
  /-- Enabled priorities of a priority flow control frame, bit i for priority i. -/
  enabled : Nat
  /-- Quanta: one for PAUSE; eight for priority flow control, priority 0 first. -/
  quanta  : List Nat
  /-- Tick of the current cycle, rounded up, of its last bit at the pins. -/
  tick    : Nat
deriving DecidableEq, Repr

/-- A preemptable mPacket (R151, R158). -/
structure Mpacket where
  /-- true: start SMD; false: continuation SMD. -/
  start   : Bool
  frameNo : Nat
  fragNo  : Nat
  /-- true: ends with the frame's FCS; false: ends with an mCRC. -/
  final   : Bool
  /-- Every codeword that carried it was correctable (R126). -/
  fecOk   : Bool
  /-- The mCRC or FCS it ends with is right. -/
  crcOk   : Bool
  /-- Frame bytes from the destination address on that it carries, without mCRC or FCS. -/
  data    : List Byte
  /-- Crossing of its timestamp point, 2^-16 ns (R107). -/
  tRx     : Nat
  edge    : Nat
deriving DecidableEq, Repr

/-- The kind of an ECC error a read of staging memory (R204) or of LPDDR (R207) finds. -/
inductive EccKind where
  | single | uncorrectable
deriving DecidableEq, Repr

/-- Errors that the reads of a step find: byte address of the 64-bit word, kind. -/
abbrev EccList := List (Nat × EccKind)

/-- What the boot flash and its checks give for one slot (R331, R332). -/
structure FlashSlot where
  /-- The flash answers its SFDP read and every read within 1 ms. -/
  responds : Bool
  header   : List Byte
  body     : List Byte
deriving DecidableEq, Repr

/-- A frame on the management port (R330), without its FCS. -/
structure MgmtFrame where
  bytes : List Byte
  fcsOk : Bool
deriving DecidableEq, Repr

/-- Supply telemetry of one refresh (R363, R368): VIN in mV, IIN in 10 mA, PIN in 0.1 W, and for each rail in
order its voltage in mV, its current in mA and its power in mW. -/
structure Telemetry where
  vinMv : Nat
  iin   : Nat
  pin   : Nat
  rails : List (Nat × Nat × Nat)
deriving DecidableEq, Repr

/-- How a PMBus command reaches the bus: the 7-bit address it is sent to and, where the master uses PEC, a PEC byte: the one that ends a
write, or any value for a read, whose answer then ends with the slave's own (R363). -/
structure Smb where
  addr : BitVec 7
  pec  : Option Byte
deriving DecidableEq, Repr

/-- What befalls the overflow interrupt of a core's counter (R299): the counter goes from all ones to 0, with the interrupt masked or
not; the interrupt is unmasked; the program clears the overflow bit. `pc`: the instruction that would retire next where the trap is
taken, at most 32 instructions after the one that caused the overflow. -/
inductive OvfEvent where
  | wraps (masked : Bool) (pc : Word)
  | unmasked (pc : Word)
  | cleared
deriving DecidableEq, Repr

/-- The commands: one constructor per row of spec/opcode_table.json. -/
inductive Instr where
  -- Register pages, features and the coherent state
  | registerWrite (a : CoreAccess)
  | blockEnable (page : PageRef) (on : Bool)
  | blockReset (page : PageRef) (enable : Bool)
  | featLock
  | featLockAccepted
  | deviceReset
  | intCauseClear (page : PageRef) (mask raised : BitVec 32)
  | shadowCommit (page : PageRef)
  | shadowDiscard (page : PageRef)
  | commitApplied (page : PageRef)
  | snapTake (page : PageRef)
  | snapshotCapture (page : PageRef)
  | counterWrite (page : PageRef) (off : Nat) (value : Word) (incs : Nat)
  -- Fabric time and civil time
  | timeDistributionPulse (absent : BitVec 16) (missed : List (Fin 70)) (diffs : List (Fin 70 × Int))
  | cycleStart (departures : List (Fin 1024 × Int))
  | clapperRx (p : Fin 1024) (c : Clapper) (tRx : Nat)
  | delayReqTx (p : Fin 1024) (t1 : Nat)
  | delayReqRx (p : Fin 1024) (reqId : BitVec 16) (src : BitVec 16) (t2 t3 : Nat)
  | delayRespRx (p : Fin 1024) (reqId : BitVec 16) (syntonised : Bool) (turnaround : Int) (t4 : Nat)
  | delayTimeout (p : Fin 1024)
  | civilStep
  | civilInvalidate
  | civilRateWrite (rate : BitVec 32)
  | nowNsRead
  | civilSecRead
  | pairCycleRead
  | ppsInEdge (rising : Bool)
  | ppsOutEdge
  | ppsOutWidthEnd
  | diagTsEnable (ctrl : BitVec 32)
  | diagTsPop
  -- Cycle start, joining and spare slots
  | nodeStart
  | nodeStop
  | adopt
  | adoptSwitch
  | clearHalt
  | listenTimerExpiry
  | candidateCycleZero
  | joinStep
  | claimTx (p : Fin 1024) (owner : BitVec 16)
  | claimRetry (p : Fin 1024) (owner : BitVec 16)
  | claimRx (p : Fin 1024) (src owner : BitVec 16) (cycle : BitVec 48)
  | claimAckRx (p : Fin 1024) (owner : BitVec 16) (effective : BitVec 48)
  | claimRefusedRx (p : Fin 1024) (owner : BitVec 16) (reason : Nat)
  | claimRefresh (p : Fin 1024) (owner : BitVec 16)
  | claimExpired (p : Fin 1024) (index : Fin 64)
  -- Gates, slates, cuts and the frame paths
  | gateEntryStart (p : Fin 1024)
  | headLoad (p : Fin 1024) (index : Nat)
  | frameTxStart (p : Fin 1024) (tick : Nat) (tDep : Nat)
  | frameReceive (r : RxFrame)
  | hubReceive (ecc : EccList)
  | eventPendingFire
  | slateTableWrite (off : Nat) (value : Word)
  | slateCheck
  | validationEnd
  | cutArm (x : BitVec 48)
  | cutCancel
  -- Ports and links
  | linkRetrain (p : Fin 1024)
  | linkSleep (p : Fin 1024)
  | sleepSquelch (p : Fin 1024)
  | linkWake (p : Fin 1024)
  | wakeBurstRx (p : Fin 1024) (b : WakeBurst)
  | wakeLate (p : Fin 1024)
  | signalDetect (p : Fin 1024)
  | trainingReady (p : Fin 1024) (coeffs : List Int)
  | trainTimeout (p : Fin 1024)
  | wakeTrainTimeout (p : Fin 1024)
  | codewordLock (p : Fin 1024)
  | lockTimeout (p : Fin 1024)
  | observationWindowEnd (p : Fin 1024)
  | helloTx (p : Fin 1024)
  | helloRx (p : Fin 1024) (h : Hello)
  | helloTimeout (p : Fin 1024)
  | llSwitchBoundary (p : Fin 1024) (rx : Bool)
  | llSwitchTimeout (p : Fin 1024)
  | squelchEnd (p : Fin 1024)
  | codewordRx (p : Fin 1024) (cw : Codeword) (signal : Bool)
  | signalLoss (p : Fin 1024)
  | keepaliveTimeout (p : Fin 1024)
  | macControlRx (p : Fin 1024) (opcode : BitVec 16) (len : Nat)
  | pauseRx (p : Fin 1024) (f : PauseFrame)
  | pauseEffect (p : Fin 1024)
  | pauseExpiry (p : Fin 1024) (cls : Fin 8)
  -- Frame preemption
  | preemptInactive (p : Fin 1024)
  | verifyRx (p : Fin 1024) (valid : Bool)
  | respondRx (p : Fin 1024) (valid : Bool)
  | verifyTimeout (p : Fin 1024)
  | fragmentRx (p : Fin 1024) (m : Mpacket)
  | reasmTimeout (p : Fin 1024)
  -- Replication and duplicate elimination
  | rcvyTimeoutReset (r : Fin 32768)
  | latentTest (r : Fin 32768)
  | rcvyResetState
  | clearCounters
  | setSeq (n : BitVec 16)
  | rcvySel (r : BitVec 32)
  | genSel (g : BitVec 32)
  -- Event lines and pins
  | eventRxLines (lines : Word)
  | eventGenBuild (g : Fin 16)
  | pinCfg (n : Fin 32) (value : BitVec 32)
  | evtPinEdge (n : Fin 32) (rising : Bool) (at_ : Nat)
  | evtPinPulseEnd (n : Fin 32)
  -- Memory and landing zones
  | scrub (die : Fin 8) (ecc : EccList)
  | lzEditApply (zone : Fin 4096)
  | rejectClear
  | zoneSel (z : BitVec 32)
  -- Submission queues
  | doorbell (q : Fin 4096) (value : BitVec 32)
  | inlineStore (q : Fin 4096) (index : Fin 8) (value : Word)
  | sqPoll (q : Fin 4096) (ecc : EccList)
  | entryFetch
  | entryCopied (q : Fin 4096) (ecc : EccList)
  | sqEnable (q : Fin 4096) (cfg : BitVec 32)
  | sqDisable (q : Fin 4096) (cfg : BitVec 32)
  | frameBuild (q : Fin 4096) (ecc : EccList)
  | sendOnEventStart (q : Fin 4096)
  | eventTimeout (q : Fin 4096)
  | expectTimeout (q : Fin 4096)
  | fenceFinish (q : Fin 4096)
  -- Completion rings
  | cqHeadWrite (c : Fin 1024) (value : BitVec 32)
  | heldEntryWrite (c : Fin 1024)
  | cqNotifyDelay (c : Fin 1024)
  | cqNotify (c : Fin 1024) (value : BitVec 32)
  | cqEnable (c : Fin 1024) (cfg : BitVec 32)
  | cqDisable (c : Fin 1024) (cfg : BitVec 32)
  | xferEn (g : Fin 64) (on : Bool)
  -- Payload codecs
  | codecTestStart
  | codecTestDone (ecc : EccList)
  -- Block mover
  | chSel (value : BitVec 32)
  | chEnable
  | chDisable
  | chReset
  | chKick
  | chIdlePoll (c : Fin 256)
  | descriptorHandover (c : Fin 256) (ecc : EccList)
  | burstGrant
  | burstDataReturn (ecc : EccList) (linkError : Bool)
  | writesAnswered (c : Fin 256) (ecc : EccList)
  | drainDone (c : Fin 256)
  | moverShadowCommit
  -- Counters, dailies and histograms
  | dailiesCapture
  | take
  | dumpWritten
  | dailiesRingHead (value : BitVec 32)
  | clearSel (g : Fin 64)
  | clearAll (g : Fin 64)
  | histOriginWrite (g : Fin 64) (kind : Fin 3) (value : BitVec 32)
  | otherClear
  | coreCounterOverflow (h : Fin 16) (ctr : Fin 8) (e : OvfEvent)
  -- Trace, alarms and fault aggregation
  | reelWrite
  | emit
  | traceRingHead (value : BitVec 32)
  | traceEnable
  | alarmApply
  | keySel (value : BitVec 32)
  | alarmRelease
  | faultResolvedSend
  | faultSwSend
  | faultAggregate
  | faultStale
  | entrySel (value : BitVec 32)
  | faultRelease
  | faultEnable
  | faultReady
  -- Cores and management
  | hartStart (mask : BitVec 16)
  | irqRearm (value : BitVec 32)
  | irqSignal (j : Fin 128)
  | machineTimerInterrupt (h : Fin 16)
  | mgmtTxKick
  | mgmtRxKick
  | mgmtIdlePoll
  | mgmtTxDescriptor
  | mgmtRxFrame (f : MgmtFrame)
  | boot (slot0 slot1 : FlashSlot)
  | programKey (k : Fin 4)
  | revoke (k : Fin 4)
  | setCounter (n : BitVec 7)
  | setProvisioned
  | fuseOpDone
  -- Power-up, pins and PMBus
  | uvloRise (drained : Bool) (low : Nat)
  | railInRegulation (rail : Fin 10) (osc : Bool)
  | railTimeout (rail : Fin 10)
  | resetRelease (rise : Option Nat) (mfg : Bool) (addr : BitVec 3)
  | rstNAssert
  | pllLock
  | core0Release
  | uvloFall
  | ddrTrainStart
  | ddrTrainDone (passed : BitVec 8)
  | thermalSample (temps : List Int)
  | thermalShutdown
  | vinOvervoltage (mv : Nat)
  | railCurrentLimit (rail : Fin 10)
  | page (x : Smb) (value : BitVec 8)
  | operationOff (x : Smb)
  | operationOn (x : Smb)
  | clearFaults (x : Smb)
  | voutMode (x : Smb)
  | statusWord (x : Smb)
  | statusVout (x : Smb)
  | statusIout (x : Smb)
  | statusInput (x : Smb)
  | statusTemperature (x : Smb)
  | statusCml (x : Smb)
  | readVin (x : Smb)
  | readIin (x : Smb)
  | readPin (x : Smb)
  | readVout (x : Smb)
  | readIout (x : Smb)
  | readPout (x : Smb)
  | readTemperature1 (x : Smb)
  | pmbusRevision (x : Smb)
  | pmbusUnknownCommand (x : Smb) (code : BitVec 8)
  -- Rows added at the end of the table
  | joinDetectorDrop
  | mgmtLinkChange (up : Bool) (speed : Nat) (fullDuplex : Bool)
  | crystalStable
  | supervisorTimerInterrupt (h : Fin 16)
  | telemetryRefresh (t : Telemetry)
deriving DecidableEq, Repr

end Sys2Proof
end

