-- ==== Sys2Proof/Config.lean ====
section
/-! DEFINITION. What the spec leaves open or takes from outside the endpoint: the free values, and the functions of published
standards that no rule of the spec computes. Each is an opaque constant: no proof can see its value. -/

namespace Sys2Proof

/-- The n-th free value of a run, for a value the spec leaves open (log entry 4). -/
opaque Config.freeValue : Nat → BitVec 64

/-- SHA-384 of a byte string, its 48 bytes in the order that the standard gives (R331, R332, log entry 47). -/
opaque Config.sha384 : List Byte → List Byte

/-- ECDSA verification on curve P-384: public key, digest, r and s (R331, R332, log entry 47). -/
opaque Config.ecdsaP384 : List Byte → List Byte → List Byte → List Byte → Bool

/-- The bytes of the boot ROM, by offset: the spec gives none of them (R202, log entry 87). -/
opaque Config.bootByte : Nat → BitVec 8

end Sys2Proof
end

