-- ==== Sys2Proof/Machine/Bits.lean ====
section
/-! DEFINITION. Bit fields, byte order, sign extension and the sparse-array operations: the helpers every register, table and
frame of the endpoint is read and written with. -/

namespace Sys2Proof.Machine

open Sys2Proof

/-- Bits [hi:lo] of a number (R4). -/
def bitsOf (w hi lo : Nat) : Nat := w / 2 ^ lo % 2 ^ (hi + 1 - lo)

/-- Bits [hi:lo] of a register word (R4). -/
def fld (w : Word) (hi lo : Nat) : Nat := bitsOf w.toNat hi lo

/-- Bit i of a register word (R4). -/
def bit (w : Word) (i : Nat) : Bool := w.toNat.testBit i

/-- Bit i of a number (R4). -/
def nbit (w i : Nat) : Bool := w.testBit i

/-- 1 for true, 0 for false. -/
def b2n (b : Bool) : Nat := if b then 1 else 0

/-- A register word of a number, modulo 2^64. -/
def wd (n : Nat) : Word := BitVec.ofNat 64 n

/-- `w` with bits [hi:lo] replaced by `v` (R4). -/
def setFld (w : Word) (hi lo v : Nat) : Word :=
  wd (w.toNat - fld w hi lo * 2 ^ lo + v % 2 ^ (hi + 1 - lo) * 2 ^ lo)

/-- `w` with bit i set or cleared. -/
def setBit (w : Word) (i : Nat) (b : Bool) : Word := setFld w i i (b2n b)

/-- The two's complement value of an n-bit field. -/
def sext (n v : Nat) : Int :=
  let u := v % 2 ^ n
  if u < 2 ^ (n - 1) then (u : Int) else (u : Int) - (2 ^ n : Nat)

/-- The n-bit two's complement field of an integer, modulo 2^n. -/
def toField (n : Nat) (i : Int) : Nat := (i % ((2 ^ n : Nat) : Int)).toNat

/-- An integer limited to [lo, hi]. -/
def clampInt (lo hi i : Int) : Int := if i < lo then lo else if hi < i then hi else i

/-- A signed 32-bit register field saturating at ±2,147,483,647. -/
def sat32 (i : Int) : Word := wd (toField 32 (clampInt (-2147483647) 2147483647 i))

/-- Ceiling division. -/
def cdiv (a b : Nat) : Nat := (a + b - 1) / b

/-- The n bytes of a number, least significant first (R5). -/
def leBytes : Nat → Nat → List Byte
  | 0, _ => []
  | n + 1, v => BitVec.ofNat 8 v :: leBytes n (v / 256)

/-- The number whose bytes, least significant first, are given (R5). -/
def ofLe : List Byte → Nat
  | [] => 0
  | b :: bs => b.toNat + 256 * ofLe bs

/-- The n bytes of a number, most significant first: the order on the wire (R5). -/
def beBytes (n v : Nat) : List Byte := (leBytes n v).reverse

/-- The number whose bytes, most significant first, are given (R5). -/
def ofBe (bs : List Byte) : Nat := ofLe bs.reverse

/-- The number in n bytes starting at offset o of a byte string, most significant first; a missing byte reads 0. -/
def beAt (bs : List Byte) (o n : Nat) : Nat :=
  let part := (bs.drop o).take n
  ofBe (part ++ List.replicate (n - part.length) 0)

/-- The number in n bytes starting at offset o of a byte string, least significant first; a missing byte reads 0. -/
def leAt (bs : List Byte) (o n : Nat) : Nat := ofLe ((bs.drop o).take n)

/-- The bits of a number from bit n - 1 down to bit 0. -/
def bitsDown : Nat → Nat → List Bool
  | 0, _ => []
  | n + 1, v => nbit v n :: bitsDown n v

/-- The number whose bits, most significant first, are given. -/
def ofBits (l : List Bool) : Nat := l.foldl (fun acc b => 2 * acc + b2n b) 0

/-! Sparse arrays: entries by rising index. -/

/-- The entry listed at an index. -/
def smFind {α : Type} : SMap α → Nat → Option α
  | [], _ => none
  | (i, v) :: m, k => if i = k then some v else smFind m k

/-- The content of a sparse array at an index, where an unlisted index holds `d`. -/
def smGet {α : Type} (m : SMap α) (k : Nat) (d : α) : α := (smFind m k).getD d

/-- List a value at an index. -/
def smSet {α : Type} : SMap α → Nat → α → SMap α
  | [], k, v => [(k, v)]
  | (i, w) :: m, k, v =>
    if k < i then (k, v) :: (i, w) :: m
    else if k = i then (k, v) :: m
    else (i, w) :: smSet m k v

/-- Unlist an index. -/
def smErase {α : Type} : SMap α → Nat → SMap α
  | [], _ => []
  | (i, w) :: m, k => if i = k then m else if k < i then (i, w) :: m else (i, w) :: smErase m k

/-- Change the content at an index. -/
def smMod {α : Type} (m : SMap α) (k : Nat) (d : α) (f : α → α) : SMap α := smSet m k (f (smGet m k d))

/-- The listed indexes. -/
def smKeys {α : Type} (m : SMap α) : List Nat := m.map Prod.fst

/-- The lowest of the first n numbers that passes a test. -/
def lowest (n : Nat) (p : Nat → Bool) : Option Nat := (List.range n).find? p

/-- The element of a list at an index, or a default. -/
def nth {α : Type} (l : List α) (i : Nat) (d : α) : α := (l[i]?).getD d

/-- A list with one element replaced. -/
def setNth {α : Type} (l : List α) (i : Nat) (v : α) : List α := l.set i v

/-- Insert by rising key. -/
def insertBy {α : Type} (key : α → Nat) (x : α) : List α → List α
  | [] => [x]
  | y :: ys => if key x < key y then x :: y :: ys else y :: insertBy key x ys

/-- Sort by rising key; equal keys keep their order. -/
def sortBy {α : Type} (key : α → Nat) (l : List α) : List α := l.reverse.foldl (fun acc x => insertBy' key x acc) []
where
  /-- Insert before the first element whose key is not smaller. -/
  insertBy' {α : Type} (key : α → Nat) (x : α) : List α → List α
    | [] => [x]
    | y :: ys => if key x ≤ key y then x :: y :: ys else y :: insertBy' key x ys

/-- Floor of the square root-free base-2 logarithm: the position of the highest set bit; 0 for 0. -/
def log2 (n : Nat) : Nat := Nat.log2 n

end Sys2Proof.Machine
end

