-- ==== Sys2Proof/Machine/RegMap.lean ====
section
/-! DEFINITION. The register map: the page offset of every register, and the table of registers with their access, width, writable
bits and feature, from the register tables of the spec's chapters (R73 to R76, R98, R99, R119, R120, R146, R160, R180, R181, R201, R214,
R234, R250, R251, R270, R288, R300, R301, R318 to R320, R335 to R337, R348, R349, R368). -/

namespace Sys2Proof.Machine

open Sys2Proof

/-! Page offsets. -/

/-- GLOBAL.INT_SUMMARY (R30). -/
def R.GLOBAL_INT_SUMMARY : Nat := 0x080
/-- GLOBAL.INT_PGRP_SUMMARY (R30). -/
def R.GLOBAL_INT_PGRP_SUMMARY : Nat := 0x088
/-- PGRP.PORT_INT_SUMMARY (R30). -/
def R.PGRP_PORT_INT_SUMMARY : Nat := 0x080

/-- TIME.NOW_NS (R73). -/
def R.TIME_NOW_NS : Nat := 0x080
/-- TIME.NOW_FRAC (R73). -/
def R.TIME_NOW_FRAC : Nat := 0x088
/-- TIME.NOW_CYCLE (R73). -/
def R.TIME_NOW_CYCLE : Nat := 0x090
/-- TIME.OFFSET (R73). -/
def R.TIME_OFFSET : Nat := 0x098
/-- TIME.EST_OFFSET (R73). -/
def R.TIME_EST_OFFSET : Nat := 0x09C
/-- TIME.FREQ_EST (R73). -/
def R.TIME_FREQ_EST : Nat := 0x0A0
/-- TIME.SLEW_NOW (R73). -/
def R.TIME_SLEW_NOW : Nat := 0x0A4
/-- TIME.SERVO_CFG (R73). -/
def R.TIME_SERVO_CFG : Nat := 0x0A8
/-- TIME.HOLDOVER_CFG (R73). -/
def R.TIME_HOLDOVER_CFG : Nat := 0x0AC
/-- TIME.DELAY_CFG (R73). -/
def R.TIME_DELAY_CFG : Nat := 0x0B0
/-- TIME.PARENT (R73). -/
def R.TIME_PARENT : Nat := 0x0B4
/-- TIME.TIMEBASE (R73). -/
def R.TIME_TIMEBASE : Nat := 0x0B8
/-- TIME.CIVIL_SEC (R73). -/
def R.TIME_CIVIL_SEC : Nat := 0x100
/-- TIME.CIVIL_NS (R73). -/
def R.TIME_CIVIL_NS : Nat := 0x108
/-- TIME.CIVIL_SET_SEC (R73). -/
def R.TIME_CIVIL_SET_SEC : Nat := 0x110
/-- TIME.CIVIL_SET_NS (R73). -/
def R.TIME_CIVIL_SET_NS : Nat := 0x118
/-- TIME.CIVIL_RATE (R73). -/
def R.TIME_CIVIL_RATE : Nat := 0x11C
/-- TIME.CIVIL_CTRL (R73). -/
def R.TIME_CIVIL_CTRL : Nat := 0x120
/-- TIME.PAIR_CYCLE (R73). -/
def R.TIME_PAIR_CYCLE : Nat := 0x140
/-- TIME.PAIR_FABRIC_NS (R73). -/
def R.TIME_PAIR_FABRIC_NS : Nat := 0x148
/-- TIME.PAIR_CIVIL_SEC (R73). -/
def R.TIME_PAIR_CIVIL_SEC : Nat := 0x150
/-- TIME.PAIR_CIVIL_NS (R73). -/
def R.TIME_PAIR_CIVIL_NS : Nat := 0x158
/-- TIME.PAIR_RING_BASE (R73). -/
def R.TIME_PAIR_RING_BASE : Nat := 0x160
/-- TIME.PAIR_RING_CFG (R73). -/
def R.TIME_PAIR_RING_CFG : Nat := 0x168
/-- TIME.PAIR_RING_WR (R73). -/
def R.TIME_PAIR_RING_WR : Nat := 0x16C
/-- TIME.SERVO_UPDATES (R73). -/
def R.TIME_SERVO_UPDATES : Nat := 0x800
/-- TIME.SLEW_CLAMPED (R73). -/
def R.TIME_SLEW_CLAMPED : Nat := 0x808
/-- TIME.FREQ_STEP_CLAMPED (R73). -/
def R.TIME_FREQ_STEP_CLAMPED : Nat := 0x810
/-- TIME.PARENT_CHANGES (R73). -/
def R.TIME_PARENT_CHANGES : Nat := 0x818
/-- TIME.PARENT_MISSED (R73). -/
def R.TIME_PARENT_MISSED : Nat := 0x820
/-- TIME.HOLDOVER_CYCLES (R73). -/
def R.TIME_HOLDOVER_CYCLES : Nat := 0x828
/-- TIME.PAIRS_WRITTEN (R73). -/
def R.TIME_PAIRS_WRITTEN : Nat := 0x830
/-- TIME.PAIRS_SKIPPED (R73). -/
def R.TIME_PAIRS_SKIPPED : Nat := 0x838
/-- PORT.TIME_CFG (R74). -/
def R.PORT_TIME_CFG : Nat := 0x100
/-- PORT.DELAY_ASYM (R74). -/
def R.PORT_DELAY_ASYM : Nat := 0x104
/-- PORT.LINK_DELAY (R74). -/
def R.PORT_LINK_DELAY : Nat := 0x108
/-- PORT.CLAP_OFFSET (R74). -/
def R.PORT_CLAP_OFFSET : Nat := 0x10C
/-- PORT.CLAP_SEEN (R74). -/
def R.PORT_CLAP_SEEN : Nat := 0x110
/-- PORT.CLAP_TX (R74). -/
def R.PORT_CLAP_TX : Nat := 0x900
/-- PORT.CLAP_RX_VALID (R74). -/
def R.PORT_CLAP_RX_VALID : Nat := 0x908
/-- PORT.CLAP_RX_INVALID (R74). -/
def R.PORT_CLAP_RX_INVALID : Nat := 0x910
/-- PORT.DELAY_REQ_TX (R74). -/
def R.PORT_DELAY_REQ_TX : Nat := 0x918
/-- PORT.DELAY_RESP_TX (R74). -/
def R.PORT_DELAY_RESP_TX : Nat := 0x920
/-- PORT.DELAY_ACCEPTED (R74). -/
def R.PORT_DELAY_ACCEPTED : Nat := 0x928
/-- PORT.DELAY_REJECTED (R74). -/
def R.PORT_DELAY_REJECTED : Nat := 0x930
/-- PORT.DELAY_TIMEOUT (R74). -/
def R.PORT_DELAY_TIMEOUT : Nat := 0x938
/-- MGMT.PPS_IN_CTRL (R75). -/
def R.MGMT_PPS_IN_CTRL : Nat := 0x700
/-- MGMT.PPS_IN_NS (R75). -/
def R.MGMT_PPS_IN_NS : Nat := 0x708
/-- MGMT.PPS_IN_SEQ (R75). -/
def R.MGMT_PPS_IN_SEQ : Nat := 0x710
/-- MGMT.PPS_OUT_CTRL (R75). -/
def R.MGMT_PPS_OUT_CTRL : Nat := 0x718
/-- MGMT.PPS_OUT_PERIOD (R75). -/
def R.MGMT_PPS_OUT_PERIOD : Nat := 0x720
/-- TIME.DIAG_TS_CTRL (R76). -/
def R.TIME_DIAG_TS_CTRL : Nat := 0x180
/-- TIME.DIAG_TS_POP (R76). -/
def R.TIME_DIAG_TS_POP : Nat := 0x188
/-- TIME.DIAG_TS_LEVEL (R76). -/
def R.TIME_DIAG_TS_LEVEL : Nat := 0x190
/-- TIME.DIAG_TS_LOST (R76). -/
def R.TIME_DIAG_TS_LOST : Nat := 0x840
/-- CYCLE.NODE_CFG (R98). -/
def R.CYCLE_NODE_CFG : Nat := 0x300
/-- CYCLE.NODE_CTRL (R98). -/
def R.CYCLE_NODE_CTRL : Nat := 0x304
/-- CYCLE.NODE_STATE (R98). -/
def R.CYCLE_NODE_STATE : Nat := 0x308
/-- CYCLE.OFFSET_CFG (R98). -/
def R.CYCLE_OFFSET_CFG : Nat := 0x30C
/-- CYCLE.LISTEN_LEFT (R98). -/
def R.CYCLE_LISTEN_LEFT : Nat := 0x310
/-- CYCLE.JOIN_INFO (R98). -/
def R.CYCLE_JOIN_INFO : Nat := 0x318
/-- CYCLE.STEP_NS (R98). -/
def R.CYCLE_STEP_NS : Nat := 0x320
/-- CYCLE.CLAIM_CFG (R98). -/
def R.CYCLE_CLAIM_CFG : Nat := 0x328
/-- CYCLE.CLAIM_OWNERS0 (R98). -/
def R.CYCLE_CLAIM_OWNERS0 : Nat := 0x330
/-- CYCLE.CLAIM_OWNERS1 (R98). -/
def R.CYCLE_CLAIM_OWNERS1 : Nat := 0x334
/-- CYCLE.CLAIM_OWNERS2 (R98). -/
def R.CYCLE_CLAIM_OWNERS2 : Nat := 0x338
/-- CYCLE.CLAIM_OWNERS3 (R98). -/
def R.CYCLE_CLAIM_OWNERS3 : Nat := 0x33C
/-- CYCLE.CANDIDATE_ENTRIES (R98). -/
def R.CYCLE_CANDIDATE_ENTRIES : Nat := 0x880
/-- CYCLE.LISTEN_EXPIRED (R98). -/
def R.CYCLE_LISTEN_EXPIRED : Nat := 0x888
/-- CYCLE.YIELDS (R98). -/
def R.CYCLE_YIELDS : Nat := 0x890
/-- CYCLE.JOINS (R98). -/
def R.CYCLE_JOINS : Nat := 0x898
/-- CYCLE.JOIN_ABORTS (R98). -/
def R.CYCLE_JOIN_ABORTS : Nat := 0x8A0
/-- CYCLE.JOIN_MISMATCH (R98). -/
def R.CYCLE_JOIN_MISMATCH : Nat := 0x8A8
/-- CYCLE.HOLDOFF_ENTRIES (R98). -/
def R.CYCLE_HOLDOFF_ENTRIES : Nat := 0x8B0
/-- CYCLE.HOLDOFF_CYCLES (R98). -/
def R.CYCLE_HOLDOFF_CYCLES : Nat := 0x8B8
/-- CYCLE.LEAVES (R98). -/
def R.CYCLE_LEAVES : Nat := 0x8C0
/-- CYCLE.TB_WORSE_SEEN (R98). -/
def R.CYCLE_TB_WORSE_SEEN : Nat := 0x8C8
/-- PORT.CLAIM_TABLE (R99). -/
def R.PORT_CLAIM_TABLE : Nat := 0x400
/-- PORT.CLAIM_TX (R99). -/
def R.PORT_CLAIM_TX : Nat := 0x980
/-- PORT.CLAIM_RX (R99). -/
def R.PORT_CLAIM_RX : Nat := 0x988
/-- PORT.CLAIM_ACK_TX (R99). -/
def R.PORT_CLAIM_ACK_TX : Nat := 0x990
/-- PORT.CLAIM_REFUSED_TX (R99). -/
def R.PORT_CLAIM_REFUSED_TX : Nat := 0x998
/-- PORT.CLAIM_RELEASED (R99). -/
def R.PORT_CLAIM_RELEASED : Nat := 0x9A0
/-- PORT.CLAIM_DROPPED (R99). -/
def R.PORT_CLAIM_DROPPED : Nat := 0x9A8
/-- PORT.TX_HELD_DISCARD (R99). -/
def R.PORT_TX_HELD_DISCARD : Nat := 0x9B0
/-- PORT.SPARE_UNCLAIMED (R99). -/
def R.PORT_SPARE_UNCLAIMED : Nat := 0x9B8
/-- PORT.TX_NODE_DISCARD (R99). -/
def R.PORT_TX_NODE_DISCARD : Nat := 0xA50
/-- CYCLE.CYCLE_TICKS (R119). -/
def R.CYCLE_CYCLE_TICKS : Nat := 0x080
/-- CYCLE.SLATE_TAG (R119). -/
def R.CYCLE_SLATE_TAG : Nat := 0x084
/-- CYCLE.ACTIVE_SLATE (R119). -/
def R.CYCLE_ACTIVE_SLATE : Nat := 0x088
/-- CYCLE.CUT_CYCLE (R119). -/
def R.CYCLE_CUT_CYCLE : Nat := 0x090
/-- CYCLE.CUT_STATUS (R119). -/
def R.CYCLE_CUT_STATUS : Nat := 0x098
/-- CYCLE.SLATE_CTRL (R119). -/
def R.CYCLE_SLATE_CTRL : Nat := 0x09C
/-- CYCLE.CUT_FAIL_OFFSET (R119). -/
def R.CYCLE_CUT_FAIL_OFFSET : Nat := 0x0A0
/-- CYCLE.CUT_APPLIED_CYCLE (R119). -/
def R.CYCLE_CUT_APPLIED_CYCLE : Nat := 0x0A8
/-- CYCLE.CUT_REFUSED_CYCLE (R119). -/
def R.CYCLE_CUT_REFUSED_CYCLE : Nat := 0x0B0
/-- CYCLE.CUTS_APPLIED (R119). -/
def R.CYCLE_CUTS_APPLIED : Nat := 0x800
/-- CYCLE.CUTS_REFUSED (R119). -/
def R.CYCLE_CUTS_REFUSED : Nat := 0x808
/-- CYCLE.CHECKS_RUN (R119). -/
def R.CYCLE_CHECKS_RUN : Nat := 0x810
/-- CYCLE.CHECKS_FAILED (R119). -/
def R.CYCLE_CHECKS_FAILED : Nat := 0x818
/-- CYCLE.TICKS_DIVERGED (R119). -/
def R.CYCLE_TICKS_DIVERGED : Nat := 0x820
/-- PORT.GATE_NOW (R120). -/
def R.PORT_GATE_NOW : Nat := 0x180
/-- PORT.RX_EARLY (R120). -/
def R.PORT_RX_EARLY : Nat := 0xA00
/-- PORT.RX_LATE (R120). -/
def R.PORT_RX_LATE : Nat := 0xA08
/-- PORT.RX_NO_SLOT (R120). -/
def R.PORT_RX_NO_SLOT : Nat := 0xA10
/-- PORT.TX_LATE_HEAD (R120). -/
def R.PORT_TX_LATE_HEAD : Nat := 0xA18
/-- PORT.TX_DEFERRED (R120). -/
def R.PORT_TX_DEFERRED : Nat := 0xA20
/-- PORT.TX_NO_FIT (R120). -/
def R.PORT_TX_NO_FIT : Nat := 0xA28
/-- PORT.RX_NO_CYCLE (R120). -/
def R.PORT_RX_NO_CYCLE : Nat := 0xA58
/-- PORT.LINK_CFG (R146). -/
def R.PORT_LINK_CFG : Nat := 0x200
/-- PORT.LINK_CTRL (R146). -/
def R.PORT_LINK_CTRL : Nat := 0x204
/-- PORT.LINK_STATUS (R146). -/
def R.PORT_LINK_STATUS : Nat := 0x208
/-- PORT.LINK_FEAT_MASK (R146). -/
def R.PORT_LINK_FEAT_MASK : Nat := 0x210
/-- PORT.LINK_FEAT_OFFER (R146). -/
def R.PORT_LINK_FEAT_OFFER : Nat := 0x218
/-- PORT.LINK_FEAT_PARTNER (R146). -/
def R.PORT_LINK_FEAT_PARTNER : Nat := 0x220
/-- PORT.LINK_FEAT_USED (R146). -/
def R.PORT_LINK_FEAT_USED : Nat := 0x228
/-- PORT.PARTNER_ID (R146). -/
def R.PORT_PARTNER_ID : Nat := 0x230
/-- PORT.TRAIN_CFG (R146). -/
def R.PORT_TRAIN_CFG : Nat := 0x234
/-- PORT.HELLO_CFG (R146). -/
def R.PORT_HELLO_CFG : Nat := 0x238
/-- PORT.PAUSE_CFG (R146). -/
def R.PORT_PAUSE_CFG : Nat := 0x240
/-- PORT.PAUSE_STATUS (R146). -/
def R.PORT_PAUSE_STATUS : Nat := 0x244
/-- PORT.ROOSTER_CFG (R146). -/
def R.PORT_ROOSTER_CFG : Nat := 0x248
/-- PORT.WAKE_TARGET (R146). -/
def R.PORT_WAKE_TARGET : Nat := 0x24C
/-- PORT.MAC_SA (R146). -/
def R.PORT_MAC_SA : Nat := 0x250
/-- PORT.MAC_DA (R146). -/
def R.PORT_MAC_DA : Nat := 0x258
/-- PORT.ETHERTYPE_IN_USE (R146). -/
def R.PORT_ETHERTYPE_IN_USE : Nat := 0x260
/-- PORT.FEC_CW (R146). -/
def R.PORT_FEC_CW : Nat := 0xA80
/-- PORT.FEC_CW_CORRECTED (R146). -/
def R.PORT_FEC_CW_CORRECTED : Nat := 0xA88
/-- PORT.FEC_CW_UNCORR (R146). -/
def R.PORT_FEC_CW_UNCORR : Nat := 0xA90
/-- PORT.FEC_SYM_CORRECTED (R146). -/
def R.PORT_FEC_SYM_CORRECTED : Nat := 0xA98
/-- PORT.FEC_PAD_ERR (R146). -/
def R.PORT_FEC_PAD_ERR : Nat := 0xAA0
/-- PORT.RX_FEC_DISCARD (R146). -/
def R.PORT_RX_FEC_DISCARD : Nat := 0xAA8
/-- PORT.RX_FCS_ERR (R146). -/
def R.PORT_RX_FCS_ERR : Nat := 0xAB0
/-- PORT.RX_UNDERSIZE (R146). -/
def R.PORT_RX_UNDERSIZE : Nat := 0xAB8
/-- PORT.RX_OVERSIZE (R146). -/
def R.PORT_RX_OVERSIZE : Nat := 0xAC0
/-- PORT.RX_MAC_CTRL_OTHER (R146). -/
def R.PORT_RX_MAC_CTRL_OTHER : Nat := 0xAC8
/-- PORT.RX_PAUSE_IGNORED (R146). -/
def R.PORT_RX_PAUSE_IGNORED : Nat := 0xAD0
/-- PORT.RX_PAUSE_OBEYED (R146). -/
def R.PORT_RX_PAUSE_OBEYED : Nat := 0xAD8
/-- PORT.PAUSE_WINDOW_LOST (R146). -/
def R.PORT_PAUSE_WINDOW_LOST : Nat := 0xAE0
/-- PORT.RX_NOT_AGREED (R146). -/
def R.PORT_RX_NOT_AGREED : Nat := 0xAE8
/-- PORT.TX_LINK_DOWN (R146). -/
def R.PORT_TX_LINK_DOWN : Nat := 0xAF0
/-- PORT.LINK_DOWNS (R146). -/
def R.PORT_LINK_DOWNS : Nat := 0xAF8
/-- PORT.TRAIN_FAILS (R146). -/
def R.PORT_TRAIN_FAILS : Nat := 0xB00
/-- PORT.HELLO_TIMEOUTS (R146). -/
def R.PORT_HELLO_TIMEOUTS : Nat := 0xB08
/-- PORT.LL_SWITCH_FAILS (R146). -/
def R.PORT_LL_SWITCH_FAILS : Nat := 0xB10
/-- PORT.WAKES (R146). -/
def R.PORT_WAKES : Nat := 0xB18
/-- PORT.WAKE_LATE (R146). -/
def R.PORT_WAKE_LATE : Nat := 0xB20
/-- PORT.ROOSTER_REJECTED (R146). -/
def R.PORT_ROOSTER_REJECTED : Nat := 0xB28
/-- PORT.RX_NOT_UP (R146). -/
def R.PORT_RX_NOT_UP : Nat := 0xB30
/-- PORT.PREEMPT_CFG (R160). -/
def R.PORT_PREEMPT_CFG : Nat := 0x280
/-- PORT.PREEMPT_STATUS (R160). -/
def R.PORT_PREEMPT_STATUS : Nat := 0x284
/-- PORT.TX_PMAC_FRAMES (R160). -/
def R.PORT_TX_PMAC_FRAMES : Nat := 0xB80
/-- PORT.TX_FRAGMENTS (R160). -/
def R.PORT_TX_FRAGMENTS : Nat := 0xB88
/-- PORT.TX_PREEMPT_EXPRESS (R160). -/
def R.PORT_TX_PREEMPT_EXPRESS : Nat := 0xB90
/-- PORT.TX_PREEMPT_CLOSE (R160). -/
def R.PORT_TX_PREEMPT_CLOSE : Nat := 0xB98
/-- PORT.TX_PREEMPT_PAUSE (R160). -/
def R.PORT_TX_PREEMPT_PAUSE : Nat := 0xBA0
/-- PORT.TX_REMAINDER_ABANDONED (R160). -/
def R.PORT_TX_REMAINDER_ABANDONED : Nat := 0xBA8
/-- PORT.VERIFY_TX (R160). -/
def R.PORT_VERIFY_TX : Nat := 0xBB0
/-- PORT.RESPOND_TX (R160). -/
def R.PORT_RESPOND_TX : Nat := 0xBB8
/-- PORT.RX_PMAC_FRAMES (R160). -/
def R.PORT_RX_PMAC_FRAMES : Nat := 0xBC0
/-- PORT.RX_FRAGMENTS (R160). -/
def R.PORT_RX_FRAGMENTS : Nat := 0xBC8
/-- PORT.RX_REASM_SEQ_ERR (R160). -/
def R.PORT_RX_REASM_SEQ_ERR : Nat := 0xBD0
/-- PORT.RX_REASM_CRC_ERR (R160). -/
def R.PORT_RX_REASM_CRC_ERR : Nat := 0xBD8
/-- PORT.RX_REASM_SHORT (R160). -/
def R.PORT_RX_REASM_SHORT : Nat := 0xBE0
/-- PORT.RX_REASM_ORPHAN (R160). -/
def R.PORT_RX_REASM_ORPHAN : Nat := 0xBE8
/-- PORT.RX_REASM_ABORTED (R160). -/
def R.PORT_RX_REASM_ABORTED : Nat := 0xBF0
/-- PORT.VERIFY_FAILS (R160). -/
def R.PORT_VERIFY_FAILS : Nat := 0xBF8
/-- STREAM.RCVY_SEL (R180). -/
def R.STREAM_RCVY_SEL : Nat := 0x080
/-- STREAM.RCVY_STATE (R180). -/
def R.STREAM_RCVY_STATE : Nat := 0x088
/-- STREAM.RCVY_HIST_LO (R180). -/
def R.STREAM_RCVY_HIST_LO : Nat := 0x090
/-- STREAM.RCVY_HIST_HI (R180). -/
def R.STREAM_RCVY_HIST_HI : Nat := 0x098
/-- STREAM.RCVY_MEMBER_SEQ (R180). -/
def R.STREAM_RCVY_MEMBER_SEQ : Nat := 0x0A0
/-- STREAM.RCVY_CTRL (R180). -/
def R.STREAM_RCVY_CTRL : Nat := 0x0A8
/-- STREAM.GEN_SEL (R180). -/
def R.STREAM_GEN_SEL : Nat := 0x0B0
/-- STREAM.GEN_STATE (R180). -/
def R.STREAM_GEN_STATE : Nat := 0x0B8
/-- STREAM.GEN_CTRL (R180). -/
def R.STREAM_GEN_CTRL : Nat := 0x0BC
/-- STREAM.V_PASSED (R180). -/
def R.STREAM_V_PASSED : Nat := 0x100
/-- STREAM.V_DISCARDED (R180). -/
def R.STREAM_V_DISCARDED : Nat := 0x108
/-- STREAM.V_OUT_OF_ORDER (R180). -/
def R.STREAM_V_OUT_OF_ORDER : Nat := 0x110
/-- STREAM.V_ROGUE (R180). -/
def R.STREAM_V_ROGUE : Nat := 0x118
/-- STREAM.V_LOST (R180). -/
def R.STREAM_V_LOST : Nat := 0x120
/-- STREAM.V_RESETS (R180). -/
def R.STREAM_V_RESETS : Nat := 0x128
/-- STREAM.V_NOT_MEMBER (R180). -/
def R.STREAM_V_NOT_MEMBER : Nat := 0x130
/-- STREAM.V_STALE (R180). -/
def R.STREAM_V_STALE : Nat := 0x138
/-- STREAM.V_LATENT_ERRORS (R180). -/
def R.STREAM_V_LATENT_ERRORS : Nat := 0x140
/-- STREAM.V_MEMBER_RX (R180). -/
def R.STREAM_V_MEMBER_RX : Nat := 0x148
/-- STREAM.V_INDIV_DISCARD (R180). -/
def R.STREAM_V_INDIV_DISCARD : Nat := 0x168
/-- STREAM.NULL_ID0 (R180). -/
def R.STREAM_NULL_ID0 : Nat := 0x400
/-- STREAM.NULL_ID1 (R180). -/
def R.STREAM_NULL_ID1 : Nat := 0x408
/-- STREAM.RX_IDENTIFIED (R180). -/
def R.STREAM_RX_IDENTIFIED : Nat := 0x800
/-- STREAM.RX_UNTRACKED (R180). -/
def R.STREAM_RX_UNTRACKED : Nat := 0x808
/-- STREAM.RCVY_PASSED (R180). -/
def R.STREAM_RCVY_PASSED : Nat := 0x810
/-- STREAM.RCVY_DISCARDED (R180). -/
def R.STREAM_RCVY_DISCARDED : Nat := 0x818
/-- STREAM.RCVY_OUT_OF_ORDER (R180). -/
def R.STREAM_RCVY_OUT_OF_ORDER : Nat := 0x820
/-- STREAM.RCVY_ROGUE (R180). -/
def R.STREAM_RCVY_ROGUE : Nat := 0x828
/-- STREAM.RCVY_LOST (R180). -/
def R.STREAM_RCVY_LOST : Nat := 0x830
/-- STREAM.RCVY_RESETS (R180). -/
def R.STREAM_RCVY_RESETS : Nat := 0x838
/-- STREAM.RCVY_NOT_MEMBER (R180). -/
def R.STREAM_RCVY_NOT_MEMBER : Nat := 0x840
/-- STREAM.RCVY_STALE (R180). -/
def R.STREAM_RCVY_STALE : Nat := 0x848
/-- STREAM.INDIV_DISCARDED (R180). -/
def R.STREAM_INDIV_DISCARDED : Nat := 0x850
/-- STREAM.LATENT_ERRORS (R180). -/
def R.STREAM_LATENT_ERRORS : Nat := 0x858
/-- STREAM.GEN_FRAMES (R180). -/
def R.STREAM_GEN_FRAMES : Nat := 0x860
/-- STREAM.REPLICAS_BUILT (R180). -/
def R.STREAM_REPLICAS_BUILT : Nat := 0x868
/-- STREAM.GEN_NO_ENTRY (R180). -/
def R.STREAM_GEN_NO_ENTRY : Nat := 0x870
/-- STREAM.RCVY_KEPT_AT_CUT (R180). -/
def R.STREAM_RCVY_KEPT_AT_CUT : Nat := 0x878
/-- STREAM.RCVY_RESET_AT_CUT (R180). -/
def R.STREAM_RCVY_RESET_AT_CUT : Nat := 0x880
/-- PORT.RX_NO_ROUTE (R181). -/
def R.PORT_RX_NO_ROUTE : Nat := 0xA30
/-- PORT.RELAY_RX (R181). -/
def R.PORT_RELAY_RX : Nat := 0xA38
/-- PORT.RELAY_HAIRPIN (R181). -/
def R.PORT_RELAY_HAIRPIN : Nat := 0xA40
/-- PORT.REPLICA_TX (R181). -/
def R.PORT_REPLICA_TX : Nat := 0xA48
/-- PORT.TX_STOMPED (R181). -/
def R.PORT_TX_STOMPED : Nat := 0xA60
/-- GLOBAL.ETHERTYPE (R201). -/
def R.GLOBAL_ETHERTYPE : Nat := 0x100
/-- EVT.LINE_OWNER (R201). -/
def R.EVT_LINE_OWNER : Nat := 0x100
/-- EVT.PIN_OWNER (R201). -/
def R.EVT_PIN_OWNER : Nat := 0x200
/-- EVT.PIN_CFG (R201). -/
def R.EVT_PIN_CFG : Nat := 0x280
/-- EVT.PIN_STAMP (R201). -/
def R.EVT_PIN_STAMP : Nat := 0x300
/-- EVT.EVENT_RX_LINES (R201). -/
def R.EVT_EVENT_RX_LINES : Nat := 0x400
/-- EVT.EVENT_GEN0 (R201). -/
def R.EVT_EVENT_GEN0 : Nat := 0x440
/-- EVT.EVENT_GEN1 (R201). -/
def R.EVT_EVENT_GEN1 : Nat := 0x448
/-- EVT.EVENT_GEN_FRAMES (R201). -/
def R.EVT_EVENT_GEN_FRAMES : Nat := 0x900
/-- EVT.EVENT_GEN_MERGED (R201). -/
def R.EVT_EVENT_GEN_MERGED : Nat := 0x908
/-- EVT.EVENT_GEN_NO_ENTRY (R201). -/
def R.EVT_EVENT_GEN_NO_ENTRY : Nat := 0x910
/-- EVT.EVENT_RX (R201). -/
def R.EVT_EVENT_RX : Nat := 0x918
/-- EVT.EVENT_RX_LATE (R201). -/
def R.EVT_EVENT_RX_LATE : Nat := 0x920
/-- EVT.EVENT_RX_REFUSED (R201). -/
def R.EVT_EVENT_RX_REFUSED : Nat := 0x928
/-- EVT.EVENT_RX_OVERFLOW (R201). -/
def R.EVT_EVENT_RX_OVERFLOW : Nat := 0x930
/-- EVT.PIN_EDGES (R201). -/
def R.EVT_PIN_EDGES : Nat := 0x938
/-- EVT.PIN_PULSES (R201). -/
def R.EVT_PIN_PULSES : Nat := 0x940
/-- PORT.RX_ITPITOS (R201). -/
def R.PORT_RX_ITPITOS : Nat := 0x9C0
/-- PORT.RX_HDR_VERSION (R201). -/
def R.PORT_RX_HDR_VERSION : Nat := 0x9C8
/-- PORT.RX_HDR_TYPE (R201). -/
def R.PORT_RX_HDR_TYPE : Nat := 0x9D0
/-- PORT.RX_HDR_MALFORMED (R201). -/
def R.PORT_RX_HDR_MALFORMED : Nat := 0x9D8
/-- PORT.RX_HDR_FEATURE (R201). -/
def R.PORT_RX_HDR_FEATURE : Nat := 0x9E0
/-- PORT.RX_OWN_SOURCE (R201). -/
def R.PORT_RX_OWN_SOURCE : Nat := 0x9E8
/-- PORT.TX_NOT_AGREED (R201). -/
def R.PORT_TX_NOT_AGREED : Nat := 0x9F0
/-- PORT.CLAIM_ANSWER_STRAY (R201). -/
def R.PORT_CLAIM_ANSWER_STRAY : Nat := 0x9F8
/-- LZ.ZONE_SEL (R214). -/
def R.LZ_ZONE_SEL : Nat := 0x080
/-- LZ.ZONE_VIEW (R214). -/
def R.LZ_ZONE_VIEW : Nat := 0x088
/-- LZ.EDIT_WORD0 (R214). -/
def R.LZ_EDIT_WORD0 : Nat := 0x090
/-- LZ.EDIT_WORD1 (R214). -/
def R.LZ_EDIT_WORD1 : Nat := 0x098
/-- LZ.EDIT_CTRL (R214). -/
def R.LZ_EDIT_CTRL : Nat := 0x0A0
/-- LZ.REJECT_CTRL (R214). -/
def R.LZ_REJECT_CTRL : Nat := 0x0A4
/-- LZ.LZ_MISS (R214). -/
def R.LZ_LZ_MISS : Nat := 0x800
/-- LZ.LZ_BOUNDS (R214). -/
def R.LZ_LZ_BOUNDS : Nat := 0x808
/-- LZ.LZ_SOURCE (R214). -/
def R.LZ_LZ_SOURCE : Nat := 0x810
/-- LZ.LZ_KEY (R214). -/
def R.LZ_LZ_KEY : Nat := 0x818
/-- LZ.LZ_PERM (R214). -/
def R.LZ_LZ_PERM : Nat := 0x820
/-- LZ.REJECT_UNREPORTED (R214). -/
def R.LZ_REJECT_UNREPORTED : Nat := 0x828
/-- LZ.LANDED_FRAMES (R214). -/
def R.LZ_LANDED_FRAMES : Nat := 0x830
/-- MEM.SCRUB_CFG (R214). -/
def R.MEM_SCRUB_CFG : Nat := 0x080
/-- MEM.LAND_POISONED (R214). -/
def R.MEM_LAND_POISONED : Nat := 0x800
/-- MEM.SCRUB_LINES (R214). -/
def R.MEM_SCRUB_LINES : Nat := 0x808
/-- MCH.ECC_CORRECTED (R214). -/
def R.MCH_ECC_CORRECTED : Nat := 0x800
/-- MCH.ECC_UNCORR (R214). -/
def R.MCH_ECC_UNCORR : Nat := 0x808
/-- XFER.INFLIGHT (R234). -/
def R.XFER_INFLIGHT : Nat := 0x080
/-- XFER.LAST_STOP (R234). -/
def R.XFER_LAST_STOP : Nat := 0x084
/-- XFER.DOORBELLS (R234). -/
def R.XFER_DOORBELLS : Nat := 0x800
/-- XFER.DB_STALE (R234). -/
def R.XFER_DB_STALE : Nat := 0x808
/-- XFER.INLINE_PUSHES (R234). -/
def R.XFER_INLINE_PUSHES : Nat := 0x810
/-- XFER.INLINE_DISCARDED (R234). -/
def R.XFER_INLINE_DISCARDED : Nat := 0x818
/-- XFER.INLINE_ABORTED (R234). -/
def R.XFER_INLINE_ABORTED : Nat := 0x820
/-- XFER.POLLS (R234). -/
def R.XFER_POLLS : Nat := 0x828
/-- XFER.POLL_HITS (R234). -/
def R.XFER_POLL_HITS : Nat := 0x830
/-- XFER.ENTRIES_FETCHED (R234). -/
def R.XFER_ENTRIES_FETCHED : Nat := 0x838
/-- XFER.ENTRY_BAD_KIND (R234). -/
def R.XFER_ENTRY_BAD_KIND : Nat := 0x840
/-- XFER.ENTRY_BAD_FIELD (R234). -/
def R.XFER_ENTRY_BAD_FIELD : Nat := 0x848
/-- XFER.ENTRY_FEATURE (R234). -/
def R.XFER_ENTRY_FEATURE : Nat := 0x850
/-- XFER.SQ_STOPS (R234). -/
def R.XFER_SQ_STOPS : Nat := 0x858
/-- XFER.EVENT_TIMEOUTS (R234). -/
def R.XFER_EVENT_TIMEOUTS : Nat := 0x860
/-- XFER.EXPECT_TIMEOUTS (R234). -/
def R.XFER_EXPECT_TIMEOUTS : Nat := 0x868
/-- XFER.POST_DEPOSITED (R234). -/
def R.XFER_POST_DEPOSITED : Nat := 0x870
/-- XFER.POST_NOT_REMOTE (R234). -/
def R.XFER_POST_NOT_REMOTE : Nat := 0x878
/-- XFER.POST_SOURCE (R234). -/
def R.XFER_POST_SOURCE : Nat := 0x880
/-- XFER.POST_KEY (R234). -/
def R.XFER_POST_KEY : Nat := 0x888
/-- XFER.POST_UNITS (R234). -/
def R.XFER_POST_UNITS : Nat := 0x890
/-- XFER.POST_NO_ROOM (R234). -/
def R.XFER_POST_NO_ROOM : Nat := 0x898
/-- XFER.HOLD_LEVEL (R251). -/
def R.XFER_HOLD_LEVEL : Nat := 0x088
/-- XFER.COMPLETIONS (R251). -/
def R.XFER_COMPLETIONS : Nat := 0x8A0
/-- XFER.COMPLETIONS_HELD (R251). -/
def R.XFER_COMPLETIONS_HELD : Nat := 0x8A8
/-- XFER.CQ_FULL_EPISODES (R251). -/
def R.XFER_CQ_FULL_EPISODES : Nat := 0x8B0
/-- XFER.CQ_HEAD_INVALID (R251). -/
def R.XFER_CQ_HEAD_INVALID : Nat := 0x8B8
/-- XFER.TS_LOST_JOBS (R251). -/
def R.XFER_TS_LOST_JOBS : Nat := 0x8C0
/-- PGRP.TSQ_CTRL (R251). -/
def R.PGRP_TSQ_CTRL : Nat := 0x100
/-- PGRP.TSQ_OWNER (R251). -/
def R.PGRP_TSQ_OWNER : Nat := 0x104
/-- PGRP.TSQ_LEVEL (R251). -/
def R.PGRP_TSQ_LEVEL : Nat := 0x108
/-- PGRP.TS_CAPTURED (R251). -/
def R.PGRP_TS_CAPTURED : Nat := 0x800
/-- PGRP.TS_LOST_FULL (R251). -/
def R.PGRP_TS_LOST_FULL : Nat := 0x808
/-- PGRP.TS_LOST_NOT_OWNED (R251). -/
def R.PGRP_TS_LOST_NOT_OWNED : Nat := 0x810
/-- CODEC.SCRATCH_OWNER (R270). -/
def R.CODEC_SCRATCH_OWNER : Nat := 0x080
/-- CODEC.TEST_CFG (R270). -/
def R.CODEC_TEST_CFG : Nat := 0x0C0
/-- CODEC.TEST_CTRL (R270). -/
def R.CODEC_TEST_CTRL : Nat := 0x0C4
/-- CODEC.TEST_SRC (R270). -/
def R.CODEC_TEST_SRC : Nat := 0x0C8
/-- CODEC.TEST_ENC (R270). -/
def R.CODEC_TEST_ENC : Nat := 0x0D0
/-- CODEC.TEST_DST (R270). -/
def R.CODEC_TEST_DST : Nat := 0x0D8
/-- CODEC.TEST_STATUS (R270). -/
def R.CODEC_TEST_STATUS : Nat := 0x0E0
/-- CODEC.ENC_FRAMES (R270). -/
def R.CODEC_ENC_FRAMES : Nat := 0x800
/-- CODEC.ENC_BLOCKS_L (R270). -/
def R.CODEC_ENC_BLOCKS_L : Nat := 0x808
/-- CODEC.ENC_BLOCKS_Q (R270). -/
def R.CODEC_ENC_BLOCKS_Q : Nat := 0x810
/-- CODEC.ENC_ESCAPED (R270). -/
def R.CODEC_ENC_ESCAPED : Nat := 0x818
/-- CODEC.ENC_CLAMPED (R270). -/
def R.CODEC_ENC_CLAMPED : Nat := 0x820
/-- CODEC.DEC_FRAMES (R270). -/
def R.CODEC_DEC_FRAMES : Nat := 0x828
/-- CODEC.DEC_BAD_OP (R270). -/
def R.CODEC_DEC_BAD_OP : Nat := 0x830
/-- CODEC.DEC_BAD_LENGTH (R270). -/
def R.CODEC_DEC_BAD_LENGTH : Nat := 0x838
/-- CODEC.DEC_BAD_HEADER (R270). -/
def R.CODEC_DEC_BAD_HEADER : Nat := 0x840
/-- CODEC.DEC_BAD_CODE (R270). -/
def R.CODEC_DEC_BAD_CODE : Nat := 0x848
/-- CODEC.ACC_FRAMES (R270). -/
def R.CODEC_ACC_FRAMES : Nat := 0x850
/-- CODEC.ACC_ELEMENTS (R270). -/
def R.CODEC_ACC_ELEMENTS : Nat := 0x858
/-- CODEC.ACC_NAN (R270). -/
def R.CODEC_ACC_NAN : Nat := 0x860
/-- CODEC.ACC_OVERFLOW (R270). -/
def R.CODEC_ACC_OVERFLOW : Nat := 0x868
/-- CODEC.TEST_RUNS (R270). -/
def R.CODEC_TEST_RUNS : Nat := 0x870
/-- MOVER.CH_SEL (R288). -/
def R.MOVER_CH_SEL : Nat := 0x080
/-- MOVER.CH_RING_BASE (R288). -/
def R.MOVER_CH_RING_BASE : Nat := 0x100
/-- MOVER.CH_RING_CFG (R288). -/
def R.MOVER_CH_RING_CFG : Nat := 0x108
/-- MOVER.CH_CTRL (R288). -/
def R.MOVER_CH_CTRL : Nat := 0x10C
/-- MOVER.CH_PRIO (R288). -/
def R.MOVER_CH_PRIO : Nat := 0x110
/-- MOVER.CH_EVENT (R288). -/
def R.MOVER_CH_EVENT : Nat := 0x114
/-- MOVER.CH_WATCH (R288). -/
def R.MOVER_CH_WATCH : Nat := 0x118
/-- MOVER.CH_LOW (R288). -/
def R.MOVER_CH_LOW : Nat := 0x11C
/-- MOVER.CH_HIGH (R288). -/
def R.MOVER_CH_HIGH : Nat := 0x120
/-- MOVER.CH_INDEX (R288). -/
def R.MOVER_CH_INDEX : Nat := 0x124
/-- MOVER.CH_STATUS (R288). -/
def R.MOVER_CH_STATUS : Nat := 0x128
/-- MOVER.CH_ERR (R288). -/
def R.MOVER_CH_ERR : Nat := 0x12C
/-- MOVER.CH_HANDOVER_SET (R288). -/
def R.MOVER_CH_HANDOVER_SET : Nat := 0x130
/-- MOVER.CH_LEVEL (R288). -/
def R.MOVER_CH_LEVEL : Nat := 0x134
/-- MOVER.CH_LEFT (R288). -/
def R.MOVER_CH_LEFT : Nat := 0x138
/-- MOVER.CH_DESC_DONE (R288). -/
def R.MOVER_CH_DESC_DONE : Nat := 0x140
/-- MOVER.CH_BYTES (R288). -/
def R.MOVER_CH_BYTES : Nat := 0x148
/-- MOVER.HALTED_MAP (R288). -/
def R.MOVER_HALTED_MAP : Nat := 0x180
/-- MOVER.DESC_DONE (R288). -/
def R.MOVER_DESC_DONE : Nat := 0x800
/-- MOVER.BYTES_MOVED (R288). -/
def R.MOVER_BYTES_MOVED : Nat := 0x808
/-- MOVER.BURSTS (R288). -/
def R.MOVER_BURSTS : Nat := 0x810
/-- MOVER.PULSES (R288). -/
def R.MOVER_PULSES : Nat := 0x818
/-- MOVER.HALTS (R288). -/
def R.MOVER_HALTS : Nat := 0x820
/-- MOVER.LATE_ERRORS (R288). -/
def R.MOVER_LATE_ERRORS : Nat := 0x828
/-- MOVER.PACE_STOPS (R288). -/
def R.MOVER_PACE_STOPS : Nat := 0x830
/-- MOVER.DISABLES_DROPPED (R288). -/
def R.MOVER_DISABLES_DROPPED : Nat := 0x838
/-- CNT.DAILIES_CFG (R300). -/
def R.CNT_DAILIES_CFG : Nat := 0x080
/-- CNT.DAILIES_CTRL (R300). -/
def R.CNT_DAILIES_CTRL : Nat := 0x084
/-- CNT.RING_BASE (R300). -/
def R.CNT_RING_BASE : Nat := 0x088
/-- CNT.RING_CFG (R300). -/
def R.CNT_RING_CFG : Nat := 0x090
/-- CNT.SLOT_BYTES (R300). -/
def R.CNT_SLOT_BYTES : Nat := 0x094
/-- CNT.RING_HEAD (R300). -/
def R.CNT_RING_HEAD : Nat := 0x098
/-- CNT.RING_TAIL (R300). -/
def R.CNT_RING_TAIL : Nat := 0x09C
/-- CNT.LAST_SEQ (R300). -/
def R.CNT_LAST_SEQ : Nat := 0x0A0
/-- CNT.OTHER_BIN (R300). -/
def R.CNT_OTHER_BIN : Nat := 0x400
/-- CNT.OTHER_ORIGIN (R300). -/
def R.CNT_OTHER_ORIGIN : Nat := 0x600
/-- CNT.OTHER_CTRL (R300). -/
def R.CNT_OTHER_CTRL : Nat := 0x604
/-- CNT.OTHER_MIN (R300). -/
def R.CNT_OTHER_MIN : Nat := 0x608
/-- CNT.OTHER_MAX (R300). -/
def R.CNT_OTHER_MAX : Nat := 0x610
/-- CNT.DUMPS_WRITTEN (R300). -/
def R.CNT_DUMPS_WRITTEN : Nat := 0x800
/-- CNT.DUMPS_SKIPPED_FULL (R300). -/
def R.CNT_DUMPS_SKIPPED_FULL : Nat := 0x808
/-- CNT.DUMPS_SKIPPED_BUSY (R300). -/
def R.CNT_DUMPS_SKIPPED_BUSY : Nat := 0x810
/-- CNT.DUMPS_SKIPPED_NO_DDR (R300). -/
def R.CNT_DUMPS_SKIPPED_NO_DDR : Nat := 0x818
/-- CNT.WRAPPED_AFTER (R300). -/
def R.CNT_WRAPPED_AFTER : Nat := 0x820
/-- PGRP.HIST_SEL (R301). -/
def R.PGRP_HIST_SEL : Nat := 0x200
/-- PGRP.ORIGIN_W2M (R301). -/
def R.PGRP_ORIGIN_W2M : Nat := 0x204
/-- PGRP.ORIGIN_G2W (R301). -/
def R.PGRP_ORIGIN_G2W : Nat := 0x208
/-- PGRP.ORIGIN_J2C (R301). -/
def R.PGRP_ORIGIN_J2C : Nat := 0x20C
/-- PGRP.HIST_CTRL (R301). -/
def R.PGRP_HIST_CTRL : Nat := 0x210
/-- PGRP.HIST_MIN (R301). -/
def R.PGRP_HIST_MIN : Nat := 0x218
/-- PGRP.HIST_MAX (R301). -/
def R.PGRP_HIST_MAX : Nat := 0x220
/-- PGRP.HIST_BIN (R301). -/
def R.PGRP_HIST_BIN : Nat := 0x400
/-- TRACE.RING_BASE (R318). -/
def R.TRACE_RING_BASE : Nat := 0x080
/-- TRACE.RING_CFG (R318). -/
def R.TRACE_RING_CFG : Nat := 0x088
/-- TRACE.RING_HEAD (R318). -/
def R.TRACE_RING_HEAD : Nat := 0x08C
/-- TRACE.RING_TAIL (R318). -/
def R.TRACE_RING_TAIL : Nat := 0x090
/-- TRACE.SYNC_CFG (R318). -/
def R.TRACE_SYNC_CFG : Nat := 0x094
/-- TRACE.SW_CTRL (R318). -/
def R.TRACE_SW_CTRL : Nat := 0x098
/-- TRACE.SW_WORD (R318). -/
def R.TRACE_SW_WORD : Nat := 0x0A0
/-- TRACE.SRC_FILTER (R318). -/
def R.TRACE_SRC_FILTER : Nat := 0x100
/-- TRACE.SRC_RATE (R318). -/
def R.TRACE_SRC_RATE : Nat := 0x108
/-- TRACE.RECORDS_WRITTEN (R318). -/
def R.TRACE_RECORDS_WRITTEN : Nat := 0x800
/-- TRACE.LOST_RATE (R318). -/
def R.TRACE_LOST_RATE : Nat := 0x808
/-- TRACE.LOST_FULL (R318). -/
def R.TRACE_LOST_FULL : Nat := 0x810
/-- TRACE.GAPS_WRITTEN (R318). -/
def R.TRACE_GAPS_WRITTEN : Nat := 0x818
/-- TRACE.ALARM_RECORDS (R318). -/
def R.TRACE_ALARM_RECORDS : Nat := 0x820
/-- TRACE.ALARM_RECORDS_LOST (R318). -/
def R.TRACE_ALARM_RECORDS_LOST : Nat := 0x828
/-- ALARM.CFG (R319). -/
def R.ALARM_CFG : Nat := 0x080
/-- ALARM.KEY_SEL (R319). -/
def R.ALARM_KEY_SEL : Nat := 0x088
/-- ALARM.VIEW_KEY (R319). -/
def R.ALARM_VIEW_KEY : Nat := 0x090
/-- ALARM.VIEW_COUNT (R319). -/
def R.ALARM_VIEW_COUNT : Nat := 0x098
/-- ALARM.VIEW_FIRST_NS (R319). -/
def R.ALARM_VIEW_FIRST_NS : Nat := 0x0A0
/-- ALARM.VIEW_LAST_NS (R319). -/
def R.ALARM_VIEW_LAST_NS : Nat := 0x0A8
/-- ALARM.VIEW_DETAIL (R319). -/
def R.ALARM_VIEW_DETAIL : Nat := 0x0B0
/-- ALARM.VIEW_NOTIFY_NS (R319). -/
def R.ALARM_VIEW_NOTIFY_NS : Nat := 0x0B8
/-- ALARM.KEY_CTRL (R319). -/
def R.ALARM_KEY_CTRL : Nat := 0x0C0
/-- ALARM.KEYS_IN_USE (R319). -/
def R.ALARM_KEYS_IN_USE : Nat := 0x0C4
/-- ALARM.USED_MAP (R319). -/
def R.ALARM_USED_MAP : Nat := 0x100
/-- ALARM.PENDING_MAP (R319). -/
def R.ALARM_PENDING_MAP : Nat := 0x180
/-- ALARM.OCCURRENCES (R319). -/
def R.ALARM_OCCURRENCES : Nat := 0x800
/-- ALARM.KEYS_OPENED (R319). -/
def R.ALARM_KEYS_OPENED : Nat := 0x808
/-- ALARM.NOTIFICATIONS (R319). -/
def R.ALARM_NOTIFICATIONS : Nat := 0x810
/-- ALARM.OVERFLOW_OCCURRENCES (R319). -/
def R.ALARM_OVERFLOW_OCCURRENCES : Nat := 0x818
/-- ALARM.RELEASES_REFUSED (R319). -/
def R.ALARM_RELEASES_REFUSED : Nat := 0x820
/-- FAULT.CFG (R320). -/
def R.FAULT_CFG : Nat := 0x080
/-- FAULT.AGG_CFG (R320). -/
def R.FAULT_AGG_CFG : Nat := 0x084
/-- FAULT.TX_CFG (R320). -/
def R.FAULT_TX_CFG : Nat := 0x088
/-- FAULT.TX_CODE_EN (R320). -/
def R.FAULT_TX_CODE_EN : Nat := 0x090
/-- FAULT.LATE_BURST (R320). -/
def R.FAULT_LATE_BURST : Nat := 0x094
/-- FAULT.REPORTER_BASE (R320). -/
def R.FAULT_REPORTER_BASE : Nat := 0x098
/-- FAULT.ENTRY_SEL (R320). -/
def R.FAULT_ENTRY_SEL : Nat := 0x0A0
/-- FAULT.VIEW_KEY (R320). -/
def R.FAULT_VIEW_KEY : Nat := 0x0A8
/-- FAULT.VIEW_REPORTS (R320). -/
def R.FAULT_VIEW_REPORTS : Nat := 0x0B0
/-- FAULT.VIEW_REPORTERS (R320). -/
def R.FAULT_VIEW_REPORTERS : Nat := 0x0B8
/-- FAULT.VIEW_FIRST (R320). -/
def R.FAULT_VIEW_FIRST : Nat := 0x0C0
/-- FAULT.VIEW_LAST (R320). -/
def R.FAULT_VIEW_LAST : Nat := 0x0C8
/-- FAULT.VIEW_DETAIL (R320). -/
def R.FAULT_VIEW_DETAIL : Nat := 0x0D0
/-- FAULT.ENTRY_CTRL (R320). -/
def R.FAULT_ENTRY_CTRL : Nat := 0x0D8
/-- FAULT.ENTRIES_IN_USE (R320). -/
def R.FAULT_ENTRIES_IN_USE : Nat := 0x0DC
/-- FAULT.SW_FAULT0 (R320). -/
def R.FAULT_SW_FAULT0 : Nat := 0x0E0
/-- FAULT.SW_FAULT1 (R320). -/
def R.FAULT_SW_FAULT1 : Nat := 0x0E8
/-- FAULT.SW_CTRL (R320). -/
def R.FAULT_SW_CTRL : Nat := 0x0F0
/-- FAULT.USED_MAP (R320). -/
def R.FAULT_USED_MAP : Nat := 0x100
/-- FAULT.RX_REPORTS (R320). -/
def R.FAULT_RX_REPORTS : Nat := 0x800
/-- FAULT.RX_UNKNOWN_CODE (R320). -/
def R.FAULT_RX_UNKNOWN_CODE : Nat := 0x808
/-- FAULT.RX_RESOLVED_UNKNOWN (R320). -/
def R.FAULT_RX_RESOLVED_UNKNOWN : Nat := 0x810
/-- FAULT.RX_NOT_READY (R320). -/
def R.FAULT_RX_NOT_READY : Nat := 0x818
/-- FAULT.ENTRIES_OPENED (R320). -/
def R.FAULT_ENTRIES_OPENED : Nat := 0x820
/-- FAULT.ENTRIES_REUSED (R320). -/
def R.FAULT_ENTRIES_REUSED : Nat := 0x828
/-- FAULT.AGG_OVERFLOWS (R320). -/
def R.FAULT_AGG_OVERFLOWS : Nat := 0x830
/-- FAULT.AGG_QUEUE_FULL (R320). -/
def R.FAULT_AGG_QUEUE_FULL : Nat := 0x838
/-- FAULT.TX_SENT (R320). -/
def R.FAULT_TX_SENT : Nat := 0x840
/-- FAULT.TX_RESOLVED (R320). -/
def R.FAULT_TX_RESOLVED : Nat := 0x848
/-- FAULT.TX_NO_SLOT (R320). -/
def R.FAULT_TX_NO_SLOT : Nat := 0x850
/-- FAULT.TX_NO_SUBJECT (R320). -/
def R.FAULT_TX_NO_SUBJECT : Nat := 0x858
/-- FAULT.TX_FAILED (R320). -/
def R.FAULT_TX_FAILED : Nat := 0x860
/-- GLOBAL.IRQ_ROUTE_SEL (R335). -/
def R.GLOBAL_IRQ_ROUTE_SEL : Nat := 0x110
/-- GLOBAL.IRQ_ROUTE (R335). -/
def R.GLOBAL_IRQ_ROUTE : Nat := 0x114
/-- GLOBAL.IRQ_REARM (R335). -/
def R.GLOBAL_IRQ_REARM : Nat := 0x118
/-- GLOBAL.IRQ_SRC (R335). -/
def R.GLOBAL_IRQ_SRC : Nat := 0x200
/-- GLOBAL.HART_ENTRY (R335). -/
def R.GLOBAL_HART_ENTRY : Nat := 0x400
/-- GLOBAL.HART_CTRL (R335). -/
def R.GLOBAL_HART_CTRL : Nat := 0x408
/-- GLOBAL.HART_STATUS (R335). -/
def R.GLOBAL_HART_STATUS : Nat := 0x40C
/-- GLOBAL.MTIME (R335). -/
def R.GLOBAL_MTIME : Nat := 0x410
/-- GLOBAL.MTIMECMP (R335). -/
def R.GLOBAL_MTIMECMP : Nat := 0x480
/-- GLOBAL.IRQ_SIGNALS (R335). -/
def R.GLOBAL_IRQ_SIGNALS : Nat := 0x800
/-- GLOBAL.IRQ_UNROUTED (R335). -/
def R.GLOBAL_IRQ_UNROUTED : Nat := 0x808
/-- MGMT.MAC_CFG (R336). -/
def R.MGMT_MAC_CFG : Nat := 0x080
/-- MGMT.MAC_STATUS (R336). -/
def R.MGMT_MAC_STATUS : Nat := 0x084
/-- MGMT.MAC_ADDR (R336). -/
def R.MGMT_MAC_ADDR : Nat := 0x088
/-- MGMT.TX_RING_BASE (R336). -/
def R.MGMT_TX_RING_BASE : Nat := 0x090
/-- MGMT.TX_RING_CFG (R336). -/
def R.MGMT_TX_RING_CFG : Nat := 0x098
/-- MGMT.TX_CTRL (R336). -/
def R.MGMT_TX_CTRL : Nat := 0x09C
/-- MGMT.RX_RING_BASE (R336). -/
def R.MGMT_RX_RING_BASE : Nat := 0x0A0
/-- MGMT.RX_RING_CFG (R336). -/
def R.MGMT_RX_RING_CFG : Nat := 0x0A8
/-- MGMT.RX_CTRL (R336). -/
def R.MGMT_RX_CTRL : Nat := 0x0AC
/-- MGMT.TX_INDEX (R336). -/
def R.MGMT_TX_INDEX : Nat := 0x0B0
/-- MGMT.RX_INDEX (R336). -/
def R.MGMT_RX_INDEX : Nat := 0x0B4
/-- MGMT.TX_FRAMES (R336). -/
def R.MGMT_TX_FRAMES : Nat := 0x800
/-- MGMT.RX_FRAMES (R336). -/
def R.MGMT_RX_FRAMES : Nat := 0x808
/-- MGMT.RX_FCS_ERR (R336). -/
def R.MGMT_RX_FCS_ERR : Nat := 0x810
/-- MGMT.RX_TOO_LONG (R336). -/
def R.MGMT_RX_TOO_LONG : Nat := 0x818
/-- MGMT.RX_NO_DESC (R336). -/
def R.MGMT_RX_NO_DESC : Nat := 0x820
/-- MGMT.RX_FILTERED (R336). -/
def R.MGMT_RX_FILTERED : Nat := 0x828
/-- SEC.BOOT_STATUS (R337). -/
def R.SEC_BOOT_STATUS : Nat := 0x080
/-- SEC.BOOT_LOCK (R337). -/
def R.SEC_BOOT_LOCK : Nat := 0x084
/-- SEC.FUSE_STATUS (R337). -/
def R.SEC_FUSE_STATUS : Nat := 0x088
/-- SEC.KEY_STAGE (R337). -/
def R.SEC_KEY_STAGE : Nat := 0x0C0
/-- SEC.FUSE_CTRL (R337). -/
def R.SEC_FUSE_CTRL : Nat := 0x0F0
/-- SEC.KEY_HASH (R337). -/
def R.SEC_KEY_HASH : Nat := 0x100
/-- PWR.RESET_CAUSE (R348). -/
def R.PWR_RESET_CAUSE : Nat := 0x080
/-- PWR.STRAPS (R348). -/
def R.PWR_STRAPS : Nat := 0x084
/-- PWR.RAIL_STATUS (R348). -/
def R.PWR_RAIL_STATUS : Nat := 0x088
/-- DDR.TRAIN_CTRL (R349). -/
def R.DDR_TRAIN_CTRL : Nat := 0x080
/-- DDR.TRAIN_STATUS (R349). -/
def R.DDR_TRAIN_STATUS : Nat := 0x084
/-- DDR.TRAIN_RUNS (R349). -/
def R.DDR_TRAIN_RUNS : Nat := 0x800
/-- DDR.TRAIN_FAILURES (R349). -/
def R.DDR_TRAIN_FAILURES : Nat := 0x808
/-- PWR.THERM_STATUS (R368). -/
def R.PWR_THERM_STATUS : Nat := 0x090
/-- PWR.VIN_MV (R368). -/
def R.PWR_VIN_MV : Nat := 0x094
/-- PWR.IIN (R368). -/
def R.PWR_IIN : Nat := 0x098
/-- PWR.PIN (R368). -/
def R.PWR_PIN : Nat := 0x09C
/-- PWR.TEMP (R368). -/
def R.PWR_TEMP : Nat := 0x0A0
/-- PWR.THROTTLE_ENTRIES (R368). -/
def R.PWR_THROTTLE_ENTRIES : Nat := 0x800
/-- PWR.THROTTLE_US (R368). -/
def R.PWR_THROTTLE_US : Nat := 0x808

/-- Access codes (R28 and the table of access code semantics); ctr: a counter of R41. -/
inductive Acc where
  | ro | rw | wo | w1c | rws | rwc | ctr
deriving DecidableEq, Repr

/-- One row of a register table: `count` registers from page offset `off` at `stride`. -/
structure RegRow where
  kind   : PageKind
  off    : Nat
  count  : Nat
  stride : Nat
  /-- Width in bytes (R27). -/
  width  : Nat
  acc    : Acc
  /-- Bits that a write can set: the fields of the register (R6). -/
  mask   : Nat
  /-- Feature the register belongs to, 0 for BASE (R34). -/
  feat   : Nat
deriving DecidableEq, Repr

/-- Registers of the GLOBAL page. -/
def regRows_global : List RegRow :=
  [⟨.global, R.GLOBAL_ETHERTYPE, 1, 0, 4, .rw, 0xFFFF, 25⟩,
   ⟨.global, R.GLOBAL_IRQ_ROUTE_SEL, 1, 0, 4, .rw, 0x7FF, 0⟩,
   ⟨.global, R.GLOBAL_IRQ_ROUTE, 1, 0, 4, .rw, 0x9F, 0⟩,
   ⟨.global, R.GLOBAL_IRQ_REARM, 1, 0, 4, .wo, 0x8000007F, 0⟩,
   ⟨.global, R.GLOBAL_IRQ_SRC, 128, 4, 4, .rw, 0x7FF, 0⟩,
   ⟨.global, R.GLOBAL_HART_ENTRY, 1, 0, 8, .rw, 0xFFFFFFFFFFFF, 0⟩,
   ⟨.global, R.GLOBAL_HART_CTRL, 1, 0, 4, .wo, 0xFFFF, 0⟩,
   ⟨.global, R.GLOBAL_HART_STATUS, 1, 0, 4, .ro, 0x0, 0⟩,
   ⟨.global, R.GLOBAL_MTIME, 1, 0, 8, .ro, 0x0, 0⟩,
   ⟨.global, R.GLOBAL_MTIMECMP, 16, 8, 8, .rw, 0xFFFFFFFFFFFFFFFF, 0⟩,
   ⟨.global, R.GLOBAL_IRQ_SIGNALS, 1, 0, 8, .ctr, 0x8000FFFFFFFFFFFF, 0⟩,
   ⟨.global, R.GLOBAL_IRQ_UNROUTED, 1, 0, 8, .ctr, 0x8000FFFFFFFFFFFF, 0⟩,
   ⟨.global, R.GLOBAL_INT_SUMMARY, 1, 0, 8, .ro, 0x0, 0⟩,
   ⟨.global, R.GLOBAL_INT_PGRP_SUMMARY, 1, 0, 8, .ro, 0x0, 0⟩]
/-- Registers of the TIME page. -/
def regRows_time : List RegRow :=
  [⟨.time, R.TIME_NOW_NS, 1, 0, 8, .ro, 0x0, 0⟩,
   ⟨.time, R.TIME_NOW_FRAC, 1, 0, 4, .ro, 0x0, 0⟩,
   ⟨.time, R.TIME_NOW_CYCLE, 1, 0, 8, .ro, 0x0, 0⟩,
   ⟨.time, R.TIME_OFFSET, 1, 0, 4, .ro, 0x0, 0⟩,
   ⟨.time, R.TIME_EST_OFFSET, 1, 0, 4, .ro, 0x0, 0⟩,
   ⟨.time, R.TIME_FREQ_EST, 1, 0, 4, .ro, 0x0, 0⟩,
   ⟨.time, R.TIME_SLEW_NOW, 1, 0, 4, .ro, 0x0, 0⟩,
   ⟨.time, R.TIME_SERVO_CFG, 1, 0, 4, .rw, 0x1FFFFF, 0⟩,
   ⟨.time, R.TIME_HOLDOVER_CFG, 1, 0, 4, .rw, 0xFFFFF, 0⟩,
   ⟨.time, R.TIME_DELAY_CFG, 1, 0, 4, .rw, 0xFFFF, 0⟩,
   ⟨.time, R.TIME_PARENT, 1, 0, 4, .ro, 0x0, 0⟩,
   ⟨.time, R.TIME_TIMEBASE, 1, 0, 4, .ro, 0x0, 0⟩,
   ⟨.time, R.TIME_CIVIL_SEC, 1, 0, 8, .ro, 0x0, 23⟩,
   ⟨.time, R.TIME_CIVIL_NS, 1, 0, 4, .ro, 0x0, 23⟩,
   ⟨.time, R.TIME_CIVIL_SET_SEC, 1, 0, 8, .rw, 0xFFFFFFFFFFFF, 23⟩,
   ⟨.time, R.TIME_CIVIL_SET_NS, 1, 0, 4, .rw, 0x3FFFFFFF, 23⟩,
   ⟨.time, R.TIME_CIVIL_RATE, 1, 0, 4, .rw, 0xFFFFFFFF, 23⟩,
   ⟨.time, R.TIME_CIVIL_CTRL, 1, 0, 4, .rw, 0x7, 23⟩,
   ⟨.time, R.TIME_PAIR_CYCLE, 1, 0, 8, .ro, 0x0, 23⟩,
   ⟨.time, R.TIME_PAIR_FABRIC_NS, 1, 0, 8, .ro, 0x0, 23⟩,
   ⟨.time, R.TIME_PAIR_CIVIL_SEC, 1, 0, 8, .ro, 0x0, 23⟩,
   ⟨.time, R.TIME_PAIR_CIVIL_NS, 1, 0, 4, .ro, 0x0, 23⟩,
   ⟨.time, R.TIME_PAIR_RING_BASE, 1, 0, 8, .rw, 0xFFFFFFFFFFFFFFFF, 23⟩,
   ⟨.time, R.TIME_PAIR_RING_CFG, 1, 0, 4, .rw, 0xFFFF001F, 23⟩,
   ⟨.time, R.TIME_PAIR_RING_WR, 1, 0, 4, .ro, 0x0, 23⟩,
   ⟨.time, R.TIME_SERVO_UPDATES, 1, 0, 8, .ctr, 0x8000FFFFFFFFFFFF, 0⟩,
   ⟨.time, R.TIME_SLEW_CLAMPED, 1, 0, 8, .ctr, 0x8000FFFFFFFFFFFF, 0⟩,
   ⟨.time, R.TIME_FREQ_STEP_CLAMPED, 1, 0, 8, .ctr, 0x8000FFFFFFFFFFFF, 0⟩,
   ⟨.time, R.TIME_PARENT_CHANGES, 1, 0, 8, .ctr, 0x8000FFFFFFFFFFFF, 0⟩,
   ⟨.time, R.TIME_PARENT_MISSED, 1, 0, 8, .ctr, 0x8000FFFFFFFFFFFF, 0⟩,
   ⟨.time, R.TIME_HOLDOVER_CYCLES, 1, 0, 8, .ctr, 0x8000FFFFFFFFFFFF, 0⟩,
   ⟨.time, R.TIME_PAIRS_WRITTEN, 1, 0, 8, .ctr, 0x8000FFFFFFFFFFFF, 23⟩,
   ⟨.time, R.TIME_PAIRS_SKIPPED, 1, 0, 8, .ctr, 0x8000FFFFFFFFFFFF, 23⟩,
   ⟨.time, R.TIME_DIAG_TS_CTRL, 1, 0, 4, .rw, 0xFFFF0001, 0⟩,
   ⟨.time, R.TIME_DIAG_TS_POP, 1, 0, 8, .ro, 0x0, 0⟩,
   ⟨.time, R.TIME_DIAG_TS_LEVEL, 1, 0, 4, .ro, 0x0, 0⟩,
   ⟨.time, R.TIME_DIAG_TS_LOST, 1, 0, 8, .ctr, 0x8000FFFFFFFFFFFF, 0⟩]
/-- Registers of the CYCLE page. -/
def regRows_cycle : List RegRow :=
  [⟨.cycle, R.CYCLE_NODE_CFG, 1, 0, 4, .rw, 0xFFFFFFFF, 0⟩,
   ⟨.cycle, R.CYCLE_NODE_CTRL, 1, 0, 4, .wo, 0xF, 0⟩,
   ⟨.cycle, R.CYCLE_NODE_STATE, 1, 0, 4, .ro, 0x0, 0⟩,
   ⟨.cycle, R.CYCLE_OFFSET_CFG, 1, 0, 4, .rw, 0xFFFFFFFF, 0⟩,
   ⟨.cycle, R.CYCLE_LISTEN_LEFT, 1, 0, 4, .ro, 0x0, 0⟩,
   ⟨.cycle, R.CYCLE_JOIN_INFO, 1, 0, 8, .ro, 0x0, 0⟩,
   ⟨.cycle, R.CYCLE_STEP_NS, 1, 0, 8, .ro, 0x0, 0⟩,
   ⟨.cycle, R.CYCLE_CLAIM_CFG, 1, 0, 4, .rw, 0xFFFFF, 12⟩,
   ⟨.cycle, R.CYCLE_CLAIM_OWNERS0, 1, 0, 4, .rw, 0xFFFFFFFF, 12⟩,
   ⟨.cycle, R.CYCLE_CLAIM_OWNERS1, 1, 0, 4, .rw, 0xFFFFFFFF, 12⟩,
   ⟨.cycle, R.CYCLE_CLAIM_OWNERS2, 1, 0, 4, .rw, 0xFFFFFFFF, 12⟩,
   ⟨.cycle, R.CYCLE_CLAIM_OWNERS3, 1, 0, 4, .rw, 0xFFFFFFFF, 12⟩,
   ⟨.cycle, R.CYCLE_CANDIDATE_ENTRIES, 1, 0, 8, .ctr, 0x8000FFFFFFFFFFFF, 0⟩,
   ⟨.cycle, R.CYCLE_LISTEN_EXPIRED, 1, 0, 8, .ctr, 0x8000FFFFFFFFFFFF, 0⟩,
   ⟨.cycle, R.CYCLE_YIELDS, 1, 0, 8, .ctr, 0x8000FFFFFFFFFFFF, 0⟩,
   ⟨.cycle, R.CYCLE_JOINS, 1, 0, 8, .ctr, 0x8000FFFFFFFFFFFF, 0⟩,
   ⟨.cycle, R.CYCLE_JOIN_ABORTS, 1, 0, 8, .ctr, 0x8000FFFFFFFFFFFF, 0⟩,
   ⟨.cycle, R.CYCLE_JOIN_MISMATCH, 1, 0, 8, .ctr, 0x8000FFFFFFFFFFFF, 0⟩,
   ⟨.cycle, R.CYCLE_HOLDOFF_ENTRIES, 1, 0, 8, .ctr, 0x8000FFFFFFFFFFFF, 0⟩,
   ⟨.cycle, R.CYCLE_HOLDOFF_CYCLES, 1, 0, 8, .ctr, 0x8000FFFFFFFFFFFF, 0⟩,
   ⟨.cycle, R.CYCLE_LEAVES, 1, 0, 8, .ctr, 0x8000FFFFFFFFFFFF, 0⟩,
   ⟨.cycle, R.CYCLE_TB_WORSE_SEEN, 1, 0, 8, .ctr, 0x8000FFFFFFFFFFFF, 0⟩,
   ⟨.cycle, R.CYCLE_CYCLE_TICKS, 1, 0, 4, .rwc, 0xFFFFFF, 0⟩,
   ⟨.cycle, R.CYCLE_SLATE_TAG, 1, 0, 4, .rwc, 0xFFFFFFFF, 0⟩,
   ⟨.cycle, R.CYCLE_ACTIVE_SLATE, 1, 0, 4, .ro, 0x0, 0⟩,
   ⟨.cycle, R.CYCLE_CUT_CYCLE, 1, 0, 8, .rw, 0xFFFFFFFFFFFF, 0⟩,
   ⟨.cycle, R.CYCLE_CUT_STATUS, 1, 0, 4, .ro, 0x0, 0⟩,
   ⟨.cycle, R.CYCLE_SLATE_CTRL, 1, 0, 4, .wo, 0x3, 0⟩,
   ⟨.cycle, R.CYCLE_CUT_FAIL_OFFSET, 1, 0, 4, .ro, 0x0, 0⟩,
   ⟨.cycle, R.CYCLE_CUT_APPLIED_CYCLE, 1, 0, 8, .ro, 0x0, 0⟩,
   ⟨.cycle, R.CYCLE_CUT_REFUSED_CYCLE, 1, 0, 8, .ro, 0x0, 0⟩,
   ⟨.cycle, R.CYCLE_CUTS_APPLIED, 1, 0, 8, .ctr, 0x8000FFFFFFFFFFFF, 0⟩,
   ⟨.cycle, R.CYCLE_CUTS_REFUSED, 1, 0, 8, .ctr, 0x8000FFFFFFFFFFFF, 0⟩,
   ⟨.cycle, R.CYCLE_CHECKS_RUN, 1, 0, 8, .ctr, 0x8000FFFFFFFFFFFF, 0⟩,
   ⟨.cycle, R.CYCLE_CHECKS_FAILED, 1, 0, 8, .ctr, 0x8000FFFFFFFFFFFF, 0⟩,
   ⟨.cycle, R.CYCLE_TICKS_DIVERGED, 1, 0, 8, .ctr, 0x8000FFFFFFFFFFFF, 0⟩]
/-- Registers of the STREAM page. -/
def regRows_stream : List RegRow :=
  [⟨.stream, R.STREAM_RCVY_SEL, 1, 0, 4, .rw, 0x7FFF, 6⟩,
   ⟨.stream, R.STREAM_RCVY_STATE, 1, 0, 8, .ro, 0x0, 0⟩,
   ⟨.stream, R.STREAM_RCVY_HIST_LO, 1, 0, 8, .ro, 0x0, 0⟩,
   ⟨.stream, R.STREAM_RCVY_HIST_HI, 1, 0, 8, .ro, 0x0, 0⟩,
   ⟨.stream, R.STREAM_RCVY_MEMBER_SEQ, 1, 0, 8, .ro, 0x0, 0⟩,
   ⟨.stream, R.STREAM_RCVY_CTRL, 1, 0, 4, .wo, 0x3, 6⟩,
   ⟨.stream, R.STREAM_GEN_SEL, 1, 0, 4, .rw, 0xFFFF, 0⟩,
   ⟨.stream, R.STREAM_GEN_STATE, 1, 0, 4, .ro, 0x0, 0⟩,
   ⟨.stream, R.STREAM_GEN_CTRL, 1, 0, 4, .wo, 0xFFFF0001, 0⟩,
   ⟨.stream, R.STREAM_V_PASSED, 1, 0, 8, .ro, 0x0, 0⟩,
   ⟨.stream, R.STREAM_V_DISCARDED, 1, 0, 8, .ro, 0x0, 0⟩,
   ⟨.stream, R.STREAM_V_OUT_OF_ORDER, 1, 0, 8, .ro, 0x0, 0⟩,
   ⟨.stream, R.STREAM_V_ROGUE, 1, 0, 8, .ro, 0x0, 0⟩,
   ⟨.stream, R.STREAM_V_LOST, 1, 0, 8, .ro, 0x0, 0⟩,
   ⟨.stream, R.STREAM_V_RESETS, 1, 0, 8, .ro, 0x0, 0⟩,
   ⟨.stream, R.STREAM_V_NOT_MEMBER, 1, 0, 8, .ro, 0x0, 0⟩,
   ⟨.stream, R.STREAM_V_STALE, 1, 0, 8, .ro, 0x0, 0⟩,
   ⟨.stream, R.STREAM_V_LATENT_ERRORS, 1, 0, 8, .ro, 0x0, 0⟩,
   ⟨.stream, R.STREAM_V_MEMBER_RX, 4, 8, 8, .ro, 0x0, 0⟩,
   ⟨.stream, R.STREAM_V_INDIV_DISCARD, 4, 8, 8, .ro, 0x0, 0⟩,
   ⟨.stream, R.STREAM_NULL_ID0, 64, 16, 8, .rwc, 0xFFFFFFFFFFFFFFFF, 0⟩,
   ⟨.stream, R.STREAM_NULL_ID1, 64, 16, 8, .rwc, 0xFFFFFFFFFFFFFFFF, 0⟩,
   ⟨.stream, R.STREAM_RX_IDENTIFIED, 1, 0, 8, .ctr, 0x8000FFFFFFFFFFFF, 0⟩,
   ⟨.stream, R.STREAM_RX_UNTRACKED, 1, 0, 8, .ctr, 0x8000FFFFFFFFFFFF, 0⟩,
   ⟨.stream, R.STREAM_RCVY_PASSED, 1, 0, 8, .ctr, 0x8000FFFFFFFFFFFF, 0⟩,
   ⟨.stream, R.STREAM_RCVY_DISCARDED, 1, 0, 8, .ctr, 0x8000FFFFFFFFFFFF, 0⟩,
   ⟨.stream, R.STREAM_RCVY_OUT_OF_ORDER, 1, 0, 8, .ctr, 0x8000FFFFFFFFFFFF, 0⟩,
   ⟨.stream, R.STREAM_RCVY_ROGUE, 1, 0, 8, .ctr, 0x8000FFFFFFFFFFFF, 0⟩,
   ⟨.stream, R.STREAM_RCVY_LOST, 1, 0, 8, .ctr, 0x8000FFFFFFFFFFFF, 0⟩,
   ⟨.stream, R.STREAM_RCVY_RESETS, 1, 0, 8, .ctr, 0x8000FFFFFFFFFFFF, 0⟩,
   ⟨.stream, R.STREAM_RCVY_NOT_MEMBER, 1, 0, 8, .ctr, 0x8000FFFFFFFFFFFF, 0⟩,
   ⟨.stream, R.STREAM_RCVY_STALE, 1, 0, 8, .ctr, 0x8000FFFFFFFFFFFF, 0⟩,
   ⟨.stream, R.STREAM_INDIV_DISCARDED, 1, 0, 8, .ctr, 0x8000FFFFFFFFFFFF, 0⟩,
   ⟨.stream, R.STREAM_LATENT_ERRORS, 1, 0, 8, .ctr, 0x8000FFFFFFFFFFFF, 0⟩,
   ⟨.stream, R.STREAM_GEN_FRAMES, 1, 0, 8, .ctr, 0x8000FFFFFFFFFFFF, 0⟩,
   ⟨.stream, R.STREAM_REPLICAS_BUILT, 1, 0, 8, .ctr, 0x8000FFFFFFFFFFFF, 0⟩,
   ⟨.stream, R.STREAM_GEN_NO_ENTRY, 1, 0, 8, .ctr, 0x8000FFFFFFFFFFFF, 0⟩,
   ⟨.stream, R.STREAM_RCVY_KEPT_AT_CUT, 1, 0, 8, .ctr, 0x8000FFFFFFFFFFFF, 0⟩,
   ⟨.stream, R.STREAM_RCVY_RESET_AT_CUT, 1, 0, 8, .ctr, 0x8000FFFFFFFFFFFF, 0⟩]
/-- Registers of the XFER page. -/
def regRows_xfer : List RegRow :=
  [⟨.xfer, R.XFER_INFLIGHT, 1, 0, 4, .ro, 0x0, 0⟩,
   ⟨.xfer, R.XFER_LAST_STOP, 1, 0, 4, .ro, 0x0, 0⟩,
   ⟨.xfer, R.XFER_DOORBELLS, 1, 0, 8, .ctr, 0x8000FFFFFFFFFFFF, 0⟩,
   ⟨.xfer, R.XFER_DB_STALE, 1, 0, 8, .ctr, 0x8000FFFFFFFFFFFF, 0⟩,
   ⟨.xfer, R.XFER_INLINE_PUSHES, 1, 0, 8, .ctr, 0x8000FFFFFFFFFFFF, 0⟩,
   ⟨.xfer, R.XFER_INLINE_DISCARDED, 1, 0, 8, .ctr, 0x8000FFFFFFFFFFFF, 0⟩,
   ⟨.xfer, R.XFER_INLINE_ABORTED, 1, 0, 8, .ctr, 0x8000FFFFFFFFFFFF, 0⟩,
   ⟨.xfer, R.XFER_POLLS, 1, 0, 8, .ctr, 0x8000FFFFFFFFFFFF, 0⟩,
   ⟨.xfer, R.XFER_POLL_HITS, 1, 0, 8, .ctr, 0x8000FFFFFFFFFFFF, 0⟩,
   ⟨.xfer, R.XFER_ENTRIES_FETCHED, 1, 0, 8, .ctr, 0x8000FFFFFFFFFFFF, 0⟩,
   ⟨.xfer, R.XFER_ENTRY_BAD_KIND, 1, 0, 8, .ctr, 0x8000FFFFFFFFFFFF, 0⟩,
   ⟨.xfer, R.XFER_ENTRY_BAD_FIELD, 1, 0, 8, .ctr, 0x8000FFFFFFFFFFFF, 0⟩,
   ⟨.xfer, R.XFER_ENTRY_FEATURE, 1, 0, 8, .ctr, 0x8000FFFFFFFFFFFF, 0⟩,
   ⟨.xfer, R.XFER_SQ_STOPS, 1, 0, 8, .ctr, 0x8000FFFFFFFFFFFF, 0⟩,
   ⟨.xfer, R.XFER_EVENT_TIMEOUTS, 1, 0, 8, .ctr, 0x8000FFFFFFFFFFFF, 0⟩,
   ⟨.xfer, R.XFER_EXPECT_TIMEOUTS, 1, 0, 8, .ctr, 0x8000FFFFFFFFFFFF, 0⟩,
   ⟨.xfer, R.XFER_POST_DEPOSITED, 1, 0, 8, .ctr, 0x8000FFFFFFFFFFFF, 0⟩,
   ⟨.xfer, R.XFER_POST_NOT_REMOTE, 1, 0, 8, .ctr, 0x8000FFFFFFFFFFFF, 0⟩,
   ⟨.xfer, R.XFER_POST_SOURCE, 1, 0, 8, .ctr, 0x8000FFFFFFFFFFFF, 0⟩,
   ⟨.xfer, R.XFER_POST_KEY, 1, 0, 8, .ctr, 0x8000FFFFFFFFFFFF, 0⟩,
   ⟨.xfer, R.XFER_POST_UNITS, 1, 0, 8, .ctr, 0x8000FFFFFFFFFFFF, 0⟩,
   ⟨.xfer, R.XFER_POST_NO_ROOM, 1, 0, 8, .ctr, 0x8000FFFFFFFFFFFF, 0⟩,
   ⟨.xfer, R.XFER_HOLD_LEVEL, 1, 0, 4, .ro, 0x0, 0⟩,
   ⟨.xfer, R.XFER_COMPLETIONS, 1, 0, 8, .ctr, 0x8000FFFFFFFFFFFF, 0⟩,
   ⟨.xfer, R.XFER_COMPLETIONS_HELD, 1, 0, 8, .ctr, 0x8000FFFFFFFFFFFF, 0⟩,
   ⟨.xfer, R.XFER_CQ_FULL_EPISODES, 1, 0, 8, .ctr, 0x8000FFFFFFFFFFFF, 0⟩,
   ⟨.xfer, R.XFER_CQ_HEAD_INVALID, 1, 0, 8, .ctr, 0x8000FFFFFFFFFFFF, 0⟩,
   ⟨.xfer, R.XFER_TS_LOST_JOBS, 1, 0, 8, .ctr, 0x8000FFFFFFFFFFFF, 0⟩]
/-- Registers of the LZ page. -/
def regRows_lz : List RegRow :=
  [⟨.lz, R.LZ_ZONE_SEL, 1, 0, 4, .rw, 0xFFF, 0⟩,
   ⟨.lz, R.LZ_ZONE_VIEW, 1, 0, 8, .ro, 0x0, 0⟩,
   ⟨.lz, R.LZ_EDIT_WORD0, 1, 0, 8, .rw, 0xFFFFFFFFFFFFFFFF, 0⟩,
   ⟨.lz, R.LZ_EDIT_WORD1, 1, 0, 8, .rw, 0xFFFFFFFFFFFFFFFF, 0⟩,
   ⟨.lz, R.LZ_EDIT_CTRL, 1, 0, 4, .wo, 0xFFF0001, 0⟩,
   ⟨.lz, R.LZ_REJECT_CTRL, 1, 0, 4, .wo, 0x1, 0⟩,
   ⟨.lz, R.LZ_LZ_MISS, 1, 0, 8, .ctr, 0x8000FFFFFFFFFFFF, 0⟩,
   ⟨.lz, R.LZ_LZ_BOUNDS, 1, 0, 8, .ctr, 0x8000FFFFFFFFFFFF, 0⟩,
   ⟨.lz, R.LZ_LZ_SOURCE, 1, 0, 8, .ctr, 0x8000FFFFFFFFFFFF, 0⟩,
   ⟨.lz, R.LZ_LZ_KEY, 1, 0, 8, .ctr, 0x8000FFFFFFFFFFFF, 0⟩,
   ⟨.lz, R.LZ_LZ_PERM, 1, 0, 8, .ctr, 0x8000FFFFFFFFFFFF, 0⟩,
   ⟨.lz, R.LZ_REJECT_UNREPORTED, 1, 0, 8, .ctr, 0x8000FFFFFFFFFFFF, 0⟩,
   ⟨.lz, R.LZ_LANDED_FRAMES, 1, 0, 8, .ctr, 0x8000FFFFFFFFFFFF, 0⟩]
/-- Registers of the CODEC page. -/
def regRows_codec : List RegRow :=
  [⟨.codec, R.CODEC_SCRATCH_OWNER, 16, 4, 4, .ro, 0x0, 0⟩,
   ⟨.codec, R.CODEC_TEST_CFG, 1, 0, 4, .rw, 0x7FFFF3FF, 0⟩,
   ⟨.codec, R.CODEC_TEST_CTRL, 1, 0, 4, .wo, 0x1, 0⟩,
   ⟨.codec, R.CODEC_TEST_SRC, 1, 0, 8, .rw, 0xFFFFFFFFFFFF, 0⟩,
   ⟨.codec, R.CODEC_TEST_ENC, 1, 0, 8, .rw, 0xFFFFFFFFFFFF, 0⟩,
   ⟨.codec, R.CODEC_TEST_DST, 1, 0, 8, .rw, 0xFFFFFFFFFFFF, 0⟩,
   ⟨.codec, R.CODEC_TEST_STATUS, 1, 0, 4, .ro, 0x0, 0⟩,
   ⟨.codec, R.CODEC_ENC_FRAMES, 1, 0, 8, .ctr, 0x8000FFFFFFFFFFFF, 0⟩,
   ⟨.codec, R.CODEC_ENC_BLOCKS_L, 1, 0, 8, .ctr, 0x8000FFFFFFFFFFFF, 0⟩,
   ⟨.codec, R.CODEC_ENC_BLOCKS_Q, 1, 0, 8, .ctr, 0x8000FFFFFFFFFFFF, 0⟩,
   ⟨.codec, R.CODEC_ENC_ESCAPED, 1, 0, 8, .ctr, 0x8000FFFFFFFFFFFF, 0⟩,
   ⟨.codec, R.CODEC_ENC_CLAMPED, 1, 0, 8, .ctr, 0x8000FFFFFFFFFFFF, 0⟩,
   ⟨.codec, R.CODEC_DEC_FRAMES, 1, 0, 8, .ctr, 0x8000FFFFFFFFFFFF, 0⟩,
   ⟨.codec, R.CODEC_DEC_BAD_OP, 1, 0, 8, .ctr, 0x8000FFFFFFFFFFFF, 0⟩,
   ⟨.codec, R.CODEC_DEC_BAD_LENGTH, 1, 0, 8, .ctr, 0x8000FFFFFFFFFFFF, 0⟩,
   ⟨.codec, R.CODEC_DEC_BAD_HEADER, 1, 0, 8, .ctr, 0x8000FFFFFFFFFFFF, 0⟩,
   ⟨.codec, R.CODEC_DEC_BAD_CODE, 1, 0, 8, .ctr, 0x8000FFFFFFFFFFFF, 0⟩,
   ⟨.codec, R.CODEC_ACC_FRAMES, 1, 0, 8, .ctr, 0x8000FFFFFFFFFFFF, 0⟩,
   ⟨.codec, R.CODEC_ACC_ELEMENTS, 1, 0, 8, .ctr, 0x8000FFFFFFFFFFFF, 0⟩,
   ⟨.codec, R.CODEC_ACC_NAN, 1, 0, 8, .ctr, 0x8000FFFFFFFFFFFF, 0⟩,
   ⟨.codec, R.CODEC_ACC_OVERFLOW, 1, 0, 8, .ctr, 0x8000FFFFFFFFFFFF, 0⟩,
   ⟨.codec, R.CODEC_TEST_RUNS, 1, 0, 8, .ctr, 0x8000FFFFFFFFFFFF, 0⟩]
/-- Registers of the MOVER page. -/
def regRows_mover : List RegRow :=
  [⟨.mover, R.MOVER_CH_SEL, 1, 0, 4, .rw, 0xFF, 0⟩,
   ⟨.mover, R.MOVER_CH_RING_BASE, 1, 0, 8, .rw, 0xFFFFFFFFFFFF, 18⟩,
   ⟨.mover, R.MOVER_CH_RING_CFG, 1, 0, 4, .rw, 0xFFFF000F, 18⟩,
   ⟨.mover, R.MOVER_CH_CTRL, 1, 0, 4, .rw, 0x7, 18⟩,
   ⟨.mover, R.MOVER_CH_PRIO, 1, 0, 4, .rws, 0x3, 18⟩,
   ⟨.mover, R.MOVER_CH_EVENT, 1, 0, 4, .rws, 0xBF, 18⟩,
   ⟨.mover, R.MOVER_CH_WATCH, 1, 0, 4, .rws, 0x7FFF0003, 18⟩,
   ⟨.mover, R.MOVER_CH_LOW, 1, 0, 4, .rws, 0xFFFFFFFF, 18⟩,
   ⟨.mover, R.MOVER_CH_HIGH, 1, 0, 4, .rws, 0xFFFFFFFF, 18⟩,
   ⟨.mover, R.MOVER_CH_INDEX, 1, 0, 4, .rw, 0xFFF, 18⟩,
   ⟨.mover, R.MOVER_CH_STATUS, 1, 0, 4, .ro, 0x0, 18⟩,
   ⟨.mover, R.MOVER_CH_ERR, 1, 0, 4, .ro, 0x0, 18⟩,
   ⟨.mover, R.MOVER_CH_HANDOVER_SET, 1, 0, 4, .ro, 0x0, 18⟩,
   ⟨.mover, R.MOVER_CH_LEVEL, 1, 0, 4, .ro, 0x0, 18⟩,
   ⟨.mover, R.MOVER_CH_LEFT, 1, 0, 4, .ro, 0x0, 18⟩,
   ⟨.mover, R.MOVER_CH_DESC_DONE, 1, 0, 8, .ro, 0x0, 18⟩,
   ⟨.mover, R.MOVER_CH_BYTES, 1, 0, 8, .ro, 0x0, 18⟩,
   ⟨.mover, R.MOVER_HALTED_MAP, 4, 8, 8, .ro, 0x0, 18⟩,
   ⟨.mover, R.MOVER_DESC_DONE, 1, 0, 8, .ctr, 0x8000FFFFFFFFFFFF, 18⟩,
   ⟨.mover, R.MOVER_BYTES_MOVED, 1, 0, 8, .ctr, 0x8000FFFFFFFFFFFF, 18⟩,
   ⟨.mover, R.MOVER_BURSTS, 1, 0, 8, .ctr, 0x8000FFFFFFFFFFFF, 18⟩,
   ⟨.mover, R.MOVER_PULSES, 1, 0, 8, .ctr, 0x8000FFFFFFFFFFFF, 18⟩,
   ⟨.mover, R.MOVER_HALTS, 1, 0, 8, .ctr, 0x8000FFFFFFFFFFFF, 18⟩,
   ⟨.mover, R.MOVER_LATE_ERRORS, 1, 0, 8, .ctr, 0x8000FFFFFFFFFFFF, 18⟩,
   ⟨.mover, R.MOVER_PACE_STOPS, 1, 0, 8, .ctr, 0x8000FFFFFFFFFFFF, 18⟩,
   ⟨.mover, R.MOVER_DISABLES_DROPPED, 1, 0, 8, .ctr, 0x8000FFFFFFFFFFFF, 18⟩]
/-- Registers of the MEM page. -/
def regRows_mem : List RegRow :=
  [⟨.mem, R.MEM_SCRUB_CFG, 1, 0, 4, .rw, 0xFFFF, 0⟩,
   ⟨.mem, R.MEM_LAND_POISONED, 1, 0, 8, .ctr, 0x8000FFFFFFFFFFFF, 0⟩,
   ⟨.mem, R.MEM_SCRUB_LINES, 1, 0, 8, .ctr, 0x8000FFFFFFFFFFFF, 0⟩]
/-- Registers of the DDR page. -/
def regRows_ddr : List RegRow :=
  [⟨.ddr, R.DDR_TRAIN_CTRL, 1, 0, 4, .wo, 0x1, 0⟩,
   ⟨.ddr, R.DDR_TRAIN_STATUS, 1, 0, 4, .ro, 0x0, 0⟩,
   ⟨.ddr, R.DDR_TRAIN_RUNS, 1, 0, 8, .ctr, 0x8000FFFFFFFFFFFF, 0⟩,
   ⟨.ddr, R.DDR_TRAIN_FAILURES, 1, 0, 8, .ctr, 0x8000FFFFFFFFFFFF, 0⟩]
/-- Registers of the EVT page. -/
def regRows_evt : List RegRow :=
  [⟨.evt, R.EVT_LINE_OWNER, 64, 4, 4, .ro, 0x0, 0⟩,
   ⟨.evt, R.EVT_PIN_OWNER, 32, 4, 4, .ro, 0x0, 0⟩,
   ⟨.evt, R.EVT_PIN_CFG, 32, 4, 4, .rw, 0xFF3F07, 0⟩,
   ⟨.evt, R.EVT_PIN_STAMP, 32, 8, 8, .ro, 0x0, 0⟩,
   ⟨.evt, R.EVT_EVENT_RX_LINES, 1, 0, 8, .rw, 0xFFFFFFFFFFFFFFFF, 24⟩,
   ⟨.evt, R.EVT_EVENT_GEN0, 16, 16, 8, .rw, 0x7FFFFFFFFFFFBF, 24⟩,
   ⟨.evt, R.EVT_EVENT_GEN1, 16, 16, 8, .rw, 0xFFFFFF, 24⟩,
   ⟨.evt, R.EVT_EVENT_GEN_FRAMES, 1, 0, 8, .ctr, 0x8000FFFFFFFFFFFF, 0⟩,
   ⟨.evt, R.EVT_EVENT_GEN_MERGED, 1, 0, 8, .ctr, 0x8000FFFFFFFFFFFF, 0⟩,
   ⟨.evt, R.EVT_EVENT_GEN_NO_ENTRY, 1, 0, 8, .ctr, 0x8000FFFFFFFFFFFF, 0⟩,
   ⟨.evt, R.EVT_EVENT_RX, 1, 0, 8, .ctr, 0x8000FFFFFFFFFFFF, 0⟩,
   ⟨.evt, R.EVT_EVENT_RX_LATE, 1, 0, 8, .ctr, 0x8000FFFFFFFFFFFF, 0⟩,
   ⟨.evt, R.EVT_EVENT_RX_REFUSED, 1, 0, 8, .ctr, 0x8000FFFFFFFFFFFF, 0⟩,
   ⟨.evt, R.EVT_EVENT_RX_OVERFLOW, 1, 0, 8, .ctr, 0x8000FFFFFFFFFFFF, 0⟩,
   ⟨.evt, R.EVT_PIN_EDGES, 1, 0, 8, .ctr, 0x8000FFFFFFFFFFFF, 0⟩,
   ⟨.evt, R.EVT_PIN_PULSES, 1, 0, 8, .ctr, 0x8000FFFFFFFFFFFF, 0⟩]
/-- Registers of the CNT page. -/
def regRows_cnt : List RegRow :=
  [⟨.cnt, R.CNT_DAILIES_CFG, 1, 0, 4, .rw, 0x1FFFFFF, 19⟩,
   ⟨.cnt, R.CNT_DAILIES_CTRL, 1, 0, 4, .wo, 0x1, 19⟩,
   ⟨.cnt, R.CNT_RING_BASE, 1, 0, 8, .rw, 0xFFFFFFFFFFFF, 19⟩,
   ⟨.cnt, R.CNT_RING_CFG, 1, 0, 4, .rw, 0xF, 19⟩,
   ⟨.cnt, R.CNT_SLOT_BYTES, 1, 0, 4, .ro, 0x0, 19⟩,
   ⟨.cnt, R.CNT_RING_HEAD, 1, 0, 4, .rw, 0xFFFFFFFF, 19⟩,
   ⟨.cnt, R.CNT_RING_TAIL, 1, 0, 4, .ro, 0x0, 19⟩,
   ⟨.cnt, R.CNT_LAST_SEQ, 1, 0, 8, .ro, 0x0, 19⟩,
   ⟨.cnt, R.CNT_OTHER_BIN, 64, 8, 8, .ro, 0x0, 20⟩,
   ⟨.cnt, R.CNT_OTHER_ORIGIN, 1, 0, 4, .rw, 0xFFF, 20⟩,
   ⟨.cnt, R.CNT_OTHER_CTRL, 1, 0, 4, .wo, 0x1, 20⟩,
   ⟨.cnt, R.CNT_OTHER_MIN, 1, 0, 8, .ro, 0x0, 20⟩,
   ⟨.cnt, R.CNT_OTHER_MAX, 1, 0, 8, .ro, 0x0, 20⟩,
   ⟨.cnt, R.CNT_DUMPS_WRITTEN, 1, 0, 8, .ctr, 0x8000FFFFFFFFFFFF, 19⟩,
   ⟨.cnt, R.CNT_DUMPS_SKIPPED_FULL, 1, 0, 8, .ctr, 0x8000FFFFFFFFFFFF, 19⟩,
   ⟨.cnt, R.CNT_DUMPS_SKIPPED_BUSY, 1, 0, 8, .ctr, 0x8000FFFFFFFFFFFF, 19⟩,
   ⟨.cnt, R.CNT_DUMPS_SKIPPED_NO_DDR, 1, 0, 8, .ctr, 0x8000FFFFFFFFFFFF, 19⟩,
   ⟨.cnt, R.CNT_WRAPPED_AFTER, 1, 0, 8, .ctr, 0x8000FFFFFFFFFFFF, 19⟩]
/-- Registers of the TRACE page. -/
def regRows_trace : List RegRow :=
  [⟨.trace, R.TRACE_RING_BASE, 1, 0, 8, .rw, 0xFFFFFFFFFFFF, 21⟩,
   ⟨.trace, R.TRACE_RING_CFG, 1, 0, 4, .rw, 0xFFFF001F, 21⟩,
   ⟨.trace, R.TRACE_RING_HEAD, 1, 0, 4, .rw, 0xFFFFFFFF, 21⟩,
   ⟨.trace, R.TRACE_RING_TAIL, 1, 0, 4, .ro, 0x0, 21⟩,
   ⟨.trace, R.TRACE_SYNC_CFG, 1, 0, 4, .rw, 0xFFFFFF, 21⟩,
   ⟨.trace, R.TRACE_SW_CTRL, 1, 0, 4, .wo, 0x1, 21⟩,
   ⟨.trace, R.TRACE_SW_WORD, 3, 8, 8, .rw, 0xFFFFFFFFFFFFFFFF, 21⟩,
   ⟨.trace, R.TRACE_SRC_FILTER, 69, 16, 8, .rw, 0xFFFFFFFFFFFFFF01, 21⟩,
   ⟨.trace, R.TRACE_SRC_RATE, 69, 16, 4, .rw, 0xFFFFFFFF, 21⟩,
   ⟨.trace, R.TRACE_RECORDS_WRITTEN, 1, 0, 8, .ctr, 0x8000FFFFFFFFFFFF, 21⟩,
   ⟨.trace, R.TRACE_LOST_RATE, 1, 0, 8, .ctr, 0x8000FFFFFFFFFFFF, 21⟩,
   ⟨.trace, R.TRACE_LOST_FULL, 1, 0, 8, .ctr, 0x8000FFFFFFFFFFFF, 21⟩,
   ⟨.trace, R.TRACE_GAPS_WRITTEN, 1, 0, 8, .ctr, 0x8000FFFFFFFFFFFF, 21⟩,
   ⟨.trace, R.TRACE_ALARM_RECORDS, 1, 0, 8, .ctr, 0x8000FFFFFFFFFFFF, 21⟩,
   ⟨.trace, R.TRACE_ALARM_RECORDS_LOST, 1, 0, 8, .ctr, 0x8000FFFFFFFFFFFF, 21⟩]
/-- Registers of the ALARM page. -/
def regRows_alarm : List RegRow :=
  [⟨.alarm, R.ALARM_CFG, 1, 0, 4, .rw, 0xF0FFFFF, 0⟩,
   ⟨.alarm, R.ALARM_KEY_SEL, 1, 0, 4, .rw, 0x3FF, 0⟩,
   ⟨.alarm, R.ALARM_VIEW_KEY, 1, 0, 8, .ro, 0x0, 0⟩,
   ⟨.alarm, R.ALARM_VIEW_COUNT, 1, 0, 8, .ro, 0x0, 0⟩,
   ⟨.alarm, R.ALARM_VIEW_FIRST_NS, 1, 0, 8, .ro, 0x0, 0⟩,
   ⟨.alarm, R.ALARM_VIEW_LAST_NS, 1, 0, 8, .ro, 0x0, 0⟩,
   ⟨.alarm, R.ALARM_VIEW_DETAIL, 1, 0, 8, .ro, 0x0, 0⟩,
   ⟨.alarm, R.ALARM_VIEW_NOTIFY_NS, 1, 0, 8, .ro, 0x0, 0⟩,
   ⟨.alarm, R.ALARM_KEY_CTRL, 1, 0, 4, .wo, 0x1, 0⟩,
   ⟨.alarm, R.ALARM_KEYS_IN_USE, 1, 0, 4, .ro, 0x0, 0⟩,
   ⟨.alarm, R.ALARM_USED_MAP, 16, 8, 8, .ro, 0x0, 0⟩,
   ⟨.alarm, R.ALARM_PENDING_MAP, 16, 8, 8, .w1c, 0xFFFFFFFFFFFFFFFF, 0⟩,
   ⟨.alarm, R.ALARM_OCCURRENCES, 1, 0, 8, .ctr, 0x8000FFFFFFFFFFFF, 0⟩,
   ⟨.alarm, R.ALARM_KEYS_OPENED, 1, 0, 8, .ctr, 0x8000FFFFFFFFFFFF, 0⟩,
   ⟨.alarm, R.ALARM_NOTIFICATIONS, 1, 0, 8, .ctr, 0x8000FFFFFFFFFFFF, 0⟩,
   ⟨.alarm, R.ALARM_OVERFLOW_OCCURRENCES, 1, 0, 8, .ctr, 0x8000FFFFFFFFFFFF, 0⟩,
   ⟨.alarm, R.ALARM_RELEASES_REFUSED, 1, 0, 8, .ctr, 0x8000FFFFFFFFFFFF, 0⟩]
/-- Registers of the FAULT page. -/
def regRows_fault : List RegRow :=
  [⟨.fault, R.FAULT_CFG, 1, 0, 4, .rw, 0xFFFFFF, 22⟩,
   ⟨.fault, R.FAULT_AGG_CFG, 1, 0, 4, .rw, 0xFFFFFF, 22⟩,
   ⟨.fault, R.FAULT_TX_CFG, 1, 0, 8, .rw, 0x1FFFFFFFFF, 22⟩,
   ⟨.fault, R.FAULT_TX_CODE_EN, 1, 0, 4, .rw, 0xFFE, 22⟩,
   ⟨.fault, R.FAULT_LATE_BURST, 1, 0, 4, .rw, 0xFFFF, 22⟩,
   ⟨.fault, R.FAULT_REPORTER_BASE, 1, 0, 8, .rw, 0xFFFFFFFFFFFF, 22⟩,
   ⟨.fault, R.FAULT_ENTRY_SEL, 1, 0, 4, .rw, 0xFFF, 0⟩,
   ⟨.fault, R.FAULT_VIEW_KEY, 1, 0, 8, .ro, 0x0, 22⟩,
   ⟨.fault, R.FAULT_VIEW_REPORTS, 1, 0, 8, .ro, 0x0, 22⟩,
   ⟨.fault, R.FAULT_VIEW_REPORTERS, 1, 0, 8, .ro, 0x0, 22⟩,
   ⟨.fault, R.FAULT_VIEW_FIRST, 1, 0, 8, .ro, 0x0, 22⟩,
   ⟨.fault, R.FAULT_VIEW_LAST, 1, 0, 8, .ro, 0x0, 22⟩,
   ⟨.fault, R.FAULT_VIEW_DETAIL, 1, 0, 8, .ro, 0x0, 22⟩,
   ⟨.fault, R.FAULT_ENTRY_CTRL, 1, 0, 4, .wo, 0x1, 22⟩,
   ⟨.fault, R.FAULT_ENTRIES_IN_USE, 1, 0, 4, .ro, 0x0, 22⟩,
   ⟨.fault, R.FAULT_SW_FAULT0, 1, 0, 8, .rw, 0xFFFFFF07FFFFFF, 22⟩,
   ⟨.fault, R.FAULT_SW_FAULT1, 1, 0, 8, .rw, 0xFFFFFFFFFFFFFFFF, 22⟩,
   ⟨.fault, R.FAULT_SW_CTRL, 1, 0, 4, .wo, 0x1, 22⟩,
   ⟨.fault, R.FAULT_USED_MAP, 64, 8, 8, .ro, 0x0, 22⟩,
   ⟨.fault, R.FAULT_RX_REPORTS, 1, 0, 8, .ctr, 0x8000FFFFFFFFFFFF, 22⟩,
   ⟨.fault, R.FAULT_RX_UNKNOWN_CODE, 1, 0, 8, .ctr, 0x8000FFFFFFFFFFFF, 22⟩,
   ⟨.fault, R.FAULT_RX_RESOLVED_UNKNOWN, 1, 0, 8, .ctr, 0x8000FFFFFFFFFFFF, 22⟩,
   ⟨.fault, R.FAULT_RX_NOT_READY, 1, 0, 8, .ctr, 0x8000FFFFFFFFFFFF, 22⟩,
   ⟨.fault, R.FAULT_ENTRIES_OPENED, 1, 0, 8, .ctr, 0x8000FFFFFFFFFFFF, 22⟩,
   ⟨.fault, R.FAULT_ENTRIES_REUSED, 1, 0, 8, .ctr, 0x8000FFFFFFFFFFFF, 22⟩,
   ⟨.fault, R.FAULT_AGG_OVERFLOWS, 1, 0, 8, .ctr, 0x8000FFFFFFFFFFFF, 22⟩,
   ⟨.fault, R.FAULT_AGG_QUEUE_FULL, 1, 0, 8, .ctr, 0x8000FFFFFFFFFFFF, 22⟩,
   ⟨.fault, R.FAULT_TX_SENT, 1, 0, 8, .ctr, 0x8000FFFFFFFFFFFF, 22⟩,
   ⟨.fault, R.FAULT_TX_RESOLVED, 1, 0, 8, .ctr, 0x8000FFFFFFFFFFFF, 22⟩,
   ⟨.fault, R.FAULT_TX_NO_SLOT, 1, 0, 8, .ctr, 0x8000FFFFFFFFFFFF, 22⟩,
   ⟨.fault, R.FAULT_TX_NO_SUBJECT, 1, 0, 8, .ctr, 0x8000FFFFFFFFFFFF, 22⟩,
   ⟨.fault, R.FAULT_TX_FAILED, 1, 0, 8, .ctr, 0x8000FFFFFFFFFFFF, 22⟩]
/-- Registers of the MGMT page. -/
def regRows_mgmt : List RegRow :=
  [⟨.mgmt, R.MGMT_PPS_IN_CTRL, 1, 0, 4, .rw, 0x3, 23⟩,
   ⟨.mgmt, R.MGMT_PPS_IN_NS, 1, 0, 8, .ro, 0x0, 23⟩,
   ⟨.mgmt, R.MGMT_PPS_IN_SEQ, 1, 0, 4, .ro, 0x0, 23⟩,
   ⟨.mgmt, R.MGMT_PPS_OUT_CTRL, 1, 0, 4, .rw, 0xFFFFF3, 23⟩,
   ⟨.mgmt, R.MGMT_PPS_OUT_PERIOD, 1, 0, 8, .rw, 0xFFFFFFFFFFFFFFFF, 23⟩,
   ⟨.mgmt, R.MGMT_MAC_CFG, 1, 0, 4, .rw, 0x1F, 0⟩,
   ⟨.mgmt, R.MGMT_MAC_STATUS, 1, 0, 4, .ro, 0x0, 0⟩,
   ⟨.mgmt, R.MGMT_MAC_ADDR, 1, 0, 8, .rw, 0xFFFFFFFFFFFF, 0⟩,
   ⟨.mgmt, R.MGMT_TX_RING_BASE, 1, 0, 8, .rw, 0xFFFFFFFFFFFF, 0⟩,
   ⟨.mgmt, R.MGMT_TX_RING_CFG, 1, 0, 4, .rw, 0xF, 0⟩,
   ⟨.mgmt, R.MGMT_TX_CTRL, 1, 0, 4, .wo, 0x1, 0⟩,
   ⟨.mgmt, R.MGMT_RX_RING_BASE, 1, 0, 8, .rw, 0xFFFFFFFFFFFF, 0⟩,
   ⟨.mgmt, R.MGMT_RX_RING_CFG, 1, 0, 4, .rw, 0xF, 0⟩,
   ⟨.mgmt, R.MGMT_RX_CTRL, 1, 0, 4, .wo, 0x1, 0⟩,
   ⟨.mgmt, R.MGMT_TX_INDEX, 1, 0, 4, .ro, 0x0, 0⟩,
   ⟨.mgmt, R.MGMT_RX_INDEX, 1, 0, 4, .ro, 0x0, 0⟩,
   ⟨.mgmt, R.MGMT_TX_FRAMES, 1, 0, 8, .ctr, 0x8000FFFFFFFFFFFF, 0⟩,
   ⟨.mgmt, R.MGMT_RX_FRAMES, 1, 0, 8, .ctr, 0x8000FFFFFFFFFFFF, 0⟩,
   ⟨.mgmt, R.MGMT_RX_FCS_ERR, 1, 0, 8, .ctr, 0x8000FFFFFFFFFFFF, 0⟩,
   ⟨.mgmt, R.MGMT_RX_TOO_LONG, 1, 0, 8, .ctr, 0x8000FFFFFFFFFFFF, 0⟩,
   ⟨.mgmt, R.MGMT_RX_NO_DESC, 1, 0, 8, .ctr, 0x8000FFFFFFFFFFFF, 0⟩,
   ⟨.mgmt, R.MGMT_RX_FILTERED, 1, 0, 8, .ctr, 0x8000FFFFFFFFFFFF, 0⟩]
/-- Registers of the PWR page. -/
def regRows_pwr : List RegRow :=
  [⟨.pwr, R.PWR_RESET_CAUSE, 1, 0, 4, .w1c, 0x1F, 0⟩,
   ⟨.pwr, R.PWR_STRAPS, 1, 0, 4, .ro, 0x0, 0⟩,
   ⟨.pwr, R.PWR_RAIL_STATUS, 1, 0, 4, .ro, 0x0, 0⟩,
   ⟨.pwr, R.PWR_THERM_STATUS, 1, 0, 4, .ro, 0x0, 0⟩,
   ⟨.pwr, R.PWR_VIN_MV, 1, 0, 4, .ro, 0x0, 0⟩,
   ⟨.pwr, R.PWR_IIN, 1, 0, 4, .ro, 0x0, 0⟩,
   ⟨.pwr, R.PWR_PIN, 1, 0, 4, .ro, 0x0, 0⟩,
   ⟨.pwr, R.PWR_TEMP, 16, 4, 4, .ro, 0x0, 0⟩,
   ⟨.pwr, R.PWR_THROTTLE_ENTRIES, 1, 0, 8, .ctr, 0x8000FFFFFFFFFFFF, 0⟩,
   ⟨.pwr, R.PWR_THROTTLE_US, 1, 0, 8, .ctr, 0x8000FFFFFFFFFFFF, 0⟩]
/-- Registers of the SEC page. -/
def regRows_sec : List RegRow :=
  [⟨.sec, R.SEC_BOOT_STATUS, 1, 0, 4, .ro, 0x0, 0⟩,
   ⟨.sec, R.SEC_BOOT_LOCK, 1, 0, 4, .ro, 0x0, 0⟩,
   ⟨.sec, R.SEC_FUSE_STATUS, 1, 0, 4, .ro, 0x0, 0⟩,
   ⟨.sec, R.SEC_KEY_STAGE, 6, 8, 8, .rw, 0xFFFFFFFFFFFFFFFF, 0⟩,
   ⟨.sec, R.SEC_FUSE_CTRL, 1, 0, 4, .wo, 0x7F37, 0⟩,
   ⟨.sec, R.SEC_KEY_HASH, 24, 8, 8, .ro, 0x0, 0⟩]
/-- Registers of the PGRP page. -/
def regRows_pgrp : List RegRow :=
  [⟨.pgrp, R.PGRP_TSQ_CTRL, 1, 0, 4, .rw, 0x1, 17⟩,
   ⟨.pgrp, R.PGRP_TSQ_OWNER, 1, 0, 4, .ro, 0x0, 0⟩,
   ⟨.pgrp, R.PGRP_TSQ_LEVEL, 1, 0, 4, .ro, 0x0, 0⟩,
   ⟨.pgrp, R.PGRP_TS_CAPTURED, 1, 0, 8, .ctr, 0x8000FFFFFFFFFFFF, 0⟩,
   ⟨.pgrp, R.PGRP_TS_LOST_FULL, 1, 0, 8, .ctr, 0x8000FFFFFFFFFFFF, 0⟩,
   ⟨.pgrp, R.PGRP_TS_LOST_NOT_OWNED, 1, 0, 8, .ctr, 0x8000FFFFFFFFFFFF, 0⟩,
   ⟨.pgrp, R.PGRP_HIST_SEL, 1, 0, 4, .rw, 0x73, 20⟩,
   ⟨.pgrp, R.PGRP_ORIGIN_W2M, 1, 0, 4, .rw, 0xFFF, 20⟩,
   ⟨.pgrp, R.PGRP_ORIGIN_G2W, 1, 0, 4, .rw, 0xFFF, 20⟩,
   ⟨.pgrp, R.PGRP_ORIGIN_J2C, 1, 0, 4, .rw, 0xFFF, 20⟩,
   ⟨.pgrp, R.PGRP_HIST_CTRL, 1, 0, 4, .wo, 0x3, 20⟩,
   ⟨.pgrp, R.PGRP_HIST_MIN, 1, 0, 8, .ro, 0x0, 20⟩,
   ⟨.pgrp, R.PGRP_HIST_MAX, 1, 0, 8, .ro, 0x0, 20⟩,
   ⟨.pgrp, R.PGRP_HIST_BIN, 64, 8, 8, .ro, 0x0, 20⟩,
   ⟨.pgrp, R.PGRP_PORT_INT_SUMMARY, 1, 0, 4, .ro, 0x0, 0⟩]
/-- Registers of the PORT page, part 1. -/
def regRows_port0 : List RegRow :=
  [⟨.port, R.PORT_TIME_CFG, 1, 0, 4, .rw, 0xF3, 0⟩,
   ⟨.port, R.PORT_DELAY_ASYM, 1, 0, 4, .rw, 0xFFFFFFFF, 0⟩,
   ⟨.port, R.PORT_LINK_DELAY, 1, 0, 4, .ro, 0x0, 0⟩,
   ⟨.port, R.PORT_CLAP_OFFSET, 1, 0, 4, .ro, 0x0, 0⟩,
   ⟨.port, R.PORT_CLAP_SEEN, 1, 0, 4, .ro, 0x0, 0⟩,
   ⟨.port, R.PORT_CLAP_TX, 1, 0, 8, .ctr, 0x8000FFFFFFFFFFFF, 0⟩,
   ⟨.port, R.PORT_CLAP_RX_VALID, 1, 0, 8, .ctr, 0x8000FFFFFFFFFFFF, 0⟩,
   ⟨.port, R.PORT_CLAP_RX_INVALID, 1, 0, 8, .ctr, 0x8000FFFFFFFFFFFF, 0⟩,
   ⟨.port, R.PORT_DELAY_REQ_TX, 1, 0, 8, .ctr, 0x8000FFFFFFFFFFFF, 0⟩,
   ⟨.port, R.PORT_DELAY_RESP_TX, 1, 0, 8, .ctr, 0x8000FFFFFFFFFFFF, 0⟩,
   ⟨.port, R.PORT_DELAY_ACCEPTED, 1, 0, 8, .ctr, 0x8000FFFFFFFFFFFF, 0⟩,
   ⟨.port, R.PORT_DELAY_REJECTED, 1, 0, 8, .ctr, 0x8000FFFFFFFFFFFF, 0⟩,
   ⟨.port, R.PORT_DELAY_TIMEOUT, 1, 0, 8, .ctr, 0x8000FFFFFFFFFFFF, 0⟩,
   ⟨.port, R.PORT_CLAIM_TABLE, 64, 8, 8, .ro, 0x0, 0⟩,
   ⟨.port, R.PORT_CLAIM_TX, 1, 0, 8, .ctr, 0x8000FFFFFFFFFFFF, 0⟩,
   ⟨.port, R.PORT_CLAIM_RX, 1, 0, 8, .ctr, 0x8000FFFFFFFFFFFF, 0⟩,
   ⟨.port, R.PORT_CLAIM_ACK_TX, 1, 0, 8, .ctr, 0x8000FFFFFFFFFFFF, 0⟩,
   ⟨.port, R.PORT_CLAIM_REFUSED_TX, 1, 0, 8, .ctr, 0x8000FFFFFFFFFFFF, 0⟩,
   ⟨.port, R.PORT_CLAIM_RELEASED, 1, 0, 8, .ctr, 0x8000FFFFFFFFFFFF, 0⟩,
   ⟨.port, R.PORT_CLAIM_DROPPED, 1, 0, 8, .ctr, 0x8000FFFFFFFFFFFF, 0⟩,
   ⟨.port, R.PORT_TX_HELD_DISCARD, 1, 0, 8, .ctr, 0x8000FFFFFFFFFFFF, 0⟩,
   ⟨.port, R.PORT_SPARE_UNCLAIMED, 1, 0, 8, .ctr, 0x8000FFFFFFFFFFFF, 0⟩,
   ⟨.port, R.PORT_TX_NODE_DISCARD, 1, 0, 8, .ctr, 0x8000FFFFFFFFFFFF, 0⟩,
   ⟨.port, R.PORT_GATE_NOW, 1, 0, 4, .ro, 0x0, 0⟩,
   ⟨.port, R.PORT_RX_EARLY, 1, 0, 8, .ctr, 0x8000FFFFFFFFFFFF, 0⟩,
   ⟨.port, R.PORT_RX_LATE, 1, 0, 8, .ctr, 0x8000FFFFFFFFFFFF, 0⟩,
   ⟨.port, R.PORT_RX_NO_SLOT, 1, 0, 8, .ctr, 0x8000FFFFFFFFFFFF, 0⟩,
   ⟨.port, R.PORT_TX_LATE_HEAD, 1, 0, 8, .ctr, 0x8000FFFFFFFFFFFF, 0⟩,
   ⟨.port, R.PORT_TX_DEFERRED, 1, 0, 8, .ctr, 0x8000FFFFFFFFFFFF, 0⟩,
   ⟨.port, R.PORT_TX_NO_FIT, 1, 0, 8, .ctr, 0x8000FFFFFFFFFFFF, 0⟩,
   ⟨.port, R.PORT_RX_NO_CYCLE, 1, 0, 8, .ctr, 0x8000FFFFFFFFFFFF, 0⟩,
   ⟨.port, R.PORT_LINK_CFG, 1, 0, 4, .rw, 0x1F, 0⟩,
   ⟨.port, R.PORT_LINK_CTRL, 1, 0, 4, .wo, 0x7, 0⟩,
   ⟨.port, R.PORT_LINK_STATUS, 1, 0, 4, .ro, 0x0, 0⟩,
   ⟨.port, R.PORT_LINK_FEAT_MASK, 1, 0, 8, .rw, 0xFFFFFFFFFFFFFFFF, 0⟩,
   ⟨.port, R.PORT_LINK_FEAT_OFFER, 1, 0, 8, .ro, 0x0, 0⟩,
   ⟨.port, R.PORT_LINK_FEAT_PARTNER, 1, 0, 8, .ro, 0x0, 0⟩,
   ⟨.port, R.PORT_LINK_FEAT_USED, 1, 0, 8, .ro, 0x0, 0⟩,
   ⟨.port, R.PORT_PARTNER_ID, 1, 0, 4, .ro, 0x0, 0⟩,
   ⟨.port, R.PORT_TRAIN_CFG, 1, 0, 4, .rw, 0xFFFFFF, 0⟩]
/-- Registers of the PORT page, part 2. -/
def regRows_port1 : List RegRow :=
  [⟨.port, R.PORT_HELLO_CFG, 1, 0, 4, .rw, 0xFFFFFF, 0⟩,
   ⟨.port, R.PORT_PAUSE_CFG, 1, 0, 4, .rw, 0xFFFF01, 4⟩,
   ⟨.port, R.PORT_PAUSE_STATUS, 1, 0, 4, .ro, 0x0, 0⟩,
   ⟨.port, R.PORT_ROOSTER_CFG, 1, 0, 4, .rw, 0x1, 5⟩,
   ⟨.port, R.PORT_WAKE_TARGET, 1, 0, 4, .rw, 0x1FFFF, 0⟩,
   ⟨.port, R.PORT_MAC_SA, 1, 0, 8, .rw, 0xFFFFFFFFFFFF, 0⟩,
   ⟨.port, R.PORT_MAC_DA, 1, 0, 8, .rw, 0xFFFFFFFFFFFF, 0⟩,
   ⟨.port, R.PORT_ETHERTYPE_IN_USE, 1, 0, 4, .ro, 0x0, 0⟩,
   ⟨.port, R.PORT_FEC_CW, 1, 0, 8, .ctr, 0x8000FFFFFFFFFFFF, 0⟩,
   ⟨.port, R.PORT_FEC_CW_CORRECTED, 1, 0, 8, .ctr, 0x8000FFFFFFFFFFFF, 0⟩,
   ⟨.port, R.PORT_FEC_CW_UNCORR, 1, 0, 8, .ctr, 0x8000FFFFFFFFFFFF, 0⟩,
   ⟨.port, R.PORT_FEC_SYM_CORRECTED, 1, 0, 8, .ctr, 0x8000FFFFFFFFFFFF, 0⟩,
   ⟨.port, R.PORT_FEC_PAD_ERR, 1, 0, 8, .ctr, 0x8000FFFFFFFFFFFF, 0⟩,
   ⟨.port, R.PORT_RX_FEC_DISCARD, 1, 0, 8, .ctr, 0x8000FFFFFFFFFFFF, 0⟩,
   ⟨.port, R.PORT_RX_FCS_ERR, 1, 0, 8, .ctr, 0x8000FFFFFFFFFFFF, 0⟩,
   ⟨.port, R.PORT_RX_UNDERSIZE, 1, 0, 8, .ctr, 0x8000FFFFFFFFFFFF, 0⟩,
   ⟨.port, R.PORT_RX_OVERSIZE, 1, 0, 8, .ctr, 0x8000FFFFFFFFFFFF, 0⟩,
   ⟨.port, R.PORT_RX_MAC_CTRL_OTHER, 1, 0, 8, .ctr, 0x8000FFFFFFFFFFFF, 0⟩,
   ⟨.port, R.PORT_RX_PAUSE_IGNORED, 1, 0, 8, .ctr, 0x8000FFFFFFFFFFFF, 0⟩,
   ⟨.port, R.PORT_RX_PAUSE_OBEYED, 1, 0, 8, .ctr, 0x8000FFFFFFFFFFFF, 0⟩,
   ⟨.port, R.PORT_PAUSE_WINDOW_LOST, 1, 0, 8, .ctr, 0x8000FFFFFFFFFFFF, 0⟩,
   ⟨.port, R.PORT_RX_NOT_AGREED, 1, 0, 8, .ctr, 0x8000FFFFFFFFFFFF, 0⟩,
   ⟨.port, R.PORT_TX_LINK_DOWN, 1, 0, 8, .ctr, 0x8000FFFFFFFFFFFF, 0⟩,
   ⟨.port, R.PORT_LINK_DOWNS, 1, 0, 8, .ctr, 0x8000FFFFFFFFFFFF, 0⟩,
   ⟨.port, R.PORT_TRAIN_FAILS, 1, 0, 8, .ctr, 0x8000FFFFFFFFFFFF, 0⟩,
   ⟨.port, R.PORT_HELLO_TIMEOUTS, 1, 0, 8, .ctr, 0x8000FFFFFFFFFFFF, 0⟩,
   ⟨.port, R.PORT_LL_SWITCH_FAILS, 1, 0, 8, .ctr, 0x8000FFFFFFFFFFFF, 0⟩,
   ⟨.port, R.PORT_WAKES, 1, 0, 8, .ctr, 0x8000FFFFFFFFFFFF, 0⟩,
   ⟨.port, R.PORT_WAKE_LATE, 1, 0, 8, .ctr, 0x8000FFFFFFFFFFFF, 0⟩,
   ⟨.port, R.PORT_ROOSTER_REJECTED, 1, 0, 8, .ctr, 0x8000FFFFFFFFFFFF, 0⟩,
   ⟨.port, R.PORT_RX_NOT_UP, 1, 0, 8, .ctr, 0x8000FFFFFFFFFFFF, 0⟩,
   ⟨.port, R.PORT_PREEMPT_CFG, 1, 0, 4, .rw, 0xFFFF37, 3⟩,
   ⟨.port, R.PORT_PREEMPT_STATUS, 1, 0, 4, .ro, 0x0, 0⟩,
   ⟨.port, R.PORT_TX_PMAC_FRAMES, 1, 0, 8, .ctr, 0x8000FFFFFFFFFFFF, 0⟩,
   ⟨.port, R.PORT_TX_FRAGMENTS, 1, 0, 8, .ctr, 0x8000FFFFFFFFFFFF, 0⟩,
   ⟨.port, R.PORT_TX_PREEMPT_EXPRESS, 1, 0, 8, .ctr, 0x8000FFFFFFFFFFFF, 0⟩,
   ⟨.port, R.PORT_TX_PREEMPT_CLOSE, 1, 0, 8, .ctr, 0x8000FFFFFFFFFFFF, 0⟩,
   ⟨.port, R.PORT_TX_PREEMPT_PAUSE, 1, 0, 8, .ctr, 0x8000FFFFFFFFFFFF, 0⟩,
   ⟨.port, R.PORT_TX_REMAINDER_ABANDONED, 1, 0, 8, .ctr, 0x8000FFFFFFFFFFFF, 0⟩,
   ⟨.port, R.PORT_VERIFY_TX, 1, 0, 8, .ctr, 0x8000FFFFFFFFFFFF, 0⟩]
/-- Registers of the PORT page, part 3. -/
def regRows_port2 : List RegRow :=
  [⟨.port, R.PORT_RESPOND_TX, 1, 0, 8, .ctr, 0x8000FFFFFFFFFFFF, 0⟩,
   ⟨.port, R.PORT_RX_PMAC_FRAMES, 1, 0, 8, .ctr, 0x8000FFFFFFFFFFFF, 0⟩,
   ⟨.port, R.PORT_RX_FRAGMENTS, 1, 0, 8, .ctr, 0x8000FFFFFFFFFFFF, 0⟩,
   ⟨.port, R.PORT_RX_REASM_SEQ_ERR, 1, 0, 8, .ctr, 0x8000FFFFFFFFFFFF, 0⟩,
   ⟨.port, R.PORT_RX_REASM_CRC_ERR, 1, 0, 8, .ctr, 0x8000FFFFFFFFFFFF, 0⟩,
   ⟨.port, R.PORT_RX_REASM_SHORT, 1, 0, 8, .ctr, 0x8000FFFFFFFFFFFF, 0⟩,
   ⟨.port, R.PORT_RX_REASM_ORPHAN, 1, 0, 8, .ctr, 0x8000FFFFFFFFFFFF, 0⟩,
   ⟨.port, R.PORT_RX_REASM_ABORTED, 1, 0, 8, .ctr, 0x8000FFFFFFFFFFFF, 0⟩,
   ⟨.port, R.PORT_VERIFY_FAILS, 1, 0, 8, .ctr, 0x8000FFFFFFFFFFFF, 0⟩,
   ⟨.port, R.PORT_RX_NO_ROUTE, 1, 0, 8, .ctr, 0x8000FFFFFFFFFFFF, 0⟩,
   ⟨.port, R.PORT_RELAY_RX, 1, 0, 8, .ctr, 0x8000FFFFFFFFFFFF, 0⟩,
   ⟨.port, R.PORT_RELAY_HAIRPIN, 1, 0, 8, .ctr, 0x8000FFFFFFFFFFFF, 0⟩,
   ⟨.port, R.PORT_REPLICA_TX, 1, 0, 8, .ctr, 0x8000FFFFFFFFFFFF, 0⟩,
   ⟨.port, R.PORT_TX_STOMPED, 1, 0, 8, .ctr, 0x8000FFFFFFFFFFFF, 0⟩,
   ⟨.port, R.PORT_RX_ITPITOS, 1, 0, 8, .ctr, 0x8000FFFFFFFFFFFF, 0⟩,
   ⟨.port, R.PORT_RX_HDR_VERSION, 1, 0, 8, .ctr, 0x8000FFFFFFFFFFFF, 0⟩,
   ⟨.port, R.PORT_RX_HDR_TYPE, 1, 0, 8, .ctr, 0x8000FFFFFFFFFFFF, 0⟩,
   ⟨.port, R.PORT_RX_HDR_MALFORMED, 1, 0, 8, .ctr, 0x8000FFFFFFFFFFFF, 0⟩,
   ⟨.port, R.PORT_RX_HDR_FEATURE, 1, 0, 8, .ctr, 0x8000FFFFFFFFFFFF, 0⟩,
   ⟨.port, R.PORT_RX_OWN_SOURCE, 1, 0, 8, .ctr, 0x8000FFFFFFFFFFFF, 0⟩,
   ⟨.port, R.PORT_TX_NOT_AGREED, 1, 0, 8, .ctr, 0x8000FFFFFFFFFFFF, 0⟩,
   ⟨.port, R.PORT_CLAIM_ANSWER_STRAY, 1, 0, 8, .ctr, 0x8000FFFFFFFFFFFF, 0⟩]
/-- Registers of the PORT page. -/
def regRows_port : List RegRow := regRows_port0 ++ regRows_port1 ++ regRows_port2
/-- Registers of the MCH page. -/
def regRows_mch : List RegRow :=
  [⟨.mch, R.MCH_ECC_CORRECTED, 1, 0, 8, .ctr, 0x8000FFFFFFFFFFFF, 0⟩,
   ⟨.mch, R.MCH_ECC_UNCORR, 1, 0, 8, .ctr, 0x8000FFFFFFFFFFFF, 0⟩]
/-- The register table of a block type. -/
def regRows : PageKind → List RegRow
  | .global => regRows_global
  | .time => regRows_time
  | .cycle => regRows_cycle
  | .stream => regRows_stream
  | .xfer => regRows_xfer
  | .lz => regRows_lz
  | .codec => regRows_codec
  | .mover => regRows_mover
  | .mem => regRows_mem
  | .ddr => regRows_ddr
  | .evt => regRows_evt
  | .cnt => regRows_cnt
  | .trace => regRows_trace
  | .alarm => regRows_alarm
  | .fault => regRows_fault
  | .mgmt => regRows_mgmt
  | .pwr => regRows_pwr
  | .sec => regRows_sec
  | .pgrp => regRows_pgrp
  | .port => regRows_port
  | .mch => regRows_mch

/-- The row that holds a page offset, and the number of the register in it. -/
def findRow (k : PageKind) (po : Nat) : Option (RegRow × Nat) :=
  (regRows k).findSome? fun r =>
    if r.count = 1 then (if r.off = po then some (r, 0) else none)
    else if r.off ≤ po ∧ (po - r.off) % r.stride = 0 ∧ (po - r.off) / r.stride < r.count
      then some (r, (po - r.off) / r.stride) else none

/-- Registers whose reset value is not 0: block type, page offset, count, stride, value. -/
def resetRows : List (PageKind × Nat × Nat × Nat × Nat) :=
  [(.time, R.TIME_SERVO_CFG, 1, 0, 0x10A214),
   (.time, R.TIME_HOLDOVER_CFG, 1, 0, 0x3E8),
   (.time, R.TIME_DELAY_CFG, 1, 0, 0x40),
   (.time, R.TIME_PAIR_RING_CFG, 1, 0, 0x10000),
   (.port, R.PORT_TIME_CFG, 1, 0, 0x80),
   (.mgmt, R.MGMT_PPS_OUT_CTRL, 1, 0, 0x186A00),
   (.mgmt, R.MGMT_PPS_OUT_PERIOD, 1, 0, 0x3B9ACA00),
   (.cycle, R.CYCLE_NODE_CFG, 1, 0, 0x1FF0000),
   (.cycle, R.CYCLE_OFFSET_CFG, 1, 0, 0x61B1808),
   (.cycle, R.CYCLE_CLAIM_CFG, 1, 0, 0x40400),
   (.cycle, R.CYCLE_CYCLE_TICKS, 1, 0, 0x3D09),
   (.port, R.PORT_LINK_CFG, 1, 0, 0x4),
   (.port, R.PORT_LINK_FEAT_MASK, 1, 0, 0x7F),
   (.port, R.PORT_TRAIN_CFG, 1, 0, 0xA00FA),
   (.port, R.PORT_HELLO_CFG, 1, 0, 0xA03E8),
   (.port, R.PORT_MAC_DA, 1, 0, 0x180C200000E),
   (.port, R.PORT_ETHERTYPE_IN_USE, 1, 0, 0x88B5),
   (.port, R.PORT_PREEMPT_CFG, 1, 0, 0x20A00),
   (.global, R.GLOBAL_ETHERTYPE, 1, 0, 0x88B5),
   (.evt, R.EVT_PIN_CFG, 32, 4, 0x10000),
   (.mem, R.MEM_SCRUB_CFG, 1, 0, 0x1000),
   (.codec, R.CODEC_TEST_CFG, 1, 0, 0x10100),
   (.mover, R.MOVER_CH_RING_CFG, 1, 0, 0x4),
   (.mover, R.MOVER_CH_HIGH, 1, 0, 0x1),
   (.cnt, R.CNT_DAILIES_CFG, 1, 0, 0x186A0),
   (.cnt, R.CNT_RING_CFG, 1, 0, 0x2),
   (.cnt, R.CNT_SLOT_BYTES, 1, 0, 0x55A000),
   (.cnt, R.CNT_OTHER_MIN, 1, 0, 0xFFFFFFFFFFFFFFFF),
   (.pgrp, R.PGRP_HIST_MIN, 1, 0, 0xFFFFFFFFFFFFFFFF),
   (.trace, R.TRACE_RING_CFG, 1, 0, 0x40000A),
   (.trace, R.TRACE_SYNC_CFG, 1, 0, 0x186A0),
   (.trace, R.TRACE_SRC_RATE, 69, 16, 0x1000040),
   (.alarm, R.ALARM_CFG, 1, 0, 0xF0003E8),
   (.fault, R.FAULT_CFG, 1, 0, 0x186A0),
   (.fault, R.FAULT_LATE_BURST, 1, 0, 0x8),
   (.global, R.GLOBAL_HART_STATUS, 1, 0, 0x1),
   (.global, R.GLOBAL_MTIMECMP, 16, 8, 0xFFFFFFFFFFFFFFFF),
   (.mgmt, R.MGMT_MAC_CFG, 1, 0, 0x4),
   (.mgmt, R.MGMT_TX_RING_CFG, 1, 0, 0x4),
   (.mgmt, R.MGMT_RX_RING_CFG, 1, 0, 0x4)]

/-- The reset value of a register. -/
def resetOf (k : PageKind) (po : Nat) : Word :=
  match resetRows.find? (fun r => r.1 = k ∧ (r.2.1 = po ∨
      (0 < r.2.2.2.1 ∧ r.2.1 ≤ po ∧ (po - r.2.1) % r.2.2.2.1 = 0 ∧ (po - r.2.1) / r.2.2.2.1 < r.2.2.1))) with
  | some r => wd r.2.2.2.2
  | none => 0

/-- Page offsets of a page's counters: every row of access ctr (R41). -/
def counterOffs (k : PageKind) : List Nat := ((regRows k).filter (fun r => r.acc = .ctr)).map RegRow.off

end Sys2Proof.Machine
end

