-- ==== Sys2Proof/Machine/PartsTime.lean ====
section
/-! DEFINITION. The parts of the state that the pages share, and those of fabric time, the node, the slates and the observation
blocks: plain records, each field at its reset value by default. -/

namespace Sys2Proof.Machine

open Sys2Proof

/-- The common header of one register page (R28 to R40), without what is computed when it is read. -/
structure PageHdr where
  /-- CTRL.ENABLE. -/
  enable     : Bool := false
  intCause   : BitVec 32 := 0
  intEnable  : BitVec 32 := 0
  errCode    : BitVec 32 := 0
  errInfo    : BitVec 32 := 0
  errMore    : Bool := false
  /-- SHADOW_CTRL.VIEW. -/
  view       : Bool := false
  commitSeq  : BitVec 8 := 0
  appliedSeq : BitVec 8 := 0
  /-- SHADOW_CTRL.PENDING. -/
  pending    : Bool := false
  /-- A TAKE has arrived and the capture edge has not come (SNAP_CTRL.BUSY, R40). -/
  snapBusy   : Bool := false
  snapValid  : Bool := false
  snapSeq    : BitVec 8 := 0
  snapStamp  : Word := 0
  snapCycle  : Word := 0
  snapStatus : BitVec 32 := 0
  snapCause  : BitVec 32 := 0
  /-- Captured registers by the page offset at which their copy reads. -/
  snapRegs   : SMap Word := []
deriving DecidableEq, Repr

/-- A record of the reel before it is written (R306). -/
structure TraceRec where
  /-- Instant in units of 2^-4 ns, modulo 2^48. -/
  time    : Nat
  source  : Nat
  suspect : Bool
  kind    : Nat
  w1      : Word
  w2      : Word
  w3      : Word
deriving DecidableEq, Repr

/-- One trace source (R303, R305). -/
structure TraceSrc where
  tokens    : Nat := 0
  lostRate  : Nat := 0
  lostSpace : Nat := 0
  /-- Fabric ns of the first loss since the last GAP. -/
  firstLoss : Nat := 0
deriving DecidableEq, Repr

/-- The reel (R304). -/
structure TraceSt where
  srcs   : SMap TraceSrc := []
  fifo   : List TraceRec := []
  alarms : List TraceRec := []
deriving DecidableEq, Repr

/-- A pending alarm occurrence of one unit (R307). `unit` numbers the units in the order of R308. -/
structure Occ where
  unit   : Nat
  cls    : Nat
  source : Nat
  detail : Nat
  count  : Nat
  ns     : Nat
deriving DecidableEq, Repr

/-- One key of the alarm table (R308 to R310). -/
structure AlarmKey where
  cls         : Nat
  source      : Nat
  sev         : Nat
  count       : Nat
  firstNs     : Nat
  lastNs      : Nat
  firstDetail : Nat
  lastDetail  : Nat
  notified    : Bool
  notifyNs    : Option Nat
deriving DecidableEq, Repr

/-- The alarm path and table (R307 to R310). -/
structure AlarmSt where
  pend     : List Occ := []
  keys     : SMap AlarmKey := []
  /-- View registers VIEW_KEY to VIEW_NOTIFY_NS as captured. -/
  view     : List Word := [0, 0, 0, 0, 0, 0]
  /-- The captured key has taken an occurrence since the capture. -/
  changed  : Bool := false
deriving DecidableEq, Repr

/-- A fault report: contents of a FAULT frame (R193). `port` is 0x400 for NODE_WIDE. -/
structure FaultReport where
  src        : Nat
  /-- STATE: 1 RESOLVED; every other value is handled as RAISED. -/
  state      : Nat
  node       : Nat
  port       : Nat
  code       : Nat
  firstCycle : Nat
  count      : Nat
  detail     : Nat
deriving DecidableEq, Repr

/-- The report is RESOLVED. -/
def FaultReport.resolved (r : FaultReport) : Bool := r.state == 1

/-- A slot of the outgoing limiter (R312). -/
structure LimSlot where
  node       : Nat
  port       : Nat
  code       : Nat
  firstCycle : Nat
  count      : Nat
  lastSend   : Nat
  lastOcc    : Nat
  detail     : Nat
deriving DecidableEq, Repr

/-- An entry of fault aggregation (R314, R315). -/
structure FaultEntry where
  node        : Nat
  port        : Nat
  code        : Nat
  reports     : Nat
  active      : Nat
  raises      : Nat
  firstRep    : Nat
  firstCycle  : Nat
  lastRep     : Nat
  lastCycle   : Nat
  firstDetail : Nat
  lastDetail  : Nat
  stale       : Bool
deriving DecidableEq, Repr

/-- The fault block (R311 to R316). -/
structure FaultSt where
  slots   : List LimSlot := []
  queue   : List FaultReport := []
  entries : SMap FaultEntry := []
  ready   : Bool := false
  view    : List Word := [0, 0, 0, 0, 0, 0]
  changed : Bool := false
deriving DecidableEq, Repr

/-- One latency histogram (R296 to R298). -/
structure Hist where
  bins : SMap Word := []
  min  : Word := 0xFFFFFFFFFFFFFFFF#64
  max  : Word := 0
deriving DecidableEq, Repr

/-- A capture that the central reader is writing (R289, R293). -/
structure Capture where
  /-- Address of its slot. -/
  slot     : Nat
  seq      : Nat
  cycle    : Nat
  onDemand : Bool
  suspect  : Bool
  civValid : Bool
  fabricNs : Nat
  civSec   : Nat
  civNs    : Nat
  hist     : Bool
  pgSus    : Word
  othSus   : Nat
  /-- Captured counters by region offset: counters that are not 0. -/
  ctrs     : SMap Word
  /-- Captured recovery-entry counters, by 17 r + word. -/
  rcvy     : SMap Word
  /-- Captured CH_DESC_DONE and CH_BYTES, by 2 c + word. -/
  chans    : SMap Word
  /-- Captured histograms: port-group histograms by number, and the device one as 1,536. -/
  hists    : SMap Hist
deriving DecidableEq, Repr

/-- Dailies and histograms (R292 to R298). -/
structure CntSt where
  seq      : Nat := 0
  take     : Bool := false
  busy     : Option Capture := none
  /-- Counters (by region offset) that have wrapped since the capture edge (R290). -/
  wrapped  : List Nat := []
  /-- The last capture instant was skipped: the alarm of this run has been raised (R293). -/
  skipRun  : Bool := false
  /-- PERIOD in force; a write takes effect at the next cycle start (R300). -/
  period   : Nat := 100000
  hists    : SMap Hist := []
  other    : Hist := {}
deriving DecidableEq, Repr

/-- The states of the node (R77). -/
inductive NodeState where
  | off | listen | candidate | yield | stepped | joined | holdOff | halted
deriving DecidableEq, Repr

/-- A valid clapper kept for rate pairs and the join detector (R60, R84). Times in 2^-16 ns, referred to the hub. -/
structure ClapRec where
  cycle      : Nat
  origin     : Nat
  correction : Int
  tRx        : Int
  rank       : Nat
  node       : Nat
  steps      : Nat
  ticks      : Nat
  /-- LINK_DELAY.VALID at its arrival. -/
  delayOk    : Bool
  /-- It arrived in the present LISTEN period, so it counts toward a full valid cycle (R83, R84). -/
  counts     : Bool
deriving DecidableEq, Repr

/-- A candidate clapper of the current or of the last cycle (R57). -/
structure Cand where
  port  : Nat
  steps : Nat
deriving DecidableEq, Repr

/-- The join in progress (R85, R86). Times in w. -/
structure Join where
  n       : Nat
  parent  : Nat
  /-- S: start of cycle N + 2 in the parent's fabric time. -/
  sInst   : Int
  /-- The join step. -/
  delta   : Int
  /-- The step has been applied. -/
  stepped : Bool
  /-- The check of R86 has passed. -/
  checked : Bool
deriving DecidableEq, Repr

/-- One of the 70 islands' replicas (R11, R14). -/
structure Replica where
  /-- Its difference from the hub in 2^-16 ns, as measured at the latest pulse. -/
  diff   : Int := 0
  missed : Nat := 0
  agreed : Nat := 0
  valid  : Bool := false
deriving DecidableEq, Repr

/-- A base from which civil time runs: seconds and the rest in w at an instant of the hub's clock, CIVIL_RATE, VALID (R67). -/
structure CivBase where
  sec   : Nat
  w     : Nat
  at_   : Nat
  rate  : Int
  valid : Bool
deriving DecidableEq, Repr

/-- Fabric time, the servo and civil time. Instants are in units of w = 2^-16 / 125 ns (log entry 1), on the hub's clock, which
no join step moves; fabric time is `fabOff` ahead of it (R85). -/
structure TimeSt where
  /-- The hub's clock. -/
  now        : Nat := 0
  /-- Sum of the join steps taken: fabric time less the hub's clock. -/
  fabOff     : Int := 0
  hasCycle   : Bool := false
  /-- Current cycle number, 48 bits. -/
  cycle      : Nat := 0
  /-- Exact start of the current cycle. -/
  cycStart   : Nat := 0
  /-- CYCLE_TICKS of the cycle that ended last (T of R60). -/
  prevTicks  : Nat := 15625
  /-- Instant of the last time-distribution pulse. -/
  lastPulse  : Nat := 0
  replicas   : SMap Replica := []
  /-- f and p in 2^-16 ppb (R60). -/
  f          : Int := 0
  p          : Int := 0
  /-- rate_adj that the next pulse carries, and the one in force (R62). -/
  rateNext   : Int := 0
  rateNow    : Int := 0
  /-- Hub edge of the latest update, and the rate that the next pulse carried before that edge (R62). -/
  rateAt     : Nat := 0
  ratePrev   : Int := 0
  pairs      : List Int := []
  parent     : Option Nat := none
  parentSteps : Nat := 0
  missed     : Nat := 0
  /-- Ports that are better than the parent: for how many consecutive cycles (R57). -/
  better     : List (Nat × Nat) := []
  cands      : List Cand := []
  /-- Last applied parent offset (w) and the instant of that clapper. -/
  offset     : Int := 0
  offsetAt   : Nat := 0
  holdover   : Bool := false
  lockRun    : Nat := 0
  locked     : Bool := false
  /-- Cycle number at which the parent's CYCLE_TICKS last differed (R118). -/
  diverged   : Option Nat := none
  /-- NOW_FRAC and NOW_CYCLE as latched (R73). -/
  fracLatch  : Nat := 0
  cycLatch   : Nat := 0
  /-- Civil time: seconds and nanoseconds (in w) at instant civAt of the local reference. -/
  civSec     : Nat := 0
  civW       : Nat := 0
  civAt      : Nat := 0
  civValid   : Bool := false
  /-- Civil time as it stood before the latest STEP or CIVIL_RATE write, with the hub edge of that write (R70). -/
  civBefore  : Option (Nat × CivBase) := none
  civNsLatch : Nat := 0
  /-- The latest latched pair, and the three registers as the last PAIR_CYCLE read latched them. -/
  pairCycle  : Nat := 0
  pairValid  : Bool := false
  pairFab    : Nat := 0
  pairSec    : Nat := 0
  pairNs     : Nat := 0
  pairFabL   : Nat := 0
  pairSecL   : Nat := 0
  pairNsL    : Nat := 0
  pairWr     : Nat := 0
  ppsInNs    : Nat := 0
  ppsInSeq   : Nat := 0
  /-- Level of PPS_OUT and the instant of its last rise. -/
  ppsOut     : Bool := false
  ppsRise    : Nat := 0
  /-- Fabric time, in w, of the last period instant at which PPS_OUT rose in mode 2 (R72). -/
  ppsLast    : Option Nat := none
deriving DecidableEq, Repr

/-- The node state machine (R77 to R94). -/
structure NodeSt where
  state      : NodeState := .off
  bellwether : Bool := false
  resume     : Nat := 0
  /-- Instant at which the listen timer expires. -/
  listenEnd  : Nat := 0
  /-- A candidate whose cycle 0 has not started: its instant (R82). -/
  zeroAt     : Option Nat := none
  /-- Own cycle in which YIELD was entered (R83). -/
  yieldCycle : Nat := 0
  /-- Followed timebase: rank, node (R80). -/
  followed   : Option (Nat × Nat) := none
  /-- Timebases heard since LISTEN was entered: rank, node, instant of the last valid clapper (R84). -/
  heard      : List (Nat × Nat × Nat) := []
  /-- Timebase the join detector looks for. -/
  looked     : Option (Nat × Nat) := none
  /-- CYCLE_MISMATCH has been raised in this LISTEN period. -/
  mismatch   : Bool := false
  join       : Option Join := none
  joinN      : Nat := 0
  joinPort   : Nat := 0
  stepNs     : Int := 0
deriving DecidableEq, Repr

/-- What a running or waiting validation serves (R110). -/
inductive CheckState where
  | none | running | pass | fail
deriving DecidableEq, Repr

/-- CUT_STATUS.STATE (R119). -/
inductive CutState where
  | idle | armed | committed | applied | refused | cancelled
deriving DecidableEq, Repr

/-- A change of node state deferred in the final window of a committed cut (R115). -/
inductive Deferred where
  | yield (better : Bool) (rank node : Nat)
  | leave
  | stop
  | halt (port : Nat) (detail : Nat)
deriving DecidableEq, Repr

/-- One slate: its RWC registers and its tables (R100). -/
structure Bank where
  ticks : Nat := 15625
  tag   : Nat := 0
  /-- STREAM NULL_ID registers by page offset. -/
  nullId : SMap Word := []
  /-- Table words by offset; an unlisted word holds the reset slate (R101). -/
  tbl   : SMap Word := []
deriving DecidableEq, Repr

/-- The slates, checks and cuts (R100 to R118). -/
structure SlateSt where
  a        : Bank := {}
  b        : Bank := {}
  /-- ACTIVE_SLATE: true when slate B is live. -/
  liveB    : Bool := false
  check    : CheckState := .none
  vcode    : Nat := 0
  failOff  : Nat := 0
  reason   : Nat := 0
  cut      : CutState := .idle
  x        : Nat := 0
  applied  : Nat := 0
  refusedX : Nat := 0
  /-- An accepted ADOPT is waiting for its validation or for its switch edge. -/
  adopt    : Bool := false
  /-- The validation that ADOPT waited for has passed: the switch takes place on the next edge. -/
  adoptGo  : Bool := false
  deferred : List Deferred := []
  /-- Cycle X of a cut that switched at the start of the present cycle (R108). -/
  cutHere  : Option Nat := none
  /-- Event lines the gate scheduler took at the commit point. -/
  took     : List Nat := []
deriving DecidableEq, Repr

end Sys2Proof.Machine
end

