-- ==== Sys2Proof/Machine/PartsPort.lean ====
section
/-! DEFINITION. The parts of the state of the ports, the streams and the event lines: plain records, each field at its reset
value by default. -/

namespace Sys2Proof.Machine

open Sys2Proof

/-- The link states (R128). -/
inductive LinkState where
  | disabled | detect | training | lock | hello | switch | up | sleep | waking | failed
deriving DecidableEq, Repr

/-- Where a frame in a transmit buffer comes from. -/
inductive Origin where
  /-- Frame `frame` of a job, member port `member` of its generation entry (R168). -/
  | job (id frame member : Nat)
  /-- A relayed frame and its arrival port (R169). -/
  | relay (from_ : Nat)
  /-- A frame of this node that belongs to no job: an EVENT, a FAULT or an answer to a CLAIM (R96, R197, R313). -/
  | own
  /-- A HELLO with its SWITCH and SLEEP flags (R134). -/
  | hello (switch sleep : Bool)
  /-- A DELAY_REQ; a DELAY_RESP to a request received at an instant, referred to the hub, in 2^-16 ns (R53). -/
  | delayReq
  | delayResp (reqId : Nat) (t2 : Int)
  /-- A CLAIM of this node for an owner (R95). -/
  | claim (owner : Nat)
  /-- The verify and respond mPackets (R149). -/
  | verify
  | respond
deriving DecidableEq, Repr

/-- A frame that the port makes itself when it starts (R48, R53, R95, R134, R149). -/
def Origin.isLink : Origin → Bool
  | .hello _ _ | .delayReq | .delayResp _ _ | .verify | .respond => true
  | _ => false

/-- A HELLO. -/
def Origin.isHello : Origin → Bool
  | .hello _ _ => true
  | _ => false

/-- A relayed frame. -/
def Origin.isRelay : Origin → Bool
  | .relay _ => true
  | _ => false

/-- A frame in a transmit buffer (R104). -/
structure TxFrame where
  cls      : Nat
  typ      : Nat
  origin   : Origin
  frame    : Frame
  /-- The head of the frame is in the port's transmit buffer (R17). -/
  head     : Bool := true
  /-- Counted in TX_DEFERRED. -/
  deferred : Bool := false
  /-- Counted in TX_LATE_HEAD. -/
  late     : Bool := false
  /-- A transmit timestamp was requested (R247). -/
  ts       : Bool := false
deriving DecidableEq, Repr

/-- A preemptable frame being sent, or its waiting remainder (R151 to R156). -/
structure PTx where
  fr      : TxFrame
  frameNo : Nat
  /-- Frame bytes, FCS included, sent in earlier fragments. -/
  sent    : Nat
  /-- Fragment count of the next continuation. -/
  fragNo  : Nat
  /-- Fragments sent before the one on the wire: 0 while the first fragment is on the wire. -/
  frags   : Nat
  /-- Start of the fragment on the wire, in w. -/
  start   : Nat
  /-- Close of its window, in w. -/
  close   : Nat
deriving DecidableEq, Repr

/-- An accepted claim table entry (R96, R99). -/
structure ClaimEnt where
  owner   : Nat
  holder  : Nat
  eff     : Nat
  held    : Bool
  /-- Cycle in which the claim was received: C of R96. -/
  cycle   : Nat
  /-- CLAIM_CYCLE of the claim. -/
  asked   : Nat
  /-- Cycle of the last CLAIM that refreshed it. -/
  fresh   : Nat
deriving DecidableEq, Repr

/-- How far a claim of this node has come (R95, R97). -/
inductive ClaimPhase where
  | waiting | acked (from_ : Nat) | refused | noAnswer
deriving DecidableEq, Repr

/-- A claim that this node makes on a port. -/
structure MyClaim where
  owner : Nat
  /-- Cycle of the last CLAIM sent. -/
  sent  : Nat
  tries : Nat
  phase : ClaimPhase
deriving DecidableEq, Repr

/-- A pause frame whose effect tick has not come (R139). -/
structure PauseEff where
  /-- Effect instant, in w. -/
  at_   : Nat
  pfc   : Bool
  /-- Class and pause length in w. -/
  items : List (Nat × Nat)
deriving DecidableEq, Repr

/-- A span of time, in w, in which a class is paused by a PAUSE or a priority flow control timer (R139, R140). -/
structure Span where
  cls   : Nat
  pfc   : Bool
  from_ : Nat
  to_   : Nat
deriving DecidableEq, Repr

/-- A partial preemptable frame (R158). -/
structure Reasm where
  frameNo : Nat
  next    : Nat
  data    : List Byte
  tRx     : Nat
  edge    : Nat
  /-- Cycle starts since its last fragment. -/
  idle    : Nat
deriving DecidableEq, Repr

/-- VERIFY_STATE (R149). -/
inductive VerifyState where
  | disabled | initial | verifying | succeeded | failed
deriving DecidableEq, Repr

/-- The link state machine of one port (R128 to R144). -/
structure LinkSt where
  state     : LinkState := .disabled
  /-- LINK_CFG, LINK_FEAT_MASK, TRAIN_CFG, HELLO_CFG and PREEMPT_CFG as latched at the last entry to DETECT. -/
  cfg       : Nat := 4
  mask      : Nat := 0x7F
  trainCfg  : Nat := 0x000A00FA
  helloCfg  : Nat := 0x000A03E8
  preCfg    : Nat := 0x00020A00
  etherType : Nat := 0x88B5
  fecLL     : Bool := false
  fallback  : Bool := false
  downReason : Nat := 0
  helloFail : Nat := 0
  offer     : Word := 0
  partnerW  : Word := 0
  used      : Word := 0
  /-- PARTNER_ID: node, port; and the instance tag latched at completion. -/
  partner   : Option (Nat × Nat × Nat) := none
  /-- Last HELLO received in LOCK or HELLO (R134). -/
  kept      : Option Hello := none
  gotAck    : Bool := false
  /-- The partner's SWITCH HELLO has been received (R130). -/
  swSeen    : Bool := false
  /-- Instant of the last bit of the first HELLO sent with ACK (R134). -/
  sentAck   : Option Nat := none
  /-- Consecutive training failures since the last entry to LOCK, and failures since the last UP. -/
  failRun   : Nat := 0
  failsUp   : Nat := 0
  /-- Coefficients stored at an entry to UP, and those in use, none of them in the initial condition of the standard (R129). -/
  coeffs    : Option (List Int) := none
  eq        : List Int := []
  /-- The training that led to LOCK started from the stored coefficients. -/
  fast      : Bool := false
  /-- Codeword lock is held. -/
  locked    : Bool := false
  /-- The observation window has seen a codeword that forbids LL_FEC (R130). -/
  winBad    : Bool := false
  /-- Codewords received since the last lock, and the numbers of the uncorrectable ones among the last 8,192. -/
  cwCount   : Nat := 0
  uncorr    : List Nat := []
  /-- Its SWITCH HELLO has been sent, and the instant of its last bit; the codewords received up to the partner's; the transmitter sends LL-FEC; the receiver decodes LL-FEC. -/
  switched  : Bool := false
  swEnd     : Nat := 0
  swCw      : Nat := 0
  txLL      : Bool := false
  /-- Instant at which its transmitter began to send LL-FEC (R125). -/
  llAt      : Nat := 0
  rxLL      : Bool := false
  /-- LL-FEC codewords decoded since the receiver changed, position of the last good marker, LL lock, missed markers. -/
  llCw      : Nat := 0
  llMark    : Option Nat := none
  llLock    : Bool := false
  llMiss    : Nat := 0
  /-- SLEEP has been accepted or a SLEEP HELLO received: no new frame starts (R141). -/
  sleeping  : Bool := false
  /-- The SLEEP HELLO has been sent. -/
  slept     : Bool := false
  /-- Instant of the last wake, while the port has not reached UP since. -/
  wakeAt    : Option Nat := none
  /-- Instant of the last entry to the state. -/
  since     : Nat := 0
  /-- Instants: the next HELLO is due (R133, R134), the last HELLO was received (R132), the port entered UP (R148). -/
  helloDue  : Nat := 0
  heardAt   : Nat := 0
  upAt      : Nat := 0
  /-- Silenced for 10 µs after a failed switch (R130). -/
  squelched : Bool := false
  /-- PREEMPT_INACTIVE may be raised for this entry to UP (R148). -/
  preWatch  : Bool := false
deriving DecidableEq, Repr

/-- One port beside its registers. -/
structure PortSt where
  link      : LinkSt := {}
  /-- TIME_CFG in force: ROLE and PRIORITY (R74). -/
  timeCfg   : Nat := 0x80
  lastClap  : Option ClapRec := none
  /-- The cycle N for which the port meets the conditions of R84. -/
  qual      : Option Nat := none
  clapOff   : Int := 0
  clapSeen  : Nat := 0
  /-- Delay exchange (R53 to R56): last REQ_ID; outstanding request: REQ_ID, t1 referred to the hub, cycle; cycle and instant of the
  last request; accepted 2 d in 2^-16 ns. -/
  reqId     : Nat := 0
  req       : Option (Nat × Int × Nat) := none
  reqCyc    : Option Nat := none
  reqAt     : Option Nat := none
  meas      : List Int := []
  rejRun    : Nat := 0
  delayOk   : Bool := false
  claims    : SMap ClaimEnt := []
  mine      : List MyClaim := []
  /-- Last gate entry whose start has been run: cycle and index (R102). -/
  gateAt    : Option (Nat × Nat) := none
  txq       : List TxFrame := []
  /-- Instant from which the lane is free, gap included. -/
  laneFree  : Nat := 0
  wire      : Option PTx := none
  rest      : Option PTx := none
  frameNo   : Nat := 0
  pauseEff  : List PauseEff := []
  /-- Pauses in force or past: a timer runs while its span holds the present instant (R139). -/
  spans     : List Span := []
  /-- Consumed windows counted in PAUSE_WINDOW_LOST: class, close (R140). -/
  lostWin   : List (Nat × Nat) := []
  verify    : VerifyState := .disabled
  verTries  : Nat := 0
  /-- Instant at which the last verify mPacket ended (R149). -/
  verAt     : Nat := 0
  txActive  : Bool := false
  reasm     : Option Reasm := none
  /-- Frame number whose later fragments are dropped (R158). -/
  dropNo    : Option Nat := none
  reasmTo   : Nat := 2
  /-- Hub edge on which its latest frame reaches stage 6 (R20, R267). -/
  hubLast   : Nat := 0
  /-- Stage-3 discards of the current cycle (R311). -/
  lateN     : Nat := 0
deriving DecidableEq, Repr

/-- The state of one sequence recovery entry (R170), its per-entry counters in the order of the view registers V_PASSED to
V_INDIV_DISCARD[3] (R180). -/
structure RcvySt where
  rseq    : Nat := 0
  hist    : Nat := 0
  takeAny : Bool := true
  timer   : Nat := 0
  /-- The cut guard, and its cycle value, which stays when the guard clears (R171). -/
  guard   : Bool := false
  guardCy : Nat := 0
  mSeq    : List Nat := [0, 0, 0, 0]
  mTake   : List Bool := [true, true, true, true]
  /-- Frames passed, and counted in DISCARDED, since the last latent test. -/
  testP   : Nat := 0
  testD   : Nat := 0
  /-- The entry has been in TAKE_ANY since the last latent test. -/
  testAny : Bool := true
  ctrs    : List Word := List.replicate 17 0
  /-- SRC_NODE of the last passed frame (R311). -/
  lastSrc : Option Nat := none
deriving DecidableEq, Repr

/-- The stream block (R162 to R181). -/
structure StreamSt where
  rcvy    : SMap RcvySt := []
  /-- Next sequence numbers of the generation entries. -/
  gen     : SMap Nat := []
  /-- View registers RCVY_STATE to RCVY_MEMBER_SEQ, then V_PASSED to V_INDIV_DISCARD[3], as captured. -/
  view    : List Word := List.replicate 21 0
  genView : Nat := 0
deriving DecidableEq, Repr

/-- A pending timed EVENT (R195). -/
structure PendEvt where
  cycle : Nat
  tick  : Nat
  line  : Nat
deriving DecidableEq, Repr

/-- A pulse that an event generator is turning into a frame: its cycle, tick and fabric ns (R197). -/
structure GenPulse where
  cycle : Nat
  tick  : Nat
  ns    : Nat
deriving DecidableEq, Repr

/-- One event pin (R199). -/
structure PinSt where
  /-- Level of the pin. -/
  level  : Bool := false
  /-- Instant of its last change, in w. -/
  change : Nat := 0
  /-- End of the output pulse, in w. -/
  until_ : Nat := 0
  stamp  : Nat := 0
deriving DecidableEq, Repr

/-- Event lines, pins and generators (R195 to R199). -/
structure EvtSt where
  lineOwner : SMap Nat := []
  pinOwner  : SMap Nat := []
  pins      : SMap PinSt := []
  gens      : SMap GenPulse := []
  /-- Line and hub clock period of each pulse that no later cycle start has left behind: one that comes in the same period merges
  (R105, R195, R198). -/
  seen      : List (Nat × Nat) := []
  pend      : List PendEvt := []
deriving DecidableEq, Repr

/-- A port group's transmit timestamp queue: owner ID, and entries captured for TIME; job entries are reserved by count. -/
structure GroupSt where
  owner : Nat := 0
  diag  : List Word := []
  used  : Nat := 0
deriving DecidableEq, Repr

/-- One frame on the path into the hub, past stage 5 (R18, R20). -/
structure HubFrame where
  edge  : Nat
  port  : Nat
  cls   : Nat
  frame : Frame
  /-- Instant of its last bit at the pins, in w. -/
  last  : Nat
deriving DecidableEq, Repr

end Sys2Proof.Machine
end

