-- ==== Sys2Proof/Machine/PartsJobs.lean ====
section
/-! DEFINITION. The parts of the state of the transfer engine and of the cores: submission queues, completion rings, jobs, landing
zones, interrupt routes: plain records, each field at its reset value by default. -/

namespace Sys2Proof.Machine

open Sys2Proof

/-- One submission queue (R215 to R234). Positions are held as the registers show them: INDEX [15:0], WRAP [16]. -/
structure SqSt where
  base     : Nat := 0
  enabled  : Bool := false
  remote   : Bool := false
  log2     : Nat := 0
  cq       : Nat := 0
  /-- SQ_ARB: shadow and live values (R232). -/
  arbShadow : Word := 0x00010101#64
  arb      : Word := 0x00010101#64
  poll     : Nat := 0
  producer : Nat := 0
  key      : Nat := 0
  head     : Nat := 0
  tail     : Nat := 0
  stopCode : Nat := 0
  stopped  : Bool := false
  /-- Front buffer: the position and the bytes of an entry (R220, R221). -/
  front    : Option (Nat × List Byte) := none
  /-- Words of an inline push so far (R220). -/
  inl      : List Word := []
  /-- Granted entries being copied from the ring, oldest first: length in units, and whether it is a FENCE (R222, R233). -/
  copying  : List (Nat × Bool) := []
  /-- Number of the next fetched job within the queue. -/
  order    : Nat := 0
  /-- Instant of the enable, or of the last poll: the polls follow at multiples of POLL_INTERVAL (R221). -/
  pollAt   : Nat := 0
  /-- Place of the queue in the order in which the queues build frames, taken anew with each frame (R230). -/
  turn     : Nat := 0
deriving DecidableEq, Repr

/-- One completion ring (R235 to R246). -/
structure CqSt where
  base    : Nat := 0
  enabled : Bool := false
  log2    : Nat := 0
  notify  : Word := 0x00010000#64
  head    : Nat := 0
  tail    : Nat := 0
  /-- A blocked episode is running (R243). -/
  episode : Bool := false
  /-- Entries written since the last notification, and the instant of the oldest of them (R246). -/
  written : Nat := 0
  oldest  : Option Nat := none
deriving DecidableEq, Repr

/-- The kinds of jobs (R217). -/
inductive JobKind where
  | nop | send | sendOnEvent | expect | accumSend | fence
  /-- A reserved KIND: the job fails at fetch (R225). -/
  | reserved (code : Nat)
deriving DecidableEq, Repr

/-- One replica of a frame of a job: its port, and its outcome: 0 when it has left or is leaving, else a status code (R168, R241);
the instant at which its last bit leaves the pins or it was discarded (R238, R240). -/
structure RepSt where
  port    : Nat
  outcome : Option Nat
  at_     : Nat := 0
deriving DecidableEq, Repr

/-- One built frame of a job: its decoded bytes and its replicas. -/
structure FrameSt where
  bytes : Nat
  reps  : List RepSt
deriving DecidableEq, Repr

/-- One job in flight (R225 to R230). -/
structure Job where
  id      : Nat
  queue   : Nat
  order   : Nat
  /-- The ring to which the queue was bound at the fetch. -/
  cq      : Nat
  kind    : JobKind
  tag     : Nat
  tsReq   : Bool
  tagged  : Bool
  src     : Nat
  count   : Nat
  felems  : Nat
  codec   : Nat
  elem    : Nat
  cls     : Nat
  handle  : Nat
  key     : Nat
  op      : Nat
  line    : Nat
  /-- EVENT_TIMEOUT or TIMEOUT, and the cycle starts passed since the fetch. -/
  limit   : Nat
  waited  : Nat := 0
  dst     : Nat
  target  : Nat
  zone    : Nat
  mode    : Nat
  bytes   : Nat
  c0      : Nat
  fetchAt : Nat
  /-- A SEND_ON_EVENT job has been pulsed and not started yet; the job may build frames; its place in the building order. -/
  pulsed  : Bool := false
  started : Bool := false
  place   : Nat := 0
  /-- No further frame will be built; the status of a building failure. -/
  done    : Bool := false
  failed  : Option Nat := none
  frames  : List FrameSt := []
  /-- Transmit timestamp of frame 0 on PORT0 in 2^-4 ns and its REPLICA_SUSPECT; its loss; a reserved queue entry. -/
  ts      : Option (Nat × Bool) := none
  tsLost  : Bool := false
  tsHeld  : Bool := false
deriving DecidableEq, Repr

/-- An entry in the hold store (R244): ring, queue, and the entry without its PHASE. -/
structure Held where
  cq    : Nat
  queue : Nat
  lo    : Word
  hi    : Word
deriving DecidableEq, Repr

/-- The transfer engine beside queues and rings. -/
structure XferSt where
  jobs     : List Job := []
  held     : List Held := []
  nextId   : Nat := 0
  nextPlace : Nat := 0
  /-- Pending set of SQ_ARB by queue (R232). -/
  arbPend  : SMap Word := []
  /-- Round of the arbiter: pass, queue, entries fetched in this visit (R231). -/
  pass     : Nat := 0
  visit    : Nat := 0
  burst    : Nat := 0
  lastStop : Nat := 0
  /-- The hub edge on which the arbiter can grant its next entry (R231). -/
  grantFree : Nat := 0
deriving DecidableEq, Repr

/-- One landing zone's count and flag (R205, R211). -/
structure ZoneSt where
  landed   : Nat := 0
  poisoned : Bool := false
deriving DecidableEq, Repr

/-- The landing-zone checker (R209 to R214). -/
structure LzSt where
  zones   : SMap ZoneSt := []
  /-- Reject table: source node, zone, later rejections (R210). -/
  rejects : List (Nat × Nat × Nat) := []
  /-- The episode of a full reject table has been reported. -/
  full    : Bool := false
  view    : Word := 0
deriving DecidableEq, Repr

/-- The cores and the interrupt router as the endpoint sees them (R323 to R328, R299). -/
structure CoreSt where
  /-- Cores released since device reset, bit h for core h. -/
  released : Nat := 1
  /-- Instant of reset release from which MTIME counts, in w; MTIME is 100 MHz. -/
  mtime0   : Nat := 0
  /-- Routes by identity: HART [3:0], FILE [4], ENABLE [7]. -/
  routes   : SMap Nat := []
  /-- Sources whose ARMED latch is clear. -/
  disarmed : List Nat := []
  /-- Pending interrupt bits: hart, file, identity. -/
  pendIrq  : List (Nat × Nat × Nat) := []
  /-- stimecmp of each hart. -/
  stimecmp : SMap Word := []
  /-- Performance counters and events by 16 hart + number, overflow bits (scountovf). -/
  hpm      : SMap Word := []
  hpmEvt   : SMap Word := []
  ovf      : List (Nat × Nat) := []
  /-- Harts whose overflow interrupt is held while it is masked, and the PC that the last one taken recorded (R299). -/
  ovfHeld  : List Nat := []
  ovfPc    : SMap Word := []
deriving DecidableEq, Repr

end Sys2Proof.Machine
end

