-- ==== Sys2Proof/Machine/PartsSys.lean ====
section
/-! DEFINITION. The parts of the state of the block mover, the codec self-test, the management port, the fuses, the LPDDR training and
the always-on island: plain records, each field at its reset value by default. -/

namespace Sys2Proof.Machine

open Sys2Proof

/-- The RWS registers of one block-mover channel (R286). -/
structure MvSet where
  prio  : Word := 0
  event : Word := 0
  watch : Word := 0
  low   : Word := 0
  high  : Word := 1
deriving DecidableEq, Repr

/-- The descriptor in progress of a channel (R274, R276). -/
structure MvDesc where
  idx      : Nat
  word0    : Word
  src      : Nat
  srcLen   : Nat
  srcStride : Nat
  srcCount : Nat
  dst      : Nat
  dstLen   : Nat
  dstStride : Nat
  dstCount : Nat
  /-- Line index and offset of the next burst to grant, each side. -/
  si       : Nat := 0
  so       : Nat := 0
  di       : Nat := 0
  dof      : Nat := 0
  /-- Bytes not yet granted, and bytes whose writes have not been issued: CH_LEFT (R276). -/
  ungranted : Nat
  left     : Nat
deriving DecidableEq, Repr

/-- A descriptor whose CH_LEFT has reached 0 and whose writes are not all answered (R274, R280, R282). -/
structure MvDone where
  idx    : Nat
  word0  : Word
  pulsed : Bool
deriving DecidableEq, Repr

/-- One burst granted and not yet written (R279). -/
structure MvBurst where
  ch  : Nat
  idx : Nat
  src : Nat
  dst : Nat
  n   : Nat
deriving DecidableEq, Repr

/-- One block-mover channel (R271 to R288). -/
structure MvCh where
  ringBase : Nat := 0
  ringCfg  : Nat := 4
  shadow   : MvSet := {}
  live     : MvSet := {}
  /-- The set committed and not yet live in this channel. -/
  pend     : Option MvSet := none
  enabled  : Bool := false
  index    : Nat := 0
  /-- What the last ring read gave: nothing to take; a poisoned word; the 64 bytes of a descriptor with OWN = 1 (R273). -/
  ahead    : Option (Option (List Byte)) := none
  /-- Instant of the last ring read (R273). -/
  readAt   : Nat := 0
  desc     : Option MvDesc := none
  /-- The channel waits at the barrier of the descriptor that `done` names last, which `held` describes (R281, R284). -/
  barrier  : Bool := false
  held     : Option MvDesc := none
  done     : List MvDone := []
  /-- Destination words of writes issued and not yet answered, with their descriptor. -/
  unans    : List (Nat × Nat) := []
  /-- A halt that waits for the answers of the writes issued (R283), or for the next hand-over (R282). -/
  halting  : Bool := false
  haltNext : Bool := false
  halted   : Bool := false
  needsReset : Bool := false
  draining : Bool := false
  paceRun  : Bool := false
  errCode  : Nat := 0
  errIndex : Nat := 0
  pulsed   : Bool := false
  more     : Bool := false
  late     : Bool := false
  hoSeq    : Nat := 0
  hoFirst  : Nat := 0
  hoSame   : Bool := false
  level    : Int := 0
  /-- CH_LEFT as shown without a descriptor in progress. -/
  leftShown : Nat := 0
  /-- Bytes written since the reference point, and the landed count there (R277). -/
  m        : Nat := 0
  z0       : Nat := 0
  descDone : Word := 0
  bytes    : Word := 0
deriving DecidableEq, Repr

/-- The block mover beside its registers. -/
structure MvSt where
  chans  : SMap MvCh := []
  bursts : List MvBurst := []
  /-- The channel last granted at each level (R279). -/
  rr     : List Nat := [0, 0, 0, 0]
  /-- The hub edges on which the datapath can accept its next grant, and issue its next write (R279). -/
  readFree : Nat := 0
  writeFree : Nat := 0
  /-- Hub edge of the last COMMIT (R287). -/
  commitAt : Nat := 0
deriving DecidableEq, Repr

/-- The codec self-test (R269). -/
structure TestSt where
  busy     : Bool := false
  done     : Bool := false
  poisoned : Bool := false
  encBytes : Nat := 0
deriving DecidableEq, Repr

/-- The management port (R329, R330, R336). -/
structure MgmtSt where
  link    : Bool := false
  speed   : Nat := 0
  duplex  : Bool := false
  txIndex : Nat := 0
  rxIndex : Nat := 0
  /-- The descriptor at TX_INDEX has been read with OWN = 1 (R330). -/
  txReady : Bool := false
  /-- Frames that wait in the receive buffer for a descriptor. -/
  rxBuf   : List (List Byte) := []
deriving DecidableEq, Repr

/-- A fuse operation in progress (R333). -/
structure FuseOp where
  op   : Nat
  key  : Nat
  n    : Nat
  hash : List Word
deriving DecidableEq, Repr

/-- Secure boot and the fuses (R332, R333). -/
structure SecSt where
  slot     : Nat := 0
  code0    : Nat := 0
  code1    : Nat := 0
  unprov   : Bool := false
  done     : Bool := false
  lock     : Bool := false
  /-- Fuses: a programmed hash per key, revoked keys, the counter, PROVISIONED. -/
  keys     : List (Option (List Word)) := [none, none, none, none]
  revoked  : List Bool := [false, false, false, false]
  counter  : Nat := 0
  prov     : Bool := false
  op       : Option FuseOp := none
deriving DecidableEq, Repr

/-- LPDDR5X training (R344). -/
structure DdrSt where
  passed  : Nat := 0
  failed  : Nat := 0
  busy    : Bool := false
  done    : Bool := false
  trained : Bool := false
deriving DecidableEq, Repr

/-- How far the regulator sequencer is (R338, R339). -/
inductive SeqState where
  /-- VIN has not risen through 2.6 V, or has fallen through 2.5 V, or the endpoint has been turned off. -/
  | off
  /-- Rail n, counted from 0, is enabled and not yet in regulation. -/
  | rail (n : Nat)
  /-- VDD_AO is in regulation; the 25 MHz clock has not started. -/
  | crystal
  /-- Ten rails in regulation: PGOOD. -/
  | good
  /-- A rail missed its limit (R339). -/
  | stopped
  /-- Thermal shutdown: VDD_AO alone is on (R367). -/
  | thermal
deriving DecidableEq, Repr

/-- Pins that stand in a state of their own from a reset until the block that owns them drives them (R342): the lanes' receivers are
terminated with signal detect off; EVT0 to EVT31 are inputs of high impedance; the chip select of xSPI is high; RESET_n, CK and CS of
LPDDR5X are low; the management SerDes is in electrical idle. -/
inductive PinGroup where
  | laneRx | evt | xspi | lpddr | mgmtSerdes
deriving DecidableEq, Repr

/-- The always-on island: rails, reset, straps, temperatures, PMBus (R338 to R346, R362 to R368). -/
structure PwrSt where
  seq       : SeqState := .good
  /-- Rails in regulation, bit i for the rail of order i + 1. -/
  rails     : Nat := 0x3FF
  stopRail  : Nat := 0
  pgood     : Bool := true
  /-- ALERT_N is asserted. -/
  alert     : Bool := false
  cause     : Nat := 1
  mfg       : Bool := false
  osc       : Bool := false
  /-- STRAP_OSC has been sampled since the rising lockout (R341). -/
  oscSet    : Bool := true
  addr      : Nat := 0
  /-- The first reset release after the rising lockout has taken place (R341). -/
  released  : Bool := true
  /-- Internal reset is asserted. -/
  held      : Bool := false
  /-- RST_N as last known; the always-on clock, in ns since the rising lockout, and its earliest instant for the release of the reset
  (R340, log entry 88). -/
  rstN      : Bool := true
  ao        : Nat := 0
  relAt     : Nat := 0
  /-- HCSL inputs that are absent, bit k for input k, as the latest pulse found them (R342, R359). -/
  noRef     : Nat := 0
  /-- The hub, core, LPDDR and flash PLLs have locked and staging memory is zeroed (R342). -/
  pll       : Bool := false
  /-- Core 0 has been released into the boot ROM (R342). -/
  core0     : Bool := false
  /-- The latest readings of the sensors, and a thermal shutdown that no reading has followed (R367). -/
  sens      : List Int := List.replicate 16 0
  shut      : Bool := false
  temps     : List Int := List.replicate 16 0
  stage     : Nat := 0
  hottest   : Nat := 0
  vinMv     : Nat := 0
  iin       : Nat := 0
  pin       : Nat := 0
  /-- VIN in mV, its current and power, and the hottest reading, as refreshed for the PMBus (R363). -/
  vinTlm    : Nat := 0
  iinTlm    : Nat := 0
  pinTlm    : Nat := 0
  tempTlm   : Int := 0
  railTlm   : List (Nat × Nat × Nat) := List.replicate 10 (0, 0, 0)
  /-- PMBus PAGE and status bytes (R363). -/
  page      : Nat := 0
  stVout    : List Nat := List.replicate 10 0
  stIout    : List Nat := List.replicate 10 0
  stInput   : Nat := 0
  stTemp    : Nat := 0
  stCml     : Nat := 0
  /-- VIN is above 5.8 V as last reported; the rail outputs at their limit. -/
  vinOv     : Bool := false
deriving DecidableEq, Repr

end Sys2Proof.Machine
end

