-- ==== Sys2Proof/Machine/State.lean ====
section
/-! DEFINITION. The state of the endpoint, its outputs, the reasons a command can stop, and the state after reset. -/

namespace Sys2Proof.Machine

open Sys2Proof

/-- The reasons a command can fault. No command of this block faults: every row of the command table has an effect that
its rule gives, or none in the present state. -/
inductive Fault where
  /-- Raised by no command: the block has no command that the spec stops with a fault (safe). -/
  | none
deriving DecidableEq, Repr

/-- The reasons a command can be refused as a whole. -/
inductive Refusal where
  /-- A command that this model does not give a meaning yet, by its mnemonic (safe). -/
  | notModelled (mnemonic : String)
deriving DecidableEq, Repr

/-- What the endpoint puts on its pins, wires and buses, in order: the model's own record. -/
inductive Out where
  /-- A whole frame on a port, its FCS right or complemented (R136, R369). -/
  | frame (port : Nat) (f : Frame) (fcsOk : Bool)
  /-- A fragment of a preemptable frame (R151). -/
  | fragment (port : Nat) (start : Bool) (frameNo fragNo : Nat) (final : Bool) (data : List Byte)
  /-- A verify or a respond mPacket (R149). -/
  | verify (port : Nat)
  | respond (port : Nat)
  /-- A wake burst: three copies of the word after the preamble (R142). -/
  | wakeBurst (port : Nat) (word : Word)
  /-- The transmitter of a port is squelched. -/
  | squelch (port : Nat)
  /-- The port changes to LL-FEC, beginning with a marker codeword (R125, R130). -/
  | llStart (port : Nat) (marker : List Nat)
  /-- Pins that a reset leaves as the table of R342 gives. -/
  | pinIdle (g : PinGroup)
  /-- A rail is turned off, by its order less 1 (R339, R346). -/
  | railOff (rail : Nat)
  /-- Level of an event pin, of PPS_OUT, PGOOD, ALERT_N. -/
  | evtPin (pin : Nat) (level : Bool)
  | ppsOut (level : Bool)
  | pgood (level : Bool)
  | alertN (level : Bool)
  /-- The answer to a core's read, of the register region (R26 to R28) or of memory. -/
  | readData (core : Nat) (value : Word)
  /-- A RISC-V access fault in a core (R202, R204, R321). -/
  | accessFault (core : Nat)
  /-- An interrupt identity signalled to a hart's file (R326 to R328), and the timer interrupts of a hart. -/
  | irq (hart file identity : Nat)
  | timerIrq (hart : Nat) (supervisor : Bool)
  | overflowIrq (hart : Nat)
  /-- A frame on the management port, padded, and its FCS (R330). -/
  | mgmtFrame (bytes : List Byte) (fcsOk : Bool)
  /-- Core h released at an address (R324, R331). -/
  | release (hart entry : Nat)
  /-- PMBus answer bytes, or NACK (R363). -/
  | pmbus (bytes : List Byte)
  | pmbusNack
deriving DecidableEq, Repr

/-- The endpoint. -/
structure State where
  /-- Commands that wait, first in, first out. -/
  pending  : List Instr := []
  /-- Next free value (log entry 4). -/
  freeCount : Nat := 1
  /-- GLOBAL.FEAT_ACCEPTED, FEAT_LOCK as it reads, and FEAT_OK (R33, R34). -/
  featAcc  : Word := 0
  featLock : Bool := false
  featOk   : Bool := false
  /-- Number of the free value that is the instance tag of this endpoint's HELLO frames, drawn at reset (R133). -/
  instDraw : Nat := 0
  /-- Page headers by page number (region offset / 0x1000). -/
  pages    : SMap PageHdr := []
  /-- Registers that a block holds as words, and counters, by region offset; an unlisted one holds its reset value. -/
  regs     : SMap Word := []
  time     : TimeSt := {}
  node     : NodeSt := {}
  slate    : SlateSt := {}
  ports    : SMap PortSt := []
  groups   : SMap GroupSt := []
  stream   : StreamSt := {}
  evt      : EvtSt := {}
  /-- Frames on the path into the hub, by edge and port (R20). -/
  hubIn    : List HubFrame := []
  /-- Memory: bytes by address; an unlisted byte reads 0 (log entry 3). -/
  mem      : List Host.Cell := []
  /-- Poisoned 64-bit words of staging memory, by address (R204). -/
  poison   : List Nat := []
  /-- Errors that stand: in words of staging memory until a read finds them (R204), on LPDDR channels until an access of the word meets
  them (R207; log entry 83). -/
  errs     : EccList := []
  /-- The 64-bit word that each core has reserved, by core (R321; log entry 87). -/
  resv     : SMap Nat := []
  /-- The scrub of each die: the line it reads next, and the instant of its last line (R206; log entry 84). -/
  scrubs   : SMap (Nat × Nat) := []
  sq       : SMap SqSt := []
  cq       : SMap CqSt := []
  xfer     : XferSt := {}
  lz       : LzSt := {}
  core     : CoreSt := {}
  /-- Owner IDs of the accumulator scratch slices (R43, R266). -/
  scratch  : SMap Nat := []
  cnt      : CntSt := {}
  trace    : TraceSt := {}
  alarm    : AlarmSt := {}
  fault    : FaultSt := {}
  mover    : MvSt := {}
  test     : TestSt := {}
  mgmt     : MgmtSt := {}
  sec      : SecSt := {}
  ddr      : DdrSt := {}
  pwr      : PwrSt := {}
  /-- What has been put out, oldest first. -/
  outs     : List Out := []
deriving DecidableEq, Repr

/-- The endpoint right after reset (R342). -/
def State.reset : State := {}

end Sys2Proof.Machine
end

