-- ==== Sys2Proof/Machine/Flags.lean ====
section
/-! DEFINITION. Pages, registers, interrupt causes, error records and counters: the flag computations that every block shares
(R25 to R42). -/

namespace Sys2Proof.Machine

open Sys2Proof

/-- Region offset of page instance i of a block type (R25). -/
def pageBase : PageKind → Nat → Nat
  | .global, _ => 0x0
  | .time, _ => 0x1000
  | .cycle, _ => 0x2000
  | .stream, _ => 0x3000
  | .xfer, _ => 0x4000
  | .lz, _ => 0x5000
  | .codec, _ => 0x6000
  | .mover, _ => 0x7000
  | .mem, _ => 0x8000
  | .ddr, _ => 0x9000
  | .evt, _ => 0xA000
  | .cnt, _ => 0xB000
  | .trace, _ => 0xC000
  | .alarm, _ => 0xD000
  | .fault, _ => 0xE000
  | .mgmt, _ => 0xF000
  | .pwr, _ => 0x10000
  | .sec, _ => 0x11000
  | .pgrp, g => 0x100000 + g * 0x1000
  | .port, p => 0x200000 + p * 0x1000
  | .mch, c => 0x800000 + c * 0x1000

/-- Block type code of a page (R25). -/
def blockType : PageKind → Nat
  | .global => 0x01 | .time => 0x02 | .cycle => 0x03 | .stream => 0x04 | .xfer => 0x05 | .lz => 0x06 | .codec => 0x07
  | .mover => 0x08 | .mem => 0x09 | .ddr => 0x0A | .evt => 0x0B | .cnt => 0x0C | .trace => 0x0D | .alarm => 0x0E
  | .fault => 0x0F | .mgmt => 0x10 | .pwr => 0x11 | .sec => 0x12 | .pgrp => 0x20 | .port => 0x21 | .mch => 0x22

/-- Instances of a block type (R25). -/
def instances : PageKind → Nat
  | .pgrp => 64
  | .port => 1024
  | .mch => 16
  | _ => 1

/-- The single-instance pages, in the order of the block base table (R25). -/
def singlePages : List PageKind :=
  [.global, .time, .cycle, .stream, .xfer, .lz, .codec, .mover, .mem, .ddr, .evt, .cnt, .trace, .alarm, .fault, .mgmt, .pwr,
   .sec]

/-- The page, and the page offset, that a region offset lies in (R25, R26). -/
def pageAt (off : Nat) : Option (PageRef × Nat) :=
  let po := off % 0x1000
  let n := off / 0x1000
  if n < 18 then (singlePages[n]?).map fun k => (⟨k, 0⟩, po)
  else if 0x100 ≤ n ∧ n < 0x140 then some (⟨.pgrp, n - 0x100⟩, po)
  else if 0x200 ≤ n ∧ n < 0x600 then some (⟨.port, n - 0x200⟩, po)
  else if 0x800 ≤ n ∧ n < 0x810 then some (⟨.mch, n - 0x800⟩, po)
  else none

/-- Position of a page among all pages: the order of page images and of alarm units (R295, R308). -/
def pageIndex (k : PageKind) (i : Nat) : Nat :=
  match k with
  | .pgrp => 18 + i
  | .port => 82 + i
  | .mch => 1106 + i
  | _ => blockType k - 1

/-- The island whose clock a page runs on: 0 to 63 port groups; 64 hub, 65 core, 66 LPDDR, 67 always-on, 68 management,
69 flash and fuse (R25). -/
def islandOf (k : PageKind) (i : Nat) : Nat :=
  match k with
  | .pgrp => i
  | .port => i / 16
  | .ddr => 66
  | .mch => if i < 8 then 64 else 66
  | .pwr => 67
  | .mgmt => 68
  | .sec => 69
  | _ => 64

/-- Header of a page. -/
def State.hdr (s : State) (k : PageKind) (i : Nat) : PageHdr := smGet s.pages (pageBase k i / 0x1000) {}

/-- Change the header of a page. -/
def State.modHdr (s : State) (k : PageKind) (i : Nat) (f : PageHdr → PageHdr) : State :=
  { s with pages := smMod s.pages (pageBase k i / 0x1000) {} f }

/-- A register held as a word. -/
def State.reg (s : State) (k : PageKind) (i po : Nat) : Word := smGet s.regs (pageBase k i + po) (resetOf k po)

/-- Set a register held as a word. -/
def State.setReg (s : State) (k : PageKind) (i po : Nat) (v : Word) : State :=
  { s with regs := smSet s.regs (pageBase k i + po) v }

/-- A field of a register held as a word. -/
def State.regF (s : State) (k : PageKind) (i po hi lo : Nat) : Nat := fld (s.reg k i po) hi lo

/-- Set causes in INT_CAUSE (R29). -/
def State.cause (s : State) (k : PageKind) (i bitNo : Nat) : State :=
  s.modHdr k i fun h => { h with intCause := h.intCause ||| BitVec.ofNat 32 (2 ^ bitNo) }

/-- Common causes of INT_CAUSE (R28, table of its fields). -/
def causeErr : Nat := 0
def causeRefused : Nat := 1
def causeSnapDone : Nat := 2
def causeCommit : Nat := 3
def causeSlate : Nat := 4
def causeOvf : Nat := 5

/-- Causes that a page has: the common ones and its own (table of INT_CAUSE and the chapters' tables). -/
def causeMask : PageKind → BitVec 32
  | .cycle | .stream | .xfer | .mover | .cnt | .alarm | .pwr => 0x0003003F
  | .codec | .ddr => 0x0001003F
  | .port => 0x003F003F
  | .mgmt => 0x000F003F
  | _ => 0x0000003F

/-- Record an error in a page: the first one after a clear is held, a later one sets ERR_MORE (R31). -/
def State.err (s : State) (k : PageKind) (i code detail info : Nat) : State :=
  (s.modHdr k i fun h =>
    if h.errCode = 0 then
      { h with errCode := BitVec.ofNat 32 (code + detail % 2 ^ 16 * 2 ^ 16), errInfo := BitVec.ofNat 32 info }
    else { h with errMore := true }).cause k i causeErr

/-- An enable refused because another owner holds a resource (R44). -/
def State.refuseOwned (s : State) (k : PageKind) (i resource holder : Nat) : State :=
  (s.err k i 0x0001 resource holder).cause k i causeRefused

/-- An enable refused by its page's own rule: recorded like R44, with the code given. -/
def State.refuseEnable (s : State) (k : PageKind) (i code detail info : Nat) : State :=
  (s.err k i code detail info).cause k i causeRefused

/-- Common error codes (R32). -/
def errFeat : Nat := 0x0002
def errFeatOffered : Nat := 0x0003
def errFeatBase : Nat := 0x0004
def errSize : Nat := 0x0005
def errUnmapped : Nat := 0x0006
def errReserved : Nat := 0x0007
def errLiveSlate : Nat := 0x0008
def errSlateArmed : Nat := 0x0009
def errFeatLocked : Nat := 0x000A
def errNotReady : Nat := 0x000B

/-- A feature has been accepted, and the lock too (R34). -/
def State.feat (s : State) (b : Nat) : Bool := s.featOk && bit s.featAcc b

/-- Features this stepping offers (R35). -/
def featOffered : Word := 0x03FFFFFF#64

/-- The increment of a counter word: count modulo 2^48, OVF kept or set by a wrap (R41). -/
def ctrAdd (w : Word) (n : Nat) : Word :=
  let c := fld w 47 0 + n
  wd (c % 2 ^ 48 + (if 2 ^ 48 ≤ c ∨ bit w 63 then 2 ^ 63 else 0))

/-- Whether n increments wrap a counter word (R41). -/
def ctrWraps (w : Word) (n : Nat) : Bool := 2 ^ 48 ≤ fld w 47 0 + n

/-- Remember that a counter has wrapped since the capture edge (R290). Counters are named by region offset; recovery-entry counters,
histogram bins and channel counters by the keys of their own. -/
def State.wrap (s : State) (key : Nat) : State :=
  { s with cnt := { s.cnt with wrapped := if s.cnt.wrapped.contains key then s.cnt.wrapped else key :: s.cnt.wrapped } }

/-- Keys of recovery-entry counters, histogram bins and channel counters. -/
def wrapRcvy (r i : Nat) : Nat := 2 ^ 32 + 17 * r + i
def wrapHist (n b : Nat) : Nat := 2 ^ 33 + 64 * n + b
def wrapChan (c w : Nat) : Nat := 2 ^ 34 + 2 * c + w

/-- Count n events in a counter (R41). -/
def State.countN (s : State) (k : PageKind) (i po n : Nat) : State :=
  if n = 0 then s
  else
    let a := pageBase k i + po
    let old := smGet s.regs a 0
    let s1 := { s with regs := smSet s.regs a (ctrAdd old n) }
    if ctrWraps old n then (s1.wrap a).cause k i causeOvf else s1

/-- Count one event. -/
def State.count (s : State) (k : PageKind) (i po : Nat) : State := s.countN k i po 1

/-- Count one event of a port. -/
def State.countP (s : State) (p po : Nat) : State := s.countN .port p po 1

/-- A write to a counter with n increments on the same edge (R42). -/
def State.writeCtr (s : State) (k : PageKind) (i po : Nat) (v : Word) (n : Nat) : State :=
  let c := fld v 47 0 + n
  let s1 := s.setReg k i po (wd (c % 2 ^ 48 + (if bit v 63 ∨ 2 ^ 48 ≤ c then 2 ^ 63 else 0)))
  if 2 ^ 48 ≤ c then (s1.wrap (pageBase k i + po)).cause k i causeOvf else s1

/-- Add an output. -/
def State.out (s : State) (o : Out) : State := { s with outs := s.outs ++ [o] }

/-- The next free value's number, and the state that has taken it (log entry 4). -/
def State.free (s : State) : Nat × State := (s.freeCount, { s with freeCount := s.freeCount + 1 })

/-- The instance tag: a 16-bit value drawn at reset (R133, log entry 4). -/
def State.instTag (s : State) : Nat := (Config.freeValue s.instDraw).toNat % 2 ^ 16

end Sys2Proof.Machine
end

