-- ==== Sys2Proof/Machine/Ops.lean ====
section
/-! DEFINITION. The named operations over the state: time, ports, memory, owners of shared resources, trace records and alarm
occurrences. -/

namespace Sys2Proof.Machine

open Sys2Proof

/-! Time: w = 2^-16 / 125 ns (log entry 1). -/

def wFrac : Nat := 125
def wPs : Nat := 8192
def wNs : Nat := 8192000
def wUs : Nat := 8192000000
def wMs : Nat := 8192000000000
/-- One tick, 640 ps (R2). -/
def wTick : Nat := 5242880
/-- One hub clock period, 0.8 ns. -/
def wHub : Nat := 6553600
/-- The unit of POLL_INTERVAL, 10.24 ns (R221). -/
def wPoll : Nat := 83886080
/-- One time-distribution period, 1,024 ns (R11). -/
def wPulse : Nat := 8388608000

/-- An instant in units of 2^-16 ns, rounded to the nearest (R46); an exact half does not arise on multiples of w. -/
def roundFrac (w : Nat) : Nat := (w + 62) / wFrac

/-- Fabric time, in w, at an instant of the hub's clock. -/
def State.fab (s : State) (w : Nat) : Nat := ((w : Int) + s.time.fabOff).toNat

/-- The instant of the hub's clock at which fabric time, in w, is reached. -/
def State.unfab (s : State) (w : Int) : Nat := (w - s.time.fabOff).toNat

/-- Hub fabric time in 2^-16 ns. -/
def State.nowFrac (s : State) : Nat := roundFrac (s.fab s.time.now)

/-- Hub fabric time in whole ns. -/
def State.nowNs (s : State) : Nat := s.nowFrac / 2 ^ 16

/-- The hub's clock is at least at an instant. -/
def State.atLeast (s : State) (w : Nat) : State :=
  { s with time := { s.time with now := if s.time.now < w then w else s.time.now } }

/-- The hub clock period that an instant lies in, and the first hub edge at or after an instant (R12). -/
def hubEdge (w : Nat) : Nat := w / wHub
def ceilHub (w : Nat) : Nat := cdiv w wHub * wHub

/-- Tick of the current cycle. -/
def State.tick (s : State) : Nat := (s.time.now - s.time.cycStart) / wTick

/-- Instant of a tick of the current cycle. -/
def State.tickAt (s : State) (t : Nat) : Nat := s.time.cycStart + t * wTick

/-- An island's replica of fabric time (R11). -/
def State.replica (s : State) (i : Nat) : Replica := smGet s.time.replicas i {}

/-- An instant captured in an island's replica, referred to the hub (R47), in 2^-16 ns. -/
def State.toHub (s : State) (i : Nat) (t : Nat) : Int := (t : Int) - (s.replica i).diff

/-- The signed difference of two cycle numbers (R45). -/
def cycDiff (a b : Nat) : Int := sext 48 (toField 48 ((a : Int) - (b : Int)))

/-- A cycle number, modulo 2^48 (R45). -/
def cycMod (n : Nat) : Nat := n % 2 ^ 48

/-! The node and the ports. -/

/-- NODE_CFG.NODE_ID (R98). -/
def State.nodeId (s : State) : Nat := s.regF .cycle 0 R.CYCLE_NODE_CFG 15 0

/-- NODE_CFG.COLDSTART_RANK (R98). -/
def State.rank (s : State) : Nat := s.regF .cycle 0 R.CYCLE_NODE_CFG 23 16

/-- The node is JOINED or in HOLD_OFF. -/
def State.inNet (s : State) : Bool := s.node.state = .joined || s.node.state = .holdOff

/-- A port's state. -/
def State.port (s : State) (p : Nat) : PortSt := smGet s.ports p {}

/-- Change a port's state. -/
def State.modPort (s : State) (p : Nat) (f : PortSt → PortSt) : State := { s with ports := smMod s.ports p {} f }

/-- Change a port's link state machine. -/
def State.modLink (s : State) (p : Nat) (f : LinkSt → LinkSt) : State :=
  s.modPort p fun q => { q with link := f q.link }

/-- The port is in UP. -/
def State.isUp (s : State) (p : Nat) : Bool := (s.port p).link.state = .up

/-- Bytes per tick of a port: 16, or 8 at 100 Gbit/s (R103, R121). -/
def State.bytesPerTick (s : State) (p : Nat) : Nat := if bitsOf (s.port p).link.cfg 1 0 = 1 then 8 else 16

/-- Duration of one byte on the lane of a port, in w. -/
def State.wByte (s : State) (p : Nat) : Nat := wTick / s.bytesPerTick p

/-- A link bit is in LINK_FEAT_USED (R134). -/
def State.linkBit (s : State) (p b : Nat) : Bool := bit (s.port p).link.used b

/-! Memory (R202 to R207). -/

def memStaging (a : Nat) : Bool := a < 2 ^ 29
def lpddrBase : Nat := 0x1000000000
def lpddrSize : Nat := 2 ^ 36
def memLpddr (a : Nat) : Bool := lpddrBase ≤ a && a < lpddrBase + lpddrSize

/-- n bytes at an address lie wholly in staging memory. -/
def inStaging (a n : Nat) : Bool := a + n ≤ 2 ^ 29
/-- n bytes at an address lie wholly in LPDDR. -/
def inLpddr (a n : Nat) : Bool := lpddrBase ≤ a && a + n ≤ lpddrBase + lpddrSize

/-- n bytes at an address lie wholly in staging memory, or wholly in LPDDR once it is trained: until then an access to it is one
outside the map (R202, R344). -/
def State.inMap (s : State) (a n : Nat) : Bool := inStaging a n || (s.ddr.trained && inLpddr a n)

/-- What an unlisted byte reads as: staging memory is zero after reset (R342); LPDDR: log entry 3. -/
def memDefault : Byte := 0

/-- One byte of memory. -/
def memByte (m : List Host.Cell) (a : Nat) : Byte := smGet m a memDefault

/-- Write one byte, keeping the canonical form. -/
def memSet (m : List Host.Cell) (a : Nat) (b : Byte) : List Host.Cell :=
  if b = memDefault then smErase m a else smSet m a b

/-- Write bytes at rising addresses. -/
def memWriteBytes : List Host.Cell → Nat → List Byte → List Host.Cell
  | m, _, [] => m
  | m, a, b :: bs => memWriteBytes (memSet m a b) (a + 1) bs

/-- The canonical form of memory: addresses strictly rising, no entry equal to what an unlisted byte reads as. -/
def Memory.wf : List Host.Cell → Bool
  | [] => true
  | [(_, b)] => b ≠ memDefault
  | (a, b) :: (a', b') :: m => a < a' && b ≠ memDefault && Memory.wf ((a', b') :: m)

/-- Read one byte of memory. -/
def State.readByte (s : State) (a : Nat) : Byte := memByte s.mem a

/-- Read n bytes at rising addresses. -/
def State.readMem (s : State) (a n : Nat) : List Byte := (List.range n).map fun i => s.readByte (a + i)

/-- The 64-bit words that n bytes at an address touch, by address. -/
def wordsOf (a n : Nat) : List Nat :=
  if n = 0 then [] else (List.range ((a + n - 1) / 8 - a / 8 + 1)).map fun i => (a / 8 + i) * 8

/-- A write of the whole 64-bit word clears its poison (R204). -/
def unpoison (ps : List Nat) (a n : Nat) : List Nat := ps.filter fun w => !(a ≤ w && w + 8 ≤ a + n)

/-- An error lies in the 64-bit words that n bytes at an address touch. -/
def eccHits (a n : Nat) (e : Nat × EccKind) : Bool := e.1 / 8 * 8 < a + n && a < e.1 / 8 * 8 + 8

/-- A write of the whole word of staging memory ends an error that stands in it (R204). -/
def overwritten (l : EccList) (a n : Nat) : EccList :=
  l.filter fun e => !(memStaging e.1 && a ≤ e.1 / 8 * 8 && e.1 / 8 * 8 + 8 ≤ a + n)

/-- A write to a word ends every core's reservation of it (R321; log entry 87). -/
def unreserve (l : SMap Nat) (a n : Nat) : SMap Nat := l.filter fun x => !(x.2 < a + n && a < x.2 + 8)

/-- Write bytes to memory (R204, R207). -/
def State.writeMem (s : State) (a : Nat) (bs : List Byte) : State :=
  { s with mem := memWriteBytes s.mem a bs, poison := unpoison s.poison a bs.length, errs := overwritten s.errs a bs.length,
           resv := unreserve s.resv a bs.length }

/-- Remove the bytes of an address range from memory, so that they read 0. -/
def memClear (m : List Host.Cell) (a n : Nat) : List Host.Cell := m.filter fun c => !(a ≤ c.1 && c.1 < a + n)

/-- Zero n bytes of memory (R204, R315, R316). -/
def State.zeroMem (s : State) (a n : Nat) : State :=
  { s with mem := memClear s.mem a n, poison := unpoison s.poison a n, errs := overwritten s.errs a n,
           resv := unreserve s.resv a n }

/-- Some word that n bytes at an address touch is poisoned (R204). -/
def State.poisoned (s : State) (a n : Nat) : Bool := s.poison.any fun w => w < a + n && a < w + 8

/-- The MCH instance of an address: staging die A[8:6], or 8 + LPDDR channel A[14:12] (R203, R207). -/
def mchOf (a : Nat) : Nat := if memStaging a then bitsOf a 8 6 else 8 + bitsOf a 14 12

/-! Shared resources (R43, R44). -/

def resLine (n : Nat) : Nat := 0x1000 + n
def resPin (n : Nat) : Nat := 0x2000 + n
def resTsq (g : Nat) : Nat := 0x3000 + g
def resSlice (i : Nat) : Nat := 0x4000 + i

/-- Owner IDs (R43 and the chapters that name them). -/
def ownerSched : Nat := 0x00030000
def ownerEvRx : Nat := 0x000B0100
def ownerPin (n : Nat) : Nat := 0x000B0200 + n
def ownerDiag (g : Nat) : Nat := 0x00020000 + g
def ownerLz : Nat := 0x00060000
def ownerXfer : Nat := 0x00050000
def ownerCh (c : Nat) : Nat := 0x00080000 + c

/-- The owner of a resource, 0 when it is free. -/
def State.ownerOf (s : State) (r : Nat) : Nat :=
  let i := r % 0x1000
  match r / 0x1000 with
  | 1 => smGet s.evt.lineOwner i 0
  | 2 => smGet s.evt.pinOwner i 0
  | 3 => (smGet s.groups i {}).owner
  | _ => smGet s.scratch i 0

/-- Set the owner of a resource. -/
def State.setOwner (s : State) (r o : Nat) : State :=
  let i := r % 0x1000
  match r / 0x1000 with
  | 1 => { s with evt := { s.evt with lineOwner := smSet s.evt.lineOwner i o } }
  | 2 => { s with evt := { s.evt with pinOwner := smSet s.evt.pinOwner i o } }
  | 3 => { s with groups := smMod s.groups i {} fun g => { g with owner := o } }
  | _ => { s with scratch := smSet s.scratch i o }

/-- The first of some resources that another owner holds. -/
def State.blocked (s : State) (o : Nat) (rs : List Nat) : Option Nat :=
  rs.find? fun r => s.ownerOf r ≠ 0 && s.ownerOf r ≠ o

/-- Take resources. -/
def State.takeAll (s : State) (o : Nat) (rs : List Nat) : State := rs.foldl (fun t r => t.setOwner r o) s

/-- Release the resources among some that an owner holds. -/
def State.release (s : State) (o : Nat) (rs : List Nat) : State :=
  rs.foldl (fun t r => if t.ownerOf r = o then t.setOwner r 0 else t) s

/-! Trace records (R302 to R306). -/

/-- A trace source. -/
def State.src (s : State) (i : Nat) : TraceSrc := smGet s.trace.srcs i {}

/-- Change a trace source. -/
def State.modSrc (s : State) (i : Nat) (f : TraceSrc → TraceSrc) : State :=
  { s with trace := { s.trace with srcs := smMod s.trace.srcs i {} f } }

/-- The island in which a source's events occur. -/
def srcIsland (src : Nat) : Nat := if src < 64 then src else 64

/-- Count a loss of a source (R303, R304, R305). -/
def State.loseRec (s : State) (src : Nat) (space : Bool) : State :=
  let ns := s.nowNs
  let t := s.modSrc src fun x =>
    { x with
      firstLoss := if x.lostRate + x.lostSpace = 0 then ns else x.firstLoss
      lostRate := if space then x.lostRate else x.lostRate + 1
      lostSpace := if space then x.lostSpace + 1 else x.lostSpace }
  t.count .trace 0 (if space then R.TRACE_LOST_FULL else R.TRACE_LOST_RATE)

/-- Pass a record to the reel's FIFO, or drop it (R303 to R305). While a GAP of the source is pending its records are
dropped: for want of a token when it has none, else for want of space (log entry 20). -/
def State.passRec (s : State) (r : TraceRec) : State :=
  let x := s.src r.source
  if x.tokens = 0 then s.loseRec r.source false
  else if 0 < x.lostRate + x.lostSpace then s.loseRec r.source true
  else if 4096 ≤ s.trace.fifo.length then
    (s.modSrc r.source fun x => { x with tokens := x.tokens - 1 }).loseRec r.source true
  else
    let t := s.modSrc r.source fun x => { x with tokens := x.tokens - 1 }
    { t with trace := { t.trace with fifo := t.trace.fifo ++ [r] } }

/-- The filter of a source passes an event (R302). `cls` and `port` are absent where their mask does not apply. -/
def State.passesFilter (s : State) (src : Nat) (ev : Option Nat) (cls port : Option Nat) : Bool :=
  let f := s.reg .trace 0 (R.TRACE_SRC_FILTER + 16 * src)
  s.feat 21 && (s.hdr .trace 0).enable && bit f 0
    && (match ev with | some b => bit f (32 + b) | none => true)
    && (match cls with | some c => bit f (8 + c) | none => true)
    && (match port with | some p => bit f (16 + p % 16) | none => true)

/-- The TIME field of a record whose event is at an instant of the hub, seen in an island's replica (R306). -/
def State.recTime (s : State) (isl : Nat) (frac : Nat) : Nat :=
  ((frac : Int) + (s.replica isl).diff).toNat / 2 ^ 12 % 2 ^ 48

/-- Produce a trace record for an event at an instant (R302, R306). -/
def State.traceAt (s : State) (src : Nat) (ev : Option Nat) (cls port : Option Nat) (frac kind : Nat) (w1 w2 w3 : Word) : State :=
  if s.passesFilter src ev cls port then
    let isl := srcIsland src
    s.passRec { time := s.recTime isl frac, source := src, suspect := !(s.replica isl).valid, kind, w1, w2, w3 }
  else s

/-- Produce a trace record for an event now. -/
def State.traceEv (s : State) (src ev : Nat) (cls port : Option Nat) (kind : Nat) (w1 w2 w3 : Word) : State :=
  s.traceAt src (some ev) cls port s.nowFrac kind w1 w2 w3

/-- A STATE record of source 67 (R306). -/
def State.traceState (s : State) (ev what new : Nat) (value : Word) : State :=
  s.traceEv 67 ev none none 0x06 (wd (what + new % 256 * 2 ^ 8)) value 0

/-! Alarm occurrences (R307, R371). -/

/-- The unit that raises an alarm class, by its position of R308 (R371). -/
def alarmUnit (cls source : Nat) : Nat :=
  if cls = 0x001 then (if source < 64 then pageIndex .pgrp source else pageIndex .global 0)
  else if cls ≤ 0x004 then pageIndex .time 0
  else if cls = 0x00C ∨ cls = 0x00D ∨ (0x010 ≤ cls ∧ cls ≤ 0x017) then pageIndex .port source
  else if cls ≤ 0x00F then pageIndex .cycle 0
  else if cls = 0x018 then pageIndex .stream 0
  else if cls = 0x019 then pageIndex .mch source
  else if cls ≤ 0x01B then pageIndex .lz 0
  else if cls ≤ 0x01E then pageIndex .xfer 0
  else if cls = 0x01F then pageIndex .cnt 0
  else if cls ≤ 0x021 then pageIndex .fault 0
  else if cls = 0x022 then pageIndex .alarm 0
  else if cls = 0x023 then pageIndex .ddr 0
  else pageIndex .pwr 0

/-- Merge an occurrence into the pending ones of its unit, or add it (R307). -/
def addOcc (o : Occ) : List Occ → List Occ
  | [] => [o]
  | x :: xs =>
    if x.cls = o.cls ∧ x.source = o.source then { x with count := x.count + o.count, detail := o.detail, ns := o.ns } :: xs
    else x :: addOcc o xs

/-- Raise an alarm (R307). -/
def State.alarmAt (s : State) (cls source detail : Nat) (ns : Nat) : State :=
  { s with alarm := { s.alarm with
      pend := addOcc { unit := alarmUnit cls source, cls, source, detail := detail % 2 ^ 32, count := 1, ns } s.alarm.pend } }

/-- Raise an alarm now (R307). -/
def State.raise (s : State) (cls source detail : Nat) : State := s.alarmAt cls source detail s.nowNs

/-! ECC (R204, R207). -/

/-- An uncorrected link error of an LPDDR access (R207). -/
def State.linkErr (s : State) (a : Nat) : State :=
  (s.count .mch (mchOf a) R.MCH_ECC_UNCORR).raise 0x019 (mchOf a) a

/-- One error that a read finds: of a word of staging memory, or of the link of an LPDDR channel (R204, R207). -/
def State.eccOne (s : State) (e : Nat × EccKind) : State :=
  let w := e.1 / 8 * 8
  match e.2 with
  | .single => if s.poison.contains w then s else s.count .mch (mchOf w) R.MCH_ECC_CORRECTED
  | .uncorrectable =>
    if memLpddr w then s.linkErr w
    else if s.poison.contains w then s
    else
      (({ s with poison := w :: s.poison }).count .mch (mchOf w) R.MCH_ECC_UNCORR).raise 0x019 (mchOf w) w

/-- One more error stands: an uncorrectable one in place of any other of its word, a single-bit one where the word has none. -/
def errAdd (l : EccList) (e : Nat × EccKind) : EccList :=
  if !(memStaging e.1 || memLpddr e.1) then l
  else if e.2 = .uncorrectable then l.filter (fun x => x.1 / 8 != e.1 / 8) ++ [e]
  else if l.any fun x => x.1 / 8 == e.1 / 8 then l
  else l ++ [e]

/-- Errors have arisen by the step that gives them: they stand until an access finds them (R204, R207; log entry 83). -/
def State.arise (s : State) (ecc : EccList) : State := { s with errs := ecc.foldl errAdd s.errs }

/-- Errors that stand are taken: each once (R204, R207). -/
def State.eccTake (s : State) (found : Nat × EccKind → Bool) : State :=
  (s.errs.filter found).foldl State.eccOne { s with errs := s.errs.filter fun e => !found e }

/-- A read of n bytes at an address takes the errors that it finds (R204, R207). -/
def State.eccRead (s : State) (a n : Nat) : State := s.eccTake (eccHits a n)

/-- A read of n bytes at an address fails: it meets a poisoned word or finds an uncorrectable error (R204), or it meets an uncorrected
link error (R207). -/
def State.readFails (s : State) (a n : Nat) : Bool :=
  s.poisoned a n || s.errs.any fun e => e.2 == .uncorrectable && eccHits a n e

/-- The words of LPDDR among n bytes at an address whose access meets an uncorrected link error (R207). -/
def State.linkLost (s : State) (a n : Nat) : List Nat :=
  (s.errs.filter fun e => memLpddr e.1 && e.2 == .uncorrectable && eccHits a n e).map fun e => e.1 / 8 * 8

/-- A write of n bytes at an address meets the link errors that stand there (R207). -/
def State.linkTake (s : State) (a n : Nat) : State := s.eccTake fun e => memLpddr e.1 && eccHits a n e

/-- Bytes at an address; those in words of a list are free values, for the spec gives the failed access no value (log entry 83). -/
def State.blur (s : State) (lost : List Nat) (a : Nat) (bs : List Byte) : State × List Byte :=
  if lost.isEmpty then (s, bs)
  else
    ({ s with freeCount := s.freeCount + bs.length },
     bs.zipIdx.map fun x =>
      if lost.contains ((a + x.2) / 8 * 8) then BitVec.ofNat 8 (Config.freeValue (s.freeCount + x.2)).toNat else x.1)

/-- A unit writes bytes: the write meets the link errors of LPDDR, and a word whose write fails holds free bytes (R207; log entry 83). -/
def State.store (s : State) (a : Nat) (bs : List Byte) : State :=
  let r := (s.linkTake a bs.length).blur (s.linkLost a bs.length) a bs
  r.1.writeMem a r.2

/-- A unit zeroes bytes of memory (R207, R315, R316). -/
def State.storeZero (s : State) (a n : Nat) : State :=
  (s.linkLost a n).foldl (fun t w =>
    let r := t.blur [w] w (List.replicate 8 0)
    r.1.writeMem w r.2) ((s.linkTake a n).zeroMem a n)

/-- A unit reads bytes for which the spec gives a failed read no effect of its own: the errors are taken, and a word whose read fails
answers free bytes (R204, R207; log entry 83). -/
def State.load (s : State) (a n : Nat) : State × List Byte :=
  (s.eccRead a n).blur ((wordsOf a n).filter fun w => s.readFails w 8) a (s.readMem a n)

end Sys2Proof.Machine
end

