-- ==== Sys2Proof/Machine/Operands.lean ====
section
/-! DEFINITION. The operand forms: the entries of the slate tables (R100 to R109, R162 to R170, R209) and the layouts of frames on
the wire (R49, R53, R133, R182 to R197). -/

namespace Sys2Proof.Machine

open Sys2Proof

/-! Slates. -/

/-- A word of the reset slate's tables (R101). -/
def resetTbl (off : Nat) : Word :=
  if off < 0x400000 then (if off % 0x1000 = 0 then 0x00003D09000000C0#64 else 0)
  else if 0x600000 ≤ off ∧ off < 0x604000 then (if off % 0x10 = 0 then 0x0000000000FAC688#64 else 0)
  else if 0x604000 ≤ off ∧ off < 0x608000 then (if off % 0x10 = 0 then 0x0000002000000001#64 else 0)
  else 0

/-- A word of a slate's tables. -/
def Bank.word (b : Bank) (off : Nat) : Word := smGet b.tbl off (resetTbl off)

/-- The live slate. -/
def State.live (s : State) : Bank := if s.slate.liveB then s.slate.b else s.slate.a

/-- The staged slate. -/
def State.staged (s : State) : Bank := if s.slate.liveB then s.slate.a else s.slate.b

/-- Change the staged slate. -/
def State.modStaged (s : State) (f : Bank → Bank) : State :=
  if s.slate.liveB then { s with slate := { s.slate with a := f s.slate.a } }
  else { s with slate := { s.slate with b := f s.slate.b } }

/-- Change the live slate (a live zone edit, R212). -/
def State.modLive (s : State) (f : Bank → Bank) : State :=
  if s.slate.liveB then { s with slate := { s.slate with b := f s.slate.b } }
  else { s with slate := { s.slate with a := f s.slate.a } }

/-- Live CYCLE_TICKS. -/
def State.ticks (s : State) : Nat := s.live.ticks

/-- Slate offsets (R100). -/
def offGcl (p i : Nat) : Nat := p * 0x1000 + i * 8
def offSlot (p i : Nat) : Nat := 0x400000 + p * 0x800 + i * 16
def offMap (p : Nat) : Nat := 0x600000 + p * 0x10
def offCtl (p : Nat) : Nat := 0x604000 + p * 0x10
def offZone (z : Nat) : Nat := 0x610000 + z * 16
def offStream (i : Nat) : Nat := 0x680000 + i * 8
def offGen (i : Nat) : Nat := 0x700000 + i * 8
def offRcvy (r : Nat) : Nat := 0x780000 + r * 16

/-- A slate offset of a table, not of a reserved range (R100). -/
def offMapped (off : Nat) : Bool :=
  off < 0x608000 || (0x610000 ≤ off && off < 0x620000) || (0x680000 ≤ off && off < 0x800000)

/-- The bits of a table word that are not reserved, by its offset (tables of the entries of each table). -/
def tblMask (o : Nat) : Word :=
  let low := o % 16 < 8
  if o < 0x400000 then 0xBFFFFFFFFFFF03FF#64
  else if o < 0x600000 then (if low then 0x01FFFFFFFFFFFFFF#64 else 0xFFFF#64)
  else if o < 0x604000 then (if low then 0x0000FFFF07FFFFFF#64 else 0)
  else if o < 0x608000 then (if low then 0x00000FFF00FF03FF#64 else 0)
  else if o < 0x620000 then (if low then 0xFFFFFFFFFFFF0F1F#64 else 0x007FFFFF007FFFFF#64)
  else if o < 0x700000 then 0x03FFFFFF#64
  else if o < 0x780000 then 0x0000FFFFFFFFFFFD#64
  else (if low then 0x3FFFFFFF0FFFFFF7#64 else 0x0000FFFFFFFF1FFF#64)

/-- The bits of a STREAM NULL_ID register that are not reserved (table of the STREAM page). -/
def nullMask (po : Nat) : Word := if po % 16 < 8 then 0x9FFFFFFFFFFFFFFF#64 else 0xFFFF#64

/-- Gate control list entry (R102). -/
def Bank.gcl (b : Bank) (p i : Nat) : Word := b.word (offGcl p i)
def gMask (e : Word) : Nat := fld e 7 0
def gHold (e : Word) : Bool := bit e 8
def gSpare (e : Word) : Bool := bit e 9
def gOwner (e : Word) : Nat := fld e 31 16
def gDur (e : Word) : Nat := fld e 55 32
def gLine (e : Word) : Nat := fld e 61 56
def gEvent (e : Word) : Bool := bit e 63

/-- GCL_COUNT, RX_SLOT_COUNT and RX_TOL of a port. -/
def Bank.gclCount (b : Bank) (p : Nat) : Nat := fld (b.word (offCtl p)) 9 0
def Bank.slotCount (b : Bank) (p : Nat) : Nat := fld (b.word (offCtl p)) 23 16
def Bank.rxTol (b : Bank) (p : Nat) : Nat := fld (b.word (offCtl p)) 43 32

/-- Class map fields of a port. -/
def Bank.pcpClass (b : Bank) (p pcp : Nat) : Nat := bitsOf (fld (b.word (offMap p)) 23 0) (3 * pcp + 2) (3 * pcp)
def Bank.untagged (b : Bank) (p : Nat) : Nat := fld (b.word (offMap p)) 26 24
def Bank.schedMask (b : Bank) (p : Nat) : Nat := fld (b.word (offMap p)) 39 32
def Bank.preMask (b : Bank) (p : Nat) : Nat := fld (b.word (offMap p)) 47 40

/-- The used gate entries of a port with their start ticks (R102). -/
def gclSpans (b : Bank) (p : Nat) : List (Nat × Word) :=
  ((List.range (b.gclCount p)).foldl (fun (acc : List (Nat × Word) × Nat) i =>
    let e := b.gcl p i
    ((acc.2, e) :: acc.1, acc.2 + gDur e)) ([], 0)).1.reverse

/-- The entry that a tick of the cycle lies in: its index, start and word. -/
def Bank.entryAt (b : Bank) (p t : Nat) : Option (Nat × Nat × Word) :=
  let l := gclSpans b p
  (List.range l.length).findSome? fun i =>
    match l[i]? with
    | some (st, e) => if st ≤ t ∧ t < st + gDur e then some (i, st, e) else none
    | none => none

/-- Receive slot fields (R108). -/
def slotStart (w : Word) : Nat := fld w 23 0
def slotEnd (w : Word) : Nat := fld w 47 24
def slotMask (w : Word) : Nat := fld w 55 48
def slotSpare (w : Word) : Bool := bit w 56

/-- Stream identification entry fields (R162). -/
def stValid (w : Word) : Bool := bit w 0
def stNull (w : Word) : Bool := bit w 1
def stHi (w : Word) : Nat := fld w 5 2
def stRelay (w : Word) : Bool := bit w 6
def stRcvy (w : Word) : Bool := bit w 7
def stIndex (w : Word) : Nat := fld w 22 8
def stClass (w : Word) : Nat := fld w 25 23

/-- Generation entry fields (R167). -/
def gnValid (w : Word) : Bool := bit w 0
def gnHi (w : Word) : Nat := fld w 47 44
def gnPorts (w : Word) : List Nat :=
  (List.range (fld w 3 2 + 1)).map fun i => fld w (13 + 10 * i) (4 + 10 * i)

/-- Recovery entry fields (R170): low and high word. -/
def rcPorts (lo hi : Word) : List Nat :=
  ([fld lo 41 32, fld lo 51 42, fld lo 61 52, fld hi 9 0]).take (fld hi 11 10 + 1)
def rcMatch (lo : Word) : Bool := bit lo 1
def rcIndiv (lo : Word) : Bool := bit lo 2
def rcLen (lo : Word) : Nat := fld lo 11 4
def rcTimeout (lo : Word) : Nat := fld lo 27 12
def rcLatent (hi : Word) : Bool := bit hi 12
def rcDiff (hi : Word) : Nat := fld hi 31 16
def rcPeriod (hi : Word) : Nat := fld hi 47 32

/-- Zone fields (R209): low and high word. -/
def znValid (lo : Word) : Bool := bit lo 0
def znRead (lo : Word) : Bool := bit lo 1
def znWrite (lo : Word) : Bool := bit lo 2
def znAccum (lo : Word) : Bool := bit lo 3
def znSrcCheck (lo : Word) : Bool := bit lo 4
def znScratch (lo : Word) : Nat := fld lo 11 8
def znSrc (lo : Word) : Nat := fld lo 31 16
def znKey (lo : Word) : Nat := fld lo 63 32
def znBase (hi : Word) : Nat := fld hi 22 0
def znLimit (hi : Word) : Nat := fld hi 54 32

/-- The zones that a slate lists, by index. -/
def Bank.zones (b : Bank) : List Nat :=
  ((smKeys b.tbl).filter fun o => 0x610000 ≤ o && o < 0x620000 && (o % 16 == 0) && znValid (b.word o)).map fun o =>
    (o - 0x610000) / 16

/-- A byte address lies in a zone. -/
def Bank.inZone (b : Bank) (z a : Nat) : Bool :=
  let hi := b.word (offZone z + 8)
  znBase hi * 64 ≤ a && a < znLimit hi * 64 + 64

/-- The VALID zone that contains a byte address (R209, check 1). -/
def Bank.zoneAt (b : Bank) (a : Nat) : Option Nat := b.zones.find? fun z => b.inZone z a

/-- A local read of n bytes touches a VALID zone whose READ is 0 (R209). -/
def Bank.readBarred (b : Bank) (a n : Nat) : Bool :=
  memStaging a && 0 < n && b.zones.any fun z =>
    let hi := b.word (offZone z + 8)
    !(znRead (b.word (offZone z))) && decide (znBase hi * 64 < a + n) && decide (a < znLimit hi * 64 + 64)

/-! Frames. -/

/-- Itpitos TYPE codes (R188). -/
def tData : Nat := 0x01
def tAccum : Nat := 0x02
def tClapper : Nat := 0x10
def tDelayReq : Nat := 0x11
def tDelayResp : Nat := 0x12
def tHello : Nat := 0x20
def tClaim : Nat := 0x21
def tClaimAck : Nat := 0x22
def tClaimRefused : Nat := 0x23
def tFault : Nat := 0x30
def tEvent : Nat := 0x31
def tPost : Nat := 0x32

/-- The Itpitos header (R185, table of the header). -/
structure Hdr where
  version : Nat := 1
  typ     : Nat := 0
  flags   : Nat := 0
  dst     : Nat := 0
  src     : Nat := 0
  handle  : Nat := 0
  op      : Nat := 0
  seq     : Nat := 0
  cycle   : Nat := 0
  codec   : Nat := 0
  elem    : Nat := 0
  count   : Nat := 0
  target  : Nat := 0
  plen    : Nat := 0
  key     : Nat := 0
deriving DecidableEq, Repr

/-- The 32 header bytes in wire order (R185, R186). -/
def Hdr.bytes (h : Hdr) : List Byte :=
  beBytes 1 h.version ++ beBytes 1 h.typ ++ beBytes 2 h.flags ++ beBytes 2 h.dst ++ beBytes 2 h.src ++
    beBytes 3 (h.handle % 2 ^ 20) ++ beBytes 1 h.op ++ beBytes 2 h.seq ++ beBytes 2 h.cycle ++
    beBytes 1 (h.codec % 16 * 16 + h.elem % 16) ++ beBytes 1 0 ++ beBytes 2 h.count ++ beBytes 6 h.target ++
    beBytes 2 h.plen ++ beBytes 4 h.key

/-- The header of a frame's body (R185). -/
def hdrOf (b : List Byte) : Hdr :=
  { version := beAt b 0 1, typ := beAt b 1 1, flags := beAt b 2 2, dst := beAt b 4 2, src := beAt b 6 2,
    handle := beAt b 8 3 % 2 ^ 20, op := beAt b 11 1, seq := beAt b 12 2, cycle := beAt b 14 2,
    codec := beAt b 16 1 / 16, elem := beAt b 16 1 % 16, count := beAt b 18 2, target := beAt b 20 6,
    plen := beAt b 26 2, key := beAt b 28 4 }

/-- The payload of a frame's body. -/
def payloadOf (b : List Byte) : List Byte := (b.drop 32).take (beAt b 26 2)

/-- Length of a frame from the destination address to the FCS (R103). -/
def frameLen (f : Frame) : Nat := 14 + (if f.tag.isSome then 4 else 0) + f.body.length + 4

/-- The length R183 fixes for an Itpitos frame. -/
def itpLen (tagged : Bool) (plen : Nat) : Nat := max 64 (14 + (if tagged then 4 else 0) + 32 + plen + 4)

/-- Body of an Itpitos frame: header, payload and pad (R183). -/
def itpBody (tagged : Bool) (h : Hdr) (payload : List Byte) : List Byte :=
  let n := 32 + payload.length
  let base := 18 + (if tagged then 4 else 0)
  h.bytes ++ payload ++ List.replicate (if base + n < 64 then 64 - base - n else 0) 0

/-- A frame that the endpoint originates on a port (R136, R184, R201). -/
def State.mkFrame (s : State) (p : Nat) (tag : Option Nat) (h : Hdr) (payload : List Byte) : Frame :=
  { da := BitVec.ofNat 48 (s.regF .port p R.PORT_MAC_DA 47 0), sa := BitVec.ofNat 48 (s.regF .port p R.PORT_MAC_SA 47 0),
    tag := tag.map fun c => { pcp := c, dei := false, vid := 0 },
    etherType := BitVec.ofNat 16 (s.port p).link.etherType, body := itpBody tag.isSome h payload }

/-- Occupancy of a frame in ticks (R103). -/
def State.occupancy (s : State) (p len : Nat) : Nat := cdiv (8 + len + 12) (s.bytesPerTick p)

/-- Bits [15:0] of the current cycle for a header's CYCLE field; 0 without a cycle (R187). -/
def State.cycField (s : State) : Nat := if s.time.hasCycle then s.time.cycle % 2 ^ 16 else 0

/-- DST_NODE of a link-local frame (R188). -/
def State.llDst (s : State) (p : Nat) : Nat :=
  match (s.port p).link.partner with
  | some (n, _, _) => n
  | none => 0

/-- Header of a link-local frame (R186 to R188). -/
def State.llHdr (s : State) (p typ plen : Nat) : Hdr :=
  { typ, dst := s.llDst p, src := s.nodeId, cycle := s.cycField, plen }

/-- A link-local frame of a port. -/
def State.llFrame (s : State) (p typ : Nat) (payload : List Byte) : Frame :=
  s.mkFrame p none (s.llHdr p typ payload.length) payload

/-- Clapper payload (R49). -/
def clapperBytes (cycle origin : Nat) (corr : Int) (rank node steps ticks flags : Nat) : List Byte :=
  beBytes 6 cycle ++ beBytes 8 (origin / 2 ^ 16) ++ beBytes 2 (origin % 2 ^ 16) ++ beBytes 8 (toField 64 corr) ++
    beBytes 1 rank ++ beBytes 2 node ++ beBytes 1 steps ++ beBytes 3 ticks ++ beBytes 1 flags

/-- The clapper that a received clapper frame carries (R49). -/
def clapperOf (h : Hdr) (b : List Byte) : Clapper :=
  { hdrCycle := h.cycle, cycle := beAt b 0 6, origin := beAt b 6 8 * 2 ^ 16 + beAt b 14 2, correction := sext 64 (beAt b 16 8),
    tbRank := beAt b 24 1, tbNode := beAt b 25 2, steps := beAt b 27 1, ticks := beAt b 28 3, flags := beAt b 31 1 }

/-- DELAY_REQ and DELAY_RESP payload (R53). -/
def delayBytes (req : Nat) (synt : Bool) (turn : Int) : List Byte :=
  beBytes 2 req ++ beBytes 1 (b2n synt) ++ beBytes 5 0 ++ beBytes 8 (toField 64 turn) ++ beBytes 16 0

/-- HELLO payload (table of the HELLO payload). -/
def helloBytes (port tag : Nat) (word : Word) (et : Nat) (ack sw sl : Bool) : List Byte :=
  beBytes 2 port ++ beBytes 2 tag ++ beBytes 8 word.toNat ++ beBytes 2 et ++
    beBytes 1 (b2n ack + 2 * b2n sw + 4 * b2n sl) ++ beBytes 17 0

/-- The HELLO that a received HELLO frame carries. -/
def helloOf (h : Hdr) (b : List Byte) : Hello :=
  { node := h.src, port := beAt b 0 2 % 1024, tag := beAt b 2 2, word := wd (beAt b 4 8), etherType := beAt b 12 2,
    ack := nbit (beAt b 14 1) 0, switch := nbit (beAt b 14 1) 1, sleep := nbit (beAt b 14 1) 2 }

/-- CLAIM, CLAIM_ACK and CLAIM_REFUSED payload (R192). -/
def claimBytes (owner cycle b8 holder : Nat) : List Byte :=
  beBytes 2 owner ++ beBytes 6 cycle ++ beBytes 1 b8 ++ beBytes 1 0 ++ beBytes 2 holder ++ beBytes 4 0

/-- FAULT payload (R193). -/
def faultBytes (r : FaultReport) : List Byte :=
  beBytes 2 r.node ++ beBytes 2 (if r.port = 0x400 then 0x8000 else r.port % 1024) ++ beBytes 2 r.code ++
    beBytes 1 r.state ++ beBytes 1 0 ++ beBytes 6 r.firstCycle ++ beBytes 2 0 ++
    beBytes 4 (min r.count 0xFFFFFFFF) ++ beBytes 4 r.detail ++ beBytes 8 0

/-- The report that a received FAULT frame carries (R193). -/
def faultOf (h : Hdr) (b : List Byte) : FaultReport :=
  { src := h.src, state := beAt b 6 1, node := beAt b 0 2,
    port := if nbit (beAt b 2 2) 15 then 0x400 else beAt b 2 2 % 1024, code := beAt b 4 2, firstCycle := beAt b 8 6,
    count := beAt b 16 4, detail := beAt b 20 4 }

/-- EVENT payload (R195). -/
def eventBytes (timed : Bool) (line fireCycle fireTick ns : Nat) : List Byte :=
  beBytes 1 (b2n timed * 128 + line % 64) ++ beBytes 1 0 ++ beBytes 2 fireCycle ++ beBytes 3 fireTick ++ beBytes 1 0 ++
    beBytes 8 ns

/-- Size of an element in bytes by ELEM_TYPE (R191). -/
def elemSize (t : Nat) : Nat := if t = 1 ∨ t = 5 then 4 else if t = 2 ∨ t = 3 then 2 else 1

/-- Payload length that the table of types fixes; none where it varies (R188). -/
def fixedPlen (t : Nat) : Option Nat :=
  if t = tClapper ∨ t = tDelayReq ∨ t = tDelayResp ∨ t = tHello ∨ t = tFault then some 32
  else if t = tClaim ∨ t = tClaimAck ∨ t = tClaimRefused ∨ t = tEvent then some 16
  else none

/-- A TYPE that the port consumes whatever its DST_NODE (R188). -/
def linkLocal (t : Nat) : Bool := 0x10 ≤ t && t < 0x30

/-- A defined TYPE code (R188). -/
def typDefined (t : Nat) : Bool :=
  t == tData || t == tAccum || t == tClapper || t == tDelayReq || t == tDelayResp || t == tHello || t == tClaim ||
    t == tClaimAck || t == tClaimRefused || t == tFault || t == tEvent || t == tPost

end Sys2Proof.Machine
end

