-- ==== Sys2Proof/Machine/Rings.lean ====
section
/-! DEFINITION. Latency histograms (R296 to R298), interrupt identities (R326 to R328), completion rings and the finish of a job
(R226, R235 to R249). -/

namespace Sys2Proof.Machine

open Sys2Proof

/-! Histograms. -/

/-- The bin of a sample (R297). -/
def histBin (v origin : Nat) : Nat :=
  let d := v - origin
  if d < 128 then d / 4 else min 63 (29 + log2 (d - 120))

/-- A histogram with one more sample (R296, R297). -/
def Hist.add (h : Hist) (v origin : Nat) : Hist :=
  let b := histBin v origin
  { bins := smMod h.bins b 0 fun w => ctrAdd w 1
    min := if v < h.min.toNat then wd v else h.min
    max := if h.max.toNat < v then wd v else h.max }

/-- Number of a port-group histogram: group, kind, class (R295). -/
def histNo (g k c : Nat) : Nat := (g * 3 + k) * 8 + c

/-- ORIGIN register of a kind (R301). -/
def originOff (k : Nat) : Nat :=
  if k = 0 then R.PGRP_ORIGIN_W2M else if k = 1 then R.PGRP_ORIGIN_G2W else R.PGRP_ORIGIN_J2C

/-- Take a sample in a port group (R296). -/
def State.sample (s : State) (g k c v : Nat) : State :=
  if s.feat 20 then
    let o := s.regF .pgrp g (originOff k) 11 0
    let n := histNo g k c
    let old := smGet s.cnt.hists n {}
    let s1 := { s with cnt := { s.cnt with hists := smSet s.cnt.hists n (old.add v o) } }
    if ctrWraps (smGet old.bins (histBin v o) 0) 1 then (s1.wrap (wrapHist n (histBin v o))).cause .pgrp g causeOvf else s1
  else s

/-- Take a sample of the device job histogram (R296). -/
def State.sampleOther (s : State) (v : Nat) : State :=
  if s.feat 20 then
    let o := s.regF .cnt 0 R.CNT_OTHER_ORIGIN 11 0
    let s1 := { s with cnt := { s.cnt with other := s.cnt.other.add v o } }
    if ctrWraps (smGet s.cnt.other.bins (histBin v o) 0) 1 then (s1.wrap (wrapHist 1536 (histBin v o))).cause .cnt 0 causeOvf
    else s1
  else s

/-! Interrupt identities. -/

/-- The route of an identity (R326). -/
def State.route (s : State) (i : Nat) : Nat := smGet s.core.routes i 0

/-- An identity can be signalled: it is not 0 and its route is enabled (R326, R328). -/
def State.routed (s : State) (i : Nat) : Bool := 0 < i && i < 2048 && nbit (s.route i) 7

/-- Signal an identity through its route: set the pending bit of the file it names (R326). -/
def State.signal (s : State) (i : Nat) : State :=
  let h := bitsOf (s.route i) 3 0
  let f := bitsOf (s.route i) 4 4
  let s1 := { s with core := { s.core with
      pendIrq := if s.core.pendIrq.contains (h, f, i) then s.core.pendIrq else s.core.pendIrq ++ [(h, f, i)] } }
  (s1.count .global 0 R.GLOBAL_IRQ_SIGNALS).out (.irq h f i)

/-- A notification of a completion ring (R328). -/
def State.notifyId (s : State) (i : Nat) : State :=
  if s.routed i then s.signal i else s.count .global 0 R.GLOBAL_IRQ_UNROUTED

/-! Positions (R216). -/

/-- Value of a position register of a ring of n. -/
def posVal (n r : Nat) : Nat := (if nbit r 16 then n else 0) + r % 2 ^ 16

/-- The register of a position value, modulo 2 n. -/
def posReg (n v : Nat) : Nat :=
  let u := v % (2 * n)
  if u < n then u else u - n + 2 ^ 16

/-- Positions from b to a, modulo 2 n. -/
def posDiff (n a b : Nat) : Nat := (posVal n a + 2 * n - posVal n b) % (2 * n)

/-- The position k further on. -/
def posAdd (n r k : Nat) : Nat := posReg n (posVal n r + k)

/-! Completion rings. -/

/-- A completion ring. -/
def State.ring (s : State) (c : Nat) : CqSt := smGet s.cq c {}

/-- Change a completion ring. -/
def State.modRing (s : State) (c : Nat) (f : CqSt → CqSt) : State := { s with cq := smMod s.cq c {} f }

/-- Entries a ring holds (R236). -/
def CqSt.out (r : CqSt) : Nat := posDiff (2 ^ r.log2) r.tail r.head

/-- A ring is full (R236). -/
def CqSt.full (r : CqSt) : Bool := r.out == 2 ^ r.log2

/-- Entries in the hold store for a ring (R244). -/
def State.heldOf (s : State) (c : Nat) : List Held := s.xfer.held.filter fun h => h.cq == c

/-- A ring is blocked (R243). -/
def State.blockedRing (s : State) (c : Nat) : Bool := (s.ring c).full || !(s.heldOf c).isEmpty

/-- Send a ring's notification, which counts the entries written before; `later` entries count toward the next (R246). -/
def State.notifyRing (s : State) (c later : Nat) : State :=
  let now := s.time.now
  (s.modRing c fun r =>
    { r with written := later, oldest := if later = 0 then none else some now }).notifyId (fld (s.ring c).notify 10 0)

/-- A blocked episode begins or ends, if it does (R243, R245). `later`: entries written on this edge; `sent`: a notification has been
sent on it, so that the episode sends no second one (R246). -/
def State.episode (s : State) (c later : Nat) (sent : Bool) : State :=
  let r := s.ring c
  if s.blockedRing c && !r.episode then
    let s1 := ((s.modRing c fun r => { r with episode := true }).count .xfer 0 R.XFER_CQ_FULL_EPISODES).raise 0x01E c 0
    if bit r.notify 15 && !sent then s1.notifyRing c later else s1
  else if !s.blockedRing c && r.episode then s.modRing c fun r => { r with episode := false }
  else s

/-- Write an entry at TAIL with its PHASE (R236, R238, R246). -/
def State.putEntry (s : State) (c : Nat) (lo hi : Word) : State :=
  let r := s.ring c
  let n := 2 ^ r.log2
  let i := r.tail % 2 ^ 16
  let h := setBit hi 63 (!(nbit r.tail 16))
  let s1 := (s.store (r.base + i * 16) (leBytes 8 lo.toNat ++ leBytes 8 h.toNat)).count .xfer 0 R.XFER_COMPLETIONS
  let s2 := s1.modRing c fun r =>
    { r with tail := posAdd n r.tail 1, written := r.written + 1,
             oldest := match r.oldest with | some t => some t | none => some s1.time.now }
  let r2 := s2.ring c
  let sent := bit r2.notify 15 && decide (fld r2.notify 23 16 ≤ r2.written)
  (if sent then s2.notifyRing c 0 else s2).episode c 1 sent

/-- Place a finished job's entry: in its ring, or behind the entries held for it (R244, R245). -/
def State.complete (s : State) (c queue : Nat) (lo hi : Word) : State :=
  if s.blockedRing c then
    { s with xfer := { s.xfer with held := s.xfer.held ++ [{ cq := c, queue, lo, hi := setBit hi 59 true }] } }
  else s.putEntry c lo hi

/-- Write the oldest held entry of a ring that is not full (R245). -/
def State.putHeld (s : State) (c : Nat) : State :=
  match s.heldOf c with
  | [] => s
  | h :: _ =>
    if (s.ring c).full then s
    else
      let s1 := { s with xfer := { s.xfer with held := s.xfer.held.erase h } }
      ((s1.count .xfer 0 R.XFER_COMPLETIONS_HELD).putEntry c h.lo h.hi)

/-! Jobs. -/

/-- The status codes (R241). -/
def stOk : Nat := 0x00
def stBadEntry : Nat := 0x01
def stBadAddress : Nat := 0x02
def stProtection : Nat := 0x03
def stPoisoned : Nat := 0x04
def stNoGen : Nat := 0x05
def stNoFit : Nat := 0x06
def stLinkDown : Nat := 0x07
def stAbandoned : Nat := 0x08
def stEventTimeout : Nat := 0x09
def stExpectTimeout : Nat := 0x0A
def stPoisonedZone : Nat := 0x0B
def stZoneChanged : Nat := 0x0C
def stAborted : Nat := 0x0D
def stNodeLeft : Nat := 0x0E

/-- A queue. -/
def State.queue (s : State) (q : Nat) : SqSt := smGet s.sq q {}

/-- Change a queue. -/
def State.modQueue (s : State) (q : Nat) (f : SqSt → SqSt) : State := { s with sq := smMod s.sq q {} f }

/-- The job of an identifier. -/
def State.jobOf (s : State) (id : Nat) : Option Job := s.xfer.jobs.find? fun j => j.id == id

/-- Change a job. -/
def State.modJob (s : State) (id : Nat) (f : Job → Job) : State :=
  { s with xfer := { s.xfer with jobs := s.xfer.jobs.map fun j => if j.id = id then f j else j } }

/-- Jobs in flight in the device (R230). -/
def State.inFlight (s : State) : Nat := s.xfer.jobs.length + s.xfer.held.length

/-- Jobs of a queue in flight (R230, R231). -/
def State.queueInFlight (s : State) (q : Nat) : Nat :=
  (s.xfer.jobs.filter fun j => j.queue == q).length + (s.xfer.held.filter fun h => h.queue == q).length

/-- A send kind. -/
def JobKind.isSend (k : JobKind) : Bool := k = .send || k = .sendOnEvent || k = .accumSend

/-- KIND code of an entry (R217). -/
def JobKind.code : JobKind → Nat
  | .nop => 0 | .send => 1 | .sendOnEvent => 2 | .expect => 3 | .accumSend => 4 | .fence => 5 | .reserved c => c

/-- A replica of the frame has left the endpoint. -/
def FrameSt.left (f : FrameSt) : Bool := f.reps.any fun r => r.outcome == some 0

/-- Every replica of the frame has left or been discarded. -/
def FrameSt.settled (f : FrameSt) : Bool := f.reps.all fun r => r.outcome.isSome

/-- The cause of a frame of which no replica left: that of the lowest member port (R168). -/
def FrameSt.cause (f : FrameSt) : Nat :=
  match sortBy RepSt.port f.reps with
  | r :: _ => r.outcome.getD 0
  | [] => 0

/-- Status of a send job whose frames are settled (R168, R226). -/
def Job.sendStatus (j : Job) : Nat :=
  match j.failed with
  | some c => c
  | none =>
    match j.frames.find? fun f => !f.left with
    | some f => f.cause
    | none => stOk

/-- Bytes of a send job (R239). -/
def Job.sentBytes (j : Job) : Nat := ((j.frames.filter FrameSt.left).map FrameSt.bytes).sum

/-- REPLICA_LOST (R168, R241). -/
def Job.replicaLost (j : Job) : Bool :=
  j.frames.any fun f => f.left && f.reps.any fun r => r.outcome.isSome && r.outcome != some 0

/-- The zone's state. -/
def State.zone (s : State) (z : Nat) : ZoneSt := smGet s.lz.zones z {}

/-- BYTES and BYTES_SAT of a job (R239). -/
def State.jobBytes (s : State) (j : Job) (status : Nat) : Nat × Bool :=
  let n : Int :=
    if j.kind = .expect then
      (if status = stBadEntry then 0 else (toField 48 (((s.zone j.zone).landed : Int) - j.c0) : Int))
    else if j.kind.isSend then (j.sentBytes : Int) else 0
  if 0xFFFFFFFF < n then (0xFFFFFFFF, true) else (n.toNat, false)

/-- A job finishes at an instant with a status: its completion, its latency sample, its trace record (R226, R239 to R244, R296,
R302). -/
def State.finishAt (s : State) (at_ : Nat) (j : Job) (status : Nat) : State :=
  let (bytes, sat) := s.jobBytes j status
  let lost := j.tsLost
  let (stamp, sus) := match j.ts with
    | some (t, b) => (t, b)
    | none => (roundFrac (s.fab at_) / 2 ^ 12 % 2 ^ 48, !(s.replica 64).valid)
  let lo := wd (j.tag + bytes * 2 ^ 32)
  let hi := wd (stamp + status * 2 ^ 48 + b2n j.ts.isSome * 2 ^ 56 + b2n lost * 2 ^ 57 + b2n j.replicaLost * 2 ^ 58
    + b2n sus * 2 ^ 60 + b2n sat * 2 ^ 61)
  let s1 := { s with xfer := { s.xfer with jobs := s.xfer.jobs.filter fun x => x.id != j.id } }
  let s2 := if lost then s1.count .xfer 0 R.XFER_TS_LOST_JOBS else s1
  let v := (at_ - j.fetchAt) / wTick
  let s3 := match j.frames with
    | f :: _ => (match f.reps with
      | r :: _ => s2.sample (r.port / 16) 2 j.cls v
      | [] => s2.sampleOther v)
    | [] => s2.sampleOther v
  let s4 := s3.traceAt 65 (some (if status = stOk then 1 else 2)) none none (roundFrac (s3.fab at_)) 0x04
    (wd (j.queue + j.kind.code * 2 ^ 12 + 2 ^ 16 + status * 2 ^ 24 + j.tag * 2 ^ 32)) (wd bytes) 0
  s4.complete j.cq j.queue lo hi

/-- A job finishes now (R226). -/
def State.finish (s : State) (j : Job) (status : Nat) : State := s.finishAt s.time.now j status

/-- Finish jobs on one edge, by rising queue and within a queue in fetch order (R242). -/
def State.finishAll (s : State) (l : List (Job × Nat)) : State :=
  (sortBy (fun x => x.1.queue * 2 ^ 64 + x.1.order) l).foldl (fun t x => t.finish x.1 x.2) s

/-- Instant at which the last replica of a send job leaves the pins or was discarded (R238). -/
def Job.lastAt (j : Job) : Nat := ((j.frames.flatMap FrameSt.reps).map RepSt.at_).foldl max 0

/-- A send job builds no more frames and all its replicas have left the pins or been discarded at an instant (R226, R238). -/
def Job.gone (j : Job) (at_ : Nat) : Bool :=
  j.kind.isSend && j.done && j.frames.all FrameSt.settled && decide (j.lastAt ≤ at_)

/-- The send jobs whose last replica has left by now finish, each on the hub edge of that departure; those of one edge by rising
queue and within a queue in fetch order (R226, R238, R240, R242). -/
def State.departs (s : State) : State :=
  (sortBy (fun j => (hubEdge j.lastAt * 2 ^ 16 + j.queue) * 2 ^ 64 + j.order)
    (s.xfer.jobs.filter fun j => j.gone s.time.now)).foldl (fun t j => t.finishAt j.lastAt j j.sendStatus) s

/-- A send job finishes when it builds no more frames and all its replicas have left (R226). -/
def State.settle (s : State) (id : Nat) : State :=
  match s.jobOf id with
  | some j => if j.gone s.time.now then s.finish j j.sendStatus else s
  | none => s

/-- Free the reserved entry of a job's timestamp queue (R247). -/
def State.freeTs (s : State) (id : Nat) : State :=
  match s.jobOf id with
  | some j =>
    match j.frames with
    | f :: _ =>
      (match f.reps with
      | r :: _ =>
        if j.tsHeld then
          ({ s with groups := smMod s.groups (r.port / 16) {} fun g => { g with used := g.used - 1 } }).modJob id
            fun j => { j with tsHeld := false }
        else s
      | [] => s)
    | [] => s
  | none => s

/-- A replica of a job's frame leaves at an instant (outcome 0) or has been discarded with a status (R168, R226, R247, R248). The job
itself finishes in `State.departs`. -/
def State.replicaDone (s : State) (id frame member outcome at_ : Nat) : State :=
  let s1 := s.modJob id fun j =>
    { j with frames := j.frames.modify frame fun f =>
        { f with reps := f.reps.modify member fun r => { r with outcome := some outcome, at_ } } }
  if frame = 0 ∧ member = 0 ∧ outcome ≠ 0 then
    match s1.jobOf id with
    | some j =>
      if j.tsReq && j.ts.isNone then (s1.freeTs id).modJob id fun j => { j with tsLost := true } else s1
    | none => s1
  else s1

/-- The transmit timestamp of frame 0's replica on PORT0 is captured into its job (R247). -/
def State.captureTs (s : State) (id port : Nat) (stamp : Nat) (sus : Bool) : State :=
  match s.jobOf id with
  | some j =>
    if j.tsHeld then
      (((s.freeTs id).modJob id fun j => { j with ts := some (stamp, sus) }).count .pgrp (port / 16) R.PGRP_TS_CAPTURED)
    else s
  | none => s

end Sys2Proof.Machine
end

