-- ==== Sys2Proof/Machine/Pace.lean ====
section
/-! DEFINITION. The levels that block-mover channels watch and their pacing states (R277, R278). -/

namespace Sys2Proof.Machine

open Sys2Proof

/-- Fields of CH_WATCH (R277). -/
def wKind (w : Word) : Nat := fld w 1 0
def wTarget (w : Word) : Nat := fld w 27 16
def wClass (w : Word) : Nat := fld w 30 28

/-- LOW and HIGH of a set. -/
def MvSet.lo (x : MvSet) : Int := sext 32 (fld x.low 31 0)
def MvSet.hi (x : MvSet) : Int := sext 32 (fld x.high 31 0)

/-- The level that a channel watches, saturating at a signed 32-bit number (R277). -/
def State.level (s : State) (m : MvCh) : Int :=
  let w := m.live.watch
  let v : Int :=
    if wKind w = 1 then ((((s.port (wTarget w)).txq.filter fun f => f.cls == wClass w).map fun f => frameLen f.frame).sum : Nat)
    else if wKind w = 2 then
      (let x := s.queue (wTarget w); (posDiff (2 ^ x.log2) x.tail x.head : Nat))
    else (m.m : Int) - (((s.zone (wTarget w)).landed + 2 ^ 48 - m.z0) % 2 ^ 48 : Nat)
  clampInt (-2147483648) 2147483647 v

/-- Bytes of a channel that have been granted and not yet written. -/
def State.inHand (s : State) (c : Nat) : Nat := ((s.mover.bursts.filter fun b => b.ch == c).map MvBurst.n).sum

/-- Bytes that a ZONE channel may still be granted at a level, below HIGH (R278). -/
def State.room (s : State) (c : Nat) (m : MvCh) (v : Int) : Nat := (m.live.hi - v - s.inHand c).toNat / 64 * 64

/-- The pacing state of a channel at a level: a ZONE channel that cannot move 64 bytes stops (R278). -/
def State.runs (s : State) (c : Nat) (m : MvCh) (v : Int) : Bool :=
  (decide (v ≤ m.live.lo) || (decide (v < m.live.hi) && m.paceRun)) && !(wKind m.live.watch == 3 && s.room c m v == 0)

/-- One channel samples its level. -/
def State.paceOne (s : State) (c : Nat) : State :=
  let m : MvCh := smGet s.mover.chans c {}
  if m.enabled && wKind m.live.watch != 0 then
    let v := s.level m
    let run := s.runs c m v
    let s1 := { s with mover := { s.mover with chans := smSet s.mover.chans c { m with level := v, paceRun := run } } }
    if m.paceRun && !run && (m.desc.isSome || m.barrier) then s1.count .mover 0 R.MOVER_PACE_STOPS else s1
  else s

/-- The channels sample their levels: on the edge of every command that can change one (log entry 41). -/
def State.pace (s : State) : State := (smKeys s.mover.chans).foldl State.paceOne s

end Sys2Proof.Machine
end

