-- ==== Sys2Proof/Machine/Events.lean ====
section
/-! DEFINITION. Event lines, event pins and EVENT frames (R105, R195 to R199): pulses and their listeners, owners taken and released
by writes, the generators, the pending store. -/

namespace Sys2Proof.Machine

open Sys2Proof

/-- PIN_CFG of an event pin (R199). -/
def State.pinCfg (s : State) (n : Nat) : Word := s.reg .evt 0 (R.EVT_PIN_CFG + 4 * n)

/-- Fields of PIN_CFG. -/
def pinMode (w : Word) : Nat := fld w 1 0
def pinInvert (w : Word) : Bool := bit w 2
def pinLine (w : Word) : Nat := fld w 13 8
def pinWidth (w : Word) : Nat := fld w 23 16

/-- A pin. -/
def State.pin (s : State) (n : Nat) : PinSt := smGet s.evt.pins n {}

/-- Change a pin. -/
def State.modPin (s : State) (n : Nat) (f : PinSt → PinSt) : State :=
  { s with evt := { s.evt with pins := smMod s.evt.pins n {} f } }

/-- Word 0 of an event generator (R197). -/
def State.genWord (s : State) (g : Nat) : Word := s.reg .evt 0 (R.EVT_EVENT_GEN0 + 16 * g)

/-- An output pin listens to a pulse of its line: it goes to its active level for WIDTH × 8 ns (R199). -/
def State.pulsePin (s : State) (line at_ n : Nat) : State :=
  let c := s.pinCfg n
  if pinMode c = 1 ∧ pinLine c = line then
    let act := !pinInvert c
    let s1 := s.modPin n fun p => { p with level := act, until_ := at_ + 24 * wNs + pinWidth c * 8 * wNs }
    (s1.count .evt 0 R.EVT_PIN_PULSES).out (.evtPin n act)
  else s

/-- A generator listens to a pulse of its line (R197). -/
def State.pulseGen (s : State) (line at_ g : Nat) : State :=
  let w := s.genWord g
  if bit w 7 ∧ fld w 5 0 = line ∧ s.feat 24 then
    match smFind s.evt.gens g with
    | some _ => s.count .evt 0 R.EVT_EVENT_GEN_MERGED
    | none =>
      let tick := (at_ - s.time.cycStart) / wTick
      { s with evt := { s.evt with
          gens := smSet s.evt.gens g { cycle := s.time.cycle, tick, ns := roundFrac (s.fab at_) / 2 ^ 16 } } }
  else s

/-- The listeners of an event line see a pulse (R198): output pins, generators, and SEND_ON_EVENT jobs fetched on an earlier hub edge,
which take their place in the building order (R227, R230). -/
def State.heardPulse (s : State) (line at_ : Nat) : State :=
  let s1 := (List.range 32).foldl (fun t n => t.pulsePin line at_ n) s
  let s2 := (List.range 16).foldl (fun t g => t.pulseGen line at_ g) s1
  let place := s2.xfer.nextPlace
  let jobs := s2.xfer.jobs.map fun j =>
    if j.kind = .sendOnEvent ∧ j.line = line ∧ !j.pulsed ∧ !j.started ∧ hubEdge j.fetchAt < hubEdge at_ then
      { j with pulsed := true, place }
    else j
  { s2 with xfer := { s2.xfer with jobs, nextPlace := place + 1 } }

/-- A pulse of an event line at an instant. The listeners run on the hub's clock: a pulse on a line that already has one in the same
period merges into it (R105, R195, R198, R199; log entry 72). -/
def State.pulse (s : State) (line at_ : Nat) : State :=
  if s.evt.seen.contains (line, hubEdge at_) then s
  else
    let from_ := hubEdge (if s.time.hasCycle then s.time.cycStart else s.time.now)
    { s with evt := { s.evt with
        seen := (line, hubEdge at_) :: s.evt.seen.filter fun x => decide (from_ ≤ x.2) } }.heardPulse line at_

/-- A pulse of an event line now. -/
def State.pulseNow (s : State) (line : Nat) : State := s.pulse line s.time.now

/-- The line of a timed EVENT is pulsed at the first hub edge at or after an instant (R12, R195). A line carries pulses from its owner
only: one that the receiver of EVENT frames has released since carries none (R196, R198). -/
def State.fireLine (s : State) (line at_ : Nat) : State :=
  if s.ownerOf (resLine line) = ownerEvRx then s.pulse line (ceilHub at_) else s

/-- The pending timed EVENTs whose instant a join step to a cycle passes over fire on the step edge, in the order of their instants, and
are not late (R85). -/
def State.eventsPassed (s : State) (cycle : Nat) : State :=
  let gone := sortBy (fun e => (cycDiff e.cycle cycle + 2 ^ 47).toNat * 2 ^ 24 + e.tick)
    (s.evt.pend.filter fun e => decide (cycDiff e.cycle cycle < 0))
  gone.foldl (fun t e => t.fireLine e.line t.time.now)
    { s with evt := { s.evt with pend := s.evt.pend.filter fun e => decide (0 ≤ cycDiff e.cycle cycle) } }

/-- EVENT_PENDING_FIRE: the earliest pending timed EVENT fires at its instant; one whose tick lay beyond the end of its cycle
fires at tick 0 of the next cycle and is late (R195). -/
def execEventPendingFire (s : State) : Host.Outcome State Fault Refusal :=
  match sortBy (fun e => (cycDiff e.cycle s.time.cycle + 2 ^ 47).toNat * 2 ^ 24 + e.tick) s.evt.pend with
  | [] => .next s
  | e :: _ =>
    let s0 := { s with evt := { s.evt with pend := s.evt.pend.erase e } }
    let d := cycDiff e.cycle s.time.cycle
    if d < 0 then
      -- its cycle has ended before its tick: it fires at tick 0 of this cycle and is late
      .next ((s0.fireLine e.line s.time.cycStart).count .evt 0 R.EVT_EVENT_RX_LATE)
    else if d = 0 ∧ e.tick < s.ticks then
      let t := s0.atLeast (ceilHub (s.tickAt e.tick))
      .next (t.fireLine e.line (s.tickAt e.tick))
    else .next s

/-- EVT_PIN_PULSE_END: the pulse of an output pin ends and the pin returns (R199). -/
def execEvtPinPulseEnd (n : Fin 32) (s : State) : Host.Outcome State Fault Refusal :=
  let c := s.pinCfg n
  let p := s.pin n
  if pinMode c = 1 ∧ p.level = !pinInvert c then
    let t := s.atLeast p.until_
    .next ((t.modPin n fun p => { p with level := pinInvert c, change := p.until_ }).out (.evtPin n (pinInvert c)))
  else .next s

/-- EVT_PIN_EDGE: an edge on an event pin at an instant of the hub's clock (in w; one that has passed is now), sampled in mode IN
(R199; log entry 72). -/
def execEvtPinEdge (n : Fin 32) (rising : Bool) (at_ : Nat) (s0 : State) : Host.Outcome State Fault Refusal :=
  let s := s0.atLeast at_
  let c := s.pinCfg n
  let p := s.pin n
  if pinMode c = 1 then .next s
  else
    let t := s.modPin n fun p => { p with level := rising, change := s.time.now }
    if pinMode c = 2 ∧ rising = !pinInvert c ∧ p.level ≠ rising ∧ p.change + 4 * wNs ≤ s.time.now then
      .next (((t.modPin n fun p => { p with stamp := s.nowNs }).count .evt 0 R.EVT_PIN_EDGES).pulseNow (pinLine c))
    else .next t

/-- The write of PIN_CFG[n] (R199), once the write has passed the common checks. -/
def State.writePinCfg (s : State) (n : Nat) (v : Word) : State :=
  let po := R.EVT_PIN_CFG + 4 * n
  let old := s.pinCfg n
  let new := v &&& wd 0xFF3F07
  let m := pinMode old
  let m' := pinMode new
  if m' = 3 then s.err .evt 0 errReserved 0 po
  else if pinWidth new = 0 then s.err .evt 0 errReserved 16 po
  else if m ≠ 0 ∧ m' ≠ 0 ∧ (m' ≠ m ∨ pinLine new ≠ pinLine old ∨ pinWidth new ≠ pinWidth old ∨ pinInvert new ≠ pinInvert old) then
    s.err .evt 0 0x0210 0 po
  else if m ≠ 0 ∧ m' = 0 ∧ (pinLine new ≠ pinLine old ∨ pinWidth new ≠ pinWidth old ∨ pinInvert new ≠ pinInvert old) then
    s.err .evt 0 0x0210 0 po
  else if m = 0 ∧ m' ≠ 0 then
    let rs := if m' = 1 then [resPin n] else [resPin n, resLine (pinLine new)]
    match s.blocked (ownerPin n) (rs.reverse) with
    | some r => s.refuseOwned .evt 0 r (s.ownerOf r)
    | none =>
      let s1 := (s.takeAll (ownerPin n) rs).setReg .evt 0 po new
      if m' = 1 then (s1.modPin n fun p => { p with level := pinInvert new }).out (.evtPin n (pinInvert new)) else s1
  else if m ≠ 0 ∧ m' = 0 then
    ((s.release (ownerPin n) [resPin n, resLine (pinLine old)]).setReg .evt 0 po new).modPin n fun p =>
      { p with level := if m = 1 then false else p.level, until_ := 0 }
  else s.setReg .evt 0 po new

/-- Lines set in an EVENT_RX_LINES word. -/
def linesOf (w : Word) : List Nat := (List.range 64).filter fun n => bit w n

/-- The write of EVENT_RX_LINES (R196), once the write has passed the common checks. -/
def State.writeRxLines (s : State) (v : Word) : State :=
  let old := s.reg .evt 0 R.EVT_EVENT_RX_LINES
  let add := (linesOf v).filter fun n => !bit old n
  let del := (linesOf old).filter fun n => !bit v n
  match s.blocked ownerEvRx (add.map resLine) with
  | some r => s.refuseOwned .evt 0 r (s.ownerOf r)
  | none => ((s.takeAll ownerEvRx (add.map resLine)).release ownerEvRx (del.map resLine)).setReg .evt 0 R.EVT_EVENT_RX_LINES v

/-- Pending events are dropped when the node enters OFF or HALTED (R195). -/
def State.dropEvents (s : State) : State :=
  ({ s with evt := { s.evt with pend := [] } }).countN .evt 0 R.EVT_EVENT_RX_OVERFLOW s.evt.pend.length

/-- An EVENT addressed to this node at stage 7 (R195). -/
def State.eventRx (s : State) (b : List Byte) : State :=
  let timed := nbit (beAt b 0 1) 7
  let line := beAt b 0 1 % 64
  let fc := beAt b 2 2
  let ft := beAt b 4 3
  if !bit (s.reg .evt 0 R.EVT_EVENT_RX_LINES) line then s.count .evt 0 R.EVT_EVENT_RX_REFUSED
  else if !timed || !s.time.hasCycle then
    let t := (s.count .evt 0 R.EVT_EVENT_RX).pulseNow line
    if timed then t.count .evt 0 R.EVT_EVENT_RX_LATE else t
  else
    let d := sext 16 (toField 16 ((fc : Int) - s.time.cycle))
    if d < 0 ∨ (d = 0 ∧ ft ≤ s.tick) then
      ((s.count .evt 0 R.EVT_EVENT_RX).pulseNow line).count .evt 0 R.EVT_EVENT_RX_LATE
    else if 64 ≤ s.evt.pend.length then s.count .evt 0 R.EVT_EVENT_RX_OVERFLOW
    else
      let e : PendEvt := { cycle := cycMod (s.time.cycle + d.toNat), tick := ft, line }
      ({ s with evt := { s.evt with pend := s.evt.pend ++ [e] } }).count .evt 0 R.EVT_EVENT_RX

end Sys2Proof.Machine
end

