-- ==== Sys2Proof/Machine/Tx.lean ====
section
/-! DEFINITION. Transmit buffers, gates and the choice of the next frame of a port, the frames that a port makes itself, the
preemptable MAC's fragments (R14, R16, R17, R54, R87, R88, R91, R95, R102 to R105, R131, R133, R140, R147 to R156, R168, R247). -/

namespace Sys2Proof.Machine

open Sys2Proof

/-! Gates. -/

/-- This node holds the claim on a spare owner of a port in the current cycle (R97, R102). -/
def State.holdsClaim (s : State) (p owner : Nat) : Bool :=
  (s.port p).mine.any fun m => m.owner == owner && (match m.phase with
    | .acked c => decide (0 ≤ cycDiff s.time.cycle c)
    | _ => false)

/-- A class is sent through the preemptable MAC (R147). -/
def State.preemptable (s : State) (p c : Nat) : Bool := (s.port p).txActive && nbit (s.live.preMask p) c

/-- Scheduled transmission of a port's group is stopped: the node is in HOLD_OFF, or the group's replica is invalid, which acts as
in hold-off (R14, R88). -/
def State.heldOff (s : State) (p : Nat) : Bool := s.node.state == .holdOff || !(s.replica (p / 16)).valid

/-- The gate of a class is effectively open in an entry (R14, R102, R155). `hello`: for a HELLO frame. -/
def State.classOpen (s : State) (p c : Nat) (hello : Bool) (e : Word) : Bool :=
  nbit (gMask e) c && (!gSpare e || s.holdsClaim p (gOwner e))
    && (c == 7 || (s.inNet && (!s.heldOff p || (c == 6 && hello))))
    && !(gHold e && s.preemptable p c)

/-- Windows of a list of spans: maximal runs of entries in which a class is open, as opening and close ticks (R102). -/
def windowsOf (isOpen : Word → Bool) : List (Nat × Word) → Option Nat → List (Nat × Nat)
  | [], _ => []
  | (st, e) :: rest, run =>
    let stop := st + gDur e
    if isOpen e then
      let o := run.getD st
      match rest with
      | (_, e') :: _ => if isOpen e' then windowsOf isOpen rest (some o) else (o, stop) :: windowsOf isOpen rest none
      | [] => [(o, stop)]
    else windowsOf isOpen rest none

/-- The windows of a class of a port in the current slate and state, in ticks of the cycle. -/
def State.windows (s : State) (p c : Nat) (hello : Bool) : List (Nat × Nat) :=
  windowsOf (s.classOpen p c hello) (gclSpans s.live p) none

/-- The window of a class that a tick lies in. -/
def State.windowAt (s : State) (p c : Nat) (hello : Bool) (t : Nat) : Option (Nat × Nat) :=
  (s.windows p c hello).find? fun w => w.1 ≤ t && t < w.2

/-- The longest window of a class (R104). -/
def State.longest (s : State) (p c : Nat) : Nat := ((s.windows p c false).map fun w => w.2 - w.1).foldl max 0

/-- A class is paused at an instant (R139). -/
def PortSt.paused (q : PortSt) (c at_ : Nat) : Bool := q.spans.any fun x => x.cls == c && x.from_ ≤ at_ && at_ < x.to_

/-- A window of a class that opened at an instant is consumed at another (R140). -/
def PortSt.eaten (q : PortSt) (c open_ at_ : Nat) : Bool := q.spans.any fun x => x.cls == c && x.from_ ≤ at_ && open_ < x.to_

/-! Frames. -/

/-- Itpitos fields of a frame for a trace record: TYPE, SRC_NODE, DST_NODE, handle, SEQ, FLAGS, CYCLE (R306). -/
def traceHdr (typ : Nat) (f : Frame) : Hdr := if typ = 0 then { version := 0 } else hdrOf f.body

/-- A FRAME_TX record (R302, R306). -/
def State.traceTx (s : State) (p : Nat) (fr : TxFrame) (outcome : Nat) : State :=
  let h := traceHdr fr.typ fr.frame
  let idx := match s.live.entryAt p s.tick with
    | some (i, _, _) => i
    | none => 0
  s.traceEv (p / 16) (if outcome = 0 then 2 else 3) (some fr.cls) (some p) 0x02
    (wd (p + fr.typ * 2 ^ 16 + fr.cls * 2 ^ 24 + outcome * 2 ^ 27 + h.src * 2 ^ 32 + h.dst * 2 ^ 48))
    (wd (h.handle + h.seq * 2 ^ 32 + h.flags * 2 ^ 48))
    (wd (h.cycle + (frameLen fr.frame) * 2 ^ 16 + idx * 2 ^ 32))

/-- Tell the job of a frame that its replica has been discarded (R168). -/
def State.replicaLost (s : State) (fr : TxFrame) (status : Nat) : State :=
  match fr.origin with
  | .job id i m => s.replicaDone id i m status s.time.now
  | _ => s

/-- Why a frame is discarded before sending. -/
inductive Drop where
  | noFit | linkDown | holdOff | abandoned | nodeLeft
deriving DecidableEq, Repr

/-- Counter, job status and trace OUTCOME of a discard (R88, R91, R104, R131, R156, R306). -/
def dropCode : Drop → Nat × Nat × Nat
  | .noFit => (R.PORT_TX_NO_FIT, stNoFit, 1)
  | .linkDown => (R.PORT_TX_LINK_DOWN, stLinkDown, 2)
  | .holdOff => (R.PORT_TX_HELD_DISCARD, stOk, 3)
  | .abandoned => (R.PORT_TX_REMAINDER_ABANDONED, stAbandoned, 4)
  | .nodeLeft => (R.PORT_TX_NODE_DISCARD, stNodeLeft, 5)

/-- Discard a frame before sending. -/
def State.dropFrame (s : State) (p : Nat) (fr : TxFrame) (d : Drop) : State :=
  let (ctr, status, outcome) := dropCode d
  ((s.countP p ctr).traceTx p fr outcome).replicaLost fr status

/-- Smallest cuttable fragment: D of R152. -/
def minData (preCfg : Nat) : Nat := 64 * (bitsOf preCfg 5 4 + 1)

/-- Why the frame at the head of its class is discarded there, if it is (R14, R88, R91, R104, R131). The frames of the port itself
stay. -/
def State.headDrop (s : State) (p : Nat) (fr : TxFrame) : Option Drop :=
  if fr.origin.isLink then none
  else if !s.inNet ∧ fr.cls < 7 then some .nodeLeft
  else if !s.isUp p then some .linkDown
  else if s.heldOff p ∧ fr.origin.isRelay then some .holdOff
  else if !s.heldOff p ∧ s.longest p fr.cls < s.occupancy p (frameLen fr.frame)
      ∧ (!s.preemptable p fr.cls ∨ (frameLen fr.frame) < minData (s.port p).link.preCfg + 64) then some .noFit
  else none

/-- Discard every frame that is at the head of its class and must not be sent; the other frames keep their order. -/
def State.purgeHeads (s : State) (p : Nat) : State :=
  let r := (s.port p).txq.foldl (fun (acc : State × List TxFrame) fr =>
    if acc.2.any (fun k => k.cls == fr.cls) then (acc.1, acc.2 ++ [fr])
    else match acc.1.headDrop p fr with
      | some d => (acc.1.dropFrame p fr d, acc.2)
      | none => (acc.1, acc.2 ++ [fr])) (s.modPort p fun q => { q with txq := [] }, [])
  r.1.modPort p fun q => { q with txq := r.2 ++ q.txq }

/-- Discard the heads of a port that must not be sent; the jobs whose last replica that was finish. -/
def State.purge (s : State) (p : Nat) : State := (s.purgeHeads p).departs.pace

/-- The frame at the head of a class. -/
def PortSt.head (q : PortSt) (c : Nat) : Option TxFrame := q.txq.find? fun f => f.cls == c

/-- Change the frame at the head of a class. -/
def modHead (c : Nat) (f : TxFrame → TxFrame) : List TxFrame → List TxFrame
  | [] => []
  | x :: xs => if x.cls = c then f x :: xs else x :: modHead c f xs

/-- Remove the frame at the head of a class. -/
def dropHead (c : Nat) : List TxFrame → List TxFrame
  | [] => []
  | x :: xs => if x.cls = c then xs else x :: dropHead c xs

/-- The bytes of a frame from the destination address to the byte before the FCS. -/
def frameBytes (f : Frame) : List Byte :=
  beBytes 6 f.da.toNat ++ beBytes 6 f.sa.toNat ++
    (match f.tag with
     | some t => beBytes 2 0x8100 ++ beBytes 2 (t.pcp * 2 ^ 13 + b2n t.dei * 2 ^ 12 + t.vid)
     | none => []) ++ beBytes 2 f.etherType.toNat ++ f.body

/-! The preemptable MAC. -/

/-- Bytes of a frame in progress that remain from the start of its current fragment, FCS included. -/
def PTx.remaining (x : PTx) : Nat := (frameLen x.fr.frame) - x.sent

/-- The data that the fragment on the wire carries when nothing cuts it before its window's close, and whether it is final
(R153, R154). -/
def State.planned (s : State) (p : Nat) (x : PTx) : Nat × Bool :=
  let room := (x.close - x.start) / s.wByte p
  if 8 + x.remaining + 17 ≤ room then (x.remaining, true)
  else
    let d := (room - 29) / 8 * 8
    (min d ((x.remaining - 64) / 8 * 8), false)

/-- Instant at which a fragment with d bytes of data has ended, without its gap. -/
def State.fragEnd (s : State) (p : Nat) (x : PTx) (d : Nat) (final : Bool) : Nat :=
  x.start + (8 + d + (if final then 0 else 4)) * s.wByte p

/-- A HELLO leaves: `fin` is the instant of its last bit. The next one is due an INTERVAL or a KEEPALIVE after its start (R130, R133,
R134, R141). -/
def LinkSt.helloLeft (l : LinkSt) (sw sl : Bool) (start fin : Nat) : LinkSt :=
  { l with
    sentAck := if l.state = .hello ∧ l.kept.isSome ∧ l.sentAck.isNone then some fin else l.sentAck
    switched := l.switched || sw, swEnd := if sw && !l.switched then fin else l.swEnd
    slept := l.slept || sl, since := if sl || (sw && !l.switched) then fin else l.since
    helloDue := start + (if l.state = .up then bitsOf l.helloCfg 15 0 else bitsOf l.helloCfg 23 16) * wUs }

/-- What follows when a frame leaves whole: `dep` is the departure of its timestamp point in the group's replica, `fin` the instant
of its last bit (R53, R95, R134, R168, R226). -/
def State.leaves (s : State) (p : Nat) (fr : TxFrame) (dep fin : Nat) : State :=
  match fr.origin with
  | .job id i m => s.replicaDone id i m 0 (ceilHub fin)
  | .hello sw sl => s.modLink p fun l => l.helloLeft sw sl s.time.now fin
  | .delayReq =>
    (s.modPort p fun q =>
      { q with reqId := (q.reqId + 1) % 2 ^ 16, req := some ((q.reqId + 1) % 2 ^ 16, s.toHub (p / 16) dep, s.time.cycle),
               reqCyc := if s.time.hasCycle then some s.time.cycle else none, reqAt := some s.time.now }).countP p
      R.PORT_DELAY_REQ_TX
  | .delayResp _ _ => s.countP p R.PORT_DELAY_RESP_TX
  | .claim x =>
    (s.modPort p fun q =>
      { q with mine := q.mine.map fun m => if m.owner = x then { m with sent := s.time.cycle } else m }).countP p R.PORT_CLAIM_TX
  | _ => s

/-- Put the fragment on the wire out and end it: the frame is complete, or its remainder waits (R151, R153). -/
def State.endFragment (s : State) (p : Nat) (x : PTx) (d : Nat) (final : Bool) (reason : Option Nat) : State :=
  let first := x.frags = 0
  let s1 := s.out (.fragment p first x.frameNo ((x.frags + 3) % 4) final (((frameBytes x.fr.frame).drop x.sent).take d))
  let fin := s.fragEnd p x d final
  if final then
    ((s1.modPort p fun q => { q with wire := none, rest := none, laneFree := fin + 17 * s.wByte p }).countP p
      R.PORT_TX_PMAC_FRAMES).leaves p x.fr 0 fin
  else
    let s2 := s1.modPort p fun q => { q with wire := none, rest := some { x with sent := x.sent + d, frags := x.frags + 1 },
                                             laneFree := fin + 17 * s.wByte p }
    (s2.countP p R.PORT_TX_FRAGMENTS).countP p (reason.getD R.PORT_TX_PREEMPT_CLOSE)

/-- The fragment on the wire ends by itself when its planned end has come (R153). -/
def State.endWire (s : State) (p : Nat) : State :=
  match (s.port p).wire with
  | some x =>
    let (d, final) := s.planned p x
    if s.fragEnd p x d final ≤ s.time.now then s.endFragment p x d final none else s
  | none => s

/-- Cut the fragment on the wire at the first cut point at or after an instant, for a reason; without one it runs on
(R152, R153). -/
def State.cutWire (s : State) (p at_ reason : Nat) : State :=
  match (s.port p).wire with
  | some x =>
    let need := cdiv (at_ - x.start) (s.wByte p) - 8
    let k := cdiv (max need (minData (s.port p).link.preCfg)) 8 * 8
    if k + 64 ≤ x.remaining ∧ k < (s.planned p x).1 then s.endFragment p x k false (some reason) else s
  | none => s

/-- A preemptable frame or remainder of which `remaining` bytes are left may start at an instant before a close (R154). -/
def State.mayStartP (s : State) (p remaining at_ close : Nat) : Bool :=
  let room := (close - at_) / s.wByte p
  let dmin := minData (s.port p).link.preCfg
  8 + remaining + 17 ≤ room || (8 + dmin + 4 + 17 ≤ room && dmin + 64 ≤ remaining)

/-- Ports that have a state of their own. -/
def State.listedPorts (s : State) : List Nat := smKeys s.ports

/-- The hub's clock is at least at an instant; the fragments that end by then have ended, and the jobs whose last frame has left by
then have finished (R226, R238). -/
def State.runTo (s : State) (w : Nat) : State :=
  let t := s.atLeast w
  (t.listedPorts.foldl State.endWire t).departs.pace

/-! Starting a frame. -/

/-- Gate-to-wire latency of a port's rate and FEC mode, in w (R16, R127). -/
def State.gateToWire (s : State) (p : Nat) : Nat :=
  let l := (s.port p).link
  if bitsOf l.cfg 1 0 = 1 then (if l.fecLL then 148 * wNs else 196 * wNs)
  else if l.fecLL then 120 * wNs else 144 * wNs

/-- What a frame, or the first fragment of one, records when it starts on a port: its latency sample (R296), timestamps
(R76, R247) and trace record. `tDep` is the departure of its timestamp point in the replica of the port group, 2^-16 ns. -/
def State.started (s : State) (p cls tDep : Nat) (fr : Option TxFrame) : State :=
  let g := p / 16
  let first := (tDep * wFrac : Int) - s.time.fabOff - (8 * s.wByte p : Nat)
  let v := ((first - ((s.time.now : Int) - s.gateToWire p)) / wTick).toNat
  let stamp := (s.toHub g tDep).toNat / 2 ^ 12 % 2 ^ 48
  let sus := !(s.replica g).valid
  let s1 := s.sample g 1 cls v
  let c := s1.reg .time 0 R.TIME_DIAG_TS_CTRL
  let s2 :=
    if bit c 0 ∧ fld c 25 16 = p ∧ nbit (fld c 31 24) cls then
      if 512 ≤ (smGet s1.groups g {}).diag.length then s1.count .time 0 R.TIME_DIAG_TS_LOST
      else { s1 with groups := smMod s1.groups g {} fun x =>
        { x with diag := x.diag ++ [wd (stamp + cls * 2 ^ 48 + b2n sus * 2 ^ 51 + 2 ^ 63)] } }
    else s1
  match fr with
  | some f =>
    let s3 := s2.traceTx p f 0
    (match f.origin with
     | .job id i m => if i = 0 ∧ m = 0 ∧ f.ts then s3.captureTs id p stamp sus else s3
     | _ => s3)
  | none => s2

/-- Departure of the timestamp point of a frame whose first bit crosses the pins now, in the replica of the port group, 2^-16 ns
(R47). -/
def State.nominalDep (s : State) (p : Nat) : Nat :=
  ((roundFrac (s.fab (s.time.now + 8 * s.wByte p)) : Int) + (s.replica (p / 16)).diff).toNat

/-- A captured departure within ±1 tick of the nominal one; the nominal one otherwise (R16, R47). -/
def State.depNear (s : State) (p t : Nat) : Nat :=
  if ((t : Int) - s.nominalDep p).natAbs * wFrac ≤ wTick then t else s.nominalDep p

/-- A claim frame: CLAIM, CLAIM_ACK or CLAIM_REFUSED (R192). -/
def State.claimFrame (s : State) (p typ dst : Nat) (payload : List Byte) : Frame :=
  s.mkFrame p none { typ, dst, src := s.nodeId, cycle := s.cycField, plen := 16 } payload

/-- The frame that a port makes itself as it starts; `dep` is the departure of its timestamp point (R53, R95, R133, R134, R187). Any
other frame is sent as it was built. -/
def State.ownFrame (s : State) (p : Nat) (fr : TxFrame) (dep : Nat) : TxFrame :=
  let l := (s.port p).link
  match fr.origin with
  | .hello sw sl => { fr with frame := s.llFrame p tHello (helloBytes p s.instTag l.offer l.etherType l.kept.isSome sw sl) }
  | .delayReq => { fr with frame := s.llFrame p tDelayReq (delayBytes (((s.port p).reqId + 1) % 2 ^ 16) false 0) }
  | .delayResp id t2 => { fr with frame := s.llFrame p tDelayResp (delayBytes id s.inNet (s.toHub (p / 16) dep - t2)) }
  | .claim x => { fr with frame := s.claimFrame p tClaim (s.llDst p) (claimBytes x s.time.cycle 0 0) }
  | _ => fr

/-- The departure that a frame's start records: that of a frame the port makes itself lies within ±1 tick of the nominal one. -/
def State.depFor (s : State) (p : Nat) (fr : TxFrame) (tDep : Nat) : Nat :=
  match fr.origin with
  | .job _ _ _ | .relay _ | .own => tDep
  | _ => s.depNear p tDep

/-- The verify and respond mPackets leave: no frame of the trace (R149). -/
def State.mpacketOut (s : State) (p : Nat) (respond : Bool) (fin : Nat) : State :=
  if respond then (s.out (.respond p)).countP p R.PORT_RESPOND_TX
  else ((s.modPort p fun q => { q with verAt := fin }).out (.verify p)).countP p R.PORT_VERIFY_TX

/-- An express frame leaves whole; its last bit crosses the pins later (R238). -/
def State.startExpress (s : State) (p : Nat) (fr0 : TxFrame) (tDep : Nat) : State :=
  let dep := s.depFor p fr0 tDep
  let fr := s.ownFrame p fr0 dep
  let fin := s.time.now + (8 + frameLen fr.frame) * s.wByte p
  let s1 := s.modPort p fun q => { q with txq := dropHead fr.cls q.txq, laneFree := fin + 12 * s.wByte p }
  match fr.origin with
  | .verify => s1.mpacketOut p false fin
  | .respond => s1.mpacketOut p true fin
  | _ => ((s1.out (.frame p fr.frame true)).started p fr.cls dep (some fr)).leaves p fr dep fin

/-- A preemptable frame starts: its first fragment is on the wire (R151). -/
def State.startPre (s : State) (p : Nat) (fr0 : TxFrame) (close tDep : Nat) : State :=
  let dep := s.depFor p fr0 tDep
  let fr := s.ownFrame p fr0 dep
  let q := s.port p
  let x : PTx := { fr, frameNo := q.frameNo, sent := 0, fragNo := 0, frags := 0, start := s.time.now, close }
  let (d, final) := s.planned p x
  (s.modPort p fun q => { q with
    txq := dropHead fr.cls q.txq, wire := some x, frameNo := (q.frameNo + 1) % 4,
    laneFree := s.fragEnd p x d final + 17 * s.wByte p }).started p fr.cls dep (some fr)

/-- The waiting remainder resumes (R153, R156). -/
def State.resumeRest (s : State) (p : Nat) (x : PTx) (close : Nat) : State :=
  let y := { x with start := s.time.now, close }
  let (d, final) := s.planned p y
  s.modPort p fun q => { q with wire := some y, rest := none, laneFree := s.fragEnd p y d final + 17 * s.wByte p }

/-! What may start. -/

/-- A frame may leave a port now, its window aside. A frame of the schedule needs the group's replica (R14), the port in UP and not
going to sleep (R131, R141); a HELLO a link whose hello has begun, and while the port goes to sleep only the SLEEP HELLO leaves (R134,
R141). A node in HALTED sends nothing (R93), and no lane transmits in manufacturing mode (R341). -/
def State.maySend (s : State) (p : Nat) (fr : TxFrame) : Bool :=
  let l := (s.port p).link
  s.node.state != .halted && !s.pwr.mfg &&
    (match fr.origin with
     | .hello _ sl => (l.state == .hello || l.state == .switch || l.state == .up) && (!l.sleeping || sl)
     | .delayReq | .delayResp _ _ | .verify | .respond => s.isUp p && !l.sleeping
     | _ => (s.replica (p / 16)).valid && s.isUp p && !l.sleeping)

/-- An instant that no window reaches. -/
def farAway (now : Nat) : Nat := now + 1000000 * wMs

/-- The instant before which the frames that a node sends ungated must end: the next start of a candidate's cycle, where its clapper
leaves (R48, R82, R87). -/
def State.ungatedEnd (s : State) : Nat :=
  if s.node.state = .candidate then
    (match s.node.zeroAt with
     | some w => w
     | none => s.tickAt s.ticks)
  else farAway s.time.now

/-- The window that a frame stands in now: its opening and close, in w. Before the node is JOINED the port's own frames go ungated, at
the next frame boundary (R54, R87, R102, R149). -/
def State.gateOf (s : State) (p : Nat) (fr : TxFrame) : Option (Nat × Nat) :=
  if !s.inNet && fr.origin.isLink then some (s.time.now, s.ungatedEnd)
  else (s.windowAt p fr.cls fr.origin.isHello s.tick).map fun w => (s.tickAt w.1, s.tickAt w.2)

/-- What the port finds for the frame at the head of a class at an instant. -/
inductive HeadSays where
  /-- It may start; the close of its window. -/
  | go (close : Nat)
  /-- Its class has no open window, or the port may not send it. -/
  | shut
  /-- Its window is consumed by a pause; the close of the window. -/
  | eaten (close : Nat)
  /-- It cannot end before the close. -/
  | tooLong
  /-- It could start, but its head is not loaded. -/
  | unloaded
deriving DecidableEq, Repr

/-- May the frame at the head of a class start now (R17, R103, R139, R140, R154)? -/
def State.headSays (s : State) (p : Nat) (fr : TxFrame) : HeadSays :=
  if !s.maySend p fr then .shut
  else match s.gateOf p fr with
  | none => .shut
  | some (o, close) =>
    if (s.port p).eaten fr.cls o s.time.now then .eaten close
    else
      let fits := if s.preemptable p fr.cls then s.mayStartP p (frameLen fr.frame) s.time.now close
        else decide (s.time.now + s.occupancy p (frameLen fr.frame) * wTick ≤ close)
      if !fits then .tooLong
      else if !fr.head then .unloaded
      else .go close

/-- May the waiting remainder resume now (R153, R154, R156)? It does so on a port in UP, while its class is open. -/
def State.restSays (s : State) (p : Nat) (x : PTx) : HeadSays :=
  if s.node.state == .halted || !s.isUp p then .shut
  else match s.gateOf p x.fr with
  | none => .shut
  | some (o, close) =>
    if (s.port p).eaten x.fr.cls o s.time.now then .eaten close
    else if s.mayStartP p x.remaining s.time.now close then .go close
    else .tooLong

/-- A window lost to a pause is counted once (R140). -/
def State.windowLost (s : State) (p c close : Nat) : State :=
  if (s.port p).lostWin.contains (c, close) then s
  else (s.modPort p fun q => { q with lostWin := (c, close) :: q.lostWin }).countP p R.PORT_PAUSE_WINDOW_LOST

/-- Count what keeps the head of a class back: TX_DEFERRED, TX_LATE_HEAD, PAUSE_WINDOW_LOST, each once (R17, R104, R140). -/
def State.countHeld (s : State) (p c : Nat) : State :=
  match (s.port p).head c with
  | none => s
  | some fr =>
    match s.headSays p fr with
    | .tooLong =>
      if fr.deferred then s
      else (s.modPort p fun q => { q with txq := modHead c (fun f => { f with deferred := true }) q.txq }).countP p
        R.PORT_TX_DEFERRED
    | .unloaded =>
      if fr.late then s
      else (s.modPort p fun q => { q with txq := modHead c (fun f => { f with late := true }) q.txq }).countP p
        R.PORT_TX_LATE_HEAD
    | .eaten close => s.windowLost p c close
    | _ => s

/-- Count what keeps the waiting remainder back: TX_DEFERRED, PAUSE_WINDOW_LOST, each once (R140, R154). -/
def State.countRest (s : State) (p : Nat) : State :=
  match (s.port p).rest with
  | none => s
  | some x =>
    match s.restSays p x with
    | .tooLong =>
      if x.fr.deferred then s
      else (s.modPort p fun q => { q with rest := some { x with fr := { x.fr with deferred := true } } }).countP p
        R.PORT_TX_DEFERRED
    | .eaten close => s.windowLost p x.fr.cls close
    | _ => s

/-- The classes, highest first. -/
def classesDown : List Nat := [7, 6, 5, 4, 3, 2, 1, 0]

/-- A window that a pause has consumed while the head of a class waits in it is counted (R140). -/
def State.countEatenHead (s : State) (p c : Nat) : State :=
  match (s.port p).head c with
  | some fr => (match s.headSays p fr with
    | .eaten close => s.windowLost p c close
    | _ => s)
  | none => s

/-- A window that a pause has consumed while a remainder waits in it is counted (R140). -/
def State.countEatenRest (s : State) (p : Nat) : State :=
  match (s.port p).rest with
  | some x => (match s.restSays p x with
    | .eaten close => s.windowLost p x.fr.cls close
    | _ => s)
  | none => s

/-- The windows that a pause has consumed while frames wait in them are counted (R140). -/
def State.countEaten (s : State) (p : Nat) : State := (classesDown.foldl (fun t c => t.countEatenHead p c) s).countEatenRest p

/-- The highest class whose head may start, express or preemptable, with its frame and close. -/
def State.pick (s : State) (p : Nat) (express : Bool) : Option (TxFrame × Nat) :=
  classesDown.findSome? fun c =>
    if s.preemptable p c = express then none
    else match (s.port p).head c with
      | none => none
      | some fr => (match s.headSays p fr with
        | .go close => some (fr, close)
        | _ => none)

/-- What the preemptable MAC starts when the lane is free and no express frame may start: the waiting remainder, and no other frame
while one waits (R153, R156). -/
def State.startPmac (s : State) (p tDep : Nat) : State :=
  match (s.port p).rest with
  | some x =>
    (match s.restSays p x with
     | .go close => s.resumeRest p x close
     | _ => s)
  | none =>
    (match s.pick p false with
     | some (fr, close) => s.startPre p fr close tDep
     | none => s)

/-- The port starts the frame that may start now, express before preemptable, the highest class first; an express frame cuts a
preemptable one, but the SLEEP HELLO lets the frame on the wire finish (R103, R104, R141, R153, R154). `tDep`: captured departure of the timestamp point. -/
def State.txStep (s : State) (p tDep : Nat) : State :=
  let s1 := (s.endWire p).purge p
  let s2 := (classesDown.foldl (fun t c => t.countHeld p c) s1).countRest p
  let q := s2.port p
  let now := s2.time.now
  match s2.pick p true with
  | some (fr, _) =>
    if q.wire.isSome then
      (if fr.origin = .hello false true then s2 else s2.cutWire p now R.PORT_TX_PREEMPT_EXPRESS)
    else if now < q.laneFree then s2
    else (s2.startExpress p fr tDep).pace
  | none => if q.wire.isSome ∨ now < q.laneFree then s2 else (s2.startPmac p tDep).pace

/-! The frames that a port makes itself. -/

/-- The length of a verify or respond mPacket, as a frame (R149). -/
def mpacketFrame : Frame := { da := 0, sa := 0, tag := none, etherType := 0, body := List.replicate 46 0 }

/-- A frame of the port itself, to be made as it starts. -/
def State.linkFrame (s : State) (p cls typ : Nat) (origin : Origin) : TxFrame :=
  let fr : TxFrame := { cls, typ, origin, frame := mpacketFrame }
  s.ownFrame p fr (s.nominalDep p)

/-- Put a frame of the port itself into the transmit buffer: a HELLO before every other frame, since nothing but a HELLO leaves in
hold-off; a DELAY_RESP before a pending DELAY_REQ (R54, R88); any other behind those already there. -/
def addOwn (fr : TxFrame) (l : List TxFrame) : List TxFrame :=
  match fr.origin with
  | .hello _ _ => fr :: l
  | .delayResp _ _ => l.takeWhile (fun f => f.origin != .delayReq) ++ fr :: l.dropWhile (fun f => f.origin != .delayReq)
  | _ => l ++ [fr]

/-- An instant at the start of a tick, at or after an instant. -/
def State.nextTick (s : State) (w : Nat) : Nat :=
  if s.time.hasCycle then s.time.cycStart + cdiv (w - s.time.cycStart) wTick * wTick else w

/-- The instants of the current cycle at which the head of a class may find its window open and the lane free: now, where the lane
becomes free, where a window opens, where a pause ends. -/
def State.chances (s : State) (p c : Nat) : List Nat :=
  let q := s.port p
  let at_ := if s.inNet then fun w => s.nextTick w else fun w => w
  let hello := (match q.head c with | some fr => fr.origin.isHello | none => false)
  let opens := if s.inNet then (s.windows p c hello).map fun w => s.tickAt w.1 else []
  let l := [s.time.now, q.laneFree] ++ opens ++ (q.spans.filter fun x => x.cls == c).map Span.to_
  let due := (l.map at_).filter fun w => decide (s.time.now ≤ w)
  let end_ := if s.inNet then s.tickAt s.ticks else s.ungatedEnd
  sortBy id (due.filter fun w => decide (w < end_))

/-- At an instant the lane is free and the head of a class may start. -/
def State.canStartAt (s : State) (p c w : Nat) : Bool :=
  let t := (s.atLeast w).endWire p
  let q := t.port p
  q.wire.isNone && decide (q.laneFree ≤ w) && (!t.preemptable p c || q.rest.isNone) &&
    (match q.head c with
     | some fr => (match t.headSays p fr with
       | .go _ => true
       | _ => false)
     | none => false)

/-- The head of a class leaves at the first instant of the current cycle at which it may: the clock moves there. An express frame
cuts a preemptable one first (R153). A frame that finds no such instant waits in the transmit buffer. -/
def State.push (s : State) (p c tDep : Nat) : State :=
  let s1 := s.endWire p
  let ready := (match (s1.port p).head c with
    | some fr => (match s1.headSays p fr with
      | .go _ => !s1.preemptable p c && fr.origin != .hello false true
      | _ => false)
    | none => false)
  let s2 := if ready && (s1.port p).wire.isSome then s1.cutWire p s1.time.now R.PORT_TX_PREEMPT_EXPRESS else s1
  match (s2.chances p c).find? fun w => s2.canStartAt p c w with
  | some w => (s2.runTo w).txStep p tDep
  | none => s2

/-- The port sends a frame of its own: it leaves at the first instant at which it may, or waits (R54, R87, R95, R133, R149). -/
def State.sendOwn (s : State) (p : Nat) (fr : TxFrame) (tDep : Nat) : State :=
  (((s.modPort p fun q => { q with txq := addOwn fr q.txq }).push p fr.cls tDep).countEaten p).pace

/-- What follows when a frame has entered a port's transmit buffer: its head is judged (R104, R140). -/
def State.arrived (s : State) (p : Nat) : State := (s.purge p).countEaten p

/-- A frame of some origin waits in the transmit buffer. -/
def PortSt.waits (q : PortSt) (is : Origin → Bool) : Bool := q.txq.any fun f => is f.origin

/-- The frames that a port makes itself leave the transmit buffer with the state of the link that they were for (R128). -/
def PortSt.dropOwn (q : PortSt) : PortSt := { q with txq := q.txq.filter fun f => !f.origin.isLink }

/-! Gate entries, and what is discarded. -/

/-- HEAD_LOAD: the head of a frame is placed in the port's transmit buffer (R17). -/
def execHeadLoad (p : Fin 1024) (index : Nat) (s : State) : Host.Outcome State Fault Refusal :=
  .next (s.modPort p fun q => { q with txq := q.txq.modify index fun f => { f with head := true } })

/-- GATE_ENTRY_START: the next gate entry of a port starts at its tick: its event line pulses in JOINED and HOLD_OFF (R77,
R102, R105), a fragment whose window closes there has ended, and a window that a pause has consumed is counted (R140). -/
def execGateEntryStart (p : Fin 1024) (s : State) : Host.Outcome State Fault Refusal :=
  if !s.time.hasCycle then .next s
  else
    let q := s.port p
    let i := match q.gateAt with
      | some (c, j) => if c = s.time.cycle then j + 1 else 0
      | none => 0
    match (gclSpans s.live p)[i]? with
    | none => .next s
    | some (st, e) =>
      let s1 := (s.runTo (s.tickAt st)).modPort p fun q => { q with gateAt := some (s.time.cycle, i) }
      let s2 := if gEvent e ∧ s1.inNet then s1.pulse (gLine e) (s1.tickAt st) else s1
      .next (s2.countEaten p)

/-- Abandon what the preemptable MAC of a port has not sent (R156). -/
def State.abandon (s : State) (p : Nat) : State :=
  let q := s.port p
  match q.rest, q.wire with
  | some x, _ => (s.modPort p fun q => { q with rest := none, wire := none }).dropFrame p x.fr .abandoned
  | none, some x => (s.modPort p fun q => { q with wire := none }).dropFrame p x.fr .abandoned
  | none, none => s

/-- The fragment on the wire of a port runs to its planned end (R88, R91, R141). -/
def State.finishWire (s : State) (p : Nat) : State :=
  match (s.port p).wire with
  | some x =>
    let (d, final) := s.planned p x
    s.endFragment p x d final none
  | none => s

/-- One port discards its frames of classes 0 to 6 other than a HELLO, and abandons the remainder of the preemptable frame in
progress, once the fragment on the wire has ended (R91). -/
def State.flushPort (s : State) (p : Nat) : State :=
  let gone := (s.port p).txq.filter fun f => f.cls < 7 && !f.origin.isHello
  let t1 := s.modPort p fun q => { q with txq := q.txq.filter fun f => !(f.cls < 7 && !f.origin.isHello) }
  let t2 := (gone.foldl (fun u f => u.dropFrame p f .nodeLeft) t1).endWire p
  let t3 := (match (t2.port p).wire with
    | some x => if (t2.planned p x).2 then t2 else t2.finishWire p
    | none => t2)
  if (t3.port p).rest.isSome then t3.abandon p else t3

/-- On leaving JOINED or HOLD_OFF for YIELD, OFF or HALTED: every frame of classes 0 to 6 in the transmit buffers other than a HELLO is
discarded and every remainder abandoned (R91). -/
def State.flushTx (s : State) : State := (s.listedPorts.foldl State.flushPort s).departs.pace

/-- Scheduled transmission of a port stops: a fragment on the wire is cut, relayed frames at a head are discarded (R14, R88, R153). -/
def State.holdPort (s : State) (p : Nat) : State :=
  ((s.endWire p).cutWire p s.time.now R.PORT_TX_PREEMPT_PAUSE).purgeHeads p

/-- Entry to HOLD_OFF (R88, R153). -/
def State.holdOffTx (s : State) : State := (s.listedPorts.foldl State.holdPort s).departs.pace

end Sys2Proof.Machine
end

