-- ==== Sys2Proof/Machine/Stream.lean ====
section
/-! DEFINITION. Streams: identification, generation and replication, sequence recovery, the tables across a cut (R162 to R180). -/

namespace Sys2Proof.Machine

open Sys2Proof

/-! Identification. -/

/-- The stream index of a handle when entry s identifies it (R163). -/
def Bank.identify (b : Bank) (handle : Nat) : Option Nat :=
  let i := handle % 2 ^ 16
  let w := b.word (offStream i)
  if stValid w ∧ !stNull w ∧ stHi w = handle / 2 ^ 16 % 16 then some i else none

/-- NULL_ID register i of a slate: word 0 and word 1 (R164). -/
def Bank.nullW (b : Bank) (i : Nat) : Word × Word :=
  (smGet b.nullId (R.STREAM_NULL_ID0 + 16 * i) 0, smGet b.nullId (R.STREAM_NULL_ID1 + 16 * i) 0)

/-- The tag of a frame is as word 0 of a NULL_ID register asks (R164). -/
def nullTagOk (tag : Option VlanTag) (lo : Word) : Bool :=
  match tag with
  | some t => bit lo 60 && t.vid == fld lo 59 48
  | none => !bit lo 60

/-- The stream index of a frame that is not an Itpitos frame (R164). -/
def Bank.identifyNull (b : Bank) (f : Frame) : Option Nat :=
  (List.range 64).findSome? fun i =>
    let (lo, hi) := b.nullW i
    if bit lo 63 && fld lo 47 0 == f.da.toNat && nullTagOk f.tag lo then some (fld hi 15 0) else none

/-! Generation. -/

/-- The member ports of a handle's generation entry, when the entry may be used (R167). -/
def Bank.genPorts (b : Bank) (handle : Nat) : Option (List Nat) :=
  let w := b.word (offGen (handle % 2 ^ 16))
  if gnValid w ∧ gnHi w = handle / 2 ^ 16 % 16 then some (gnPorts w) else none

/-- The next sequence number of a generation entry. -/
def State.nextSeq (s : State) (i : Nat) : Nat := smGet s.stream.gen i 0

/-- Put a frame into a port's transmit buffer, behind the others (R104). -/
def State.enqueue (s : State) (p : Nat) (fr : TxFrame) : State := s.modPort p fun q => { q with txq := q.txq ++ [fr] }

/-- Number a frame and place a replica in the transmit buffer of each member port (R167). A port that lacks the link bit the
frame needs gets none (R197). -/
def State.replicate (s : State) (handle cls typ : Nat) (tagged : Bool) (h : Hdr) (payload : List Byte) (origin : Nat → Origin)
    (loaded ts : Bool) (needBit : Option Nat) (ports : List Nat) : State :=
  let i := handle % 2 ^ 16
  let h' := { h with seq := s.nextSeq i, plen := payload.length }
  let s1 := { s with stream := { s.stream with gen := smSet s.stream.gen i ((s.nextSeq i + 1) % 2 ^ 16) } }
  (ports.zipIdx).foldl (fun t pm =>
    let p := pm.1
    if (match needBit with | some b => !t.linkBit p b | none => false) then t.countP p R.PORT_TX_NOT_AGREED
    else
      let fr : TxFrame := { cls, typ, origin := origin pm.2, frame := t.mkFrame p (if tagged then some cls else none) h' payload,
                            head := loaded, ts }
      ((t.enqueue p fr).count .stream 0 R.STREAM_REPLICAS_BUILT).countP p R.PORT_REPLICA_TX)
    (s1.count .stream 0 R.STREAM_GEN_FRAMES)

/-! Sequence recovery. -/

/-- The state of a recovery entry. -/
def State.rc (s : State) (r : Nat) : RcvySt := smGet s.stream.rcvy r {}

/-- Change the state of a recovery entry. -/
def State.modRc (s : State) (r : Nat) (f : RcvySt → RcvySt) : State :=
  { s with stream := { s.stream with rcvy := smMod s.stream.rcvy r {} f } }

/-- The page counter that sums per-entry counter i (R180). -/
def rcSum (i : Nat) : Nat :=
  nth [R.STREAM_RCVY_PASSED, R.STREAM_RCVY_DISCARDED, R.STREAM_RCVY_OUT_OF_ORDER, R.STREAM_RCVY_ROGUE, R.STREAM_RCVY_LOST,
    R.STREAM_RCVY_RESETS, R.STREAM_RCVY_NOT_MEMBER, R.STREAM_RCVY_STALE, R.STREAM_LATENT_ERRORS] i R.STREAM_INDIV_DISCARDED

/-- Count n events in per-entry counter i of entry r, in the order of the view registers, and in the page's sum. -/
def State.rcCount (s : State) (r i n : Nat) : State :=
  if n = 0 then s
  else
    let s0 := if ctrWraps (nth (s.rc r).ctrs i 0) n then (s.wrap (wrapRcvy r i)).cause .stream 0 causeOvf else s
    let s1 := s0.modRc r fun e => { e with ctrs := e.ctrs.modify i fun w => ctrAdd w n }
    if 9 ≤ i ∧ i < 13 then s1 else s1.countN .stream 0 (rcSum i) n

/-- A reset of an entry (R170). -/
def RcvySt.reset (e : RcvySt) : RcvySt :=
  { e with takeAny := true, mTake := [true, true, true, true], hist := 0, timer := 0, testAny := true }

/-- The zeros among bits lo to hi of a history (R171). -/
def zerosIn (h lo hi : Nat) : Nat := ((List.range (hi + 1 - lo)).filter fun i => !nbit h (lo + i)).length

/-- A frame passes: PASSED, TIMER, cut guard (R171). -/
def State.rcPass (s : State) (r src : Nat) : State :=
  (s.rcCount r 0 1).modRc r fun e => { e with timer := 0, guard := false, testP := e.testP + 1, lastSrc := some src }

/-- Recovery proper, after the member and guard checks (R171). -/
def State.rcMain (s : State) (r seq src : Nat) (lo : Word) : State × Bool :=
  let e := s.rc r
  if rcMatch lo then
    if e.takeAny then ((s.modRc r fun e => { e with rseq := seq, takeAny := false }).rcPass r src, true)
    else if seq = e.rseq then ((s.rcCount r 1 1).modRc r fun e => { e with testD := e.testD + 1 }, false)
    else
      let s1 := if (seq + 2 ^ 16 - e.rseq) % 2 ^ 16 ≠ 1 then s.rcCount r 2 1 else s
      ((s1.modRc r fun e => { e with rseq := seq }).rcPass r src, true)
  else
    let l := rcLen lo
    if e.takeAny then
      ((s.modRc r fun e => { e with rseq := seq, hist := 2 ^ l - 1, takeAny := false }).rcPass r src, true)
    else
      let d := sext 16 (toField 16 ((seq : Int) - e.rseq))
      if (l : Int) ≤ d ∨ d ≤ -(l : Int) then (s.rcCount r 3 1, false)
      else if d ≤ 0 then
        let k := (-d).toNat
        if nbit e.hist k then ((s.rcCount r 1 1).modRc r fun e => { e with testD := e.testD + 1 }, false)
        else (((s.modRc r fun e => { e with hist := e.hist ||| 2 ^ k }).rcCount r 2 1).rcPass r src, true)
      else
        let n := d.toNat
        let s1 := if n ≠ 1 then s.rcCount r 2 1 else s
        let s2 := s1.rcCount r 4 (zerosIn e.hist (l - n) (l - 1))
        ((s2.modRc r fun e => { e with hist := (e.hist * 2 ^ n + 1) % 2 ^ l, rseq := seq }).rcPass r src, true)

/-- SEQUENCE_RECOVERY: one frame of stage 6 with RCVY_EN; whether it passes (R171). -/
def State.recover (s : State) (r port seq cycField src : Nat) : State × Bool :=
  let lo := s.live.word (offRcvy r)
  let hi := s.live.word (offRcvy r + 8)
  match (rcPorts lo hi).findIdx? (fun p => p == port) with
  | none => (s.rcCount r 6 1, false)
  | some m =>
    let s1 := s.rcCount r (9 + m) 1
    let e := s1.rc r
    if rcIndiv lo ∧ !(nth e.mTake m true) ∧ seq = nth e.mSeq m 0 then (s1.rcCount r (13 + m) 1, false)
    else
      let s2 := if rcIndiv lo then s1.modRc r fun e => { e with mSeq := e.mSeq.set m seq, mTake := e.mTake.set m false } else s1
      if e.guard ∧ sext 16 (toField 16 ((cycField : Int) - e.guardCy)) < 0 then (s2.rcCount r 7 1, false)
      else s2.rcMain r seq src lo

/-- A cycle start advances the TIMER of an entry (R173). -/
def State.rcTick (s : State) (r : Nat) : State :=
  if (s.rc r).takeAny ∨ !bit (s.live.word (offRcvy r)) 0 then s else s.modRc r fun e => { e with timer := e.timer + 1 }

/-- The reset of an entry whose TIMER has reached RESET_TIMEOUT (R173). -/
def State.rcExpire (s : State) (r : Nat) : State :=
  let e := s.rc r
  let lo := s.live.word (offRcvy r)
  if e.takeAny ∨ !bit lo 0 ∨ e.timer < rcTimeout lo then s
  else ((s.modRc r RcvySt.reset).rcCount r 5 1).cause .stream 0 17

/-- Begin a new period of the latent test of an entry. -/
def State.rcTestClear (s : State) (r : Nat) : State :=
  s.modRc r fun e => { e with testP := 0, testD := 0, testAny := e.takeAny }

/-- The latent test of an entry at a cycle start, and the difference it reports if it fails (R174). -/
def State.rcLatentTest (s : State) (r : Nat) : State × Option Nat :=
  let lo := s.live.word (offRcvy r)
  let hi := s.live.word (offRcvy r + 8)
  if bit lo 0 ∧ rcLatent hi ∧ 0 < rcPeriod hi ∧ s.time.cycle % rcPeriod hi = 0 then
    let e := s.rc r
    let n := fld hi 11 10 + 1
    let diff := ((((n - 1) * e.testP : Nat) : Int) - e.testD).natAbs
    if e.testAny ∨ e.takeAny then (s.rcTestClear r, none)
    else if rcDiff hi < diff then (((s.rcCount r 8 1).cause .stream 0 16).rcTestClear r, some (min diff 0xFFFFFFFF))
    else (s.rcTestClear r, none)
  else (s, none)

/-- Entries with a state of their own. -/
def State.rcKeys (s : State) : List Nat := smKeys s.stream.rcvy

/-- The timers of all entries at a cycle start (R173). -/
def State.rcTimers (s : State) : State := s.rcKeys.foldl State.rcTick s

/-- Indexes of entries of `size` bytes that some word of either slate lists in a table. -/
def tableIdx (a b : Bank) (base span size : Nat) : List Nat :=
  let ks := (smKeys a.tbl ++ smKeys b.tbl).filter fun o => base ≤ o && o < base + span
  (ks.map fun o => (o - base) / size).eraseDups

/-- The decisions of R175 on the switch edge: `old` was live, `new` is live. `cut`: the cycle X of a cut, none for an ADOPT. -/
def State.streamSwitch (s : State) (old new : Bank) (cut : Option Nat) : State :=
  let rs := (tableIdx old new 0x780000 0x80000 16).filter fun r => bit (old.word (offRcvy r)) 0 || bit (new.word (offRcvy r)) 0
  let s1 := rs.foldl (fun t r =>
    if old.word (offRcvy r) = new.word (offRcvy r) ∧ old.word (offRcvy r + 8) = new.word (offRcvy r + 8) then
      (if cut.isSome then t.count .stream 0 R.STREAM_RCVY_KEPT_AT_CUT else t)
    else
      let t1 := t.modRc r fun e =>
        { e.reset with ctrs := List.replicate 17 0, testP := 0, testD := 0, lastSrc := none,
                       guard := cut.isSome || e.guard, guardCy := match cut with | some x => x % 2 ^ 16 | none => e.guardCy }
      if cut.isSome then t1.count .stream 0 R.STREAM_RCVY_RESET_AT_CUT else t1) s
  let gs := (tableIdx old new 0x700000 0x80000 8).filter fun g => bit (old.word (offGen g)) 0 || bit (new.word (offGen g)) 0
  gs.foldl (fun t g =>
    if old.word (offGen g) = new.word (offGen g) then t
    else { t with stream := { t.stream with gen := smSet t.stream.gen g 0 } }) s1

/-! Registers (R177, R180). -/

/-- RCVY_STATE to V_INDIV_DISCARD[3] of an entry (R180). -/
def rcView (e : RcvySt) (len : Nat) : List Word :=
  let h := if len = 0 then e.hist else e.hist % 2 ^ len
  let take := (b2n (nth e.mTake 0 true)) + 2 * b2n (nth e.mTake 1 true) + 4 * b2n (nth e.mTake 2 true) + 8 * b2n (nth e.mTake 3 true)
  [wd (e.rseq + b2n e.takeAny * 2 ^ 16 + b2n e.guard * 2 ^ 17 + take * 2 ^ 20 + e.timer * 2 ^ 32 + e.guardCy * 2 ^ 48),
   wd h, wd (h / 2 ^ 64),
   wd (nth e.mSeq 0 0 + nth e.mSeq 1 0 * 2 ^ 16 + nth e.mSeq 2 0 * 2 ^ 32 + nth e.mSeq 3 0 * 2 ^ 48)] ++ e.ctrs

/-- The write of RCVY_SEL captures the view (R180). -/
def State.writeRcvySel (s : State) (v : Word) : State :=
  let r := fld v 14 0
  let s1 := s.setReg .stream 0 R.STREAM_RCVY_SEL (wd r)
  { s1 with stream := { s1.stream with view := rcView (s1.rc r) (if rcMatch (s.live.word (offRcvy r)) then 0
                                                                 else rcLen (s.live.word (offRcvy r))) } }

/-- RESET_STATE of the selected entry (R177). -/
def State.rcReset (s : State) : State := s.modRc (s.regF .stream 0 R.STREAM_RCVY_SEL 14 0) RcvySt.reset

/-- CLEAR_COUNTERS of the selected entry (R177). -/
def State.rcClear (s : State) : State :=
  s.modRc (s.regF .stream 0 R.STREAM_RCVY_SEL 14 0) fun e => { e with ctrs := List.replicate 17 0 }

/-- The write of RCVY_CTRL (R177). -/
def State.writeRcvyCtrl (s : State) (v : Word) : State :=
  let s1 := if bit v 0 then s.rcReset else s
  if bit v 1 then s1.rcClear else s1

/-- The write of GEN_SEL captures GEN_STATE (R180). -/
def State.writeGenSel (s : State) (v : Word) : State :=
  let g := fld v 15 0
  let s1 := s.setReg .stream 0 R.STREAM_GEN_SEL (wd g)
  { s1 with stream := { s1.stream with genView := s1.nextSeq g } }

/-- The write of GEN_CTRL: SET_SEQ of the selected generation entry (R177). -/
def State.writeGenCtrl (s : State) (v : Word) : State :=
  if bit v 0 then
    { s with stream := { s.stream with
        gen := smSet s.stream.gen (s.regF .stream 0 R.STREAM_GEN_SEL 15 0) (fld v 31 16) } }
  else s

/-- RCVY_TIMEOUT_RESET: an entry whose TIMER has reached RESET_TIMEOUT is reset (R173). -/
def execRcvyTimeoutReset (r : Fin 32768) (s : State) : Host.Outcome State Fault Refusal :=
  if s.time.hasCycle then .next (s.rcExpire r) else .next s

end Sys2Proof.Machine
end

