-- ==== Sys2Proof/Machine/Zones.lean ====
section
/-! DEFINITION. Landing zones: their definitions, the slices they name, landed-byte counts and the jobs that watch them, the reject
table, live edits, and what a switch of slates does to them (R209 to R214, R228, R277). -/

namespace Sys2Proof.Machine

open Sys2Proof

/-! Definitions. -/

/-- A reserved bit of a zone definition is set (R209, table of the definition). -/
def znReserved (lo hi : Word) : Bool :=
  fld lo 7 5 ≠ 0 || fld lo 15 12 ≠ 0 || fld hi 31 23 ≠ 0 || fld hi 63 55 ≠ 0

/-- Two definitions cover a common line. -/
def znOverlap (hi hi' : Word) : Bool := znBase hi ≤ znLimit hi' && znBase hi' ≤ znLimit hi

/-- The lowest other VALID zone that a definition overlaps in a slate. -/
def Bank.overlapped (b : Bank) (z : Nat) (hi : Word) : Option Nat :=
  (sortBy id b.zones).find? fun y => y != z && znOverlap hi (b.word (offZone y + 8))

/-- A definition fails R213 in a slate. -/
def State.zoneBad (s : State) (b : Bank) (z : Nat) (lo hi : Word) : Bool :=
  znValid lo && (znReserved lo hi || decide (znLimit hi < znBase hi) || (b.overlapped z hi).isSome
    || (znAccum lo && (!s.feat 10 || (s.blocked ownerLz [resSlice (znScratch lo)]).isSome)))

/-- The slices that the ACCUM zones of a slate name (R213). -/
def Bank.slices (b : Bank) : List Nat :=
  ((b.zones.filter fun z => znAccum (b.word (offZone z))).map fun z => resSlice (znScratch (b.word (offZone z)))).eraseDups

/-- All slices. -/
def allSlices : List Nat := (List.range 16).map resSlice

/-- Release the slices of the landing-zone checker that no given slate names (R213). -/
def State.freeSlices (s : State) (named : List Nat) : State :=
  s.release ownerLz (allSlices.filter fun r => !named.contains r)

/-! Watching jobs. -/

/-- The condition of an EXPECT job holds (R228). -/
def Job.reached (j : Job) (count : Nat) : Bool :=
  decide (0 ≤ sext 48 (toField 48 ((count : Int) - (if j.mode = 1 then j.c0 else 0) - j.bytes)))

/-- EXPECT jobs of a zone are tested: POISONED_ZONE, then OK (R228). -/
def State.expectTest (s : State) (z : Nat) : State :=
  let zs := s.zone z
  s.finishAll ((s.xfer.jobs.filter fun j => j.kind == .expect && j.zone == z).filterMap fun j =>
    if zs.poisoned then some (j, stPoisonedZone)
    else if j.reached zs.landed then some (j, stOk) else none)

/-- Change a zone's state. -/
def State.modZone (s : State) (z : Nat) (f : ZoneSt → ZoneSt) : State :=
  { s with lz := { s.lz with zones := smMod s.lz.zones z {} f } }

/-- A frame has landed in a zone: its count rises (R211). -/
def State.landed (s : State) (z n : Nat) : State :=
  ((s.modZone z fun x => { x with landed := (x.landed + n) % 2 ^ 48 }).count .lz 0 R.LZ_LANDED_FRAMES).expectTest z

/-- Stage 9 met a poisoned word in a zone (R205). -/
def State.zonePoison (s : State) (z : Nat) : State :=
  ((s.modZone z fun x => { x with poisoned := true }).count .mem 0 R.MEM_LAND_POISONED).expectTest z

/-! Rejections (R210). -/

/-- Empty the episode of a full table when there is room again. -/
def State.rejectRoom (s : State) : State :=
  if s.lz.rejects.length < 256 then { s with lz := { s.lz with full := false } } else s

/-- Count and report a rejection of check `chk` for a source node and zone (R209, R210). The second part says whether the
pair is new, so that it is reported in a FAULT frame too. -/
def State.reject (s : State) (src zone chk : Nat) : State × Bool :=
  let ctr := nth [R.LZ_LZ_MISS, R.LZ_LZ_BOUNDS, R.LZ_LZ_SOURCE, R.LZ_LZ_KEY] (chk - 1) R.LZ_LZ_PERM
  let s1 := s.count .lz 0 ctr
  if s1.lz.rejects.any (fun r => r.1 == src && r.2.1 == zone) then
    ({ s1 with lz := { s1.lz with rejects := s1.lz.rejects.map fun r =>
        (if r.1 = src ∧ r.2.1 = zone then (r.1, r.2.1, r.2.2 + 1) else r) } }, false)
  else if 256 ≤ s1.lz.rejects.length then
    let s2 := s1.count .lz 0 R.LZ_REJECT_UNREPORTED
    if s2.lz.full then (s2, false)
    else (({ s2 with lz := { s2.lz with full := true } }).raise 0x01B 0 0, false)
  else
    (({ s1 with lz := { s1.lz with rejects := s1.lz.rejects ++ [(src, zone, 0)] } }).raise 0x01A zone
      (src + chk * 2 ^ 16), true)

/-! Switches (R175, R210, R211, R213, R228, R277). -/

/-- A channel that watches a zone takes a new reference point (R277). -/
def MvCh.refPoint (m : MvCh) (z landed : Nat) : MvCh :=
  if fld m.live.watch 1 0 = 3 ∧ fld m.live.watch 27 16 = z then { m with m := 0, z0 := landed } else m

/-- The reference point of every channel that watches a zone is set anew (R277). -/
def State.refPoint (s : State) (z : Nat) : State :=
  { s with mover := { s.mover with chans := s.mover.chans.map fun x => (x.1, x.2.refPoint z (s.zone z).landed) } }

/-- What a switch does to the count and the rejections of one zone whose definition changes. -/
def State.zoneSwitch (s : State) (z : Nat) : State :=
  { s with lz := { s.lz with zones := smErase s.lz.zones z, rejects := s.lz.rejects.filter fun r => r.2.1 != z } }

/-- The zones on the switch edge: `old` was live, `new` is live. -/
def State.zonesSwitch (s : State) (old new : Bank) : State :=
  let zs := (tableIdx old new 0x610000 0x10000 16).filter fun z =>
    old.word (offZone z) ≠ new.word (offZone z) || old.word (offZone z + 8) ≠ new.word (offZone z + 8)
  let s1 := zs.foldl State.zoneSwitch s
  let s2 := s1.finishAll ((s1.xfer.jobs.filter fun j => j.kind == .expect && zs.contains j.zone).map fun j => (j, stZoneChanged))
  (((zs.foldl State.refPoint s2).rejectRoom).freeSlices new.slices).pace

/-! Registers (R210, R212, R214). -/

/-- APPLY of EDIT_CTRL: one live zone definition (R212). -/
def State.lzEdit (s : State) (z : Nat) : State :=
  let lo := s.reg .lz 0 R.LZ_EDIT_WORD0
  let hi := s.reg .lz 0 R.LZ_EDIT_WORD1
  if s.slate.cut = .committed then s.err .lz 0 0x0152 z (s.slate.x % 2 ^ 32)
  else if s.zoneBad s.live z lo hi then s.err .lz 0 0x0170 z ((s.live.overlapped z hi).getD 0xFFFFFFFF)
  else
    let s1 := s.modLive fun b => { b with tbl := smSet (smSet b.tbl (offZone z) lo) (offZone z + 8) hi }
    if znValid lo && znAccum lo then s1.takeAll ownerLz [resSlice (znScratch lo)] else s1

/-- The write of EDIT_CTRL. -/
def State.writeEditCtrl (s : State) (v : Word) : State := if bit v 0 then s.lzEdit (fld v 27 16) else s

/-- CLEAR of REJECT_CTRL empties the reject table (R210). -/
def State.rejectClear (s : State) : State := { s with lz := { s.lz with rejects := [], full := false } }

/-- The write of REJECT_CTRL. -/
def State.writeRejectCtrl (s : State) (v : Word) : State := if bit v 0 then s.rejectClear else s

/-- The write of ZONE_SEL captures ZONE_VIEW (R214). -/
def State.writeZoneSel (s : State) (v : Word) : State :=
  let z := fld v 11 0
  let s1 := s.setReg .lz 0 R.LZ_ZONE_SEL (wd z)
  { s1 with lz := { s1.lz with view := wd ((s.zone z).landed + b2n (s.zone z).poisoned * 2 ^ 63) } }

end Sys2Proof.Machine
end

