-- ==== Sys2Proof/Machine/Slate.lean ====
section
/-! DEFINITION. Slates: validation, checks, ADOPT, the arming, commit, refusal and switch of a cut (R81, R100, R105, R110 to R119, R179). -/

namespace Sys2Proof.Machine

open Sys2Proof

/-! Validation. -/

/-- Region offset of the tables of slate A or B (R38). -/
def slateBase (b : Bool) : Nat := if b then 0x04800000 else 0x04000000

/-- Region offset of the staged tables. -/
def State.stagedBase (s : State) : Nat := slateBase (!s.slate.liveB)

/-- A fault found by validation: the offset of the item and the code. -/
abbrev Finding := Nat × Nat

/-- Findings of a condition. -/
def finding (bad : Bool) (off code : Nat) : List Finding := if bad then [(off, code)] else []

/-- SPARE_FIELDS of an entry or slot (R110, code 0x07). -/
def spareBad (spare : Bool) (owner : Nat) (claim : Bool) : Bool :=
  (spare && owner == 0) || (!spare && owner != 0) || (spare && !claim)

/-- A line is held by an owner other than the gate scheduler. -/
def State.lineBarred (s : State) (line : Nat) : Bool := (s.blocked ownerSched [resLine line]).isSome

/-- The used gate entries of a port are checked (R110). -/
def State.checkGcl (s : State) (b : Bank) (base p : Nat) : List Finding :=
  (List.range (min (b.gclCount p) 512)).flatMap fun i =>
    let e := b.gcl p i
    let o := base + offGcl p i
    finding (gDur e = 0) o 0x04
      ++ finding (i = 0 && (!nbit (gMask e) 7 || decide (gDur e < 13) || gSpare e)) o 0x05
      ++ finding (fld e 15 10 ≠ 0 || bit e 62) o 0x06
      ++ finding (spareBad (gSpare e) (gOwner e) (s.feat 12)) o 0x07
      ++ finding (gEvent e && s.lineBarred (gLine e)) o 0x08
      ++ finding (gHold e && !s.feat 3) o 0x0A

/-- The used receive slots of a port are checked (R110). -/
def State.checkSlots (s : State) (b : Bank) (base p : Nat) : List Finding :=
  (List.range (min (b.slotCount p) 128)).flatMap fun i =>
    let lo := b.word (offSlot p i)
    let hi := b.word (offSlot p i + 8)
    let o := base + offSlot p i
    let prev := if i = 0 then 0 else slotStart (b.word (offSlot p (i - 1)))
    finding (fld lo 63 57 ≠ 0 || fld hi 63 16 ≠ 0) o 0x06
      ++ finding (spareBad (slotSpare lo) (fld hi 15 0) (s.feat 12)) o 0x07
      ++ finding (decide (slotEnd lo < slotStart lo) || decide (b.ticks ≤ slotEnd lo) || slotMask lo == 0
          || decide (slotStart lo < prev)) o 0x09

/-- One port's tables are checked (R110). -/
def State.checkPort (s : State) (b : Bank) (base p : Nat) : List Finding :=
  let c := b.word (offCtl p)
  let m := b.word (offMap p)
  let oc := base + offCtl p
  let om := base + offMap p
  let n := min (b.gclCount p) 512
  let total := ((List.range n).map fun i => gDur (b.gcl p i)).sum
  finding (b.gclCount p = 0 || 512 < b.gclCount p || 128 < b.slotCount p) oc 0x02
    ++ finding (fld c 15 10 ≠ 0 || fld c 31 24 ≠ 0 || fld c 63 44 ≠ 0 || b.word (offCtl p + 8) ≠ 0) oc 0x06
    ++ finding (b.rxTol p = 0) oc 0x0B
    ++ finding (fld m 31 27 ≠ 0 || fld m 63 48 ≠ 0 || b.word (offMap p + 8) ≠ 0) om 0x06
    ++ finding (nbit (b.schedMask p) 7 || nbit (b.preMask p) 7 || (b.preMask p != 0 && !s.feat 3)) om 0x0A
    ++ finding (total ≠ b.ticks) (base + offGcl p 0) 0x03
    ++ s.checkGcl b base p ++ s.checkSlots b base p

/-- Landing-zone definitions are checked (R213). -/
def State.checkZones (s : State) (b : Bank) (base : Nat) : List Finding :=
  b.zones.flatMap fun z => finding (s.zoneBad b z (b.word (offZone z)) (b.word (offZone z + 8))) (base + offZone z) 0x0D

/-- Indexes of VALID entries among the listed words of a table. -/
def Bank.validIdx (b : Bank) (base span size : Nat) : List Nat :=
  (tableIdx b b base span size).filter fun i => bit (b.word (base + i * size)) 0

/-- A list has a repeated element. -/
def repeats (l : List Nat) : Bool := l.eraseDups.length != l.length

/-- NULL_ID registers are checked (R179). -/
def Bank.checkNull (b : Bank) : List Finding :=
  (List.range 64).flatMap fun i =>
    let (lo, hi) := b.nullW i
    let e := b.word (offStream (fld hi 15 0))
    let same := (List.range i).any fun j =>
      let (lo', _) := b.nullW j
      bit lo' 63 && fld lo' 47 0 == fld lo 47 0 && bit lo' 60 == bit lo 60 && (!bit lo 60 || fld lo' 59 48 == fld lo 59 48)
    finding (bit lo 63 && (fld lo 62 61 != 0 || fld hi 63 16 != 0 || !stValid e || !stNull e || same))
      (pageBase .stream 0 + R.STREAM_NULL_ID0 + 16 * i) 0x0C

/-- A stream identification entry fails R179. -/
def State.streamBad (s : State) (b : Bank) (i : Nat) : Bool :=
  let w := b.word (offStream i)
  let g := b.word (offGen i)
  fld w 63 26 ≠ 0 || (stNull w && stRcvy w)
    || (stRcvy w && (!bit (b.word (offRcvy (stIndex w))) 0
        || (b.validIdx 0x680000 0x80000 8).any fun j =>
             j != i && stRcvy (b.word (offStream j)) && stIndex (b.word (offStream j)) == stIndex w))
    || (stRelay w && !gnValid g) || (!stNull w && stRelay w && gnHi g != stHi w)
    || stClass w == 7 || (stRcvy w && !s.feat 6)

/-- A generation entry fails R179. -/
def State.genBad (s : State) (b : Bank) (i : Nat) : Bool :=
  let w := b.word (offGen i)
  bit w 1 || fld w 63 48 ≠ 0 || repeats (gnPorts w) || (fld w 3 2 != 0 && !s.feat 6)

/-- A recovery entry fails R179. -/
def State.rcvyBad (s : State) (b : Bank) (i : Nat) : Bool :=
  let lo := b.word (offRcvy i)
  let hi := b.word (offRcvy i + 8)
  bit lo 3 || fld lo 31 28 ≠ 0 || fld lo 63 62 ≠ 0 || fld hi 15 13 ≠ 0 || fld hi 63 48 ≠ 0
    || (!rcMatch lo && (decide (rcLen lo < 2) || decide (128 < rcLen lo))) || rcTimeout lo == 0 || repeats (rcPorts lo hi)
    || (rcLatent hi && (rcPeriod hi == 0 || fld hi 11 10 == 0)) || ((rcIndiv lo || rcLatent hi) && !s.feat 7)

/-- Stream tables are checked (R179). -/
def State.checkStreams (s : State) (b : Bank) (base : Nat) : List Finding :=
  b.checkNull
    ++ ((b.validIdx 0x680000 0x80000 8).flatMap fun i => finding (s.streamBad b i) (base + offStream i) 0x0C)
    ++ ((b.validIdx 0x700000 0x80000 8).flatMap fun i => finding (s.genBad b i) (base + offGen i) 0x0C)
    ++ ((b.validIdx 0x780000 0x80000 16).flatMap fun i => finding (s.rcvyBad b i) (base + offRcvy i) 0x0C)

/-- Every failure of the staged slate. -/
def State.findings (s : State) : List Finding :=
  let b := s.staged
  let base := s.stagedBase
  finding (decide (b.ticks < 1563) || decide (16777215 < b.ticks)) (pageBase .cycle 0 + R.CYCLE_CYCLE_TICKS) 0x01
    ++ (List.range 1024).flatMap (s.checkPort b base) ++ s.checkZones b base ++ s.checkStreams b base

/-- The reported failure: the lowest offset, and its lowest code (R110). -/
def firstFinding : List Finding → Option Finding
  | [] => none
  | x :: xs =>
    match firstFinding xs with
    | none => some x
    | some y => if x.1 < y.1 ∨ (x.1 = y.1 ∧ x.2 ≤ y.2) then some x else some y

/-! Checks (R110, R111). -/

/-- Change the slate state. -/
def State.modSlate (s : State) (f : SlateSt → SlateSt) : State := { s with slate := f s.slate }

/-- A cut is armed or committed. -/
def State.cutBusy (s : State) : Bool := s.slate.cut == .armed || s.slate.cut == .committed

/-- CUT_STATUS.STATE (R119). -/
def CutState.code : CutState → Nat
  | .idle => 0 | .armed => 1 | .committed => 2 | .applied => 3 | .refused => 4 | .cancelled => 5

/-- CUT_STATUS.CHECK (R119). -/
def CheckState.code : CheckState → Nat
  | .none => 0 | .running => 1 | .pass => 2 | .fail => 3

/-- NODE_STATE.STATE (R77). -/
def NodeState.code : NodeState → Nat
  | .off => 0 | .listen => 1 | .candidate => 2 | .yield => 3 | .stepped => 4 | .joined => 5 | .holdOff => 6 | .halted => 15

/-- CUT_STATUS.STATE changes. -/
def State.setCut (s : State) (c : CutState) : State :=
  (s.modSlate fun x => { x with cut := c }).traceState 2 3 c.code (wd s.slate.x)

/-- Start a validation. -/
def State.startCheck (s : State) : State :=
  (s.modSlate fun x => { x with check := .running }).count .cycle 0 R.CYCLE_CHECKS_RUN

/-- The ADOPT that waited for its switch is refused: the node has left OFF and LISTEN (R81). -/
def State.adoptBusy (s : State) (code : Nat) : State :=
  if s.slate.adopt then
    (s.modSlate fun x => { x with adopt := false, adoptGo := false }).err .cycle 0 0x0140 code R.CYCLE_NODE_CTRL
  else s

/-- The ADOPT that waited for a validation is refused: code and offset of the failure (R81). -/
def State.adoptFails (s : State) (code off : Nat) : State :=
  if s.slate.adopt then (s.modSlate fun x => { x with adopt := false, adoptGo := false }).err .cycle 0 0x0141 code off else s

/-- An accepted write has reached the staged slate (R111). -/
def State.stagedWritten (s : State) : State :=
  let was := s.slate.check
  let s1 := s.modSlate fun x => { x with check := .none }
  if was = .running then (s1.cause .cycle 0 17).adoptFails 0 0 else s1

/-- A validation ends (R110). -/
def State.validationDone (s : State) : State :=
  match firstFinding s.findings with
  | some (off, code) =>
    (((s.modSlate fun x => { x with check := .fail, vcode := code, failOff := off }).count .cycle 0 R.CYCLE_CHECKS_FAILED).cause
      .cycle 0 17).adoptFails code off
  | none => (s.modSlate fun x => { x with check := .pass, adoptGo := x.adopt }).cause .cycle 0 17

/-! Lines and slices of a slate (R105, R213). -/

/-- The used gate entries of a slate that pulse a line: offset within the slate and line. -/
def Bank.pulses (b : Bank) : List (Nat × Nat) :=
  (smKeys b.tbl).filterMap fun o =>
    let p := o / 0x1000
    let i := o % 0x1000 / 8
    if o < 0x400000 ∧ i < b.gclCount p ∧ gEvent (b.word o) then some (o, gLine (b.word o)) else none

/-- The lines that a slate names. -/
def Bank.lines (b : Bank) : List Nat := (b.pulses.map Prod.snd).eraseDups

/-- The first item of the staged slate that names a line or a slice another owner holds: offset and code. -/
def State.claimBlocked (s : State) : Option Finding :=
  firstFinding (((s.staged.pulses.filter fun x => s.lineBarred x.2).map fun x => (s.stagedBase + x.1, 0x08))
    ++ ((s.staged.zones.filter fun z => znAccum (s.staged.word (offZone z))
          && (s.blocked ownerLz [resSlice (znScratch (s.staged.word (offZone z)))]).isSome).map fun z =>
        (s.stagedBase + offZone z, 0x0D)))

/-- Take the lines and the slices that the staged slate names, and record the lines taken now. -/
def State.claimSlate (s : State) : State :=
  let fresh := s.staged.lines.filter fun n => s.ownerOf (resLine n) ≠ ownerSched
  ((s.takeAll ownerSched (s.staged.lines.map resLine)).takeAll ownerLz s.staged.slices).modSlate fun x => { x with took := fresh }

/-- All event lines. -/
def allLines : List Nat := (List.range 64).map resLine

/-! Claims across a switch (R95, R97). -/

/-- Owner X marks a used spare gate entry of a port. -/
def Bank.marksGate (b : Bank) (p x : Nat) : Bool :=
  x != 0 && (List.range (b.gclCount p)).any fun i => gSpare (b.gcl p i) && gOwner (b.gcl p i) == x

/-- Owner X marks a used spare receive slot of a port. -/
def Bank.marksSlot (b : Bank) (p x : Nat) : Bool :=
  x != 0 && (List.range (b.slotCount p)).any fun i =>
    slotSpare (b.word (offSlot p i)) && fld (b.word (offSlot p i + 8)) 15 0 == x

/-- The claims of a port on the switch edge: entries whose owner marks no spare slot any more are freed and counted; claims of this
node whose owner marks no spare entry, with a CLAIM that waits to be sent, and those that had ended, are dropped (R95, R97). -/
def State.claimsSwitch (s : State) (new : Bank) (p : Nat) : State :=
  let gone := ((s.port p).claims.filter fun e => !new.marksSlot p e.2.owner).length
  (s.modPort p fun q => { q with
    claims := q.claims.filter fun e => new.marksSlot p e.2.owner
    mine := q.mine.filter fun m => new.marksGate p m.owner && (match m.phase with
      | .noAnswer | .refused => false
      | _ => true)
    txq := q.txq.filter fun f => match f.origin with
      | .claim x => new.marksGate p x
      | _ => true }).countN .port p R.PORT_CLAIM_RELEASED gone

/-- A waiting remainder whose class leaves PREEMPT_MASK is abandoned at the switch (R156). -/
def State.restSwitch (s : State) (new : Bank) (p : Nat) : State :=
  let s1 := s.endWire p
  match (s1.port p).rest with
  | some x => if nbit (new.preMask p) x.fr.cls then s1 else s1.abandon p
  | none => s1

/-! The switch (R81, R116). -/

/-- The staged slate becomes live on one edge. `cut`: the cycle X of a cut, none for an ADOPT. -/
def State.switchBanks (s : State) (cut : Option Nat) : State :=
  let old := s.live
  let new := s.staged
  let s1 := s.modSlate fun x => { x with liveB := !x.liveB, took := [] }
  let s2 := (s1.streamSwitch old new cut).zonesSwitch old new
  let s3 := s2.release ownerSched (allLines.filter fun r => !(new.lines.map resLine).contains r)
  let s4 := ((smKeys s3.ports).foldl (fun t p => (t.claimsSwitch new p).restSwitch new p) s3).departs
  let s5 := if s4.slate.check = .running then s4.cause .cycle 0 17 else s4
  ((s5.modSlate fun x => { x with check := .none }).cause .cycle 0 causeSlate).cause .stream 0 causeSlate

/-- A cut is refused, armed or committed (R117, R105). -/
def State.refuseCut (s : State) (reason : Nat) : State :=
  let back := s.slate.took.filter fun n => !s.live.lines.contains n
  let s1 := (s.release ownerSched (back.map resLine)).modSlate fun x =>
    { x with reason, refusedX := x.x, took := [], deferred := [] }
  (((s1.setCut .refused).count .cycle 0 R.CYCLE_CUTS_REFUSED).cause .cycle 0 16).raise 0x00E 0 s.slate.x

/-- The commit point: the hub edge that starts cycle X − 1 (R113). -/
def State.commitPoint (s : State) : State :=
  match s.slate.check with
  | .pass =>
    (match s.claimBlocked with
     | some (off, code) => (s.modSlate fun x => { x with vcode := code, failOff := off }).refuseCut 1
     | none => s.claimSlate.setCut .committed)
  | .fail => s.refuseCut 1
  | _ =>
    (s.modSlate fun x => { x with vcode := 0x0E, failOff := pageBase .cycle 0 + R.CYCLE_CUT_CYCLE }).refuseCut 3

/-- The switch of a cut at the start of cycle X (R116). -/
def State.applyCut (s : State) : State :=
  let s1 := s.switchBanks (some s.slate.x)
  ((s1.modSlate fun x => { x with applied := x.x, cutHere := some x.x }).setCut .applied).count .cycle 0 R.CYCLE_CUTS_APPLIED

/-- What the start of a cycle does to a cut: commit or switch (R113, R116). The cycle number is already the new one. -/
def State.cutCycleStart (s : State) : State :=
  if s.slate.cut = .armed ∧ 0 ≤ cycDiff (s.time.cycle + 1) s.slate.x then s.commitPoint
  else if s.slate.cut = .committed ∧ 0 ≤ cycDiff s.time.cycle s.slate.x then s.applyCut
  else s

/-- The final window of a committed cut (R115). -/
def State.finalWindow (s : State) : Bool :=
  s.slate.cut == .committed && s.time.hasCycle && cycDiff (s.time.cycle + 1) s.slate.x == 0
    && decide (s.ticks ≤ s.tick + 128)

/-! Register writes (R38, R39, R112, R114, R119). -/

/-- Write one table word at a region offset (R38, R39, R100), after the common checks. The word is held with its reserved bits, which
validation looks at (code 0x06, R179); a read answers them 0 (R6, log entry 69). -/
def State.writeTable (s : State) (off : Nat) (v : Word) : State :=
  let bankB := decide (0x04800000 ≤ off)
  let o := off - slateBase bankB
  if !offMapped o then s.err .cycle 0 errUnmapped 0 off
  else if bankB = s.slate.liveB then s.err .cycle 0 errLiveSlate 0 off
  else if s.cutBusy then s.err .cycle 0 errSlateArmed 0 off
  else (s.modStaged fun b => { b with tbl := smSet b.tbl o v }).stagedWritten

/-- Write a register of the staged bank (R38, R39). A NULL_ID register is held with its reserved bits, which validation looks at
(R179); a read answers them 0 (R6, log entry 69). -/
def State.writeRwc (s : State) (k : PageKind) (po : Nat) (v : Word) : State :=
  if s.cutBusy then s.err k 0 errSlateArmed 0 (pageBase k 0 + po)
  else
    (s.modStaged fun b =>
      if k = .cycle ∧ po = R.CYCLE_CYCLE_TICKS then { b with ticks := fld v 23 0 }
      else if k = .cycle ∧ po = R.CYCLE_SLATE_TAG then { b with tag := fld v 31 0 }
      else { b with nullId := smSet b.nullId po v }).stagedWritten

/-- The write of CUT_CYCLE (R112). -/
def State.writeCutCycle (s : State) (x : Nat) : State :=
  let k := s.time.cycle
  if !s.inNet then s.err .cycle 0 0x0153 s.node.state.code R.CYCLE_CUT_CYCLE
  else if s.cutBusy then s.err .cycle 0 0x0151 s.slate.cut.code R.CYCLE_CUT_CYCLE
  else if cycDiff x (k + 3) < 0 then s.err .cycle 0 0x0150 0 (k % 2 ^ 32)
  else
    let s1 := (s.modSlate fun t => { t with x }).setCut .armed
    if s1.slate.check = .none ∨ s1.slate.check = .fail then s1.startCheck else s1

/-- CHECK of SLATE_CTRL (R110, R119). -/
def State.slateCheck (s : State) : State :=
  if s.cutBusy then s.err .cycle 0 0x0151 s.slate.cut.code R.CYCLE_SLATE_CTRL
  else if s.slate.check = .running then s
  else s.startCheck

/-- CANCEL of SLATE_CTRL (R114). -/
def State.cutCancel (s : State) : State :=
  if s.slate.cut = .committed then s.err .cycle 0 0x0152 0 (s.slate.x % 2 ^ 32)
  else if s.slate.cut = .armed then s.setCut .cancelled
  else s.err .cycle 0 0x0151 s.slate.cut.code R.CYCLE_SLATE_CTRL

/-- The write of SLATE_CTRL (R119). -/
def State.writeSlateCtrl (s : State) (v : Word) : State :=
  if bit v 0 ∧ bit v 1 then s.err .cycle 0 errReserved 0 R.CYCLE_SLATE_CTRL
  else if bit v 0 then s.slateCheck
  else if bit v 1 then s.cutCancel
  else s

/-- ADOPT of NODE_CTRL (R81). -/
def State.adopt (s : State) : State :=
  if s.node.state ≠ .off ∧ s.node.state ≠ .listen then s.err .cycle 0 0x0140 s.node.state.code R.CYCLE_NODE_CTRL
  else if s.slate.adopt then s
  else
    let s1 := s.modSlate fun x => { x with adopt := true, adoptGo := x.check == .pass }
    if s1.slate.check = .none ∨ s1.slate.check = .fail then s1.startCheck else s1

/-- The switch of an ADOPT (R81). -/
def State.adoptSwitch (s : State) : State :=
  if !s.slate.adoptGo then s
  else match s.claimBlocked with
    | some (off, code) => s.adoptFails code off
    | none => (s.claimSlate.switchBanks none).modSlate fun x => { x with adopt := false, adoptGo := false }

end Sys2Proof.Machine
end

