-- ==== Sys2Proof/Machine/Guard.lean ====
section
/-! DEFINITION. The checks every register access passes before it acts (R26 to R28, R32 to R34, R325). -/

namespace Sys2Proof.Machine

open Sys2Proof

/-- A register of a unit that runs from reset release and accepts writes before FEAT_OK (R33, R325). -/
def earlyReg (k : PageKind) (po : Nat) : Bool :=
  match k with
  | .mgmt | .pwr | .sec => true
  | .global => po == 0x010 || po == 0x018 || 0x110 ≤ po
  | _ => false

/-- Registers of an access code that R32 refuses before FEAT_OK. -/
def Acc.held : Acc → Bool
  | .rw | .rws | .rwc | .ctr => true
  | _ => false

/-- A write to a register of page k that needs feature `feat` passes the common checks and acts as `f`, or is refused: before
FEAT_OK with NOT_READY (a register that only acts, in a block still in reset, does nothing), without its feature with
FEAT_NOT_ACCEPTED (R32, R34). While internal reset is held no core runs. -/
def State.guarded (s : State) (k : PageKind) (i po : Nat) (acc : Acc) (feat : Nat) (f : State → State) : State :=
  if s.pwr.held then s
  else if !s.featOk && !earlyReg k po then
    (if acc.held then s.err .global 0 errNotReady 0 (pageBase k i + po) else s)
  else if feat ≠ 0 && !s.feat feat then s.err k i errFeat feat po
  else f s

/-- A write to a read-only register does nothing, but is refused where the register's feature was not accepted (R34, R271, R320). -/
def State.roWrite (s : State) (k : PageKind) (i po feat : Nat) : State :=
  if s.pwr.held || !s.featOk || feat == 0 || s.feat feat then s else s.err k i errFeat feat po

/-- A write to a register of the map acts as `f` once it has passed the common checks. -/
def State.regWrite (s : State) (k : PageKind) (i po : Nat) (f : State → State) : State :=
  match findRow k po with
  | some (r, _) => s.guarded k i po r.acc r.feat f
  | none => s

/-- A write of a value to a register of the map acts as `f` on the bits that the register's fields take (R6). -/
def State.regWriteV (s : State) (k : PageKind) (i po : Nat) (v : Word) (f : State → Word → State) : State :=
  match findRow k po with
  | some (r, _) => s.guarded k i po r.acc r.feat fun t => f t (v &&& wd r.mask)
  | none => s

/-- A write to a register of a page's header that is read and written. -/
def State.hdrWrite (s : State) (k : PageKind) (i po : Nat) (f : State → State) : State := s.guarded k i po .rw 0 f

/-- A read of a register acts as `f` (R34, R73, R76): a register of a feature that was not accepted answers its reset value and does
nothing else. The answer goes to core 0, for a command that names no core. -/
def State.regRead (s : State) (k : PageKind) (po : Nat) (f : State → State) : State :=
  match findRow k po with
  | some (r, _) =>
    if s.pwr.held then s else if r.feat ≠ 0 && !s.feat r.feat then s.out (.readData 0 (resetOf k po)) else f s
  | none => s

end Sys2Proof.Machine
end

