-- ==== Sys2Proof/Machine/Fault.lean ====
section
/-! DEFINITION. Outgoing FAULT frames and fault aggregation (R193, R311 to R316, R320), and the latent test that reports (R174). -/

namespace Sys2Proof.Machine

open Sys2Proof

/-! Outgoing reports. -/

/-- Change the fault block. -/
def State.modFault (s : State) (f : FaultSt → FaultSt) : State := { s with fault := f s.fault }

/-- A FAULT addressed to this node enters the report queue, or is discarded (R314, R316). -/
def State.faultIn (s : State) (r : FaultReport) : State :=
  if !(s.hdr .fault 0).enable || !s.fault.ready then s.count .fault 0 R.FAULT_RX_NOT_READY
  else if 2048 ≤ s.fault.queue.length then (s.count .fault 0 R.FAULT_AGG_QUEUE_FULL).raise 0x021 0 2
  else s.modFault fun f => { f with queue := f.queue ++ [r] }

/-- Header of a FAULT frame (R186 to R188). -/
def State.faultHdr (s : State) (collector handle : Nat) : Hdr :=
  { typ := tFault, dst := collector, src := s.nodeId, handle, cycle := s.cycField }

/-- Send a report to the collector, or give it to this node's own aggregation (R313). A node in HALTED sends no frame (R93). -/
def State.sendReport (s : State) (r : FaultReport) : State :=
  let c := s.reg .fault 0 R.FAULT_TX_CFG
  let sent := fun (t : State) => t.count .fault 0 (if r.resolved then R.FAULT_TX_RESOLVED else R.FAULT_TX_SENT)
  let collector := fld c 15 0
  let handle := fld c 35 16
  if collector = s.nodeId then (sent s).faultIn r
  else if s.node.state = .halted then s
  else match s.live.genPorts handle with
    | none => s.count .fault 0 R.FAULT_TX_FAILED
    | some ports =>
      let t := s.replicate handle 6 tFault false (s.faultHdr collector handle) (faultBytes r) (fun _ => .own) true false none ports
      sent (ports.foldl State.arrived t)

/-- A report of this node. -/
def State.ownReport (s : State) (resolved : Bool) (x : LimSlot) : FaultReport :=
  { src := s.nodeId, state := b2n resolved, node := x.node, port := x.port, code := x.code, firstCycle := x.firstCycle, count := x.count,
    detail := x.detail }

/-- FAULT_REPEAT (R320). -/
def State.faultRepeat (s : State) : Nat := s.regF .fault 0 R.FAULT_CFG 23 0

/-- An occurrence of a (subject, code) key reaches the limiter (R311, R312). -/
def State.limit (s : State) (node port code detail : Nat) : State :=
  let now := s.time.cycle
  match s.fault.slots.find? fun x => x.node == node && x.port == port && x.code == code with
  | none =>
    if 1024 ≤ s.fault.slots.length then s.count .fault 0 R.FAULT_TX_NO_SLOT
    else
      let x : LimSlot := { node, port, code, firstCycle := now, count := 1, lastSend := now, lastOcc := now, detail }
      (s.modFault fun f => { f with slots := f.slots ++ [x] }).sendReport (s.ownReport false x)
  | some x =>
    let due := decide ((s.faultRepeat : Int) ≤ cycDiff now x.lastSend)
    let y := { x with count := x.count + 1, lastOcc := now, detail, lastSend := if due then now else x.lastSend }
    let s1 := s.modFault fun f => { f with slots := f.slots.map fun z => if z = x then y else z }
    if due then s1.sendReport (s.ownReport false y) else s1

/-- Report a condition as a fault when its code is enabled and its subject is known (R311). -/
def State.report (s : State) (code : Nat) (subject : Option (Nat × Nat)) (detail : Nat) : State :=
  if s.feat 22 && bit (s.reg .fault 0 R.FAULT_TX_CFG) 36 && bit (s.reg .fault 0 R.FAULT_TX_CODE_EN) code then
    match subject with
    | none => s.count .fault 0 R.FAULT_TX_NO_SUBJECT
    | some (n, p) => s.limit n p code (detail % 2 ^ 32)
  else s

/-- Partner node and port of a port's last completed hello (R134). -/
def State.partnerOf (s : State) (p : Nat) : Option (Nat × Nat) := (s.port p).link.partner.map fun x => (x.1, x.2.1)

/-- Partner node of a port, as a subject that is NODE_WIDE. -/
def State.partnerNode (s : State) (p : Nat) : Option (Nat × Nat) := (s.port p).link.partner.map fun x => (x.1, 0x400)

/-- Raise an alarm of a port whose fault is about the partner (R311). -/
def State.raisePort (s : State) (cls p detail code : Nat) : State :=
  (s.raise cls p detail).report code (s.partnerOf p) detail

/-- FAULT_RESOLVED_SEND: at a cycle start, every key whose last occurrence is FAULT_REPEAT cycles old is sent RESOLVED and its slot
is freed (R312). -/
def execFaultResolvedSend (s : State) : Host.Outcome State Fault Refusal :=
  let old := s.fault.slots.filter fun x => decide ((s.faultRepeat : Int) ≤ cycDiff s.time.cycle x.lastOcc)
  let s1 := s.modFault fun f => { f with slots := f.slots.filter fun x => !old.contains x }
  .next (old.foldl (fun t x => t.sendReport (t.ownReport true x)) s1)

/-- SEND of SW_CTRL (R313). -/
def State.faultSend (s : State) : State :=
  let a := s.reg .fault 0 R.FAULT_SW_FAULT0
  let b := s.reg .fault 0 R.FAULT_SW_FAULT1
  s.sendReport { src := s.nodeId, state := fld a 55 48, node := fld a 15 0,
                 port := if bit a 26 then 0x400 else fld a 25 16, code := fld a 47 32, firstCycle := s.time.cycle,
                 count := fld b 31 0, detail := fld b 63 32 }

/-- The write of SW_CTRL. -/
def State.writeFaultSw (s : State) (v : Word) : State := if bit v 0 then s.faultSend else s

/-- FAULT_SW_SEND: a write of FAULT.SW_CTRL.SEND (R313). -/
def execFaultSwSend (s : State) : Host.Outcome State Fault Refusal :=
  .next (s.regWrite .fault 0 R.FAULT_SW_CTRL State.faultSend)

/-! Aggregation. -/

/-- Address of the byte of entry e's reporter bitmap that holds node n's bit (R315). -/
def State.repAddr (s : State) (e n : Nat) : Nat := s.regF .fault 0 R.FAULT_REPORTER_BASE 47 0 + e * 0x2000 + n / 8

/-- The byte of entry e's bitmap that holds node n's bit, as the aggregator reads it. -/
def State.repByte (s : State) (e n : Nat) : State × Nat :=
  let r := s.load (s.repAddr e n) 1
  (r.1, ofLe r.2)

/-- Set or clear node n's bit in the byte of entry e's bitmap that has been read. -/
def State.setRepBit (s : State) (e n old : Nat) (on : Bool) : State :=
  s.store (s.repAddr e n) [BitVec.ofNat 8 (setFld (wd old) (n % 8) (n % 8) (b2n on)).toNat]

/-- Clear entry e's bitmap. -/
def State.clearReps (s : State) (e : Nat) : State := s.storeZero (s.repAddr e 0) 0x2000

/-- The entry for a key. -/
def State.faultKey (s : State) (r : FaultReport) : Option Nat :=
  (s.fault.entries.find? fun x => x.2.node == r.node && x.2.port == r.port && x.2.code == r.code).map Prod.fst

/-- The resolved entry whose last report is oldest, the lowest of those (R314). -/
def State.oldestResolved (s : State) : Option Nat :=
  (s.fault.entries.filter fun x => x.2.active == 0).foldl (fun (best : Option (Nat × Int)) x =>
    let age := cycDiff s.time.cycle x.2.lastCycle
    match best with
    | some (_, b) => if b < age then some (x.1, age) else best
    | none => some (x.1, age)) none |>.map Prod.fst

/-- Set an entry of the table. -/
def State.setEntry (s : State) (e : Nat) (x : FaultEntry) : State :=
  s.modFault fun f => { f with entries := smSet f.entries e x,
                               changed := f.changed || s.regF .fault 0 R.FAULT_ENTRY_SEL 11 0 == e }

/-- Open an entry for a report (R314). -/
def State.openEntry (s : State) (e : Nat) (r : FaultReport) : State :=
  ((s.setEntry e { node := r.node, port := r.port, code := r.code, reports := 0, active := 0, raises := 0, firstRep := r.src,
                   firstCycle := r.firstCycle, lastRep := r.src, lastCycle := s.time.cycle, firstDetail := r.detail,
                   lastDetail := r.detail, stale := false }).count .fault 0 R.FAULT_ENTRIES_OPENED).raise 0x020 r.code e

/-- A report updates its entry (R314, R315). -/
def State.updateEntry (s : State) (e : Nat) (r : FaultReport) : State :=
  match smFind s.fault.entries e with
  | none => s
  | some x =>
    let b := s.repByte e r.src
    let was := nbit b.2 (r.src % 8)
    let x1 := { x with reports := x.reports + 1, lastRep := r.src, lastCycle := s.time.cycle, lastDetail := r.detail, stale := false }
    if !r.resolved && !was then
      (b.1.setRepBit e r.src b.2 true).setEntry e { x1 with active := x.active + 1, raises := min (x.raises + 1) 0xFFFFFFFF }
    else if r.resolved && was then (b.1.setRepBit e r.src b.2 false).setEntry e { x1 with active := x.active - 1 }
    else b.1.setEntry e x1

/-- The aggregator handles one report (R314). -/
def State.aggregate (s : State) (r : FaultReport) : State :=
  let s1 := s.count .fault 0 R.FAULT_RX_REPORTS
  let s2 := if 0x000C ≤ r.code ∧ r.code ≤ 0x7FFF then s1.count .fault 0 R.FAULT_RX_UNKNOWN_CODE else s1
  match s2.faultKey r with
  | some e => s2.updateEntry e r
  | none =>
    if r.resolved then s2.count .fault 0 R.FAULT_RX_RESOLVED_UNKNOWN
    else match lowest 4096 fun i => (smFind s2.fault.entries i).isNone with
      | some e => (s2.openEntry e r).updateEntry e r
      | none =>
        match s2.oldestResolved with
        | some e => ((s2.count .fault 0 R.FAULT_ENTRIES_REUSED).openEntry e r).updateEntry e r
        | none => (s2.count .fault 0 R.FAULT_AGG_OVERFLOWS).raise 0x021 0 1

/-- FAULT_AGGREGATE: the aggregator takes one report from its queue (R314). -/
def execFaultAggregate (s : State) : Host.Outcome State Fault Refusal :=
  match s.fault.queue with
  | [] => .next s
  | r :: rest => if s.fault.ready then .next ((s.modFault fun f => { f with queue := rest }).aggregate r) else .next s

/-- FAULT_STALE: at a cycle start, every raising entry with no report for STALE_CYCLES is made resolved (R315). -/
def execFaultStale (s : State) : Host.Outcome State Fault Refusal :=
  let n := s.regF .fault 0 R.FAULT_AGG_CFG 23 0
  let old := s.fault.entries.filter fun x =>
    n != 0 && x.2.active != 0 && decide ((n : Int) ≤ cycDiff s.time.cycle x.2.lastCycle)
  .next (old.foldl (fun t x => (t.clearReps x.1).modFault fun f =>
    { f with entries := smSet f.entries x.1 { x.2 with active := 0, stale := true } }) s)

/-- VIEW_KEY to VIEW_DETAIL of an entry (R320). -/
def faultView : Option FaultEntry → List Word
  | none => [0, 0, 0, 0, 0, 0]
  | some x =>
    [wd (x.node + (if x.port = 0x400 then 2 ^ 26 else x.port % 1024 * 2 ^ 16) + x.code * 2 ^ 32 + 2 ^ 48
        + b2n (x.active = 0) * 2 ^ 49 + b2n x.stale * 2 ^ 50),
     wd (x.reports % 2 ^ 48), wd (x.active + x.raises * 2 ^ 32), wd (x.firstRep + x.firstCycle * 2 ^ 16),
     wd (x.lastRep + x.lastCycle * 2 ^ 16), wd (x.firstDetail + x.lastDetail * 2 ^ 32)]

/-- The write of ENTRY_SEL captures the entry (R310, R315). -/
def State.writeEntrySel (s : State) (v : Word) : State :=
  let e := fld v 11 0
  (s.setReg .fault 0 R.FAULT_ENTRY_SEL (wd e)).modFault fun f =>
    { f with view := faultView (smFind f.entries e), changed := false }

/-- RELEASE of ENTRY_CTRL (R315). -/
def State.faultRelease (s : State) : State :=
  let e := s.regF .fault 0 R.FAULT_ENTRY_SEL 11 0
  match smFind s.fault.entries e with
  | none => s.err .fault 0 0x01C3 e 0
  | some _ =>
    if s.fault.changed then s.err .fault 0 0x01C2 e 0
    else (s.clearReps e).modFault fun f => { f with entries := smErase f.entries e }

/-- The write of ENTRY_CTRL. -/
def State.writeEntryCtrl (s : State) (v : Word) : State := if bit v 0 then s.faultRelease else s

/-- ENTRY_SEL: a write of FAULT.ENTRY_SEL (R315). A view selector needs no feature (R320). -/
def execEntrySel (value : BitVec 32) (s : State) : Host.Outcome State Fault Refusal :=
  .next (s.guarded .fault 0 R.FAULT_ENTRY_SEL .rw 0 fun t => t.writeEntrySel (wd value.toNat))

/-- FAULT_RELEASE: a write of FAULT.ENTRY_CTRL.RELEASE (R315). -/
def execFaultRelease (s : State) : Host.Outcome State Fault Refusal :=
  .next (s.regWrite .fault 0 R.FAULT_ENTRY_CTRL State.faultRelease)

/-- The bitmap area fits: it lies wholly in staging memory or wholly in LPDDR, trained or not (R316). -/
def State.repAreaOk (s : State) : Bool :=
  let b := s.regF .fault 0 R.FAULT_REPORTER_BASE 47 0
  b % 2 ^ 25 == 0 && (inStaging b (2 ^ 25) || inLpddr b (2 ^ 25))

/-- CTRL.ENABLE of the FAULT page is written (R316). -/
def State.faultEnable (s : State) (on : Bool) : State :=
  let was := (s.hdr .fault 0).enable
  if on && !was then
    if s.repAreaOk then
      (s.modHdr .fault 0 fun h => { h with enable := true }).modFault fun f => { f with entries := [], ready := false }
    else s.refuseEnable .fault 0 0x01C4 0 0x018
  else if !on && was then (s.modHdr .fault 0 fun h => { h with enable := false }).modFault fun f => { f with ready := false }
  else s

/-- FAULT_ENABLE: a write of 1 to FAULT.CTRL.ENABLE (R316). -/
def execFaultEnable (s : State) : Host.Outcome State Fault Refusal :=
  .next (s.guarded .fault 0 0x018 .rw 22 fun t => t.faultEnable true)

/-- FAULT_READY: the bitmaps have been cleared (R316). -/
def execFaultReady (s : State) : Host.Outcome State Fault Refusal :=
  if (s.hdr .fault 0).enable && !s.fault.ready then
    .next ((s.storeZero (s.repAddr 0 0) (2 ^ 25)).modFault fun f => { f with ready := true })
  else .next s

/-- Writes of the FAULT page's registers that may be refused (R320). -/
def State.writeFault (s : State) (po : Nat) (v : Word) : State :=
  if po = R.FAULT_CFG ∧ fld v 23 0 = 0 then s.err .fault 0 errReserved 0 po
  else if po = R.FAULT_LATE_BURST ∧ fld v 15 0 = 0 then s.err .fault 0 errReserved 0 po
  else if po = R.FAULT_REPORTER_BASE ∧ (s.hdr .fault 0).enable then s.err .fault 0 0x01C5 0 po
  else s.setReg .fault 0 po v

/-! Alarms with a report that other files raise, and the latent test. -/

/-- A landing-zone rejection, reported for a new pair (R210, R311). -/
def State.rejectReport (s : State) (src zone chk : Nat) : State :=
  let r := s.reject src zone chk
  if r.2 then r.1.report 0x0009 (some (src, 0x400)) zone else r.1

/-- LATENT_TEST: the latent test of an entry at a cycle start that is a multiple of its period (R174). -/
def execLatentTest (r : Fin 32768) (s : State) : Host.Outcome State Fault Refusal :=
  if s.time.hasCycle then
    match s.rcLatentTest r with
    | (t, none) => .next t
    | (t, some d) => .next ((t.raise 0x018 r d).report 0x000A ((t.rc r).lastSrc.map fun n => (n, 0x400)) r)
  else .next s

end Sys2Proof.Machine
end

