-- ==== Sys2Proof/Machine/Alarm.lean ====
section
/-! DEFINITION. The reel (R302 to R306, R318) and the alarm table (R307 to R310, R319). -/

namespace Sys2Proof.Machine

open Sys2Proof

/-! The reel. -/

/-- Change the reel. -/
def State.modTrace (s : State) (f : TraceSt → TraceSt) : State := { s with trace := f s.trace }

/-- Each source gains RATE tokens at a time-distribution pulse, up to BURST (R303). -/
def State.refill (s : State) : State :=
  s.modTrace fun t => { t with srcs := t.srcs.map fun x =>
    let w := s.reg .trace 0 (R.TRACE_SRC_RATE + 16 * x.1)
    (x.1, { x.2 with tokens := min (fld w 31 16) (x.2.tokens + fld w 15 0) }) }

/-- Slots of the ring (R304). -/
def State.reelSlots (s : State) : Nat := 2 ^ s.regF .trace 0 R.TRACE_RING_CFG 4 0

/-- Free slots of the ring: F (R304). Until LPDDR is trained the ring takes nothing (R344, log entry 46). -/
def State.reelFree (s : State) : Nat :=
  if !s.ddr.trained then 0
  else s.reelSlots - (s.regF .trace 0 R.TRACE_RING_TAIL 31 0 + 2 ^ 32 - s.regF .trace 0 R.TRACE_RING_HEAD 31 0) % 2 ^ 32

/-- Bytes of a record (R306). -/
def recBytes (r : TraceRec) : List Byte :=
  leBytes 8 (r.time % 2 ^ 48 + r.source * 2 ^ 48 + b2n r.suspect * 2 ^ 55 + r.kind * 2 ^ 56) ++ leBytes 8 r.w1.toNat ++
    leBytes 8 r.w2.toNat ++ leBytes 8 r.w3.toNat

/-- Write a record into the ring: TAIL advances (R304). -/
def State.putRec (s : State) (r : TraceRec) (ctr : Nat) : State :=
  let t := s.regF .trace 0 R.TRACE_RING_TAIL 31 0
  let a := s.regF .trace 0 R.TRACE_RING_BASE 47 0 + t % s.reelSlots * 32
  ((s.store a (recBytes r)).setReg .trace 0 R.TRACE_RING_TAIL (wd ((t + 1) % 2 ^ 32))).count .trace 0 ctr

/-- The sources with a GAP pending, lowest first (R305). -/
def State.gaps (s : State) : List Nat :=
  (s.trace.srcs.filter fun x => decide (0 < x.2.lostRate + x.2.lostSpace)).map Prod.fst

/-- Write the GAP of a source (R305, R306). -/
def State.putGap (s : State) (src : Nat) : State :=
  let x := s.src src
  let r : TraceRec := { time := s.recTime (srcIsland src) s.nowFrac, source := src, suspect := !(s.replica (srcIsland src)).valid,
                        kind := 0x0A, w1 := wd x.lostRate, w2 := wd x.lostSpace, w3 := wd x.firstLoss }
  (s.putRec r R.TRACE_GAPS_WRITTEN).modSrc src fun x => { x with lostRate := 0, lostSpace := 0, firstLoss := 0 }

/-- ALARM_RESERVE. -/
def State.reserve (s : State) : Nat := s.regF .trace 0 R.TRACE_RING_CFG 31 16

/-- The reel writer takes an ALARM record: step 1 of R304. -/
def State.reelAlarm (s : State) (r : TraceRec) : State :=
  if s.reelFree = 0 then s.count .trace 0 R.TRACE_ALARM_RECORDS_LOST else s.putRec r R.TRACE_ALARM_RECORDS

/-- The reel writer takes a trace record, or drops it and counts it toward its source's GAP: step 3 of R304. -/
def State.reelTrace (s : State) (r : TraceRec) : State :=
  if s.reserve + s.gaps.length < s.reelFree then s.putRec r R.TRACE_RECORDS_WRITTEN else s.loseRec r.source true

/-- The oldest trace record of the FIFO is taken. -/
def State.reelNext (s : State) : State :=
  match s.trace.fifo with
  | r :: rest => (s.modTrace fun t => { t with fifo := rest }).reelTrace r
  | [] => s

/-- REEL_WRITE: the reel writer takes its next record: an ALARM record, else a pending GAP, else a trace record (R304). -/
def execReelWrite (s : State) : Host.Outcome State Fault Refusal :=
  if !(s.hdr .trace 0).enable then .next s
  else match s.trace.alarms, s.gaps with
    | a :: rest, _ => .next ((s.modTrace fun t => { t with alarms := rest }).reelAlarm a)
    | [], g :: _ => .next (if s.reserve < s.reelFree then s.putGap g else s.reelNext)
    | [], [] => .next s.reelNext

/-- The records that the FIFO holds when TRACE is disabled are written or counted as lost (R305, R317; log entry 86). -/
def State.reelDrain (s : State) : State :=
  let t := s.modTrace fun t => { t with fifo := [], alarms := [] }
  s.trace.fifo.foldl State.reelTrace (s.trace.alarms.foldl State.reelAlarm t)

/-- EMIT of SW_CTRL produces a SW record (R302, R306). -/
def State.emit (s : State) : State :=
  s.traceAt 68 none none none s.nowFrac 0x07 (s.reg .trace 0 R.TRACE_SW_WORD) (s.reg .trace 0 (R.TRACE_SW_WORD + 8))
    (s.reg .trace 0 (R.TRACE_SW_WORD + 16))

/-- The write of TRACE.SW_CTRL. -/
def State.writeTraceSw (s : State) (v : Word) : State := if bit v 0 then s.emit else s

/-- EMIT: a write of TRACE.SW_CTRL.EMIT (R302). -/
def execEmit (s : State) : Host.Outcome State Fault Refusal := .next (s.regWrite .trace 0 R.TRACE_SW_CTRL State.emit)

/-- A head register of a ring whose positions are 32-bit counts is written (R293, R304). -/
def State.writeHead32 (s : State) (k : PageKind) (head tail code : Nat) (v : Word) : State :=
  let h := fld v 31 0
  let old := s.regF k 0 head 31 0
  let t := s.regF k 0 tail 31 0
  if (h + 2 ^ 32 - old) % 2 ^ 32 ≤ (t + 2 ^ 32 - old) % 2 ^ 32 then s.setReg k 0 head (wd h) else s.err k 0 code 0 h

/-- The write of TRACE.RING_HEAD (R304). -/
def State.writeTraceHead (s : State) (v : Word) : State := s.writeHead32 .trace R.TRACE_RING_HEAD R.TRACE_RING_TAIL 0x01C6 v

/-- TRACE_RING_HEAD: a write of TRACE.RING_HEAD (R304). -/
def execTraceRingHead (value : BitVec 32) (s : State) : Host.Outcome State Fault Refusal :=
  .next (s.regWriteV .trace 0 R.TRACE_RING_HEAD (wd value.toNat) State.writeTraceHead)

/-- The ring's settings are good (R318). -/
def State.reelCfgOk (s : State) : Bool :=
  let b := s.regF .trace 0 R.TRACE_RING_BASE 47 0
  let n := s.reelSlots * 32
  b % n == 0 && inLpddr b n && decide (s.regF .trace 0 R.TRACE_RING_CFG 31 16 < s.reelSlots / 2)

/-- CTRL.ENABLE of the TRACE page is written (R318). A source that is enabled starts with a full bucket (R303). -/
def State.traceEnable (s : State) (on : Bool) : State :=
  let was := (s.hdr .trace 0).enable
  if on && !was then
    if s.reelCfgOk then
      (((s.modHdr .trace 0 fun h => { h with enable := true }).setReg .trace 0 R.TRACE_RING_HEAD 0).setReg .trace 0
        R.TRACE_RING_TAIL 0)
    else s.refuseEnable .trace 0 0x01C7 0 0x018
  else if !on && was then
    -- pending counts appear only in the LOST counters (R305)
    (s.reelDrain.modHdr .trace 0 fun h => { h with enable := false }).modTrace fun t =>
      { t with srcs := t.srcs.map fun x => (x.1, { x.2 with lostRate := 0, lostSpace := 0, firstLoss := 0 }) }
  else s

/-- TRACE_ENABLE: a write of 1 to TRACE.CTRL.ENABLE (R318). -/
def execTraceEnable (s : State) : Host.Outcome State Fault Refusal :=
  .next (s.guarded .trace 0 0x018 .rw 21 fun t => t.traceEnable true)

/-- Writes of the TRACE page's settings (R303, R318). -/
def State.writeTrace (s : State) (po : Nat) (v : Word) : State :=
  if po = R.TRACE_RING_BASE ∧ (s.hdr .trace 0).enable then s.err .trace 0 0x01C8 0 po
  else if po = R.TRACE_RING_CFG ∧ (s.hdr .trace 0).enable then s.err .trace 0 0x01C8 0 po
  else if po = R.TRACE_RING_CFG ∧ (fld v 4 0 < 10 ∨ 26 < fld v 4 0) then s.err .trace 0 errReserved 0 po
  else if R.TRACE_SRC_FILTER ≤ po ∧ po < R.TRACE_SRC_FILTER + 16 * 69 then
    let src := (po - R.TRACE_SRC_FILTER) / 16
    if po % 16 = R.TRACE_SRC_RATE % 16 then
      (if fld v 15 0 = 0 then s.err .trace 0 errReserved 0 po
       else if fld v 31 16 = 0 then s.err .trace 0 errReserved 16 po
       else s.setReg .trace 0 po v)
    else
      let old := s.reg .trace 0 po
      let full := s.regF .trace 0 (R.TRACE_SRC_RATE + 16 * src) 31 16
      let s1 := s.setReg .trace 0 po v
      if bit v 0 && !bit old 0 then s1.modSrc src fun x => { x with tokens := full } else s1
  else s.setReg .trace 0 po v

/-! Alarms. -/

/-- Change the alarm path and table. -/
def State.modAlarm (s : State) (f : AlarmSt → AlarmSt) : State := { s with alarm := f s.alarm }

/-- Severity of a class: 0 Info, 1 Warning, 2 Error, 3 Fatal (table of alarm classes). -/
def severity (cls : Nat) : Nat :=
  if cls = 0x00A ∨ cls = 0x025 then 3
  else if [0x001, 0x002, 0x008, 0x009, 0x00B, 0x00E, 0x00F, 0x013, 0x014, 0x018, 0x019, 0x01C, 0x021, 0x022, 0x023, 0x024].contains
    cls then 2
  else 1

/-- The key that holds an occurrence's class and source. -/
def State.alarmKey (s : State) (cls source : Nat) : Option Nat :=
  (s.alarm.keys.find? fun x => x.1 < 1023 && x.2.cls == cls && x.2.source == source).map Prod.fst

/-- A key notifies (R309). -/
def State.notifyKey (s : State) (i : Nat) (opened : Bool) : State :=
  match smFind s.alarm.keys i with
  | none => s
  | some k =>
    let ns := s.nowNs
    let s1 := (s.modAlarm fun a => { a with keys := smSet a.keys i { k with notified := true, notifyNs := some ns } }).cause .alarm 0 16
    let s2 := if k.sev = 3 then s1.cause .alarm 0 17 else s1
    let s3 := s2.count .alarm 0 R.ALARM_NOTIFICATIONS
    if (s3.hdr .alarm 0).enable ∧ (s3.hdr .trace 0).enable then
      s3.modTrace fun t => { t with alarms := t.alarms ++
        [{ time := s.nowFrac / 2 ^ 12 % 2 ^ 48, source := 127, suspect := !(s.replica 64).valid, kind := 0x09,
           w1 := wd (k.cls + k.source % 2 ^ 20 * 2 ^ 12 + i * 2 ^ 32 + k.sev * 2 ^ 42 + b2n opened * 2 ^ 44 + b2n (k.sev = 3) * 2 ^ 45),
           w2 := wd k.count, w3 := wd k.lastDetail }] }
    else s3

/-- A key has taken an occurrence: it notifies when R309 says so. -/
def State.keyTook (s : State) (i : Nat) (opened : Bool) : State :=
  match smFind s.alarm.keys i with
  | none => s
  | some k =>
    let c := s.reg .alarm 0 R.ALARM_CFG
    let due := opened || k.sev == 3 || (match k.notifyNs with
      | some t => decide (t + fld c 19 0 * 1000 ≤ s.nowNs)
      | none => true)
    let s1 := if s.regF .alarm 0 R.ALARM_KEY_SEL 9 0 = i then s.modAlarm fun a => { a with changed := true } else s
    if due && nbit (fld c 27 24) k.sev then s1.notifyKey i opened else s1

/-- A key after an occurrence (R308). -/
def AlarmKey.took (k : AlarmKey) (o : Occ) (detail : Nat) : AlarmKey :=
  { k with count := min (k.count + o.count) (2 ^ 48 - 1), lastNs := o.ns, lastDetail := detail }

/-- A key opened by an occurrence (R308). -/
def openKey (o : Occ) (cls source detail sev : Nat) : AlarmKey :=
  { cls, source, sev, count := o.count, firstNs := o.ns, lastNs := o.ns, firstDetail := detail, lastDetail := detail,
    notified := false, notifyNs := none }

/-- Set a key of the table. -/
def State.setKey (s : State) (i : Nat) (k : AlarmKey) : State := s.modAlarm fun a => { a with keys := smSet a.keys i k }

/-- A key takes an occurrence, or opens with it (R308). -/
def State.keyTake (s : State) (i : Nat) (o : Occ) (cls source detail sev : Nat) : State :=
  match smFind s.alarm.keys i with
  | some k => (s.setKey i (k.took o detail)).keyTook i false
  | none => ((s.setKey i (openKey o cls source detail sev)).count .alarm 0 R.ALARM_KEYS_OPENED).keyTook i true

/-- The table applies an occurrence (R308). -/
def State.applyOcc (s : State) (o : Occ) : State :=
  let s1 := s.countN .alarm 0 R.ALARM_OCCURRENCES o.count
  match s1.alarmKey o.cls o.source with
  | some i => s1.keyTake i o o.cls o.source o.detail (severity o.cls)
  | none =>
    match lowest 1023 fun i => (smFind s1.alarm.keys i).isNone with
    | some i => s1.keyTake i o o.cls o.source o.detail (severity o.cls)
    | none =>
      (s1.countN .alarm 0 R.ALARM_OVERFLOW_OCCURRENCES o.count).keyTake 1023 o 0x022 0 (o.cls + o.source % 2 ^ 20 * 2 ^ 12)
        (severity 0x022)

/-- ALARM_APPLY: the alarm path takes up to four pending occurrences, in the order of their units (R307, R308); none before FEAT_OK
(R309). -/
def execAlarmApply (s : State) : Host.Outcome State Fault Refusal :=
  if !s.featOk then .next s
  else
    let l := sortBy Occ.unit s.alarm.pend
    .next ((l.take 4).foldl State.applyOcc (s.modAlarm fun a => { a with pend := l.drop 4 }))

/-- VIEW_KEY to VIEW_NOTIFY_NS of a key (R319). -/
def alarmView : Option AlarmKey → List Word
  | none => [0, 0, 0, 0, 0, 0]
  | some k =>
    [wd (k.cls + k.source % 2 ^ 20 * 2 ^ 12 + k.sev * 2 ^ 32 + 2 ^ 34), wd k.count, wd k.firstNs, wd k.lastNs,
     wd (k.firstDetail + k.lastDetail * 2 ^ 32), wd (k.notifyNs.getD 0)]

/-- The write of KEY_SEL captures the key (R310). -/
def State.writeKeySel (s : State) (v : Word) : State :=
  let i := fld v 9 0
  (s.setReg .alarm 0 R.ALARM_KEY_SEL (wd i)).modAlarm fun a => { a with view := alarmView (smFind a.keys i), changed := false }

/-- KEY_SEL: a write of ALARM.KEY_SEL (R310). -/
def execKeySel (value : BitVec 32) (s : State) : Host.Outcome State Fault Refusal :=
  .next (s.regWriteV .alarm 0 R.ALARM_KEY_SEL (wd value.toNat) State.writeKeySel)

/-- RELEASE of KEY_CTRL (R310). -/
def State.alarmRelease (s : State) : State :=
  let i := s.regF .alarm 0 R.ALARM_KEY_SEL 9 0
  match smFind s.alarm.keys i with
  | none => (s.err .alarm 0 0x01C1 i R.ALARM_KEY_CTRL).count .alarm 0 R.ALARM_RELEASES_REFUSED
  | some _ =>
    if s.alarm.changed then (s.err .alarm 0 0x01C0 i R.ALARM_KEY_CTRL).count .alarm 0 R.ALARM_RELEASES_REFUSED
    else s.modAlarm fun a => { a with keys := smErase a.keys i }

/-- The write of KEY_CTRL. -/
def State.writeKeyCtrl (s : State) (v : Word) : State := if bit v 0 then s.alarmRelease else s

/-- ALARM_RELEASE: a write of ALARM.KEY_CTRL.RELEASE (R310). -/
def execAlarmRelease (s : State) : Host.Outcome State Fault Refusal :=
  .next (s.regWrite .alarm 0 R.ALARM_KEY_CTRL State.alarmRelease)

/-- Writes of the ALARM page's other registers (R319): CFG, and PENDING_MAP, whose bits a 1 clears. -/
def State.writeAlarm (s : State) (po : Nat) (v : Word) : State :=
  if po = R.ALARM_CFG then
    if fld v 19 0 = 0 ∨ 1000000 < fld v 19 0 then s.err .alarm 0 errReserved 0 po else s.setReg .alarm 0 po v
  else if R.ALARM_PENDING_MAP ≤ po ∧ po < R.ALARM_PENDING_MAP + 128 then
    let w := (po - R.ALARM_PENDING_MAP) / 8
    s.modAlarm fun a => { a with keys := a.keys.map fun x =>
      (x.1, if x.1 / 64 = w ∧ bit v (x.1 % 64) then { x.2 with notified := false } else x.2) }
  else s.setReg .alarm 0 po v

end Sys2Proof.Machine
end

