-- ==== Sys2Proof/Machine/Cores.lean ====
section
/-! DEFINITION. Harts, the machine and supervisor timers and the interrupt router (R30, R323 to R328, R335). -/

namespace Sys2Proof.Machine

open Sys2Proof

/-! Interrupt levels (R29, R30). -/

/-- A page drives its interrupt (R29). -/
def PageHdr.driven (h : PageHdr) : Bool := h.intCause &&& h.intEnable != 0

/-- The page with a header at a page number drives its interrupt, for the pages that pass a test (R30). -/
def State.anyDriven (s : State) (p : PageRef → Bool) : Bool :=
  s.pages.any fun x => x.2.driven && (match pageAt (x.1 * 0x1000) with | some (r, _) => p r | none => false)

/-- Bit n of GLOBAL.INT_SUMMARY (R30). -/
def State.intLevel (s : State) (n : Nat) : Bool := s.anyDriven fun r => blockType r.kind == n

/-- Bit g of GLOBAL.INT_PGRP_SUMMARY (R30). -/
def State.grpLevel (s : State) (g : Nat) : Bool :=
  s.anyDriven fun r => (r.kind == .pgrp && r.inst == g) || (r.kind == .port && r.inst / 16 == g)

/-- GLOBAL.INT_SUMMARY, GLOBAL.INT_PGRP_SUMMARY and PGRP.PORT_INT_SUMMARY (R30). -/
def State.intSummary (s : State) : Word := wd (((List.range 0x23).map fun n => b2n (s.intLevel n) * 2 ^ n).sum)
def State.grpSummary (s : State) : Word := wd (((List.range 64).map fun g => b2n (s.grpLevel g) * 2 ^ g).sum)
def State.portSummary (s : State) (g : Nat) : Word :=
  wd (((List.range 16).map fun i => b2n (s.hdr .port (16 * g + i)).driven * 2 ^ i).sum)

/-! The interrupt router. -/

/-- Source j stands for a bit that exists (R327). -/
def srcAssigned (j : Nat) : Bool := 64 ≤ j || (1 ≤ j && singlePages.any (fun k => blockType k == j)) || j == 0x20 || j == 0x21 || j == 0x22

/-- Level of source j (R327). -/
def State.srcLevel (s : State) (j : Nat) : Bool := if 64 ≤ j then s.grpLevel (j - 64) else srcAssigned j && s.intLevel j

/-- Identity of source j (R327). -/
def State.srcId (s : State) (j : Nat) : Nat := s.regF .global 0 (R.GLOBAL_IRQ_SRC + 4 * j) 10 0

/-- The router evaluates source j: it signals the identity and clears ARMED when the level is 1, the source is armed, the identity
is not 0 and its route is enabled (R327). -/
def State.evalSrc (s : State) (j : Nat) : State :=
  if s.srcLevel j && !s.core.disarmed.contains j && s.routed (s.srcId j) then
    ({ s with core := { s.core with disarmed := j :: s.core.disarmed } }).signal (s.srcId j)
  else s

/-- IRQ_SIGNAL: the router's evaluation of source j (R327). -/
def execIrqSignal (j : Fin 128) (s : State) : Host.Outcome State Fault Refusal := .next (if s.pwr.held then s else s.evalSrc j.val)

/-- The write of IRQ_REARM (R327). -/
def State.writeRearm (s : State) (v : Word) : State :=
  { s with core := { s.core with
      disarmed := if bit v 31 then [] else s.core.disarmed.filter fun j => j != fld v 6 0 } }

/-- IRQ_REARM: a write of GLOBAL.IRQ_REARM (R327). -/
def execIrqRearm (value : BitVec 32) (s : State) : Host.Outcome State Fault Refusal :=
  .next (s.regWriteV .global 0 R.GLOBAL_IRQ_REARM (value.setWidth 64) State.writeRearm)

/-- The write of IRQ_ROUTE_SEL: identity 0 is refused (R335). -/
def State.writeRouteSel (s : State) (v : Word) : State :=
  if fld v 10 0 = 0 then s.err .global 0 errReserved 0 R.GLOBAL_IRQ_ROUTE_SEL
  else s.setReg .global 0 R.GLOBAL_IRQ_ROUTE_SEL (wd (fld v 10 0))

/-- IRQ_ROUTE: the route of the identity that IRQ_ROUTE_SEL names (R326, R335). Until an identity is chosen it names none
(log entry 48). -/
def State.writeRoute (s : State) (v : Word) : State :=
  let i := s.regF .global 0 R.GLOBAL_IRQ_ROUTE_SEL 10 0
  if i = 0 then s else { s with core := { s.core with routes := smSet s.core.routes i (v.toNat % 2 ^ 8) } }
def State.readRoute (s : State) : Word := wd (s.route (s.regF .global 0 R.GLOBAL_IRQ_ROUTE_SEL 10 0))

/-- The write of IRQ_SRC[j]: a source that stands for no bit is refused (R327). -/
def State.writeIrqSrc (s : State) (j : Nat) (v : Word) : State :=
  let po := R.GLOBAL_IRQ_SRC + 4 * j
  if srcAssigned j then s.setReg .global 0 po (wd (fld v 10 0)) else s.err .global 0 errReserved 0 po

/-! Harts. -/

/-- First address of the boot ROM, and its size (R202, R324). -/
def bootRom : Nat := 0x00FF00000000
def bootRomSize : Nat := 2 ^ 18

/-- HART_ENTRY (R335). -/
def State.hartEntry (s : State) : Nat := s.regF .global 0 R.GLOBAL_HART_ENTRY 47 0

/-- HART_ENTRY keeps R324: a multiple of 4 in staging memory, LPDDR or the boot ROM. -/
def entryOk (a : Nat) : Bool := a % 4 == 0 && (memStaging a || memLpddr a || (bootRom ≤ a && decide (a < bootRom + bootRomSize)))

/-- START of HART_CTRL: release the cores named, or none (R324). -/
def State.hartStart (s : State) (mask : Nat) : State :=
  if mask = 0 then s
  else match lowest 16 fun h => nbit mask h && nbit s.core.released h with
    | some h => s.err .global 0 0x01D0 h R.GLOBAL_HART_CTRL
    | none =>
      if entryOk s.hartEntry then
        let s1 := { s with core := { s.core with released := s.core.released ||| mask % 2 ^ 16 } }
        { s1 with outs := s1.outs ++ (((List.range 16).filter fun h => nbit mask h).map fun h => Out.release h s.hartEntry) }
      else s.err .global 0 0x01D1 0 (s.hartEntry % 2 ^ 32)

/-- HART_START: a write of GLOBAL.HART_CTRL.START (R324). -/
def execHartStart (mask : BitVec 16) (s : State) : Host.Outcome State Fault Refusal :=
  .next (s.regWriteV .global 0 R.GLOBAL_HART_CTRL (mask.setWidth 64) fun t v => t.hartStart (fld v 15 0))

/-! Timers (R323). -/

/-- Instant of the hub's clock at which MTIME reaches a value (log entry 49). -/
def State.mtimeAt (s : State) (n : Nat) : Nat := s.core.mtime0 + n * (10 * wNs)

/-- MTIME (R323, log entry 49). -/
def State.mtime (s : State) : Nat := (s.time.now - s.core.mtime0) / (10 * wNs) % 2 ^ 64

/-- Core h takes a timer interrupt when MTIME has reached a compare value (R323). -/
def State.timerIrq (s : State) (h cmp : Nat) (supervisor : Bool) : State :=
  if s.pwr.held || !nbit s.core.released h then s else (s.atLeast (s.mtimeAt cmp)).out (.timerIrq h supervisor)

/-- MACHINE_TIMER_INTERRUPT: MTIME reaches MTIMECMP[h] (R323). -/
def execMachineTimerInterrupt (h : Fin 16) (s : State) : Host.Outcome State Fault Refusal :=
  .next (s.timerIrq h.val (s.reg .global 0 (R.GLOBAL_MTIMECMP + 8 * h.val)).toNat false)

/-- SUPERVISOR_TIMER_INTERRUPT: MTIME reaches stimecmp of core h (R323). -/
def execSupervisorTimerInterrupt (h : Fin 16) (s : State) : Host.Outcome State Fault Refusal :=
  .next (s.timerIrq h.val (smGet s.core.stimecmp h.val 0).toNat true)

/-! Registers of the GLOBAL page. -/

/-- The write of ETHERTYPE (R201). -/
def State.writeEtherType (s : State) (v : Word) : State :=
  let e := fld v 15 0
  if e < 0x0600 ∨ e = 0x8100 ∨ e = 0x8808 ∨ e = 0x88F7 ∨ e = 0xF1C1 then
    s.err .global 0 errReserved 0 R.GLOBAL_ETHERTYPE
  else s.setReg .global 0 R.GLOBAL_ETHERTYPE (wd e)

/-- A write to a register of the GLOBAL page of this chapter or to ETHERTYPE, once it has passed the common checks (R335). -/
def State.writeGlobal (s : State) (po : Nat) (v : Word) : State :=
  if po = R.GLOBAL_ETHERTYPE then s.writeEtherType v
  else if po = R.GLOBAL_IRQ_ROUTE_SEL then s.writeRouteSel v
  else if po = R.GLOBAL_IRQ_ROUTE then s.writeRoute v
  else if po = R.GLOBAL_IRQ_REARM then s.writeRearm v
  else if po = R.GLOBAL_HART_CTRL then s.hartStart (fld v 15 0)
  else if R.GLOBAL_IRQ_SRC ≤ po ∧ po < 0x400 then s.writeIrqSrc ((po - R.GLOBAL_IRQ_SRC) / 4) v
  else s.setReg .global 0 po v

/-- A read of a register of the GLOBAL page that is not held as a word. -/
def State.readGlobal (s : State) (po : Nat) : Option Word :=
  if po = R.GLOBAL_INT_SUMMARY then some s.intSummary
  else if po = R.GLOBAL_INT_PGRP_SUMMARY then some s.grpSummary
  else if po = R.GLOBAL_IRQ_ROUTE then some s.readRoute
  else if po = R.GLOBAL_HART_STATUS then some (wd s.core.released)
  else if po = R.GLOBAL_MTIME then some (wd s.mtime)
  else none

end Sys2Proof.Machine
end

