-- ==== Sys2Proof/Machine/Boot.lean ====
section
/-! DEFINITION. Secure boot and the fuses (R331 to R333, R337). -/

namespace Sys2Proof.Machine

open Sys2Proof

/-- Change the SEC state. -/
def State.modSec (s : State) (f : SecSt → SecSt) : State := { s with sec := f s.sec }

/-! The image header (R331). -/

def hdrSecVersion (h : List Byte) : Nat := leAt h 0x008 4
def hdrKeyIndex (h : List Byte) : Nat := leAt h 0x00C 4
def hdrLoad (h : List Byte) : Nat := leAt h 0x010 8
def hdrEntry (h : List Byte) : Nat := leAt h 0x018 8
def hdrBodyLen (h : List Byte) : Nat := leAt h 0x020 4
def hdrBytes (h : List Byte) (o n : Nat) : List Byte := (h.drop o).take n

/-- n bytes of the header from an offset are 0. -/
def hdrZero (h : List Byte) (o n : Nat) : Bool := (hdrBytes h o n).all fun b => b == 0

/-- MAGIC is right. -/
def magicOk (h : List Byte) : Bool := hdrBytes h 0 4 == [0x5A, 0x54, 0x58, 0x49]

/-- Every field after MAGIC keeps its rule, and the body stays in staging memory (R331, check 3 of R332). -/
def headerOk (h : List Byte) : Bool :=
  let load := hdrLoad h
  let entry := hdrEntry h
  let n := hdrBodyLen h
  leAt h 0x004 4 == 1 && decide (hdrSecVersion h ≤ 64) && decide (hdrKeyIndex h ≤ 3) && load % 4096 == 0
    && decide (64 ≤ n) && decide (n ≤ 16776704) && n % 64 == 0 && inStaging load n
    && decide (load ≤ entry) && decide (entry < load + n) && entry % 4 == 0
    && hdrZero h 0x024 4 && hdrZero h 0x058 40 && hdrBytes h 0x080 1 == [0x04] && hdrZero h 0x0E1 159 && hdrZero h 0x1E0 32

/-- The six words of a hash as the fuses hold it (R337). -/
def hashWords (d : List Byte) : List Word := (List.range 6).map fun i => wd (leAt d (8 * i) 8)

/-- The part is provisioned and the image's key is not a programmed, unrevoked one (check 4 of R332). -/
def SecSt.badKey (x : SecSt) (h : List Byte) : Bool :=
  let k := hdrKeyIndex h
  x.prov && (nth x.keys k none != some (hashWords (Config.sha384 (hdrBytes h 0x080 97))) || nth x.revoked k false)

/-- The signature verifies (check 5 of R332). -/
def sigOk (h : List Byte) : Bool :=
  Config.ecdsaP384 (hdrBytes h 0x080 97) (Config.sha384 (hdrBytes h 0 0x180)) (hdrBytes h 0x180 48) (hdrBytes h 0x1B0 48)

/-- The body of an image as the flash gives it. -/
def bodyOf (f : FlashSlot) : List Byte := f.body.take (hdrBodyLen f.header)

/-- Checks 1 to 6 of R332 in order: the code of the first that fails, or 0. A header that the flash does not give whole is a read
without an answer. -/
def SecSt.preCheck (x : SecSt) (f : FlashSlot) : Nat :=
  if !f.responds || decide (f.header.length < 512) then 1
  else if !magicOk f.header then 2
  else if !headerOk f.header then 3
  else if x.badKey f.header then 4
  else if !sigOk f.header then 5
  else if hdrSecVersion f.header < x.counter then 6
  else 0

/-- The code of a slot, after its body has been read when checks 1 to 6 pass (R332). -/
def SecSt.slotCode (x : SecSt) (f : FlashSlot) : Nat :=
  let c := x.preCheck f
  if c ≠ 0 then c
  else if f.body.length < hdrBodyLen f.header then 1
  else if Config.sha384 (bodyOf f) ≠ hdrBytes f.header 0x028 48 then 7
  else 0

/-- The boot ROM checks a slot: check 7 reads the body into staging memory at LOAD_ADDR (R332). -/
def State.trySlot (s : State) (f : FlashSlot) : State :=
  if s.sec.preCheck f = 0 then s.store (hdrLoad f.header) (bodyOf f) else s

/-- A slot that passes is started (R332). -/
def State.startSlot (s : State) (n : Nat) (f : FlashSlot) : State :=
  (s.modSec fun x => { x with done := true, slot := n, lock := x.prov }).out (.release 0 (hdrEntry f.header))

/-- BOOT: the boot ROM checks slot 0, then slot 1, and starts an image or asserts the alert pin (R332). It runs once after core 0
has been released. -/
def execBoot (slot0 slot1 : FlashSlot) (s : State) : Host.Outcome State Fault Refusal :=
  if s.pwr.held || !s.pwr.core0 || s.sec.done || s.sec.code1 != 0 then .next s
  else
    let s0 := (s.modSec fun x => { x with unprov := !x.prov, code0 := x.slotCode slot0 }).trySlot slot0
    if s0.sec.code0 = 0 then .next (s0.startSlot 0 slot0)
    else
      let s1 := (s0.modSec fun x => { x with code1 := x.slotCode slot1 }).trySlot slot1
      if s1.sec.code1 = 0 then .next (s1.startSlot 1 slot1)
      else .next ({ s1 with pwr := { s1.pwr with alert := true } }.out (.alertN false))

/-! Fuse operations (R333). -/

/-- A key holds a hash and is not revoked. -/
def SecSt.usable (x : SecSt) (k : Nat) : Bool := (nth x.keys k none).isSome && !nth x.revoked k false

/-- KEY_STAGE as a hash. -/
def State.keyStage (s : State) : List Word := (List.range 6).map fun i => s.reg .sec 0 (R.SEC_KEY_STAGE + 8 * i)

/-- The error code that refuses a fuse operation, or none (R333). FUSE_LOCKED comes first (log entry 50). -/
def SecSt.fuseBad (x : SecSt) (op k n : Nat) : Option Nat :=
  match op with
  | 1 => if x.lock then some 0x01F4 else if (nth x.keys k none).isSome then some 0x01F0 else none
  | 2 => if [0, 1, 2, 3].any fun j => j != k && x.usable j then none else some 0x01F1
  | 3 => if n < x.counter ∨ 64 < n then some 0x01F2 else none
  | _ => if x.lock then some 0x01F4 else if [0, 1, 2, 3].any x.usable then none else some 0x01F1

/-- The write of FUSE_CTRL (R333, R337). -/
def State.writeFuse (s : State) (v : Word) : State :=
  let op := fld v 2 0
  if s.sec.op.isSome then s.err .sec 0 0x01F3 0 0
  else if op = 0 ∨ 4 < op then s.err .sec 0 errReserved 0 R.SEC_FUSE_CTRL
  else match s.sec.fuseBad op (fld v 5 4) (fld v 14 8) with
    | some code => s.err .sec 0 code op 0
    | none => s.modSec fun x => { x with op := some { op, key := fld v 5 4, n := fld v 14 8, hash := s.keyStage } }

/-- A write of FUSE_CTRL with an operation, a key and a counter. -/
def State.fuseWrite (s : State) (op k n : Nat) : State :=
  s.regWriteV .sec 0 R.SEC_FUSE_CTRL (wd (op + k * 2 ^ 4 + n * 2 ^ 8)) State.writeFuse

/-- PROGRAM_KEY (R333). -/
def execProgramKey (k : Fin 4) (s : State) : Host.Outcome State Fault Refusal := .next (s.fuseWrite 1 k.val 0)

/-- REVOKE (R333). -/
def execRevoke (k : Fin 4) (s : State) : Host.Outcome State Fault Refusal := .next (s.fuseWrite 2 k.val 0)

/-- SET_COUNTER (R333). -/
def execSetCounter (n : BitVec 7) (s : State) : Host.Outcome State Fault Refusal := .next (s.fuseWrite 3 0 n.toNat)

/-- SET_PROVISIONED (R333). -/
def execSetProvisioned (s : State) : Host.Outcome State Fault Refusal := .next (s.fuseWrite 4 0 0)

/-- The fuses after an operation (R333). -/
def SecSt.blow (x : SecSt) (o : FuseOp) : SecSt :=
  match o.op with
  | 1 => { x with keys := setNth x.keys o.key (some o.hash) }
  | 2 => { x with revoked := setNth x.revoked o.key true }
  | 3 => { x with counter := o.n }
  | _ => { x with prov := true, unprov := false }

/-- FUSE_OP_DONE: the operation in progress completes (R333). -/
def execFuseOpDone (s : State) : Host.Outcome State Fault Refusal :=
  match s.sec.op with
  | some o => .next (s.modSec fun x => { x.blow o with op := none })
  | none => .next s

/-! Registers of the SEC page (R337). -/

/-- A write to a register of the SEC page, once it has passed the common checks. -/
def State.writeSec (s : State) (po : Nat) (v : Word) : State :=
  if po = R.SEC_FUSE_CTRL then s.writeFuse v
  else if s.sec.op.isSome then s.err .sec 0 0x01F3 0 0
  else s.setReg .sec 0 po v

/-- FUSE_STATUS. -/
def SecSt.status (x : SecSt) : Word :=
  wd (((List.range 4).map fun k => b2n (nth x.keys k none).isSome * 2 ^ k + b2n (nth x.revoked k false) * 2 ^ (4 + k)).sum
    + x.counter * 2 ^ 8 + b2n x.prov * 2 ^ 15 + b2n x.op.isSome * 2 ^ 16)

/-- A read of a register of the SEC page that is not held as a word. -/
def State.readSec (s : State) (po : Nat) : Option Word :=
  let x := s.sec
  if po = R.SEC_BOOT_STATUS then
    some (wd (x.slot + x.code0 * 2 ^ 8 + x.code1 * 2 ^ 16 + b2n x.unprov * 2 ^ 24 + b2n x.done * 2 ^ 25))
  else if po = R.SEC_BOOT_LOCK then some (wd (b2n x.lock))
  else if po = R.SEC_FUSE_STATUS then some x.status
  else if R.SEC_KEY_HASH ≤ po ∧ po < R.SEC_KEY_HASH + 192 then
    let i := (po - R.SEC_KEY_HASH) / 8
    some (nth ((nth x.keys (i / 6) none).getD []) (i % 6) 0)
  else none

end Sys2Proof.Machine
end

