-- ==== Sys2Proof/Machine/Servo.lean ====
section
/-! DEFINITION. Time-distribution pulses and replicas, link delay, the estimated offset, the servo and the choice of its parent
(R11 to R14, R53 to R63). -/

namespace Sys2Proof.Machine

open Sys2Proof

/-- Change the time block. -/
def State.modTime (s : State) (f : TimeSt → TimeSt) : State := { s with time := f s.time }

/-! Time-distribution pulses. -/

/-- What one pulse does to an island's replica (R14). `d` is the difference measured at the pulse, none when it is missed. -/
def Replica.pulse (r : Replica) (d : Option Int) : Replica :=
  match d with
  | none =>
    let m := r.missed + 1
    { r with missed := m, agreed := 0, valid := r.valid && decide (m < 2) }
  | some d =>
    let a := if d.natAbs * wFrac ≤ wTick then r.agreed + 1 else 0
    { diff := d, missed := 0, agreed := a, valid := decide (d.natAbs * wFrac ≤ 2 * wTick) && (r.valid || decide (8 ≤ a)) }

/-- A port group's ports stop scheduled transmission as in hold-off (R14, R88). -/
def State.groupHold (s : State) (i : Nat) : State :=
  if s.inNet then (s.listedPorts.filter fun p => p / 16 == i).foldl State.holdPort s else s

/-- The valid bit of an island is cleared: REPLICA_SLIP, and a port group's ports stop scheduled transmission (R14). -/
def State.replicaSlip (s : State) (i : Nat) : State := (s.raise 0x001 i 0).groupHold i

/-- A port group's reference clock is absent: HCSL input k feeds groups 4k to 4k + 3 (R9, R359). -/
def State.refAbsent (s : State) (i : Nat) : Bool := decide (i < 64) && nbit s.pwr.noRef (i / 4)

/-- A port of a group is enabled. -/
def State.groupEnabled (s : State) (g : Nat) : Bool := (List.range 16).any fun i => (s.hdr .port (16 * g + i)).enable

/-- One island at a pulse (R14). A group whose reference clock is absent has an invalid replica, and raises no alarm until its ports are
enabled (R342). -/
def State.pulseIsland (s : State) (missed : List (Fin 70)) (diffs : List (Fin 70 × Int)) (i : Fin 70) : State :=
  let old := s.replica i
  let gone := s.refAbsent i
  let new := old.pulse (if gone || missed.contains i then none else some (((diffs.find? fun x => x.1 == i).map Prod.snd).getD 0))
  let new := if gone then { new with valid := false } else new
  let s1 := s.modTime fun t => { t with replicas := smSet t.replicas i new }
  if old.valid && !new.valid then (if gone && !s.groupEnabled i then s1.groupHold i else s1.replicaSlip i) else s1

/-- TIME_DISTRIBUTION_PULSE: every 1.024 µs the hub sends fabric time and the rate word to all islands (R11 to R14, R62), and every
trace source gains its tokens (R303). An update of the rate on the same hub edge goes out with the following pulse (R62). None comes
while internal reset is held. Bit k of `absent`: HCSL input k is absent (R359). -/
def execTimeDistributionPulse (absent : BitVec 16) (missed : List (Fin 70)) (diffs : List (Fin 70 × Int)) (s : State) :
    Host.Outcome State Fault Refusal :=
  let s1 := s.runTo (s.time.lastPulse + wPulse)
  let s2 := ({ s1 with pwr := { s1.pwr with noRef := absent.toNat } }).modTime fun t =>
    { t with lastPulse := t.now, rateNow := if hubEdge t.now ≤ t.rateAt then t.ratePrev else t.rateNext }
  .next (if s.pwr.held then s
         else (((List.finRange 70).foldl (fun t i => t.pulseIsland missed diffs i) s2).departs).refill)

/-! Link delay. -/

/-- LINK_DELAY in w: the mean of the accepted measurements plus DELAY_ASYM / 2 (R56). -/
def State.linkDelay (s : State) (p : Nat) : Int :=
  let m := (s.port p).meas
  let asym := sext 32 (s.regF .port p R.PORT_DELAY_ASYM 31 0)
  (if m = [] then 0 else m.sum * (wFrac : Int) / (2 * (m.length : Int))) + asym * 4096

/-- A port drops its history of measurements: after a retrain, a sleep or four rejections in a row (R56). -/
def PortSt.dropDelay (q : PortSt) : PortSt := { q with meas := [], rejRun := 0, delayOk := false }

/-- One measurement, twice the delay in 2^-16 ns, is accepted or rejected (R56). -/
def State.measure (s : State) (p : Nat) (d2 : Int) : State :=
  let q := s.port p
  let n : Int := q.meas.length
  let far := q.delayOk && decide (4 * n * 65536 < (d2 * n - q.meas.sum).natAbs)
  if far then
    let s1 := s.countP p R.PORT_DELAY_REJECTED
    if 4 ≤ q.rejRun + 1 then s1.modPort p PortSt.dropDelay else s1.modPort p fun q => { q with rejRun := q.rejRun + 1 }
  else
    (s.modPort p fun q =>
      let m := (q.meas ++ [d2]).drop (q.meas.length - 7)
      { q with meas := m, rejRun := 0, delayOk := q.delayOk || decide (4 ≤ m.length) }).countP p R.PORT_DELAY_ACCEPTED

/-! The estimated offset. -/

/-- EST_OFFSET in w (R59). -/
def State.estOffset (s : State) : Nat :=
  if s.node.bellwether then 0
  else
    s.time.offset.natAbs +
      (if s.time.holdover then
        (s.time.now - s.time.offsetAt) * s.regF .time 0 R.TIME_HOLDOVER_CFG 19 0 / 1000000000
       else 0)

/-- EST_OFFSET exceeds a limit in ticks; the part of a w that the division drops counts as above it (R59, R88). -/
def State.offsetAbove (s : State) (ticks : Nat) : Bool :=
  if s.node.bellwether then false
  else
    let drift := if s.time.holdover then (s.time.now - s.time.offsetAt) * s.regF .time 0 R.TIME_HOLDOVER_CFG 19 0 else 0
    decide (ticks * wTick * 1000000000 < s.time.offset.natAbs * 1000000000 + drift)

/-- EST_OFFSET is below a limit in ticks (R89). -/
def State.offsetBelow (s : State) (ticks : Nat) : Bool :=
  if s.node.bellwether then decide (0 < ticks)
  else
    let drift := if s.time.holdover then (s.time.now - s.time.offsetAt) * s.regF .time 0 R.TIME_HOLDOVER_CFG 19 0 else 0
    decide (s.time.offset.natAbs * 1000000000 + drift < ticks * wTick * 1000000000)

/-- EST_OFFSET in whole ps (R59, R73). -/
def State.estPs (s : State) : Nat := s.estOffset / wPs

/-- Signed ps of an amount in w, rounded toward zero. -/
def psOf (w : Int) : Int := if w < 0 then -((w.natAbs / wPs : Nat) : Int) else ((w.natAbs / wPs : Nat) : Int)

/-! The servo. -/

/-- 10^9 × 2^16: the unit of f and p is 2^-16 ppb (log entry 8). -/
def eFp : Int := 65536000000000

/-- f is set, limited to ±250,000 ppb (R60). -/
def State.setF (s : State) (f : Int) : State :=
  let lim : Int := 250000 * 65536
  let g := clampInt (-lim) lim f
  let s1 := s.modTime fun t => { t with f := g }
  if f < -lim ∨ lim < f then s1.raise 0x002 0 (toField 32 (g.tdiv 65536)) else s1

/-- rate_adj for the next pulse; the rate before this hub edge is kept for a pulse on the same edge (R62). -/
def State.setRate (s : State) (p : Int) : State :=
  let e := hubEdge s.time.now
  s.modTime fun t =>
    { t with p, rateNext := t.f + p, rateAt := e, ratePrev := if t.rateAt = e then t.ratePrev else t.rateNext }

/-- Halve an error by a shift and limit it: the limited value and whether it was limited (R60, R61). -/
def shiftClamp (e : Int) (shift : Nat) (lim : Int) : Int × Bool :=
  let k : Int := (2 ^ shift : Nat)
  if lim * k < e then (lim, true) else if e < -(lim * k) then (-lim, true) else (e / k, false)

/-- LOCKED after an applied offset (R63). -/
def TimeSt.lock (t : TimeSt) (off : Int) : TimeSt :=
  let m := off.natAbs
  if 3 * wNs < m then { t with locked := false, lockRun := 0 }
  else if 2 * m ≤ 3 * wNs then { t with lockRun := t.lockRun + 1, locked := t.locked || decide (16 ≤ t.lockRun + 1) }
  else { t with lockRun := 0 }

/-- A parent clapper is applied (R60, R61, R63, R118). `off`: its offset in w. -/
def State.servo (s : State) (p : Nat) (c : Clapper) (off : Int) : State :=
  let cfg := s.reg .time 0 R.TIME_SERVO_CFG
  let e := off * eFp / ((s.time.prevTicks * wTick : Nat) : Int)
  let (pp, pl) := shiftClamp e (fld cfg 11 8) ((fld cfg 7 0 * 1000 * 65536 : Nat) : Int)
  let (df, fl) := shiftClamp e (fld cfg 15 12) (100 * 65536)
  let s1 := if pl then s.count .time 0 R.TIME_SLEW_CLAMPED else s
  let s2 := if fl then s1.count .time 0 R.TIME_FREQ_STEP_CLAMPED else s1
  let s3 := ((s2.setF (s2.time.f - df)).setRate (-pp)).count .time 0 R.TIME_SERVO_UPDATES
  let s4 := (s3.modTime fun t => { (t.lock off) with parentSteps := c.steps, offset := off, offsetAt := t.now }).traceState 3 4 0
    (wd (toField 64 (psOf off)))
  if c.ticks = s4.ticks then s4.modTime fun t => { t with diverged := none }
  else
    let s5 := s4.count .cycle 0 R.CYCLE_TICKS_DIVERGED
    if s5.time.diverged.isSome then s5
    else ((s5.modTime fun t => { t with diverged := some c.cycle }).raise 0x00F p c.ticks).report 0x0008 (s5.partnerNode p) c.ticks

/-! The parent. -/

/-- Order of ports as parents: STEPS_REMOVED, PRIORITY, number (R57). -/
def State.parentKey (s : State) (c : Cand) : Nat :=
  (c.steps * 16 + bitsOf (s.port c.port).timeCfg 7 4) * 1024 + c.port

/-- The best of the candidate ports of a cycle (R57). -/
def State.bestCand (s : State) (l : List Cand) : Option Cand := (sortBy s.parentKey l).head?

/-- The servo's parent becomes a port (R57). A change is counted and traced. -/
def State.setParent (s : State) (c : Cand) : State :=
  let same := s.time.parent = some c.port
  let s1 := s.modTime fun t => { t with parent := some c.port, parentSteps := c.steps, missed := 0, better := [] }
  if same then s1
  else (s1.count .time 0 R.TIME_PARENT_CHANGES).traceState 1 2 0 (wd c.port)

/-- Holdover begins (R58, R63). HOLDOVER_CYCLES counts 1 here, for the cycle that ends, and one at each cycle start that finds the
node still in holdover (DESIGN CHOICE, log entry 73). -/
def State.enterHoldover (s : State) : State :=
  ((s.modTime fun t => { t with holdover := true, locked := false, lockRun := 0 }).raise 0x004 0 0).count .time 0
    R.TIME_HOLDOVER_CYCLES

/-- How many consecutive cycles a port has been better than the parent, before this one (R57). -/
def TimeSt.betterRun (t : TimeSt) (port : Nat) : Nat := ((t.better.find? fun x => x.1 == port).map Prod.snd).getD 0

/-- The ports better than the parent have been so for one more cycle; the best of those better for 8 in a row becomes the parent
(R57). -/
def State.betterPorts (s : State) (l : List Cand) (cur : Cand) : State :=
  let up := l.filter fun c => decide (s.parentKey c < s.parentKey cur)
  match s.bestCand (up.filter fun c => decide (7 ≤ s.time.betterRun c.port)) with
  | some best => s.setParent best
  | none => s.modTime fun t => { t with better := up.map fun c => (c.port, t.betterRun c.port + 1) }

/-- A cycle of the servo ends: the parent has delivered a candidate clapper, or has been missed (R57, R58). -/
def State.endServoCycle (s : State) : State :=
  match s.time.parent with
  | none => s
  | some p =>
    if s.time.holdover then (s.count .time 0 R.TIME_HOLDOVER_CYCLES).count .time 0 R.TIME_PARENT_MISSED
    else
      let l := s.time.cands
      match l.find? fun c => c.port == p with
      | some cur => (s.modTime fun t => { t with missed := 0 }).betterPorts l cur
      | none =>
        let n := s.time.missed + 1
        let s1 := ((s.modTime fun t => { t with missed := n, better := [] }).setRate 0).count .time 0 R.TIME_PARENT_MISSED
        if n < 2 then s1
        else
          let s2 := s1.raisePort 0x003 p n 0x0005
          match s.bestCand l with
          | some b => s2.setParent b
          | none => s2.enterHoldover

/-- The servo's state is dropped: no parent, no holdover, p = 0 (R60). LOCKED and its run are cleared too, which R63 does not list, and
STEPS_REMOVED keeps the value of the last parent behind VALID = 0 (DESIGN CHOICE, log entries 74, 75). -/
def State.dropServo (s : State) : State :=
  (s.modTime fun t => { t with parent := none, missed := 0, better := [], holdover := false, locked := false, lockRun := 0,
                               diverged := none }).setRate 0

/-! Frequency acquisition. -/

/-- The rate error, in 2^-16 ppb, of two valid clappers of consecutive cycles of one port, against the local reference (R60). -/
def State.pairError (s : State) (a b : ClapRec) : Int :=
  let r := eFp + s.time.rateNow
  let dt := b.tRx - a.tRx
  let dc := b.correction - a.correction
  let d : Int := (b.origin : Int) - a.origin
  eFp * (eFp * dt - dc * r) / (r * d) - eFp

/-- A rate pair is held, and f is the negative of the mean of the pairs held, with no limit (R60). A pair whose ORIGIN does not advance
has no rate error and is not held (DESIGN CHOICE, log entry 76). -/
def State.addPair (s : State) (a b : ClapRec) : State :=
  if b.origin ≤ a.origin then s
  else
    let l := (s.pairError a b :: s.time.pairs).take 8
    (s.modTime fun t => { t with pairs := l, f := -(l.sum / (l.length : Int)) }).setRate 0

end Sys2Proof.Machine
end

