-- ==== Sys2Proof/Machine/Node.lean ====
section
/-! DEFINITION. The node state machine: its transitions, duplicate node IDs, the join detector, the join and its check, hold-off and
leave (R77 to R94, R98, R115). -/

namespace Sys2Proof.Machine

open Sys2Proof

/-- Change the node. -/
def State.modNode (s : State) (f : NodeSt → NodeSt) : State := { s with node := f s.node }

/-- The node's own timebase (R80). -/
def State.ownTb (s : State) : Nat × Nat := (s.rank, s.nodeId)

/-- One timebase is better than another (R80). -/
def tbBetter (a b : Nat × Nat) : Bool := a.1 < b.1 || (a.1 == b.1 && a.2 < b.2)

/-- The state changes: the change is traced, and an ADOPT that waits is refused when the node leaves OFF and LISTEN (R81). -/
def State.enter (s : State) (st : NodeState) : State :=
  let s1 := s.modNode fun n => { n with state := st, resume := 0 }
  let s2 := s1.traceState 0 1 st.code 0
  if st = .off ∨ st = .listen then s2 else s2.adoptBusy st.code

/-- An armed or committed cut is refused because the node leaves (R79, R115). -/
def State.refuseForNode (s : State) : State := if s.cutBusy then s.refuseCut 2 else s

/-- Clappers received so far count toward no full valid cycle (R83, R84). -/
def State.forgetQual (s : State) : State :=
  (smKeys s.ports).foldl (fun t p => t.modPort p fun q =>
    { q with qual := none, lastClap := q.lastClap.map fun c => { c with counts := false } }) s

/-- The listen timer starts (R82). -/
def State.startListen (s : State) : State :=
  s.modNode fun n =>
    { n with listenEnd := s.time.now + ((3 + s.rank) * s.ticks + s.nodeId * 16) * wTick }

/-- Entry to LISTEN: the detector keeps the timebase that YIELD found better (R83, R84). The offset of the parent that is gone is
cleared here, and kept in OFF and YIELD (DESIGN CHOICE, log entry 77). -/
def State.toListen (s : State) (keep : Option (Nat × Nat)) : State :=
  let s1 := ((s.enter .listen).dropServo).forgetQual
  let s2 := s1.modNode fun n =>
    { n with followed := none, bellwether := false, zeroAt := none, join := none, mismatch := false, looked := keep,
             heard := match keep with
               | some (r, m) => [(r, m, s.time.now)]
               | none => [] }
  (s2.modTime fun t => { t with offset := 0, pairs := if keep.isSome then t.pairs else [] }).startListen

/-- Entry to YIELD (R78, R79, R83, R91). A candidate whose cycle 0 has not started has no cycle, and goes on to LISTEN. -/
def State.toYield (s : State) (better : Option (Nat × Nat)) : State :=
  let was := s.inNet
  let none_ := !s.time.hasCycle || (s.node.state == .candidate && s.node.zeroAt.isSome)
  let s1 := (s.enter .yield).dropServo
  let s2 := (s1.modNode fun n =>
    { n with bellwether := false, followed := none, zeroAt := none, join := none, yieldCycle := s.time.cycle,
             looked := better }).modTime fun t => { t with pairs := [] }
  let s3 := (if was then s2.flushTx else s2).refuseForNode
  if none_ then s3.toListen better else s3

/-- Entry to OFF (R78, R79, R91, R195, R370). -/
def State.toOff (s : State) : State :=
  let was := s.inNet
  let s1 := ((s.enter .off).dropServo).modNode fun n =>
    { n with bellwether := false, followed := none, zeroAt := none, join := none, looked := none, heard := [] }
  let s2 := (if was then s1.flushTx else s1).dropEvents.refuseForNode
  s2.modTime fun t => { t with hasCycle := false, pairs := [] }

/-- Entry to HALTED (R78, R79, R91, R93, R195). `p`: the receiving port; `detail`: the sender's CYCLE_NUMBER. -/
def State.toHalted (s : State) (p detail : Nat) : State :=
  let was := s.inNet
  let s1 := ((s.enter .halted).dropServo).modNode fun n =>
    { n with bellwether := false, followed := none, zeroAt := none, join := none, looked := none, heard := [] }
  let s2 := (if was then s1.flushTx else s1).dropEvents.refuseForNode
  ((s2.err .cycle 0 0x0142 0 p).raise 0x00A p detail).report 0x0007 (some (s.nodeId, 0x400)) p

/-- The node yields to a better timebase (R78). -/
def State.yieldTo (s : State) (rank node : Nat) : State :=
  let cand := s.node.state = .candidate
  let s1 := (s.toYield (some (rank, node))).count .cycle 0 R.CYCLE_YIELDS
  if cand then s1 else s1.raise 0x006 0 (rank * 2 ^ 16 + node)

/-- The node leaves its timebase (R78, R90). -/
def State.leave (s : State) : State :=
  ((s.count .cycle 0 R.CYCLE_LEAVES).raise 0x009 0 (min s.estPs 0xFFFFFFFF)).toYield none

/-- A change of state is made, or deferred in the final window of a committed cut (R115). -/
def State.orDefer (s : State) (d : Deferred) (f : State → State) : State :=
  if s.finalWindow then s.modSlate fun x => { x with deferred := x.deferred ++ [d] } else f s

/-- Run a deferred change of state at the start of cycle X (R115). -/
def State.runDeferred (s : State) (d : Deferred) : State :=
  match d with
  | .yield _ r n =>
    if s.inNet ∨ s.node.state = .candidate then s.yieldTo r n else s
  | .leave => if s.inNet then s.leave else s
  | .stop => if s.node.state = .halted then s else s.toOff
  | .halt p c => if s.node.state = .halted then s else s.toHalted p c

/-- OFFSET_CFG limits in ticks (R88 to R92). -/
def State.limResume (s : State) : Nat := s.regF .cycle 0 R.CYCLE_OFFSET_CFG 7 0
def State.limHoldOff (s : State) : Nat := s.regF .cycle 0 R.CYCLE_OFFSET_CFG 15 8
def State.limLeave (s : State) : Nat := s.regF .cycle 0 R.CYCLE_OFFSET_CFG 31 16

/-- Entry to HOLD_OFF (R88). -/
def State.toHoldOff (s : State) : State :=
  ((((s.enter .holdOff).count .cycle 0 R.CYCLE_HOLDOFF_ENTRIES).raise 0x008 0 (min s.estPs 0xFFFFFFFF))).holdOffTx

/-- EST_OFFSET is compared with LEAVE and HOLD_OFF (R88, R90). -/
def State.compareOffset (s : State) : State :=
  if !s.inNet || s.node.bellwether then s
  else if s.offsetAbove s.limLeave then s.orDefer .leave State.leave
  else if s.node.state = .joined ∧ s.offsetAbove s.limHoldOff then s.toHoldOff
  else s

/-! Duplicate node IDs. -/

/-- A valid clapper shows another node with this node's ID (R93). -/
def State.duplicate (s : State) (c : Clapper) : Bool :=
  c.tbNode == s.nodeId &&
    (c.steps == 0 || c.tbRank != s.rank
      || ((s.node.state == .candidate || s.node.bellwether) && s.time.hasCycle && s.node.zeroAt.isNone
          && (let d := cycDiff c.cycle s.time.cycle
              let own := s.fab s.time.cycStart + (if d = 1 then s.ticks * wTick else 0)
              (d != 0 && d != 1) || decide (s.limLeave * wTick < ((c.origin * wFrac : Int) - own).natAbs))))

/-! The join detector. -/

/-- Note a timebase heard in LISTEN (R84). -/
def heardSet (l : List (Nat × Nat × Nat)) (tb : Nat × Nat) (at_ : Nat) : List (Nat × Nat × Nat) :=
  (l.filter fun x => !(x.1 == tb.1 && x.2.1 == tb.2)) ++ [(tb.1, tb.2, at_)]

/-- The best timebase among those heard. -/
def bestHeard (l : List (Nat × Nat × Nat)) : Option (Nat × Nat) :=
  ((sortBy (fun x => x.1 * 65536 + x.2.1) l).head?).map fun x => (x.1, x.2.1)

/-- The detector looks for a timebase; a change drops the pairs held (R60, R84). -/
def State.look (s : State) (tb : Option (Nat × Nat)) : State :=
  if s.node.looked = tb then s
  else (s.modNode fun n => { n with looked := tb }).modTime fun t => { t with pairs := [] }

/-- RX_TOL of a port in the live slate, in 2^-16 ns scaled by 125: w (R84, condition 4). -/
def State.rxTolW (s : State) (p : Nat) : Nat := s.live.rxTol p * wTick

/-- Conditions 1 to 4 of R84 for two clappers of one port: `a` of cycle N, `b` of cycle N + 1. -/
def State.pairOk (s : State) (p : Nat) (a b : ClapRec) : Bool :=
  let want : Int := (a.ticks * wTick : Nat)
  let org : Int := ((b.origin : Int) - a.origin) * wFrac
  let spc : Int := ((b.tRx - b.correction) - (a.tRx - a.correction)) * wFrac
  a.counts && b.counts && a.delayOk && b.delayOk && decide ((org - want).natAbs ≤ wFrac)
    && decide ((spc - want).natAbs ≤ s.rxTolW p)

/-- Ports that qualify for a full valid cycle N of the timebase looked for. -/
def State.qualified (s : State) (n : Nat) : List Cand :=
  s.ports.filterMap fun x =>
    match x.2.qual, x.2.lastClap with
    | some m, some c => if m = n ∧ some (c.rank, c.node) = s.node.looked then some ⟨x.1, c.steps⟩ else none
    | _, _ => none

/-- The join step of a join from parent port p at cycle N (R85): Δ and S in w. -/
def State.joinOf (s : State) (n p : Nat) (c : ClapRec) : Join :=
  { n, parent := p, sInst := ((c.origin * wFrac + s.ticks * wTick : Nat) : Int),
    delta := ((c.origin : Int) + c.correction) * wFrac + s.linkDelay p - c.tRx * wFrac, stepped := false, checked := false }

/-- A full valid cycle N has been detected: STEPPED (R78, R85). -/
def State.detected (s : State) (n : Nat) (best : Cand) : State :=
  match (s.port best.port).lastClap with
  | none => s
  | some c =>
    let s1 := (s.enter .stepped).modNode fun x =>
      { x with join := some (s.joinOf n best.port c), followed := some (c.rank, c.node) }
    s1.modTime fun t => { t with parent := some best.port, parentSteps := c.steps, missed := 0, better := [] }

/-- The detector in LISTEN after a clapper of the timebase looked for on port p (R84). `a`, `b`: its last two clappers there. -/
def State.detect (s : State) (p : Nat) (a b : ClapRec) : State :=
  if !s.pairOk p a b then s
  else if b.ticks ≠ s.ticks then
    let s1 := s.count .cycle 0 R.CYCLE_JOIN_MISMATCH
    if s1.node.mismatch then s1 else (s1.modNode fun n => { n with mismatch := true }).raise 0x00B p b.ticks
  else
    let s1 := s.modPort p fun q => { q with qual := some a.cycle }
    let l := s1.qualified a.cycle
    if l.length < s1.regF .cycle 0 R.CYCLE_NODE_CFG 31 24 then s1
    else match s1.bestCand l with
      | some best => s1.detected a.cycle best
      | none => s1

/-- A failed check of R86: LISTEN (R78). -/
def State.abortJoin (s : State) (parent : Nat) : State :=
  (((s.count .cycle 0 R.CYCLE_JOIN_ABORTS).raise 0x007 0 parent).toListen none).refuseForNode

/-- The check of R86 on a clapper of the join parent: cycle N + 2, a candidate clapper whose offset is at most HOLD_OFF. -/
def State.joinCheck (s : State) (p : Nat) (c : Clapper) (off : Int) : State :=
  match s.node.join with
  | some j =>
    if j.stepped ∧ !j.checked ∧ j.parent = p ∧ cycDiff c.cycle (j.n + 2) = 0 then
      if off.natAbs ≤ s.limHoldOff * wTick then
        (s.modNode fun n => { n with join := some { j with checked := true } }).modTime fun t =>
          { t with offset := off, offsetAt := t.now, parentSteps := c.steps }
      else s.abortJoin j.parent
    else s
  | none => s

end Sys2Proof.Machine
end

