-- ==== Sys2Proof/Machine/Clapper.lean ====
section
/-! DEFINITION. Clappers received and sent, and the delay exchange (R47 to R58, R74, R78, R80, R83 to R86, R93, R94). -/

namespace Sys2Proof.Machine

open Sys2Proof

/-- A frame's timestamp point has crossed the pins at an instant of the port group's replica: the hub's clock is at least there. -/
def State.seenAt (s : State) (p t : Nat) : State := s.runTo (s.unfab (s.toHub (p / 16) t * wFrac))

/-- A clapper leaves a port, its first bit at an instant and the departure of its timestamp point in the group's replica given: it
takes the lane, and is recorded as any frame that starts (R48). -/
def State.clapperOut (s : State) (p : Nat) (f : Frame) (first tDep : Nat) : State :=
  let fr : TxFrame := { cls := 7, typ := tClapper, origin := .own, frame := f }
  let s1 := s.modPort p fun q => { q with laneFree := first + (8 + frameLen f + 12) * s.wByte p }
  (s1.out (.frame p f true)).started p 7 tDep (some fr)

/-! Clappers received. -/

/-- A frame that a port delineates with codeword lock and is not in UP (R372). -/
def State.delineates (s : State) (p : Nat) : Bool :=
  let l := (s.port p).link
  (l.state == .lock && l.locked) || l.state == .hello || l.state == .switch

/-- A frame other than a HELLO on a port that is not in UP: discarded and counted once the port has codeword lock (R372). -/
def State.notUp (s : State) (p : Nat) : State := if s.delineates p then s.countP p R.PORT_RX_NOT_UP else s

/-- Conditions 2 to 5 of R51. -/
def State.clapperValid (s : State) (c : Clapper) : Bool :=
  c.hdrCycle == c.cycle % 2 ^ 16 && decide (c.steps < s.regF .time 0 R.TIME_SERVO_CFG 20 16)
    && decide (1563 ≤ c.ticks) && decide (c.ticks ≤ 16777215) && bitsOf c.flags 7 2 == 0

/-- Offset of the node against the sender of a clapper, in w (R52). -/
def State.clapperOffset (s : State) (p : Nat) (c : Clapper) (tRx : Int) : Int :=
  (tRx - ((c.origin : Int) + c.correction)) * wFrac - s.linkDelay p

/-- Signed ps saturating in 32 bits. -/
def psReg (w : Int) : Word := sat32 (psOf w)

/-- A candidate clapper: its offset is recorded and its port is a candidate of the cycle (R51, R52, R57). -/
def State.candidateClapper (s : State) (p : Nat) (c : Clapper) (off : Int) : State :=
  (s.modPort p fun q => { q with clapOff := off }).modTime fun t => { t with cands := t.cands ++ [⟨p, c.steps⟩] }

/-- The servo takes a candidate clapper: one that ends holdover becomes the parent; the parent's is applied (R58, R60). -/
def State.servoTakes (s : State) (p : Nat) (c : Clapper) (off : Int) : State :=
  if !s.inNet || s.node.bellwether then s
  else
    let s1 := if s.time.holdover || s.time.parent.isNone then
        (s.setParent ⟨p, c.steps⟩).modTime fun t => { t with holdover := false }
      else s
    if s1.time.parent = some p then (s1.servo p c off).compareOffset else s1

/-- LISTEN: the listen timer restarts and the detector is fed (R78, R84). -/
def State.listenClapper (s : State) (tb : Nat × Nat) : State :=
  let s1 := (s.modNode fun n => { n with heard := heardSet n.heard tb s.time.now }).startListen
  let best := match s1.node.looked with
    | some b => if tbBetter tb b then tb else b
    | none => tb
  s1.look (some best)

/-- YIELD: a better timebase becomes the one the detector will look for (R83). -/
def State.yieldClapper (s : State) (tb : Nat × Nat) : State :=
  match s.node.looked with
  | some b => if tbBetter tb b then s.look (some tb) else s
  | none => s.look (some tb)

/-- CANDIDATE, JOINED, HOLD_OFF and STEPPED compare a clapper's timebase with the one followed (R78, R80). In STEPPED a better timebase
changes no state and is still counted in YIELDS (R78); in LISTEN and YIELD the node follows no timebase to be better than (DEDUCED, log
entry 78). -/
def State.compareTb (s : State) (tb : Nat × Nat) : State :=
  match s.node.followed with
  | none => s
  | some f =>
    if tbBetter f tb then s.count .cycle 0 R.CYCLE_TB_WORSE_SEEN
    else if tbBetter tb f then
      (if s.node.state = .stepped then s.count .cycle 0 R.CYCLE_YIELDS
       else s.orDefer (.yield true tb.1 tb.2) fun t => t.yieldTo tb.1 tb.2)
    else s

/-- The timebase comparison of a valid clapper, by state (R78, R80, R83, R84). -/
def State.timebase (s : State) (tb : Nat × Nat) : State :=
  match s.node.state with
  | .listen => s.listenClapper tb
  | .yield => s.yieldClapper tb
  | .candidate | .joined | .holdOff | .stepped => s.compareTb tb
  | .off | .halted => s

/-- The timebase whose clappers make rate pairs: the one looked for, or in STEPPED the join parent's (R60). -/
def State.pairTb (s : State) : Option (Nat × Nat) :=
  match s.node.state with
  | .listen | .yield => s.node.looked
  | .stepped => s.node.followed
  | _ => none

/-- A valid clapper of a port that uses clappers is kept; with the one before it, it may make a rate pair and a full valid cycle
(R60, R84). -/
def State.keepClapper (s : State) (p : Nat) (c : Clapper) (tRx : Int) : State :=
  let q := s.port p
  let b : ClapRec := { cycle := c.cycle, origin := c.origin, correction := c.correction, tRx, rank := c.tbRank, node := c.tbNode,
                       steps := c.steps, ticks := c.ticks, delayOk := q.delayOk, counts := s.node.state == .listen }
  let s1 := s.modPort p fun q => { q with lastClap := some b, qual := none }
  match q.lastClap with
  | none => s1
  | some a =>
    if cycDiff b.cycle a.cycle = 1 ∧ a.rank = b.rank ∧ a.node = b.node ∧ s1.pairTb = some (b.rank, b.node) then
      let s2 := s1.addPair a b
      if s2.node.state = .listen then s2.detect p a b else s2
    else s1

/-- A clapper that has passed receive stages 1, 2 and 5 (R51, R52, R78, R93). -/
def State.clapperIn (s : State) (p : Nat) (c : Clapper) (tRx : Nat) : State :=
  let s0 := s.seenAt p tRx
  if !s0.clapperValid c then s0.countP p R.PORT_CLAP_RX_INVALID
  else
    let s1 := (s0.countP p R.PORT_CLAP_RX_VALID).modPort p fun q =>
      { q with clapSeen := c.tbNode + c.tbRank * 2 ^ 16 + c.steps * 2 ^ 24 }
    let role := bitsOf (s1.port p).timeCfg 1 0
    if role = 3 then s1
    else if s1.duplicate c then
      s1.orDefer (.halt p (c.cycle % 2 ^ 32)) fun t => t.toHalted p (c.cycle % 2 ^ 32)
    else
      let t := s1.toHub (p / 16) tRx
      let uses := role = 0 ∨ role = 1
      let off := s1.clapperOffset p c t
      let cand := uses ∧ s1.node.followed = some (c.tbRank, c.tbNode) ∧ (s1.port p).delayOk
      let s2 := if cand then s1.candidateClapper p c off else s1
      let s3 := s2.timebase (c.tbRank, c.tbNode)
      let s4 := if uses then s3.keepClapper p c t else s3
      if cand then (s4.joinCheck p c off).servoTakes p c off else s4

/-- CLAPPER_RX: a received clapper is judged, compared by timebase and, if it is a candidate clapper, used (R51, R52). In HALTED
it has no effect (R77). -/
def execClapperRx (p : Fin 1024) (c : Clapper) (tRx : Nat) (s : State) : Host.Outcome State Fault Refusal :=
  if s.isUp p then (if s.node.state = .halted then .next s else .next (s.clapperIn p c tRx)) else .next (s.notUp p)

/-! The delay exchange. -/

/-- The port takes part in the delay exchange: it is UP and not going to sleep, and the node is not HALTED (R77, R54, R141). -/
def State.delayOn (s : State) (p : Nat) : Bool :=
  s.isUp p && !(s.port p).link.sleeping && s.node.state != .halted

/-- A request is due in the current cycle: one in each that R54 names. -/
def State.delayDue (s : State) (p : Nat) : Bool :=
  (!(s.port p).delayOk || (s.time.cycle + p) % s.regF .time 0 R.TIME_DELAY_CFG 15 0 == 0)
    && (s.port p).reqCyc != some s.time.cycle

/-- The instant at which a port of a node without a cycle sends its next request: 15,625 ticks after the last (R54). -/
def State.nextReq (s : State) (p : Nat) : Nat :=
  match (s.port p).reqAt with
  | some w => w + 15625 * wTick
  | none => s.time.now

/-- The outstanding request of a port is abandoned (R55). -/
def State.dropReq (s : State) (p : Nat) : State :=
  if (s.port p).req.isSome then (s.modPort p fun q => { q with req := none }).countP p R.PORT_DELAY_TIMEOUT else s

/-- A due DELAY_REQ is sent, or waits for its window; an outstanding request is abandoned (R53 to R55). -/
def State.requestDelay (s : State) (p t1 : Nat) : State :=
  if (s.port p).waits fun o => o == .delayReq then s.push p 7 t1
  else
    let s1 := s.dropReq p
    s1.sendOwn p (s1.linkFrame p 7 tDelayReq .delayReq) t1

/-- DELAY_REQ_TX: a port sends a DELAY_REQ that is due, in the cycle that R54 names or, without a cycle, 15,625 ticks after the last
one; `t1` is the captured departure in the port group's replica (R47, R53, R54). -/
def execDelayReqTx (p : Fin 1024) (t1 : Nat) (s : State) : Host.Outcome State Fault Refusal :=
  if !s.delayOn p then .next s
  else if s.time.hasCycle then (if s.delayDue p then .next (s.requestDelay p t1) else .next s)
  else .next ((s.runTo (s.nextReq p)).requestDelay p t1)

/-- A DELAY_REQ is answered: `t2` its arrival, `t3` the captured departure of the answer, which leaves as R54 says (R53). -/
def State.answerDelay (s : State) (p reqId t2 t3 : Nat) : State :=
  s.sendOwn p (s.linkFrame p 7 tDelayResp (.delayResp reqId (s.toHub (p / 16) t2))) t3

/-- DELAY_REQ_RX: a received DELAY_REQ is answered with a DELAY_RESP carrying TURNAROUND (R53). -/
def execDelayReqRx (p : Fin 1024) (reqId : BitVec 16) (_src : BitVec 16) (t2 t3 : Nat) (s : State) :
    Host.Outcome State Fault Refusal :=
  if s.isUp p then (if s.delayOn p then .next ((s.seenAt p t2).answerDelay p reqId.toNat t2 t3) else .next s)
  else .next (s.notUp p)

/-- A DELAY_RESP is accepted or rejected (R55, R56). -/
def State.delayResp (s : State) (p reqId : Nat) (synt : Bool) (turn : Int) (t4 : Nat) : State :=
  match (s.port p).req with
  | some (id, t1, _) =>
    if id = reqId ∧ turn ≤ (if synt then 20480 else 2048) * 65536 then
      (s.modPort p fun q => { q with req := none }).measure p (s.toHub (p / 16) t4 - t1 - turn)
    else s.countP p R.PORT_DELAY_REJECTED
  | none => s.countP p R.PORT_DELAY_REJECTED

/-- DELAY_RESP_RX: a DELAY_RESP is accepted or rejected, and an accepted measurement updates LINK_DELAY (R55, R56). -/
def execDelayRespRx (p : Fin 1024) (reqId : BitVec 16) (syntonised : Bool) (turnaround : Int) (t4 : Nat) (s : State) :
    Host.Outcome State Fault Refusal :=
  if s.isUp p then
    (if s.delayOn p then .next ((s.seenAt p t4).delayResp p reqId.toNat syntonised turnaround t4) else .next s)
  else .next (s.notUp p)

/-- DELAY_TIMEOUT: a request is abandoned when the next is due without an accepted response, and at the latest 4 cycles after it was
sent (R55). Without a cycle the next is due 15,625 ticks after it. -/
def execDelayTimeout (p : Fin 1024) (s : State) : Host.Outcome State Fault Refusal :=
  match (s.port p).req with
  | some (_, _, c) =>
    let d := cycDiff s.time.cycle c
    if !s.time.hasCycle then .next ((s.runTo (s.nextReq p)).dropReq p)
    else if decide (4 ≤ d) || (decide (1 ≤ d) && s.delayDue p) then .next (s.dropReq p) else .next s
  | none => .next s

/-! Clappers sent. -/

/-- The port sends a clapper at the start of the current cycle (R14, R48, R77, R82, R87). -/
def State.clapperDue (s : State) (p : Nat) : Bool :=
  let r := bitsOf (s.port p).timeCfg 1 0
  s.isUp p && !s.pwr.mfg && !(s.port p).link.sleeping && (r == 0 || r == 2)
    && (s.inNet || (s.node.state == .candidate && s.node.zeroAt.isNone))

/-- Payload of the clapper that opens the current cycle (R49). -/
def State.clapperPayload (s : State) (corr : Int) : List Byte :=
  let (rank, node) := s.node.followed.getD s.ownTb
  let steps := if s.node.bellwether ∨ s.node.state = .candidate then 0 else s.time.parentSteps + 1
  clapperBytes s.time.cycle (roundFrac (s.fab s.time.cycStart)) corr rank node steps s.ticks
    (b2n (s.node.state = .candidate) + 2 * b2n (s.node.state = .holdOff))

/-- The instant of the first bit of a clapper: the start of the cycle, where gates and R87 leave the lane idle, or else the end of
what is on it (R48, R103). -/
def State.clapperStart (s : State) (p : Nat) : Nat := max s.time.cycStart (s.port p).laneFree

/-- CORRECTION at no output error: the departure of the timestamp point, behind the preamble, less ORIGIN (R47, R50). -/
def State.nominalCorr (s : State) (p : Nat) : Int :=
  ((s.clapperStart p - s.time.cycStart + 8 * s.wByte p + 62) / wFrac : Nat)

/-- CORRECTION of a clapper: the departure given for the port when it lies within ±1 tick of the nominal one (R16, R48, R50). -/
def State.clapperCorr (s : State) (deps : List (Fin 1024 × Int)) (p : Nat) : Int :=
  match deps.find? fun d => d.1.val == p with
  | some d => if (d.2 - s.nominalCorr p).natAbs * wFrac ≤ wTick then d.2 else s.nominalCorr p
  | none => s.nominalCorr p

/-- A port sends the clapper of the current cycle. `corr`: CORRECTION, the departure of the timestamp point less ORIGIN (R50). -/
def State.sendClapper (s : State) (p : Nat) (corr : Int) : State :=
  let dep := ((roundFrac (s.fab s.time.cycStart) : Int) + corr + (s.replica (p / 16)).diff).toNat
  (s.clapperOut p (s.llFrame p tClapper (s.clapperPayload corr)) (s.clapperStart p) dep).countP p R.PORT_CLAP_TX

/-- The clappers of a cycle start, on every port that sends one (R48). `deps`: CORRECTION by port. A fragment still on the wire is cut
first (R153). -/
def State.sendClappers (s : State) (deps : List (Fin 1024 × Int)) : State :=
  (smKeys s.ports).foldl (fun t p =>
    if t.clapperDue p then
      let u := t.cutWire p t.time.cycStart R.PORT_TX_PREEMPT_EXPRESS
      u.sendClapper p (u.clapperCorr deps p)
    else t) s

end Sys2Proof.Machine
end

