-- ==== Sys2Proof/Machine/Civil.lean ====
section
/-! DEFINITION. Civil time, latched pairs, the PPS pins, diagnostic timestamps and the latching reads of the TIME page (R67 to R76). -/

namespace Sys2Proof.Machine

open Sys2Proof

/-! Civil time. -/

/-- One second in w. -/
def wSec : Nat := 1000000000 * wNs

/-- CIVIL_RATE, signed ppb. -/
def State.civilRate (s : State) : Int := sext 32 (s.regF .time 0 R.TIME_CIVIL_RATE 31 0)

/-- Civil time at an instant of the hub's clock: seconds, and the rest in w (R67). -/
def CivBase.civil (b : CivBase) (at_ : Nat) : Nat × Nat :=
  let dt : Int := (at_ - b.at_ : Nat)
  let w := (b.w + (dt + dt * b.rate / 1000000000)).toNat
  ((b.sec + w / wSec) % 2 ^ 48, w % wSec)

/-- The base from which civil time runs now. -/
def State.civBase (s : State) : CivBase :=
  { sec := s.time.civSec, w := s.time.civW, at_ := s.time.civAt, rate := s.civilRate, valid := s.time.civValid }

/-- Civil time at an instant of the hub's clock. -/
def State.civil (s : State) (at_ : Nat) : Nat × Nat := s.civBase.civil at_

/-- The hub edge on which a write at an instant, or a latch for it, takes place: the first at or after it. -/
def edgeOf (w : Nat) : Nat := cdiv w wHub

/-- A STEP or a CIVIL_RATE write keeps the civil time that stood before it, for a latch on the same edge (R70). -/
def State.keepCivil (s : State) : State :=
  let e := edgeOf s.time.now
  let b := match s.time.civBefore with
    | some (e', b') => if e' = e then b' else s.civBase
    | none => s.civBase
  s.modTime fun t => { t with civBefore := some (e, b) }

/-- The base of civil time that the latch of a cycle start takes: the one before a STEP or a CIVIL_RATE write on its edge (R70). -/
def State.latchBase (s : State) : CivBase :=
  match s.time.civBefore with
  | some (e, b) => if edgeOf s.time.cycStart ≤ e then b else s.civBase
  | none => s.civBase

/-- Civil time runs on from its value now. -/
def State.rebaseCivil (s : State) : State :=
  let c := s.civil s.time.now
  s.modTime fun t => { t with civSec := c.1, civW := c.2, civAt := t.now }

/-- STEP of CIVIL_CTRL (R68). -/
def State.civilStep (s : State) : State :=
  if s.time.civValid then s.err .time 0 0x0100 0 R.TIME_CIVIL_CTRL
  else
    s.keepCivil.modTime fun t =>
      { t with civSec := fld (s.reg .time 0 R.TIME_CIVIL_SET_SEC) 47 0, civW := fld (s.reg .time 0 R.TIME_CIVIL_SET_NS) 29 0 * wNs,
               civAt := t.now, civValid := true }

/-- PPS_OUT changes level. -/
def State.setPps (s : State) (level : Bool) : State :=
  if s.time.ppsOut = level then s else (s.modTime fun t => { t with ppsOut := level }).out (.ppsOut level)

/-- PPS_OUT is held low in mode 0, and in mode 1 while civil VALID is 0 (R72). -/
def State.holdPps (s : State) : State :=
  let m := s.regF .mgmt 0 R.MGMT_PPS_OUT_CTRL 1 0
  if m = 0 ∨ (m = 1 ∧ !s.time.civValid) then s.setPps false else s

/-- INVALIDATE of CIVIL_CTRL (R68, R72). -/
def State.civilInvalidate (s : State) : State := (s.modTime fun t => { t with civValid := false }).holdPps

/-- The write of CIVIL_CTRL: INVALIDATE acts before STEP when both are written (log entry 22). -/
def State.writeCivilCtrl (s : State) (v : Word) : State :=
  let s1 := if bit v 1 then s.civilInvalidate else s
  if bit v 0 then s1.civilStep else s1

/-- The write of CIVIL_RATE (R69). -/
def State.writeCivilRate (s : State) (v : Word) : State :=
  let r := sext 32 (fld v 31 0)
  if 500000 < r.natAbs then s.err .time 0 0x0101 0 R.TIME_CIVIL_RATE
  else s.keepCivil.rebaseCivil.setReg .time 0 R.TIME_CIVIL_RATE (wd (fld v 31 0))

/-- CIVIL_STEP: a write of CIVIL_CTRL.STEP (R68). -/
def execCivilStep (s : State) : Host.Outcome State Fault Refusal := .next (s.regWrite .time 0 R.TIME_CIVIL_CTRL State.civilStep)

/-- CIVIL_INVALIDATE: a write of CIVIL_CTRL.INVALIDATE (R68). -/
def execCivilInvalidate (s : State) : Host.Outcome State Fault Refusal :=
  .next (s.regWrite .time 0 R.TIME_CIVIL_CTRL State.civilInvalidate)

/-- CIVIL_RATE_WRITE: a write of CIVIL_RATE (R69). -/
def execCivilRateWrite (rate : BitVec 32) (s : State) : Host.Outcome State Fault Refusal :=
  .next (s.regWriteV .time 0 R.TIME_CIVIL_RATE (wd rate.toNat) State.writeCivilRate)

/-! Latched pairs. -/

/-- Pair record bytes (table of the pair record). -/
def State.pairBytes (s : State) (start : Nat) (civ : Nat × Nat) (valid : Bool) : List Byte :=
  let f := roundFrac (s.fab start)
  leBytes 8 (s.time.cycle + b2n (!(s.replica 64).valid) * 2 ^ 62 + b2n valid * 2 ^ 63) ++ leBytes 8 (f / 2 ^ 16) ++
    leBytes 8 civ.1 ++ leBytes 4 (civ.2 / wNs) ++ leBytes 2 (f % 2 ^ 16) ++ leBytes 2 0

/-- Write the pair record of a cycle start into the ring, when the ring is on and the cycle is one of its (R70). -/
def State.pairRing (s : State) (start : Nat) (civ : Nat × Nat) (valid : Bool) : State :=
  let cfg := s.reg .time 0 R.TIME_PAIR_RING_CFG
  let n := 2 ^ fld cfg 4 0
  if fld cfg 4 0 = 0 ∨ s.time.cycle % fld cfg 31 16 ≠ 0 then s
  else
    let base := (s.reg .time 0 R.TIME_PAIR_RING_BASE).toNat
    if !s.ddr.trained || !inLpddr base (n * 32) then s.count .time 0 R.TIME_PAIRS_SKIPPED
    else
      ((s.store (base + s.time.pairWr % n * 32) (s.pairBytes start civ valid)).count .time 0 R.TIME_PAIRS_WRITTEN).modTime fun t =>
        { t with pairWr := (t.pairWr + 1) % 2 ^ 32 }

/-- The latch of a cycle start (R70). -/
def State.latchPair (s : State) : State :=
  if !s.feat 23 then s
  else
    let start := s.time.cycStart
    let b := s.latchBase
    let civ := b.civil start
    (s.modTime fun t => { t with pairCycle := t.cycle, pairValid := b.valid, pairFab := roundFrac (s.fab start) / 2 ^ 16,
                                 pairSec := civ.1, pairNs := civ.2 / wNs }).pairRing start civ b.valid

/-! Reads that latch (R73). -/

/-- A read of NOW_NS latches NOW_FRAC and NOW_CYCLE, and answers whole ns. -/
def State.readNow (s : State) : State × Word :=
  let f := s.nowFrac
  (s.modTime fun t => { t with fracLatch := f % 2 ^ 16, cycLatch := t.cycle }, wd (f / 2 ^ 16))

/-- A read of CIVIL_SEC latches CIVIL_NS. -/
def State.readCivilSec (s : State) : State × Word :=
  let c := s.civil s.time.now
  (s.modTime fun t => { t with civNsLatch := c.2 / wNs }, wd c.1)

/-- A read of PAIR_CYCLE latches the other PAIR registers. -/
def State.readPairCycle (s : State) : State × Word :=
  (s.modTime fun t => { t with pairFabL := t.pairFab, pairSecL := t.pairSec, pairNsL := t.pairNs },
   wd (s.time.pairCycle + b2n s.time.pairValid * 2 ^ 63))

/-- NOW_NS_READ: a core reads TIME.NOW_NS (R73). The answer goes to the core that reads, core 0 for a command that names none. -/
def execNowNsRead (s : State) : Host.Outcome State Fault Refusal :=
  .next (s.regRead .time R.TIME_NOW_NS fun t => t.readNow.1.out (.readData 0 t.readNow.2))

/-- CIVIL_SEC_READ: a core reads TIME.CIVIL_SEC (R73). -/
def execCivilSecRead (s : State) : Host.Outcome State Fault Refusal :=
  .next (s.regRead .time R.TIME_CIVIL_SEC fun t => t.readCivilSec.1.out (.readData 0 t.readCivilSec.2))

/-- PAIR_CYCLE_READ: a core reads TIME.PAIR_CYCLE (R73). -/
def execPairCycleRead (s : State) : Host.Outcome State Fault Refusal :=
  .next (s.regRead .time R.TIME_PAIR_CYCLE fun t => t.readPairCycle.1.out (.readData 0 t.readPairCycle.2))

/-! PPS pins. -/

/-- PPS_IN_EDGE: an edge on PPS_IN, captured when it is the one selected (R71). -/
def execPpsInEdge (rising : Bool) (s : State) : Host.Outcome State Fault Refusal :=
  let c := s.reg .mgmt 0 R.MGMT_PPS_IN_CTRL
  if s.feat 23 && bit c 0 && (rising == !bit c 1) then
    .next (s.modTime fun t => { t with ppsInNs := s.nowNs, ppsInSeq := (t.ppsInSeq + 1) % 2 ^ 32 })
  else .next s

/-- The instant of the hub's clock at which civil time reaches its next whole second after now (R72): the least one at which
the rest in w wraps. -/
def State.nextSecond (s : State) : Nat :=
  let left : Int := (wSec - (s.civil s.time.now).2 : Nat)
  let r := 1000000000 + s.civilRate
  s.time.now + ((left * 1000000000 + r - 1) / r).toNat

/-- PPS_OUT_PERIOD in w. -/
def State.ppsPeriod (s : State) : Nat := (s.reg .mgmt 0 R.MGMT_PPS_OUT_PERIOD).toNat * wNs

/-- The next multiple of PPS_OUT_PERIOD of fabric time at or after a fabric instant, and later than the one of the last rise: none
runs twice, over a join step that moves back either (R72, R85). -/
def State.nextPeriodFab (s : State) (f : Nat) : Nat :=
  let per := s.ppsPeriod
  let t := cdiv f per * per
  match s.time.ppsLast with
  | some l => if t ≤ l then (l / per + 1) * per else t
  | none => t

/-- PPS_OUT rises for a period instant of fabric time. -/
def State.ppsRises (s : State) (f : Nat) : State :=
  (s.modTime fun t => { t with ppsRise := t.now, ppsLast := some f }).setPps true

/-- A period instant that a join step from fabric time f0 to f1 passes over runs once, on the step edge (R85). -/
def State.ppsPassed (s : State) (f0 f1 : Nat) : State :=
  if s.feat 23 ∧ s.regF .mgmt 0 R.MGMT_PPS_OUT_CTRL 1 0 = 2 ∧ s.nextPeriodFab f0 < f1 then
    s.ppsRises ((f1 - 1) / s.ppsPeriod * s.ppsPeriod)
  else s

/-- PPS_OUT_EDGE: PPS_OUT rises at the next civil whole second in mode 1, or at the next period instant of fabric time in mode 2
(R72). -/
def execPpsOutEdge (s : State) : Host.Outcome State Fault Refusal :=
  let m := s.regF .mgmt 0 R.MGMT_PPS_OUT_CTRL 1 0
  if !s.feat 23 then .next s
  else if m = 1 ∧ s.time.civValid then
    let s1 := s.atLeast s.nextSecond
    .next ((s1.modTime fun t => { t with ppsRise := t.now }).setPps true)
  else if m = 2 then
    let f := s.nextPeriodFab (s.fab s.time.now)
    .next ((s.atLeast (s.unfab f)).ppsRises f)
  else .next s

/-- PPS_OUT_WIDTH_END: PPS_OUT falls WIDTH µs after its rise (R72). -/
def execPpsOutWidthEnd (s : State) : Host.Outcome State Fault Refusal :=
  if s.time.ppsOut then
    .next ((s.atLeast (s.time.ppsRise + s.regF .mgmt 0 R.MGMT_PPS_OUT_CTRL 23 4 * wUs)).setPps false)
  else .next s

/-- The writes of PPS_OUT_CTRL and PPS_OUT_PERIOD (R72). In mode 0, which has no period, WIDTH is compared with none (DESIGN CHOICE, log
entry 79). -/
def State.writePpsOut (s : State) (po : Nat) (v : Word) : State :=
  let ctrl := if po = R.MGMT_PPS_OUT_CTRL then v else s.reg .mgmt 0 R.MGMT_PPS_OUT_CTRL
  let per := (if po = R.MGMT_PPS_OUT_PERIOD then v else s.reg .mgmt 0 R.MGMT_PPS_OUT_PERIOD).toNat
  let mode := fld ctrl 1 0
  let width := fld ctrl 23 4
  if mode = 3 then s.err .mgmt 0 errReserved 0 po
  else if width = 0 then s.err .mgmt 0 errReserved 4 po
  else if per < 1000 ∨ 10000000000 < per then s.err .mgmt 0 errReserved 0 po
  else if (mode = 1 ∧ 1000000 ≤ width) ∨ (mode = 2 ∧ per ≤ width * 1000) then s.err .mgmt 0 errReserved (if po = R.MGMT_PPS_OUT_CTRL then 4 else 0) po
  else (s.setReg .mgmt 0 po v).holdPps

/-! Diagnostic transmit timestamps (R76). -/

/-- The write of DIAG_TS_CTRL (R76). The table gives PORT bits [25:16] and CLASS_MASK bits [31:24], which share bits 25 and 24: each field
is read from the bits given (DESIGN CHOICE, log entry 80). -/
def State.writeDiag (s : State) (v : Word) : State :=
  let old := s.reg .time 0 R.TIME_DIAG_TS_CTRL
  let on := bit old 0
  let g := fld old 25 16 / 16
  if on && (fld v 25 16 != fld old 25 16 || fld v 31 24 != fld old 31 24) then s.err .time 0 0x0102 0 R.TIME_DIAG_TS_CTRL
  else if on && !bit v 0 then
    let s1 := { s with groups := smMod s.groups g {} fun x => { x with diag := [] } }
    (s1.release (ownerDiag g) [resTsq g]).setReg .time 0 R.TIME_DIAG_TS_CTRL v
  else if !on && bit v 0 then
    let g' := fld v 25 16 / 16
    match s.blocked (ownerDiag g') [resTsq g'] with
    | some r => (s.refuseOwned .time 0 r (s.ownerOf r)).setReg .time 0 R.TIME_DIAG_TS_CTRL (setBit v 0 false)
    | none => (s.takeAll (ownerDiag g') [resTsq g']).setReg .time 0 R.TIME_DIAG_TS_CTRL v
  else s.setReg .time 0 R.TIME_DIAG_TS_CTRL v

/-- DIAG_TS_ENABLE: a write of DIAG_TS_CTRL (R76). -/
def execDiagTsEnable (ctrl : BitVec 32) (s : State) : Host.Outcome State Fault Refusal :=
  .next (s.regWriteV .time 0 R.TIME_DIAG_TS_CTRL (wd ctrl.toNat) State.writeDiag)

/-- A read of DIAG_TS_POP removes the oldest entry and answers it. -/
def State.popDiag (s : State) : State × Word :=
  let g := s.regF .time 0 R.TIME_DIAG_TS_CTRL 25 16 / 16
  if s.regF .time 0 R.TIME_DIAG_TS_CTRL 0 0 = 0 then (s, 0)
  else match (smGet s.groups g {}).diag with
    | [] => (s, 0)
    | w :: rest => ({ s with groups := smMod s.groups g {} fun x => { x with diag := rest } }, w)

/-- DIAG_TS_POP: a core reads TIME.DIAG_TS_POP (R76). -/
def execDiagTsPop (s : State) : Host.Outcome State Fault Refusal :=
  .next (s.regRead .time R.TIME_DIAG_TS_POP fun t => t.popDiag.1.out (.readData 0 t.popDiag.2))

/-! The other writes of the TIME page, and of the PORT page's time registers (R73, R74). -/

/-- Bits a page field of SERVO_CFG is bad at, if any. -/
def servoBad (v : Word) : Option Nat :=
  if fld v 7 0 = 0 ∨ 200 < fld v 7 0 then some 0
  else if 7 < fld v 11 8 then some 8
  else if fld v 15 12 < 4 then some 12
  else if fld v 20 16 = 0 then some 16
  else none

/-- Writes of the TIME page's settings (R73). A write of PAIR_RING_CFG that turns the ring on or sets its size over a PAIR_RING_BASE that
is not aligned to it is accepted: R73 refuses a base alone (DESIGN CHOICE, log entry 81). -/
def State.writeTime (s : State) (po : Nat) (v : Word) : State :=
  let log := s.regF .time 0 R.TIME_PAIR_RING_CFG 4 0
  if po = R.TIME_SERVO_CFG then
    match servoBad v with
    | some b => s.err .time 0 errReserved b po
    | none => s.setReg .time 0 po v
  else if po = R.TIME_HOLDOVER_CFG ∧ (fld v 19 0 = 0 ∨ 1000000 < fld v 19 0) then s.err .time 0 errReserved 0 po
  else if po = R.TIME_DELAY_CFG ∧ fld v 15 0 = 0 then s.err .time 0 errReserved 0 po
  else if po = R.TIME_CIVIL_SET_NS ∧ 1000000000 ≤ fld v 29 0 then s.err .time 0 errReserved 0 po
  else if po = R.TIME_PAIR_RING_BASE ∧ v.toNat % (if log = 0 then 1 else 2 ^ log * 32) ≠ 0 then s.err .time 0 errReserved 0 po
  else if po = R.TIME_PAIR_RING_CFG ∧ fld v 4 0 ≠ 0 ∧ (fld v 4 0 < 6 ∨ 20 < fld v 4 0) then s.err .time 0 errReserved 0 po
  else if po = R.TIME_PAIR_RING_CFG ∧ fld v 31 16 = 0 then s.err .time 0 errReserved 16 po
  else s.setReg .time 0 po v

/-- Writes of a port's time registers. -/
def State.writePortTime (s : State) (p po : Nat) (v : Word) : State :=
  if po = R.PORT_DELAY_ASYM then
    if 100000 < (sext 32 (fld v 31 0)).natAbs then s.err .port p errReserved 0 po else s.setReg .port p po v
  else if po = R.PORT_TIME_CFG then
    let s1 := s.setReg .port p po v
    s1.modPort p fun q => if s.time.hasCycle then q else { q with timeCfg := fld v 7 0 }
  else s.setReg .port p po v

end Sys2Proof.Machine
end

