-- ==== Sys2Proof/Machine/Cycle.lean ====
section
/-! DEFINITION. Cycle starts, the node's commands, the join step and the commands on slates and cuts (R46, R77 to R94, R98, R110 to
R119). -/

namespace Sys2Proof.Machine

open Sys2Proof

/-! The start of a cycle. -/

/-- Every listed port takes something at a cycle start. -/
def State.eachPort (s : State) (f : Nat → State → State) : State := (smKeys s.ports).foldl (fun t p => f p t) s

/-- A port's stage-3 discards of the cycle that ends are reported when they reach LATE_BURST (R109, R311). -/
def State.lateBurst (p : Nat) (s : State) : State :=
  let n := (s.port p).lateN
  let s1 := s.modPort p fun q => { q with lateN := 0 }
  if 0 < n ∧ s.regF .fault 0 R.FAULT_LATE_BURST 15 0 ≤ n then s1.report 0x0006 (s1.partnerOf p) n else s1

/-- What ends with the cycle: the servo's account of its parent, cycles in HOLD_OFF, late bursts (R58, R88, R311). -/
def State.endCycle (s : State) : State :=
  let s1 := if s.inNet && !s.node.bellwether then s.endServoCycle else s
  let s2 := if s1.node.state = .holdOff then s1.count .cycle 0 R.CYCLE_HOLDOFF_CYCLES else s1
  s2.eachPort State.lateBurst

/-- Pending claims that become held at the start of their effective cycle (R96). -/
def PortSt.holdClaims (q : PortSt) (cycle : Nat) : PortSt :=
  { q with claims := q.claims.map fun x => (x.1, { x.2 with held := x.2.held || decide (0 ≤ cycDiff cycle x.2.eff) }) }

/-- What a port does at every cycle start: TIME_CFG comes into force (R74), claims become held (R96), a partial frame ages (R158), REASM_TIMEOUT comes
into force (R160), pauses that are over are forgotten. -/
def State.portCycle (p : Nat) (s : State) : State :=
  let cfg := s.regF .port p R.PORT_TIME_CFG 7 0
  let limit := s.regF .port p R.PORT_PREEMPT_CFG 23 16
  let at_ := s.time.cycStart
  s.modPort p fun q =>
    ({ q with timeCfg := cfg, reasmTo := limit, reasm := q.reasm.map (fun r => { r with idle := r.idle + 1 }), lostWin := [],
              spans := q.spans.filter fun x => decide (at_ < x.to_) } : PortSt).holdClaims s.time.cycle

/-- A SYNC record every PERIOD cycles (R302, R306). -/
def State.syncRec (s : State) : State :=
  let n := s.regF .trace 0 R.TRACE_SYNC_CFG 23 0
  if n = 0 ∨ s.time.cycle % n ≠ 0 then s
  else
    let c := s.civil s.time.cycStart
    s.traceAt 67 (some 4) none none (roundFrac (s.fab s.time.cycStart)) 0x08 (wd (s.time.cycle + b2n s.time.civValid * 2 ^ 63))
      (wd c.1) (wd (c.2 / wNs))

/-- Cycle starts are counted by the jobs that wait (R227, R228), the recovery timers (R173) and the dailies (R300). -/
def State.countCycle (s : State) : State :=
  let aged := s.xfer.jobs.map fun j => { j with waited := j.waited + 1 }
  let s1 := State.rcTimers { s with xfer := { s.xfer with jobs := aged } }
  let n := s.regF .cnt 0 R.CNT_DAILIES_CFG 23 0
  { s1 with cnt := { s1.cnt with period := n } }

/-- What every start of a cycle does once the cycle's number, start and state are set: the pair, the clappers, the counts
(R48, R70, R370). -/
def State.cycleBegin (s : State) (deps : List (Fin 1024 × Int)) : State :=
  let s1 := ((s.eachPort State.portCycle).countCycle.latchPair).syncRec
  s1.sendClappers deps

/-- CANDIDATE at the start of its own cycle 3: the bellwether (R78). -/
def State.candidateStart (s : State) : State :=
  if s.node.zeroAt.isNone ∧ 0 ≤ cycDiff s.time.cycle 3 then
    (s.enter .joined).modNode fun n => { n with bellwether := true }
  else s

/-- STEPPED at the start of cycle N + 3: JOINED when the check has passed, LISTEN otherwise (R78, R86, R94). -/
def State.steppedStart (s : State) : State :=
  match s.node.join with
  | some j =>
    if j.stepped ∧ 0 ≤ cycDiff s.time.cycle (j.n + 3) then
      if j.checked then
        let s1 := ((s.enter .joined).count .cycle 0 R.CYCLE_JOINS).modNode fun n => { n with join := none }
        if s1.node.followed = some s1.ownTb then s1.dropServo.modNode fun n => { n with bellwether := true } else s1
      else s.abortJoin j.parent
    else s
  | none => s

/-- YIELD at the start of own cycle y + 2: LISTEN (R83). -/
def State.yieldStart (s : State) : State :=
  if 0 ≤ cycDiff s.time.cycle (s.node.yieldCycle + 2) then s.toListen s.node.looked else s

/-- HOLD_OFF: the RESUME count (R89). -/
def State.holdOffStart (s : State) : State :=
  if s.offsetBelow s.limResume then
    let n := s.node.resume + 1
    if 8 ≤ n then s.enter .joined else s.modNode fun x => { x with resume := n }
  else s.modNode fun x => { x with resume := 0 }

/-- What a cycle start does to the state of the node (R78, R88 to R90). -/
def State.nodeStartOfCycle (s : State) : State :=
  match s.node.state with
  | .candidate => s.candidateStart
  | .stepped => s.steppedStart
  | .yield => s.yieldStart
  | .joined => s.compareOffset
  | .holdOff =>
    let t := s.compareOffset
    if t.node.state = .holdOff then t.holdOffStart else t
  | _ => s

/-- Changes of state that were deferred to the start of cycle X (R115). -/
def State.flushDeferred (s : State) : State :=
  let l := s.slate.deferred
  if s.slate.cut = .committed then s
  else l.foldl State.runDeferred (s.modSlate fun x => { x with deferred := [] })

/-- The next cycle: its number and exact start (R46). -/
def State.nextCycle (s : State) : State :=
  let at_ := s.time.cycStart + s.ticks * wTick
  (s.runTo at_).modTime fun t => { t with cycle := cycMod (t.cycle + 1), cycStart := at_, prevTicks := s.ticks, cands := [] }

/-- The cut that switched at the start of the last cycle lies behind (R108). -/
def State.cutBehind (s : State) : State := s.modSlate fun x => { x with cutHere := none }

/-- CYCLE_START: a new cycle begins CYCLE_TICKS after the one before (R46, R370). `deps`: CORRECTION of the clappers, by port. -/
def execCycleStart (deps : List (Fin 1024 × Int)) (s : State) : Host.Outcome State Fault Refusal :=
  if !s.time.hasCycle then .next s
  else .next ((s.endCycle.nextCycle.cutBehind.cutCycleStart.flushDeferred.nodeStartOfCycle).cycleBegin deps)

/-! The listen timer, the candidate's cycle 0, the join step. -/

/-- The first tick instant of the hub replica at least 3,200 ticks from now, as an instant of the hub's clock (R82). -/
def State.zeroInstant (s : State) : Nat := s.unfab (cdiv (s.fab s.time.now + 3200 * wTick) wTick * wTick : Nat)

/-- LISTEN_TIMER_EXPIRY: the node becomes a candidate, or restarts the timer at rank 255 (R78, R82). -/
def execListenTimerExpiry (s : State) : Host.Outcome State Fault Refusal :=
  if s.node.state ≠ .listen then .next s
  else
    let s1 := s.atLeast s.node.listenEnd
    if s1.rank = 255 then .next (((s1.count .cycle 0 R.CYCLE_LISTEN_EXPIRED).raise 0x005 0 0).startListen)
    else
      let s2 := (s1.enter .candidate).count .cycle 0 R.CYCLE_CANDIDATE_ENTRIES
      .next ((s2.dropServo).modNode fun n => { n with zeroAt := some s1.zeroInstant, followed := some s1.ownTb, looked := none, heard := [] })

/-- CANDIDATE_CYCLE_ZERO: a candidate starts its cycle 0 (R82). -/
def execCandidateCycleZero (s : State) : Host.Outcome State Fault Refusal :=
  match s.node.state, s.node.zeroAt with
  | .candidate, some at_ =>
    let s1 := (s.runTo at_).modTime fun t => { t with hasCycle := true, cycle := 0, cycStart := at_, prevTicks := s.ticks, cands := [] }
    .next ((s1.modNode fun n => { n with zeroAt := none }).cycleBegin [])
  | _, _ => .next s

/-- Nearest whole number of a ratio, ties to even (R85). -/
def roundEven (n : Int) (d : Nat) : Int :=
  let q := n / (d : Int)
  let r := n % (d : Int)
  if 2 * r < d then q else if (d : Int) < 2 * r then q + 1 else if q % 2 = 0 then q else q + 1

/-- JOIN_STEP: at S − Δ every island sets its replica to S and its cycle number to N + 2, and runs the actions that the step passes
over (R85). -/
def execJoinStep (s : State) : Host.Outcome State Fault Refusal :=
  match s.node.state, s.node.join with
  | .stepped, some j =>
    if j.stepped then .next s
    else
      let at_ := s.unfab (j.sInst - j.delta)
      let s0 := s.runTo at_
      let f0 := s0.fab s0.time.now
      let s1 := s0.modTime fun t =>
        { t with fabOff := t.fabOff + j.delta, hasCycle := true, cycle := cycMod (j.n + 2), cycStart := at_, prevTicks := s.ticks,
                 cands := [] }
      let s2 := ((s1.eventsPassed s1.time.cycle).ppsPassed f0 (s1.fab s1.time.now)).modNode fun n =>
        { n with join := some { j with stepped := true }, joinN := j.n, joinPort := j.parent, stepNs := roundEven j.delta wNs }
      .next ((s2.eachPort fun p t => t.modPort p fun q => { q with lastClap := none, qual := none }).cycleBegin [])
  | _, _ => .next s

/-- JOIN_DETECTOR_DROP: no valid clapper of the timebase looked for has arrived for 2 × CYCLE_TICKS: the detector looks for the best
timebase heard in that interval (R84). -/
def execJoinDetectorDrop (s : State) : Host.Outcome State Fault Refusal :=
  match s.node.state, s.node.looked with
  | .listen, some tb =>
    match s.node.heard.find? fun x => x.1 == tb.1 && x.2.1 == tb.2 with
    | none => .next (s.look (bestHeard s.node.heard))
    | some h =>
      let due := h.2.2 + 2 * s.ticks * wTick
      let s1 := (s.atLeast due).modNode fun n =>
        { n with heard := n.heard.filter fun x => !(x.1 == tb.1 && x.2.1 == tb.2) && decide (h.2.2 < x.2.2) }
      .next (s1.look (bestHeard s1.node.heard))
  | _, _ => .next s

/-! The node's commands. -/

/-- A write of NODE_CTRL that the present state forbids (R98). -/
def State.nodeBusy (s : State) : State := s.err .cycle 0 0x0140 s.node.state.code R.CYCLE_NODE_CTRL

/-- START (R78, R98). -/
def State.nodeStart (s : State) : State := if s.node.state = .off then s.toListen none else s.nodeBusy

/-- STOP (R78, R98, R115). -/
def State.nodeStop (s : State) : State :=
  if s.node.state = .halted then s.nodeBusy else s.orDefer .stop State.toOff

/-- CLEAR_HALT (R78, R98). -/
def State.clearHalt (s : State) : State := if s.node.state = .halted then s.toOff else s.nodeBusy

/-- The write of NODE_CTRL: ADOPT, START, STOP, CLEAR_HALT in this order (R98). -/
def State.writeNodeCtrl (s : State) (v : Word) : State :=
  let s1 := if bit v 2 then s.adopt else s
  let s2 := if bit v 0 then s1.nodeStart else s1
  let s3 := if bit v 1 then s2.nodeStop else s2
  if bit v 3 then s3.clearHalt else s3

/-- NODE_START: a write of NODE_CTRL.START (R78). -/
def execNodeStart (s : State) : Host.Outcome State Fault Refusal := .next (s.regWrite .cycle 0 R.CYCLE_NODE_CTRL State.nodeStart)

/-- NODE_STOP: a write of NODE_CTRL.STOP (R78). -/
def execNodeStop (s : State) : Host.Outcome State Fault Refusal := .next (s.regWrite .cycle 0 R.CYCLE_NODE_CTRL State.nodeStop)

/-- ADOPT: a write of NODE_CTRL.ADOPT (R81). -/
def execAdopt (s : State) : Host.Outcome State Fault Refusal := .next (s.regWrite .cycle 0 R.CYCLE_NODE_CTRL State.adopt)

/-- ADOPT_SWITCH: the validation an ADOPT waited for has passed, and the staged slate becomes live (R81). -/
def execAdoptSwitch (s : State) : Host.Outcome State Fault Refusal := .next s.adoptSwitch

/-- CLEAR_HALT: a write of NODE_CTRL.CLEAR_HALT (R78). -/
def execClearHalt (s : State) : Host.Outcome State Fault Refusal := .next (s.regWrite .cycle 0 R.CYCLE_NODE_CTRL State.clearHalt)

/-! Slates and cuts. -/

/-- SLATE_TABLE_WRITE: a core writes a word of a slate table, or an RWC register of the CYCLE or STREAM page, at a region offset
(R38, R39, R100). -/
def execSlateTableWrite (off : Nat) (value : Word) (s : State) : Host.Outcome State Fault Refusal :=
  if 0x04000000 ≤ off ∧ off < 0x05000000 then
    .next (if s.pwr.held then s
           else if !offMapped (off % 0x800000) then s.err .cycle 0 errUnmapped 0 off
           else if off % 8 ≠ 0 then s.err .cycle 0 errSize 0 off
           else if !s.featOk then s.err .global 0 errNotReady 0 off
           else s.writeTable off value)
  else match pageAt off with
    | some (⟨k, 0⟩, po) =>
      (match findRow k po with
       | some (r, _) => if r.acc = .rwc then .next (s.regWriteV k 0 po value fun t v => t.writeRwc k po v) else .next s
       | none => .next s)
    | _ => .next s

/-- SLATE_CHECK: a write of SLATE_CTRL.CHECK (R110). -/
def execSlateCheck (s : State) : Host.Outcome State Fault Refusal :=
  .next (s.regWrite .cycle 0 R.CYCLE_SLATE_CTRL State.slateCheck)

/-- VALIDATION_END: the validation that runs ends (R110). -/
def execValidationEnd (s : State) : Host.Outcome State Fault Refusal :=
  if s.slate.check = .running then .next s.validationDone else .next s

/-- CUT_ARM: a write of CUT_CYCLE (R112). -/
def execCutArm (x : BitVec 48) (s : State) : Host.Outcome State Fault Refusal :=
  .next (s.regWrite .cycle 0 R.CYCLE_CUT_CYCLE fun t => t.writeCutCycle x.toNat)

/-- CUT_CANCEL: a write of SLATE_CTRL.CANCEL (R114). -/
def execCutCancel (s : State) : Host.Outcome State Fault Refusal :=
  .next (s.regWrite .cycle 0 R.CYCLE_SLATE_CTRL State.cutCancel)

/-! The other writes of the CYCLE page (R92, R98). -/

/-- Writes of the CYCLE page's settings. -/
def State.writeCycle (s : State) (po : Nat) (v : Word) : State :=
  if po = R.CYCLE_NODE_CFG then
    if s.node.state ≠ .off then s.err .cycle 0 0x0140 s.node.state.code po
    else if fld v 31 24 = 0 then s.err .cycle 0 errReserved 24 po
    else s.setReg .cycle 0 po v
  else if po = R.CYCLE_OFFSET_CFG then
    if fld v 7 0 = 0 then s.err .cycle 0 errReserved 0 po
    else if fld v 15 8 ≤ fld v 7 0 then s.err .cycle 0 errReserved 8 po
    else if fld v 31 16 ≤ fld v 15 8 then s.err .cycle 0 errReserved 16 po
    else s.setReg .cycle 0 po v
  else if po = R.CYCLE_CLAIM_CFG ∧ fld v 15 0 = 0 then s.err .cycle 0 errReserved 0 po
  else if po = R.CYCLE_CLAIM_CFG ∧ fld v 19 16 = 0 then s.err .cycle 0 errReserved 16 po
  else s.setReg .cycle 0 po v

end Sys2Proof.Machine
end

