-- ==== Sys2Proof/Machine/Claims.lean ====
section
/-! DEFINITION. Spare-slot claims, on the claimant's and on the partner's side (R95 to R97, R99, R192). -/

namespace Sys2Proof.Machine

open Sys2Proof

/-! The claimant. -/

/-- Owner X is listed in CLAIM_OWNERS (R95, R98). -/
def State.claimListed (s : State) (x : Nat) : Bool :=
  x != 0 && [R.CYCLE_CLAIM_OWNERS0, R.CYCLE_CLAIM_OWNERS1, R.CYCLE_CLAIM_OWNERS2, R.CYCLE_CLAIM_OWNERS3].any fun po =>
    s.regF .cycle 0 po 15 0 == x || s.regF .cycle 0 po 31 16 == x

/-- The node claims owner X on port p (R95, R135). -/
def State.claimReady (s : State) (p x : Nat) : Bool :=
  s.node.state == .joined && s.feat 12 && s.isUp p && !(s.port p).link.sleeping && s.linkBit p 5 && s.claimListed x
    && s.live.marksGate p x

/-- Send a CLAIM for owner X in the first window of class 6 that can hold it (R95): one that waits already is not doubled. -/
def State.sendClaim (s : State) (p x : Nat) : State :=
  let dep := s.nominalDep p
  if (s.port p).waits fun o => o == .claim x then s.push p 6 dep else s.sendOwn p (s.linkFrame p 6 tClaim (.claim x)) dep

/-- Change this node's claim on owner X of a port. -/
def State.modMine (s : State) (p x : Nat) (f : MyClaim → MyClaim) : State :=
  s.modPort p fun q => { q with mine := q.mine.map fun m => if m.owner = x then f m else m }

/-- This node's claim on owner X of a port. -/
def State.mineOf (s : State) (p x : Nat) : Option MyClaim := (s.port p).mine.find? fun m => m.owner == x

/-- CLAIM_TX: a JOINED node claims a listed owner on a port (R95). -/
def execClaimTx (p : Fin 1024) (owner : BitVec 16) (s : State) : Host.Outcome State Fault Refusal :=
  let x := owner.toNat
  if s.claimReady p x && (s.mineOf p x).isNone then
    .next ((s.modPort p fun q =>
      { q with mine := q.mine ++ [{ owner := x, sent := s.time.cycle, tries := 1, phase := .waiting }] }).sendClaim p x)
  else .next s

/-- CLAIM_RETRY: a CLAIM without an answer for 8 cycles is sent again, up to CLAIM_TRIES times in all; then CLAIM_NO_ANSWER (R95). -/
def execClaimRetry (p : Fin 1024) (owner : BitVec 16) (s : State) : Host.Outcome State Fault Refusal :=
  let x := owner.toNat
  match s.mineOf p x with
  | some m =>
    if m.phase ≠ .waiting ∨ cycDiff s.time.cycle m.sent < 8 then .next s
    else if (s.port p).waits fun o => o == .claim x then .next (s.sendClaim p x)
    else if s.regF .cycle 0 R.CYCLE_CLAIM_CFG 19 16 ≤ m.tries then
      .next ((s.modMine p x fun m => { m with phase := .noAnswer }).raise 0x00C p x)
    else if s.claimReady p x then
      .next ((s.modMine p x fun m => { m with sent := s.time.cycle, tries := m.tries + 1 }).sendClaim p x)
    else .next s
  | none => .next s

/-- CLAIM_REFRESH: the holder repeats its CLAIM every CLAIM_REFRESH cycles (R97). -/
def execClaimRefresh (p : Fin 1024) (owner : BitVec 16) (s : State) : Host.Outcome State Fault Refusal :=
  let x := owner.toNat
  match s.mineOf p x with
  | some m =>
    let due := decide ((s.regF .cycle 0 R.CYCLE_CLAIM_CFG 15 0 : Int) ≤ cycDiff s.time.cycle m.sent)
    match m.phase with
    | .acked _ =>
      if due && s.claimReady p x then .next ((s.modMine p x fun m => { m with sent := s.time.cycle }).sendClaim p x)
      else .next s
    | _ => .next s
  | none => .next s

/-- A CLAIM_ACK reaches the claimant (R97, R192). -/
def State.claimAck (s : State) (p x : Nat) : State :=
  match s.mineOf p x with
  | some m =>
    match m.phase with
    | .waiting =>
      let a := cycMod (m.sent + 2)
      let b := cycMod (s.time.cycle + 1)
      s.modMine p x fun m => { m with phase := .acked (if 0 ≤ cycDiff a b then a else b) }
    | .acked _ => s
    | _ => s.countP p R.PORT_CLAIM_ANSWER_STRAY
  | none => s.countP p R.PORT_CLAIM_ANSWER_STRAY

/-- A CLAIM_REFUSED reaches the claimant (R97, R192). -/
def State.claimNo (s : State) (p x reason : Nat) : State :=
  let r := if 1 ≤ reason ∧ reason ≤ 4 then reason else 1
  match s.mineOf p x with
  | some m =>
    match m.phase with
    | .waiting | .acked _ => (s.modMine p x fun m => { m with phase := .refused }).raise 0x00D p (x + r * 2 ^ 16)
    | _ => s.countP p R.PORT_CLAIM_ANSWER_STRAY
  | none => s.countP p R.PORT_CLAIM_ANSWER_STRAY

/-- CLAIM_ACK_RX: a CLAIM_ACK that has passed stage 5 (R97). -/
def execClaimAckRx (p : Fin 1024) (owner : BitVec 16) (_effective : BitVec 48) (s : State) : Host.Outcome State Fault Refusal :=
  if s.isUp p then .next (s.claimAck p owner.toNat) else .next (s.notUp p)

/-- CLAIM_REFUSED_RX: a CLAIM_REFUSED that has passed stage 5 (R97). -/
def execClaimRefusedRx (p : Fin 1024) (owner : BitVec 16) (reason : Nat) (s : State) : Host.Outcome State Fault Refusal :=
  if s.isUp p then .next (s.claimNo p owner.toNat reason) else .next (s.notUp p)

/-! The partner. -/

/-- Queue an answer for the next class-6 window of the port (R96, R192). -/
def State.answer (s : State) (p typ dst ctr : Nat) (payload : List Byte) : State :=
  ((s.enqueue p { cls := 6, typ, origin := .own, frame := s.claimFrame p typ dst payload }).countP p ctr).arrived p

/-- Answer CLAIM_REFUSED (R96). -/
def State.refuseClaim (s : State) (p x dst asked reason holder : Nat) : State :=
  s.answer p tClaimRefused dst R.PORT_CLAIM_REFUSED_TX (claimBytes x asked reason holder)

/-- The entries of all ports that hold owner X, or have it pending, for a node other than one: port, index, entry. -/
def State.claimOthers (s : State) (x src : Nat) : List (Nat × Nat × ClaimEnt) :=
  s.ports.flatMap fun q =>
    (q.2.claims.filter fun e => e.2.owner == x && e.2.holder != src).map fun e => (q.1, e.1, e.2)

/-- A foreign entry gives way to a claim of this cycle from a node: it is pending, was made in the same cycle, by a node with a
higher node ID (R96, check 2). -/
def State.givesWay (s : State) (src : Nat) (e : ClaimEnt) : Bool :=
  !e.held && e.cycle == s.time.cycle && decide (src < e.holder)

/-- A pending claim is withdrawn in favour of a node, and refused LOWER_ID_WON (R96). -/
def State.withdraw (s : State) (src : Nat) (e : Nat × Nat × ClaimEnt) : State :=
  (s.modPort e.1 fun t => { t with claims := smErase t.claims e.2.1 }).refuseClaim e.1 e.2.2.owner e.2.2.holder e.2.2.asked 3 src

/-- Accept a claim: refresh the node's own entry on the port, or write a pending one (R96, checks 3 and 4). -/
def State.acceptClaim (s : State) (p x src asked : Nat) : State :=
  let c := s.time.cycle
  match (s.port p).claims.find? fun e => e.2.owner == x && e.2.holder == src with
  | some e =>
    (s.modPort p fun q => { q with claims := smSet q.claims e.1 { e.2 with fresh := c } }).answer p tClaimAck src
      R.PORT_CLAIM_ACK_TX (claimBytes x e.2.eff (b2n e.2.held) 0)
  | none =>
    match lowest 64 fun i => (smFind (s.port p).claims i).isNone with
    | none => s.refuseClaim p x src asked 4 0
    | some i =>
      let e : ClaimEnt := { owner := x, holder := src, eff := cycMod (c + 2), held := false, cycle := c, asked, fresh := c }
      (s.modPort p fun q => { q with claims := smSet q.claims i e }).answer p tClaimAck src R.PORT_CLAIM_ACK_TX
        (claimBytes x e.eff 0 0)

/-- A CLAIM is decided (R96). In HOLD_OFF it is discarded (R88). -/
def State.claimIn (s : State) (p src x asked : Nat) : State :=
  let s1 := s.countP p R.PORT_CLAIM_RX
  if s.node.state = .holdOff then s1.countP p R.PORT_CLAIM_DROPPED
  else if !s.feat 12 || !s.live.marksSlot p x then s1.refuseClaim p x src asked 1 0
  else
    let l := s.claimOthers x src
    match l.find? fun e => !s.givesWay src e.2.2 with
    | some e => s1.refuseClaim p x src asked 2 e.2.2.holder
    | none => (l.foldl (fun t e => t.withdraw src e) s1).acceptClaim p x src asked

/-- CLAIM_RX: a CLAIM that has passed stage 5 is decided and answered (R96). -/
def execClaimRx (p : Fin 1024) (src owner : BitVec 16) (cycle : BitVec 48) (s : State) : Host.Outcome State Fault Refusal :=
  if s.isUp p then .next (s.claimIn p src.toNat owner.toNat cycle.toNat) else .next (s.notUp p)

/-- CLAIM_EXPIRED: an entry with no refresh for 4 × CLAIM_REFRESH cycles is freed (R97). -/
def execClaimExpired (p : Fin 1024) (index : Fin 64) (s : State) : Host.Outcome State Fault Refusal :=
  match smFind (s.port p).claims index with
  | some e =>
    if 4 * (s.regF .cycle 0 R.CYCLE_CLAIM_CFG 15 0 : Int) ≤ cycDiff s.time.cycle e.fresh then
      .next ((s.modPort p fun q => { q with claims := smErase q.claims index }).countP p R.PORT_CLAIM_RELEASED)
    else .next s
  | none => .next s

/-- A port that retrains, sleeps or goes down frees its claims (R97, R132). -/
def State.freeClaims (s : State) (p : Nat) : State :=
  let n := (s.port p).claims.length
  (s.modPort p fun q => { q with claims := [], mine := [] }).countN .port p R.PORT_CLAIM_RELEASED n

end Sys2Proof.Machine
end

