-- ==== Sys2Proof/Machine/Queues.lean ====
section
/-! DEFINITION. Submission queues: windows, doorbells, inline pushes, polls, stops, POST deposits, arbitration (R215 to R224, R231 to
R234). -/

namespace Sys2Proof.Machine

open Sys2Proof

/-! Windows. -/

/-- Region offsets of the windows of a queue and of a ring (R25, R234, R250). -/
def dbWin (q off : Nat) : Nat := 0x01000000 + q * 0x40 + off
def sqWin (q off : Nat) : Nat := 0x02000000 + q * 0x40 + off
def cqWin (c off : Nat) : Nat := 0x03000000 + c * 0x40 + off

/-- An access to a window at a region offset acts as `f`, or is refused before FEAT_OK: with NOT_READY when the register holds a
value, and without effect when it only acts (R32, R33). While internal reset is held no core runs. -/
def State.winGuard (s : State) (roff : Nat) (held : Bool) (f : State → State) : State :=
  if s.pwr.held then s
  else if s.featOk then f s
  else if held then s.err .global 0 errNotReady 0 roff
  else s

/-- Units of a queue's ring. -/
def SqSt.units (x : SqSt) : Nat := 2 ^ x.log2

/-- Outstanding units of a queue (R216). -/
def SqSt.out (x : SqSt) : Nat := posDiff x.units x.tail x.head

/-- Address of the unit at a position of a queue's ring (R215, R216). -/
def SqSt.unitAddr (x : SqSt) (pos : Nat) : Nat := x.base + pos % 2 ^ 16 * 32

/-- The PHASE that is current at a position (R217). -/
def phaseAt (pos : Nat) : Bool := !nbit pos 16

/-- PHASE, UNITS + 1 and KIND of a unit (R217). -/
def unitPhase (u : List Byte) : Bool := nbit (beAt u 0 1) 0
def unitLen (u : List Byte) : Nat := bitsOf (beAt u 0 1) 3 1 + 1
def unitKind (u : List Byte) : Nat := bitsOf (beAt u 0 1) 7 4

/-- The unit at a position of a queue's ring. -/
def State.unitAt (s : State) (q pos : Nat) : List Byte := s.readMem ((s.queue q).unitAddr pos) 32

/-! Stops (R223). -/

/-- A queue stops with a code; an entry being copied is dropped (R223, R233). -/
def State.stopQueue (s : State) (q code info : Nat) : State :=
  let s1 := s.modQueue q fun x => { x with stopped := true, stopCode := code, copying := [] }
  let s2 := ((s1.err .xfer 0 (0x017F + code) q info).cause .xfer 0 16).count .xfer 0 R.XFER_SQ_STOPS
  { s2 with xfer := { s2.xfer with lastStop := q + code * 2 ^ 16 } }.raise 0x01C q code

/-! Doorbells and inline pushes (R219, R220). -/

/-- A doorbell or a completed push reaches a queue, with T and the window offset of its store; whether it was accepted (R219). -/
def State.ring219 (s : State) (q t off : Nat) : State × Bool :=
  let x := s.queue q
  let n := x.units
  let a := posDiff n t x.tail
  if !x.enabled then (s.err .xfer 0 0x0186 q off, false)
  else if x.remote then (s.err .xfer 0 0x0187 q off, false)
  else if x.stopped then (s.count .xfer 0 R.XFER_DB_STALE, false)
  else if n ≤ t % 2 ^ 16 then (s.stopQueue q 1 t, false)
  else if a = 0 then (s.count .xfer 0 R.XFER_DOORBELLS, false)
  else if a ≤ n - x.out then ((s.modQueue q fun x => { x with tail := t % 2 ^ 17 }).count .xfer 0 R.XFER_DOORBELLS, true)
  else if n ≤ a then (s.count .xfer 0 R.XFER_DB_STALE, false)
  else (s.stopQueue q 1 t, false)

/-- The 32-bit store of a doorbell (R219). -/
def State.doorbell (s : State) (q value : Nat) : State := (s.ring219 q value 0).1

/-- DOORBELL: a 32-bit store to the doorbell window of a queue. -/
def execDoorbell (q : Fin 4096) (value : BitVec 32) (s : State) : Host.Outcome State Fault Refusal :=
  .next (s.winGuard (dbWin q.val 0) false fun t => (t.doorbell q.val value.toNat).pace)

/-- Bytes of the words of a push, in memory order. -/
def wordBytes (ws : List Word) : List Byte := ws.flatMap fun w => leBytes 8 w.toNat

/-- The last word of a push has arrived: it acts as a doorbell, and its copy fills the front buffer (R220). -/
def State.pushDone (s : State) (q off : Nat) (ws : List Word) : State :=
  let x := s.queue q
  let s1 := (s.modQueue q fun x => { x with inl := [] }).count .xfer 0 R.XFER_INLINE_PUSHES
  let r := s1.ring219 q (posAdd x.units x.tail (ws.length / 4)) off
  if x.front.isSome then r.1.count .xfer 0 R.XFER_INLINE_DISCARDED
  else if r.2 then r.1.modQueue q fun y => { y with front := some (x.tail, wordBytes ws) }
  else r.1

/-- A partial push is abandoned (R220). -/
def State.pushAbort (s : State) (q off : Nat) : State :=
  ((s.modQueue q fun x => { x with inl := [] }).err .xfer 0 0x0183 q off).count .xfer 0 R.XFER_INLINE_ABORTED

/-- A 64-bit store of an inline push to word `i` of the window (R220). -/
def State.inlineStore (s : State) (q i : Nat) (v : Word) : State :=
  let ws := (s.queue q).inl
  if !s.feat 13 then s.err .xfer 0 errFeat 13 (dbWin q (8 * i))
  else if i ≠ ws.length then s.pushAbort q (8 * i)
  else
    let ws' := ws ++ [v]
    let units := fld (nth ws' 0 0) 3 1 + 1
    if 2 < units then s.pushAbort q (8 * i)
    else if ws'.length = 4 * units then s.pushDone q (8 * i) ws'
    else s.modQueue q fun x => { x with inl := ws' }

/-- INLINE_STORE: a 64-bit store to the doorbell window of a queue. -/
def execInlineStore (q : Fin 4096) (index : Fin 8) (value : Word) (s : State) : Host.Outcome State Fault Refusal :=
  .next (s.winGuard (dbWin q.val (8 * index.val)) false fun t => (t.inlineStore q.val index.val value).pace)

/-! Polls (R221). -/

/-- The queue can be polled. -/
def SqSt.polls (x : SqSt) : Bool :=
  x.enabled && !x.stopped && !x.remote && x.poll != 0 && x.head == x.tail && x.front.isNone

/-- The units of a found entry: those after the first are read; every one must be current (R221). -/
def State.pollRest (s : State) (q : Nat) (units : Nat) : State :=
  let x := s.queue q
  let ps := (List.range units).map fun i => posAdd x.units x.tail i
  let s1 := if units = 1 then s else (ps.drop 1).foldl (fun t p => t.eccRead (x.unitAddr p) 32) (s.count .xfer 0 R.XFER_POLLS)
  match ps.find? fun p => s.readFails (x.unitAddr p) 32 with
  | some p => s1.stopQueue q 3 p
  | none =>
    if ps.all fun p => unitPhase (s1.unitAt q p) == phaseAt p then
      (s1.modQueue q fun y => { y with front := some (x.tail, ps.flatMap fun p => s1.unitAt q p),
                                       tail := posAdd x.units x.tail units }).count .xfer 0 R.XFER_POLL_HITS
    else s1

/-- The instant of a queue's next poll: the first at a multiple of POLL_INTERVAL after the enable or the last poll that is not past
(R221; log entry 85). -/
def State.pollDue (s : State) (x : SqSt) : Nat :=
  x.pollAt + max 1 (cdiv (s.time.now - x.pollAt) (x.poll * wPoll)) * (x.poll * wPoll)

/-- SQ_POLL: the interval of a polled queue has passed. -/
def execSqPoll (q : Fin 4096) (ecc : EccList) (s : State) : Host.Outcome State Fault Refusal :=
  let x := s.queue q.val
  let s0 := s.arise ecc
  if x.polls then
    let due := s.pollDue x
    let t := (s0.atLeast due).modQueue q.val fun y => { y with pollAt := due }
    let s1 := (t.count .xfer 0 R.XFER_POLLS).eccRead (x.unitAddr x.tail) 32
    if s0.readFails (x.unitAddr x.tail) 32 then .next (s1.stopQueue q.val 3 x.tail)
    else if unitPhase (s1.unitAt q.val x.tail) == phaseAt x.tail then .next (s1.pollRest q.val (unitLen (s1.unitAt q.val x.tail))).pace
    else .next s1
  else .next s0

/-! POST (R194, R224). -/

/-- The POST checks in order: the number of the first that fails (R224). -/
def State.postCheck (s : State) (q units src key : Nat) (entry : List Byte) : Option Nat :=
  let x := s.queue q
  if !(x.enabled && !x.stopped && x.remote) then some 1
  else if src ≠ x.producer then some 2
  else if key ≠ x.key then some 3
  else if units ≠ unitLen entry then some 4
  else if x.units < x.out + units then some 5
  else none

/-- A unit with a PHASE. -/
def withPhase (u : List Byte) (ph : Bool) : List Byte :=
  match u with
  | [] => []
  | b :: bs => BitVec.ofNat 8 (b.toNat / 2 * 2 + b2n ph) :: bs

/-- A POST past stage 6: it is deposited at TAIL, or rejected (R194, R224). -/
def State.postIn (s : State) (src key : Nat) (b : List Byte) : State :=
  let q := beAt b 0 2 % 4096
  let units := beAt b 2 1
  let entry := b.drop 8
  let x := s.queue q
  match s.postCheck q units src key entry with
  | some k =>
    let ctr := nth [R.XFER_POST_NOT_REMOTE, R.XFER_POST_SOURCE, R.XFER_POST_KEY, R.XFER_POST_UNITS] (k - 1) R.XFER_POST_NO_ROOM
    ((s.count .xfer 0 ctr).cause .xfer 0 17).raise 0x01D (q + k * 0x1000) src
  | none =>
    let s1 := (List.range units).foldl (fun t i =>
      let p := posAdd x.units x.tail i
      t.store (x.unitAddr p) (withPhase ((entry.drop (32 * i)).take 32) (phaseAt p))) s
    (s1.modQueue q fun x => { x with tail := posAdd x.units x.tail units }).count .xfer 0 R.XFER_POST_DEPOSITED

/-! Arbitration (R231, R232). -/

/-- Units granted and still being copied. -/
def SqSt.granted (x : SqSt) : Nat := (x.copying.map Prod.fst).sum

/-- Entries of all queues being copied. -/
def State.copies (s : State) : Nat := (s.sq.map fun x => x.2.copying.length).sum

/-- The entry of the ring at a position: its length, its KIND code, false. One that runs past TAIL waits; a unit whose PHASE is stale
or that is poisoned is granted alone, and stops the queue when it has been copied (R222). -/
def State.ringEntry (s : State) (q fp : Nat) : Option (Nat × Nat × Bool) :=
  let x := s.queue q
  if fp = x.tail then none
  else
    let u := s.unitAt q fp
    if s.readFails (x.unitAddr fp) 32 || unitPhase u != phaseAt fp then some (1, 0, false)
    else if unitLen u ≤ posDiff x.units x.tail fp then some (unitLen u, unitKind u, false)
    else none

/-- The next entry to grant from a queue: none when there is none to fetch; else its length, its KIND code, and whether it is the
front buffer's (R222). -/
def State.nextEntry (s : State) (q : Nat) : Option (Nat × Nat × Bool) :=
  let x := s.queue q
  let fp := posAdd x.units x.head x.granted
  match x.front with
  | some (pos, bytes) =>
    if pos = x.head then (if x.copying.isEmpty then some (unitLen bytes, unitKind bytes, true) else none)
    else if pos = fp then none else s.ringEntry q fp
  | none => s.ringEntry q fp

/-- A FENCE of the queue is waiting, or is among the entries being copied (R229). -/
def State.fenced (s : State) (q : Nat) : Bool :=
  (s.xfer.jobs.any fun j => j.queue == q && j.kind == .fence) || (s.queue q).copying.any Prod.snd

/-- A queue is eligible (R231). -/
def State.eligible (s : State) (q : Nat) : Bool :=
  let x := s.queue q
  x.enabled && !x.stopped && !s.fenced q
    && decide (s.queueInFlight q + x.copying.length < fld x.arb 30 16)
    && !s.blockedRing x.cq
    && decide (s.inFlight + s.copies < 16384)
    && (s.nextEntry q).isSome

/-- WEIGHT and BURST of a queue in force (R232). -/
def State.weight (s : State) (q : Nat) : Nat := fld (s.queue q).arb 7 0
def State.burst (s : State) (q : Nat) : Nat := fld (s.queue q).arb 14 8

/-- The eligible queues, ascending. -/
def State.eligibles (s : State) : List Nat := (smKeys s.sq).filter s.eligible

/-- The visit that follows the present one in the present round: the first pass and queue, in round order, of an eligible queue of
enough weight (R231). -/
def State.nextVisit (s : State) : Option (Nat × Nat) :=
  let cand := s.eligibles.filterMap fun q =>
    let pass := if s.xfer.visit < q then s.xfer.pass else s.xfer.pass + 1
    if pass < s.weight q then some (pass, q) else none
  (sortBy (fun v => v.1 * 4096 + v.2) cand).head?

/-- The queue of the present visit may be granted once more (R231). -/
def State.stays (s : State) : Bool :=
  let q := s.xfer.visit
  s.eligible q && decide (s.xfer.burst < s.burst q) && decide (s.xfer.pass < s.weight q)

/-- A commit of SQ_ARB that is pending takes effect for every queue (R36, R232). -/
def State.arbApply (s : State) : State :=
  if (s.hdr .xfer 0).pending then
    let s1 := s.xfer.arbPend.foldl (fun t e => t.modQueue e.1 fun x => { x with arb := e.2 }) s
    ({ s1 with xfer := { s1.xfer with arbPend := [] } }.modHdr .xfer 0 fun h =>
      { h with pending := false, appliedSeq := h.commitSeq }).cause .xfer 0 causeCommit
  else s

/-- A new round begins (R231, R232). -/
def State.newRound (s : State) : State :=
  let s1 := s.arbApply
  { s1 with xfer := { s1.xfer with pass := 0, visit := 0, burst := 0 } }

/-- The round has no grant left. -/
def State.roundOver (s : State) : Bool := !s.stays && s.nextVisit.isNone

/-- The arbiter moves to the queue it grants next, which becomes the present visit (R231). -/
def State.arbitrate (s : State) : State × Option Nat :=
  let s0 := if s.roundOver then s.newRound else s
  if s0.stays then ({ s0 with xfer := { s0.xfer with burst := s0.xfer.burst + 1 } }, some s0.xfer.visit)
  else match s0.nextVisit with
    | some (pass, q) => ({ s0 with xfer := { s0.xfer with pass, visit := q, burst := 1 } }, some q)
    | none => (s0, none)

/-! The configuration window (R215, R224, R232 to R234). -/

/-- Fields of SQ_CFG other than ENABLE: REMOTE, LOG2_UNITS, CQ. -/
def sqCfgOf (v : Word) : Bool × Nat × Nat := (bit v 1, fld v 7 3, fld v 17 8)

/-- The window offset of the register that keeps a queue from being enabled (R215, R233). -/
def State.sqBad (s : State) (x : SqSt) : Option Nat :=
  let size := x.units * 32
  if x.log2 < 4 ∨ 16 < x.log2 then some 0x08
  else if x.base % size ≠ 0 ∨ !s.inMap x.base size then some 0x00
  else if !(s.ring x.cq).enabled then some 0x08
  else if x.remote ∧ x.poll ≠ 0 then some 0x10
  else none

/-- A queue is disabled (R233). The jobs of the queue that wait for a pulse or a zone finish with ABORTED. -/
def State.sqOff (s : State) (q : Nat) : State :=
  let s1 := s.departs.modQueue q fun x => { x with enabled := false, front := none, inl := [], copying := [] }
  s1.finishAll ((s1.xfer.jobs.filter fun j =>
    j.queue == q && (j.kind == .expect || (j.kind == .sendOnEvent && !j.pulsed && !j.started && !j.done))).map fun j => (j, stAborted))

/-- A queue is enabled (R216). -/
def State.sqOn (s : State) (q : Nat) : State :=
  s.modQueue q fun x => { x with enabled := true, head := 0, tail := 0, stopped := false, stopCode := 0, front := none, inl := [],
                                 copying := [], pollAt := s.time.now }

/-- The write of SQ_CFG (R224, R233). -/
def State.writeSqCfg (s : State) (q : Nat) (v : Word) : State :=
  let x := s.queue q
  let c := sqCfgOf v
  if x.enabled then
    if (x.remote, x.log2, x.cq) ≠ c then s.err .xfer 0 0x0184 q 0x08
    else if bit v 0 then s
    else s.sqOff q
  else if c.1 && !s.feat 15 then s.err .xfer 0 errFeat 15 (sqWin q 0x08)
  else
    let s1 := s.modQueue q fun x => { x with remote := c.1, log2 := c.2.1, cq := c.2.2 }
    if bit v 0 then
      match s1.sqBad (s1.queue q) with
      | some off => s1.refuseEnable .xfer 0 0x0185 q off
      | none => s1.sqOn q
    else s1

/-- The lowest bit of the field of SQ_ARB that a write gives a value it refuses (R234). -/
def arbBad (v : Word) : Option Nat :=
  if fld v 7 0 = 0 then some 0
  else if fld v 14 8 = 0 ∨ 64 < fld v 14 8 then some 8
  else if fld v 30 16 = 0 ∨ 16384 < fld v 30 16 then some 16
  else none

/-- A write to a register of the configuration window of a queue (R221, R232 to R234). -/
def State.writeSq (s : State) (q off : Nat) (v : Word) : State :=
  let busy := (s.queue q).enabled
  if off = 0x08 then s.writeSqCfg q v
  else if off = 0x0C then
    (match arbBad v with
     | some b => s.err .xfer 0 errReserved b (sqWin q off)
     | none => s.modQueue q fun x => { x with arbShadow := v &&& 0x7FFF7FFF#64 })
  else if off = 0x10 then
    if fld v 15 0 ≠ 0 ∧ !s.feat 14 then s.err .xfer 0 errFeat 14 (sqWin q off)
    else s.modQueue q fun x => { x with poll := fld v 15 0 }
  else if off = 0x00 ∨ off = 0x14 ∨ off = 0x18 then
    if busy then s.err .xfer 0 0x0184 q off
    else if off = 0x00 then s.modQueue q fun x => { x with base := fld v 47 0 }
    else if off = 0x14 then s.modQueue q fun x => { x with producer := fld v 15 0 }
    else s.modQueue q fun x => { x with key := fld v 31 0 }
  else s

/-- SQ_ENABLE: a write of SQ_CFG with ENABLE 1. -/
def execSqEnable (q : Fin 4096) (cfg : BitVec 32) (s : State) : Host.Outcome State Fault Refusal :=
  .next (s.winGuard (sqWin q.val 0x08) true fun t => (t.writeSqCfg q.val (setBit (cfg.setWidth 64) 0 true)).pace)

/-- SQ_DISABLE: a write of SQ_CFG with ENABLE 0. -/
def execSqDisable (q : Fin 4096) (cfg : BitVec 32) (s : State) : Host.Outcome State Fault Refusal :=
  .next (s.winGuard (sqWin q.val 0x08) true fun t => (t.writeSqCfg q.val (setBit (cfg.setWidth 64) 0 false)).pace)

end Sys2Proof.Machine
end

