-- ==== Sys2Proof/Machine/CqCmds.lean ====
section
/-! DEFINITION. Completion rings as the driver sees them: head writes, held entries, notification, enabling; the timestamp queues of
the port groups (R235 to R251). -/

namespace Sys2Proof.Machine

open Sys2Proof

/-- The write of CQ_HEAD (R237). -/
def State.writeCqHead (s : State) (c : Nat) (v : Word) : State :=
  let r := s.ring c
  let n := 2 ^ r.log2
  let h := fld v 16 0
  if !r.enabled then s.err .xfer 0 0x018B c 0x10
  else if n ≤ h % 2 ^ 16 then s.err .xfer 0 0x0188 c (fld v 31 0)
  else if posDiff n h r.head ≤ r.out then (s.modRing c fun r => { r with head := h }).episode c 0 false
  else (s.err .xfer 0 0x0188 c (fld v 31 0)).count .xfer 0 R.XFER_CQ_HEAD_INVALID

/-- CQ_HEAD_WRITE: a write of CQ_HEAD. -/
def execCqHeadWrite (c : Fin 1024) (value : BitVec 32) (s : State) : Host.Outcome State Fault Refusal :=
  .next (s.winGuard (cqWin c.val 0x10) true fun t => t.writeCqHead c.val (value.setWidth 64))

/-- HELD_ENTRY_WRITE: with room in the ring, the oldest held entry is written (R245). -/
def execHeldEntryWrite (c : Fin 1024) (s : State) : Host.Outcome State Fault Refusal := .next (s.putHeld c.val)

/-- CQ_NOTIFY_DELAY: the oldest entry since the last notification has been visible for DELAY × 1.024 µs (R246). -/
def execCqNotifyDelay (c : Fin 1024) (s : State) : Host.Outcome State Fault Refusal :=
  let r := s.ring c.val
  match r.oldest with
  | some t =>
    if bit r.notify 15 && fld r.notify 31 24 != 0 then .next ((s.atLeast (t + fld r.notify 31 24 * wPulse)).notifyRing c.val 0)
    else .next s
  | none => .next s

/-- The write of CQ_NOTIFY (R246). -/
def State.writeCqNotify (s : State) (c : Nat) (v : Word) : State :=
  if fld v 23 16 = 0 then s.err .xfer 0 errReserved 16 (cqWin c 0x0C)
  else s.modRing c fun r => { r with notify := v &&& 0xFFFF87FF#64, written := 0, oldest := none }

/-- CQ_NOTIFY: a write of CQ_NOTIFY. -/
def execCqNotify (c : Fin 1024) (value : BitVec 32) (s : State) : Host.Outcome State Fault Refusal :=
  .next (s.winGuard (cqWin c.val 0x0C) true fun t => t.writeCqNotify c.val (value.setWidth 64))

/-- The window offset of the register that keeps a ring from being enabled (R235, R249). -/
def State.cqBad (s : State) (r : CqSt) : Option Nat :=
  let size := 2 ^ r.log2 * 16
  if r.log2 < 4 ∨ 16 < r.log2 then some 0x08
  else if r.base % size ≠ 0 ∨ !s.inMap r.base size then some 0x00
  else none

/-- Jobs in flight that are bound to a ring (R230, R249). -/
def State.ringJobs (s : State) (c : Nat) : Nat := (s.xfer.jobs.filter fun j => j.cq == c).length + (s.heldOf c).length

/-- A ring cannot be disabled (R249). -/
def State.cqUsed (s : State) (c : Nat) : Bool :=
  (s.sq.any fun x => x.2.enabled && x.2.cq == c) || decide (0 < s.ringJobs c)

/-- The write of CQ_CFG (R249). -/
def State.writeCqCfg (s : State) (c : Nat) (v : Word) : State :=
  let r := s.ring c
  if r.enabled then
    if fld v 7 3 ≠ r.log2 then s.err .xfer 0 0x0189 c 0x08
    else if bit v 0 then s
    else if s.cqUsed c then s.err .xfer 0 0x0189 c 0x08
    else s.modRing c fun r => { r with enabled := false }
  else
    let s1 := s.modRing c fun r => { r with log2 := fld v 7 3 }
    if bit v 0 then
      match s1.cqBad (s1.ring c) with
      | some off => s1.refuseEnable .xfer 0 0x018A c off
      | none => s1.modRing c fun r => { r with enabled := true, head := 0, tail := 0, episode := false, written := 0, oldest := none }
    else s1

/-- CQ_ENABLE: a write of CQ_CFG with ENABLE 1. -/
def execCqEnable (c : Fin 1024) (cfg : BitVec 32) (s : State) : Host.Outcome State Fault Refusal :=
  .next (s.winGuard (cqWin c.val 0x08) true fun t => t.writeCqCfg c.val (setBit (cfg.setWidth 64) 0 true))

/-- CQ_DISABLE: a write of CQ_CFG with ENABLE 0. -/
def execCqDisable (c : Fin 1024) (cfg : BitVec 32) (s : State) : Host.Outcome State Fault Refusal :=
  .next (s.winGuard (cqWin c.val 0x08) true fun t => t.writeCqCfg c.val (setBit (cfg.setWidth 64) 0 false))

/-- A write to a register of the configuration window of a ring (R249, R250). -/
def State.writeCq (s : State) (c off : Nat) (v : Word) : State :=
  if off = 0x00 then
    (if (s.ring c).enabled then s.err .xfer 0 0x0189 c 0x00 else s.modRing c fun r => { r with base := fld v 47 0 })
  else if off = 0x08 then s.writeCqCfg c v
  else if off = 0x0C then s.writeCqNotify c v
  else if off = 0x10 then s.writeCqHead c v
  else s

/-! Timestamp queues (R247). -/

/-- The write of TSQ_CTRL (R44, R247). -/
def State.xferEn (s : State) (g : Nat) (on : Bool) : State :=
  if on then
    match s.blocked ownerXfer [resTsq g] with
    | some r => s.refuseOwned .pgrp g r (s.ownerOf r)
    | none => (s.takeAll ownerXfer [resTsq g]).setReg .pgrp g R.PGRP_TSQ_CTRL 1
  else (s.release ownerXfer [resTsq g]).setReg .pgrp g R.PGRP_TSQ_CTRL 0

/-- XFER_EN: a write of TSQ_CTRL.XFER_EN. -/
def execXferEn (g : Fin 64) (on : Bool) (s : State) : Host.Outcome State Fault Refusal :=
  .next (s.regWrite .pgrp g.val R.PGRP_TSQ_CTRL fun t => t.xferEn g.val on)

end Sys2Proof.Machine
end

