-- ==== Sys2Proof/Machine/Dailies.lean ====
section
/-! DEFINITION. Captures, dumps and the registers of the histograms; overflow of core counters (R289 to R301). -/

namespace Sys2Proof.Machine

open Sys2Proof

/-- Change the dailies. -/
def State.modCnt (s : State) (f : CntSt → CntSt) : State := { s with cnt := f s.cnt }

/-! Captures (R289, R292, R293). -/

/-- HIST of DAILIES_CFG. -/
def State.histOn (s : State) : Bool := bit (s.reg .cnt 0 R.CNT_DAILIES_CFG) 24

/-- SLOT_BYTES for the current HIST (R295). -/
def State.slotBytes (s : State) : Nat := if s.histOn then 0x620000 else 0x55A000

/-- Slots of the dump ring. -/
def State.dumpSlots (s : State) : Nat := 2 ^ s.regF .cnt 0 R.CNT_RING_CFG 3 0

/-- Dumps that are not released. -/
def State.dumpsHeld (s : State) : Nat :=
  (s.regF .cnt 0 R.CNT_RING_TAIL 31 0 + 2 ^ 32 - s.regF .cnt 0 R.CNT_RING_HEAD 31 0) % 2 ^ 32

/-- A region offset holds a counter of a page (R41). -/
def isCounter (off : Nat) : Bool :=
  match pageAt off with
  | some (p, po) => (counterOffs p.kind).contains po
  | none => false

/-- Bits of the islands whose replicas are invalid. -/
def State.suspects (s : State) (islands : List Nat) : Nat :=
  (islands.zipIdx.map fun x => b2n (!(s.replica x.1).valid) * 2 ^ x.2).sum

/-- Captured recovery-entry counters and channel counters. -/
def State.captureRcvy (s : State) : SMap Word :=
  s.stream.rcvy.flatMap fun e => e.2.ctrs.zipIdx.map fun w => (17 * e.1 + w.2, w.1)
def State.captureChans (s : State) : SMap Word :=
  s.mover.chans.flatMap fun c => [(2 * c.1, c.2.descDone), (2 * c.1 + 1, c.2.bytes)]

/-- The capture of the current cycle (R289, R295). -/
def State.capture (s : State) : Capture :=
  { slot := s.regF .cnt 0 R.CNT_RING_BASE 47 0 + s.regF .cnt 0 R.CNT_RING_TAIL 31 0 % s.dumpSlots * s.slotBytes
    seq := s.cnt.seq, cycle := s.time.cycle, onDemand := s.cnt.take, suspect := !(s.replica 64).valid, civValid := s.time.pairValid
    fabricNs := roundFrac (s.fab s.time.cycStart) / 2 ^ 16, civSec := s.time.pairSec, civNs := s.time.pairNs, hist := s.histOn
    pgSus := wd (s.suspects (List.range 64)), othSus := s.suspects [64, 66, 67, 68, 69]
    ctrs := s.regs.filter fun x => isCounter x.1
    rcvy := s.captureRcvy, chans := s.captureChans, hists := smSet s.cnt.hists 1536 s.cnt.other }

/-- A capture is skipped (R293). -/
def State.skipDump (s : State) (ctr detail : Nat) : State :=
  let s1 := (s.count .cnt 0 ctr).cause .cnt 0 17
  let s2 := s1.modCnt fun c => { c with seq := c.seq + 1, take := false, skipRun := true }
  if s.cnt.skipRun then s2 else s2.raise 0x01F 0 detail

/-- A capture instant (R292, R293). -/
def State.captureNow (s : State) : State :=
  if s.dumpsHeld = s.dumpSlots then s.skipDump R.CNT_DUMPS_SKIPPED_FULL 1
  else if s.cnt.busy.isSome then s.skipDump R.CNT_DUMPS_SKIPPED_BUSY 2
  else if !s.ddr.trained then s.skipDump R.CNT_DUMPS_SKIPPED_NO_DDR 3
  else s.modCnt fun c => { c with busy := some s.capture, seq := c.seq + 1, take := false, wrapped := [], skipRun := false }

/-- The present cycle start is a capture instant (R292). -/
def State.captureDue (s : State) : Bool :=
  s.feat 19 && (s.hdr .cnt 0).enable && s.time.hasCycle && (s.time.cycle % s.cnt.period == 0 || s.cnt.take)

/-- DAILIES_CAPTURE: a cycle start, as the dailies see it. -/
def execDailiesCapture (s : State) : Host.Outcome State Fault Refusal := if s.captureDue then .next s.captureNow else .next s

/-! Dumps (R290, R294, R295). -/

/-- Place of a counter in the record: its region offset gives the page image and the word (R295). -/
def dumpOff (off : Nat) : Nat :=
  match pageAt off with
  | some (p, po) => 0x40 + pageIndex p.kind p.inst * 0x400 + (po - 0x800)
  | none => 0

/-- A dump word (R290). -/
def dumpWord (w : Word) (wrapped : Bool) : Word := wd (fld w 47 0 + b2n wrapped * 2 ^ 62 + b2n (bit w 63) * 2 ^ 63)

/-- Place in the record of the counter that a key of `State.wrap` names (R295). -/
def dumpPlace (key : Nat) : Nat :=
  if key < 2 ^ 32 then dumpOff key
  else if key < 2 ^ 33 then 0x118840 + 8 * (key - 2 ^ 32)
  else if key < 2 ^ 34 then 0x559840 + 528 * ((key - 2 ^ 33) / 64) + 8 * (key % 64)
  else 0x558840 + 8 * (key - 2 ^ 34)

/-- The counters that a capture lists, by key; any other was 0. -/
def Capture.listed (c : Capture) : List (Nat × Word) :=
  c.ctrs ++ (c.rcvy.map fun x => (2 ^ 32 + x.1, x.2)) ++ (c.chans.map fun x => (2 ^ 34 + x.1, x.2))
    ++ (if c.hist then c.hists.flatMap fun h => h.2.bins.map fun b => (2 ^ 33 + 64 * h.1 + b.1, b.2) else [])

/-- The record has a place for the counter of a key: the bins of the histograms only with HIST (R295). -/
def Capture.holds (c : Capture) (key : Nat) : Bool := c.hist || key < 2 ^ 33 || 2 ^ 34 ≤ key

/-- Dump words of a capture that may differ from 0: place in the record, word, whether it has wrapped since (R290). -/
def dumpWords (c : Capture) (wrapped : List Nat) : List (Nat × Word × Bool) :=
  let l := c.listed
  let more := wrapped.filter fun k => c.holds k && !(l.any fun x => x.1 == k)
  (l ++ more.map fun k => (k, (0 : Word))).map fun x => (dumpPlace x.1, x.2, wrapped.contains x.1)

/-- MIN and MAX of the histograms of a capture: place in the record and value (R295). -/
def dumpLimits (c : Capture) : List (Nat × Word) :=
  if c.hist then (List.range 1537).flatMap fun n =>
    let h := smGet c.hists n {}
    [(0x559840 + 528 * n + 512, h.min), (0x559840 + 528 * n + 520, h.max)]
  else []

/-- Length of the record. -/
def recordBytes (hist : Bool) : Nat := if hist then 6421072 else 5609536

/-- The header of a dump (R295). -/
def dumpHeader (c : Capture) (doneNs : Nat) : List Byte :=
  leBytes 8 c.seq ++ leBytes 8 (c.cycle + b2n c.onDemand * 2 ^ 61 + b2n c.suspect * 2 ^ 62 + b2n c.civValid * 2 ^ 63)
    ++ leBytes 8 c.fabricNs ++ leBytes 8 c.civSec ++ leBytes 4 c.civNs ++ leBytes 4 (recordBytes c.hist)
    ++ leBytes 8 c.pgSus.toNat ++ leBytes 1 c.othSus ++ leBytes 1 (b2n c.hist) ++ leBytes 6 0 ++ leBytes 8 doneNs

/-- Write a word of a dump. -/
def State.putWord (s : State) (a : Nat) (w : Word) : State := s.store a (leBytes 8 w.toNat)

/-- The whole record is written (R294, R295). DONE_NS lies within the bound of R294 after the capture, and is free there (log entry
44). -/
def State.writeDump (s : State) (c : Capture) : State :=
  let ws := dumpWords c s.cnt.wrapped
  let s1 := ws.foldl (fun t x => t.putWord (c.slot + x.1) (dumpWord x.2.1 x.2.2)) (s.storeZero c.slot (recordBytes c.hist))
  let s2 := (dumpLimits c).foldl (fun t x => t.putWord (c.slot + x.1) x.2) s1
  let (n, s3) := s2.free
  let done := c.fabricNs + (Config.freeValue n).toNat % ((if c.hist then 6422528 else 5611520) / 16 + 4001)
  (s3.store c.slot (dumpHeader c done)).countN .cnt 0 R.CNT_WRAPPED_AFTER (ws.filter fun x => x.2.2).length

/-- DUMP_WRITTEN: the header of a dump is visible (R294). -/
def execDumpWritten (s : State) : Host.Outcome State Fault Refusal :=
  match s.cnt.busy with
  | none => .next s
  | some c =>
    let s1 := (s.writeDump c).modCnt fun x => { x with busy := none }
    let s2 := s1.setReg .cnt 0 R.CNT_RING_TAIL (wd ((s1.regF .cnt 0 R.CNT_RING_TAIL 31 0 + 1) % 2 ^ 32))
    .next (((s2.setReg .cnt 0 R.CNT_LAST_SEQ (wd c.seq)).count .cnt 0 R.CNT_DUMPS_WRITTEN).cause .cnt 0 16)

/-! Registers (R300, R301). -/

/-- TAKE (R292). -/
def State.takeDump (s : State) : State := if (s.hdr .cnt 0).enable then s.modCnt fun c => { c with take := true } else s

/-- TAKE: a write of DAILIES_CTRL.TAKE. -/
def execTake (s : State) : Host.Outcome State Fault Refusal := .next (s.regWrite .cnt 0 R.CNT_DAILIES_CTRL State.takeDump)

/-- The write of CNT.RING_HEAD (R293). -/
def State.writeDumpHead (s : State) (v : Word) : State := s.writeHead32 .cnt R.CNT_RING_HEAD R.CNT_RING_TAIL 0x01B1 v

/-- DAILIES_RING_HEAD: a write of CNT.RING_HEAD. -/
def execDailiesRingHead (value : BitVec 32) (s : State) : Host.Outcome State Fault Refusal :=
  .next (s.regWriteV .cnt 0 R.CNT_RING_HEAD (value.setWidth 64) State.writeDumpHead)

/-- The page offset of the register that keeps the dailies from being enabled (R300). -/
def State.cntBad (s : State) : Option Nat :=
  let b := s.regF .cnt 0 R.CNT_RING_BASE 47 0
  if !memLpddr b ∨ b % 4096 ≠ 0 then some R.CNT_RING_BASE
  else if !inLpddr b (s.dumpSlots * s.slotBytes) then some R.CNT_RING_CFG
  else none

/-- CTRL.ENABLE of the CNT page is written (R300). A dump being written when ENABLE becomes 0 is abandoned (log entry 45). -/
def State.cntEnable (s : State) (on : Bool) : State :=
  let was := (s.hdr .cnt 0).enable
  if on && !was then
    match s.cntBad with
    | some po => s.refuseEnable .cnt 0 0x01B2 0 po
    | none =>
      (((s.modHdr .cnt 0 fun h => { h with enable := true }).setReg .cnt 0 R.CNT_RING_HEAD 0).setReg .cnt 0 R.CNT_RING_TAIL 0).modCnt
        fun c => { c with seq := 0, take := false, busy := none, skipRun := false }
  else if !on && was then
    (s.modHdr .cnt 0 fun h => { h with enable := false }).modCnt fun c => { c with take := false, busy := none }
  else s

/-- Clear histogram n of the port groups (R298). -/
def State.clearHist (s : State) (n : Nat) : State := s.modCnt fun c => { c with hists := smErase c.hists n }

/-- The histogram that HIST_SEL of a group names (R301). -/
def State.histSel (s : State) (g : Nat) : Nat :=
  let w := s.reg .pgrp g R.PGRP_HIST_SEL
  histNo g (fld w 1 0) (fld w 6 4)

/-- CLEAR_ALL of a group. -/
def State.clearGroup (s : State) (g : Nat) : State := ((List.range 24).map fun i => g * 24 + i).foldl State.clearHist s

/-- The write of HIST_CTRL. -/
def State.writeHistCtrl (s : State) (g : Nat) (v : Word) : State :=
  let s1 := if bit v 0 then s.clearHist (s.histSel g) else s
  if bit v 1 then s1.clearGroup g else s1

/-- CLEAR_SEL: a write of HIST_CTRL.CLEAR_SEL. -/
def execClearSel (g : Fin 64) (s : State) : Host.Outcome State Fault Refusal :=
  .next (s.regWrite .pgrp g.val R.PGRP_HIST_CTRL fun t => t.clearHist (t.histSel g.val))

/-- CLEAR_ALL: a write of HIST_CTRL.CLEAR_ALL. -/
def execClearAll (g : Fin 64) (s : State) : Host.Outcome State Fault Refusal :=
  .next (s.regWrite .pgrp g.val R.PGRP_HIST_CTRL fun t => t.clearGroup g.val)

/-- The write of an ORIGIN register of a group: the kind's eight histograms are cleared (R298). -/
def State.writeOrigin (s : State) (g kind : Nat) (v : Word) : State :=
  ((List.range 8).map fun c => histNo g kind c).foldl State.clearHist (s.setReg .pgrp g (originOff kind) (wd (fld v 11 0)))

/-- HIST_ORIGIN_WRITE: a write of ORIGIN_W2M, ORIGIN_G2W or ORIGIN_J2C. -/
def execHistOriginWrite (g : Fin 64) (kind : Fin 3) (value : BitVec 32) (s : State) : Host.Outcome State Fault Refusal :=
  .next (s.regWriteV .pgrp g.val (originOff kind.val) (value.setWidth 64) fun t v => t.writeOrigin g.val kind.val v)

/-- CLEAR of OTHER_CTRL (R298). -/
def State.clearOther (s : State) : State := s.modCnt fun c => { c with other := {} }

/-- OTHER_CLEAR: a write of OTHER_CTRL.CLEAR. -/
def execOtherClear (s : State) : Host.Outcome State Fault Refusal := .next (s.regWrite .cnt 0 R.CNT_OTHER_CTRL State.clearOther)

/-- A write to a register of the PGRP page's histograms (R301). -/
def State.writeHist (s : State) (g po : Nat) (v : Word) : State :=
  if po = R.PGRP_HIST_SEL then
    (if fld v 1 0 = 3 then s.err .pgrp g errReserved 0 po else s.setReg .pgrp g po v)
  else if po = R.PGRP_HIST_CTRL then s.writeHistCtrl g v
  else if po = R.PGRP_ORIGIN_W2M then s.writeOrigin g 0 v
  else if po = R.PGRP_ORIGIN_G2W then s.writeOrigin g 1 v
  else if po = R.PGRP_ORIGIN_J2C then s.writeOrigin g 2 v
  else s

/-- A write to a register of the CNT page (R300). -/
def State.writeCnt (s : State) (po : Nat) (v : Word) : State :=
  let on := (s.hdr .cnt 0).enable
  if po = R.CNT_DAILIES_CTRL then (if bit v 0 then s.takeDump else s)
  else if po = R.CNT_RING_HEAD then s.writeDumpHead v
  else if po = R.CNT_OTHER_CTRL then (if bit v 0 then s.clearOther else s)
  else if po = R.CNT_OTHER_ORIGIN then s.clearOther.setReg .cnt 0 po v
  else if po = R.CNT_DAILIES_CFG then
    if fld v 23 0 = 0 then s.err .cnt 0 errReserved 0 po
    else if bit v 24 && !s.feat 20 then s.err .cnt 0 errFeat 20 po
    else if on && bit v 24 != s.histOn then s.err .cnt 0 0x01B0 0 po
    else s.setReg .cnt 0 po v
  else if on then s.err .cnt 0 0x01B0 0 po
  else if po = R.CNT_RING_CFG ∧ (fld v 3 0 = 0 ∨ 8 < fld v 3 0) then s.err .cnt 0 errReserved 0 po
  else s.setReg .cnt 0 po v

/-- A bin, MIN or MAX of a histogram read through its page (R300, R301): word i of the histogram, 64 MIN, 65 MAX. -/
def Hist.word (h : Hist) (i : Nat) : Word := if i = 64 then h.min else if i = 65 then h.max else smGet h.bins i 0

/-! Core counters (R299). -/

/-- The overflow interrupt of a hart is taken, with the PC that its trap records (R299). -/
def State.takeOverflow (s : State) (h : Nat) (pc : Word) : State :=
  { s with core := { s.core with ovfHeld := s.core.ovfHeld.filter fun x => x != h, ovfPc := smSet s.core.ovfPc h pc } }.out
    (.overflowIrq h)

/-- Counter hpmcounter(3 + ctr) of a hart wraps to 0. Its bit in scountovf is set; where the bit was clear the interrupt is taken, or held
while it is masked (R299). -/
def State.coreOverflow (s : State) (h ctr : Nat) (masked : Bool) (pc : Word) : State :=
  let s1 := { s with core := { s.core with hpm := smSet s.core.hpm (16 * h + ctr) 0 } }
  if s.core.ovf.contains (h, ctr) then s1
  else
    let s2 := { s1 with core := { s1.core with ovf := s1.core.ovf ++ [(h, ctr)] } }
    if masked then { s2 with core := { s2.core with ovfHeld := h :: s2.core.ovfHeld.filter fun x => x != h } } else s2.takeOverflow h pc

/-- CORE_COUNTER_OVERFLOW: a counter of a hart overflows; or its interrupt, held while masked, is taken when it is unmasked; or the
program clears the counter's overflow bit (R299). -/
def execCoreCounterOverflow (h : Fin 16) (ctr : Fin 8) (e : OvfEvent) (s : State) : Host.Outcome State Fault Refusal :=
  .next (match e with
    | .wraps masked pc => s.coreOverflow h.val ctr.val masked pc
    | .unmasked pc => if s.core.ovfHeld.contains h.val then s.takeOverflow h.val pc else s
    | .cleared => { s with core := { s.core with ovf := s.core.ovf.filter fun x => x != (h.val, ctr.val) } })

end Sys2Proof.Machine
end

