-- ==== Sys2Proof/Machine/Lines.lean ====
section
/-! DEFINITION. The register commands of streams, event lines and event pins, and the event generators (R177, R180, R196 to R201). -/

namespace Sys2Proof.Machine

open Sys2Proof

/-! Streams (R177, R180). -/

/-- RCVY_SEL: a write of STREAM.RCVY_SEL (R180). -/
def execRcvySel (r : BitVec 32) (s : State) : Host.Outcome State Fault Refusal :=
  .next (s.regWriteV .stream 0 R.STREAM_RCVY_SEL (r.setWidth 64) State.writeRcvySel)

/-- RCVY_RESET_STATE: a write of STREAM.RCVY_CTRL.RESET_STATE (R177). -/
def execRcvyResetState (s : State) : Host.Outcome State Fault Refusal :=
  .next (s.regWriteV .stream 0 R.STREAM_RCVY_CTRL 1 State.writeRcvyCtrl)

/-- CLEAR_COUNTERS: a write of STREAM.RCVY_CTRL.CLEAR_COUNTERS (R177). -/
def execClearCounters (s : State) : Host.Outcome State Fault Refusal :=
  .next (s.regWriteV .stream 0 R.STREAM_RCVY_CTRL 2 State.writeRcvyCtrl)

/-- GEN_SEL: a write of STREAM.GEN_SEL (R180). -/
def execGenSel (g : BitVec 32) (s : State) : Host.Outcome State Fault Refusal :=
  .next (s.regWriteV .stream 0 R.STREAM_GEN_SEL (g.setWidth 64) State.writeGenSel)

/-- SET_SEQ: a write of STREAM.GEN_CTRL.SET_SEQ with a sequence number (R177). -/
def execSetSeq (n : BitVec 16) (s : State) : Host.Outcome State Fault Refusal :=
  .next (s.regWriteV .stream 0 R.STREAM_GEN_CTRL (wd (1 + n.toNat * 2 ^ 16)) State.writeGenCtrl)

/-- A write to a register of the STREAM page, once it has passed the common checks. -/
def State.writeStream (s : State) (po : Nat) (v : Word) : State :=
  if po = R.STREAM_RCVY_SEL then s.writeRcvySel v
  else if po = R.STREAM_RCVY_CTRL then s.writeRcvyCtrl v
  else if po = R.STREAM_GEN_SEL then s.writeGenSel v
  else if po = R.STREAM_GEN_CTRL then s.writeGenCtrl v
  else s

/-! Event lines and pins (R196, R199). -/

/-- EVENT_RX_LINES: a write of EVT.EVENT_RX_LINES (R196). -/
def execEventRxLines (lines : Word) (s : State) : Host.Outcome State Fault Refusal :=
  .next (s.regWriteV .evt 0 R.EVT_EVENT_RX_LINES lines State.writeRxLines)

/-- PIN_CFG: a write of EVT.PIN_CFG[n] (R199). -/
def execPinCfg (n : Fin 32) (value : BitVec 32) (s : State) : Host.Outcome State Fault Refusal :=
  .next (s.regWriteV .evt 0 (R.EVT_PIN_CFG + 4 * n.val) (value.setWidth 64) fun t v => t.writePinCfg n.val v)

/-- A write to a register of the EVT page, once it has passed the common checks (R196, R199, R201). -/
def State.writeEvt (s : State) (po : Nat) (v : Word) : State :=
  if po = R.EVT_EVENT_RX_LINES then s.writeRxLines v
  else if R.EVT_PIN_CFG ≤ po ∧ po < R.EVT_PIN_CFG + 128 then s.writePinCfg ((po - R.EVT_PIN_CFG) / 4) v
  else if po % 16 = 0 ∧ fld v 30 28 = 7 then s.err .evt 0 errReserved 28 po
  else s.setReg .evt 0 po v

/-! Event generators (R197). -/

/-- The fire instant of a pulse: cycle and tick plus DELAY_TICKS, carried into later cycles of the live length (R197). -/
def fireAt (ticks : Nat) (x : GenPulse) (delay : Nat) : Nat × Nat :=
  let t := x.tick + delay
  (x.cycle + t / ticks, t % ticks)

/-- The payload of a generator's frame. Without a cycle a TIMED frame has no fire instant to carry: its two fields are free
values (log entry 54). -/
def State.genPayload (s : State) (w : Word) (delay : Nat) (x : GenPulse) : State × List Byte :=
  if !bit w 54 then (s, eventBytes false (fld w 53 48) 0 0 x.ns)
  else if s.time.hasCycle then
    let f := fireAt s.ticks x delay
    (s, eventBytes true (fld w 53 48) (f.1 % 2 ^ 16) f.2 x.ns)
  else
    let v := (Config.freeValue s.free.1).toNat
    (s.free.2, eventBytes true (fld w 53 48) (v % 2 ^ 16) (v / 2 ^ 16 % 2 ^ 24) x.ns)

/-- EVENT_GEN_BUILD: a generator builds the EVENT of its pulse on its stream handle (R197). -/
def execEventGenBuild (g : Fin 16) (s : State) : Host.Outcome State Fault Refusal :=
  match smFind s.evt.gens g.val with
  | none => .next s
  | some x =>
    let w := s.genWord g.val
    let s0 := { s with evt := { s.evt with gens := smErase s.evt.gens g.val } }
    match s0.live.genPorts (fld w 27 8) with
    | none => .next (s0.count .evt 0 R.EVT_EVENT_GEN_NO_ENTRY)
    | some ports =>
      let (s1, payload) := s0.genPayload w (s0.regF .evt 0 (R.EVT_EVENT_GEN1 + 16 * g.val) 23 0) x
      let h : Hdr := { typ := tEvent, dst := fld w 47 32, src := s1.nodeId, handle := fld w 27 8, cycle := s1.cycField }
      let s2 := s1.replicate (fld w 27 8) (fld w 30 28) tEvent (bit w 31) h payload (fun _ => .own) true false (some 6) ports
      .next ((ports.foldl State.arrived s2).count .evt 0 R.EVT_EVENT_GEN_FRAMES).pace

end Sys2Proof.Machine
end

