-- ==== Sys2Proof/Machine/Mgmt.lean ====
section
/-! DEFINITION. The management port (R329, R330, R336). -/

namespace Sys2Proof.Machine

open Sys2Proof

/-- Change the management port. -/
def State.modMgmt (s : State) (f : MgmtSt → MgmtSt) : State := { s with mgmt := f s.mgmt }

/-- The MAC is enabled. -/
def State.mgmtOn (s : State) : Bool := (s.hdr .mgmt 0).enable && !s.pwr.held

/-! Rings and descriptors (R329). -/

/-- Descriptors of a ring whose RING_CFG is at a page offset. -/
def State.mgRing (s : State) (cfg : Nat) : Nat := 2 ^ s.regF .mgmt 0 cfg 3 0

/-- Address of a descriptor. -/
def State.mgDesc (s : State) (base cfg i : Nat) : Nat := s.regF .mgmt 0 base 47 0 + i % s.mgRing cfg * 16

/-- The two words of a descriptor, as the MAC reads them. -/
def State.mgRead (s : State) (a : Nat) : State × Word × Word :=
  let r := s.load a 16
  (r.1, wd (leAt r.2 0 8), wd (leAt r.2 8 8))

/-- Address of the present transmit and receive descriptor. -/
def State.txDesc (s : State) : Nat := s.mgDesc R.MGMT_TX_RING_BASE R.MGMT_TX_RING_CFG s.mgmt.txIndex
def State.rxDesc (s : State) : Nat := s.mgDesc R.MGMT_RX_RING_BASE R.MGMT_RX_RING_CFG s.mgmt.rxIndex

/-- STATUS of a descriptor: 1 for a bad buffer address, 2 for a bad length, 0 when both are good (R329). -/
def State.mgStatus (s : State) (w : Word) (lo hi : Nat) : Nat :=
  let a := fld w 47 0
  let n := fld w 61 48
  if a % 64 ≠ 0 ∨ !s.inMap a n then 1 else if n < lo ∨ hi < n then 2 else 0

/-- Return a descriptor whose words have been read: OWN 0, STATUS, RX_LEN on receive, and the cause that INT asks for (R329). -/
def State.mgReturn (s : State) (a : Nat) (d : Word × Word) (status : Nat) (rxLen : Option Nat) (cause : Nat) : State :=
  let w0 := d.1
  let w1 := setFld d.2 31 24 status
  let w1 := match rxLen with
    | some n => setFld w1 13 0 n
    | none => w1
  let s1 := s.store a (leBytes 8 (setBit w0 63 false).toNat ++ leBytes 8 w1.toNat)
  if bit w0 62 then s1.cause .mgmt 0 cause else s1

/-! Transmit (R330). -/

/-- The MAC reads the descriptor at TX_INDEX. -/
def State.txPoll (s : State) : State :=
  let r := s.mgRead s.txDesc
  r.1.modMgmt fun m => { m with txReady := bit r.2.1 63 }

/-- The MAC sends the frame of the descriptor at TX_INDEX, with its FCS, and returns it, or returns it with its fault; it then reads the
next. -/
def State.txSend (s : State) : State :=
  let (s0, d) := s.mgRead s.txDesc
  let st := s0.mgStatus d.1 14 1518
  let n := fld d.1 61 48
  let s1 :=
    if st = 0 then
      let r := s0.load (fld d.1 47 0) n
      (r.1.count .mgmt 0 R.MGMT_TX_FRAMES).out (.mgmtFrame (r.2 ++ List.replicate (60 - n) 0) true)
    else s0
  let s2 := s1.mgReturn s.txDesc d st none 17
  (s2.modMgmt fun m => { m with txIndex := (m.txIndex + 1) % s.mgRing R.MGMT_TX_RING_CFG }).txPoll

/-- The write of TX_CTRL (R330). -/
def State.writeTxCtrl (s : State) (v : Word) : State := if bit v 0 && s.mgmtOn then s.txPoll else s

/-- MGMT_TX_KICK: a write of MGMT.TX_CTRL.KICK (R330). -/
def execMgmtTxKick (s : State) : Host.Outcome State Fault Refusal :=
  .next (s.regWriteV .mgmt 0 R.MGMT_TX_CTRL 1 State.writeTxCtrl)

/-- MGMT_TX_DESCRIPTOR: the MAC handles an owned transmit descriptor (R330). -/
def execMgmtTxDescriptor (s : State) : Host.Outcome State Fault Refusal :=
  .next (if s.mgmtOn && s.mgmt.txReady then s.txSend else s)

/-! Receive (R330). -/

/-- Write a frame to the descriptor at RX_INDEX, which is owned, and return it. A descriptor with a bad buffer takes no frame. The
answer says whether the frame was written. -/
def State.rxPut (s : State) (d : Word × Word) (f : List Byte) : State × Bool :=
  let st := s.mgStatus d.1 1536 (2 ^ 14)
  let s1 := if st = 0 then (s.store (fld d.1 47 0) f).count .mgmt 0 R.MGMT_RX_FRAMES else s
  let s2 := s1.mgReturn s.rxDesc d st (some (if st = 0 then f.length else 0)) 16
  (s2.modMgmt fun m => { m with rxIndex := (m.rxIndex + 1) % s.mgRing R.MGMT_RX_RING_CFG }, st == 0)

/-- Frames that wait go to owned descriptors in order. `fuel` bounds the descriptors tried. -/
def State.rxDrain : Nat → State → State
  | 0, s => s
  | fuel + 1, s =>
    match s.mgmt.rxBuf with
    | [] => s
    | f :: rest =>
      let r := s.mgRead s.rxDesc
      if bit r.2.1 63 then
        match r.1.rxPut r.2 f with
        | (s1, true) => State.rxDrain fuel (s1.modMgmt fun m => { m with rxBuf := rest })
        | (s1, false) => State.rxDrain fuel s1
      else r.1

/-- The MAC reads the descriptor at RX_INDEX for the frames that wait: every descriptor of the ring at most once. -/
def State.rxPoll (s : State) : State := State.rxDrain (s.mgRing R.MGMT_RX_RING_CFG) s

/-- The write of RX_CTRL (R330). -/
def State.writeRxCtrl (s : State) (v : Word) : State := if bit v 0 && s.mgmtOn then s.rxPoll else s

/-- MGMT_RX_KICK: a write of MGMT.RX_CTRL.KICK (R330). -/
def execMgmtRxKick (s : State) : Host.Outcome State Fault Refusal :=
  .next (s.regWriteV .mgmt 0 R.MGMT_RX_CTRL 1 State.writeRxCtrl)

/-- MGMT_IDLE_POLL: both rings poll an unowned descriptor again (R330). -/
def execMgmtIdlePoll (s : State) : Host.Outcome State Fault Refusal := .next (if s.mgmtOn then s.txPoll.rxPoll else s)

/-- Size of the receive buffer (R330). -/
def rxBufSize : Nat := 16384

/-- The port accepts a frame with a destination address (R330). -/
def State.mgAccepts (s : State) (da : Nat) : Bool :=
  let cfg := s.reg .mgmt 0 R.MGMT_MAC_CFG
  bit cfg 3 || da == s.regF .mgmt 0 R.MGMT_MAC_ADDR 47 0 || da == 2 ^ 48 - 1 || (bit cfg 4 && nbit da 40)

/-- A frame received on the management port (R330). -/
def State.mgReceive (s : State) (f : MgmtFrame) : State :=
  if !s.mgAccepts (beAt f.bytes 0 6) then s.count .mgmt 0 R.MGMT_RX_FILTERED
  else if !f.fcsOk then s.count .mgmt 0 R.MGMT_RX_FCS_ERR
  else if 1522 < f.bytes.length + 4 then s.count .mgmt 0 R.MGMT_RX_TOO_LONG
  else
    let s1 := (s.modMgmt fun m => { m with rxBuf := m.rxBuf ++ [f.bytes] }).rxPoll
    if rxBufSize < (s1.mgmt.rxBuf.map List.length).sum then
      ((s1.modMgmt fun m => { m with rxBuf := m.rxBuf.dropLast }).count .mgmt 0 R.MGMT_RX_NO_DESC).cause .mgmt 0 18
    else s1

/-- MGMT_RX_FRAME: a frame arrives on the management port (R330). -/
def execMgmtRxFrame (f : MgmtFrame) (s : State) : Host.Outcome State Fault Refusal :=
  .next (if s.mgmtOn then s.mgReceive f else s)

/-! Link and registers (R336). -/

/-- MGMT_LINK_CHANGE: auto-negotiation or the in-band word gives a new link state (R336). -/
def execMgmtLinkChange (up : Bool) (speed : Nat) (fullDuplex : Bool) (s : State) : Host.Outcome State Fault Refusal :=
  .next (if s.pwr.held then s
    else (s.modMgmt fun m => { m with link := up, speed := speed % 4, duplex := fullDuplex }).cause .mgmt 0 19)

/-- A ring keeps R329. -/
def State.mgRingOk (s : State) (base cfg : Nat) : Bool :=
  let b := s.regF .mgmt 0 base 47 0
  let n := s.mgRing cfg * 16
  b % n == 0 && s.inMap b n

/-- CTRL.ENABLE of the MGMT page is written (R329): an enabled MAC reads its first descriptors. -/
def State.mgmtEnable (s : State) (on : Bool) : State :=
  let was := (s.hdr .mgmt 0).enable
  if on && !was then
    if s.mgRingOk R.MGMT_TX_RING_BASE R.MGMT_TX_RING_CFG && s.mgRingOk R.MGMT_RX_RING_BASE R.MGMT_RX_RING_CFG then
      (s.modHdr .mgmt 0 fun h => { h with enable := true }).txPoll.rxPoll
    else s.refuseEnable .mgmt 0 0x01E0 0 0x018
  else if !on && was then (s.modHdr .mgmt 0 fun h => { h with enable := false }).modMgmt fun m => { m with txReady := false }
  else s

/-- A ring register: base or settings. -/
def isRingReg (po : Nat) : Bool :=
  po == R.MGMT_TX_RING_BASE || po == R.MGMT_TX_RING_CFG || po == R.MGMT_RX_RING_BASE || po == R.MGMT_RX_RING_CFG

/-- A write to a MAC register, once it has passed the common checks (R329, R336). -/
def State.writeMac (s : State) (po : Nat) (v : Word) : State :=
  if po = R.MGMT_TX_CTRL then s.writeTxCtrl v
  else if po = R.MGMT_RX_CTRL then s.writeRxCtrl v
  else if isRingReg po && (s.hdr .mgmt 0).enable then s.err .mgmt 0 0x01E1 0 po
  else if po = R.MGMT_MAC_CFG ∧ 2 ≤ fld v 1 0 then s.err .mgmt 0 errReserved 0 po
  else if (po = R.MGMT_TX_RING_CFG ∨ po = R.MGMT_RX_RING_CFG) ∧ (fld v 3 0 < 4 ∨ 12 < fld v 3 0) then
    s.err .mgmt 0 errReserved 0 po
  else s.setReg .mgmt 0 po v

/-- A read of a MAC register that is not held as a word. -/
def State.readMac (s : State) (po : Nat) : Option Word :=
  if po = R.MGMT_MAC_STATUS then some (wd (b2n s.mgmt.link + s.mgmt.speed * 2 + b2n s.mgmt.duplex * 8))
  else if po = R.MGMT_TX_INDEX then some (wd s.mgmt.txIndex)
  else if po = R.MGMT_RX_INDEX then some (wd s.mgmt.rxIndex)
  else none

end Sys2Proof.Machine
end

