-- ==== Sys2Proof/Machine/Mover.lean ====
section
/-! DEFINITION. The block mover: channels, descriptors, bursts, pacing, errors, shadowed sets (R271 to R288). -/

namespace Sys2Proof.Machine

open Sys2Proof

/-! Channels. -/

/-- A channel. -/
def State.chan (s : State) (c : Nat) : MvCh := smGet s.mover.chans c {}

/-- Change a channel. -/
def State.modChan (s : State) (c : Nat) (f : MvCh → MvCh) : State :=
  { s with mover := { s.mover with chans := smMod s.mover.chans c {} f } }

/-- The channel that the window addresses (R271). -/
def State.chSel (s : State) : Nat := s.regF .mover 0 R.MOVER_CH_SEL 7 0

/-- LINE and EVENT_EN of a set. -/
def MvSet.line (x : MvSet) : Nat := fld x.event 5 0
def MvSet.eventEn (x : MvSet) : Bool := bit x.event 7

/-- The channel is at a boundary: it runs no descriptor (R287). -/
def MvCh.atBoundary (m : MvCh) : Bool := m.desc.isNone && !m.barrier

/-- STATE of CH_STATUS (R288). -/
def MvCh.state (m : MvCh) : Nat :=
  if m.needsReset then 6
  else if !m.enabled then 0
  else if m.halted then 5
  else if m.barrier then 4
  else if m.desc.isNone then 1
  else if wKind m.live.watch ≠ 0 ∧ !m.paceRun then 3
  else 2

/-- A MOVER record (R306). -/
def State.traceMover (s : State) (ev c idx : Nat) : State :=
  s.traceEv 66 ev none none 0x05 (wd (c + idx * 2 ^ 8 + ev * 2 ^ 20 + (s.chan c).errCode * 2 ^ 24)) 0 0

/-! Errors (R282). -/

/-- Record an error in CH_ERR: the first is kept, a second sets MORE (R282). -/
def State.chErr (s : State) (c code idx : Nat) (late pulsed : Bool) : State :=
  s.modChan c fun m =>
    if m.errCode = 0 then { m with errCode := code, errIndex := idx, late, pulsed } else { m with more := true }

/-! Sets and event lines (R286, R287). -/

/-- Make a set live in a channel: its ZONE reference point is set, and the line that the set does not name is released. -/
def State.applySet (s : State) (c : Nat) (x : MvSet) : State :=
  let m := s.chan c
  let seq := (s.hdr .mover 0).commitSeq.toNat
  let same := s.mover.commitAt == hubEdge s.time.now
  let s1 := s.modChan c fun m => { m with live := x, pend := none, hoSeq := seq, hoFirst := m.index, hoSame := same }
  let s2 := if wKind x.watch = 3 then
      s1.modChan c fun m => { m with m := 0, z0 := (s1.zone (wTarget x.watch)).landed } else s1
  if m.live.eventEn && !(x.eventEn && x.line == m.live.line) then s2.release (ownerCh c) [resLine m.live.line] else s2

/-- Every channel has applied the committed set (R287). -/
def State.moverApplied (s : State) : State :=
  let h := s.hdr .mover 0
  if h.pending && (smKeys s.mover.chans).all fun c => (s.chan c).pend.isNone then
    (s.modHdr .mover 0 fun h => { h with pending := false, appliedSeq := h.commitSeq }).cause .mover 0 causeCommit
  else s

/-- A channel at a boundary makes the pending set live (R287). -/
def State.takeSet (s : State) (c : Nat) : State :=
  match (s.chan c).pend with
  | some x => if (s.chan c).atBoundary then (s.applySet c x).moverApplied else s
  | none => s

/-- The channel halts once every write it has issued has been answered (R283). -/
def State.tryHalt (s : State) (c : Nat) : State :=
  let m := s.chan c
  if m.halting && m.unans.isEmpty then
    let s1 := s.modChan c fun m => { m with halting := false, haltNext := false, halted := true, ahead := none }
    (((s1.takeSet c).cause .mover 0 16).count .mover 0 R.MOVER_HALTS).traceMover 2 c m.errIndex
  else s

/-- The channel stops issuing bursts and halts: the descriptor in progress, if any, ends in error (R282, R283). -/
def State.stopChan (s : State) (c : Nat) : State :=
  let s1 := { s with mover := { s.mover with bursts := s.mover.bursts.filter fun b => b.ch != c } }
  (s1.modChan c fun m =>
    { m with halting := true, barrier := false, held := none, desc := none, ahead := none,
             leftShown := match m.desc with | some d => d.left | none => m.leftShown }).tryHalt c

/-- The page offset of the register that keeps a channel's shadow set from being committed (R286). -/
def setBad (x : MvSet) : Option Nat :=
  if wKind x.watch ≠ 0 ∧ x.hi ≤ x.lo then some R.MOVER_CH_LOW
  else if wKind x.watch = 1 ∧ 1023 < wTarget x.watch then some R.MOVER_CH_WATCH
  else none

/-- Lines that a commit takes: of enabled channels whose shadow set names a line they do not hold (R286). -/
def State.newLines (s : State) : List (Nat × Nat) :=
  s.mover.chans.filterMap fun x =>
    let l := x.2.shadow.line
    if x.2.enabled && x.2.shadow.eventEn && s.ownerOf (resLine l) != ownerCh x.1 then some (x.1, l) else none

/-- The first line among those of a commit that another owner holds, or that two channels name; with its holder (R44, R286). -/
def State.lineClash (s : State) : List (Nat × Nat) → Option (Nat × Nat)
  | [] => none
  | (c, l) :: rest =>
    if s.ownerOf (resLine l) ≠ 0 then some (resLine l, s.ownerOf (resLine l))
    else if rest.any fun y => y.2 == l then some (resLine l, ownerCh c)
    else s.lineClash rest

/-- Lines that a replaced or discarded pending set holds and neither the live set nor the shadow of its channel names. -/
def State.dropPendLine (s : State) (c : Nat) (m : MvCh) (keep : Bool) : State :=
  match m.pend with
  | some x =>
    if x.eventEn && !(m.live.eventEn && m.live.line == x.line) && !(keep && m.shadow.eventEn && m.shadow.line == x.line) then
      s.release (ownerCh c) [resLine x.line]
    else s
  | none => s

/-- The channels all listed: a commit captures the set of every one (R286). -/
def State.allChans (s : State) : SMap MvCh := (List.range 256).map fun c => (c, s.chan c)

/-- COMMIT of the MOVER page: the sets wait for the hand-overs (R286, R287). -/
def State.moverCommit (s : State) : State :=
  match s.mover.chans.find? fun x => (setBad x.2.shadow).isSome with
  | some x => s.err .mover 0 0x01A3 x.1 ((setBad x.2.shadow).getD 0)
  | none =>
    match s.lineClash s.newLines with
    | some (r, holder) => s.refuseOwned .mover 0 r holder
    | none =>
      let s1 := s.newLines.foldl (fun t x => t.setOwner (resLine x.2) (ownerCh x.1)) s
      let s2 := s1.mover.chans.foldl (fun t x => t.dropPendLine x.1 x.2 true) s1
      let s3 := s2.modHdr .mover 0 fun h => { h with pending := true, commitSeq := h.commitSeq + 1 }
      let chans := s3.allChans.map fun (c, m) => (c, { m with pend := some m.shadow })
      { s3 with mover := { s3.mover with chans, commitAt := hubEdge s3.time.now } }

/-- The hub edge after a commit: the hand-over of every channel that stands at a boundary (R287). -/
def State.moverEdge (s : State) : State :=
  if (s.hdr .mover 0).pending then
    let s1 := s.atLeast ((s.mover.commitAt + 1) * wHub)
    ((smKeys s1.mover.chans).foldl State.takeSet s1).moverApplied.pace
  else s

/-- DISCARD of the MOVER page (table of SHADOW_CTRL). -/
def State.moverDiscard (s : State) : State :=
  let s1 := s.mover.chans.foldl (fun t x => t.dropPendLine x.1 x.2 false) s
  let chans := s1.mover.chans.map fun (c, m) => (c, { m with shadow := m.live, pend := none })
  { s1 with mover := { s1.mover with chans } }.modHdr .mover 0 fun h => { h with pending := false }

/-- MOVER_SHADOW_COMMIT: a write of SHADOW_CTRL.COMMIT of the MOVER page. -/
def execMoverShadowCommit (s : State) : Host.Outcome State Fault Refusal :=
  .next (s.guarded .mover 0 0x038 .rw 18 State.moverCommit)

/-! Hand-over (R272 to R275, R287). -/

/-- Address of a channel's descriptor. -/
def MvCh.descAddr (m : MvCh) (i : Nat) : Nat := m.ringBase + i * 64

/-- The descriptor that follows one in a channel's ring. -/
def MvCh.nextIndex (m : MvCh) (i : Nat) : Nat := (i + 1) % 2 ^ bitsOf m.ringCfg 3 0

/-- The descriptor in 64 bytes of memory (table of the descriptor). -/
def descOf (idx : Nat) (b : List Byte) : MvDesc :=
  let total := leAt b 16 4 * leAt b 24 4
  { idx, word0 := wd (leAt b 0 8), src := leAt b 8 6, srcLen := leAt b 16 4, srcStride := leAt b 20 4, srcCount := leAt b 24 4,
    dst := leAt b 32 6, dstLen := leAt b 40 4, dstStride := leAt b 44 4, dstCount := leAt b 48 4, ungranted := total, left := total }

/-- Length of an extent (R274). -/
def extentLen (len stride count : Nat) : Nat := (count - 1) * stride + len

/-- Lengths of the extents of a descriptor. -/
def MvDesc.srcExt (d : MvDesc) : Nat := extentLen d.srcLen d.srcStride d.srcCount
def MvDesc.dstExt (d : MvDesc) : Nat := extentLen d.dstLen d.dstStride d.dstCount

/-- The checks of R275 in order: the code of the first that fails. -/
def State.descBad (s : State) (d : MvDesc) : Option Nat :=
  if [d.src, d.srcLen, d.srcStride, d.dst, d.dstLen, d.dstStride].any fun x => x % 64 != 0 then some 1
  else if [d.srcLen, d.dstLen, d.srcCount, d.dstCount].any fun x => x == 0 then some 2
  else if d.srcLen * d.srcCount ≠ d.dstLen * d.dstCount then some 3
  else if !(s.inMap d.src d.srcExt && s.inMap d.dst d.dstExt) then some 4
  else if s.live.readBarred d.src d.srcExt then some 5
  else none

/-- The channel reads the descriptor at CH_INDEX: with OWN = 1 its fields are fixed from here, with OWN = 0 the channel has nothing to
take (R273). -/
def State.readAhead (s : State) (c : Nat) : State :=
  let m := s.chan c
  let a := m.descAddr m.index
  let b := s.readMem a 64
  (s.eccRead a 64).modChan c fun m =>
    { m with readAt := s.time.now,
             ahead := if s.readFails a 64 then some none else if nbit (leAt b 0 1) 0 then some (some b) else none }

/-- The channel takes the descriptor that it has read, or halts: at a poisoned word, or at the first check that fails (R275). -/
def State.takeDesc (s : State) (c : Nat) : State :=
  let m := s.chan c
  match m.ahead with
  | none => s
  | some none => (s.chErr c 8 m.index false false).stopChan c
  | some (some b) =>
    let s1 := s.modChan c fun m => { m with ahead := none, index := m.nextIndex m.index }
    match s.descBad (descOf m.index b) with
    | some code => (s1.chErr c code m.index false false).stopChan c
    | none => (s1.modChan c fun x => { x with desc := some (descOf m.index b) }).traceMover 0 c m.index

/-- A hand-over: the last committed set becomes live, then the channel takes the descriptor that it has read, or halts after a late
error (R282, R287). -/
def State.handover (s : State) (c : Nat) : State :=
  let s1 := s.takeSet c
  if (s.chan c).haltNext then (s1.modChan c fun m => { m with halting := true }).tryHalt c else s1.takeDesc c

/-- DESCRIPTOR_HANDOVER: the edge on which a channel takes its next descriptor (R287). -/
def execDescriptorHandover (c : Fin 256) (ecc : EccList) (s : State) : Host.Outcome State Fault Refusal :=
  let m := s.chan c.val
  let s0 := s.arise ecc
  .next (if m.enabled && !m.halted && !m.halting && m.atBoundary then (s0.handover c.val).pace else s0)

/-- The channel has read a descriptor with OWN = 0, and may read it again: every burst of the one in progress has been granted
(R273). -/
def MvCh.rereads (m : MvCh) : Bool :=
  m.enabled && !m.halted && !m.halting && m.ahead.isNone &&
    (match m.desc with
     | some d => d.ungranted == 0
     | none => true)

/-- KICK of CH_CTRL, and the idle poll: the channel reads its descriptor again (R273). -/
def State.chKick (s : State) (c : Nat) : State := if (s.chan c).rereads then s.readAhead c else s

/-- CH_IDLE_POLL: IDLE_POLL × 1.024 µs have passed since the channel's last ring read (R273). -/
def execChIdlePoll (c : Fin 256) (s : State) : Host.Outcome State Fault Refusal :=
  let m := s.chan c.val
  let n := bitsOf m.ringCfg 31 16
  .next (if n = 0 || !m.rereads then s else (s.atLeast (m.readAt + n * 1024 * wNs)).chKick c.val)

/-! Bursts (R276 to R279). -/

/-- Bytes of the next burst of a channel before the limit of pacing. -/
def MvDesc.burst (d : MvDesc) : Nat := min (min 4096 d.ungranted) (min (d.srcLen - d.so) (d.dstLen - d.dof))

/-- Bytes of the next burst of a channel at its level (R276, R278). -/
def State.burstLen (s : State) (c : Nat) (m : MvCh) (d : MvDesc) : Nat :=
  if wKind m.live.watch = 3 then min d.burst (s.room c m (s.level m)) else d.burst

/-- Bytes of bursts whose data is outstanding. -/
def State.outstanding (s : State) : Nat := (s.mover.bursts.map MvBurst.n).sum

/-- A channel is ready (R279). -/
def MvCh.ready (m : MvCh) : Bool :=
  m.enabled && !m.halted && !m.halting && !m.barrier && (wKind m.live.watch == 0 || m.paceRun)
    && (match m.desc with
        | some d => decide (0 < d.ungranted)
        | none => false)

/-- The channel that the arbiter grants (R279). -/
def State.pickChan (s : State) : Option Nat :=
  [3, 2, 1, 0].findSome? fun l =>
    let ready := (s.mover.chans.filter fun x => fld x.2.live.prio 1 0 == l && x.2.ready).map Prod.fst
    (sortBy (fun c => (c + 255 - nth s.mover.rr l 0) % 256) ready).head?

/-- The descriptor after a burst of n bytes has been granted (R276). -/
def MvDesc.advance (d : MvDesc) (n : Nat) : MvDesc :=
  { d with
    ungranted := d.ungranted - n
    si := if d.so + n = d.srcLen then d.si + 1 else d.si
    so := if d.so + n = d.srcLen then 0 else d.so + n
    di := if d.dof + n = d.dstLen then d.di + 1 else d.di
    dof := if d.dof + n = d.dstLen then 0 else d.dof + n }

/-- Grant one burst to a channel, on an edge on which the datapath can accept it (R279); once the last burst of its descriptor is granted it reads the next descriptor (R273). -/
def State.grantBurst (s : State) (c : Nat) (d : MvDesc) (n : Nat) : State :=
  let b : MvBurst := { ch := c, idx := d.idx, src := d.src + d.si * d.srcStride + d.so, dst := d.dst + d.di * d.dstStride + d.dof, n }
  let l := fld (s.chan c).live.prio 1 0
  let t := s.atLeast (s.mover.readFree * wHub)
  let s1 := { t with mover := { t.mover with bursts := t.mover.bursts ++ [b], rr := t.mover.rr.set l c,
                                             readFree := hubEdge t.time.now + cdiv n 1024 } }
  let s2 := (s1.modChan c fun m => { m with desc := some (d.advance n) }).count .mover 0 R.MOVER_BURSTS
  if d.ungranted ≤ n then s2.readAhead c else s2

/-- BURST_GRANT: the arbiter grants one burst to a ready channel (R279). -/
def execBurstGrant (s : State) : Host.Outcome State Fault Refusal :=
  let s1 := s.pace
  match s1.pickChan with
  | none => .next s1
  | some c =>
    let m := s1.chan c
    match m.desc with
    | none => .next s1
    | some d =>
      let n := s1.burstLen c m d
      if n = 0 ∨ 262144 < s1.outstanding + n then .next s1 else .next (s1.grantBurst c d n).pace

/-! Data (R276, R280). -/

/-- The channel's event line pulses, when PULSE and EVENT_EN are 1 (R280). -/
def State.moverPulse (s : State) (c : Nat) (word0 : Word) : State × Bool :=
  let x := (s.chan c).live
  if bit word0 1 && x.eventEn then ((s.count .mover 0 R.MOVER_PULSES).pulseNow x.line, true) else (s, false)

/-- The last write of a descriptor has been issued: it completes, or its barrier holds it (R280, R281). -/
def State.leftZero (s : State) (c : Nat) (d : MvDesc) : State :=
  if bit d.word0 2 then
    let x : MvDone := { idx := d.idx, word0 := d.word0, pulsed := false }
    s.modChan c fun m => { m with desc := none, barrier := true, held := some d, leftShown := 0, done := m.done ++ [x] }
  else
    let r := s.moverPulse c d.word0
    let x : MvDone := { idx := d.idx, word0 := d.word0, pulsed := r.2 }
    (r.1.modChan c fun m => { m with desc := none, leftShown := 0, done := m.done ++ [x] }).traceMover 1 c d.idx

/-- Count in CH_DESC_DONE (0) or CH_BYTES (1) of a channel and in the page's total (R41, R288). -/
def State.countChan (s : State) (c w n : Nat) : State :=
  let m := s.chan c
  let old := if w = 0 then m.descDone else m.bytes
  let s1 := if ctrWraps old n then (s.wrap (wrapChan c w)).cause .mover 0 causeOvf else s
  if w = 0 then (s1.modChan c fun m => { m with descDone := ctrAdd m.descDone n }).countN .mover 0 R.MOVER_DESC_DONE n
  else (s1.modChan c fun m => { m with bytes := ctrAdd m.bytes n }).countN .mover 0 R.MOVER_BYTES_MOVED n

/-- The value that the k-th byte of a burst leaves at an address: a free value where the descriptor's extents overlap, and one of two
where another channel's write to the same word is not answered (R276; log entry 42). -/
def State.burstByte (s : State) (d : MvDesc) (others : List Nat) (k a : Nat) (b : Byte) : Byte :=
  let f := Config.freeValue (s.freeCount + k)
  if d.src ≤ a ∧ a < d.src + d.srcExt then BitVec.ofNat 8 f.toNat
  else if others.contains (a / 8 * 8) ∧ bit f 0 then s.readByte a
  else b

/-- Words that other channels have written and whose writes are not answered. -/
def State.othersWords (s : State) (c : Nat) : List Nat :=
  (s.mover.chans.filter fun x => x.1 != c).flatMap fun x => x.2.unans.map Prod.fst

/-- The clock runs to the edge of the last write of n bytes: 1,024 bytes per hub clock period (R279). -/
def State.writeEdges (s : State) (n : Nat) : State :=
  let e := max s.mover.writeFree (hubEdge s.time.now) + cdiv n 1024
  let t := s.atLeast ((e - 1) * wHub)
  { t with mover := { t.mover with writeFree := e } }

/-- The writes of a burst are issued (R276). -/
def State.issueBurst (s : State) (b : MvBurst) (d : MvDesc) : State :=
  let others := s.othersWords b.ch
  let data := (s.readMem b.src b.n).zipIdx.map fun x => s.burstByte d others x.2 (b.dst + x.2) x.1
  let s1 := ({ s with freeCount := s.freeCount + b.n }).writeMem b.dst data
  (s1.countChan b.ch 1 b.n).modChan b.ch fun m =>
    { m with desc := some { d with left := d.left - b.n }, m := m.m + b.n,
             unans := m.unans ++ (wordsOf b.dst b.n).map fun w => (w, d.idx) }

/-- BURST_DATA_RETURN: the data of the burst granted first returns, and its writes are issued (R276, R282). -/
def execBurstDataReturn (ecc : EccList) (linkError : Bool) (s : State) : Host.Outcome State Fault Refusal :=
  match s.mover.bursts with
  | [] => .next (s.arise ecc)
  | b :: rest =>
    let s0 := { s.arise (if linkError && memLpddr b.src then ecc ++ [(b.src, .uncorrectable)] else ecc) with
                mover := { s.mover with bursts := rest } }
    let s1 := s0.eccRead b.src b.n
    match (s1.chan b.ch).desc with
    | none => .next s1
    | some d =>
      if s0.readFails b.src b.n then .next ((s1.chErr b.ch 6 d.idx false false).stopChan b.ch)
      else
        let s2 := (s1.writeEdges b.n).issueBurst b d
        if d.left ≤ b.n then .next (s2.leftZero b.ch d).pace else .next s2.pace

/-! Answers (R274, R281, R282). -/

/-- Return a descriptor: its word 0 is written with OWN = 0 (R274). -/
def State.returnDesc (s : State) (c : Nat) (d : MvDone) : State :=
  let m := s.chan c
  let s1 := s.store (m.descAddr d.idx) (leBytes 8 (setBit d.word0 0 false).toNat)
  s1.countChan c 0 1

/-- A barrier descriptor completes: every write has been answered (R281). -/
def State.barrierDone (s : State) (c : Nat) (d : MvDone) : State :=
  let r := s.moverPulse c d.word0
  (r.1.modChan c fun m => { m with barrier := false, held := none }).traceMover 1 c d.idx

/-- A late error of a descriptor (R282). -/
def State.lateError (s : State) (c : Nat) (d : MvDone) : State :=
  let s1 := ((s.chErr c 7 d.idx true d.pulsed).count .mover 0 R.MOVER_LATE_ERRORS).cause .mover 0 17
  if bit d.word0 2 ∨ ((s1.chan c).desc.isNone ∧ !(s1.chan c).barrier) then s1.stopChan c
  else s1.modChan c fun m => { m with haltNext := true }

/-- A descriptor whose writes have all been answered: it completes if a barrier held it, and is returned; one that a write error
names is not (R274, R281, R282). -/
def State.settleDesc (s : State) (c : Nat) (bad : List Nat) (d : MvDone) : State :=
  if bad.contains d.idx then s.lateError c d
  else
    let s1 := if bit d.word0 2 ∧ (s.chan c).barrier then s.barrierDone c d else s
    s1.returnDesc c d

/-- The descriptors of a channel whose unanswered writes include one that an uncorrected link error meets: each failure is charged to
the descriptor that issued the write (R207, R282). -/
def State.failedWrites (s : State) (c : Nat) : List Nat :=
  ((s.chan c).unans.filter fun w => !(s.linkLost w.1 8).isEmpty).map Prod.snd

/-- The writes of a channel have been answered: the link errors that stand on them are taken (R274, R281 to R283). -/
def State.answered (s : State) (c : Nat) : State :=
  let m := s.chan c
  let bad := s.failedWrites c
  let s0 := m.unans.foldl (fun t w => t.linkTake w.1 8) s
  let s1 := s0.modChan c fun m => { m with unans := [], done := [] }
  let s2 := m.done.foldl (fun t d => t.settleDesc c bad d) s1
  let s3 := match m.desc with
    | some d => if bad.contains d.idx && !(m.done.any fun x => x.idx == d.idx) then (s2.chErr c 7 d.idx false false).stopChan c else s2
    | none => s2
  s3.tryHalt c

/-- WRITES_ANSWERED: the writes of an enabled channel have been answered. -/
def execWritesAnswered (c : Fin 256) (ecc : EccList) (s : State) : Host.Outcome State Fault Refusal :=
  let m := s.chan c.val
  .next (if !m.enabled || m.unans.isEmpty then s.arise ecc else ((s.arise ecc).answered c.val).pace)

/-- DRAIN_DONE: the writes of a disabled channel have been answered (R284). -/
def execDrainDone (c : Fin 256) (s : State) : Host.Outcome State Fault Refusal :=
  if (s.chan c.val).draining then .next (s.modChan c.val fun m => { m with draining := false, unans := [] }) else .next s

/-! Enable, disable, reset (R284, R285). -/

/-- What keeps a channel from being enabled: error code and page offset (R285). -/
def State.chBad (s : State) (m : MvCh) : Option (Nat × Nat) :=
  let n := bitsOf m.ringCfg 3 0
  let size := 2 ^ n * 64
  if !(s.hdr .mover 0).enable then some (0x01A0, 0x018)
  else if m.needsReset then some (0x01A1, R.MOVER_CH_CTRL)
  else if n < 4 ∨ 12 < n then some (0x01A0, R.MOVER_CH_RING_CFG)
  else if m.ringBase % size ≠ 0 ∨ !s.inMap m.ringBase size then some (0x01A0, R.MOVER_CH_RING_BASE)
  else none

/-- ENABLE of CH_CTRL is written 1 (R285). -/
def State.chEnable (s : State) (c : Nat) : State :=
  let m := s.chan c
  if m.enabled then s
  else match s.chBad m with
    | some (code, po) => s.refuseEnable .mover 0 code c po
    | none =>
      let x := m.pend.getD m.live
      let lines := if x.eventEn then [resLine x.line] else []
      match s.blocked (ownerCh c) lines with
      | some r => s.refuseOwned .mover 0 r (s.ownerOf r)
      | none =>
        let s1 := (s.takeSet c).takeAll (ownerCh c) lines
        ((s1.modChan c fun m => { m with enabled := true, paceRun := false, m := 0,
                                         z0 := (s1.zone (wTarget m.live.watch)).landed }).readAhead c).pace

/-- The destination bytes of a dropped descriptor are undefined: they take free values (R284). -/
def State.scramble (s : State) (d : MvDesc) : State :=
  let total := d.dstLen * d.dstCount
  let mem := (List.range total).foldl (fun m k =>
    memSet m (d.dst + k / d.dstLen * d.dstStride + k % d.dstLen) (BitVec.ofNat 8 (Config.freeValue (s.freeCount + k)).toNat)) s.mem
  { s with mem, freeCount := s.freeCount + total }

/-- ENABLE of CH_CTRL is written 0 (R284): CH_LEFT, CH_LEVEL and the channel's counts are free values until RESET. -/
def State.chDisable (s : State) (c : Nat) : State :=
  let m := s.chan c
  if !m.enabled then s
  else
    let s1 := match m.desc <|> m.held with
      | some d => s.scramble d
      | none => s
    let n := s1.freeCount
    let s2 := { s1 with freeCount := n + 4, mover := { s1.mover with bursts := s1.mover.bursts.filter fun b => b.ch != c } }
    let s3 := s2.modChan c fun m =>
      { m with
        enabled := false, needsReset := true, draining := !m.unans.isEmpty, desc := none, barrier := false, held := none, done := [], ahead := none
        halting := false, haltNext := false, halted := false, paceRun := false
        leftShown := (Config.freeValue n).toNat % 2 ^ 32, level := sext 32 (Config.freeValue (n + 1)).toNat
        descDone := Config.freeValue (n + 2) &&& 0x8000FFFFFFFFFFFF#64
        bytes := Config.freeValue (n + 3) &&& 0x8000FFFFFFFFFFFF#64 }
    let s4 := (s3.release (ownerCh c) allLines).takeSet c
    if m.desc.isSome ∨ m.barrier then s4.count .mover 0 R.MOVER_DISABLES_DROPPED else s4

/-- RESET of CH_CTRL (R285). -/
def State.chReset (s : State) (c : Nat) : State :=
  let m := s.chan c
  if m.enabled ∨ m.draining then s.err .mover 0 0x01A2 c R.MOVER_CH_CTRL
  else s.modChan c fun m =>
    { m with needsReset := false, errCode := 0, errIndex := 0, pulsed := false, more := false, late := false, leftShown := 0, level := 0,
             m := 0, z0 := 0, hoSeq := 0, hoFirst := 0, hoSame := false, descDone := 0, bytes := 0, unans := [] }

/-- The write of CH_CTRL: a disable first, then RESET, an enable, KICK (R273, R284, R285; log entry 43). -/
def State.writeChCtrl (s : State) (c : Nat) (v : Word) : State :=
  let s1 := if bit v 0 then s else s.chDisable c
  let s2 := if bit v 1 then s1.chReset c else s1
  let s3 := if bit v 0 then s2.chEnable c else s2
  if bit v 2 then s3.chKick c else s3

/-- Every channel is disabled: CTRL.ENABLE of the page written 0, or BLOCK_RESET (R284). -/
def State.moverOff (s : State) : State := (smKeys s.mover.chans).foldl State.chDisable s

/-- A write to a register of the channel window (R271, R285, R288). -/
def State.writeCh (s : State) (po : Nat) (v : Word) : State :=
  let c := s.chSel
  let m := s.chan c
  let n := v.toNat
  if po = R.MOVER_CH_CTRL then s.writeChCtrl c v
  else if po = R.MOVER_CH_PRIO then s.modChan c fun m => { m with shadow := { m.shadow with prio := v } }
  else if po = R.MOVER_CH_EVENT then s.modChan c fun m => { m with shadow := { m.shadow with event := v } }
  else if po = R.MOVER_CH_WATCH then s.modChan c fun m => { m with shadow := { m.shadow with watch := v } }
  else if po = R.MOVER_CH_LOW then s.modChan c fun m => { m with shadow := { m.shadow with low := v } }
  else if po = R.MOVER_CH_HIGH then s.modChan c fun m => { m with shadow := { m.shadow with high := v } }
  else if po = R.MOVER_CH_RING_BASE ∨ po = R.MOVER_CH_RING_CFG ∨ po = R.MOVER_CH_INDEX then
    if m.enabled ∨ m.needsReset then s.err .mover 0 0x01A2 c po
    else if po = R.MOVER_CH_RING_BASE then s.modChan c fun m => { m with ringBase := n }
    else if po = R.MOVER_CH_RING_CFG then s.modChan c fun m => { m with ringCfg := n }
    else s.modChan c fun m => { m with index := n }
  else s

/-- The write of CH_SEL (R271). -/
def State.writeChSel (s : State) (v : Word) : State := s.setReg .mover 0 R.MOVER_CH_SEL (wd (fld v 7 0))

/-- CH_SEL: a write of CH_SEL. -/
def execChSel (value : BitVec 32) (s : State) : Host.Outcome State Fault Refusal :=
  .next (s.regWriteV .mover 0 R.MOVER_CH_SEL (value.setWidth 64) State.writeChSel)

/-- CH_ENABLE: a write of CH_CTRL with ENABLE 1. -/
def execChEnable (s : State) : Host.Outcome State Fault Refusal :=
  .next (s.regWrite .mover 0 R.MOVER_CH_CTRL fun t => t.chEnable t.chSel)

/-- CH_DISABLE: a write of CH_CTRL with ENABLE 0. -/
def execChDisable (s : State) : Host.Outcome State Fault Refusal :=
  .next (s.regWrite .mover 0 R.MOVER_CH_CTRL fun t => t.chDisable t.chSel)

/-- CH_RESET: RESET of CH_CTRL. -/
def execChReset (s : State) : Host.Outcome State Fault Refusal :=
  .next (s.regWrite .mover 0 R.MOVER_CH_CTRL fun t => t.chReset t.chSel)

/-- CH_KICK: KICK of CH_CTRL. -/
def execChKick (s : State) : Host.Outcome State Fault Refusal :=
  .next (s.regWrite .mover 0 R.MOVER_CH_CTRL fun t => t.chKick t.chSel)

/-! Registers (R288). -/

/-- HALTED_MAP. -/
def State.haltedMap (s : State) (w : Nat) : Word :=
  wd ((s.mover.chans.filter fun x => x.2.halted && x.1 / 64 == w).map fun x => 2 ^ (x.1 % 64)).sum

/-- A read of a register of the channel window. `view`: SHADOW_CTRL.VIEW. -/
def State.readCh (s : State) (po : Nat) (view : Bool) : Word :=
  let m := s.chan s.chSel
  let x := if view then m.live else m.shadow
  if po = R.MOVER_CH_RING_BASE then wd m.ringBase
  else if po = R.MOVER_CH_RING_CFG then wd m.ringCfg
  else if po = R.MOVER_CH_CTRL then wd (b2n m.enabled)
  else if po = R.MOVER_CH_PRIO then x.prio
  else if po = R.MOVER_CH_EVENT then x.event
  else if po = R.MOVER_CH_WATCH then x.watch
  else if po = R.MOVER_CH_LOW then x.low
  else if po = R.MOVER_CH_HIGH then x.high
  else if po = R.MOVER_CH_INDEX then wd m.index
  else if po = R.MOVER_CH_STATUS then wd (m.state + b2n m.paceRun * 8 + b2n m.draining * 16)
  else if po = R.MOVER_CH_ERR then
    wd (m.errCode + m.errIndex * 2 ^ 8 + b2n m.pulsed * 2 ^ 29 + b2n m.more * 2 ^ 30 + b2n m.late * 2 ^ 31)
  else if po = R.MOVER_CH_HANDOVER_SET then wd (m.hoSeq + m.hoFirst * 2 ^ 8 + b2n m.hoSame * 2 ^ 31)
  else if po = R.MOVER_CH_LEVEL then wd (toField 32 m.level)
  else if po = R.MOVER_CH_LEFT then
    wd (min 0xFFFFFFFF (match m.desc with | some d => d.left | none => m.leftShown))
  else if po = R.MOVER_CH_DESC_DONE then m.descDone
  else m.bytes

end Sys2Proof.Machine
end

