-- ==== Sys2Proof/Machine/Power.lean ====
section
/-! DEFINITION. The regulator sequencer, reset, LPDDR5X training and the thermal sensors (R338 to R346, R362, R365 to R368). -/

namespace Sys2Proof.Machine

open Sys2Proof

/-- Change the always-on island. -/
def State.modPwr (s : State) (f : PwrSt → PwrSt) : State := { s with pwr := f s.pwr }

/-! Reset (R340, R343). -/

/-- The always-on island through a reset: rails, straps, sensors, PMBus and RESET_CAUSE stay; its other registers return to their
reset values. ALERT_N is released. -/
def PwrSt.hold (p : PwrSt) : PwrSt :=
  { seq := p.seq, rails := p.rails, stopRail := p.stopRail, pgood := p.pgood, cause := p.cause, mfg := p.mfg, osc := p.osc,
    oscSet := p.oscSet, addr := p.addr, released := p.released, page := p.page, stVout := p.stVout, stIout := p.stIout,
    stInput := p.stInput, stTemp := p.stTemp, stCml := p.stCml, vinOv := p.vinOv, sens := p.sens, shut := p.shut,
    vinTlm := p.vinTlm, iinTlm := p.iinTlm, pinTlm := p.pinTlm, tempTlm := p.tempTlm, railTlm := p.railTlm,
    rstN := p.rstN, ao := p.ao, relAt := p.relAt, noRef := p.noRef, alert := false, held := true }

/-! Pins (R342). -/

/-- Some pins stand as a reset leaves them: the block that owns them has not driven them since. -/
def State.idle (s : State) (g : PinGroup) : Bool :=
  match g with
  | .laneRx => s.ports.all fun x => x.2.link.state == .disabled
  | .evt => (List.range 32).all fun n => pinMode (s.pinCfg n) != 1
  | .xspi => !s.pwr.core0
  | .lpddr => !s.ddr.busy && !s.ddr.done
  | .mgmtSerdes => !(s.hdr .mgmt 0).enable

/-- What a reset puts out: every lane squelches; ALERT_N is released, PPS_OUT is low, and the pins of the table of pin states go to its
states (R342, R343). -/
def State.resetOuts (s : State) : List Out :=
  (smKeys s.ports).map Out.squelch ++ (if s.pwr.alert then [.alertN true] else []) ++ (if s.time.ppsOut then [.ppsOut false] else [])
    ++ ([.laneRx, .evt, .xspi, .lpddr, .mgmtSerdes].filter fun g => !s.idle g).map Out.pinIdle

/-- Internal reset is asserted: every lane squelches, every register returns to its reset value but RESET_CAUSE, the fuses and the
straps, and the content of LPDDR is lost (R343, log entries 3 and 51). Staging memory is zeroed after the release (R342). -/
def State.assertReset (s : State) : State :=
  { pending := s.pending
    freeCount := s.freeCount + 1
    instDraw := s.freeCount
    mem := s.mem.filter fun c => memStaging c.1
    poison := s.poison
    sec := { keys := s.sec.keys, revoked := s.sec.revoked, counter := s.sec.counter, prov := s.sec.prov }
    pwr := s.pwr.hold
    outs := s.outs ++ s.resetOuts }

/-- A reset with a cause of RESET_CAUSE (R348), on the always-on clock, which has run on since the release. -/
def State.resetFor (s : State) (causeBit : Nat) : State :=
  (s.modPwr fun p => { p with cause := p.cause ||| 2 ^ causeBit, ao := p.ao + (s.time.now - s.core.mtime0) / wNs }).assertReset

/-- RST_N_ASSERT: RST_N held low for 1 µs resets the endpoint; the reset is held while it is low (R340). -/
def execRstNAssert (s : State) : Host.Outcome State Fault Refusal :=
  .next ((if s.pwr.held then s else s.resetFor 1).modPwr fun p => { p with rstN := false })

/-- DEVICE_RESET of GLOBAL.CTRL resets the endpoint as the pin does, and holds the reset for 10 µs (R340). -/
def State.deviceReset (s : State) : State :=
  if s.pwr.held then s else (s.resetFor 2).modPwr fun p => { p with relAt := p.ao + 10000 }

/-- DEVICE_RESET (R340). -/
def execDeviceReset (s : State) : Host.Outcome State Fault Refusal := .next s.deviceReset

/-- The instant of the release, when RST_N has risen `d` ns after the last event of the always-on clock: 1 ms after the later of PGOOD
rising and RST_N rising, or the end of the 10 µs of DEVICE_RESET, if RST_N has not been low since (R340). -/
def PwrSt.relFrom (p : PwrSt) (d : Nat) : Nat := if p.rstN then max p.ao p.relAt else max p.relAt (p.ao + d + 1000000)

/-- RESET_RELEASE: internal reset is released and the straps are sampled, on the first always-on edge on which PGOOD and RST_N are high
and the wait has passed. `rise` is none while RST_N is low, else how many ns after the last event of the always-on clock it rose (R340,
R341, log entry 88). -/
def execResetRelease (rise : Option Nat) (mfg : Bool) (addr : BitVec 3) (s : State) : Host.Outcome State Fault Refusal :=
  match rise with
  | none => .next s
  | some d =>
    if s.pwr.held && s.pwr.pgood then
      let s1 := s.modPwr fun p =>
        { p with held := false, released := true, mfg := if p.released then p.mfg else mfg, addr := addr.toNat, rstN := true
                 ao := p.relFrom d }
      .next { s1 with core := { s1.core with mtime0 := s1.time.now } }
    else .next s

/-- PLL_LOCK: the PLLs lock, and staging memory is written with zeros and valid check bits (R342). -/
def execPllLock (s : State) : Host.Outcome State Fault Refusal :=
  if s.pwr.held || s.pwr.pll then .next s
  else
    let s1 := s.modPwr fun p => { p with pll := true }
    .next { s1 with mem := s1.mem.filter fun c => !memStaging c.1, poison := [] }

/-- CORE0_RELEASE: 100 µs after the release of the reset, the PLLs locked, core 0 leaves reset at the first address of the boot ROM,
unless manufacturing mode keeps it there (R324, R341, R342). -/
def execCore0Release (s : State) : Host.Outcome State Fault Refusal :=
  if s.pwr.held || s.pwr.mfg || s.pwr.core0 || !s.pwr.pll then .next s
  else .next (((s.runTo (s.core.mtime0 + 100 * wUs)).modPwr fun p => { p with core0 := true }).out (.release 0 bootRom))

/-! The regulator sequencer (R338, R339, R346). -/

/-- UVLO_RISE: VIN rises through 2.6 V and the sequencer enables VDD_AO, once VIN has fallen below 0.5 V (`drained`) or has stayed below
2.5 V for 10 ms (`low`, in µs) since it was last on (R338, R346, R348). -/
def execUvloRise (drained : Bool) (low : Nat) (s : State) : Host.Outcome State Fault Refusal :=
  if s.pwr.seq = .off ∧ (drained = true ∨ 10000 ≤ low) then
    .next { s with pwr := { seq := .rail 0, rails := 0, pgood := false, cause := 1, oscSet := false, released := false, rstN := false
                            held := true } }
  else .next s

/-- STRAP_OSC is sampled once per power-up, when VDD_AO comes into regulation (R341). -/
def PwrSt.sampleOsc (p : PwrSt) (osc : Bool) : PwrSt := { p with osc := if p.oscSet then p.osc else osc, oscSet := true }

/-- RAIL_IN_REGULATION: the rail that the sequencer waits for reaches regulation; STRAP_OSC reads `osc`. With the last of them PGOOD
rises, and the reset is held for another 1 ms (R339 to R341). -/
def execRailInRegulation (rail : Fin 10) (osc : Bool) (s : State) : Host.Outcome State Fault Refusal :=
  if s.pwr.seq = .rail rail.val then
    let s1 := s.modPwr fun p => { p with rails := p.rails ||| 2 ^ rail.val }
    if rail.val = 0 then .next (s1.modPwr fun p => { p.sampleOsc osc with seq := .crystal })
    else if rail.val = 9 then
      .next ((s1.modPwr fun p => { p with seq := .good, pgood := true, relAt := p.ao + 1000000 }).out (.pgood true))
    else .next (s1.modPwr fun p => { p with seq := .rail (rail.val + 1) })
  else .next s

/-- CRYSTAL_STABLE: the 25 MHz clock runs, from the crystal or from the oscillator that STRAP_OSC named, and VDDIO is enabled (R339,
R341). -/
def execCrystalStable (s : State) : Host.Outcome State Fault Refusal :=
  .next (if s.pwr.seq = .crystal then s.modPwr fun p => { p with seq := .rail 1 } else s)

/-- A rail is enabled: in regulation, or the one that the sequencer waits for (R339). -/
def PwrSt.railOn (p : PwrSt) (i : Nat) : Bool := nbit p.rails i || p.seq == .rail i

/-- What turning rails off puts out: in the reverse of the power-up order, PGOOD with the first (R339, R346). -/
def PwrSt.offOuts (p : PwrSt) (keep : Nat) : List Out :=
  match ((List.range 10).reverse.filter fun i => p.railOn i && !nbit keep i).map Out.railOff with
  | [] => []
  | x :: l => x :: ((if p.pgood then [Out.pgood false] else []) ++ l)

/-- Turn the rails off but those of `keep`, as R346 gives: the clocks stop, every lane squelches, the LPDDR5X reset is asserted, then
the rails go in reverse order. The endpoint is in reset. -/
def State.railsOff (s : State) (next : SeqState) (keep : Nat) : State :=
  let s1 := s.assertReset
  { s1 with
    outs := s1.outs ++ s.pwr.offOuts keep
    pwr := { s1.pwr with seq := next, rails := s1.pwr.rails &&& keep, pgood := false } }

/-- ALERT_N is asserted: the pin is driven low. -/
def State.alertOn (s : State) : State := (s.modPwr fun p => { p with alert := true }).out (.alertN false)

/-- A rail is out of regulation: every rail is turned off, and RAIL_STATUS names it (R339). -/
def State.railFail (s : State) (rail : Nat) : State :=
  ((s.railsOff .stopped 0).modPwr fun p => { p with stopRail := rail + 1 }).alertOn

/-- Set a bit in a status byte of the PMBus for one rail (R363). -/
def setStatus (l : List Nat) (rail bit : Nat) : List Nat := l.set rail (nth l rail 0 ||| 2 ^ bit)

/-- RAIL_TIMEOUT: the rail that the sequencer waits for is not in regulation by its limit (R339): TON_MAX_FAULT in its STATUS_VOUT (log
entry 53). -/
def execRailTimeout (rail : Fin 10) (s : State) : Host.Outcome State Fault Refusal :=
  .next (if s.pwr.seq = .rail rail.val then
    (s.modPwr fun p => { p with stVout := setStatus p.stVout rail.val 2 }).railFail rail.val else s)

/-- Rails with LPDDR5X outputs: VDDIO (VDD1_OUT), VDD2H, VDD2L, VDDQ (R354, R362). -/
def hasDdrOut (rail : Nat) : Bool := rail == 1 || rail == 6 || rail == 7 || rail == 8

/-- RAIL_CURRENT_LIMIT: an LPDDR5X rail output has stood at its limit for 100 µs and counts as a rail out of regulation (R362):
IOUT_OC_FAULT in its STATUS_IOUT and VOUT_UV_FAULT in its STATUS_VOUT (log entry 53). -/
def execRailCurrentLimit (rail : Fin 10) (s : State) : Host.Outcome State Fault Refusal :=
  .next (if hasDdrOut rail.val && nbit s.pwr.rails rail.val then
    (s.modPwr fun p => { p with stIout := setStatus p.stIout rail.val 7, stVout := setStatus p.stVout rail.val 4 }).railFail rail.val
    else s)

/-- Turn off as R346 gives for the lockout and for the PMBus command. -/
def State.turnOff (s : State) : State := s.railsOff .off 0

/-- UVLO_FALL: VIN falls through 2.5 V (R338, R346, R348). -/
def execUvloFall (s : State) : Host.Outcome State Fault Refusal :=
  if s.pwr.seq = .off then .next s
  else .next (s.modPwr fun p => { p with cause := p.cause ||| b2n p.pgood * 2 ^ 4 }).turnOff

/-- VIN_OVERVOLTAGE: VIN has stood above 5.8 V for 10 µs (R362). -/
def execVinOvervoltage (mv : Nat) (s : State) : Host.Outcome State Fault Refusal :=
  if mv ≤ 5800 ∨ s.pwr.seq = .off then .next s
  else
    let s1 := ((s.modPwr fun p => { p with stInput := p.stInput ||| 0x80, vinOv := true }).raise 0x025 0 mv).cause .pwr 0 17
    .next s1.turnOff.alertOn

/-! LPDDR5X training (R344). -/

/-- The write of TRAIN_CTRL (R344). -/
def State.writeTrain (s : State) (v : Word) : State :=
  if !bit v 0 then s
  else if s.ddr.busy then s.err .ddr 0 0x0200 0 R.DDR_TRAIN_CTRL
  else if s.ddr.trained then s.err .ddr 0 0x0201 0 R.DDR_TRAIN_CTRL
  else { s with ddr := { busy := true } }.count .ddr 0 R.DDR_TRAIN_RUNS

/-- DDR_TRAIN_START: a write of DDR.TRAIN_CTRL.START (R344). -/
def execDdrTrainStart (s : State) : Host.Outcome State Fault Refusal :=
  .next (s.regWriteV .ddr 0 R.DDR_TRAIN_CTRL 1 State.writeTrain)

/-- DDR_TRAIN_DONE: a training ends; `passed` names the channels that passed (R344). -/
def execDdrTrainDone (passed : BitVec 8) (s : State) : Host.Outcome State Fault Refusal :=
  if s.ddr.busy then
    let failed := (~~~passed).toNat
    let ddr : DdrSt := { passed := passed.toNat, failed, busy := false, done := true, trained := failed = 0 }
    let s1 := ({ s with ddr }).cause .ddr 0 16
    .next (if failed = 0 then s1 else (s1.count .ddr 0 R.DDR_TRAIN_FAILURES).raise 0x023 0 failed)
  else .next s

/-- TRAIN_STATUS (R349). -/
def DdrSt.status (d : DdrSt) : Word :=
  wd (d.passed + d.failed * 2 ^ 8 + b2n d.busy * 2 ^ 16 + b2n d.done * 2 ^ 17 + b2n d.trained * 2 ^ 18)

/-! Thermal (R365 to R367). Temperatures are in 1/16 °C. -/

/-- The hottest of some readings: the lowest sensor that has it. -/
def hottest (ts : List Int) : Nat :=
  (((List.range ts.length).drop 1).foldl (fun b i => if nth ts b 0 < nth ts i 0 then i else b) 0)

/-- The throttle stage that a temperature leads to from a stage (R366). A sample can pass through stage 1 (log entry 52). -/
def nextStage (stage : Nat) (t : Int) : Nat :=
  let up := if stage = 0 ∧ 1680 ≤ t then 1 else stage
  let up := if up = 1 ∧ 1840 ≤ t then 2 else up
  let dn := if up = 2 ∧ t ≤ 1760 then 1 else up
  if dn = 1 ∧ t ≤ 1600 then 0 else dn

/-- A sample of the sensors that the registers show (R365, R366, R368). -/
def State.thermalSample (s : State) (ts : List Int) : State :=
  let h := hottest ts
  let t := nth ts h 0
  let old := s.pwr.stage
  let new := nextStage old t
  let s1 := (if old = 0 then s else s.countN .pwr 0 R.PWR_THROTTLE_US 100).modPwr fun p =>
    { p with temps := ts, hottest := h, stage := new }
  let s2 := if old = new then s1 else s1.cause .pwr 0 16
  if old = 0 ∧ new ≠ 0 then (s2.count .pwr 0 R.PWR_THROTTLE_ENTRIES).raise 0x024 h (toField 32 t) else s2

/-- THERMAL_SAMPLE: the 16 sensors are sampled (R365). In reset the readings reach the PMBus only. -/
def execThermalSample (temps : List Int) (s : State) : Host.Outcome State Fault Refusal :=
  if !nbit s.pwr.rails 0 then .next s
  else
    let s1 := s.modPwr fun p => { p with sens := temps, shut := false }
    .next (if s.pwr.held then s1 else s1.thermalSample temps)

/-- THERMAL_SHUTDOWN: a junction reaches 125 °C (R367). -/
def execThermalShutdown (s : State) : Host.Outcome State Fault Refusal :=
  if !nbit s.pwr.rails 0 then .next s
  else
    let s1 := s.modPwr fun p => { p with cause := p.cause ||| 2 ^ 3, stTemp := p.stTemp ||| 0x80, shut := true }
    .next (s1.railsOff .thermal 1).alertOn

/-! Registers of the DDR and PWR pages (R348, R349, R368). -/

/-- A write to a register of the PWR page, once it has passed the common checks. -/
def State.writePwr (s : State) (po : Nat) (v : Word) : State :=
  if po = R.PWR_RESET_CAUSE then s.modPwr fun p => { p with cause := p.cause &&& (0x1F - fld v 4 0) } else s

/-- A read of a register of the PWR page that is not held as a word. -/
def State.readPwr (s : State) (po : Nat) : Option Word :=
  let p := s.pwr
  if po = R.PWR_RESET_CAUSE then some (wd p.cause)
  else if po = R.PWR_STRAPS then some (wd (b2n p.mfg + b2n p.osc * 2 + p.addr * 4))
  else if po = R.PWR_RAIL_STATUS then some (wd (p.rails + p.stopRail * 2 ^ 16))
  else if po = R.PWR_THERM_STATUS then
    some (wd (p.stage + p.hottest * 2 ^ 4 + toField 16 (nth p.temps p.hottest 0) * 2 ^ 16))
  else if po = R.PWR_VIN_MV then some (wd (p.vinMv % 2 ^ 16))
  else if po = R.PWR_IIN then some (wd (p.iin % 2 ^ 16))
  else if po = R.PWR_PIN then some (wd (p.pin % 2 ^ 16))
  else if R.PWR_TEMP ≤ po ∧ po < R.PWR_TEMP + 64 then some (wd (toField 16 (nth p.temps ((po - R.PWR_TEMP) / 4) 0)))
  else none

end Sys2Proof.Machine
end

