-- ==== Sys2Proof/Machine/Codec.lean ====
section
/-! DEFINITION. Payload codecs and element arithmetic: RAW, MBC-L and MBC-Q blocks encoded and decoded to the bit, the stage-8 checks,
additions and maxima (R191, R252 to R263). An element is a number: its bit pattern. Magnitudes of floating-point elements are
counted in units of 2^-149, so that every finite value of the three types is a whole number. -/

namespace Sys2Proof.Machine

open Sys2Proof

/-! Floating-point patterns. -/

/-- Width of an exponent field, of a fraction field, and the power of two, over 2^-149, of the smallest subnormal (R258). -/
structure Fmt where
  e  : Nat
  m  : Nat
  sh : Nat
deriving DecidableEq, Repr

def fp32 : Fmt := { e := 8, m := 23, sh := 0 }
def bf16 : Fmt := { e := 8, m := 7, sh := 16 }
def fp16 : Fmt := { e := 5, m := 10, sh := 125 }

/-- The format of a floating-point ELEM_TYPE. -/
def fmtOf (t : Nat) : Fmt := if t = 1 then fp32 else if t = 2 then bf16 else fp16

/-- ELEM_TYPE is FP32, BF16 or FP16. -/
def isFloat (t : Nat) : Bool := 1 ≤ t && t ≤ 3

/-- Fields of a pattern. -/
def Fmt.neg (f : Fmt) (x : Nat) : Bool := nbit x (f.e + f.m)
def Fmt.expo (f : Fmt) (x : Nat) : Nat := bitsOf x (f.e + f.m - 1) f.m
def Fmt.frac (f : Fmt) (x : Nat) : Nat := x % 2 ^ f.m
def Fmt.finite (f : Fmt) (x : Nat) : Bool := f.expo x != 2 ^ f.e - 1
def Fmt.isNan (f : Fmt) (x : Nat) : Bool := !f.finite x && f.frac x != 0
def Fmt.isInf (f : Fmt) (x : Nat) : Bool := !f.finite x && f.frac x == 0

/-- Magnitude of a finite pattern, over 2^-149. -/
def Fmt.mag (f : Fmt) (x : Nat) : Nat :=
  (if f.expo x = 0 then f.frac x else 2 ^ f.m + f.frac x) * 2 ^ (f.sh + max (f.expo x) 1 - 1)

/-- Signed value of a finite pattern. -/
def Fmt.val (f : Fmt) (x : Nat) : Int := if f.neg x then -(f.mag x : Int) else (f.mag x : Int)

/-- The sign bit, the infinity of a sign and the canonical quiet NaN (R258). -/
def Fmt.sign (f : Fmt) (neg : Bool) : Nat := b2n neg * 2 ^ (f.e + f.m)
def Fmt.inf (f : Fmt) (neg : Bool) : Nat := f.sign neg + (2 ^ f.e - 1) * 2 ^ f.m
def Fmt.qnan (f : Fmt) : Nat := (2 ^ f.e - 1) * 2 ^ f.m + 2 ^ (f.m - 1)

/-- A ratio a / 2^k rounded to the nearest whole number, ties to even. -/
def rne (a k : Nat) : Nat :=
  let q := a / 2 ^ k
  let r := a % 2 ^ k
  if 2 * r < 2 ^ k then q else if 2 ^ k < 2 * r then q + 1 else if q % 2 = 0 then q else q + 1

/-- The pattern of a magnitude, rounded to nearest even; an overflow gives infinity (R262, R263). -/
def Fmt.round (f : Fmt) (neg : Bool) (a : Nat) : Nat :=
  if a = 0 then f.sign neg
  else
    let g := max f.sh (log2 a - f.m)
    let q := rne a g
    let (q, g) := if q = 2 ^ (f.m + 1) then (2 ^ f.m, g + 1) else (q, g)
    if q < 2 ^ f.m then f.sign neg + q
    else if 2 ^ f.e - 1 ≤ g - f.sh + 1 then f.inf neg
    else f.sign neg + (g - f.sh + 1) * 2 ^ f.m + (q - 2 ^ f.m)

/-- A magnitude is a value of the format (R258). -/
def Fmt.exact (f : Fmt) (a : Nat) : Bool := let x := f.round false a; f.finite x && f.mag x == a

/-! Operations (R262, R263). -/

/-- OPERATION is allowed for ELEM_TYPE. -/
def opAllowed (op t : Nat) : Bool :=
  match op with
  | 1 => true
  | 2 => isFloat t || t == 5
  | 3 => t != 0
  | _ => false

/-- A combined element, and whether it counts in ACC_NAN and in ACC_OVERFLOW. -/
structure Comb where
  x    : Nat
  nan  : Bool := false
  ovf  : Bool := false
deriving DecidableEq, Repr

/-- Floating-point addition. -/
def fadd (f : Fmt) (a b : Nat) : Comb :=
  if f.isNan a || f.isNan b || (f.isInf a && f.isInf b && f.neg a != f.neg b) then { x := f.qnan, nan := true }
  else if f.isInf a then { x := a }
  else if f.isInf b then { x := b }
  else
    let v := f.val a + f.val b
    if v = 0 then { x := f.sign (f.neg a && f.neg b && f.mag a == 0 && f.mag b == 0) }
    else
      let neg := decide (v < 0)
      let r := fp32.round neg v.natAbs
      if !fp32.finite r then { x := f.inf neg, ovf := true }
      else
        let x := f.round neg (fp32.mag r)
        { x, ovf := !f.finite x }

/-- A key by which patterns other than NaN are ordered: the infinities lie outside every finite value. -/
def Fmt.key (f : Fmt) (x : Nat) : Int :=
  if f.isInf x then (if f.neg x then -(2 : Int) ^ 300 else (2 : Int) ^ 300) else f.val x

/-- fmax. -/
def fmax (f : Fmt) (a b : Nat) : Comb :=
  if f.isNan a || f.isNan b then { x := f.qnan, nan := true }
  else if f.key a = f.key b then { x := if f.neg a then b else a }
  else { x := if f.key b < f.key a then a else b }

/-- The element a in memory combined with the decoded element b (R262). -/
def combine (op t a b : Nat) : Comb :=
  if op = 1 then { x := b }
  else if isFloat t then (if op = 2 then fadd (fmtOf t) a b else fmax (fmtOf t) a b)
  else
    let w := if t = 5 then 32 else 8
    if op = 2 then { x := (a + b) % 2 ^ w } else { x := if sext w b ≤ sext w a then a else b }

/-! Elements and bytes (R252, R253). -/

/-- A list cut into pieces of n. -/
def chunks {α : Type} (n : Nat) : Nat → List α → List (List α)
  | 0, _ => []
  | k + 1, l => match l with
    | [] => []
    | _ => l.take n :: chunks n k (l.drop n)

/-- Pieces of n, as many as the list needs. -/
def pieces {α : Type} (n : Nat) (l : List α) : List (List α) := chunks n l.length l

/-- Elements from the bytes of memory, least significant byte first. -/
def elemsOfMem (t : Nat) (bs : List Byte) : List Nat := (pieces (elemSize t) bs).map ofLe

/-- Bytes of elements in memory and on the wire. -/
def memOfElems (t : Nat) (xs : List Nat) : List Byte := xs.flatMap (leBytes (elemSize t))
def wireOfElems (t : Nat) (xs : List Nat) : List Byte := xs.flatMap (beBytes (elemSize t))
def elemsOfWire (t : Nat) (bs : List Byte) : List Nat := (pieces (elemSize t) bs).map ofBe

/-- Values of w bits each as a bit stream, completed with 0 bits to whole bytes (R253). -/
def packBits (w : Nat) (xs : List Nat) : List Byte :=
  let bits := xs.flatMap fun x => bitsDown w (x % 2 ^ w)
  (pieces 8 bits).map fun b => BitVec.ofNat 8 (ofBits (b ++ List.replicate (8 - b.length) false))

/-- The n values of w bits of a bit stream, and whether its completing bits are 0. -/
def unpackBits (w n : Nat) (bs : List Byte) : List Nat × Bool :=
  let bits := bs.flatMap fun b => bitsDown 8 b.toNat
  ((List.range n).map fun i => ofBits ((bits.drop (i * w)).take w), !((bits.drop (n * w)).any id))

/-- Lengths of the blocks of n elements in blocks of b. -/
def blockLens (b n : Nat) : List Nat := List.replicate (n / b) b ++ (if n % b = 0 then [] else [n % b])

/-! Encoding (R254 to R257). -/

/-- Encoded bytes with what the encoder counts: blocks escaped, elements clamped. -/
structure Enc where
  bytes   : List Byte := []
  escaped : Nat := 0
  clamped : Nat := 0
deriving DecidableEq, Repr

/-- Successive differences of MBC-L: w_i = x_i XOR x_(i-1). -/
def xorDiffs : Nat → List Nat → List Nat
  | _, [] => []
  | p, x :: xs => (x ^^^ p) :: xorDiffs x xs

/-- One MBC-L block (R254, R255). -/
def encL (t : Nat) (xs : List Nat) : List Byte :=
  let ws := xorDiffs 0 xs
  let top := ws.foldl max 0
  let b := if top = 0 then 0 else log2 top + 1
  let n := xs.length
  if cdiv (n * b) 8 < n * elemSize t then beBytes 2 (0x1000 + b * 64) ++ packBits b ws else beBytes 2 0 ++ wireOfElems t xs

/-- x / u for a magnitude over 2^-149 and a unit 2^k over 2^-149, rounded half to even. -/
def overUnit (a : Nat) (k : Int) : Nat := if k < 0 then a * 2 ^ k.natAbs else rne a k.toNat

/-- One MBC-Q block of k-bit codes (R256, R257). -/
def encQ (t k : Nat) (xs : List Nat) : Enc :=
  let f := fmtOf t
  let esc := xs.any fun x => !f.finite x
  let top := ((xs.filter f.finite).map f.mag).foldl max 0
  let e : Int := if top = 0 then 0 else (log2 top : Int) - 149
  let unit : Int := e - k + 2 + 149 + b2n esc
  let lim := (if esc then 2 ^ (k - 2) else 2 ^ (k - 1)) - 1
  let code := fun (x : Nat) =>
    if f.isNan x then 2 ^ (k - 1)
    else if f.isInf x then (if f.neg x then 2 ^ (k - 1) + 1 else 2 ^ (k - 1) - 1)
    else
      let m := min (overUnit (f.mag x) unit) lim
      if f.neg x then (2 ^ k - m) % 2 ^ k else m
  { bytes := beBytes 2 (b2n esc * 2 ^ 15 + toField 9 e) ++ packBits k (xs.map code), escaped := b2n esc,
    clamped := (xs.filter fun x => f.finite x && decide (lim < overUnit (f.mag x) unit)).length }

/-- k of an MBC-Q coding (R256). -/
def kOf (codec : Nat) : Nat := if codec = 2 then 8 else if codec = 3 then 12 else 16

/-- Encode the elements of one frame (R252 to R257). -/
def encode (codec t : Nat) (xs : List Nat) : Enc :=
  if codec = 0 then { bytes := wireOfElems t xs }
  else if codec = 1 then { bytes := (pieces 64 xs).flatMap (encL t) }
  else
    (pieces 32 xs).foldl (fun a b =>
      let e := encQ t (kOf codec) b
      { bytes := a.bytes ++ e.bytes, escaped := a.escaped + e.escaped, clamped := a.clamped + e.clamped }) {}

/-- Blocks of a frame of n elements in a coding. -/
def blocksOf (codec n : Nat) : Nat := if codec = 0 then 0 else if codec = 1 then cdiv n 64 else cdiv n 32

/-- Largest encoded payload of n elements (R260). -/
def maxPayload (codec t n : Nat) : Nat :=
  if codec = 0 then n * elemSize t
  else if codec = 1 then n * elemSize t + 2 * cdiv n 64
  else ((blockLens 32 n).map fun b => 2 + cdiv (b * kOf codec) 8).sum

/-! Decoding and the stage-8 checks (R257, R258, R261). -/

/-- One MBC-L block as parsed from its header. -/
structure LBlock where
  xor   : Bool
  width : Nat
  n     : Nat
  body  : List Byte
deriving DecidableEq, Repr

/-- Parse the MBC-L blocks: checks 3 and 4. -/
def parseL (t : Nat) : List Nat → List Byte → Except Nat (List LBlock)
  | [], rest => if rest.isEmpty then .ok [] else .error R.CODEC_DEC_BAD_LENGTH
  | n :: ns, bs =>
    if bs.length < 2 then .error R.CODEC_DEC_BAD_LENGTH
    else
      let h := beAt bs 0 2
      let mode := h / 2 ^ 12
      let w := bitsOf h 11 6
      if h % 64 ≠ 0 ∨ 2 ≤ mode ∨ (mode = 0 ∧ w ≠ 0) ∨ 8 * elemSize t - 1 < w then .error R.CODEC_DEC_BAD_HEADER
      else
        let len := if mode = 0 then n * elemSize t else cdiv (n * w) 8
        if bs.length < 2 + len then .error R.CODEC_DEC_BAD_LENGTH
        else match parseL t ns (bs.drop (2 + len)) with
          | .ok l => .ok ({ xor := mode = 1, width := w, n, body := (bs.drop 2).take len } :: l)
          | .error c => .error c

/-- Undo the differences of MBC-L. -/
def xorSums : Nat → List Nat → List Nat
  | _, [] => []
  | p, w :: ws => (w ^^^ p) :: xorSums (w ^^^ p) ws

/-- The elements of an MBC-L block: check 5. -/
def decL (t : Nat) (b : LBlock) : Except Nat (List Nat) :=
  if !b.xor then .ok (elemsOfWire t b.body)
  else
    let (ws, clean) := unpackBits b.width b.n b.body
    if clean then .ok (xorSums 0 ws) else .error R.CODEC_DEC_BAD_CODE

/-- Range of EXP by element type (R256). -/
def expOk (t : Nat) (e : Int) : Bool :=
  if t = 1 then -149 ≤ e && e ≤ 127 else if t = 2 then -133 ≤ e && e ≤ 127 else -24 ≤ e && e ≤ 15

/-- One MBC-Q block: number of elements, ESCAPE, EXP, body. -/
structure QBlock where
  n    : Nat
  esc  : Bool
  e    : Int
  body : List Byte
deriving DecidableEq, Repr

/-- Parse the MBC-Q blocks of a payload of the right length: check 3. -/
def parseQ (t k : Nat) : List Nat → List Byte → Except Nat (List QBlock)
  | [], _ => .ok []
  | n :: ns, bs =>
    let h := beAt bs 0 2
    let e := sext 9 h
    if bitsOf h 14 9 ≠ 0 ∨ !expOk t e then .error R.CODEC_DEC_BAD_HEADER
    else
      let len := cdiv (n * k) 8
      match parseQ t k ns (bs.drop (2 + len)) with
      | .ok l => .ok ({ n, esc := nbit h 15, e, body := (bs.drop 2).take len } :: l)
      | .error c => .error c

/-- The element of a k-bit code (R257, R258), if the code is valid. -/
def decCode (t k : Nat) (b : QBlock) (c : Nat) : Option Nat :=
  let f := fmtOf t
  let m := sext k c
  let top : Int := (2 : Int) ^ (k - 1)
  let lim : Int := (if b.esc then (2 : Int) ^ (k - 2) else top) - 1
  if b.esc ∧ m = -top then some f.qnan
  else if b.esc ∧ m = -top + 1 then some (f.inf true)
  else if b.esc ∧ m = top - 1 then some (f.inf false)
  else if lim < m.natAbs then none
  else
    let unit : Int := b.e - k + 2 + 149 + b2n b.esc
    let a := m.natAbs
    if unit < 0 ∧ a % 2 ^ unit.natAbs ≠ 0 then none
    else
      let v := if unit < 0 then a / 2 ^ unit.natAbs else a * 2 ^ unit.toNat
      if f.exact v then some (f.round (decide (m < 0)) v) else none

/-- The elements of an MBC-Q block: check 5. -/
def decQ (t k : Nat) (b : QBlock) : Except Nat (List Nat) :=
  let (cs, clean) := unpackBits k b.n b.body
  match cs.mapM (decCode t k b) with
  | some xs => if clean then .ok xs else .error R.CODEC_DEC_BAD_CODE
  | none => .error R.CODEC_DEC_BAD_CODE

/-- Decode a payload of n elements: the elements, or the counter of the first of checks 2 to 5 that fails (R261). -/
def decode (codec t n : Nat) (bs : List Byte) : Except Nat (List Nat) :=
  if codec = 0 then .ok (elemsOfWire t bs)
  else if codec = 1 then
    match parseL t (blockLens 64 n) bs with
    | .ok l => (l.mapM (decL t)).map List.flatten
    | .error c => .error c
  else if bs.length ≠ maxPayload codec t n then .error R.CODEC_DEC_BAD_LENGTH
  else
    match parseQ t (kOf codec) (blockLens 32 n) bs with
    | .ok l => (l.mapM (decQ t (kOf codec))).map List.flatten
    | .error c => .error c

end Sys2Proof.Machine
end

