-- ==== Sys2Proof/Machine/Fec.lean ====
section
/-! DEFINITION. Reed-Solomon codes over GF(2^10) with generator roots α^0 to α^(k-1), systematic encoding, decoding of up to k / 2
symbol errors: the low-latency FEC RS(272,258), its blocks and marker codewords, and the standard FEC RS(544,514) (R122 to R125).
Polynomials are lists of coefficients, lowest degree first; codewords are lists of symbols, highest first, as they are sent. -/

namespace Sys2Proof.Machine

open Sys2Proof

/-- Multiplication by α in GF(2^10) with p(x) = x^10 + x^3 + 1 (R123). -/
def gfDouble (a : Nat) : Nat := if nbit a 9 then (2 * a) ^^^ 0x409 else 2 * a

/-- Product in GF(2^10). -/
def gfMul (a b : Nat) : Nat :=
  ((List.range 10).foldl (fun (acc : Nat × Nat) i => (if nbit b i then acc.1 ^^^ acc.2 else acc.1, gfDouble acc.2)) (0, a)).1

/-- α^n. -/
def gfAlpha : Nat → Nat
  | 0 => 1
  | n + 1 => gfDouble (gfAlpha n)

/-- Inverse in GF(2^10): a^1022, and 0 for 0. -/
def gfInv (a : Nat) : Nat :=
  ((List.range 9).foldl (fun (acc : Nat × Nat) _ => let sq := gfMul acc.2 acc.2; (gfMul acc.1 sq, sq)) (1, a)).1

/-- Value of a polynomial. -/
def gfEval (p : List Nat) (x : Nat) : Nat := p.foldr (fun c acc => c ^^^ gfMul acc x) 0

/-- Coefficient of a polynomial. -/
def coef (p : List Nat) (i : Nat) : Nat := (p[i]?).getD 0

/-- Sum of two polynomials. -/
def gfAdd : List Nat → List Nat → List Nat
  | [], q => q
  | p, [] => p
  | a :: p, b :: q => (a ^^^ b) :: gfAdd p q

/-- Product of a polynomial and c x^m. -/
def gfScale (c m : Nat) (p : List Nat) : List Nat := List.replicate m 0 ++ p.map (gfMul c)

/-! Encoding. -/

/-- The generator (x − α^0)(x − α^1)…(x − α^(k-1)) (R123). -/
def rsGen : Nat → List Nat
  | 0 => [1]
  | k + 1 => gfAdd (0 :: rsGen k) ((rsGen k).map (gfMul (gfAlpha k)))

/-- One message symbol enters the division by a generator, whose coefficients below the leading one are given highest first. -/
def rsShift (g : List Nat) (rem : List Nat) (m : Nat) : List Nat :=
  let fb := m ^^^ rem.headD 0
  List.zipWith (fun a b => a ^^^ gfMul fb b) (rem.drop 1 ++ [0]) g

/-- The k parity symbols r(x) = m(x) x^k mod g(x) of a message (R123). -/
def rsParity (k : Nat) (msg : List Nat) : List Nat :=
  let g := ((rsGen k).take k).reverse
  msg.foldl (rsShift g) (List.replicate k 0)

/-- A codeword: the message symbols and behind them the parity (R123). -/
def rsEncode (k : Nat) (msg : List Nat) : List Nat := msg ++ rsParity k msg

/-! Decoding. -/

/-- The k syndromes of a received codeword: its values at α^0 to α^(k-1) (R123). -/
def syndromes (k : Nat) (symbols : List Nat) : List Nat :=
  (List.range k).map fun j => let x := gfAlpha j; symbols.foldl (fun acc c => gfMul acc x ^^^ c) 0

/-- State of the Berlekamp-Massey iteration: locator, previous locator, length, gap, previous discrepancy. -/
structure Bm where
  lam  : List Nat
  prev : List Nat
  len  : Nat
  gap  : Nat
  disc : Nat
deriving DecidableEq, Repr

/-- Discrepancy at step n. -/
def Bm.delta (b : Bm) (s : List Nat) (n : Nat) : Nat :=
  (List.range (b.len + 1)).foldl (fun acc i => acc ^^^ gfMul (coef b.lam i) (if i ≤ n then coef s (n - i) else 0)) 0

/-- One step of the iteration. -/
def Bm.step (s : List Nat) (b : Bm) (n : Nat) : Bm :=
  let d := b.delta s n
  if d = 0 then { b with gap := b.gap + 1 }
  else
    let lam := gfAdd b.lam (gfScale (gfMul d (gfInv b.disc)) b.gap b.prev)
    if 2 * b.len ≤ n then { lam, prev := b.lam, len := n + 1 - b.len, gap := 1, disc := d }
    else { b with lam, gap := b.gap + 1 }

/-- The error locator of a list of syndromes and the number of errors it stands for. -/
def locator (s : List Nat) : List Nat × Nat :=
  let b := (List.range s.length).foldl (Bm.step s) { lam := [1], prev := [1], len := 0, gap := 1, disc := 1 }
  (b.lam, b.len)

/-- Product of two polynomials, of which the first n coefficients are kept. -/
def gfProd (p q : List Nat) (n : Nat) : List Nat :=
  (List.range n).map fun k => (List.range (k + 1)).foldl (fun acc i => acc ^^^ gfMul (coef p i) (coef q (k - i))) 0

/-- Formal derivative: the odd coefficients, one place down. -/
def gfDeriv (p : List Nat) : List Nat :=
  (List.range (p.length - 1)).map fun i => if i % 2 = 0 then coef p (i + 1) else 0

/-- Error value at the symbol of degree i (Forney, first root α^0). -/
def errorAt (lam omega : List Nat) (i : Nat) : Nat :=
  let x := gfAlpha i
  let y := gfInv x
  gfMul x (gfMul (gfEval omega y) (gfInv (gfEval (gfDeriv lam) y)))

/-- Decode the n symbols of a codeword with k parity symbols: the corrected symbols and how many were corrected, or none when the word
is not within k / 2 symbols of a codeword (R122, R123). -/
def rsDecode (k n : Nat) (symbols : List Nat) : Option (List Nat × Nat) :=
  let s := syndromes k symbols
  if s.all fun x => x == 0 then some (symbols, 0)
  else
    let (lam, e) := locator s
    let omega := gfProd s lam k
    let roots := (List.range n).filter fun i => gfEval lam (gfInv (gfAlpha i)) == 0
    if k / 2 < e ∨ roots.length ≠ e then none
    else
      let fixed := (List.range n).map fun j =>
        let i := n - 1 - j
        if roots.contains i then coef symbols j ^^^ errorAt lam omega i else coef symbols j
      if (syndromes k fixed).all fun x => x == 0 then some (fixed, e) else none

/-- The LL-FEC decoder: 272 symbols, up to 7 errors (R123). -/
def llDecode (symbols : List Nat) : Option (List Nat × Nat) := rsDecode 14 272 symbols

/-- The LL-FEC encoder: 258 message symbols, m_257 first (R123). -/
def llEncode (msg : List Nat) : List Nat := rsEncode 14 msg

/-- The decoder and the encoder of the standard FEC: RS(544,514), up to 15 errors (R122; the code's field and generator are those of
IEEE 802.3: PRESUMED, log entry 82). -/
def stdDecode (symbols : List Nat) : Option (List Nat × Nat) := rsDecode 30 544 symbols
def stdEncode (msg : List Nat) : List Nat := rsEncode 30 msg

/-! Data and marker codewords of the LL-FEC (R124, R125). -/

/-- The message symbols of a data codeword: bit j of the block stream of ten 257-bit blocks, in transmission order, is bit j mod 10 of
symbol m_(257 - j / 10), and the pad m_0 is 0 (R124). -/
def llSymbols (stream : List Bool) : List Nat :=
  (List.range 257).map (fun k => (List.range 10).foldl (fun acc i => acc + b2n ((stream[10 * k + i]?).getD false) * 2 ^ i) 0) ++ [0]

/-- The block stream that the message symbols of a data codeword carry (R124). -/
def llStream (symbols : List Nat) : List Bool :=
  (symbols.take 257).flatMap fun m => (List.range 10).map fun i => nbit m i

/-- Block b of the ten 257-bit blocks of a stream, in transmission order (R124). -/
def llBlock (stream : List Bool) (b : Nat) : List Bool := (stream.drop (257 * b)).take 257

/-- A data codeword: ten blocks and the pad, encoded (R123, R124). -/
def llData (stream : List Bool) : List Nat := llEncode (llSymbols stream)

/-- The marker codeword with a count (R125): m_257 to m_2 are 0x1E5, m_1 and m_0 bits [19:10] and [9:0] of the count. -/
def llMarkerWord (count : Nat) : List Nat :=
  llEncode (List.replicate 256 0x1E5 ++ [count / 1024 % 1024, count % 1024])

/-- A decoded codeword is a marker codeword: m_257 to m_2 are 0x1E5 (R125). -/
def isMarker (symbols : List Nat) : Bool := (symbols.take 256).all fun x => x == 0x1E5

/-- The pad m_0 of a decoded data codeword (R124). -/
def padOf (symbols : List Nat) : Nat := coef symbols 257

end Sys2Proof.Machine
end

