-- ==== Sys2Proof/Machine/Frames.lean ====
section
/-! DEFINITION. What a port group reads from a received frame: its type and class, its arrival, its last bit, its trace record
(R106, R107, R133, R182, R302, R306). -/

namespace Sys2Proof.Machine

open Sys2Proof

/-- TYPE of a frame read as an Itpitos frame. -/
def typOf (f : Frame) : Nat := beAt f.body 1 1

/-- A frame is an Itpitos frame on a port (R133, R182). -/
def State.isItp (s : State) (p : Nat) (f : Frame) : Bool :=
  f.etherType.toNat == (s.port p).link.etherType || (f.etherType.toNat == 0x88B5 && typOf f == tHello)

/-- Class of a received frame (R106). -/
def State.rxClass (s : State) (p : Nat) (itp : Bool) (f : Frame) : Nat :=
  let t := typOf f
  if itp && (t == tClapper || t == tDelayReq || t == tDelayResp) then 7
  else if itp && (t == tHello || t == tClaim || t == tClaimAck || t == tClaimRefused || t == tFault || t == tPost) then 6
  else match f.tag with
    | some g => s.live.pcpClass p g.pcp
    | none => s.live.untagged p

/-- A FRAME_RX record (R302, R306): `outcome` 0, or the stage that discarded the frame. -/
def State.traceRx (s : State) (p : Nat) (itp : Bool) (f : Frame) (outcome tick : Nat) : State :=
  let h := if itp then hdrOf f.body else { version := 0 }
  let c := s.rxClass p itp f
  s.traceEv (p / 16) (if outcome = 0 then 0 else 1) (some c) (some p) 0x01
    (wd (p + h.typ * 2 ^ 16 + c * 2 ^ 24 + outcome * 2 ^ 27 + h.src * 2 ^ 32 + h.dst * 2 ^ 48))
    (wd (h.handle + h.seq * 2 ^ 32 + h.flags * 2 ^ 48))
    (wd (h.cycle + (frameLen f) * 2 ^ 16 + tick * 2 ^ 32))

/-- Arrival tick of a frame in the current cycle (R107). -/
def State.arrival (s : State) (tRx : Nat) : Nat :=
  if s.time.hasCycle then
    (((((tRx * wFrac : Nat) : Int) - s.fab s.time.cycStart) / wTick) % (s.ticks : Int)).toNat
  else 0

/-- Instant, in w, of the last bit of n bytes whose timestamp point crossed the pins at an instant of the group's replica. -/
def State.lastBit (s : State) (p tRx n : Nat) : Nat := s.unfab (s.toHub (p / 16) tRx * wFrac) + n * s.wByte p

/-- The frame in the bytes of a reassembled frame, from the destination address on (R136, R182). -/
def parseFrame (b : List Byte) : Frame :=
  let tagged := beAt b 12 2 == 0x8100
  let t := beAt b 14 2
  { da := BitVec.ofNat 48 (beAt b 0 6), sa := BitVec.ofNat 48 (beAt b 6 6),
    tag := if tagged then some { pcp := t / 2 ^ 13, dei := nbit t 12, vid := t % 2 ^ 12 } else none,
    etherType := BitVec.ofNat 16 (beAt b (if tagged then 16 else 12) 2), body := b.drop (if tagged then 18 else 14) }

end Sys2Proof.Machine
end

