-- ==== Sys2Proof/Machine/Link.lean ====
section
/-! DEFINITION. The link state machine of a port: training, lock, HELLO, the switch to LL-FEC, down conditions, sleep and wake, the
codewords received, and the verify exchange that an entry to UP starts (R121 to R135, R141 to R146, R148, R149). -/

namespace Sys2Proof.Machine

open Sys2Proof

/-- LINK_STATUS.STATE (R128). -/
def LinkState.code : LinkState → Nat
  | .disabled => 0 | .detect => 1 | .training => 2 | .lock => 3 | .hello => 4 | .switch => 5 | .up => 6 | .sleep => 7
  | .waking => 8 | .failed => 9

/-- The link state of a port. -/
def State.link (s : State) (p : Nat) : LinkSt := (s.port p).link

/-! Preemption in force (R148 to R150). -/

/-- Transmit preemption is active (R148). -/
def State.preActive (s : State) (p : Nat) : Bool :=
  let l := s.link p
  let mode := bitsOf l.preCfg 2 1
  s.feat 3 && nbit l.preCfg 0 && s.isUp p
    && ((mode != 1 && s.linkBit p 2) || (mode != 0 && (s.port p).verify == .succeeded))

/-- Fragments are accepted (R150). -/
def State.rxActive (s : State) (p : Nat) : Bool :=
  s.isUp p && nbit (s.link p).preCfg 0 && (s.linkBit p 2 || (s.port p).verify == .succeeded)

/-- TX_ACTIVE follows its condition; a change sets PREEMPT_CHANGED (R148). -/
def State.refreshActive (s : State) (p : Nat) : State :=
  let a := s.preActive p
  if (s.port p).txActive = a then s else (s.modPort p fun q => { q with txActive := a }).cause .port p 20

/-- Send a verify mPacket under the sending rule of R54; a node in HALTED sends nothing (R93, R149). -/
def State.sendVerify (s : State) (p : Nat) : State :=
  let s1 := s.modPort p fun q => { q with verify := .verifying, verTries := q.verTries + 1, verAt := s.time.now }
  if s1.node.state = .halted then s1 else s1.sendOwn p (s1.linkFrame p 7 0 .verify) (s1.nominalDep p)

/-- The verify exchange that an entry to UP starts, in the VERIFY_MODEs that run one (R149). -/
def State.startVerify (s : State) (p : Nat) : State :=
  let mode := bitsOf (s.link p).preCfg 2 1
  if mode = 1 ∨ (mode = 2 ∧ !s.linkBit p 2) then (s.modPort p fun q => { q with verTries := 0 }).sendVerify p
  else s.modPort p fun q => { q with verify := .disabled }

/-- A partial preemptable frame is discarded, and recorded as discarded at stage 4 (R158, R302). -/
def State.abortReasm (s : State) (p : Nat) : State :=
  match (s.port p).reasm with
  | some r =>
    let f := parseFrame r.data
    ((s.modPort p fun q => { q with reasm := none }).countP p R.PORT_RX_REASM_ABORTED).traceRx p (s.isItp p f) f 4 (s.arrival r.tRx)
  | none => s

/-! Entering states. -/

/-- What every attempt to bring a link up starts from. -/
def LinkSt.fresh (l : LinkSt) : LinkSt :=
  { l with kept := none, gotAck := false, swSeen := false, sentAck := none, locked := false, winBad := false, cwCount := 0,
           uncorr := [], switched := false, txLL := false, rxLL := false, fecLL := false, llCw := 0, llMark := none,
           llLock := false, llMiss := 0, swEnd := 0, swCw := 0, squelched := false, sleeping := false, slept := false, fast := false }

/-- The settings that an entry to DETECT latches (R146, R160, R201). -/
def State.latchCfg (s : State) (p : Nat) (l : LinkSt) : LinkSt :=
  { l with
    cfg := s.regF .port p R.PORT_LINK_CFG 31 0, mask := s.regF .port p R.PORT_LINK_FEAT_MASK 63 0
    trainCfg := s.regF .port p R.PORT_TRAIN_CFG 31 0, helloCfg := s.regF .port p R.PORT_HELLO_CFG 31 0
    preCfg := s.regF .port p R.PORT_PREEMPT_CFG 31 0
    etherType := if s.feat 25 then s.regF .global 0 R.GLOBAL_ETHERTYPE 15 0 else 0x88B5 }

/-- A port leaves UP: what its MACs, its delay exchange, its claims and its pauses held goes (R56, R91, R97, R131, R132, R139, R148,
R156, R158). A verify exchange that has failed stands FAILED until the next entry to UP (R149). -/
def State.leaveUp (s : State) (p : Nat) (st : LinkState) : State :=
  let s1 := (((s.endWire p).abandon p).abortReasm p).freeClaims p
  let s2 := s1.modPort p fun q =>
    { q.dropDelay.dropOwn with
      pauseEff := [], spans := [], lostWin := [], dropNo := none
      verify := if q.verify = .failed then .failed else .disabled
      link := { q.link with state := st, preWatch := false } }
  (s2.refreshActive p).purge p

/-- Entry to DETECT (R128). -/
def State.enterDetect (s : State) (p : Nat) : State :=
  let s1 := if s.isUp p then s.leaveUp p .detect else s
  let now := s1.time.now
  s1.modPort p fun q =>
    { q.dropDelay.dropOwn with link := { (s1.latchCfg p q.link).fresh with state := .detect, since := now, eq := [] } }

/-- The exit of a port from UP is recorded and counted with its reason (R132). Reason 9, a disable, raises no alarm. -/
def State.recordDown (s : State) (p reason : Nat) : State :=
  let n := (s.link p).uncorr.length
  let s1 := (((s.modLink p fun l => { l with downReason := reason }).countP p R.PORT_LINK_DOWNS).cause .port p 17)
  let s2 := if reason = 9 then s1 else s1.raisePort 0x012 p reason 0x0001
  if reason = 3 then s2.report 0x0002 (s2.partnerOf p) n else s2

/-- A port in UP goes down with a reason (R132). -/
def State.goDown (s : State) (p reason : Nat) : State := (s.recordDown p reason).enterDetect p

/-- Entry to UP (R128, R129, R148, R149). -/
def State.enterUp (s : State) (p : Nat) : State :=
  let now := s.time.now
  let watch := 0 < s.live.preMask p
  let s1 := (s.modLink p fun l =>
    { l with state := .up, since := now, upAt := now, heardAt := now, helloDue := now + bitsOf l.helloCfg 15 0 * wUs,
             coeffs := some l.eq, failsUp := 0, wakeAt := none, preWatch := watch }).cause .port p 16
  (s1.startVerify p).refreshActive p

/-- Entry to FAILED (R134). -/
def State.enterFailed (s : State) (p reason : Nat) : State :=
  (((s.modLink p fun l => { l with state := .failed, helloFail := reason, since := s.time.now }).modPort p PortSt.dropOwn).cause .port p
    19).out (.squelch p)

/-- Entry to SLEEP: the frame on the wire is finished, the transmitter squelched (R141). -/
def State.enterSleep (s : State) (p reason : Nat) : State :=
  let s2 := (s.finishWire p).leaveUp p .sleep
  (s2.modLink p fun l => { l.fresh with downReason := reason, since := s2.time.now }).out (.squelch p)

/-- Entry to WAKING (R144). -/
def State.enterWaking (s : State) (p : Nat) : State :=
  let now := s.time.now
  (s.modLink p fun l => { l.fresh with state := .waking, since := now, wakeAt := some now, eq := l.coeffs.getD [] }).countP p
    R.PORT_WAKES

/-- CTRL.ENABLE of a port (R128, R132). The reference clock of its group is absent: the alarm that was held back is raised (R342). -/
def State.portEnable (s : State) (p : Nat) (on : Bool) : State :=
  let s1 := s.modHdr .port p fun h => { h with enable := on }
  let st := (s1.link p).state
  if on then
    (if st = .disabled then (if s1.refAbsent (p / 16) then s1.raise 0x001 (p / 16) 0 else s1).enterDetect p else s1)
  else if st = .disabled then s1
  else
    let s2 := if st = .up then (s1.recordDown p 9).leaveUp p .disabled else s1
    (s2.modPort p fun q =>
      { q.dropDelay.dropOwn with link := { q.link.fresh with state := .disabled, since := s2.time.now } }).out (.squelch p)

/-! Training and lock. -/

/-- Milliseconds and microseconds after the last entry. -/
def State.sinceLink (s : State) (p w : Nat) : State := s.runTo ((s.link p).since + w)

/-- SIGNAL_DETECT: a receive signal present for 1 µs (R128). -/
def execSignalDetect (p : Fin 1024) (s : State) : Host.Outcome State Fault Refusal :=
  if (s.link p).state = .detect then .next (s.modLink p fun l => { l with state := .training, since := s.time.now }) else .next s

/-- TRAINING_READY: both receivers report ready, with the coefficients that the training has arrived at; an entry to LOCK restarts the
run of failures (R128, R129). -/
def execTrainingReady (p : Fin 1024) (coeffs : List Int) (s : State) : Host.Outcome State Fault Refusal :=
  let l := s.link p
  if l.state = .training ∨ l.state = .waking then
    .next (s.modLink p fun l =>
      { l with state := .lock, since := s.time.now, failRun := 0, fast := l.state = .waking && l.coeffs.isSome, eq := coeffs, locked := false,
               winBad := false })
  else .next s

/-- TRAIN_TIMEOUT (R128, R129, R311). -/
def execTrainTimeout (p : Fin 1024) (s : State) : Host.Outcome State Fault Refusal :=
  let l := s.link p
  if l.state = .training then
    let s1 := (s.sinceLink p (bitsOf l.trainCfg 15 0 * wMs)).countP p R.PORT_TRAIN_FAILS
    let s2 := s1.modLink p fun l => { l with failRun := l.failRun + 1, failsUp := l.failsUp + 1 }
    let s3 := if 3 ≤ (s2.link p).failRun then s2.raisePort 0x010 p (s2.link p).failsUp 0x0003 else s2
    .next (s3.enterDetect p)
  else .next s

/-- WAKE_TRAIN_TIMEOUT: WAKING falls back to TRAINING 1,250 µs after the wake (R128). -/
def execWakeTrainTimeout (p : Fin 1024) (s : State) : Host.Outcome State Fault Refusal :=
  if (s.link p).state = .waking then
    let s1 := s.sinceLink p (1250 * wUs)
    .next (s1.modLink p fun l => { l with state := .training, since := s1.time.now, eq := [] })
  else .next s

/-- CODEWORD_LOCK: the observation window starts (R130). -/
def execCodewordLock (p : Fin 1024) (s : State) : Host.Outcome State Fault Refusal :=
  let l := s.link p
  if l.state = .lock ∧ !l.locked then
    .next (s.modLink p fun l => { l with locked := true, since := s.time.now, winBad := false, cwCount := 0, uncorr := [] })
  else .next s

/-- LOCK_TIMEOUT: no lock within 1 ms (R128). -/
def execLockTimeout (p : Fin 1024) (s : State) : Host.Outcome State Fault Refusal :=
  let l := s.link p
  if l.state = .lock ∧ !l.locked then .next ((s.sinceLink p wMs).enterDetect p) else .next s

/-- The link feature word that a port offers (R130, R134 and the table of the link feature word). -/
def State.offered (s : State) (p : Nat) : Word :=
  let l := s.link p
  let ll := s.feat 1 && nbit l.cfg 2 && !l.fallback && !l.winBad
  let w := 1 + 2 * b2n ll + 4 * b2n (s.feat 3) + 8 * b2n (s.feat 4) + 16 * b2n (s.feat 5) + 32 * b2n (s.feat 12)
    + 64 * b2n (s.feat 24)
  wd w &&& wd l.mask

/-- OBSERVATION_WINDOW_END: the offered word is latched and HELLO entered (R130, R134). -/
def execObservationWindowEnd (p : Fin 1024) (s : State) : Host.Outcome State Fault Refusal :=
  let l := s.link p
  if l.state = .lock ∧ l.locked then
    let s1 := s.sinceLink p (if l.fast then 50 * wUs else wMs)
    let w := s1.offered p
    .next (s1.modLink p fun l => { l with state := .hello, offer := w, since := s1.time.now, helloDue := s1.time.now })
  else .next s

/-! HELLO. -/

/-- Send a HELLO: ungated before the node is JOINED, then in the first window of class 6 (R87, R88, R133, R134). One that waits already
is not doubled. -/
def State.sendHello (s : State) (p : Nat) (sw sl : Bool) : State :=
  let dep := s.nominalDep p
  if (s.port p).waits fun o => o == .hello sw sl then s.push p 6 dep
  else s.sendOwn p (s.linkFrame p 6 tHello (.hello sw sl)) dep

/-- Hello is complete (R134): both words are latched, and the port goes on or fails. -/
def State.completeHello (s : State) (p : Nat) (h : Hello) : State :=
  let l := s.link p
  let used := l.offer &&& h.word &&& wd 0x7F
  let s1 := s.modLink p fun l => { l with partnerW := h.word, used, partner := some (h.node, h.port, h.tag) }
  if !bit h.word 0 then s1.enterFailed p 1
  else if h.etherType ≠ l.etherType then s1.enterFailed p 2
  else if h.node = s.nodeId then
    if h.tag = s.instTag then (s1.enterFailed p 3).raise 0x013 p 0
    else ((s1.enterFailed p 4).raise 0x014 p h.node).report 0x0007 (some (h.node, 0x400)) p
  else if bit used 1 then s1.modLink p fun l => { l with state := .switch, since := s.time.now }
  else s1.enterUp p

/-- Complete the hello when it has become complete: a HELLO with ACK has been received, and one has been sent, which it is when its
last bit has crossed the pins (R134). -/
def State.helloCheck (s : State) (p : Nat) : State :=
  let l := s.link p
  match l.kept, l.sentAck with
  | some h, some e => if l.state = .hello ∧ l.gotAck then (s.runTo e).completeHello p h else s
  | _, _ => s

/-- HELLO_TX: a HELLO is sent: in HELLO and in UP when it is due, an INTERVAL or a KEEPALIVE after the last; the SWITCH HELLO and the
SLEEP HELLO at once (R130, R133, R134, R141). -/
def execHelloTx (p : Fin 1024) (s : State) : Host.Outcome State Fault Refusal :=
  let l := s.link p
  match l.state with
  | .hello => .next (((s.runTo l.helloDue).sendHello p false false).helloCheck p)
  | .switch => if l.switched then .next s else .next (s.sendHello p true false)
  | .up =>
    if l.sleeping then (if l.slept then .next s else .next (s.sendHello p false true))
    else if bit l.used 1 && !l.switched then .next (s.sendHello p true false)
    else .next ((s.runTo l.helloDue).sendHello p false false)
  | _ => .next s

/-- FRAME_TX_START: at a tick of the cycle the port starts the frame that may start, express before preemptable, the highest class
first; an express frame cuts a preemptable one (R103, R104, R153, R154). A HELLO that leaves may complete the hello (R134). -/
def execFrameTxStart (p : Fin 1024) (tick tDep : Nat) (s : State) : Host.Outcome State Fault Refusal :=
  .next (((s.runTo (s.tickAt tick)).txStep p tDep).helloCheck p).pace

/-- A HELLO in UP that names another partner or another word (R135); bits 63 to 7 of a word are ignored. -/
def State.helloDiffers (s : State) (p : Nat) (h : Hello) : Bool :=
  let l := s.link p
  l.partner != some (h.node, h.port, h.tag) || (l.partnerW &&& wd 0x7F) != (h.word &&& wd 0x7F)

/-- The partner's SWITCH HELLO: the codewords received up to it are counted from (R130). -/
def LinkSt.swIn (l : LinkSt) (sw : Bool) : LinkSt :=
  if sw && !l.swSeen then { l with swSeen := true, swCw := l.cwCount } else l

/-- A HELLO has been received (R130, R134, R135, R141, R372). Of those kept in LOCK only the last counts. -/
def State.helloIn (s : State) (p : Nat) (h : Hello) : State :=
  let l := s.link p
  match l.state with
  | .lock => if l.locked then s.modLink p fun l => { l with kept := some h, gotAck := h.ack } else s
  | .hello => (s.modLink p fun l => { l.swIn h.switch with kept := some h, gotAck := l.gotAck || h.ack }).helloCheck p
  | .switch => s.modLink p fun l => l.swIn h.switch
  | .up =>
    if s.helloDiffers p h then s.goDown p 5
    else if h.sleep then (if s.linkBit p 4 then s.enterSleep p 8 else s.countP p R.PORT_RX_NOT_AGREED)
    else s.modLink p fun l => { l with heardAt := s.time.now }
  | _ => s

/-- HELLO_RX (R134). -/
def execHelloRx (p : Fin 1024) (h : Hello) (s : State) : Host.Outcome State Fault Refusal := .next (s.helloIn p h)

/-- HELLO_TIMEOUT (R128). -/
def execHelloTimeout (p : Fin 1024) (s : State) : Host.Outcome State Fault Refusal :=
  let l := s.link p
  if l.state = .hello then
    .next (((s.sinceLink p (bitsOf l.trainCfg 23 16 * wMs)).countP p R.PORT_HELLO_TIMEOUTS).enterDetect p)
  else .next s

/-! The switch to LL-FEC. -/

/-- Duration of a standard codeword of a port: 25.6 ns at 200 Gbit/s (R130). An LL-FEC codeword lasts half as long (R124). -/
def State.wCodeword (s : State) (p : Nat) : Nat := 640 * s.wByte p

/-- The count that a marker codeword sent now carries: of those sent before it since the switch to LL-FEC, modulo 2^20 (R125; that the
first carries 0 is a DESIGN CHOICE, log entry 82). -/
def State.markerCount (s : State) (p : Nat) : Nat :=
  (s.time.now - (s.link p).llAt) / (s.wCodeword p / 2) / 8192 % 2 ^ 20

/-- LL_SWITCH_BOUNDARY: 256 codewords after the last bit of a SWITCH HELLO the transmitter changes to LL-FEC, beginning with a marker
codeword; or the receiver does so, 256 received codewords after the partner's (R125, R130). A port that has reached UP by its partner's
markers has its own switch still before it. -/
def execLlSwitchBoundary (p : Fin 1024) (rx : Bool) (s : State) : Host.Outcome State Fault Refusal :=
  let l := s.link p
  if l.squelched then .next s
  else if rx then
    (if l.state = .switch ∧ l.swSeen ∧ !l.rxLL ∧ l.swCw + 256 ≤ l.cwCount then
       .next (s.modLink p fun l => { l with rxLL := true, llCw := 0, llMark := none, llLock := false, llMiss := 0, cwCount := 0, uncorr := [] })
     else .next s)
  else if (l.state = .switch ∨ l.state = .up) ∧ l.switched ∧ !l.txLL then
    let s1 := s.runTo (l.swEnd + 256 * s.wCodeword p)
    let s2 := s1.modLink p fun l => { l with txLL := true, fecLL := true, llAt := s1.time.now }
    .next (if s.pwr.mfg then s2 else s2.out (.llStart p (llMarkerWord (s2.markerCount p))))
  else .next s

/-- LL_SWITCH_TIMEOUT: no LL lock 500 µs after the port's own SWITCH HELLO (R130). -/
def execLlSwitchTimeout (p : Fin 1024) (s : State) : Host.Outcome State Fault Refusal :=
  let l := s.link p
  if l.state = .switch ∧ l.switched ∧ !l.squelched then
    let s1 := (s.sinceLink p (500 * wUs)).countP p R.PORT_LL_SWITCH_FAILS
    let s2 := s1.modLink p fun l => { l with fallback := true, squelched := true, downReason := 10, since := s1.time.now }
    .next ((s2.raisePort 0x011 p 0 0x0004).out (.squelch p))
  else .next s

/-- SQUELCH_END: 10 µs of silence are over (R130). -/
def execSquelchEnd (p : Fin 1024) (s : State) : Host.Outcome State Fault Refusal :=
  if (s.link p).squelched then .next ((s.sinceLink p (10 * wUs)).enterDetect p) else .next s

/-! Codewords. -/

/-- Codeword, alignment or LL lock is lost: UP goes down with reason 2, or 1 when the signal detector shows no signal; LOCK in its
window, HELLO and SWITCH return to DETECT (R128, R132). -/
def State.lockLost (s : State) (p : Nat) (signal : Bool) : State :=
  let l := s.link p
  match l.state with
  | .up => s.goDown p (if signal then 2 else 1)
  | .lock => if l.locked then s.enterDetect p else s
  | .hello => s.enterDetect p
  | .switch => if l.squelched then s else s.enterDetect p
  | _ => s

/-- Count a codeword; an uncorrectable one is remembered for 8,192 codewords (R126). -/
def State.cwIn (s : State) (p : Nat) (corrected : Nat) (uncorr : Bool) : State :=
  let s1 := s.countP p R.PORT_FEC_CW
  let s2 := if uncorr then s1.countP p R.PORT_FEC_CW_UNCORR
    else if 0 < corrected then (s1.countP p R.PORT_FEC_CW_CORRECTED).countN .port p R.PORT_FEC_SYM_CORRECTED corrected
    else s1
  s2.modLink p fun l =>
    { l with cwCount := l.cwCount + 1
             uncorr := (if uncorr then [l.cwCount] else []) ++ l.uncorr.filter fun n => decide (l.cwCount < n + 8192)
             winBad := l.winBad || (l.state == .lock && (uncorr || decide (3 < corrected))) }

/-- HI_UNCORR: more than 8 of the last 8,192 codewords were uncorrectable (R126, R132). -/
def State.hiUncorr (s : State) (p : Nat) : State :=
  if s.isUp p ∧ 8 < (s.link p).uncorr.length then s.goDown p 3 else s

/-- Markers and LL lock after an LL-FEC codeword: `marker` when it decoded as a marker codeword (R125). -/
def State.markerIn (s : State) (p : Nat) (marker signal : Bool) : State :=
  let l := s.link p
  let n := l.llCw
  let s1 := s.modLink p fun l => { l with llCw := n + 1 }
  let expected := match l.llMark with
    | some m => n == m + 8192
    | none => false
  if l.llLock then
    if !expected then s1
    else if marker then s1.modLink p fun l => { l with llMark := some n, llMiss := 0 }
    else
      let s2 := s1.modLink p fun l => { l with llMark := some n, llMiss := l.llMiss + 1 }
      if 3 ≤ (s2.link p).llMiss then (s2.modLink p fun l => { l with llLock := false }).lockLost p signal else s2
  else if marker then
    let s2 := s1.modLink p fun l => { l with llMark := some n, llLock := expected, llMiss := 0 }
    if expected ∧ l.state = .switch ∧ !l.squelched then s2.enterUp p else s2
  else s1

/-- An LL-FEC codeword (R123 to R126). A loss of LL lock that it brings comes before HI_UNCORR: the lowest reason is recorded (R132). -/
def State.llIn (s : State) (p : Nat) (symbols : List Nat) (signal : Bool) : State :=
  let l := s.link p
  let atMark := l.llLock && (match l.llMark with
    | some m => l.llCw == m + 8192
    | none => false)
  match llDecode symbols with
  | none => ((s.cwIn p 0 true).markerIn p false signal).hiUncorr p
  | some (word, n) =>
    let marker := isMarker word
    let exempt := atMark || (!l.llLock && marker)
    if !exempt && padOf word != 0 then
      (((s.cwIn p 0 true).countP p R.PORT_FEC_PAD_ERR).markerIn p false signal).hiUncorr p
    else ((s.cwIn p n false).markerIn p marker signal).hiUncorr p

/-- A codeword of the standard FEC (R122, R126). -/
def State.stdIn (s : State) (p corrected : Nat) (uncorr : Bool) : State := (s.cwIn p corrected uncorr).hiUncorr p

/-- CODEWORD_RX: a received codeword, or the loss of lock; `signal`: the receive signal detector shows a signal (R122 to R126, R130,
R132). -/
def execCodewordRx (p : Fin 1024) (cw : Codeword) (signal : Bool) (s : State) : Host.Outcome State Fault Refusal :=
  let l := s.link p
  let on := (l.state = .lock ∧ l.locked) ∨ l.state = .hello ∨ l.state = .switch ∨ l.state = .up
  if !on then .next s
  else match cw with
    | .lockLost => .next (s.lockLost p signal)
    | .std corrected uncorr => if l.rxLL then .next s else .next (s.stdIn p corrected uncorr)
    | .rs symbols =>
      if l.rxLL then .next s
      else (match stdDecode symbols with
        | some (_, n) => .next (s.stdIn p n false)
        | none => .next (s.stdIn p 0 true))
    | .ll symbols => if l.rxLL then .next (s.llIn p symbols signal) else .next s

/-! Down conditions. -/

/-- SIGNAL_LOSS: loss of receive signal for 1 µs (R128, R130, R132). -/
def execSignalLoss (p : Fin 1024) (s : State) : Host.Outcome State Fault Refusal :=
  let l := s.link p
  match l.state with
  | .up => .next (s.goDown p 1)
  | .training | .lock | .hello => .next (s.enterDetect p)
  | .switch => if l.squelched then .next s else .next (s.enterDetect p)
  | _ => .next s

/-- KEEPALIVE_TIMEOUT: no HELLO for 4 × KEEPALIVE (R132). -/
def execKeepaliveTimeout (p : Fin 1024) (s : State) : Host.Outcome State Fault Refusal :=
  let l := s.link p
  if l.state = .up then .next ((s.runTo (l.heardAt + 4 * bitsOf l.helloCfg 15 0 * wUs)).goDown p 4) else .next s

/-- RETRAIN (R128, R130, R132). -/
def State.retrain (s : State) (p : Nat) : State :=
  let st := (s.link p).state
  if st = .disabled ∨ st = .detect ∨ st = .sleep then s
  else
    let s1 := s.modLink p fun l => { l with fallback := false }
    if st = .up then s1.goDown p 6 else s1.enterDetect p

/-! Sleep and wake. -/

/-- SLEEP (R141). -/
def State.linkSleep (s : State) (p : Nat) : State :=
  let l := s.link p
  if l.state ≠ .up then s.err .port p 0x0161 l.state.code R.PORT_LINK_CTRL
  else if !s.linkBit p 4 then s.err .port p 0x0160 0 R.PORT_LINK_CTRL
  else if l.sleeping then s
  else ((s.modLink p fun l => { l with sleeping := true }).modPort p PortSt.dropOwn).sendHello p false true

/-- One step of CRC-16 with polynomial x^16 + x^12 + x^5 + 1 (R142). -/
def crc16Step (c : Nat) (b : Bool) : Nat :=
  let sh := c * 2 % 2 ^ 16
  if nbit c 15 != b then sh ^^^ 0x1021 else sh

/-- CRC-16 of 48 bits, initial value 0xFFFF, no final inversion (R142). -/
def crc16 (v : Nat) : Nat := (bitsDown 48 v).foldl crc16Step 0xFFFF

/-- A wake word (R142). -/
def wakeWord (target sender : Nat) : Word :=
  let v := 0x1E2D * 2 ^ 32 + target % 2 ^ 16 * 2 ^ 16 + sender % 2 ^ 16
  wd (v * 2 ^ 16 + crc16 v)

/-- TARGET_NODE of a wake burst (R142). -/
def State.wakeTarget (s : State) (p : Nat) : Option Nat :=
  let t := s.reg .port p R.PORT_WAKE_TARGET
  if bit t 16 then some (fld t 15 0) else (s.partnerOf p).map Prod.fst

/-- WAKE (R142, R144). In manufacturing mode no lane transmits (R341). -/
def State.linkWake (s : State) (p : Nat) : State :=
  let l := s.link p
  if l.state ≠ .sleep then s.err .port p 0x0161 l.state.code R.PORT_LINK_CTRL
  else match s.wakeTarget p with
    | none => s.err .port p 0x0162 0 R.PORT_LINK_CTRL
    | some t => if s.pwr.mfg then s.enterWaking p else (s.enterWaking p).out (.wakeBurst p (wakeWord t s.nodeId))

/-- The rooster accepts a burst (R143). -/
def State.burstOk (s : State) (p : Nat) (b : WakeBurst) : Bool :=
  match b.words with
  | [x, y, z] =>
    decide (64 ≤ b.preambleBits) && x == y && y == z && decide (b.gap ≤ 16) && x == wakeWord (fld x 47 32) (fld x 31 16)
      && (bit (s.reg .port p R.PORT_ROOSTER_CFG) 0 || fld x 47 32 == s.nodeId)
  | _ => false

/-- WAKE_BURST_RX (R143, R144). -/
def execWakeBurstRx (p : Fin 1024) (b : WakeBurst) (s : State) : Host.Outcome State Fault Refusal :=
  if (s.link p).state ≠ .sleep then .next s
  else if s.burstOk p b then .next ((s.enterWaking p).cause .port p 18)
  else .next (s.countP p R.PORT_ROOSTER_REJECTED)

/-- WAKE_LATE: a port that is not UP 2 ms after the wake (R144). The µs to UP that the alarm carries are not known then: a free
value (log entry 24). -/
def execWakeLate (p : Fin 1024) (s : State) : Host.Outcome State Fault Refusal :=
  match (s.link p).wakeAt with
  | none => .next s
  | some w =>
    let (n, s1) := s.free
    let d := (Config.freeValue n).toNat % 2 ^ 32
    let s2 := ((s1.atLeast (w + 2 * wMs)).modLink p fun l => { l with wakeAt := none }).countP p R.PORT_WAKE_LATE
    .next (s2.raisePort 0x015 p d 0x000B)

/-- SLEEP_SQUELCH: 1 µs after the SLEEP HELLO (R141). -/
def execSleepSquelch (p : Fin 1024) (s : State) : Host.Outcome State Fault Refusal :=
  let l := s.link p
  if l.state = .up ∧ l.slept then .next ((s.sinceLink p wUs).enterSleep p 7) else .next s

/-! Registers (R121, R146, R160). -/

/-- The write of LINK_CTRL. -/
def State.writeLinkCtrl (s : State) (p : Nat) (v : Word) : State :=
  let s1 := if bit v 0 then s.retrain p else s
  let s2 := if bit v 1 then s1.linkSleep p else s1
  if bit v 2 then s2.linkWake p else s2

/-- LINK_RETRAIN: a write of LINK_CTRL.RETRAIN (R128). -/
def execLinkRetrain (p : Fin 1024) (s : State) : Host.Outcome State Fault Refusal :=
  .next (s.regWrite .port p R.PORT_LINK_CTRL fun t => t.retrain p)

/-- LINK_SLEEP: a write of LINK_CTRL.SLEEP (R141). -/
def execLinkSleep (p : Fin 1024) (s : State) : Host.Outcome State Fault Refusal :=
  .next (s.regWrite .port p R.PORT_LINK_CTRL fun t => t.linkSleep p)

/-- LINK_WAKE: a write of LINK_CTRL.WAKE (R144). -/
def execLinkWake (p : Fin 1024) (s : State) : Host.Outcome State Fault Refusal :=
  .next (s.regWrite .port p R.PORT_LINK_CTRL fun t => t.linkWake p)

/-- The write of LINK_CFG: it clears LL_FALLBACK and takes a port out of FAILED (R121, R128, R130). -/
def State.writeLinkCfg (s : State) (p : Nat) (v : Word) : State :=
  let rate := fld v 1 0
  if rate = 1 ∧ !s.feat 2 then s.err .port p errFeat 2 R.PORT_LINK_CFG
  else if 2 ≤ rate then s.err .port p errReserved 0 R.PORT_LINK_CFG
  else
    let s1 := (s.setReg .port p R.PORT_LINK_CFG v).modLink p fun l => { l with fallback := false }
    if (s1.link p).state = .failed then s1.enterDetect p else s1

/-- The lowest field of a port's link register that may not hold what is written (R138, R146, R160). -/
def linkBad (po : Nat) (v : Word) : Option Nat :=
  if po = R.PORT_TRAIN_CFG ∨ po = R.PORT_HELLO_CFG then
    (if fld v 15 0 = 0 then some 0 else if fld v 23 16 = 0 then some 16 else none)
  else if po = R.PORT_PAUSE_CFG then (if bit v 15 then some 8 else if bit v 23 then some 16 else none)
  else if po = R.PORT_PREEMPT_CFG then
    (if fld v 2 1 = 3 then some 1 else if fld v 15 8 = 0 ∨ 128 < fld v 15 8 then some 8 else if fld v 23 16 = 0 then some 16 else none)
  else none

/-- Writes of a port's link registers. -/
def State.writePortLink (s : State) (p po : Nat) (v : Word) : State :=
  if po = R.PORT_LINK_CTRL then s.writeLinkCtrl p v
  else if po = R.PORT_LINK_CFG then s.writeLinkCfg p v
  else match linkBad po v with
    | some b => s.err .port p errReserved b po
    | none => s.setReg .port p po v

end Sys2Proof.Machine
end

