-- ==== Sys2Proof/Machine/Receive.lean ====
section
/-! DEFINITION. Receive stages 1 to 5 of a port group: MAC, acceptance window, header check, what a port consumes, the relay
(R18, R87, R106 to R109, R135 to R137, R165, R169, R182 to R192, R311, R369, R372), and pause frames (R137 to R140). -/

namespace Sys2Proof.Machine

open Sys2Proof

/-! Stage 3. -/

/-- Word 0 and word 1 of a receive slot. -/
def Bank.slotW (b : Bank) (p i : Nat) : Word × Word := (b.word (offSlot p i), b.word (offSlot p i + 8))

/-- An arrival matches a slot (R108); its extensions into the neighbouring cycles do not cross a cut. -/
def State.slotMatches (s : State) (p : Nat) (w : Word) (a : Nat) : Bool :=
  let n := s.ticks
  let lo : Int := (slotStart w : Int) - s.live.rxTol p
  let hi : Int := (slotEnd w : Int) + s.live.rxTol p
  let first := s.slate.cutHere == some s.time.cycle
  let last := s.slate.cut == .committed && s.slate.x == cycMod (s.time.cycle + 1)
  (decide (lo ≤ a) && decide ((a : Int) ≤ hi)) || (!first && decide ((a : Int) + n ≤ hi)) || (!last && decide (lo ≤ (a : Int) - n))

/-- How far an arrival lies before and after the widened window of a slot, modulo the cycle (R109). -/
def State.slotMiss (s : State) (p : Nat) (w : Word) (a : Nat) : Nat × Nat :=
  let n := (s.ticks : Int)
  let lo : Int := (slotStart w : Int) - s.live.rxTol p
  let hi : Int := (slotEnd w : Int) + s.live.rxTol p
  (((lo - a) % n).toNat, (((a : Int) - hi) % n).toNat)

/-- The holder check of a spare slot (R96). -/
def State.holderOk (s : State) (p : Nat) (w1 : Word) (itp : Bool) (f : Frame) : Bool :=
  itp && (s.port p).claims.any fun e =>
    e.2.owner == fld w1 15 0 && e.2.held && e.2.holder == beAt f.body 6 2

/-- Receive stage 3: the counter of a frame it discards (R96, R107 to R109). Clappers, delay frames and HELLO frames are exempt
(R52, R87). -/
def State.stage3 (s : State) (p : Nat) (itp : Bool) (f : Frame) (tRx : Nat) : Option Nat :=
  let c := s.rxClass p itp f
  let t := typOf f
  if (itp && (t == tClapper || t == tDelayReq || t == tDelayResp || t == tHello)) || !nbit (s.live.schedMask p) c then none
  else if !s.time.hasCycle then some R.PORT_RX_NO_CYCLE
  else
    let a := s.arrival tRx
    let slots := ((List.range (s.live.slotCount p)).map fun i => s.live.slotW p i).filter fun w => nbit (slotMask w.1) c
    match slots.find? fun w => s.slotMatches p w.1 a with
    | some w => if slotSpare w.1 && !s.holderOk p w.2 itp f then some R.PORT_SPARE_UNCLAIMED else none
    | none =>
      match sortBy (fun m => min m.1 m.2) (slots.map fun w => s.slotMiss p w.1 a) with
      | [] => some R.PORT_RX_NO_SLOT
      | m :: _ => if m.1 ≤ m.2 then some R.PORT_RX_EARLY else some R.PORT_RX_LATE

/-- Count a stage-3 discard; it counts toward RX_LATE_BURST (R109, R311). -/
def State.drop3 (s : State) (p ctr : Nat) : State := (s.countP p ctr).modPort p fun q => { q with lateN := q.lateN + 1 }

/-! Stage 5. -/

/-- A DATA or ACCUM header meets R191. -/
def dataOk (h : Hdr) : Bool :=
  let n := elemSize h.elem
  decide (h.codec ≤ 4) && decide (h.elem ≤ 5) && (decide (h.codec < 2) || (1 ≤ h.elem && h.elem ≤ 3))
    && decide (1 ≤ h.count) && decide (h.count * n ≤ 30720) && (h.codec != 0 || h.plen == h.count * n) && h.target % n == 0
    && (if h.typ = tData then h.op == 1 else (h.op == 2 || h.op == 3) && h.elem != 0)

/-- PAYLOAD_LEN is what the table of types fixes (R188, R189). -/
def plenOk (h : Hdr) (units : Nat) : Bool :=
  match fixedPlen h.typ with
  | some n => h.plen == n
  | none =>
    if h.typ = tPost then decide (1 ≤ units) && decide (units ≤ 8) && h.plen == 8 + 32 * units
    else decide (1 ≤ h.plen) && decide (h.plen ≤ 8192)

/-- A frame that carries a claim (R135). -/
def isClaim (t : Nat) : Bool := t == tClaim || t == tClaimAck || t == tClaimRefused

/-- The features that TYPE, OPERATION and CODEC require are accepted (R188, R189). -/
def State.typFeat (s : State) (h : Hdr) : Bool :=
  let coded := h.typ == tData || h.typ == tAccum
  (h.typ != tAccum || (s.feat 10 && (h.op != 3 || s.feat 11)))
    && (!coded || ((h.codec != 1 || s.feat 8) && (decide (h.codec < 2) || s.feat 9)))
    && (!isClaim h.typ || s.feat 12) && (h.typ != tFault || s.feat 22) && (h.typ != tEvent || s.feat 24)
    && (h.typ != tPost || s.feat 15)

/-- The stage-5 checks in order: the counter of the first that fails (R189). -/
def State.stage5 (s : State) (p : Nat) (f : Frame) : Option Nat :=
  let h := hdrOf f.body
  let pay := payloadOf f.body
  if h.version ≠ 1 then some R.PORT_RX_HDR_VERSION
  else if !typDefined h.typ then some R.PORT_RX_HDR_TYPE
  else if 8192 < h.plen ∨ (frameLen f) ≠ itpLen f.tag.isSome h.plen then some R.PORT_RX_HDR_MALFORMED
  else if !plenOk h (beAt pay 2 1) then some R.PORT_RX_HDR_MALFORMED
  else if (h.typ == tData || h.typ == tAccum) && !dataOk h then some R.PORT_RX_HDR_MALFORMED
  else if !s.typFeat h then some R.PORT_RX_HDR_FEATURE
  else if (isClaim h.typ && !s.linkBit p 5) || (h.typ == tEvent && !s.linkBit p 6) then some R.PORT_RX_NOT_AGREED
  else if !linkLocal h.typ && h.dst != s.nodeId && h.src == s.nodeId then some R.PORT_RX_OWN_SOURCE
  else none

/-! Relay. -/

/-- Checks 1, 2 and 8, which a frame bound for the relay path passes (R190). -/
def State.relayCheck (s : State) (f : Frame) : Option Nat :=
  let h := hdrOf f.body
  if h.version ≠ 1 then some R.PORT_RX_HDR_VERSION
  else if !typDefined h.typ then some R.PORT_RX_HDR_TYPE
  else if h.src = s.nodeId then some R.PORT_RX_OWN_SOURCE
  else none

/-- Relay class and member ports of a frame that is not for this node, when it has a relay entry (R163 to R165, R169). -/
def State.routeOf (s : State) (itp : Bool) (f : Frame) : Option (Nat × List Nat) :=
  match (if itp then s.live.identify (hdrOf f.body).handle else s.live.identifyNull f) with
  | some i =>
    let w := s.live.word (offStream i)
    let g := s.live.word (offGen i)
    if stRelay w ∧ gnValid g then some (stClass w, gnPorts g) else none
  | none => none

/-- A replica of a relayed frame, or what keeps it from being made (R169, R197). -/
def State.relayTo (s : State) (p cls : Nat) (itp : Bool) (f : Frame) (q : Nat) : State :=
  let t := if itp then typOf f else 0
  if q = p then s.countP p R.PORT_RELAY_HAIRPIN
  else if t = tEvent ∧ !s.linkBit q 6 then s.countP q R.PORT_TX_NOT_AGREED
  else (s.enqueue q { cls, typ := t, origin := .relay p, frame := f }).arrived q

/-- Relay a frame (R169). -/
def State.relay (s : State) (p : Nat) (itp : Bool) (f : Frame) (cls : Nat) (ports : List Nat) : State :=
  ports.foldl (fun t q => t.relayTo p cls itp f q) (s.countP p R.PORT_RELAY_RX)

/-- An output port can have begun a relayed frame before its last bit arrived: it is not the arrival port, the link takes the frame
(R197), the port may send it and its gate is open (R104, R131), its lane is free but for this frame, the frame goes through the express
MAC, and it does not go from 100 to 200 Gbit/s, where it is held whole (R127). -/
def State.cutsThrough (s : State) (p : Nat) (fr : TxFrame) (q : Nat) : Bool :=
  q != p && (fr.typ != tEvent || s.linkBit q 6) && !(s.bytesPerTick p == 8 && s.bytesPerTick q == 16)
    && s.maySend q fr && (s.gateOf q fr).isSome && !s.preemptable q fr.cls && (s.port q).wire.isNone
    && decide ((s.port q).laneFree ≤ s.time.now)

/-- An output port that has begun a frame which fails stage 1 or 2 ends it with the complement of the FCS (R369). -/
def State.stomp (s : State) (p cls : Nat) (itp : Bool) (f : Frame) (q : Nat) : State :=
  let fr : TxFrame := { cls, typ := if itp then typOf f else 0, origin := .relay p, frame := f }
  if s.cutsThrough p fr q then
    let dep := ((roundFrac (s.fab s.time.now) : Int) + (s.replica (q / 16)).diff).toNat
    let s1 := s.modPort q fun x => { x with laneFree := s.time.now + 12 * s.wByte q }
    ((s1.out (.frame q f false)).started q cls dep (some fr)).countP q R.PORT_TX_STOMPED
  else s

/-- A frame that is not consumed here (R165, R190). -/
def State.bound (s : State) (itp : Bool) (f : Frame) : Bool :=
  !itp || (!linkLocal (typOf f) && (hdrOf f.body).dst != s.nodeId)

/-- The output ports that have begun a cut-through frame whose stage 1 or 2 has failed end it; on any other it is not sent at all
(R369). -/
def State.stompAll (s : State) (p : Nat) (itp : Bool) (f : Frame) (tRx : Nat) (begun : List (Fin 1024)) : State :=
  if s.bound itp f ∧ (s.stage3 p itp f tRx).isNone ∧ (!itp ∨ (s.relayCheck f).isNone) then
    match s.routeOf itp f with
    | some (cls, ports) => (ports.filter fun q => begun.any fun b => b.val == q).foldl (fun t q => t.stomp p cls itp f q) s
    | none => s
  else s

/-! Pause frames (R137 to R140). -/

/-- The classes a pause frame pauses with their quanta, and whether it selects one (R138). -/
def State.pauseItems (s : State) (p : Nat) (f : PauseFrame) : List (Nat × Nat) × Bool :=
  let cfg := s.reg .port p R.PORT_PAUSE_CFG
  if f.pfc then
    let sel := (List.range 8).filter fun i => nbit f.enabled i && nbit (fld cfg 23 16) (s.live.pcpClass p i)
    let classes := (sel.map fun i => s.live.pcpClass p i).eraseDups
    (classes.map fun c => (c, ((sel.filter fun i => s.live.pcpClass p i == c).map fun i => nth f.quanta i 0).foldl max 0),
     !sel.isEmpty)
  else
    (((List.range 8).filter fun c => nbit (fld cfg 15 8) c).map fun c => (c, nth f.quanta 0 0), bit cfg 0)

/-- A pause frame is obeyed or ignored (R138); one that is obeyed acts at its effect tick, 250 ticks after its last bit (R139). -/
def State.pauseIn (s : State) (p : Nat) (f : PauseFrame) : State :=
  let (items, ok) := s.pauseItems p f
  if s.feat 4 && s.linkBit p 3 && ok then
    let unit := (if s.bytesPerTick p = 8 then 8 else 4) * wTick
    let e : PauseEff := { at_ := s.tickAt (f.tick + 250), pfc := f.pfc, items := items.map fun x => (x.1, x.2 * unit) }
    (s.countP p R.PORT_RX_PAUSE_OBEYED).modPort p fun q => { q with pauseEff := q.pauseEff ++ [e] }
  else s.countP p R.PORT_RX_PAUSE_IGNORED

/-- PAUSE_RX (R138). -/
def execPauseRx (p : Fin 1024) (f : PauseFrame) (s : State) : Host.Outcome State Fault Refusal :=
  if s.isUp p then .next (s.pauseIn p f)
  else if s.delineates p then .next (s.countP p R.PORT_RX_NOT_UP) else .next s

/-- A pause of a class from an instant, for a time: it replaces what is left of the class's pause of the same kind (R139). -/
def setPause (l : List Span) (cls : Nat) (pfc : Bool) (at_ len : Nat) : List Span :=
  let cut := l.map fun x => if x.cls = cls ∧ x.pfc = pfc ∧ at_ < x.to_ then { x with to_ := at_ } else x
  if len = 0 then cut else cut ++ [{ cls, pfc, from_ := at_, to_ := at_ + len }]

/-- PAUSE_EFFECT: the effect tick of the earliest pause frame: a window in which a frame waits is consumed (R139, R140, R153). -/
def execPauseEffect (p : Fin 1024) (s : State) : Host.Outcome State Fault Refusal :=
  match sortBy PauseEff.at_ (s.port p).pauseEff with
  | [] => .next s
  | e :: _ =>
    let s1 := (s.runTo e.at_).modPort p fun q =>
      { q with pauseEff := q.pauseEff.erase e,
               spans := e.items.foldl (fun l x => setPause l x.1 e.pfc e.at_ x.2) q.spans }
    let s2 := (match (s1.port p).wire with
      | some x => if e.items.any fun i => i.1 == x.fr.cls && 0 < i.2 then s1.cutWire p e.at_ R.PORT_TX_PREEMPT_PAUSE else s1
      | none => s1)
    .next (s2.countEaten p)

/-- PAUSE_EXPIRY: the pause of a class runs out (R139). -/
def execPauseExpiry (p : Fin 1024) (cls : Fin 8) (s : State) : Host.Outcome State Fault Refusal :=
  let ends := ((s.port p).spans.filter fun x => x.cls == cls.val && decide (x.from_ ≤ s.time.now)).map Span.to_
  .next (s.atLeast (ends.foldl max 0))

/-- A MAC control frame that no rule handles (R137). -/
def ctrlOther (opcode len : Nat) : Bool := len != 64 || !(opcode == 0x0001 || opcode == 0x0101)

/-- MAC_CONTROL_RX: a MAC control frame is consumed; its length is judged first (R136, R137). -/
def execMacControlRx (p : Fin 1024) (opcode : BitVec 16) (len : Nat) (s : State) : Host.Outcome State Fault Refusal :=
  if !s.isUp p then (if s.delineates p then .next (s.countP p R.PORT_RX_NOT_UP) else .next s)
  else if len < 64 then .next (s.countP p R.PORT_RX_UNDERSIZE)
  else if 9216 < len then .next (s.countP p R.PORT_RX_OVERSIZE)
  else if ctrlOther opcode.toNat len then .next (s.countP p R.PORT_RX_MAC_CTRL_OTHER)
  else .next s

/-- A received MAC control frame (R137, R138). -/
def State.ctrlIn (s : State) (p : Nat) (f : Frame) (tRx : Nat) : State :=
  let op := beAt f.body 0 2
  if ctrlOther op (frameLen f) then s.countP p R.PORT_RX_MAC_CTRL_OTHER
  else
    let tick := cdiv (s.lastBit p tRx (frameLen f) - s.time.cycStart) wTick
    if op = 0x0101 then
      s.pauseIn p { pfc := true, enabled := beAt f.body 2 2, quanta := (List.range 8).map fun i => beAt f.body (4 + 2 * i) 2, tick }
    else s.pauseIn p { pfc := false, enabled := 0, quanta := [beAt f.body 2 2], tick }

/-! From stage 5 on. -/

/-- A link-local frame that has passed stage 5 is consumed by its port (R188). The answer to a DELAY_REQ leaves as R54 says. -/
def State.consume (s : State) (p : Nat) (f : Frame) (tRx : Nat) : State :=
  let h := hdrOf f.body
  let b := payloadOf f.body
  if h.typ = tClapper then (if s.node.state = .halted then s else s.clapperIn p (clapperOf h b) tRx)
  else if h.typ = tDelayReq then
    if s.delayOn p then s.answerDelay p (beAt b 0 2) tRx (s.nominalDep p) else s
  else if h.typ = tDelayResp then
    (if s.delayOn p then s.delayResp p (beAt b 0 2) (nbit (beAt b 2 1) 0) (sext 64 (beAt b 8 8)) tRx else s)
  else if h.typ = tHello then s.helloIn p (helloOf h b)
  else if h.typ = tClaim then s.claimIn p h.src (beAt b 0 2) (beAt b 2 6)
  else if h.typ = tClaimAck then s.claimAck p (beAt b 0 2)
  else s.claimNo p (beAt b 0 2) (beAt b 8 1)

/-- A frame that has passed stages 1 to 4 (R165, R188 to R190). -/
def State.fromStage5 (s : State) (p : Nat) (itp : Bool) (f : Frame) (tRx last edge : Nat) : State :=
  let a := s.arrival tRx
  if s.bound itp f then
    match (if itp then s.relayCheck f else none) with
    | some ctr => (s.countP p ctr).traceRx p itp f 5 a
    | none =>
      match s.routeOf itp f with
      | some (cls, ports) => (s.traceRx p itp f 0 a).relay p itp f cls ports
      | none => (s.countP p R.PORT_RX_NO_ROUTE).traceRx p itp f 5 a
  else
    match s.stage5 p f with
    | some ctr => (s.countP p ctr).traceRx p itp f 5 a
    | none =>
      let s1 := (s.countP p R.PORT_RX_ITPITOS).traceRx p itp f 0 a
      if linkLocal (typOf f) then s1.consume p f tRx
      else
        -- not before its last bit, nor before the frames that the port received earlier (R20, R267)
        let e := max edge (max (s1.port p).hubLast (hubEdge last))
        let x : HubFrame := { edge := e, port := p, cls := s.rxClass p itp f, frame := f, last }
        let s2 := s1.modPort p fun q => { q with hubLast := e }
        { s2 with hubIn := s2.hubIn ++ [x] }

/-- Stages 3 to 5 of a frame that arrived whole through the express MAC. -/
def State.fromStage3 (s : State) (p : Nat) (itp : Bool) (f : Frame) (tRx last edge : Nat) : State :=
  match s.stage3 p itp f tRx with
  | some ctr => (s.drop3 p ctr).traceRx p itp f 3 (s.arrival tRx)
  | none => s.fromStage5 p itp f tRx last edge

/-- The stage and counter of a frame that fails stage 1 or 2 (R126, R136). -/
def failed12 (fecOk fcsOk : Bool) (len : Nat) : Option (Nat × Nat) :=
  if !fecOk then some (1, R.PORT_RX_FEC_DISCARD)
  else if len < 64 then some (2, R.PORT_RX_UNDERSIZE)
  else if 9216 < len then some (2, R.PORT_RX_OVERSIZE)
  else if !fcsOk then some (2, R.PORT_RX_FCS_ERR)
  else none

/-- A frame received by a port in UP. -/
def State.rxUp (s : State) (r : RxFrame) : State :=
  let p := r.port.val
  let f := r.frame
  let itp := s.isItp p f
  match failed12 r.fecOk r.fcsOk (frameLen f) with
  | some (stage, ctr) =>
    ((s.countP p ctr).traceRx p itp f stage (s.arrival r.tRx)).stompAll p itp f r.tRx r.begun
  | none =>
    if f.etherType = 0x8808 then s.ctrlIn p f r.tRx else s.fromStage3 p itp f r.tRx (s.lastBit p r.tRx (frameLen f)) r.edge

/-- A frame delineated in LOCK, HELLO or SWITCH: a HELLO is kept, any other is discarded (R372). -/
def State.rxNotUp (s : State) (r : RxFrame) : State :=
  let p := r.port.val
  let f := r.frame
  if r.fecOk && r.fcsOk && decide (64 ≤ frameLen f) && s.isItp p f && typOf f == tHello && (s.stage5 p f).isNone then
    s.helloIn p (helloOf (hdrOf f.body) (payloadOf f.body))
  else s.countP p R.PORT_RX_NOT_UP

/-- FRAME_RECEIVE: a frame received on a port passes receive stages 1 to 5 (R18, R372). -/
def execFrameReceive (r : RxFrame) (s : State) : Host.Outcome State Fault Refusal :=
  let p := r.port.val
  if s.isUp p then .next ((s.seenAt p r.tRx).rxUp r).pace
  else if s.delineates p then .next (s.rxNotUp r)
  else .next s

end Sys2Proof.Machine
end

