-- ==== Sys2Proof/Machine/Landing.lean ====
section
/-! DEFINITION. Receive stages 6 to 9 of the hub: duplicate elimination, landing-zone check, decode, landing and accumulation; scrubbing;
the LZ page (R19, R20, R165, R171, R204 to R214, R261 to R266). -/

namespace Sys2Proof.Machine

open Sys2Proof

/-! Trace. -/

/-- A HUB_RX record: outcome 0 when it landed, or the stage that discarded the frame (R302, R306). -/
def State.traceHub (s : State) (x : HubFrame) (outcome : Nat) (zone : Option Nat) : State :=
  let h := hdrOf x.frame.body
  s.traceEv 64 (if outcome = 0 then 0 else outcome - 5) (some x.cls) none 0x03
    (wd (x.port + h.typ * 2 ^ 16 + outcome * 2 ^ 27 + h.src * 2 ^ 32 + zone.getD 0xFFF * 2 ^ 48))
    (wd (h.handle + h.seq * 2 ^ 32 + h.flags * 2 ^ 48)) (wd h.target)

/-! Stage 6. -/

/-- Stage 6: recovery of an identified frame whose entry asks for it, and whether the frame passes (R165, R171). A frame that is
identified is counted in RX_IDENTIFIED (R180). -/
def State.stage6 (s : State) (x : HubFrame) : State × Bool :=
  let h := hdrOf x.frame.body
  match s.live.identify h.handle with
  | some i =>
    let w := s.live.word (offStream i)
    let s1 := s.count .stream 0 R.STREAM_RX_IDENTIFIED
    if stRcvy w then s1.recover (stIndex w) x.port h.seq h.cycle h.src else (s1.count .stream 0 R.STREAM_RX_UNTRACKED, true)
  | none => (s.count .stream 0 R.STREAM_RX_UNTRACKED, true)

/-! Stage 7. -/

/-- Bytes that a DATA or ACCUM frame covers (R209). -/
def coverOf (h : Hdr) : Nat := h.count * elemSize h.elem

/-- The stage-7 checks of a frame in order: its zone, or the number of the first check that fails with the zone (R209). -/
def Bank.stage7 (b : Bank) (h : Hdr) : Except (Nat × Nat) Nat :=
  match b.zoneAt h.target with
  | none => .error (1, 0xFFFF)
  | some z =>
    let lo := b.word (offZone z)
    if !b.inZone z (h.target + coverOf h - 1) then .error (2, z)
    else if znSrcCheck lo && h.src != znSrc lo then .error (3, z)
    else if h.key != znKey lo then .error (4, z)
    else if !(if h.typ = tData then znWrite lo else znAccum lo) then .error (5, z)
    else .ok z

/-! Stage 8. -/

/-- The stage-8 checks of a frame in order: its elements, or the counter of the first check that fails (R261). -/
def stage8 (h : Hdr) (payload : List Byte) : Except Nat (List Nat) :=
  if !opAllowed h.op h.elem then .error R.CODEC_DEC_BAD_OP else decode h.codec h.elem h.count payload

/-! Stage 9. -/

/-- The ranges stage 9 reads before it writes n bytes at an address: every byte for ACCUM, the partial words at either end for
DATA (R205). -/
def readBefore (accum : Bool) (a n : Nat) : List (Nat × Nat) :=
  if accum then [(a, n)]
  else (if a % 8 = 0 then [] else [(a / 8 * 8, 8)]) ++ (if (a + n) % 8 = 0 then [] else [((a + n) / 8 * 8, 8)])

/-- Read ranges of memory: the errors found are taken (R204). -/
def State.readRanges (s : State) (l : List (Nat × Nat)) : State := l.foldl (fun t r => t.eccRead r.1 r.2) s

/-- A poisoned word lies in some range. -/
def State.anyPoison (s : State) (l : List (Nat × Nat)) : Bool := l.any fun r => s.poisoned r.1 r.2

/-- Combine elements in memory with decoded ones under an operation (R262, R263). -/
def combineAll (op t : Nat) (old new : List Nat) : List Comb := List.zipWith (combine op t) old new

/-- Write elements, or combine them with those in memory, at an address (R262, R264). -/
def State.apply (s : State) (op t a : Nat) (xs : List Nat) : State × List Comb :=
  let old := elemsOfMem t (s.readMem a (xs.length * elemSize t))
  let cs := combineAll op t old xs
  (s.writeMem a (memOfElems t (cs.map Comb.x)), cs)

/-- Count an ACCUM frame that has been combined (R263). -/
def State.countAccum (s : State) (h : Hdr) (cs : List Comb) : State :=
  if h.typ = tAccum then
    (((s.count .codec 0 R.CODEC_ACC_FRAMES).countN .codec 0 R.CODEC_ACC_ELEMENTS h.count).countN .codec 0 R.CODEC_ACC_NAN
      (cs.filter Comb.nan).length).countN .codec 0 R.CODEC_ACC_OVERFLOW (cs.filter Comb.ovf).length
  else s

/-- Ticks from the last bit of a frame at the pins to the instant its last payload byte is visible: 70 ns after the hub edge of
stage 6 (R20, R296; log entry 40). -/
def w2m (x : HubFrame) : Nat := (x.edge * wHub + 70 * wNs - x.last) / wTick

/-- Stage 9: the frame lands in a zone, unless it reads a poisoned word (R205, R211, R262). -/
def State.stage9 (s : State) (x : HubFrame) (h : Hdr) (z : Nat) (xs : List Nat) : State :=
  let rs := readBefore (h.typ == tAccum) h.target (coverOf h)
  let s1 := s.readRanges rs
  if s1.anyPoison rs then s1.zonePoison z
  else
    let r := s1.apply h.op h.elem h.target xs
    (((r.1.countAccum h r.2).sample (x.port / 16) 0 x.cls (w2m x)).traceHub x 0 (some z)).landed z (coverOf h)

/-- A DATA or ACCUM frame past stage 6: stages 7, 8 and 9 (R209, R210, R261). -/
def State.land (s : State) (x : HubFrame) : State :=
  let h := hdrOf x.frame.body
  match s.live.stage7 h with
  | .error (chk, z) => (s.rejectReport h.src z chk).traceHub x 7 (if z = 0xFFFF then none else some z)
  | .ok z =>
    match stage8 h (payloadOf x.frame.body) with
    | .error ctr => (s.count .codec 0 ctr).traceHub x 8 (some z)
    | .ok xs => (s.count .codec 0 R.CODEC_DEC_FRAMES).stage9 x h z xs

/-! Scrubbing (R206). -/

/-- Lines of a die. -/
def dieLines : Nat := 2 ^ 20

/-- Address of the n-th line of a die, in rising order (R203; log entry 84). -/
def lineAddr (die n : Nat) : Nat := n / 128 * 2 ^ 16 + n % 128 * 2 ^ 9 + die * 64

/-- A die scrubs its next line, INTERVAL hub clock periods after the last one (R206; log entry 84). -/
def State.scrubLine (s : State) (die : Nat) : State :=
  let x := smGet s.scrubs die (0, 0)
  let t := s.atLeast (x.2 + s.regF .mem 0 R.MEM_SCRUB_CFG 15 0 * wHub)
  let t1 := (t.eccRead (lineAddr die x.1) 64).count .mem 0 R.MEM_SCRUB_LINES
  { t1 with scrubs := smSet t1.scrubs die ((x.1 + 1) % dieLines, t1.time.now) }

/-- SCRUB: the next line of a die is read and corrected; an INTERVAL of 0 stops scrubbing. -/
def execScrub (die : Fin 8) (ecc : EccList) (s : State) : Host.Outcome State Fault Refusal :=
  .next (if s.regF .mem 0 R.MEM_SCRUB_CFG 15 0 = 0 then s.arise ecc else (s.arise ecc).scrubLine die.val)

/-! The LZ page (R210, R212, R214). -/

/-- LZ_EDIT_APPLY: APPLY of EDIT_CTRL for a zone. -/
def execLzEditApply (zone : Fin 4096) (s : State) : Host.Outcome State Fault Refusal :=
  .next (s.regWrite .lz 0 R.LZ_EDIT_CTRL fun t => t.lzEdit zone.val)

/-- REJECT_CLEAR: CLEAR of REJECT_CTRL. -/
def execRejectClear (s : State) : Host.Outcome State Fault Refusal :=
  .next (s.regWrite .lz 0 R.LZ_REJECT_CTRL State.rejectClear)

/-- ZONE_SEL: a write of ZONE_SEL. -/
def execZoneSel (z : BitVec 32) (s : State) : Host.Outcome State Fault Refusal :=
  .next (s.regWriteV .lz 0 R.LZ_ZONE_SEL (z.setWidth 64) State.writeZoneSel)

end Sys2Proof.Machine
end

