-- ==== Sys2Proof/Machine/Selftest.lean ====
section
/-! DEFINITION. The codec self-test (R266, R269, R270). -/

namespace Sys2Proof.Machine

open Sys2Proof

/-- Owner ID of the codec self-test (R266). -/
def ownerTest : Nat := 0x00070000

/-- Fields of TEST_CFG (R270). -/
def State.testCfg (s : State) : Word := s.reg .codec 0 R.CODEC_TEST_CFG
def tcElem (w : Word) : Nat := fld w 3 0
def tcCodec (w : Word) : Nat := fld w 7 4
def tcOp (w : Word) : Nat := fld w 9 8
def tcSlice (w : Word) : Nat := fld w 15 12
def tcCount (w : Word) : Nat := fld w 30 16

/-- Addresses of the test. -/
def State.testSrc (s : State) : Nat := s.regF .codec 0 R.CODEC_TEST_SRC 47 0
def State.testEnc (s : State) : Nat := s.regF .codec 0 R.CODEC_TEST_ENC 47 0
def State.testDst (s : State) : Nat := s.regF .codec 0 R.CODEC_TEST_DST 47 0

/-- The settings break R191 or R262, or the count is out of range (R269). -/
def testCfgBad (w : Word) : Bool :=
  let n := tcCount w * elemSize (tcElem w)
  decide (4 < tcCodec w) || decide (5 < tcElem w) || (decide (2 ≤ tcCodec w) && !isFloat (tcElem w))
    || !opAllowed (tcOp w) (tcElem w) || n == 0 || decide (30720 < n)

/-- The page offset of the register for which START is refused with TEST_INVALID (R269). -/
def State.testBad (s : State) : Option Nat :=
  let w := s.testCfg
  let z := elemSize (tcElem w)
  let n := tcCount w * z
  if testCfgBad w then some R.CODEC_TEST_CFG
  else if s.testSrc % z ≠ 0 ∨ !s.inMap s.testSrc n then some R.CODEC_TEST_SRC
  else if !s.inMap s.testEnc (maxPayload (tcCodec w) (tcElem w) (tcCount w)) then some R.CODEC_TEST_ENC
  else if s.testDst % z ≠ 0 ∨ !s.inMap s.testDst n then some R.CODEC_TEST_DST
  else none

/-- The features that a test needs (R269). -/
def testNeeds (w : Word) : List Nat :=
  (if tcCodec w = 1 then [8] else []) ++ (if 2 ≤ tcCodec w then [9] else []) ++ (if 2 ≤ tcOp w then [10] else [])
    ++ (if tcOp w = 3 then [11] else [])

/-- START of TEST_CTRL (R269). -/
def State.testStart (s : State) : State :=
  let w := s.testCfg
  let r := resSlice (tcSlice w)
  if s.test.busy then s.err .codec 0 0x0190 0 R.CODEC_TEST_CTRL
  else match s.blocked ownerTest [r] with
    | some h => s.refuseOwned .codec 0 h (s.ownerOf h)
    | none =>
      match s.testBad with
      | some po => s.refuseEnable .codec 0 0x0191 0 po
      | none =>
        match (testNeeds w).find? fun b => !s.feat b with
        | some b => s.err .codec 0 errFeat b R.CODEC_TEST_CTRL
        | none => { s.takeAll ownerTest [r] with test := { s.test with busy := true, done := false, poisoned := false } }

/-- The write of TEST_CTRL. -/
def State.writeTestCtrl (s : State) (v : Word) : State := if bit v 0 then s.testStart else s

/-- CODEC_TEST_START: a write of START. -/
def execCodecTestStart (s : State) : Host.Outcome State Fault Refusal :=
  .next (s.regWrite .codec 0 R.CODEC_TEST_CTRL State.testStart)

/-- The test ends (R269). -/
def State.testEnd (s : State) (poisoned : Bool) : State :=
  let s1 := s.release ownerTest [resSlice (tcSlice s.testCfg)]
  ({ s1 with test := { s1.test with busy := false, done := true, poisoned } }.cause .codec 0 16).count .codec 0 R.CODEC_TEST_RUNS

/-- The elements are encoded to TEST_ENC, decoded, and combined with those at TEST_DST (R269). -/
def State.testRun (s : State) : State :=
  let w := s.testCfg
  let t := tcElem w
  let n := tcCount w * elemSize t
  let e := encode (tcCodec w) t (elemsOfMem t (s.readMem s.testSrc n))
  let s0 := s.store s.testEnc e.bytes
  let s1 : State := { s0 with test := { s0.test with encBytes := e.bytes.length } }
  let s2 := if tcOp w = 1 then s1 else s1.eccRead s.testDst n
  if tcOp w ≠ 1 ∧ s1.readFails s.testDst n then s2.testEnd true
  else match decode (tcCodec w) t (tcCount w) e.bytes with
    | .ok xs => (s2.apply (tcOp w) t s.testDst xs).1.testEnd false
    | .error _ => s2.testEnd false

/-- CODEC_TEST_DONE: the test has run (R269). -/
def execCodecTestDone (ecc : EccList) (s : State) : Host.Outcome State Fault Refusal :=
  let s0 := s.arise ecc
  if !s.test.busy then .next s0
  else
    let n := tcCount s.testCfg * elemSize (tcElem s.testCfg)
    let s1 := s0.eccRead s.testSrc n
    if s0.readFails s.testSrc n then .next (s1.testEnd true) else .next s1.testRun

/-- A write to a test register (R270). -/
def State.writeTest (s : State) (po : Nat) (v : Word) : State :=
  if po = R.CODEC_TEST_CTRL then s.writeTestCtrl v
  else if s.test.busy then s.err .codec 0 0x0190 0 po
  else if po = R.CODEC_TEST_CFG ∧ tcOp v = 0 then s.err .codec 0 errReserved 8 po
  else s.setReg .codec 0 po v

/-- TEST_STATUS. -/
def State.testStatus (s : State) : Word :=
  wd (b2n s.test.busy + b2n s.test.done * 2 + b2n s.test.poisoned * 4 + s.test.encBytes * 2 ^ 16)

end Sys2Proof.Machine
end

