-- ==== Sys2Proof/Machine/Header.lean ====
section
/-! DEFINITION. The common page header: control, feature negotiation, causes, shadow and commit, snapshots, counter writes
(R28 to R42 and the header tables). -/

namespace Sys2Proof.Machine

open Sys2Proof

/-- A sparse array with every listed content changed. -/
def smMap {α β : Type} (f : α → β) (m : SMap α) : SMap β := m.map fun x => (x.1, f x.2)

/-- The feature that a write to a header register of a page needs (R34, R288, R300, R318, R320): 0 for BASE. -/
def hdrFeat (k : PageKind) (po : Nat) : Nat :=
  match k with
  | .mover => 18
  | .fault => 22
  | .trace => if po = 0x018 then 21 else 0
  | .cnt => if po = 0x018 then 19 else 0
  | _ => 0

/-- A write to a header register passes the common checks and acts as `f`, or is refused (R32, R34). -/
def State.hdrGuard (s : State) (k : PageKind) (i po : Nat) (f : State → State) : State :=
  s.guarded k i po .rw (hdrFeat k po) f

/-! CTRL: ENABLE and BLOCK_RESET. -/

/-- Set CTRL.ENABLE of a page. -/
def State.hdrEnable (s : State) (k : PageKind) (i : Nat) (on : Bool) : State := s.modHdr k i fun h => { h with enable := on }

/-- ENABLE of the MOVER page is written: 0 disables every channel (R284). -/
def State.moverEnable (s : State) (on : Bool) : State := if on then s.hdrEnable .mover 0 true else s.moverOff.hdrEnable .mover 0 false

/-- ENABLE of a page is written (table of CTRL). GLOBAL has none. -/
def State.setEnable (s : State) (k : PageKind) (i : Nat) (on : Bool) : State :=
  match k with
  | .global => s
  | .port => s.portEnable i on
  | .cnt => s.cntEnable on
  | .trace => s.traceEnable on
  | .fault => s.faultEnable on
  | .mgmt => s.mgmtEnable on
  | .mover => s.moverEnable on
  | _ => s.hdrEnable k i on

/-- A register that BLOCK_RESET returns to its reset value: RW or RWS (table of CTRL). -/
def resettable (k : PageKind) (po : Nat) : Bool :=
  match findRow k po with
  | some (r, _) => r.acc == .rw || r.acc == .rws
  | none => false

/-- The RW and RWS registers of a page that are held as words return to their reset values. -/
def State.resetRegs (s : State) (k : PageKind) (i : Nat) : State :=
  { s with regs := s.regs.filter fun x => !(x.1 / 0x1000 == pageBase k i / 0x1000 && resettable k (x.1 % 0x1000)) }

/-- BLOCK_RESET of the EVT page: received lines, pins and their lines are released, and a pulse whose frame is not built is dropped
(log entry 55). -/
def State.resetEvt (s : State) : State :=
  let s1 := s.release ownerEvRx allLines
  let s2 := (List.range 32).foldl (fun t n =>
    if pinMode (t.pinCfg n) = 0 then t
    else (t.release (ownerPin n) (resPin n :: allLines)).modPin n fun p =>
      { p with level := if pinMode (t.pinCfg n) = 1 then false else p.level, until_ := 0 }) s1
  { s2 with evt := { s2.evt with gens := [] } }

/-- BLOCK_RESET of the TIME page: diagnostic capture is off (R76), and civil time runs on at rate 0 (R69). -/
def State.resetTime (s : State) : State :=
  let s1 := if bit (s.reg .time 0 R.TIME_DIAG_TS_CTRL) 0 then s.writeDiag (setBit (s.reg .time 0 R.TIME_DIAG_TS_CTRL) 0 false) else s
  s1.rebaseCivil

/-- BLOCK_RESET of the CODEC page: a test that runs is abandoned and its slice released (R43, log entry 55). -/
def State.resetCodec (s : State) : State :=
  let s1 := s.release ownerTest allSlices
  { s1 with test := { s1.test with busy := false } }

/-- BLOCK_RESET of the LZ page releases the slices that no ACCUM zone of the live slate, or of the slate of a committed cut,
names (R213). -/
def State.resetLz (s : State) : State :=
  s.freeSlices (s.live.slices ++ (if s.slate.cut = .committed then s.staged.slices else []))

/-- BLOCK_RESET of the MOVER page: the pending sets are discarded, every channel disabled and its RW and RWS registers reset. -/
def State.resetMover (s : State) : State :=
  let s1 := { s with mover := { s.mover with chans := smMap (fun m : MvCh => { m with pend := none }) s.mover.chans } }
  let s2 := s1.moverOff
  let chans := smMap (fun m : MvCh => { m with ringBase := 0, ringCfg := 4, index := 0, shadow := {}, live := {} }) s2.mover.chans
  { s2 with mover := { s2.mover with chans } }

/-- BLOCK_RESET of the XFER page discards the pending set of SQ_ARB and leaves the windows (R232); the timestamp queues that the
page owns are released (R43). -/
def State.resetXfer (s : State) : State :=
  let s1 := { s with xfer := { s.xfer with arbPend := [] } }
  (List.range 64).foldl (fun t g => if t.ownerOf (resTsq g) = ownerXfer then t.xferEn g false else t) s1

/-- BLOCK_RESET of the GLOBAL page: FEAT_ACCEPTED while it is not locked, and the interrupt routes, are RW (R33, R335). -/
def State.resetGlobal (s : State) : State :=
  { s with featAcc := if s.featLock then s.featAcc else 0, core := { s.core with routes := [] } }

/-- BLOCK_RESET of a port: it is disabled; TIME_CFG in force follows where there is no cycle (R74). -/
def State.resetPort (s : State) (p : Nat) : State :=
  let s1 := s.portEnable p false
  if s.time.hasCycle then s1 else s1.modPort p fun q => { q with timeCfg := 0x80 }

/-- What BLOCK_RESET does to a page beside its registers and its header (table of CTRL, R43). -/
def State.resetBlock (s : State) (k : PageKind) (i : Nat) : State :=
  match k with
  | .global => s.resetGlobal
  | .time => s.resetTime
  | .xfer => s.resetXfer
  | .lz => s.resetLz
  | .codec => s.resetCodec
  | .mover => s.resetMover
  | .evt => s.resetEvt
  | .cnt => s.cntEnable false
  | .trace => s.traceEnable false
  | .fault => s.faultEnable false
  | .mgmt => (s.mgmtEnable false).setPps false
  | .pgrp => s.xferEn i false
  | .port => s.resetPort i
  | _ => s

/-- The header after BLOCK_RESET (table of CTRL): RW fields at reset, no pending set, no error, no cause. -/
def PageHdr.cleared (h : PageHdr) : PageHdr :=
  { h with enable := false, intCause := 0, intEnable := 0, errCode := 0, errInfo := 0, errMore := false, view := false, pending := false }

/-- BLOCK_RESET (table of CTRL, R43, R213, R232, R284, R298, R310). -/
def State.blockReset (s : State) (k : PageKind) (i : Nat) : State :=
  ((s.resetBlock k i).resetRegs k i).modHdr k i PageHdr.cleared

/-! Feature negotiation (R33, R34). -/

/-- FEAT_LOCK is written 1. -/
def State.lockFeatures (s : State) : State :=
  if s.featLock then s
  else match lowest 64 fun b => bit s.featAcc b && !bit featOffered b with
    | some b => s.err .global 0 errFeatOffered b 0
    | none => if bit s.featAcc 0 then { s with featLock := true } else s.err .global 0 errFeatBase 0 0

/-- FEAT_ACCEPTED of the GLOBAL page is written. -/
def State.writeFeatAcc (s : State) (v : Word) : State :=
  if s.featLock then s.err .global 0 errFeatLocked 0 0 else { s with featAcc := v }

/-- The write of CTRL: BLOCK_RESET first, then the other fields as an ordinary write (table of CTRL). -/
def State.writeCtrl (s : State) (k : PageKind) (i : Nat) (v : Word) : State :=
  let s1 := if bit v 1 then s.blockReset k i else s
  let s2 := s1.setEnable k i (bit v 0)
  if k = .global then
    let s3 := if bit v 16 then s2.lockFeatures else s2
    if bit v 17 then s3.deviceReset else s3
  else s2

/-- BLOCK_ENABLE: a write of CTRL with ENABLE at a value and no other field set. -/
def execBlockEnable (page : PageRef) (on : Bool) (s : State) : Host.Outcome State Fault Refusal :=
  .next (s.hdrGuard page.kind page.inst 0x018 fun t => t.setEnable page.kind page.inst on)

/-- BLOCK_RESET: a write of CTRL with BLOCK_RESET 1 and ENABLE at a value. -/
def execBlockReset (page : PageRef) (enable : Bool) (s : State) : Host.Outcome State Fault Refusal :=
  .next (s.hdrGuard page.kind page.inst 0x018 fun t => t.writeCtrl page.kind page.inst (wd (2 + b2n enable)))

/-- FEAT_LOCK: a write of 1 to GLOBAL.CTRL.FEAT_LOCK (R33). -/
def execFeatLock (s : State) : Host.Outcome State Fault Refusal := .next (s.hdrGuard .global 0 0x018 State.lockFeatures)

/-- FEAT_LOCK_ACCEPTED: a lock that has passed its check is accepted: FEAT_OK is set and the blocks leave reset (R33). -/
def execFeatLockAccepted (s : State) : Host.Outcome State Fault Refusal :=
  .next (if s.pwr.held || !s.featLock then s else { s with featOk := true })

/-! Causes (R29, R31). -/

/-- INT_CAUSE is written with `mask`; the causes `raised` on the same edge stay set, of those that the page has. Clearing ERR clears the
error record. -/
def State.clearCause (s : State) (k : PageKind) (i : Nat) (mask raised : BitVec 32) : State :=
  s.modHdr k i fun h =>
    let c := (h.intCause &&& ~~~mask) ||| (raised &&& causeMask k &&& ~~~1)
    if mask.getLsbD 0 then { h with intCause := c, errCode := 0, errInfo := 0, errMore := false } else { h with intCause := c }

/-- A write of INT_CAUSE passes the common checks (R32, R34): it is W1C, so FEAT_OK does not hold it. -/
def State.causeGuard (s : State) (k : PageKind) (i : Nat) (f : State → State) : State :=
  if s.pwr.held then s
  else if s.featOk && hdrFeat k 0x020 ≠ 0 && !s.feat (hdrFeat k 0x020) then s.err k i errFeat (hdrFeat k 0x020) 0x020
  else f s

/-- INT_CAUSE_CLEAR: a write of INT_CAUSE (R29, R31). -/
def execIntCauseClear (page : PageRef) (mask raised : BitVec 32) (s : State) : Host.Outcome State Fault Refusal :=
  .next (s.causeGuard page.kind page.inst fun t => t.clearCause page.kind page.inst mask raised)

/-! Shadow and commit (R36, R37, R232, R287). -/

/-- A committed set awaits its boundary. -/
def State.setPending (s : State) (k : PageKind) (i : Nat) : State :=
  s.modHdr k i fun h => { h with pending := true, commitSeq := h.commitSeq + 1 }

/-- COMMIT of a page (R36): the shadow is captured. -/
def State.commitPage (s : State) (k : PageKind) (i : Nat) : State :=
  match k with
  | .mover => s.moverCommit
  | .xfer => ({ s with xfer := { s.xfer with arbPend := smMap SqSt.arbShadow s.sq } }).setPending .xfer 0
  | _ => s.setPending k i

/-- DISCARD of a page (table of SHADOW_CTRL): the live values become the shadow, and the pending set is dropped. -/
def State.discardPage (s : State) (k : PageKind) (i : Nat) : State :=
  match k with
  | .mover => s.moverDiscard
  | .xfer =>
    ({ s with sq := smMap (fun x : SqSt => { x with arbShadow := x.arb }) s.sq, xfer := { s.xfer with arbPend := [] } }).modHdr
      .xfer 0 fun h => { h with pending := false }
  | _ => s.modHdr k i fun h => { h with pending := false }

/-- The write of SHADOW_CTRL: COMMIT with DISCARD is refused (R37). -/
def State.writeShadowCtrl (s : State) (k : PageKind) (i : Nat) (v : Word) : State :=
  if bit v 0 && bit v 1 then s.err k i errReserved 0 0x038
  else
    let s1 := s.modHdr k i fun h => { h with view := bit v 2 }
    if bit v 0 then s1.commitPage k i else if bit v 1 then s1.discardPage k i else s1

/-- SHADOW_COMMIT: COMMIT of SHADOW_CTRL, VIEW as it is. -/
def execShadowCommit (page : PageRef) (s : State) : Host.Outcome State Fault Refusal :=
  .next (s.hdrGuard page.kind page.inst 0x038 fun t => t.commitPage page.kind page.inst)

/-- SHADOW_DISCARD: DISCARD of SHADOW_CTRL, VIEW as it is. -/
def execShadowDiscard (page : PageRef) (s : State) : Host.Outcome State Fault Refusal :=
  .next (s.hdrGuard page.kind page.inst 0x038 fun t => t.discardPage page.kind page.inst)

/-- The pending set of a page without a boundary of its own becomes live (R36). -/
def State.applyPage (s : State) (k : PageKind) (i : Nat) : State :=
  if (s.hdr k i).pending then
    (s.modHdr k i fun h => { h with pending := false, appliedSeq := h.commitSeq }).cause k i causeCommit
  else s

/-- COMMIT_APPLIED: the boundary of a page comes: of the block mover's channels that stand at one (R287), of the arbiter's round
when it is over (R232), of another page on the edge after the commit (R36). -/
def execCommitApplied (page : PageRef) (s : State) : Host.Outcome State Fault Refusal :=
  match page.kind with
  | .mover => .next s.moverEdge
  | .xfer => .next (if s.roundOver then s.newRound else s)
  | k => .next (s.applyPage k page.inst)

/-! STATUS and snapshots (R40). -/

/-- STATUS.READY: the always-on, management, flash and GLOBAL pages run from reset release, the others from FEAT_OK (R33, R325). -/
def State.ready (s : State) (k : PageKind) : Bool :=
  !s.pwr.held && (s.featOk || k == .global || k == .mgmt || k == .pwr || k == .sec)

/-- ISLAND_OK of the six islands that are no port groups, bit 0 for the hub. -/
def State.islandsOk (s : State) : Nat := ((List.range 6).map fun n => b2n (s.replica (64 + n)).valid * 2 ^ n).sum

/-- STATUS of a page. -/
def State.status (s : State) (k : PageKind) (i : Nat) : Nat :=
  let h := s.hdr k i
  let rep := if k = .global then s.islandsOk == 63 else (s.replica (islandOf k i)).valid
  let own := if k = .global then s.islandsOk * 2 ^ 16 else if k = .fault then b2n s.fault.ready * 2 ^ 16 else 0
  b2n (s.ready k) + b2n s.featOk * 2 + b2n rep * 4 + b2n h.pending * 8 + b2n h.snapValid * 16 + b2n h.errMore * 32 + own

/-- TAKE of SNAP_CTRL: ignored while a snapshot is in progress (R40). -/
def State.takeSnap (s : State) (k : PageKind) (i : Nat) : State := s.modHdr k i fun h => { h with snapBusy := true }

/-- SNAP_TAKE: a write of TAKE. -/
def execSnapTake (page : PageRef) (s : State) : Host.Outcome State Fault Refusal :=
  .next (s.hdrGuard page.kind page.inst 0x040 fun t => t.takeSnap page.kind page.inst)

/-- Fabric time of an island's replica now, in whole ns. -/
def State.islandNs (s : State) (isl : Nat) : Nat := ((s.nowFrac : Int) + (s.replica isl).diff).toNat / 2 ^ 16

/-- The counters of a page, by the page offset of their snapshot copies. -/
def State.snapCounters (s : State) (k : PageKind) (i : Nat) : SMap Word :=
  sortBy Prod.fst ((counterOffs k).map fun po => (po + 0x400, s.reg k i po))

/-- SNAPSHOT_CAPTURE: the capture edge of a snapshot in progress (R40). The captured STATUS and INT_CAUSE are those before the capture:
they show neither the SNAP_VALID nor the SNAP_DONE that the capture itself sets (log entry 70). -/
def execSnapshotCapture (page : PageRef) (s : State) : Host.Outcome State Fault Refusal :=
  let k := page.kind
  let i := page.inst
  let isl := islandOf k i
  if !(s.hdr k i).snapBusy then .next s
  else
    .next ((s.modHdr k i fun h =>
      { h with
        snapBusy := false, snapValid := true, snapSeq := h.snapSeq + 1
        snapStamp := wd (s.islandNs isl)
        snapCycle := wd (s.time.cycle + b2n (!(s.replica isl).valid) * 2 ^ 63)
        snapStatus := BitVec.ofNat 32 (s.status k i), snapCause := h.intCause, snapRegs := s.snapCounters k i }).cause k i causeSnapDone)

/-! Counters (R42). -/

/-- COUNTER_WRITE: a write to a counter with `incs` increments on the same edge (R42). -/
def execCounterWrite (page : PageRef) (off : Nat) (value : Word) (incs : Nat) (s : State) : Host.Outcome State Fault Refusal :=
  match findRow page.kind off with
  | some (r, _) =>
    if r.acc = .ctr then .next (s.guarded page.kind page.inst off .ctr r.feat fun t => t.writeCtr page.kind page.inst off value incs)
    else .next s
  | none => .next s

end Sys2Proof.Machine
end

