-- ==== Sys2Proof/Machine/Jobs.lean ====
section
/-! DEFINITION. Jobs: fetch and its checks, the building of frames, waits and their time-outs, fences (R222, R225 to R230, R247, R248). -/

namespace Sys2Proof.Machine

open Sys2Proof

/-! Entries (R217 and the entry maps). -/

/-- The kind of a KIND code. -/
def kindOf (code : Nat) : JobKind :=
  match code with
  | 0 => .nop
  | 1 => .send
  | 2 => .sendOnEvent
  | 3 => .expect
  | 4 => .accumSend
  | 5 => .fence
  | c => .reserved c

/-- Fewest units of a kind. -/
def minUnits (k : JobKind) : Nat := if k.isSend then 2 else 1

/-- The job that an entry describes, fetched from a queue now. Fields that a kind does not use are 0. -/
def State.jobFrom (s : State) (q : Nat) (b : List Byte) : Job :=
  let x := s.queue q
  let k := kindOf (unitKind b)
  let sd := k.isSend
  let ex := k == .expect
  let f (on : Bool) (o n : Nat) : Nat := if on then leAt b o n else 0
  { id := s.xfer.nextId, queue := q, order := x.order, cq := x.cq, kind := k, tag := leAt b 4 4,
    tsReq := sd && nbit (leAt b 1 1) 0, tagged := nbit (leAt b 1 1) 1,
    src := f sd 8 6, count := f sd 16 4, felems := f sd 20 2, codec := f sd 22 1 / 16, elem := f sd 22 1 % 16,
    cls := f sd 23 1 % 8, handle := f sd 24 3 % 2 ^ 20, key := f sd 28 4,
    op := if k = .accumSend then leAt b 33 1 else 1, line := f sd 34 1 % 64,
    limit := if ex then leAt b 12 4 else f (k == .sendOnEvent) 36 4,
    dst := f sd 40 2, target := f sd 48 6, zone := f ex 8 2 % 4096, mode := f ex 10 1, bytes := f ex 16 6,
    c0 := (s.zone (f ex 8 2 % 4096)).landed, fetchAt := s.time.now }

/-- Frames of a send job: F of R225. -/
def Job.frameCount (j : Job) : Nat := cdiv j.count j.felems

/-! Checks at fetch (R225). -/

/-- Some field of a send job breaks the second row of R225. -/
def Job.badSend (j : Job) : Bool :=
  let n := elemSize j.elem
  j.count == 0 || j.felems == 0 || decide (6 ≤ j.cls) || decide (4 < j.codec) || decide (5 < j.elem)
    || (decide (2 ≤ j.codec) && !(1 ≤ j.elem && decide (j.elem ≤ 3)))
    || decide (30720 < min j.count j.felems * n) || j.target % n != 0 || j.src % n != 0
    || (j.kind == .accumSend && (!(j.op == 2 || j.op == 3) || j.elem == 0))

/-- The features that a send job needs (R225). -/
def Job.needs (j : Job) : List Nat :=
  if j.kind.isSend then
    (if j.kind = .sendOnEvent then [16] else []) ++ (if j.codec = 1 then [8] else []) ++ (if 2 ≤ j.codec then [9] else [])
      ++ (if j.kind = .accumSend then [10] else []) ++ (if j.op = 3 then [11] else []) ++ (if j.tsReq then [17] else [])
  else []

/-- The rows of R225 in order: the status and the counter of the first that fails. -/
def State.fetchCheck (s : State) (j : Job) (units : Nat) : Option (Nat × Nat) :=
  let n := j.count * elemSize j.elem
  let send := j.kind.isSend
  if (match j.kind with | .reserved _ => true | _ => false) || decide (units < minUnits j.kind) then
    some (stBadEntry, R.XFER_ENTRY_BAD_KIND)
  else if send && j.badSend then some (stBadEntry, R.XFER_ENTRY_BAD_FIELD)
  else if send && decide (8192 < maxPayload j.codec j.elem j.felems) then some (stBadEntry, R.XFER_ENTRY_BAD_FIELD)
  else if j.kind == .expect && (decide (1 < j.mode) || !znValid (s.live.word (offZone j.zone))) then
    some (stBadEntry, R.XFER_ENTRY_BAD_FIELD)
  else if !(j.needs.all s.feat) then some (stBadEntry, R.XFER_ENTRY_FEATURE)
  else if send && !s.inMap j.src n then some (stBadAddress, R.XFER_ENTRY_BAD_FIELD)
  else if send && s.live.readBarred j.src n then some (stProtection, R.XFER_ENTRY_BAD_FIELD)
  else none

/-- No job of the queue that was fetched before is unfinished (R229). -/
def State.fenceClear (s : State) (j : Job) : Bool := !(s.xfer.jobs.any fun x => x.queue == j.queue && decide (x.order < j.order))

/-- A job that has passed its checks starts (R225 to R230). -/
def State.beginJob (s : State) (j : Job) : State :=
  match j.kind with
  | .nop => s.finish j stOk
  | .reserved _ => s.finish j stBadEntry
  | .fence => if s.fenceClear j then s.finish j stOk else s
  | .expect => s.expectTest j.zone
  | .sendOnEvent => s
  | _ =>
    let place := s.xfer.nextPlace
    ({ s with xfer := { s.xfer with nextPlace := place + 1 } }).modJob j.id fun x => { x with started := true, place }

/-- A JOB record of a fetch (R302, R306). -/
def State.traceFetch (s : State) (j : Job) : State :=
  s.traceEv 65 0 none none 0x04 (wd (j.queue + j.kind.code * 2 ^ 12 + j.tag * 2 ^ 32)) 0 0

/-- The copy of an entry is complete: its job is in flight from this edge (R222, R225). -/
def State.startJob (s : State) (q : Nat) (b : List Byte) : State :=
  let j := s.jobFrom q b
  let s1 := (s.modQueue q fun x => { x with order := x.order + 1 }).count .xfer 0 R.XFER_ENTRIES_FETCHED
  let s2 := ({ s1 with xfer := { s1.xfer with jobs := s1.xfer.jobs ++ [j], nextId := j.id + 1 } }).traceFetch j
  match s2.fetchCheck j (unitLen b) with
  | some (status, ctr) => (s2.count .xfer 0 ctr).finish j status
  | none => s2.beginJob j

/-! Fetching (R222, R231). -/

/-- A granted queue: an entry of the front buffer is fetched at once; one of the ring is being copied (R222). -/
def State.grant (s : State) (q : Nat) : State :=
  match s.nextEntry q with
  | some (units, _, true) =>
    let b := match (s.queue q).front with
      | some (_, bytes) => bytes
      | none => []
    (s.modQueue q fun x => { x with head := posAdd x.units x.head units, front := none }).startJob q b
  | some (units, kind, false) => s.modQueue q fun x => { x with copying := x.copying ++ [(units, kind == 5)] }
  | none => s

/-- The arbiter grants on the next hub edge: one entry per period (R231). -/
def State.grantEdge (s : State) : State :=
  let t := s.atLeast (s.xfer.grantFree * wHub)
  { t with xfer := { t.xfer with grantFree := hubEdge t.time.now + 1 } }

/-- ENTRY_FETCH: the arbiter grants one entry (R231). -/
def execEntryFetch (s : State) : Host.Outcome State Fault Refusal :=
  match s.arbitrate with
  | (t, some q) => .next (t.grantEdge.grant q).pace
  | (t, none) => .next t

/-- The first unit of an entry of the ring that keeps it from being taken: the stop code and its position (R222). -/
def State.copyBad (s : State) (q : Nat) (ps : List Nat) : Option (Nat × Nat) :=
  let x := s.queue q
  ps.findSome? fun p =>
    if s.readFails (x.unitAddr p) 32 then some (3, p)
    else if unitPhase (s.unitAt q p) != phaseAt p then some (2, p)
    else none

/-- ENTRY_COPIED: the copy of the oldest granted entry of a queue completes (R222, R233). -/
def execEntryCopied (q : Fin 4096) (ecc : EccList) (s : State) : Host.Outcome State Fault Refusal :=
  let x := s.queue q.val
  match x.copying with
  | [] => .next (s.arise ecc)
  | (units, _) :: rest =>
    let ps := (List.range units).map fun i => posAdd x.units x.head i
    let s0 := s.arise ecc
    let s1 := ps.foldl (fun t p => t.eccRead (x.unitAddr p) 32) s0
    match s0.copyBad q.val ps with
    | some (code, p) => .next (s1.stopQueue q.val code p)
    | none =>
      let b := ps.flatMap fun p => s1.unitAt q.val p
      .next ((s1.modQueue q.val fun y => { y with head := posAdd x.units x.head units, copying := rest }).startJob q.val b).pace

/-! Building frames (R226, R230, R247, R248). -/

/-- The job of a queue that builds its next frame: a SEND_ON_EVENT job has its place from its pulse on (R230). -/
def State.builder (s : State) (q : Nat) : Option Job :=
  (sortBy (fun j => j.place * 2 ^ 64 + j.order) (s.xfer.jobs.filter fun j =>
    j.queue == q && j.kind.isSend && (j.started || j.pulsed) && !j.done)).head?

/-- The queue whose turn it is to build a frame: the queues take turns, frame by frame, in the order in which their jobs took their
places (R230). -/
def State.buildTurn (s : State) : Option Nat :=
  ((sortBy (fun x => x.1 * 4096 + x.2) ((smKeys s.sq).filterMap fun q =>
    (s.builder q).map fun j => (max (s.queue q).turn j.place, q))).head?).map Prod.snd

/-- The queue has built a frame, and goes behind the others. -/
def State.turnOver (s : State) (q : Nat) : State :=
  { s.modQueue q fun x => { x with turn := s.xfer.nextPlace } with xfer := { s.xfer with nextPlace := s.xfer.nextPlace + 1 } }

/-- A failure found while a frame is built ends the building (R226). -/
def State.buildFails (s : State) (j : Job) (status : Nat) : State :=
  (s.modJob j.id fun x => { x with done := true, failed := some status }).settle j.id

/-- Reserve an entry of the timestamp queue of PORT0's group for frame 0; whether one was reserved (R247, R248). -/
def State.reserveTs (s : State) (j : Job) (port : Nat) : State × Bool :=
  let g := port / 16
  let lost (t : State) : State × Bool := (t.modJob j.id fun x => { x with tsLost := true }, false)
  if s.ownerOf (resTsq g) ≠ ownerXfer then lost (s.count .pgrp g R.PGRP_TS_LOST_NOT_OWNED)
  else if 512 ≤ (smGet s.groups g {}).used then lost (s.count .pgrp g R.PGRP_TS_LOST_FULL)
  else
    (({ s with groups := smMod s.groups g {} fun x => { x with used := x.used + 1 } }).modJob j.id fun x =>
      { x with tsHeld := true }, true)

/-- Count an encoded frame (the CODEC page's counters). -/
def State.countEnc (s : State) (codec n : Nat) (e : Enc) : State :=
  if codec = 0 then s
  else
    (((s.count .codec 0 R.CODEC_ENC_FRAMES).countN .codec 0
      (if codec = 1 then R.CODEC_ENC_BLOCKS_L else R.CODEC_ENC_BLOCKS_Q) (blocksOf codec n)).countN .codec 0
      R.CODEC_ENC_ESCAPED e.escaped).countN .codec 0 R.CODEC_ENC_CLAMPED e.clamped

/-- Elements, source address and target of frame i of a job (R226). -/
def Job.frameElems (j : Job) (i : Nat) : Nat := min j.felems (j.count - i * j.felems)
def Job.frameSrc (j : Job) (i : Nat) : Nat := j.src + i * j.felems * elemSize j.elem
def Job.frameTarget (j : Job) (i : Nat) : Nat := (j.target + i * j.felems * elemSize j.elem) % 2 ^ 48

/-- Header of frame i of a job (R226); the sequence number and the payload length are filled by the replication. -/
def State.jobHdr (s : State) (j : Job) (i : Nat) : Hdr :=
  { typ := if j.kind = .accumSend then tAccum else tData,
    flags := b2n (i + 1 == j.frameCount) + 2 * b2n (j.tsReq && i == 0), dst := j.dst, src := s.nodeId, handle := j.handle,
    op := j.op, cycle := s.cycField, codec := j.codec, elem := j.elem, count := j.frameElems i, target := j.frameTarget i,
    key := j.key }

/-- A frame whose source has been read and whose stream has an entry is built (R167, R226). -/
def State.placeFrame (s : State) (j : Job) (i : Nat) (ports : List Nat) : State :=
  let n := j.frameElems i
  let e := encode j.codec j.elem (elemsOfMem j.elem (s.readMem (j.frameSrc i) (n * elemSize j.elem)))
  let s1 := s.countEnc j.codec n e
  let p0 := ports.headD 0
  let r := if j.tsReq && i == 0 then s1.reserveTs j p0 else (s1, false)
  let t := r.1.replicate j.handle j.cls (r.1.jobHdr j i).typ j.tagged (r.1.jobHdr j i) e.bytes (fun m => .job j.id i m) false r.2
    none ports
  let f : FrameSt := { bytes := n * elemSize j.elem, reps := ports.map fun p => { port := p, outcome := none } }
  ports.foldl State.arrived (t.modJob j.id fun x => { x with frames := x.frames ++ [f], done := i + 1 == j.frameCount })

/-- A send job builds its next frame, or a failure ends the building (R226). -/
def State.buildFrame (s : State) (j : Job) : State :=
  let i := j.frames.length
  let len := j.frameElems i * elemSize j.elem
  let s1 := s.eccRead (j.frameSrc i) len
  if s.readFails (j.frameSrc i) len then s1.buildFails j stPoisoned
  else match s1.live.genPorts j.handle with
    | none => (s1.count .stream 0 R.STREAM_GEN_NO_ENTRY).buildFails j stNoGen
    | some ports => s1.placeFrame j i ports

/-- FRAME_BUILD: the send job of a queue builds its next frame when it is the queue's turn; before that nothing is built (R226, R230). -/
def execFrameBuild (q : Fin 4096) (ecc : EccList) (s : State) : Host.Outcome State Fault Refusal :=
  let s0 := s.arise ecc
  .next (if s.buildTurn = some q.val then
    match s.builder q.val with
    | some j => ((s0.turnOver q.val).buildFrame j).pace
    | none => s0
  else s0)

/-! Waiting jobs (R227 to R229). -/

/-- SEND_ON_EVENT_START: the jobs of a queue that a pulse has reached start (R227). -/
def execSendOnEventStart (q : Fin 4096) (s : State) : Host.Outcome State Fault Refusal :=
  .next { s with xfer := { s.xfer with jobs := s.xfer.jobs.map fun j =>
    if j.queue = q.val ∧ j.kind = .sendOnEvent ∧ j.pulsed then { j with started := true } else j } }

/-- The jobs of a queue and kind whose limit of cycle starts has passed. -/
def State.expired (s : State) (q : Nat) (k : JobKind) : List Job :=
  s.xfer.jobs.filter fun j => j.queue == q && j.kind == k && !j.pulsed && j.limit != 0 && decide (j.limit ≤ j.waited)

/-- EVENT_TIMEOUT: no pulse has come within EVENT_TIMEOUT cycle starts (R227). -/
def execEventTimeout (q : Fin 4096) (s : State) : Host.Outcome State Fault Refusal :=
  let l := s.expired q.val .sendOnEvent
  .next ((s.countN .xfer 0 R.XFER_EVENT_TIMEOUTS l.length).finishAll (l.map fun j => (j, stEventTimeout)))

/-- EXPECT_TIMEOUT: the zone's count has not been reached within TIMEOUT cycle starts (R228). -/
def execExpectTimeout (q : Fin 4096) (s : State) : Host.Outcome State Fault Refusal :=
  let l := s.expired q.val .expect
  .next ((s.countN .xfer 0 R.XFER_EXPECT_TIMEOUTS l.length).finishAll (l.map fun j => (j, stExpectTimeout)))

/-- FENCE_FINISH: every job fetched before the FENCE of a queue has finished (R229). -/
def execFenceFinish (q : Fin 4096) (s : State) : Host.Outcome State Fault Refusal :=
  let t := s.departs
  match t.xfer.jobs.find? fun j => j.queue == q.val && j.kind == .fence with
  | some j => if t.fenceClear j then .next (t.finish j stOk) else .next t
  | none => .next t

end Sys2Proof.Machine
end

