-- ==== Sys2Proof/Machine/Hub.lean ====
section
/-! DEFINITION. The hub's receive path from stage 6 on, by frame type (R20, R165, R194, R195, R224, R314). -/

namespace Sys2Proof.Machine

open Sys2Proof

/-- An EVENT past stage 6 (R195, R302). -/
def State.hubEvent (s : State) (x : HubFrame) (b : List Byte) : State :=
  let refused := !bit (s.reg .evt 0 R.EVT_EVENT_RX_LINES) (beAt b 0 1 % 64)
  let t := s.eventRx b
  if refused then t.traceHub x 7 none else t

/-- A POST past stage 6 (R224, R302). -/
def State.hubPost (s : State) (x : HubFrame) (h : Hdr) (b : List Byte) : State :=
  let bad := (s.postCheck (beAt b 0 2 % 4096) (beAt b 2 1) h.src h.key (b.drop 8)).isSome
  (s.postIn h.src h.key b).traceHub x (if bad then 7 else 0) none

/-- A frame that has passed stage 6, by its type. -/
def State.afterStage6 (s : State) (x : HubFrame) : State :=
  let h := hdrOf x.frame.body
  let b := payloadOf x.frame.body
  if h.typ = tData ∨ h.typ = tAccum then s.land x
  else if h.typ = tEvent then s.hubEvent x b
  else if h.typ = tFault then s.faultIn (faultOf h b)
  else s.hubPost x h b

/-- The frame that passes stage 6 next: the earliest edge, and on one edge the lowest port (R20). -/
def State.nextHub (s : State) : Option HubFrame := (sortBy (fun x => x.edge * 1024 + x.port) s.hubIn).head?

/-- HUB_RECEIVE: a frame on the path into the hub passes stages 6 to 9. -/
def execHubReceive (ecc : EccList) (s : State) : Host.Outcome State Fault Refusal :=
  match s.nextHub with
  | none => .next (s.arise ecc)
  | some x =>
    let s1 := { s.arise ecc with hubIn := s.hubIn.erase x }.atLeast (x.edge * wHub)
    match s1.stage6 x with
    | (t, true) => .next (t.afterStage6 x).pace
    | (t, false) => .next (t.traceHub x 6 none)

end Sys2Proof.Machine
end

