-- ==== Sys2Proof/Machine/Reads.lean ====
section
/-! DEFINITION. What a read of each register answers: the header, the block registers that are not held as words, the windows and
the slate tables (R26 to R42, R73 to R76, R98 to R100, R119, R120, R146, R160, R180, R198, R201, R214, R234, R250, R251, R270, R288,
R300, R301, R318 to R320, R335 to R337, R348, R349, R368). -/

namespace Sys2Proof.Machine

open Sys2Proof

/-- A word of 64 indexes: bit i of word w is set when index 64w + i passes a test. -/
def mapWord (w : Nat) (p : Nat → Bool) : Word := wd (((List.range 64).map fun i => b2n (p (64 * w + i)) * 2 ^ i).sum)

/-- The number of a register in its array. -/
def regNo (po base stride : Nat) : Nat := (po - base) / stride

/-! The header. -/

/-- Bits of the feature words that each page repeats (R35). -/
def featMask : PageKind → Word
  | .global => 0xFFFFFFFFFFFFFFFF
  | .time => 0x00800001
  | .cycle => 0x00001009
  | .stream => 0x000000C1
  | .xfer => 0x0003E301
  | .lz => 0x00008401
  | .codec => 0x00000F01
  | .mover => 0x00040001
  | .mem => 0x00000001
  | .ddr => 0x00000001
  | .evt => 0x01050001
  | .cnt => 0x00180001
  | .trace => 0x00200001
  | .alarm => 0x00400001
  | .fault => 0x00400001
  | .mgmt => 0x00800001
  | .pwr => 0x00000021
  | .sec => 0x00000001
  | .pgrp => 0x00120007
  | .port => 0x0300103F
  | .mch => 0x00000001

/-- Width in bytes of the header register at a page offset (table of the common page header). -/
def hdrWidth (po : Nat) : Option Nat :=
  if [0x000, 0x004, 0x018, 0x01C, 0x020, 0x024, 0x030, 0x034, 0x038, 0x040, 0x058, 0x05C].contains po then some 4
  else if [0x008, 0x010, 0x048, 0x050].contains po then some 8
  else none

/-- A read of a header register (tables of the header, CTRL, STATUS, SHADOW_CTRL and SNAP_CTRL). -/
def State.readHdr (s : State) (k : PageKind) (i po : Nat) : Word :=
  let h := s.hdr k i
  match po with
  | 0x000 => wd (blockType k * 2 ^ 16 + i)
  | 0x004 => 0x00A10001#64
  | 0x008 => featOffered &&& featMask k
  | 0x010 => s.featAcc &&& featMask k
  | 0x018 => wd (b2n h.enable + (if k = .global then b2n s.featLock * 2 ^ 16 else 0))
  | 0x01C => wd (s.status k i)
  | 0x020 => wd h.intCause.toNat
  | 0x024 => wd h.intEnable.toNat
  | 0x030 => wd h.errCode.toNat
  | 0x034 => wd h.errInfo.toNat
  | 0x038 => wd (b2n h.view * 4 + b2n h.pending * 8 + h.commitSeq.toNat * 2 ^ 8 + h.appliedSeq.toNat * 2 ^ 16)
  | 0x040 => wd (b2n h.snapBusy * 2 + b2n h.snapValid * 4 + h.snapSeq.toNat * 2 ^ 8)
  | 0x048 => h.snapStamp
  | 0x050 => h.snapCycle
  | 0x058 => wd h.snapStatus.toNat
  | 0x05C => wd h.snapCause.toNat
  | _ => 0

/-! Block registers that are not held as words. -/

/-- TIME (R73, R76). -/
def State.readTime (s : State) (po : Nat) : Option Word :=
  let t := s.time
  let g := s.regF .time 0 R.TIME_DIAG_TS_CTRL 25 16 / 16
  if po = R.TIME_NOW_FRAC then some (wd t.fracLatch)
  else if po = R.TIME_NOW_CYCLE then some (wd t.cycLatch)
  else if po = R.TIME_OFFSET then some (psReg t.offset)
  else if po = R.TIME_EST_OFFSET then some (wd (min s.estPs 0xFFFFFFFF))
  else if po = R.TIME_FREQ_EST then some (wd (toField 32 (t.f.tdiv 65536)))
  else if po = R.TIME_SLEW_NOW then some (wd (toField 32 (t.p.tdiv 65536)))
  else if po = R.TIME_PARENT then
    some (wd (t.parent.getD 0 + b2n t.parent.isSome * 2 ^ 15 + t.parentSteps * 2 ^ 16 + b2n t.locked * 2 ^ 24 + b2n t.holdover * 2 ^ 25))
  else if po = R.TIME_TIMEBASE then
    some (match s.node.followed with | some (rank, node) => wd (node + rank * 2 ^ 16 + 2 ^ 31) | none => 0)
  else if po = R.TIME_CIVIL_NS then some (wd t.civNsLatch)
  else if po = R.TIME_CIVIL_CTRL then some (wd (b2n t.civValid * 4))
  else if po = R.TIME_PAIR_FABRIC_NS then some (wd t.pairFabL)
  else if po = R.TIME_PAIR_CIVIL_SEC then some (wd t.pairSecL)
  else if po = R.TIME_PAIR_CIVIL_NS then some (wd t.pairNsL)
  else if po = R.TIME_PAIR_RING_WR then some (wd t.pairWr)
  else if po = R.TIME_DIAG_TS_LEVEL then
    some (wd (if bit (s.reg .time 0 R.TIME_DIAG_TS_CTRL) 0 then (smGet s.groups g {}).diag.length else 0))
  else none

/-- The bank that a read of an RWC register answers from (table of access codes). -/
def State.bankOf (s : State) (k : PageKind) : Bank := if (s.hdr k 0).view then s.live else s.staged

/-- Ticks left on the listen timer, a part of a tick counted as one (R82, log entry 56). -/
def State.listenLeft (s : State) : Nat := if s.node.state = .listen then cdiv (s.node.listenEnd - s.time.now) wTick else 0

/-- CYCLE (R98, R119). -/
def State.readCycle (s : State) (po : Nat) : Option Word :=
  let n := s.node
  let x := s.slate
  if po = R.CYCLE_NODE_STATE then some (wd (n.state.code + b2n n.bellwether * 2 ^ 4 + n.resume * 2 ^ 8))
  else if po = R.CYCLE_LISTEN_LEFT then some (wd s.listenLeft)
  else if po = R.CYCLE_JOIN_INFO then some (wd (n.joinN + n.joinPort * 2 ^ 48))
  else if po = R.CYCLE_STEP_NS then some (wd (toField 64 n.stepNs))
  else if po = R.CYCLE_CYCLE_TICKS then some (wd (s.bankOf .cycle).ticks)
  else if po = R.CYCLE_SLATE_TAG then some (wd (s.bankOf .cycle).tag)
  else if po = R.CYCLE_ACTIVE_SLATE then some (wd (b2n x.liveB))
  else if po = R.CYCLE_CUT_CYCLE then some (wd x.x)
  else if po = R.CYCLE_CUT_STATUS then
    some (wd (x.cut.code + x.check.code * 2 ^ 3 + x.vcode * 2 ^ 8 + x.reason * 2 ^ 16))
  else if po = R.CYCLE_CUT_FAIL_OFFSET then some (wd x.failOff)
  else if po = R.CYCLE_CUT_APPLIED_CYCLE then some (wd x.applied)
  else if po = R.CYCLE_CUT_REFUSED_CYCLE then some (wd x.refusedX)
  else none

/-- STREAM (R180). -/
def State.readStream (s : State) (po : Nat) : Option Word :=
  if R.STREAM_RCVY_STATE ≤ po ∧ po ≤ R.STREAM_RCVY_MEMBER_SEQ then some (nth s.stream.view (regNo po R.STREAM_RCVY_STATE 8) 0)
  else if po = R.STREAM_GEN_STATE then some (wd s.stream.genView)
  else if R.STREAM_V_PASSED ≤ po ∧ po ≤ 0x180 then some (nth s.stream.view (4 + regNo po R.STREAM_V_PASSED 8) 0)
  else if R.STREAM_NULL_ID0 ≤ po ∧ po < 0x800 then some (smGet (s.bankOf .stream).nullId po 0 &&& nullMask po)
  else none

/-- XFER (R234, R251). -/
def State.readXfer (s : State) (po : Nat) : Option Word :=
  if po = R.XFER_INFLIGHT then some (wd s.inFlight)
  else if po = R.XFER_LAST_STOP then some (wd s.xfer.lastStop)
  else if po = R.XFER_HOLD_LEVEL then some (wd s.xfer.held.length)
  else none

/-- EVT (R198, R201). -/
def State.readEvt (s : State) (po : Nat) : Option Word :=
  if R.EVT_LINE_OWNER ≤ po ∧ po < 0x200 then some (wd (s.ownerOf (resLine (regNo po R.EVT_LINE_OWNER 4))))
  else if R.EVT_PIN_OWNER ≤ po ∧ po < 0x280 then some (wd (s.ownerOf (resPin (regNo po R.EVT_PIN_OWNER 4))))
  else if R.EVT_PIN_STAMP ≤ po ∧ po < 0x400 then some (wd (s.pin (regNo po R.EVT_PIN_STAMP 8)).stamp)
  else none

/-- CNT (R300). -/
def State.readCnt (s : State) (po : Nat) : Option Word :=
  if po = R.CNT_SLOT_BYTES then some (wd s.slotBytes)
  else if R.CNT_OTHER_BIN ≤ po ∧ po < 0x600 then some (s.cnt.other.word (regNo po R.CNT_OTHER_BIN 8))
  else if po = R.CNT_OTHER_MIN then some (s.cnt.other.word 64)
  else if po = R.CNT_OTHER_MAX then some (s.cnt.other.word 65)
  else none

/-- ALARM (R319). -/
def State.readAlarm (s : State) (po : Nat) : Option Word :=
  let a := s.alarm
  if R.ALARM_VIEW_KEY ≤ po ∧ po ≤ R.ALARM_VIEW_NOTIFY_NS then some (nth a.view (regNo po R.ALARM_VIEW_KEY 8) 0)
  else if po = R.ALARM_KEYS_IN_USE then some (wd a.keys.length)
  else if R.ALARM_USED_MAP ≤ po ∧ po < 0x180 then
    some (mapWord (regNo po R.ALARM_USED_MAP 8) fun i => (smFind a.keys i).isSome)
  else if R.ALARM_PENDING_MAP ≤ po ∧ po < 0x200 then
    some (mapWord (regNo po R.ALARM_PENDING_MAP 8) fun i => match smFind a.keys i with | some x => x.notified | none => false)
  else none

/-- FAULT (R320). -/
def State.readFault (s : State) (po : Nat) : Option Word :=
  let f := s.fault
  if R.FAULT_VIEW_KEY ≤ po ∧ po ≤ R.FAULT_VIEW_DETAIL then some (nth f.view (regNo po R.FAULT_VIEW_KEY 8) 0)
  else if po = R.FAULT_ENTRIES_IN_USE then some (wd f.entries.length)
  else if R.FAULT_USED_MAP ≤ po ∧ po < 0x300 then
    some (mapWord (regNo po R.FAULT_USED_MAP 8) fun i => (smFind f.entries i).isSome)
  else none

/-- The CODEC page (R198, R270). -/
def State.readTest (s : State) (po : Nat) : Option Word :=
  if R.CODEC_SCRATCH_OWNER ≤ po ∧ po < 0x0C0 then some (wd (s.ownerOf (resSlice (regNo po R.CODEC_SCRATCH_OWNER 4))))
  else if po = R.CODEC_TEST_STATUS then some s.testStatus
  else none

/-- PGRP (R30, R251, R301). -/
def State.readGroup (s : State) (g po : Nat) : Option Word :=
  let h := smGet s.cnt.hists (s.histSel g) {}
  let q := smGet s.groups g {}
  if po = R.PGRP_PORT_INT_SUMMARY then some (s.portSummary g)
  else if po = R.PGRP_TSQ_OWNER then some (wd q.owner)
  else if po = R.PGRP_TSQ_LEVEL then some (wd (q.diag.length + q.used))
  else if po = R.PGRP_HIST_MIN then some (h.word 64)
  else if po = R.PGRP_HIST_MAX then some (h.word 65)
  else if R.PGRP_HIST_BIN ≤ po ∧ po < 0x600 then some (h.word (regNo po R.PGRP_HIST_BIN 8))
  else none

/-- GATE_NOW (R102, R120): in HOLD_OFF class 6 shows open whenever the live entry opens it; without a cycle no entry runs. -/
def State.gateNow (s : State) (p : Nat) : Word :=
  let slate := b2n s.slate.liveB * 2 ^ 24
  if s.time.hasCycle then
    match s.live.entryAt p s.tick with
    | some (i, _, e) => wd (i + ((List.range 8).map fun c => b2n (s.classOpen p c true e) * 2 ^ (16 + c)).sum + slate)
    | none => wd slate
  else wd slate

/-- LINK_STATUS (R121, R128, R132, R134). -/
def LinkSt.status (l : LinkSt) : Word :=
  wd (l.state.code + b2n l.fecLL * 2 ^ 4 + b2n (bitsOf l.cfg 1 0 = 1) * 2 ^ 5 + b2n l.fallback * 2 ^ 6 + l.downReason * 2 ^ 8
    + l.helloFail * 2 ^ 12)

/-- LINK_DELAY: ps, 0 while there is no measurement or the sum is negative (R56, log entry 56). -/
def State.readLinkDelay (s : State) (p : Nat) : Word :=
  let q := s.port p
  let d := if q.meas = [] then 0 else (psOf (s.linkDelay p)).toNat
  wd (min d (2 ^ 31 - 1) + b2n q.delayOk * 2 ^ 31)

/-- PREEMPT_STATUS.VERIFY_STATE (R149). -/
def VerifyState.code : VerifyState → Nat
  | .disabled => 0 | .initial => 1 | .verifying => 2 | .succeeded => 3 | .failed => 4

/-- PREEMPT_STATUS (R160). -/
def State.preStatus (s : State) (p : Nat) : Word :=
  let q := s.port p
  wd (q.verify.code + b2n q.txActive * 2 ^ 3 + b2n (s.rxActive p) * 2 ^ 4 + bitsOf q.link.preCfg 5 4 * 2 ^ 5
    + b2n q.rest.isSome * 2 ^ 7 + b2n q.reasm.isSome * 2 ^ 8)

/-- An entry of the claim table (R96, R99). -/
def claimWord : Option ClaimEnt → Word
  | none => 0
  | some c => wd (c.owner + c.holder * 2 ^ 16 + c.eff % 2 ^ 16 * 2 ^ 32 + (if c.held then 2 else 1) * 2 ^ 48)

/-- PORT (R74, R99, R120, R146, R160). -/
def State.readPort (s : State) (p po : Nat) : Option Word :=
  let q := s.port p
  let l := q.link
  if po = R.PORT_LINK_DELAY then some (s.readLinkDelay p)
  else if po = R.PORT_CLAP_OFFSET then some (psReg q.clapOff)
  else if po = R.PORT_CLAP_SEEN then some (wd q.clapSeen)
  else if po = R.PORT_GATE_NOW then some (s.gateNow p)
  else if po = R.PORT_LINK_STATUS then some l.status
  else if po = R.PORT_LINK_FEAT_OFFER then some l.offer
  else if po = R.PORT_LINK_FEAT_PARTNER then some l.partnerW
  else if po = R.PORT_LINK_FEAT_USED then some l.used
  else if po = R.PORT_PARTNER_ID then
    some (match l.partner with | some (n, pp, _) => wd (n + pp * 2 ^ 16 + 2 ^ 31) | none => 0)
  else if po = R.PORT_PAUSE_STATUS then
    some (wd ((List.range 8).map fun c => b2n (q.paused c s.time.now) * 2 ^ c).sum)
  else if po = R.PORT_ETHERTYPE_IN_USE then some (wd l.etherType)
  else if po = R.PORT_PREEMPT_STATUS then some (s.preStatus p)
  else if R.PORT_CLAIM_TABLE ≤ po ∧ po < 0x600 then some (claimWord (smFind q.claims (regNo po R.PORT_CLAIM_TABLE 8)))
  else none

/-- MGMT (R75, R336). -/
def State.readMgmt (s : State) (po : Nat) : Option Word :=
  if po = R.MGMT_PPS_IN_NS then some (wd s.time.ppsInNs)
  else if po = R.MGMT_PPS_IN_SEQ then some (wd s.time.ppsInSeq)
  else s.readMac po

/-- MOVER (R271, R288). -/
def State.readMover (s : State) (po : Nat) : Option Word :=
  if 0x100 ≤ po ∧ po < 0x180 then some (s.readCh po (s.hdr .mover 0).view)
  else if R.MOVER_HALTED_MAP ≤ po ∧ po < 0x1A0 then some (s.haltedMap (regNo po R.MOVER_HALTED_MAP 8))
  else none

/-- A block register that is not held as a word. -/
def State.readBlock (s : State) (k : PageKind) (i po : Nat) : Option Word :=
  match k with
  | .global => s.readGlobal po
  | .time => s.readTime po
  | .cycle => s.readCycle po
  | .stream => s.readStream po
  | .xfer => s.readXfer po
  | .lz => if po = R.LZ_ZONE_VIEW then some s.lz.view else none
  | .codec => s.readTest po
  | .mover => s.readMover po
  | .ddr => if po = R.DDR_TRAIN_STATUS then some s.ddr.status else none
  | .evt => s.readEvt po
  | .cnt => s.readCnt po
  | .alarm => s.readAlarm po
  | .fault => s.readFault po
  | .mgmt => s.readMgmt po
  | .pwr => s.readPwr po
  | .sec => s.readSec po
  | .pgrp => s.readGroup i po
  | .port => s.readPort i po
  | .mem | .trace | .mch => none

/-- A read of a register of the map: a WO register reads 0, a register of a feature that was not accepted its reset value (R34); a
read of TIME.NOW_NS, CIVIL_SEC or PAIR_CYCLE latches, and one of DIAG_TS_POP removes an entry (R73, R76). -/
def State.readReg (s : State) (k : PageKind) (i po : Nat) (r : RegRow) : State × Word :=
  if r.acc = .wo then (s, 0)
  else if r.feat ≠ 0 ∧ !s.feat r.feat then (s, resetOf k po)
  else if k = .time ∧ po = R.TIME_NOW_NS then s.readNow
  else if k = .time ∧ po = R.TIME_CIVIL_SEC then s.readCivilSec
  else if k = .time ∧ po = R.TIME_PAIR_CYCLE then s.readPairCycle
  else if k = .time ∧ po = R.TIME_DIAG_TS_POP then s.popDiag
  else (s, (s.readBlock k i po).getD (s.reg k i po))

/-! Windows and tables. -/

/-- Width of the register at an offset of an SQ configuration window, and of a CQ configuration window (R234, R250). -/
def sqWidth (off : Nat) : Option Nat :=
  if off = 0 then some 8 else if [0x08, 0x0C, 0x10, 0x14, 0x18, 0x1C, 0x20, 0x24].contains off then some 4 else none
def cqWidth (off : Nat) : Option Nat :=
  if off = 0 then some 8 else if [0x08, 0x0C, 0x10, 0x14, 0x18, 0x1C].contains off then some 4 else none

/-- SQ_STATUS (R234). -/
def State.sqStatus (s : State) (q : Nat) : Word :=
  let x := s.queue q
  wd (b2n x.enabled + b2n x.stopped * 2 + b2n (s.xfer.jobs.any fun j => j.queue == q && j.kind == .fence) * 4
    + b2n (s.blockedRing x.cq) * 8 + b2n x.front.isSome * 16 + x.stopCode * 2 ^ 8 + s.queueInFlight q * 2 ^ 16)

/-- A read of the configuration window of a queue (R232, R234). -/
def State.readSq (s : State) (q off : Nat) : Word :=
  let x := s.queue q
  match off with
  | 0x00 => wd x.base
  | 0x08 => wd (b2n x.enabled + b2n x.remote * 2 + x.log2 * 2 ^ 3 + x.cq * 2 ^ 8)
  | 0x0C => if (s.hdr .xfer 0).view then x.arb else x.arbShadow
  | 0x10 => wd x.poll
  | 0x14 => wd x.producer
  | 0x18 => wd x.key
  | 0x1C => s.sqStatus q
  | 0x20 => wd x.head
  | 0x24 => wd x.tail
  | _ => 0

/-- A read of the configuration window of a ring (R250). -/
def State.readCq (s : State) (c off : Nat) : Word :=
  let r := s.ring c
  match off with
  | 0x00 => wd r.base
  | 0x08 => wd (b2n r.enabled + r.log2 * 2 ^ 3)
  | 0x0C => r.notify
  | 0x10 => wd r.head
  | 0x14 => wd r.tail
  | 0x18 => wd (b2n r.enabled + b2n (r.enabled && r.full) * 2 + b2n (s.blockedRing c) * 4 + (s.heldOf c).length * 2 ^ 16)
  | 0x1C => wd (s.ringJobs c)
  | _ => 0

/-- A read of a word of a slate table (R38, R100); its reserved bits read 0 (R6, log entry 69). -/
def State.readTable (s : State) (off : Nat) : Word :=
  let bankB := decide (0x04800000 ≤ off)
  let o := off - slateBase bankB
  if offMapped o then (if bankB then s.slate.b else s.slate.a).word o &&& tblMask o else 0

end Sys2Proof.Machine
end

