-- ==== Sys2Proof/Machine/Access.lean ====
section
/-! DEFINITION. An access of a core to the register region: decoding, size, and the write or the read that follows (R25 to R28, R31 to
R34, R38, R234, R250). -/

namespace Sys2Proof.Machine

open Sys2Proof

/-! Pages. -/

/-- Width of the register at a page offset: of the header, of the block, or the copy of a counter (R27, R40). -/
def regWidth (k : PageKind) (po : Nat) : Option Nat :=
  match hdrWidth po with
  | some w => some w
  | none =>
    match findRow k po with
    | some (r, _) => some r.width
    | none =>
      match if 0xC00 ≤ po then findRow k (po - 0x400) else none with
      | some (r, _) => if r.acc = .ctr then some 8 else none
      | none => none

/-- An access of a width at a page offset touches a register that does not start there with that width (R27). -/
def touches (k : PageKind) (po width : Nat) : Bool :=
  (List.range (width + 7)).any fun d =>
    match (if 7 ≤ po + d then regWidth k (po + d - 7) else none) with
    | some w => decide (po < po + d - 7 + w)
    | none => false

/-- A write to a header register (tables of the header, CTRL, SHADOW_CTRL, SNAP_CTRL). -/
def State.writeHdr (s : State) (k : PageKind) (i po : Nat) (v : Word) : State :=
  match po with
  | 0x010 => if k = .global then s.hdrGuard k i po fun t => t.writeFeatAcc v else s.roWrite k i po (hdrFeat k po)
  | 0x018 => s.hdrGuard k i po fun t => t.writeCtrl k i v
  | 0x020 => s.causeGuard k i fun t => t.clearCause k i (v.truncate 32 &&& causeMask k) 0
  | 0x024 => s.hdrGuard k i po fun t => t.modHdr k i fun h => { h with intEnable := v.truncate 32 &&& causeMask k }
  | 0x038 => s.hdrGuard k i po fun t => t.writeShadowCtrl k i v
  | 0x040 => s.hdrGuard k i po fun t => if bit v 0 then t.takeSnap k i else t
  | _ => s.roWrite k i po (hdrFeat k po)

/-- A write to a register of the TIME page, once it has passed the common checks. -/
def State.writeTimeReg (s : State) (po : Nat) (v : Word) : State :=
  if po = R.TIME_DIAG_TS_CTRL then s.writeDiag v
  else if po = R.TIME_CIVIL_CTRL then s.writeCivilCtrl v
  else if po = R.TIME_CIVIL_RATE then s.writeCivilRate v
  else s.writeTime po v

/-- A write to a register of the CYCLE page, once it has passed the common checks. -/
def State.writeCycleReg (s : State) (po : Nat) (v : Word) : State :=
  if po = R.CYCLE_NODE_CTRL then s.writeNodeCtrl v
  else if po = R.CYCLE_CUT_CYCLE then s.writeCutCycle (fld v 47 0)
  else if po = R.CYCLE_SLATE_CTRL then s.writeSlateCtrl v
  else if po = R.CYCLE_CYCLE_TICKS ∨ po = R.CYCLE_SLATE_TAG then s.writeRwc .cycle po v
  else s.writeCycle po v

/-- A write to a register of the LZ page, once it has passed the common checks. -/
def State.writeLzReg (s : State) (po : Nat) (v : Word) : State :=
  if po = R.LZ_EDIT_CTRL then s.writeEditCtrl v
  else if po = R.LZ_REJECT_CTRL then s.writeRejectCtrl v
  else if po = R.LZ_ZONE_SEL then s.writeZoneSel v
  else s.setReg .lz 0 po v

/-- A write to a register of the TRACE page, once it has passed the common checks. -/
def State.writeTraceReg (s : State) (po : Nat) (v : Word) : State :=
  if po = R.TRACE_SW_CTRL then s.writeTraceSw v
  else if po = R.TRACE_RING_HEAD then s.writeTraceHead v
  else s.writeTrace po v

/-- A write to a register of the ALARM page, once it has passed the common checks. -/
def State.writeAlarmReg (s : State) (po : Nat) (v : Word) : State :=
  if po = R.ALARM_KEY_SEL then s.writeKeySel v
  else if po = R.ALARM_KEY_CTRL then s.writeKeyCtrl v
  else s.writeAlarm po v

/-- A write to a register of the FAULT page, once it has passed the common checks. -/
def State.writeFaultReg (s : State) (po : Nat) (v : Word) : State :=
  if po = R.FAULT_ENTRY_SEL then s.writeEntrySel v
  else if po = R.FAULT_ENTRY_CTRL then s.writeEntryCtrl v
  else if po = R.FAULT_SW_CTRL then s.writeFaultSw v
  else s.writeFault po v

/-- A write to a register of the MGMT page, once it has passed the common checks. -/
def State.writeMgmtReg (s : State) (po : Nat) (v : Word) : State :=
  if po = R.MGMT_PPS_OUT_CTRL ∨ po = R.MGMT_PPS_OUT_PERIOD then s.writePpsOut po v
  else if po = R.MGMT_PPS_IN_CTRL then s.setReg .mgmt 0 po v
  else s.writeMac po v

/-- A write to a register of a port, once it has passed the common checks. -/
def State.writePortReg (s : State) (p po : Nat) (v : Word) : State :=
  if po = R.PORT_TIME_CFG ∨ po = R.PORT_DELAY_ASYM then s.writePortTime p po v else s.writePortLink p po v

/-- A write to a block register, once it has passed the common checks. -/
def State.writeBlock (s : State) (k : PageKind) (i po : Nat) (v : Word) : State :=
  match k with
  | .global => s.writeGlobal po v
  | .time => s.writeTimeReg po v
  | .cycle => s.writeCycleReg po v
  | .stream => if R.STREAM_NULL_ID0 ≤ po then s.writeRwc .stream po v else s.writeStream po v
  | .lz => s.writeLzReg po v
  | .codec => s.writeTest po v
  | .mover => if po = R.MOVER_CH_SEL then s.writeChSel v else s.writeCh po v
  | .mem => s.setReg .mem 0 po v
  | .ddr => s.writeTrain v
  | .evt => s.writeEvt po v
  | .cnt => s.writeCnt po v
  | .trace => s.writeTraceReg po v
  | .alarm => s.writeAlarmReg po v
  | .fault => s.writeFaultReg po v
  | .mgmt => s.writeMgmtReg po v
  | .pwr => s.writePwr po v
  | .sec => s.writeSec po v
  | .pgrp => if po = R.PGRP_TSQ_CTRL then s.xferEn i (bit v 0) else s.writeHist i po v
  | .port => s.writePortReg i po v
  | .xfer | .mch => s

/-- A write to a register of the map (tables of access codes, R32, R34, R42). -/
def State.writeRow (s : State) (k : PageKind) (i po : Nat) (r : RegRow) (v : Word) : State :=
  match r.acc with
  | .ro => s.roWrite k i po r.feat
  | .ctr => s.regWriteV k i po v fun t w => t.writeCtr k i po w 0
  | _ => s.regWriteV k i po v fun t w => t.writeBlock k i po w

/-- A write of a value to the register at a page offset. -/
def State.writePage (s : State) (k : PageKind) (i po : Nat) (v : Word) : State :=
  if (hdrWidth po).isSome then s.writeHdr k i po v
  else match findRow k po with
    | some (r, _) => s.writeRow k i po r v
    | none => s

/-- A read of the register at a page offset. -/
def State.readPage (s : State) (k : PageKind) (i po : Nat) : State × Word :=
  if (hdrWidth po).isSome then (s, s.readHdr k i po)
  else match findRow k po with
    | some (r, _) => s.readReg k i po r
    | none => (s, smGet (s.hdr k i).snapRegs po 0)

/-! The access. -/

/-- What an access does: the new state, and the value that a read answers. -/
abbrev Answer := State × Word

/-- An access to a page. -/
def State.pageAccess (s : State) (k : PageKind) (i po width : Nat) (data : Option Word) : Answer :=
  if regWidth k po = some width then
    match data with
    | some v => (s.writePage k i po v, 0)
    | none => s.readPage k i po
  else if touches k po width then (s.err k i errSize 0 po, 0)
  else (s, 0)

/-- An access to a doorbell and inline window: a read answers 0, and one of another width or alignment than a store's is refused like
such a store (R27, R219, R220, R234). -/
def State.bellAccess (s : State) (off width : Nat) (data : Option Word) : Answer :=
  let q := (off - 0x01000000) / 0x40
  let o := off % 0x40
  if width = 4 ∧ o = 0 then
    match data with
    | some v => (s.winGuard off false fun t => (t.doorbell q (fld v 31 0)).pace, 0)
    | none => (s, 0)
  else if width = 8 ∧ o % 8 = 0 then
    match data with
    | some v => (s.winGuard off false fun t => (t.inlineStore q (o / 8) v).pace, 0)
    | none => (s, 0)
  else (s.err .xfer 0 errSize 0 off, 0)

/-- An access to the configuration window of a queue (R233, R234). -/
def State.sqAccess (s : State) (off width : Nat) (data : Option Word) : Answer :=
  let q := (off - 0x02000000) / 0x40
  let o := off % 0x40
  if sqWidth o = some width then
    match data with
    | some v => (s.winGuard off (decide (o < 0x1C)) fun t => (t.writeSq q o v).pace, 0)
    | none => (s, s.readSq q o)
  else if o < 0x28 ∨ 0x40 < o + width then (s.err .xfer 0 errSize 0 off, 0)
  else (s, 0)

/-- An access to the configuration window of a ring (R249, R250). -/
def State.cqAccess (s : State) (off width : Nat) (data : Option Word) : Answer :=
  let c := (off - 0x03000000) / 0x40
  let o := off % 0x40
  if cqWidth o = some width then
    match data with
    | some v => (s.winGuard off (decide (o < 0x14)) fun t => t.writeCq c o v, 0)
    | none => (s, s.readCq c o)
  else if o < 0x20 ∨ 0x40 < o + width then (s.err .xfer 0 errSize 0 off, 0)
  else (s, 0)

/-- An access to the slate tables (R27, R38, R39, R100): one to a reserved range is UNMAPPED whatever its width. ERR_INFO holds the region
offset, for ACCESS_SIZE too, since the tables lie in no page (log entry 71). -/
def State.tableAccess (s : State) (off width : Nat) (data : Option Word) : Answer :=
  if !offMapped (off % 0x800000) then (s.err .cycle 0 errUnmapped 0 off, 0)
  else if width ≠ 8 ∨ off % 8 ≠ 0 then (s.err .cycle 0 errSize 0 off, 0)
  else match data with
    | some v => (s.winGuard off true fun t => t.writeTable off v, 0)
    | none => (s, s.readTable off)

/-- An access of a core to the register region (R25 to R27). -/
def State.access (s : State) (off width : Nat) (data : Option Word) : Answer :=
  if 0x01000000 ≤ off ∧ off < 0x01040000 then s.bellAccess off width data
  else if 0x02000000 ≤ off ∧ off < 0x02040000 then s.sqAccess off width data
  else if 0x03000000 ≤ off ∧ off < 0x03010000 then s.cqAccess off width data
  else if 0x04000000 ≤ off ∧ off < 0x05000000 then s.tableAccess off width data
  else match pageAt off with
    | some (⟨k, i⟩, po) => s.pageAccess k i po width data
    | none => (s.err .global 0 errUnmapped 0 off, 0)

/-- A load or a store of a core to the register region (R26 to R28). -/
def State.regAccess (s : State) (a : Access) : State :=
  let r := s.access a.off a.width a.data
  match a.data with
  | some _ => r.1
  | none => r.1.out (.readData a.core r.2)

end Sys2Proof.Machine
end

