-- ==== Sys2Proof/Machine/CoreMem.lean ====
section
/-! DEFINITION. The accesses of the cores to memory and to the register region (R202, R204, R207, R208, R321). -/

namespace Sys2Proof.Machine

open Sys2Proof

/-- The value that an AMO leaves in a word of n bytes (RISC-V A extension; log entry 87). -/
def amoValue (op : AmoOp) (n old v : Nat) : Nat :=
  let m := 2 ^ (8 * n)
  match op with
  | .swap => v % m
  | .add => (old + v) % m
  | .xor => Nat.xor old (v % m)
  | .and => Nat.land old (v % m)
  | .or => Nat.lor old (v % m)
  | .min => if sext (8 * n) old ≤ sext (8 * n) (v % m) then old else v % m
  | .max => if sext (8 * n) old ≤ sext (8 * n) (v % m) then v % m else old
  | .minu => min old (v % m)
  | .maxu => max old (v % m)

/-- The access faults in the core, and has no other effect (R321). -/
def State.coreFault (s : State) (core : Nat) : State := s.out (.accessFault core)

/-- A core reads n bytes: the errors found are taken, and a read that fails faults in the core; else `f` acts on the value read
(R204, R207). -/
def State.coreRead (s : State) (core a n : Nat) (f : State → Nat → State) : State :=
  let t := s.eccRead a n
  if s.readFails a n then t.coreFault core else f t (ofLe (s.readMem a n))

/-- A core ends its reservation. -/
def State.dropResv (s : State) (core : Nat) : State := { s with resv := smErase s.resv core }

/-- An access of a core to staging memory or to LPDDR (table of R321): staging memory takes AMOs but no LR and SC. An AMO is one
indivisible update. -/
def State.coreMem (s : State) (core a n : Nat) (op : MemOp) : State :=
  match op with
  | .load => s.coreRead core a n fun t v => t.out (.readData core (wd v))
  | .store v => s.store a (leBytes n v.toNat)
  | .amo op v =>
    s.coreRead core a n fun t old => (t.store a (leBytes n (amoValue op n old v.toNat))).out (.readData core (wd old))
  | .lr =>
    if memStaging a then s.coreFault core
    else s.coreRead core a n fun t v => { t with resv := smSet t.resv core (a / 8 * 8) }.out (.readData core (wd v))
  | .sc v =>
    if memStaging a then s.coreFault core
    else if smFind s.resv core = some (a / 8 * 8) then
      ((s.store a (leBytes n v.toNat)).dropResv core).out (.readData core 0)
    else (s.dropResv core).out (.readData core 1)

/-- n bytes at an address lie in the register region, or in the boot ROM (R202). -/
def inRegs (a n : Nat) : Bool := 0x00F000000000 ≤ a && a + n ≤ 0x00F000000000 + 2 ^ 28
def inBootRom (a n : Nat) : Bool := bootRom ≤ a && a + n ≤ bootRom + bootRomSize

/-- An access of a core to a device physical address (R202, R321): one that no row of the map holds, or that the table forbids, faults in
the core. -/
def State.coreAccess (s : State) (core a n : Nat) (op : MemOp) : State :=
  if s.inMap a n then s.coreMem core a n op
  else if inRegs a n then
    match op with
    | .load => s.regAccess ⟨core, a - 0x00F000000000, n, none⟩
    | .store v => s.regAccess ⟨core, a - 0x00F000000000, n, some v⟩
    | _ => s.coreFault core
  else if inBootRom a n then
    match op with
    | .load => s.out (.readData core (wd (ofLe ((List.range n).map fun i => Config.bootByte (a - bootRom + i)))))
    | _ => s.coreFault core
  else s.coreFault core

/-- REGISTER_WRITE: an access of a core (R26 to R28, R321). While internal reset is held no core runs. -/
def execRegisterWrite (a : CoreAccess) (s : State) : Host.Outcome State Fault Refusal :=
  .next (if s.pwr.held then s
    else match a with
      | .reg a => s.regAccess a
      | .mem core addr n op => s.coreAccess core addr n op)

end Sys2Proof.Machine
end

