-- ==== Sys2Proof/Machine/Pmbus.lean ====
section
/-! DEFINITION. The PMBus slave (R363, R367). Formats and status bits are the PMBus standard's (log entry 53). -/

namespace Sys2Proof.Machine

open Sys2Proof

/-- One bit of the CRC-8 of PEC: x^8 + x^2 + x + 1 (log entry 53). -/
def crc8Step (c : Nat) : Nat := if 128 ≤ c then (2 * c % 256) ^^^ 7 else 2 * c

/-- PEC of the bytes of a transaction (log entry 53). -/
def pecOf (l : List Nat) : Nat := l.foldl (fun c b => (List.range 8).foldl (fun d _ => crc8Step d) (c ^^^ b)) 0

/-- The bytes that a write sends: address, command code and data. -/
def smbSent (x : Smb) (code : Nat) (data : List Nat) : List Nat := 2 * x.addr.toNat :: code :: data

/-- The slave does not acknowledge. -/
def State.nack (s : State) : State := s.out .pmbusNack

/-- A command reaches the slave: it answers at 0x40 + STRAP_ADDR alone, while VDD_AO is in regulation (R363). -/
def State.pmb (s : State) (x : Smb) (f : State → State) : State :=
  if nbit s.pwr.rails 0 && x.addr.toNat == 0x40 + s.pwr.addr then f s else s

/-- A write reaches the slave: one that ends with a wrong PEC is not acknowledged and sets PEC_FAULT in STATUS_CML (R363, log
entry 53). -/
def State.pmbWrite (s : State) (x : Smb) (code : Nat) (data : List Nat) (f : State → State) : State :=
  s.pmb x fun t =>
    if x.pec.any fun b => b.toNat != pecOf (smbSent x code data) then (t.modPwr fun p => { p with stCml := p.stCml ||| 0x20 }).nack
    else f t

/-- The slave answers a read: bytes, least significant first, and its PEC where the master asks for it. -/
def State.ack (s : State) (x : Smb) (code n v : Nat) : State :=
  let l := leBytes n v
  let pec := BitVec.ofNat 8 (pecOf (smbSent x code ((2 * x.addr.toNat + 1) :: l.map BitVec.toNat)))
  s.out (.pmbus (if x.pec.isSome then l ++ [pec] else l))

/-- The slave accepts a write. -/
def State.accept (s : State) : State := s.out (.pmbus [])

/-- A command of pages 0 to 9 answers for the rail that PAGE selects, else NACK. -/
def State.onRail (s : State) (f : Nat → State) : State := if s.pwr.page < 10 then f s.pwr.page else s.nack

/-- A command of page 0xFF alone. -/
def State.onDevice (s : State) (f : State) : State := if s.pwr.page = 0xFF then f else s.nack

/-! Number formats. -/

/-- num / den to the nearest integer, halves up. -/
def roundDiv (num den : Nat) : Nat := (2 * num + den) / (2 * den)

/-- The mantissa of a magnitude at exponent e - 16. -/
def lin11Mant (num den e : Nat) : Nat := if e < 16 then roundDiv (num * 2 ^ (16 - e)) den else roundDiv num (den * 2 ^ (e - 16))

/-- Linear11: mantissa [10:0] and exponent [15:11], both signed: the smallest exponent whose mantissa fits (log entry 53). -/
def lin11 (neg : Bool) (num den : Nat) : Nat :=
  let e := (lowest 32 fun e => decide (lin11Mant num den e ≤ 1023)).getD 31
  let m : Int := lin11Mant num den e
  toField 11 (if neg then -m else m) + toField 5 ((e : Int) - 16) * 2 ^ 11

/-- Linear16 with exponent -12 of a voltage in mV (R363). -/
def lin16 (mv : Nat) : Nat := roundDiv (mv * 4096) 1000 % 2 ^ 16

/-! Settings. -/

/-- PAGE: 0 to 9 selects a rail, 0xFF VIN and the device (R363). Another value is not acknowledged. -/
def execPage (x : Smb) (value : BitVec 8) (s : State) : Host.Outcome State Fault Refusal :=
  .next (s.pmbWrite x 0x00 [value.toNat] fun t =>
    if value.toNat < 10 ∨ value.toNat = 0xFF then (t.modPwr fun p => { p with page := value.toNat }).accept else t.nack)

/-- OPERATION_OFF: OPERATION 0x00 on page 0xFF turns the endpoint off (R346, R363). -/
def execOperationOff (x : Smb) (s : State) : Host.Outcome State Fault Refusal := .next (s.pmbWrite x 0x01 [0x00] fun t => t.onDevice (t.accept).turnOff)

/-- A sensor reads 95 °C or more (R367). -/
def PwrSt.hot (p : PwrSt) : Bool := p.shut || p.sens.any fun t => decide (1520 ≤ t)

/-- A sensor stands at 125 °C. -/
def PwrSt.overTemp (p : PwrSt) : Bool := p.shut || p.sens.any fun t => decide (2000 ≤ t)

/-- OPERATION_ON: OPERATION 0x80 after thermal shutdown restarts the sequencer from VDD_AO in regulation (R367). -/
def execOperationOn (x : Smb) (s : State) : Host.Outcome State Fault Refusal :=
  .next (s.pmbWrite x 0x01 [0x80] fun t => t.onDevice
    (if t.pwr.seq = .thermal ∧ !t.pwr.hot then (t.modPwr fun p => { p with seq := .crystal }).accept else t.nack))

/-- CLEAR_FAULTS: clears the status bits whose condition has passed (R363). -/
def execClearFaults (x : Smb) (s : State) : Host.Outcome State Fault Refusal :=
  .next (s.pmbWrite x 0x03 [] fun t =>
    (t.modPwr fun p => { p with
      stVout := List.replicate 10 0, stIout := List.replicate 10 0, stCml := 0
      stInput := if p.vinOv then p.stInput else 0
      stTemp := if p.overTemp then p.stTemp else 0 }).accept)

/-! Status. -/

/-- A status byte of the rail that PAGE selects; page 0xFF: of all rails. -/
def PwrSt.pick (p : PwrSt) (l : List Nat) : Nat :=
  if p.page < 10 then nth l p.page 0 else l.foldl (fun a b => a ||| b) 0

/-- The rail that PAGE selects, or for page 0xFF some rail, is off. -/
def PwrSt.isOff (p : PwrSt) : Bool := if p.page < 10 then !nbit p.rails p.page else p.rails != 0x3FF

/-- STATUS_WORD (log entry 53). -/
def PwrSt.statusWord (p : PwrSt) : Nat :=
  b2n (p.stCml != 0) * 2 ^ 1 + b2n (p.stTemp != 0) * 2 ^ 2 + b2n (nbit (p.pick p.stIout) 7) * 2 ^ 4
    + b2n (nbit (p.pick p.stVout) 7) * 2 ^ 5 + b2n p.isOff * 2 ^ 6 + b2n (!p.pgood) * 2 ^ 11 + b2n (p.stInput != 0) * 2 ^ 13
    + b2n (p.pick p.stIout != 0) * 2 ^ 14 + b2n (p.pick p.stVout != 0) * 2 ^ 15

/-- STATUS_WORD (R363). -/
def execStatusWord (x : Smb) (s : State) : Host.Outcome State Fault Refusal := .next (s.pmb x fun t => t.ack x 0x79 2 t.pwr.statusWord)

/-- STATUS_VOUT (R363). -/
def execStatusVout (x : Smb) (s : State) : Host.Outcome State Fault Refusal := .next (s.pmb x fun t => t.ack x 0x7A 1 (t.pwr.pick t.pwr.stVout))

/-- STATUS_IOUT (R363). -/
def execStatusIout (x : Smb) (s : State) : Host.Outcome State Fault Refusal := .next (s.pmb x fun t => t.ack x 0x7B 1 (t.pwr.pick t.pwr.stIout))

/-- STATUS_INPUT (R363). -/
def execStatusInput (x : Smb) (s : State) : Host.Outcome State Fault Refusal := .next (s.pmb x fun t => t.ack x 0x7C 1 t.pwr.stInput)

/-- STATUS_TEMPERATURE (R363). -/
def execStatusTemperature (x : Smb) (s : State) : Host.Outcome State Fault Refusal := .next (s.pmb x fun t => t.ack x 0x7D 1 t.pwr.stTemp)

/-- STATUS_CML (R363). -/
def execStatusCml (x : Smb) (s : State) : Host.Outcome State Fault Refusal := .next (s.pmb x fun t => t.ack x 0x7E 1 t.pwr.stCml)

/-! Telemetry. -/

/-- TELEMETRY_REFRESH: the telemetry of the PMBus is refreshed, and out of reset VIN_MV, IIN and PIN with it (R363, R368). -/
def execTelemetryRefresh (x : Telemetry) (s : State) : Host.Outcome State Fault Refusal :=
  .next (if !nbit s.pwr.rails 0 then s
    else
      let s1 := s.modPwr fun p =>
        { p with vinTlm := x.vinMv, iinTlm := x.iin, pinTlm := x.pin, railTlm := x.rails, tempTlm := nth p.sens (hottest p.sens) 0,
                 vinOv := p.vinOv && decide (5800 < x.vinMv) }
      if s.pwr.held then s1 else s1.modPwr fun p => { p with vinMv := x.vinMv, iin := x.iin, pin := x.pin })

/-- Telemetry of a rail: voltage in mV, current in mA, power in mW. -/
def PwrSt.rail (p : PwrSt) (i : Nat) : Nat × Nat × Nat := nth p.railTlm i (0, 0, 0)

/-- VOUT_MODE: Linear16 with exponent -12 (R363). -/
def execVoutMode (x : Smb) (s : State) : Host.Outcome State Fault Refusal := .next (s.pmb x fun t => t.onRail fun _ => t.ack x 0x20 1 0x14)

/-- READ_VIN in volts (R363). -/
def execReadVin (x : Smb) (s : State) : Host.Outcome State Fault Refusal :=
  .next (s.pmb x fun t => t.onDevice (t.ack x 0x88 2 (lin11 false t.pwr.vinTlm 1000)))

/-- READ_IIN in amperes (R363). -/
def execReadIin (x : Smb) (s : State) : Host.Outcome State Fault Refusal :=
  .next (s.pmb x fun t => t.onDevice (t.ack x 0x89 2 (lin11 false t.pwr.iinTlm 100)))

/-- READ_PIN in watts (R363). -/
def execReadPin (x : Smb) (s : State) : Host.Outcome State Fault Refusal :=
  .next (s.pmb x fun t => t.onDevice (t.ack x 0x97 2 (lin11 false t.pwr.pinTlm 10)))

/-- READ_VOUT in volts, Linear16 (R363). -/
def execReadVout (x : Smb) (s : State) : Host.Outcome State Fault Refusal :=
  .next (s.pmb x fun t => t.onRail fun r => t.ack x 0x8B 2 (lin16 (t.pwr.rail r).1))

/-- READ_IOUT in amperes (R363). -/
def execReadIout (x : Smb) (s : State) : Host.Outcome State Fault Refusal :=
  .next (s.pmb x fun t => t.onRail fun r => t.ack x 0x8C 2 (lin11 false (t.pwr.rail r).2.1 1000))

/-- READ_POUT in watts (R363). -/
def execReadPout (x : Smb) (s : State) : Host.Outcome State Fault Refusal :=
  .next (s.pmb x fun t => t.onRail fun r => t.ack x 0x96 2 (lin11 false (t.pwr.rail r).2.2 1000))

/-- READ_TEMPERATURE_1: the hottest sensor in °C (R363). -/
def execReadTemperature1 (x : Smb) (s : State) : Host.Outcome State Fault Refusal :=
  .next (s.pmb x fun t => t.ack x 0x8D 2 (lin11 (decide (t.pwr.tempTlm < 0)) t.pwr.tempTlm.natAbs 16))

/-- PMBUS_REVISION (R363). -/
def execPmbusRevision (x : Smb) (s : State) : Host.Outcome State Fault Refusal := .next (s.pmb x fun t => t.ack x 0x98 1 0x33)

/-- The commands that the PMBus table lists (R363). -/
def pmbListed : List Nat :=
  [0x00, 0x01, 0x03, 0x20, 0x79, 0x7A, 0x7B, 0x7C, 0x7D, 0x7E, 0x88, 0x89, 0x97, 0x8B, 0x8C, 0x96, 0x8D, 0x98]

/-- PMBUS_UNKNOWN_COMMAND: a command that the table does not list is not acknowledged and sets CML in STATUS_WORD (R363). -/
def execPmbusUnknownCommand (x : Smb) (code : BitVec 8) (s : State) : Host.Outcome State Fault Refusal :=
  .next (s.pmb x fun t =>
    if pmbListed.contains code.toNat then t else (t.modPwr fun p => { p with stCml := p.stCml ||| 0x80 }).nack)

end Sys2Proof.Machine
end

