-- ==== Sys2Proof/Machine/Preempt.lean ====
section
/-! DEFINITION. The preemptable MAC's commands: the verify exchange, fragments received and reassembled (R148 to R150, R158, R159). -/

namespace Sys2Proof.Machine

open Sys2Proof

/-- PREEMPT_INACTIVE: 100 ms after an entry to UP with a PREEMPT_MASK, transmit preemption is not active (R148). -/
def execPreemptInactive (p : Fin 1024) (s : State) : Host.Outcome State Fault Refusal :=
  let l := s.link p
  if l.state = .up ∧ l.preWatch then
    let s1 := (s.runTo (l.upAt + 100 * wMs)).modLink p fun l => { l with preWatch := false }
    if (s1.port p).txActive then .next s1 else .next (s1.raise 0x016 p 0)
  else .next s

/-- VERIFY_RX: a valid verify mPacket is answered, under the sending rule of R54 (R149). -/
def execVerifyRx (p : Fin 1024) (valid : Bool) (s : State) : Host.Outcome State Fault Refusal :=
  if !s.isUp p then .next s
  else if !valid then .next (s.countP p R.PORT_RX_REASM_CRC_ERR)
  else if nbit (s.link p).preCfg 0 && s.node.state != .halted then
    .next (s.sendOwn p (s.linkFrame p 7 0 .respond) (s.nominalDep p))
  else .next s

/-- RESPOND_RX: a valid respond mPacket ends the exchange (R149). -/
def execRespondRx (p : Fin 1024) (valid : Bool) (s : State) : Host.Outcome State Fault Refusal :=
  if !s.isUp p then .next s
  else if !valid then .next (s.countP p R.PORT_RX_REASM_CRC_ERR)
  else if (s.port p).verify = .verifying then
    .next ((s.modPort p fun q => { q with verify := .succeeded }).refreshActive p)
  else .next s

/-- VERIFY_TIMEOUT: VERIFY_TIME after a verify mPacket without a respond mPacket (R149). One that still waits to be sent has not begun
its VERIFY_TIME. -/
def execVerifyTimeout (p : Fin 1024) (s : State) : Host.Outcome State Fault Refusal :=
  let q := s.port p
  if q.verify ≠ .verifying ∨ q.waits (fun o => o == .verify) then .next s
  else
    let s1 := s.runTo (q.verAt + bitsOf q.link.preCfg 15 8 * wMs)
    if q.verTries < 3 then .next (s1.sendVerify p)
    else
      .next ((((s1.modPort p fun q => { q with verify := .failed }).countP p R.PORT_VERIFY_FAILS).cause .port p 21).raise 0x017 p 0)

/-- Discard the partial frame, with its counter; `drop`: later fragments of the frame number are dropped too. -/
def State.reasmDrop (s : State) (p ctr : Nat) (drop : Option Nat) : State :=
  (s.modPort p fun q => { q with reasm := none, dropNo := drop }).countP p ctr

/-- A preemptable frame that has arrived whole (R137, R159). -/
def State.pmacWhole (s : State) (p : Nat) (b : List Byte) (tRx last edge : Nat) : State :=
  let f := parseFrame b
  let s1 := s.countP p R.PORT_RX_PMAC_FRAMES
  if f.etherType = 0x8808 then s1.ctrlIn p f tRx else s1.fromStage5 p (s.isItp p f) f tRx last edge

/-- A start mPacket (R126, R158). -/
def State.startIn (s : State) (p : Nat) (m : Mpacket) : State :=
  let s1 := (s.abortReasm p).modPort p fun q => { q with dropNo := none }
  let f := parseFrame m.data
  let itp := s1.isItp p f
  let a := s1.arrival m.tRx
  if m.final then
    match failed12 m.fecOk m.crcOk (m.data.length + 4) with
    | some (stage, ctr) => (s1.countP p ctr).traceRx p itp f stage a
    | none =>
      match s1.stage3 p itp f m.tRx with
      | some ctr => (s1.drop3 p ctr).traceRx p itp f 3 a
      | none => s1.pmacWhole p m.data m.tRx (s1.lastBit p m.tRx (m.data.length + 4)) m.edge
  else if !m.fecOk then
    ((s1.countP p R.PORT_RX_FEC_DISCARD).traceRx p itp f 1 a).modPort p fun q => { q with dropNo := some m.frameNo }
  else if 9216 < m.data.length then
    ((s1.countP p R.PORT_RX_OVERSIZE).traceRx p itp f 4 a).modPort p fun q => { q with dropNo := some m.frameNo }
  else if m.data.length + 4 < 64 then (s1.countP p R.PORT_RX_REASM_SHORT).traceRx p itp f 4 a
  else if !m.crcOk then (s1.countP p R.PORT_RX_REASM_CRC_ERR).traceRx p itp f 4 a
  else match s1.stage3 p itp f m.tRx with
    | some ctr => ((s1.drop3 p ctr).traceRx p itp f 3 a).modPort p fun q => { q with dropNo := some m.frameNo }
    | none =>
      s1.modPort p fun q =>
        { q with reasm := some { frameNo := m.frameNo, next := 0, data := m.data, tRx := m.tRx, edge := m.edge, idle := 0 } }

/-- A continuation of the partial frame that a port holds (R126, R158). -/
def State.contHeld (s : State) (p : Nat) (r : Reasm) (m : Mpacket) : State :=
  let f := parseFrame r.data
  let bad := fun (t : State) => t.traceRx p (s.isItp p f) f 4 (s.arrival r.tRx)
  let len := r.data.length + m.data.length + (if m.final then 4 else 0)
  if !m.fecOk then
    (s.reasmDrop p R.PORT_RX_FEC_DISCARD (some r.frameNo)).traceRx p (s.isItp p f) f 1 (s.arrival r.tRx)
  else if m.frameNo ≠ r.frameNo ∨ m.fragNo ≠ r.next then bad (s.reasmDrop p R.PORT_RX_REASM_SEQ_ERR (some r.frameNo))
  else if !m.final ∧ m.data.length + 4 < 64 then bad (s.reasmDrop p R.PORT_RX_REASM_SHORT none)
  else if !m.crcOk then bad (s.reasmDrop p R.PORT_RX_REASM_CRC_ERR none)
  else if 9216 < len then bad (s.reasmDrop p R.PORT_RX_OVERSIZE (some r.frameNo))
  else if m.final then
    (s.modPort p fun q => { q with reasm := none }).pmacWhole p (r.data ++ m.data) r.tRx (s.lastBit p m.tRx (m.data.length + 4)) m.edge
  else
    s.modPort p fun q =>
      { q with reasm := some { r with next := (r.next + 1) % 4, data := r.data ++ m.data, idle := 0 } }

/-- A continuation mPacket (R158). One of a frame that has been discarded is dropped and counted nowhere. -/
def State.contIn (s : State) (p : Nat) (m : Mpacket) : State :=
  match (s.port p).reasm with
  | some r => (s.countP p R.PORT_RX_FRAGMENTS).contHeld p r m
  | none =>
    if (s.port p).dropNo = some m.frameNo then s
    else (s.countP p R.PORT_RX_FRAGMENTS).countP p R.PORT_RX_REASM_ORPHAN

/-- FRAGMENT_RX: a preemptable mPacket (R150, R158, R372). -/
def execFragmentRx (p : Fin 1024) (m : Mpacket) (s : State) : Host.Outcome State Fault Refusal :=
  if !s.isUp p then (if s.delineates p ∧ m.start then .next (s.countP p R.PORT_RX_NOT_UP) else .next s)
  else if !s.rxActive p then .next (s.countP p R.PORT_RX_NOT_AGREED)
  else
    let s1 := s.seenAt p m.tRx
    if m.start then .next (s1.startIn p m).pace else .next (s1.contIn p m).pace

/-- REASM_TIMEOUT (R158). -/
def execReasmTimeout (p : Fin 1024) (s : State) : Host.Outcome State Fault Refusal :=
  match (s.port p).reasm with
  | some r => if (s.port p).reasmTo ≤ r.idle then .next (s.abortReasm p) else .next s
  | none => .next s

end Sys2Proof.Machine
end

