-- ==== Sys2Proof/Machine/Dispatch.lean ====
section
/-! DEFINITION. The effect of one command on everything but the queue: one arm per command, each a direct call of its meaning. -/

namespace Sys2Proof.Machine

open Sys2Proof

/-- The meaning of a command. -/
def exec (i : Instr) (s : State) : Host.Outcome State Fault Refusal :=
  match i with
  | .registerWrite a => Sys2Proof.Machine.execRegisterWrite a s
  | .blockEnable page on => Sys2Proof.Machine.execBlockEnable page on s
  | .blockReset page enable => Sys2Proof.Machine.execBlockReset page enable s
  | .featLock => Sys2Proof.Machine.execFeatLock s
  | .featLockAccepted => Sys2Proof.Machine.execFeatLockAccepted s
  | .deviceReset => Sys2Proof.Machine.execDeviceReset s
  | .intCauseClear page mask raised => Sys2Proof.Machine.execIntCauseClear page mask raised s
  | .shadowCommit page => Sys2Proof.Machine.execShadowCommit page s
  | .shadowDiscard page => Sys2Proof.Machine.execShadowDiscard page s
  | .commitApplied page => Sys2Proof.Machine.execCommitApplied page s
  | .snapTake page => Sys2Proof.Machine.execSnapTake page s
  | .snapshotCapture page => Sys2Proof.Machine.execSnapshotCapture page s
  | .counterWrite page off value incs => Sys2Proof.Machine.execCounterWrite page off value incs s
  | .timeDistributionPulse absent missed diffs => Sys2Proof.Machine.execTimeDistributionPulse absent missed diffs s
  | .cycleStart departures => Sys2Proof.Machine.execCycleStart departures s
  | .clapperRx p c tRx => Sys2Proof.Machine.execClapperRx p c tRx s
  | .delayReqTx p t1 => Sys2Proof.Machine.execDelayReqTx p t1 s
  | .delayReqRx p reqId src t2 t3 => Sys2Proof.Machine.execDelayReqRx p reqId src t2 t3 s
  | .delayRespRx p reqId syntonised turnaround t4 => Sys2Proof.Machine.execDelayRespRx p reqId syntonised turnaround t4 s
  | .delayTimeout p => Sys2Proof.Machine.execDelayTimeout p s
  | .civilStep => Sys2Proof.Machine.execCivilStep s
  | .civilInvalidate => Sys2Proof.Machine.execCivilInvalidate s
  | .civilRateWrite rate => Sys2Proof.Machine.execCivilRateWrite rate s
  | .nowNsRead => Sys2Proof.Machine.execNowNsRead s
  | .civilSecRead => Sys2Proof.Machine.execCivilSecRead s
  | .pairCycleRead => Sys2Proof.Machine.execPairCycleRead s
  | .ppsInEdge rising => Sys2Proof.Machine.execPpsInEdge rising s
  | .ppsOutEdge => Sys2Proof.Machine.execPpsOutEdge s
  | .ppsOutWidthEnd => Sys2Proof.Machine.execPpsOutWidthEnd s
  | .diagTsEnable ctrl => Sys2Proof.Machine.execDiagTsEnable ctrl s
  | .diagTsPop => Sys2Proof.Machine.execDiagTsPop s
  | .nodeStart => Sys2Proof.Machine.execNodeStart s
  | .nodeStop => Sys2Proof.Machine.execNodeStop s
  | .adopt => Sys2Proof.Machine.execAdopt s
  | .adoptSwitch => Sys2Proof.Machine.execAdoptSwitch s
  | .clearHalt => Sys2Proof.Machine.execClearHalt s
  | .listenTimerExpiry => Sys2Proof.Machine.execListenTimerExpiry s
  | .candidateCycleZero => Sys2Proof.Machine.execCandidateCycleZero s
  | .joinStep => Sys2Proof.Machine.execJoinStep s
  | .claimTx p owner => Sys2Proof.Machine.execClaimTx p owner s
  | .claimRetry p owner => Sys2Proof.Machine.execClaimRetry p owner s
  | .claimRx p src owner cycle => Sys2Proof.Machine.execClaimRx p src owner cycle s
  | .claimAckRx p owner effective => Sys2Proof.Machine.execClaimAckRx p owner effective s
  | .claimRefusedRx p owner reason => Sys2Proof.Machine.execClaimRefusedRx p owner reason s
  | .claimRefresh p owner => Sys2Proof.Machine.execClaimRefresh p owner s
  | .claimExpired p index => Sys2Proof.Machine.execClaimExpired p index s
  | .gateEntryStart p => Sys2Proof.Machine.execGateEntryStart p s
  | .headLoad p index => Sys2Proof.Machine.execHeadLoad p index s
  | .frameTxStart p tick tDep => Sys2Proof.Machine.execFrameTxStart p tick tDep s
  | .frameReceive r => Sys2Proof.Machine.execFrameReceive r s
  | .hubReceive ecc => Sys2Proof.Machine.execHubReceive ecc s
  | .eventPendingFire => Sys2Proof.Machine.execEventPendingFire s
  | .slateTableWrite off value => Sys2Proof.Machine.execSlateTableWrite off value s
  | .slateCheck => Sys2Proof.Machine.execSlateCheck s
  | .validationEnd => Sys2Proof.Machine.execValidationEnd s
  | .cutArm x => Sys2Proof.Machine.execCutArm x s
  | .cutCancel => Sys2Proof.Machine.execCutCancel s
  | .linkRetrain p => Sys2Proof.Machine.execLinkRetrain p s
  | .linkSleep p => Sys2Proof.Machine.execLinkSleep p s
  | .sleepSquelch p => Sys2Proof.Machine.execSleepSquelch p s
  | .linkWake p => Sys2Proof.Machine.execLinkWake p s
  | .wakeBurstRx p b => Sys2Proof.Machine.execWakeBurstRx p b s
  | .wakeLate p => Sys2Proof.Machine.execWakeLate p s
  | .signalDetect p => Sys2Proof.Machine.execSignalDetect p s
  | .trainingReady p coeffs => Sys2Proof.Machine.execTrainingReady p coeffs s
  | .trainTimeout p => Sys2Proof.Machine.execTrainTimeout p s
  | .wakeTrainTimeout p => Sys2Proof.Machine.execWakeTrainTimeout p s
  | .codewordLock p => Sys2Proof.Machine.execCodewordLock p s
  | .lockTimeout p => Sys2Proof.Machine.execLockTimeout p s
  | .observationWindowEnd p => Sys2Proof.Machine.execObservationWindowEnd p s
  | .helloTx p => Sys2Proof.Machine.execHelloTx p s
  | .helloRx p h => Sys2Proof.Machine.execHelloRx p h s
  | .helloTimeout p => Sys2Proof.Machine.execHelloTimeout p s
  | .llSwitchBoundary p rx => Sys2Proof.Machine.execLlSwitchBoundary p rx s
  | .llSwitchTimeout p => Sys2Proof.Machine.execLlSwitchTimeout p s
  | .squelchEnd p => Sys2Proof.Machine.execSquelchEnd p s
  | .codewordRx p cw signal => Sys2Proof.Machine.execCodewordRx p cw signal s
  | .signalLoss p => Sys2Proof.Machine.execSignalLoss p s
  | .keepaliveTimeout p => Sys2Proof.Machine.execKeepaliveTimeout p s
  | .macControlRx p opcode len => Sys2Proof.Machine.execMacControlRx p opcode len s
  | .pauseRx p f => Sys2Proof.Machine.execPauseRx p f s
  | .pauseEffect p => Sys2Proof.Machine.execPauseEffect p s
  | .pauseExpiry p cls => Sys2Proof.Machine.execPauseExpiry p cls s
  | .preemptInactive p => Sys2Proof.Machine.execPreemptInactive p s
  | .verifyRx p valid => Sys2Proof.Machine.execVerifyRx p valid s
  | .respondRx p valid => Sys2Proof.Machine.execRespondRx p valid s
  | .verifyTimeout p => Sys2Proof.Machine.execVerifyTimeout p s
  | .fragmentRx p m => Sys2Proof.Machine.execFragmentRx p m s
  | .reasmTimeout p => Sys2Proof.Machine.execReasmTimeout p s
  | .rcvyTimeoutReset r => Sys2Proof.Machine.execRcvyTimeoutReset r s
  | .latentTest r => Sys2Proof.Machine.execLatentTest r s
  | .rcvyResetState => Sys2Proof.Machine.execRcvyResetState s
  | .clearCounters => Sys2Proof.Machine.execClearCounters s
  | .setSeq n => Sys2Proof.Machine.execSetSeq n s
  | .rcvySel r => Sys2Proof.Machine.execRcvySel r s
  | .genSel g => Sys2Proof.Machine.execGenSel g s
  | .eventRxLines lines => Sys2Proof.Machine.execEventRxLines lines s
  | .eventGenBuild g => Sys2Proof.Machine.execEventGenBuild g s
  | .pinCfg n value => Sys2Proof.Machine.execPinCfg n value s
  | .evtPinEdge n rising at_ => Sys2Proof.Machine.execEvtPinEdge n rising at_ s
  | .evtPinPulseEnd n => Sys2Proof.Machine.execEvtPinPulseEnd n s
  | .scrub die ecc => Sys2Proof.Machine.execScrub die ecc s
  | .lzEditApply zone => Sys2Proof.Machine.execLzEditApply zone s
  | .rejectClear => Sys2Proof.Machine.execRejectClear s
  | .zoneSel z => Sys2Proof.Machine.execZoneSel z s
  | .doorbell q value => Sys2Proof.Machine.execDoorbell q value s
  | .inlineStore q index value => Sys2Proof.Machine.execInlineStore q index value s
  | .sqPoll q ecc => Sys2Proof.Machine.execSqPoll q ecc s
  | .entryFetch => Sys2Proof.Machine.execEntryFetch s
  | .entryCopied q ecc => Sys2Proof.Machine.execEntryCopied q ecc s
  | .sqEnable q cfg => Sys2Proof.Machine.execSqEnable q cfg s
  | .sqDisable q cfg => Sys2Proof.Machine.execSqDisable q cfg s
  | .frameBuild q ecc => Sys2Proof.Machine.execFrameBuild q ecc s
  | .sendOnEventStart q => Sys2Proof.Machine.execSendOnEventStart q s
  | .eventTimeout q => Sys2Proof.Machine.execEventTimeout q s
  | .expectTimeout q => Sys2Proof.Machine.execExpectTimeout q s
  | .fenceFinish q => Sys2Proof.Machine.execFenceFinish q s
  | .cqHeadWrite c value => Sys2Proof.Machine.execCqHeadWrite c value s
  | .heldEntryWrite c => Sys2Proof.Machine.execHeldEntryWrite c s
  | .cqNotifyDelay c => Sys2Proof.Machine.execCqNotifyDelay c s
  | .cqNotify c value => Sys2Proof.Machine.execCqNotify c value s
  | .cqEnable c cfg => Sys2Proof.Machine.execCqEnable c cfg s
  | .cqDisable c cfg => Sys2Proof.Machine.execCqDisable c cfg s
  | .xferEn g on => Sys2Proof.Machine.execXferEn g on s
  | .codecTestStart => Sys2Proof.Machine.execCodecTestStart s
  | .codecTestDone ecc => Sys2Proof.Machine.execCodecTestDone ecc s
  | .chSel value => Sys2Proof.Machine.execChSel value s
  | .chEnable => Sys2Proof.Machine.execChEnable s
  | .chDisable => Sys2Proof.Machine.execChDisable s
  | .chReset => Sys2Proof.Machine.execChReset s
  | .chKick => Sys2Proof.Machine.execChKick s
  | .chIdlePoll c => Sys2Proof.Machine.execChIdlePoll c s
  | .descriptorHandover c ecc => Sys2Proof.Machine.execDescriptorHandover c ecc s
  | .burstGrant => Sys2Proof.Machine.execBurstGrant s
  | .burstDataReturn ecc linkError => Sys2Proof.Machine.execBurstDataReturn ecc linkError s
  | .writesAnswered c ecc => Sys2Proof.Machine.execWritesAnswered c ecc s
  | .drainDone c => Sys2Proof.Machine.execDrainDone c s
  | .moverShadowCommit => Sys2Proof.Machine.execMoverShadowCommit s
  | .dailiesCapture => Sys2Proof.Machine.execDailiesCapture s
  | .take => Sys2Proof.Machine.execTake s
  | .dumpWritten => Sys2Proof.Machine.execDumpWritten s
  | .dailiesRingHead value => Sys2Proof.Machine.execDailiesRingHead value s
  | .clearSel g => Sys2Proof.Machine.execClearSel g s
  | .clearAll g => Sys2Proof.Machine.execClearAll g s
  | .histOriginWrite g kind value => Sys2Proof.Machine.execHistOriginWrite g kind value s
  | .otherClear => Sys2Proof.Machine.execOtherClear s
  | .coreCounterOverflow h ctr e => Sys2Proof.Machine.execCoreCounterOverflow h ctr e s
  | .reelWrite => Sys2Proof.Machine.execReelWrite s
  | .emit => Sys2Proof.Machine.execEmit s
  | .traceRingHead value => Sys2Proof.Machine.execTraceRingHead value s
  | .traceEnable => Sys2Proof.Machine.execTraceEnable s
  | .alarmApply => Sys2Proof.Machine.execAlarmApply s
  | .keySel value => Sys2Proof.Machine.execKeySel value s
  | .alarmRelease => Sys2Proof.Machine.execAlarmRelease s
  | .faultResolvedSend => Sys2Proof.Machine.execFaultResolvedSend s
  | .faultSwSend => Sys2Proof.Machine.execFaultSwSend s
  | .faultAggregate => Sys2Proof.Machine.execFaultAggregate s
  | .faultStale => Sys2Proof.Machine.execFaultStale s
  | .entrySel value => Sys2Proof.Machine.execEntrySel value s
  | .faultRelease => Sys2Proof.Machine.execFaultRelease s
  | .faultEnable => Sys2Proof.Machine.execFaultEnable s
  | .faultReady => Sys2Proof.Machine.execFaultReady s
  | .hartStart mask => Sys2Proof.Machine.execHartStart mask s
  | .irqRearm value => Sys2Proof.Machine.execIrqRearm value s
  | .irqSignal j => Sys2Proof.Machine.execIrqSignal j s
  | .machineTimerInterrupt h => Sys2Proof.Machine.execMachineTimerInterrupt h s
  | .mgmtTxKick => Sys2Proof.Machine.execMgmtTxKick s
  | .mgmtRxKick => Sys2Proof.Machine.execMgmtRxKick s
  | .mgmtIdlePoll => Sys2Proof.Machine.execMgmtIdlePoll s
  | .mgmtTxDescriptor => Sys2Proof.Machine.execMgmtTxDescriptor s
  | .mgmtRxFrame f => Sys2Proof.Machine.execMgmtRxFrame f s
  | .boot slot0 slot1 => Sys2Proof.Machine.execBoot slot0 slot1 s
  | .programKey k => Sys2Proof.Machine.execProgramKey k s
  | .revoke k => Sys2Proof.Machine.execRevoke k s
  | .setCounter n => Sys2Proof.Machine.execSetCounter n s
  | .setProvisioned => Sys2Proof.Machine.execSetProvisioned s
  | .fuseOpDone => Sys2Proof.Machine.execFuseOpDone s
  | .uvloRise drained low => Sys2Proof.Machine.execUvloRise drained low s
  | .railInRegulation rail osc => Sys2Proof.Machine.execRailInRegulation rail osc s
  | .railTimeout rail => Sys2Proof.Machine.execRailTimeout rail s
  | .resetRelease rise mfg addr => Sys2Proof.Machine.execResetRelease rise mfg addr s
  | .rstNAssert => Sys2Proof.Machine.execRstNAssert s
  | .pllLock => Sys2Proof.Machine.execPllLock s
  | .core0Release => Sys2Proof.Machine.execCore0Release s
  | .uvloFall => Sys2Proof.Machine.execUvloFall s
  | .ddrTrainStart => Sys2Proof.Machine.execDdrTrainStart s
  | .ddrTrainDone passed => Sys2Proof.Machine.execDdrTrainDone passed s
  | .thermalSample temps => Sys2Proof.Machine.execThermalSample temps s
  | .thermalShutdown => Sys2Proof.Machine.execThermalShutdown s
  | .vinOvervoltage mv => Sys2Proof.Machine.execVinOvervoltage mv s
  | .railCurrentLimit rail => Sys2Proof.Machine.execRailCurrentLimit rail s
  | .page x value => Sys2Proof.Machine.execPage x value s
  | .operationOff x => Sys2Proof.Machine.execOperationOff x s
  | .operationOn x => Sys2Proof.Machine.execOperationOn x s
  | .clearFaults x => Sys2Proof.Machine.execClearFaults x s
  | .voutMode x => Sys2Proof.Machine.execVoutMode x s
  | .statusWord x => Sys2Proof.Machine.execStatusWord x s
  | .statusVout x => Sys2Proof.Machine.execStatusVout x s
  | .statusIout x => Sys2Proof.Machine.execStatusIout x s
  | .statusInput x => Sys2Proof.Machine.execStatusInput x s
  | .statusTemperature x => Sys2Proof.Machine.execStatusTemperature x s
  | .statusCml x => Sys2Proof.Machine.execStatusCml x s
  | .readVin x => Sys2Proof.Machine.execReadVin x s
  | .readIin x => Sys2Proof.Machine.execReadIin x s
  | .readPin x => Sys2Proof.Machine.execReadPin x s
  | .readVout x => Sys2Proof.Machine.execReadVout x s
  | .readIout x => Sys2Proof.Machine.execReadIout x s
  | .readPout x => Sys2Proof.Machine.execReadPout x s
  | .readTemperature1 x => Sys2Proof.Machine.execReadTemperature1 x s
  | .pmbusRevision x => Sys2Proof.Machine.execPmbusRevision x s
  | .pmbusUnknownCommand x code => Sys2Proof.Machine.execPmbusUnknownCommand x code s
  | .joinDetectorDrop => Sys2Proof.Machine.execJoinDetectorDrop s
  | .mgmtLinkChange up speed fullDuplex => Sys2Proof.Machine.execMgmtLinkChange up speed fullDuplex s
  | .crystalStable => Sys2Proof.Machine.execCrystalStable s
  | .supervisorTimerInterrupt h => Sys2Proof.Machine.execSupervisorTimerInterrupt h s
  | .telemetryRefresh t => Sys2Proof.Machine.execTelemetryRefresh t s

end Sys2Proof.Machine
end

