-- ==== Sys2Proof/Safety.lean ====
section
/-! DEFINITION. The terms that the statements use: a command that completes, a page that takes a write, what a command leaves alone. -/

namespace Sys2Proof.Machine

open Sys2Proof

/-- The memory is in its canonical form: one list of cells for every content of memory. -/
abbrev State.memSafe (s : State) : Prop := Memory.wf s.mem = true

/-- The command completes in a next state that has P. -/
def Answers (c : Instr) (s : State) (P : State → Prop) : Prop := ∃ t, exec c s = .next t ∧ P t

/-- A register of a page takes a write: internal reset is not held, FEAT_OK is set or the register does not wait for it, and its
feature, if it has one, was accepted (R32, R34, R325). -/
abbrev State.opens (s : State) (k : PageKind) (po feat : Nat) : Prop :=
  s.pwr.held = false ∧ (s.featOk = true ∨ earlyReg k po = true) ∧ (feat = 0 ∨ s.feat feat = true)

/-- The endpoint is out of reset and its features are accepted. -/
abbrev State.running (s : State) : Prop := s.pwr.held = false ∧ s.featOk = true

/-- Number of a page among all pages of the register region. -/
def pageNo (k : PageKind) (i : Nat) : Nat := pageBase k i / 0x1000

/-- Nothing but the header of one page differs. -/
def OnlyHeader (k : PageKind) (i : Nat) (s t : State) : Prop :=
  t = { s with pages := t.pages } ∧ ∀ n, n ≠ pageNo k i → smGet t.pages n {} = smGet s.pages n {}

/-- Nothing but the contents of one register, held as a word, differs. -/
def OnlyReg (k : PageKind) (i po : Nat) (s t : State) : Prop :=
  t = { s with regs := t.regs } ∧ ∀ a, a ≠ pageBase k i + po → smFind t.regs a = smFind s.regs a

/-- Nothing but one port differs. -/
def OnlyPort (p : Nat) (s t : State) : Prop :=
  t = { s with ports := t.ports } ∧ ∀ q, q ≠ p → t.port q = s.port q

/-- The pages that own no resource: their ENABLE only sets the bit, and their BLOCK_RESET has nothing to release. -/
abbrev plainPage (k : PageKind) : Prop :=
  k = .cycle ∨ k = .stream ∨ k = .mem ∨ k = .ddr ∨ k = .alarm ∨ k = .pwr ∨ k = .sec ∨ k = .mch

/-- A region offset outside every row of the block base table, or of a page instance beyond it (R25, R26). -/
abbrev outsideTable (off : Nat) : Prop :=
  (0x12000 ≤ off ∧ off < 0x100000) ∨ (0x140000 ≤ off ∧ off < 0x200000) ∨ (0x600000 ≤ off ∧ off < 0x800000) ∨
  (0x810000 ≤ off ∧ off < 0x1000000) ∨ (0x1040000 ≤ off ∧ off < 0x2000000) ∨ (0x2040000 ≤ off ∧ off < 0x3000000) ∨
  (0x3010000 ≤ off ∧ off < 0x4000000) ∨ 0x5000000 ≤ off

/-- A counter took one increment (R41). -/
abbrev Counted (k : PageKind) (i po : Nat) (s t : State) : Prop :=
  smGet t.regs (pageBase k i + po) 0 = ctrAdd (smGet s.regs (pageBase k i + po) 0) 1

/-- A port has left UP for DETECT with a reason, and what UP held is gone (R132). -/
def WentDown (p reason : Nat) (t : State) : Prop :=
  let q := t.port p
  q.link.state = .detect ∧ q.link.downReason = reason ∧ q.claims = [] ∧ q.mine = [] ∧ q.meas = [] ∧ q.delayOk = false ∧
  q.spans = [] ∧ q.reasm = none

/-- An alarm is pending, with the detail of its latest occurrence (R307). -/
def Alarmed (cls source detail : Nat) (t : State) : Prop :=
  ∃ o ∈ t.alarm.pend, o.cls = cls ∧ o.source = source ∧ o.detail = detail % 2 ^ 32

/-- What a read of a mover's ring finds in 64 sound bytes at an address: a descriptor with OWN set, or nothing to take (R273). -/
def State.offers (s : State) (a : Nat) : Option (Option (List Byte)) :=
  if nbit (leAt (s.readMem a 64) 0 1) 0 then some (some (s.readMem a 64)) else none

/-- Node n's bit in the reporter bitmap of entry e (R315). -/
def State.repBit (s : State) (e n : Nat) : Bool := nbit (s.readByte (s.repAddr e n)).toNat (n % 8)

/-- Word i of a descriptor of the management port in memory, and its OWN bit (R329). -/
def State.mgWord (s : State) (a i : Nat) : Word := wd (leAt (s.readMem a 16) (8 * i) 8)
def State.mgOwned (s : State) (a : Nat) : Bool := bit (s.mgWord a 0) 63

/-- What the PMBus slave answers to a read of some bytes: with their PEC where the master asks for it (log entry 53). -/
def smbReply (x : Smb) (code : Nat) (l : List Byte) : List Byte :=
  if x.pec.isSome then
    l ++ [BitVec.ofNat 8 (pecOf ([2 * x.addr.toNat, code, 2 * x.addr.toNat + 1] ++ l.map BitVec.toNat))]
  else l

/-- The history of a recovery entry, of the length given, marks a sequence number (R171). -/
def RcvySt.marked (e : RcvySt) (len n : Nat) : Prop :=
  (e.rseq + 2 ^ 16 - n) % 2 ^ 16 < len ∧ nbit e.hist ((e.rseq + 2 ^ 16 - n) % 2 ^ 16) = true

/-- Every port but one is as it was. -/
def OtherPorts (p : Nat) (s t : State) : Prop := ∀ q, q ≠ p → t.port q = s.port q

/-- A port put out one frame of this node: its TYPE and its payload. -/
def Sent (p typ : Nat) (payload : List Byte) (s t : State) : Prop :=
  ∃ f h, t.outs = s.outs ++ [.frame p f true] ∧ h.typ = typ ∧ f.body = itpBody f.tag.isSome h payload

/-- No fragment is on a wire, no job ends and no paced channel samples its level by an instant: until then time alone passes. -/
abbrev State.still (s : State) (w : Nat) : Prop :=
  (∀ p, (s.port p).wire = none) ∧ (∀ j ∈ s.xfer.jobs, j.gone (max s.time.now w) = false) ∧
  (∀ x ∈ s.mover.chans, x.2.enabled = false ∨ wKind x.2.live.watch = 0)

/-- A port whose transmit buffer is empty, with the frame put into it. -/
abbrev State.loaded (s : State) (p : Nat) (fr : TxFrame) : State := s.modPort p fun q => { q with txq := [fr] }

/-- A frame that a port is to send finds its lane free and its window open now, and is sent whole at once: the port holds no other frame,
and a node in JOINED or HOLD_OFF stands at the start of a tick of its cycle (R87, R103, R153). -/
abbrev State.startsNow (s : State) (p : Nat) (fr : TxFrame) : Prop :=
  s.still s.time.now ∧ (s.port p).txq = [] ∧ (s.port p).rest = none ∧ (s.port p).laneFree ≤ s.time.now ∧ fr.cls < 8 ∧
  (s.loaded p fr).preemptable p fr.cls = false ∧ (s.loaded p fr).headDrop p fr = none ∧
  (∃ close, (s.loaded p fr).headSays p fr = .go close) ∧
  (if s.inNet then s.nextTick s.time.now = s.time.now ∧ s.time.now < s.tickAt s.ticks else s.time.now < s.ungatedEnd)

/-- The difference from the hub that a pulse measures for an island: 0 where the command names none. -/
def measured (diffs : List (Fin 70 × Int)) (i : Fin 70) : Int := ((diffs.find? fun x => x.1 == i).map Prod.snd).getD 0

/-- The part of e / 2^shift within ±lim (R60, R61). -/
def clamped (e : Int) (shift : Nat) (lim : Int) : Int :=
  if lim * 2 ^ shift < e then lim else if e < -(lim * 2 ^ shift) then -lim else e / 2 ^ shift

/-- The parts of the state, for saying which of them a command touches. -/
inductive Part where
  | queue | frees | feats | memory | pages | regs | time | node | slate | ports | groups | stream | evt | hubIn | sq | cq | xfer | lz
  | core | scratch | cnt | trace | alarm | fault | mover | test | mgmt | sec | ddr | pwr | outs
deriving DecidableEq, Repr

/-- A part of the state is the same in two states. -/
def Part.same (pt : Part) (s t : State) : Prop :=
  match pt with
  | .queue => t.pending = s.pending
  | .frees => t.freeCount = s.freeCount
  | .feats => t.featAcc = s.featAcc ∧ t.featLock = s.featLock ∧ t.featOk = s.featOk ∧ t.instDraw = s.instDraw
  | .memory => t.mem = s.mem ∧ t.poison = s.poison ∧ t.errs = s.errs ∧ t.resv = s.resv ∧ t.scrubs = s.scrubs
  | .pages => t.pages = s.pages
  | .regs => t.regs = s.regs
  | .time => t.time = s.time
  | .node => t.node = s.node
  | .slate => t.slate = s.slate
  | .ports => t.ports = s.ports
  | .groups => t.groups = s.groups
  | .stream => t.stream = s.stream
  | .evt => t.evt = s.evt
  | .hubIn => t.hubIn = s.hubIn
  | .sq => t.sq = s.sq
  | .cq => t.cq = s.cq
  | .xfer => t.xfer = s.xfer
  | .lz => t.lz = s.lz
  | .core => t.core = s.core
  | .scratch => t.scratch = s.scratch
  | .cnt => t.cnt = s.cnt
  | .trace => t.trace = s.trace
  | .alarm => t.alarm = s.alarm
  | .fault => t.fault = s.fault
  | .mover => t.mover = s.mover
  | .test => t.test = s.test
  | .mgmt => t.mgmt = s.mgmt
  | .sec => t.sec = s.sec
  | .ddr => t.ddr = s.ddr
  | .pwr => t.pwr = s.pwr
  | .outs => t.outs = s.outs

/-- Every part of the state. -/
def allParts : List Part :=
  [.queue, .frees, .feats, .memory, .pages, .regs, .time, .node, .slate, .ports, .groups, .stream, .evt, .hubIn, .sq, .cq, .xfer, .lz,
   .core, .scratch, .cnt, .trace, .alarm, .fault, .mover, .test, .mgmt, .sec, .ddr, .pwr, .outs]

/-- The parts that a command may touch: an error or a cause lands in the pages, a count in the registers and the dailies' notes, a shared
resource's owner in the event lines, the port groups or the scratch slices. -/
def mayTouch : Instr → List Part
  | .featLockAccepted => [.feats]
  | .drainDone .. => [.mover]
  | .voutMode .. | .statusWord .. | .statusVout .. | .statusIout .. | .statusInput .. | .statusTemperature .. | .statusCml .. |
    .readVin .. | .readIin .. | .readPin .. | .readVout .. | .readIout .. | .readPout .. | .readTemperature1 .. | .pmbusRevision ..
    => [.outs]
  | .intCauseClear .. | .snapTake .. | .snapshotCapture .. => [.pages]
  | .headLoad .. | .signalDetect .. | .trainingReady .. | .codewordLock .. => [.ports]
  | .uvloRise .. | .crystalStable | .telemetryRefresh .. => [.pwr]
  | .fuseOpDone => [.sec]
  | .ppsInEdge .. | .pauseExpiry .. => [.time]
  | .sendOnEventStart .. => [.xfer]
  | .coreCounterOverflow .. => [.core, .outs]
  | .resetRelease .. => [.core, .pwr]
  | .featLock => [.feats, .pages]
  | .diagTsPop => [.groups, .outs]
  | .pllLock => [.memory, .pwr]
  | .take | .clearSel .. | .clearAll .. | .otherClear => [.pages, .cnt]
  | .irqRearm .. => [.pages, .core]
  | .cqNotify .. | .cqEnable .. | .cqDisable .. => [.pages, .cq]
  | .faultEnable => [.pages, .fault]
  | .rejectClear => [.pages, .lz]
  | .mgmtLinkChange .. => [.pages, .mgmt]
  | .chReset => [.pages, .mover]
  | .chSel .. | .dailiesRingHead .. | .traceRingHead .. => [.pages, .regs]
  | .programKey .. | .revoke .. | .setCounter .. | .setProvisioned => [.pages, .sec]
  | .slateTableWrite .. => [.pages, .slate]
  | .rcvyResetState | .clearCounters | .setSeq .. => [.pages, .stream]
  | .civilStep => [.pages, .time]
  | .railInRegulation .. | .page .. | .operationOn .. | .clearFaults .. | .pmbusUnknownCommand .. => [.pwr, .outs]
  | .joinDetectorDrop => [.time, .node]
  | .nowNsRead | .civilSecRead | .pairCycleRead | .ppsOutEdge | .ppsOutWidthEnd | .machineTimerInterrupt .. |
    .supervisorTimerInterrupt .. => [.time, .outs]
  | .hartStart .. => [.pages, .core, .outs]
  | .keySel .. => [.pages, .regs, .alarm]
  | .counterWrite .. | .macControlRx .. | .histOriginWrite .. => [.pages, .regs, .cnt]
  | .entrySel .. => [.pages, .regs, .fault]
  | .zoneSel .. => [.pages, .regs, .lz]
  | .rcvySel .. | .genSel .. => [.pages, .regs, .stream]
  | .civilRateWrite .. => [.pages, .regs, .time]
  | .civilInvalidate => [.pages, .time, .outs]
  | .evtPinPulseEnd .. => [.time, .evt, .outs]
  | .dailiesCapture | .alarmRelease => [.pages, .regs, .cnt, .alarm]
  | .ddrTrainStart => [.pages, .regs, .cnt, .ddr]
  | .emit => [.pages, .regs, .cnt, .trace]
  | .claimAckRx .. | .claimExpired .. | .wakeBurstRx .. | .pauseRx .. | .respondRx .. => [.pages, .regs, .ports, .cnt]
  | .adopt | .slateCheck | .validationEnd => [.pages, .regs, .slate, .cnt]
  | .rcvyTimeoutReset .. => [.pages, .regs, .stream, .cnt]
  | .moverShadowCommit => [.pages, .groups, .evt, .scratch, .mover]
  | .codecTestStart => [.pages, .groups, .evt, .scratch, .test]
  | .ddrTrainDone .. => [.pages, .regs, .cnt, .alarm, .ddr]
  | .thermalSample .. => [.pages, .regs, .cnt, .alarm, .pwr]
  | .alarmApply => [.pages, .regs, .cnt, .trace, .alarm]
  | .irqSignal .. => [.pages, .regs, .core, .cnt, .outs]
  | .diagTsEnable .. | .eventRxLines .. | .xferEn .. => [.pages, .regs, .groups, .evt, .scratch]
  | .claimRefusedRx .. => [.pages, .regs, .ports, .cnt, .alarm]
  | .linkWake .. => [.pages, .regs, .ports, .cnt, .outs]
  | .reasmTimeout .. => [.pages, .regs, .ports, .cnt, .trace]
  | .cutArm .. | .cutCancel => [.pages, .regs, .slate, .cnt, .trace]
  | .lzEditApply .. => [.pages, .slate, .groups, .evt, .scratch]
  | .dumpWritten => [.frees, .pages, .regs, .memory, .cnt, .alarm]
  | .shadowCommit .. => [.pages, .groups, .evt, .xfer, .scratch, .mover]
  | .pinCfg .. => [.pages, .regs, .groups, .evt, .scratch, .outs]
  | .chKick => [.pages, .regs, .memory, .cnt, .alarm, .mover]
  | .scrub .. => [.pages, .regs, .time, .memory, .cnt, .alarm]
  | .faultAggregate | .faultStale | .faultRelease | .faultReady => [.frees, .pages, .regs, .memory, .cnt, .alarm, .fault]
  | .mgmtTxKick | .mgmtRxKick | .mgmtIdlePoll | .mgmtRxFrame .. => [.frees, .pages, .regs, .memory, .cnt, .alarm, .mgmt]
  | .reelWrite | .traceEnable => [.frees, .pages, .regs, .memory, .cnt, .trace, .alarm]
  | .shadowDiscard .. => [.pages, .groups, .evt, .sq, .xfer, .scratch, .mover]
  | .cqHeadWrite .. => [.pages, .regs, .cq, .core, .cnt, .alarm, .outs]
  | .doorbell .. | .inlineStore .. => [.pages, .regs, .sq, .xfer, .cnt, .alarm, .mover]
  | .cqNotifyDelay .. => [.pages, .regs, .time, .cq, .core, .cnt, .outs]
  | .eventPendingFire | .evtPinEdge .. => [.pages, .regs, .time, .evt, .xfer, .cnt, .outs]
  | .chIdlePoll .. | .burstGrant => [.pages, .regs, .time, .memory, .cnt, .alarm, .mover]
  | .mgmtTxDescriptor => [.frees, .pages, .regs, .memory, .cnt, .alarm, .mgmt, .outs]
  | .listenTimerExpiry => [.pages, .regs, .time, .node, .slate, .cnt, .trace, .alarm]
  | .nodeStart => [.pages, .regs, .time, .node, .slate, .ports, .cnt, .trace]
  | .chDisable => [.frees, .pages, .regs, .groups, .evt, .memory, .scratch, .cnt, .mover]
  | .boot .. => [.frees, .pages, .regs, .memory, .cnt, .alarm, .sec, .pwr, .outs]
  | .chEnable => [.pages, .regs, .groups, .evt, .memory, .scratch, .cnt, .alarm, .mover]
  | .descriptorHandover .. => [.pages, .regs, .groups, .evt, .memory, .scratch, .cnt, .trace, .mover]
  | .sqPoll .. => [.pages, .regs, .time, .memory, .sq, .xfer, .cnt, .alarm, .mover]
  | .codecTestDone .. => [.frees, .pages, .regs, .groups, .evt, .memory, .scratch, .cnt, .alarm, .test]
  | .heldEntryWrite .. => [.frees, .pages, .regs, .memory, .cq, .xfer, .core, .cnt, .alarm, .outs]
  | .commitApplied .. => [.pages, .regs, .time, .groups, .evt, .sq, .xfer, .scratch, .cnt, .mover]
  | .eventTimeout .. | .expectTimeout .. | .fenceFinish .. => [.frees, .pages, .regs, .memory, .cq, .xfer, .core, .cnt, .trace,
    .alarm, .outs]
  | .writesAnswered .. => [.frees, .pages, .regs, .groups, .evt, .memory, .xfer, .scratch, .cnt, .trace, .alarm, .mover, .outs]
  | .entryCopied .. | .sqEnable .. | .sqDisable .. => [.frees, .pages, .regs, .memory, .sq, .cq, .xfer, .core, .cnt, .trace, .alarm,
    .mover, .outs]
  | .claimRx .. => [.frees, .pages, .regs, .ports, .groups, .memory, .cq, .xfer, .core, .cnt, .trace, .alarm, .mover, .outs]
  | .burstDataReturn .. => [.frees, .pages, .regs, .time, .groups, .evt, .memory, .xfer, .scratch, .cnt, .trace, .alarm, .mover,
    .outs]
  | .entryFetch => [.frees, .pages, .regs, .time, .memory, .sq, .cq, .xfer, .core, .cnt, .trace, .alarm, .mover, .outs]
  | .delayReqTx .. | .delayReqRx .. | .delayRespRx .. | .delayTimeout .. | .claimTx .. | .claimRetry .. | .claimRefresh .. |
    .linkSleep .. | .sleepSquelch .. | .wakeTrainTimeout .. | .lockTimeout .. | .observationWindowEnd .. | .helloTimeout .. |
    .llSwitchBoundary .. | .squelchEnd .. | .pauseEffect .. | .preemptInactive .. | .verifyRx .. | .verifyTimeout .. => [.frees,
    .pages, .regs, .time, .ports, .groups, .memory, .cq, .xfer, .core, .cnt, .trace, .alarm, .mover, .outs]
  | .eventGenBuild .. => [.frees, .pages, .regs, .ports, .groups, .stream, .evt, .memory, .cq, .xfer, .core, .cnt, .trace, .alarm,
    .mover, .outs]
  | .linkRetrain .. | .signalLoss .. | .latentTest .. | .faultResolvedSend | .faultSwSend => [.frees, .pages, .regs, .ports,
    .groups, .stream, .memory, .cq, .xfer, .core, .cnt, .trace, .alarm, .fault, .mover, .outs]
  | .frameBuild .. => [.frees, .pages, .regs, .ports, .groups, .stream, .memory, .sq, .cq, .xfer, .core, .cnt, .trace, .alarm,
    .mover, .outs]
  | .gateEntryStart .. => [.frees, .pages, .regs, .time, .ports, .groups, .evt, .memory, .cq, .xfer, .core, .cnt, .trace, .alarm,
    .mover, .outs]
  | .timeDistributionPulse .. | .core0Release => [.frees, .pages, .regs, .time, .ports, .groups, .memory, .cq, .xfer, .core, .cnt,
    .trace, .alarm, .mover, .pwr, .outs]
  | .candidateCycleZero => [.frees, .pages, .regs, .time, .node, .ports, .groups, .stream, .memory, .cq, .xfer, .core, .cnt, .trace,
    .alarm, .mover, .outs]
  | .frameTxStart .. | .wakeLate .. | .trainTimeout .. | .helloTx .. | .helloRx .. | .llSwitchTimeout .. | .codewordRx .. |
    .keepaliveTimeout .. => [.frees, .pages, .regs, .time, .ports, .groups, .stream, .memory, .cq, .xfer, .core, .cnt, .trace,
    .alarm, .fault, .mover, .outs]
  | .joinStep => [.frees, .pages, .regs, .time, .node, .ports, .groups, .stream, .evt, .memory, .cq, .xfer, .core, .cnt, .trace,
    .alarm, .mover, .outs]
  | .blockEnable .. => [.frees, .pages, .regs, .ports, .groups, .stream, .evt, .memory, .cq, .xfer, .core, .scratch, .cnt, .trace,
    .alarm, .fault, .mover, .mgmt, .outs]
  | .adoptSwitch => [.frees, .pages, .regs, .slate, .ports, .groups, .stream, .evt, .memory, .cq, .xfer, .lz, .core, .scratch, .cnt,
    .trace, .alarm, .mover, .outs]
  | .nodeStop | .clearHalt => [.frees, .pages, .regs, .time, .node, .slate, .ports, .groups, .evt, .memory, .cq, .xfer, .core,
    .scratch, .cnt, .trace, .alarm, .mover, .outs]
  | .clapperRx .. => [.frees, .pages, .regs, .time, .node, .slate, .ports, .groups, .stream, .evt, .memory, .cq, .xfer, .core,
    .scratch, .cnt, .trace, .alarm, .fault, .mover, .outs]
  | .hubReceive .. => [.frees, .pages, .regs, .time, .ports, .groups, .stream, .evt, .hubIn, .memory, .sq, .cq, .xfer, .lz, .core,
    .cnt, .trace, .alarm, .fault, .mover, .outs]
  | .frameReceive .. | .fragmentRx .. => [.frees, .pages, .regs, .time, .node, .slate, .ports, .groups, .stream, .evt, .hubIn,
    .memory, .cq, .xfer, .core, .scratch, .cnt, .trace, .alarm, .fault, .mover, .outs]
  | .cycleStart .. => [.frees, .pages, .regs, .time, .node, .slate, .ports, .groups, .stream, .evt, .memory, .cq, .xfer, .lz, .core,
    .scratch, .cnt, .trace, .alarm, .fault, .mover, .outs]
  | .registerWrite .. | .blockReset .. | .deviceReset | .railTimeout .. | .rstNAssert | .uvloFall | .thermalShutdown |
    .vinOvervoltage .. | .railCurrentLimit .. | .operationOff .. => allParts.erase .queue

end Sys2Proof.Machine
end

