-- ==== Sys2Proof/Certificates/Slice0/Obligations.lean ====
section
/-! DEFINITION. The statements about the endpoint that the provers are asked to prove. Each docstring names the rules of the spec that
its statement rests on. -/

open Sys2Proof Sys2Proof.Machine

/-! The machine as a whole. -/

/-- One step runs the command at the front of the queue on the state with the rest of the queue; an empty queue idles (the model's
own frame, log entries 6 and 7). -/
def Obligations.StepRunsTheFrontCommand : Prop :=
  (∀ (c : Instr) (rest : List Instr) (s : State), step { s with pending := c :: rest } = exec c { s with pending := rest }) ∧
  (∀ s : State, s.pending = [] → step s = .next s)

/-- Every command completes in every state: none stops the endpoint, whatever it carries. The spec refuses a command with an error
record and goes on (R32, R44), so no meaning faults or refuses. -/
def Obligations.EveryCommandCompletes : Prop :=
  ∀ (c : Instr) (s : State), ∃ t, exec c s = .next t

/-- No command touches the queue of waiting commands (the model's own frame, log entry 6). -/
def Obligations.CommandsLeaveTheQueue : Prop :=
  ∀ (c : Instr) (s t : State), exec c s = .next t → t.pending = s.pending

/-- Memory keeps its canonical form over every step: addresses strictly rising, no byte listed that reads 0 (the model's own form of
memory, log entry 3). -/
def Obligations.MemoryStaysCanonical : Prop :=
  ∀ s t : State, s.memSafe → step s = .next t → t.memSafe

/-- After reset: memory is canonical, no feature is accepted or locked, no page is enabled and no cause or error is set, no register
has been written, the node is OFF with no cycle, no cut is armed, every port is DISABLED, no queue or ring is enabled, and
RESET_CAUSE reads POWER_ON (R33, R77, R119, R128, R343, R348).
Readings the model chose where the spec leaves one open: log entry 28. -/
def Obligations.ResetLeavesTheEndpointIdle : Prop :=
  State.reset.memSafe ∧ State.reset.pending = [] ∧ State.reset.featAcc = 0 ∧ State.reset.featLock = false ∧
  State.reset.featOk = false ∧
  (∀ k i, (State.reset.hdr k i).enable = false ∧ (State.reset.hdr k i).intCause = 0 ∧ (State.reset.hdr k i).errCode = 0) ∧
  (∀ k i po, State.reset.reg k i po = resetOf k po) ∧
  State.reset.node.state = .off ∧ State.reset.time.hasCycle = false ∧ State.reset.slate.cut = .idle ∧
  State.reset.slate.liveB = false ∧ (∀ p, (State.reset.port p).link.state = .disabled) ∧
  (∀ q, (State.reset.queue q).enabled = false) ∧ (∀ c, (State.reset.ring c).enabled = false) ∧ State.reset.pwr.cause = 1

/-- Once the features are locked and accepted, no command changes them but one that asserts internal reset: FEAT_ACCEPTED is fixed
until device reset (R33, R34). -/
def Obligations.AcceptedFeaturesAreFixed : Prop :=
  ∀ (c : Instr) (s t : State), s.pwr.held = false → s.featLock = true → s.featOk = true → exec c s = .next t →
    t.pwr.held = true ∨ (t.featAcc = s.featAcc ∧ t.featLock = true ∧ t.featOk = true ∧ t.pwr.held = false)

/-! Register pages, features and the coherent state. -/

/-- R33, the lock. A lock written with every accepted bit offered and bit 0 set is taken, and once taken FEAT_OK follows; a lock with
a bit that is not offered records FEAT_NOT_OFFERED with the lowest such bit, one with bit 0 clear FEAT_BASE_MISSING, and neither
takes the lock or touches anything but the header of GLOBAL.
Readings the model chose where the spec leaves one open: log entry 57 (a word with both faults records FEAT_NOT_OFFERED alone). -/
def Obligations.FeatureLockChecksTheAcceptedWord : Prop :=
  (∀ s : State, s.pwr.held = false → s.featLock = false → (∀ b, bit s.featAcc b = true → b < 26) → bit s.featAcc 0 = true →
    exec .featLock s = .next { s with featLock := true }) ∧
  (∀ s : State, s.pwr.held = false → s.featLock = true → exec .featLockAccepted s = .next { s with featOk := true }) ∧
  (∀ (s : State) (b : Nat), s.pwr.held = false → s.featLock = false → bit s.featAcc b = true → 26 ≤ b →
    (∀ a, a < b → bit s.featAcc a = true → a < 26) →
    exec .featLock s = .next (s.err .global 0 0x0003 b 0)) ∧
  (∀ s : State, s.pwr.held = false → s.featLock = false → (∀ b, bit s.featAcc b = true → b < 26) → bit s.featAcc 0 = false →
    exec .featLock s = .next (s.err .global 0 0x0004 0 0)) ∧
  (∀ (s : State) (code detail info : Nat), (s.err .global 0 code detail info).featLock = s.featLock ∧
    OnlyHeader .global 0 s (s.err .global 0 code detail info))

/-- R31, whole: ERR_CODE and ERR_INFO hold the first error after INT_CAUSE.ERR was last cleared; a later one does not replace them and sets
ERR_MORE; clearing INT_CAUSE.ERR clears ERR_CODE, ERR_INFO and ERR_MORE at once, and an error raised right after is the new first error.
Beside it the clearing of R29: a page's INT_CAUSE bits clear where a 1 is written and keep where a 0 is written, and a cause of the page
raised on the same edge stays set. The write takes effect on a page whose feature was accepted, and before FEAT_OK on every page.
Readings the model chose where the spec leaves one open: log entry 58 (an error of the edge of the clear is the first error after it). -/
def Obligations.CausesAndErrorsHoldUntilCleared : Prop :=
  (∀ (s : State) (k : PageKind) (i code detail info : Nat), code < 2 ^ 16 → detail < 2 ^ 16 → info < 2 ^ 32 →
    let h := (s.err k i code detail info).hdr k i
    h.intCause.getLsbD 0 = true ∧
    ((s.hdr k i).errCode = 0 → h.errCode.toNat = code + detail * 2 ^ 16 ∧ h.errInfo.toNat = info ∧ h.errMore = (s.hdr k i).errMore) ∧
    ((s.hdr k i).errCode ≠ 0 → h.errCode = (s.hdr k i).errCode ∧ h.errInfo = (s.hdr k i).errInfo ∧ h.errMore = true)) ∧
  (∀ (s : State) (k : PageKind) (i : Nat) (mask raised : BitVec 32), s.pwr.held = false →
    (hdrFeat k 0x020 = 0 ∨ s.featOk = false ∨ s.feat (hdrFeat k 0x020) = true) → mask.getLsbD 0 = true →
    Answers (.intCauseClear ⟨k, i⟩ mask raised) s fun t =>
      (t.hdr k i).errCode = 0 ∧ (t.hdr k i).errInfo = 0 ∧ (t.hdr k i).errMore = false ∧ OnlyHeader k i s t ∧
      ∀ code detail info, code < 2 ^ 16 → detail < 2 ^ 16 → info < 2 ^ 32 →
        ((t.err k i code detail info).hdr k i).errCode.toNat = code + detail * 2 ^ 16 ∧
        ((t.err k i code detail info).hdr k i).errInfo.toNat = info ∧ ((t.err k i code detail info).hdr k i).errMore = false) ∧
  (∀ (s : State) (k : PageKind) (i : Nat) (mask raised : BitVec 32), s.pwr.held = false →
    (hdrFeat k 0x020 = 0 ∨ s.featOk = false ∨ s.feat (hdrFeat k 0x020) = true) →
    Answers (.intCauseClear ⟨k, i⟩ mask raised) s fun t =>
      (∀ b, 0 < b → b < 32 → (t.hdr k i).intCause.getLsbD b =
        (((s.hdr k i).intCause.getLsbD b && !mask.getLsbD b) || (raised.getLsbD b && (causeMask k).getLsbD b))) ∧
      (t.hdr k i).intCause.getLsbD 0 = ((s.hdr k i).intCause.getLsbD 0 && !mask.getLsbD 0) ∧
      (t.hdr k i).intEnable = (s.hdr k i).intEnable ∧ OnlyHeader k i s t)

/-- CTRL.ENABLE of a page that owns nothing is set and cleared by BLOCK_ENABLE, and nothing else differs; BLOCK_RESET returns every RW and RWS
register of the page to its reset value, clears ERR_CODE, ERR_INFO, INT_CAUSE and INT_ENABLE, drops a pending set, leaves every counter
and every other page's registers, and then sets ENABLE to the bit written (table of CTRL). -/
def Obligations.EnableAndBlockReset : Prop :=
  (∀ (s : State) (k : PageKind) (i : Nat) (on : Bool), plainPage k → s.opens k 0x018 0 →
    Answers (.blockEnable ⟨k, i⟩ on) s fun t => (t.hdr k i) = { s.hdr k i with enable := on } ∧ OnlyHeader k i s t) ∧
  (∀ (s : State) (k : PageKind) (i : Nat) (on : Bool), plainPage k → i < instances k → s.opens k 0x018 0 →
    Answers (.blockReset ⟨k, i⟩ on) s fun t =>
      (t.hdr k i).enable = on ∧ (t.hdr k i).errCode = 0 ∧ (t.hdr k i).errInfo = 0 ∧ (t.hdr k i).errMore = false ∧
      (t.hdr k i).intCause = 0 ∧ (t.hdr k i).intEnable = 0 ∧ (t.hdr k i).pending = false ∧
      (∀ po, po < 0x1000 → resettable k po = true → t.reg k i po = resetOf k po) ∧
      (∀ po, po < 0x1000 → resettable k po = false → t.reg k i po = s.reg k i po) ∧
      (∀ k' j po, pageNo k' j ≠ pageNo k i → po < 0x1000 → t.reg k' j po = s.reg k' j po) ∧
      t = { s with pages := t.pages, regs := t.regs })

/-- R36, for a page whose chapter names no boundary of its own: COMMIT sets PENDING and advances COMMIT_SEQ modulo 256; the boundary
clears PENDING, sets APPLIED_SEQ to COMMIT_SEQ and raises COMMIT_APPLIED; DISCARD drops the pending set. -/
def Obligations.CommitTakesEffectAtTheBoundary : Prop :=
  ∀ (s : State) (k : PageKind) (i : Nat), k ≠ .mover → k ≠ .xfer →
    (s.opens k 0x038 (hdrFeat k 0x038) → Answers (.shadowCommit ⟨k, i⟩) s fun t =>
      (t.hdr k i) = { s.hdr k i with pending := true, commitSeq := (s.hdr k i).commitSeq + 1 } ∧ OnlyHeader k i s t) ∧
    (s.opens k 0x038 (hdrFeat k 0x038) → Answers (.shadowDiscard ⟨k, i⟩) s fun t =>
      (t.hdr k i) = { s.hdr k i with pending := false } ∧ OnlyHeader k i s t) ∧
    ((s.hdr k i).pending = true → Answers (.commitApplied ⟨k, i⟩) s fun t =>
      (t.hdr k i).pending = false ∧ (t.hdr k i).appliedSeq = (s.hdr k i).commitSeq ∧
      (t.hdr k i).intCause = (s.hdr k i).intCause ||| 8#32 ∧ OnlyHeader k i s t)

/-- R40: TAKE starts a snapshot; its capture edge captures INT_CAUSE, STATUS, the island's fabric time in whole ns, the cycle number
with bit 63 for an invalid replica, and every counter of the page at its offset plus 0x400; BUSY clears, SNAP_SEQ advances modulo 256
and SNAP_DONE is set. A TAKE while BUSY changes nothing.
Readings the model chose where the spec leaves one open: log entry 70 (the captured words stand as they were before the capture). -/
def Obligations.SnapshotCapturesOneEdge : Prop :=
  (∀ (s : State) (k : PageKind) (i : Nat), s.opens k 0x040 (hdrFeat k 0x040) →
    Answers (.snapTake ⟨k, i⟩) s fun t => (t.hdr k i) = { s.hdr k i with snapBusy := true } ∧ OnlyHeader k i s t) ∧
  (∀ (s : State) (k : PageKind) (i : Nat), (s.hdr k i).snapBusy = true → s.time.cycle < 2 ^ 48 →
    Answers (.snapshotCapture ⟨k, i⟩) s fun t =>
      let h := t.hdr k i
      h.snapBusy = false ∧ h.snapValid = true ∧ h.snapSeq = (s.hdr k i).snapSeq + 1 ∧ h.snapCause = (s.hdr k i).intCause ∧
      h.snapStamp = wd (s.islandNs (islandOf k i)) ∧ fld h.snapCycle 47 0 = s.time.cycle ∧
      bit h.snapCycle 63 = !(s.replica (islandOf k i)).valid ∧ h.snapStatus = BitVec.ofNat 32 (s.status k i) ∧
      (∀ po, po ∈ counterOffs k → smGet h.snapRegs (po + 0x400) 0 = s.reg k i po) ∧
      h.intCause = (s.hdr k i).intCause ||| 4#32 ∧ OnlyHeader k i s t)

/-- R42, and of R41 the increment: it adds one to the count modulo 2^48; one that carries it from 0xFFFFFFFFFFFF to 0 sets OVF and COUNTER_OVF, and
OVF once set stays set. A write to a counter sets the count to the written bits [47:0] plus the increments of its edge, modulo 2^48, and
OVF to the written bit 63, ORed with 1 if that addition wrapped; bits [62:48] read 0. -/
def Obligations.CountersWrapAndTakeWrites : Prop :=
  (∀ (s : State) (k : PageKind) (i po : Nat), let w := smGet s.regs (pageBase k i + po) 0
    let u := smGet (s.count k i po).regs (pageBase k i + po) 0
    fld u 47 0 = (fld w 47 0 + 1) % 2 ^ 48 ∧ fld u 62 48 = 0 ∧
    bit u 63 = (bit w 63 || decide (fld w 47 0 = 0xFFFFFFFFFFFF)) ∧
    (fld w 47 0 = 0xFFFFFFFFFFFF → ((s.count k i po).hdr k i).intCause = (s.hdr k i).intCause ||| 32#32) ∧
    (fld w 47 0 ≠ 0xFFFFFFFFFFFF → (s.count k i po).pages = s.pages)) ∧
  (∀ (s : State) (k : PageKind) (i po n : Nat) (v : Word) (r : RegRow) (j : Nat),
    findRow k po = some (r, j) → r.acc = .ctr → s.opens k po r.feat →
    Answers (.counterWrite ⟨k, i⟩ po v n) s fun t =>
      fld (t.reg k i po) 47 0 = (fld v 47 0 + n) % 2 ^ 48 ∧
      bit (t.reg k i po) 63 = (bit v 63 || decide (2 ^ 48 ≤ fld v 47 0 + n)) ∧ fld (t.reg k i po) 62 48 = 0 ∧
      (∀ a, a ≠ pageBase k i + po → smFind t.regs a = smFind s.regs a) ∧ t = { s with regs := t.regs, pages := t.pages, cnt := t.cnt })

/-- R26, R27 and R32: a read of the register region at PAGE_ID answers the block type and the instance of the page that the block base table
puts there; an access outside the table reads 0, writes nothing and records UNMAPPED with its region offset in GLOBAL; an access of
the wrong width reads 0, writes nothing and records ACCESS_SIZE with the page offset in the page. A write of an RW register that waits
for FEAT_OK is refused before it with NOT_READY in GLOBAL, and once the features are accepted it sets the register's fields and nothing
else, for MEM.SCRUB_CFG. R202, R204 and R321, a core's access to memory in which no error stands: a load answers the bytes, a store writes them and no others,
an AMO answers the old value and writes the new one, LR and SC of staging memory fault in the core, and so does any access that lies in no row of the address map.
Readings the model chose where the spec leaves one open: log entry 87 (what an AMO computes). -/
def Obligations.RegisterAccessesDecodeAndWait : Prop :=
  (∀ (s : State) (core : Nat) (k : PageKind) (i : Nat), s.pwr.held = false → i < instances k →
    exec (.registerWrite (.reg ⟨core, pageBase k i, 4, none⟩)) s =
      .next (s.out (.readData core (wd (blockType k * 2 ^ 16 + i))))) ∧
  (∀ (s : State) (core off width : Nat) (data : Option Word), s.pwr.held = false → off < 2 ^ 28 → outsideTable off →
    Answers (.registerWrite (.reg ⟨core, off, width, data⟩)) s fun t =>
      t.regs = s.regs ∧ (∀ n, n ≠ 0 → smGet t.pages n {} = smGet s.pages n {}) ∧
      ((s.hdr .global 0).errCode = 0 → (t.hdr .global 0).errCode = 6#32 ∧ (t.hdr .global 0).errInfo.toNat = off) ∧
      t.outs = s.outs ++ (if data = none then [.readData core 0] else [])) ∧
  (∀ (s : State) (core : Nat) (k : PageKind) (i : Nat) (data : Option Word), s.pwr.held = false → i < instances k →
    Answers (.registerWrite (.reg ⟨core, pageBase k i, 8, data⟩)) s fun t =>
      t.regs = s.regs ∧ ((s.hdr k i).errCode = 0 → (t.hdr k i).errCode = 5#32 ∧ (t.hdr k i).errInfo = 0) ∧
      t.outs = s.outs ++ (if data = none then [.readData core 0] else [])) ∧
  (∀ (s : State) (core : Nat) (v : Word), s.pwr.held = false → s.featOk = false →
    exec (.registerWrite (.reg ⟨core, pageBase .mem 0 + R.MEM_SCRUB_CFG, 4, some v⟩)) s =
      .next (s.err .global 0 0x000B 0 (pageBase .mem 0 + R.MEM_SCRUB_CFG))) ∧
  (∀ (s : State) (core : Nat) (v : Word), s.pwr.held = false → s.featOk = true →
    Answers (.registerWrite (.reg ⟨core, pageBase .mem 0 + R.MEM_SCRUB_CFG, 4, some v⟩)) s fun t =>
      t.reg .mem 0 R.MEM_SCRUB_CFG = v &&& 0xFFFF#64 ∧ OnlyReg .mem 0 R.MEM_SCRUB_CFG s t) ∧
  (∀ (s : State) (core a n : Nat), s.pwr.held = false → s.inMap a n = true → s.errs = [] → s.poisoned a n = false →
    exec (.registerWrite (.mem core a n .load)) s = .next (s.out (.readData core (wd (ofLe (s.readMem a n)))))) ∧
  (∀ (s : State) (core a n : Nat) (v : Word), s.pwr.held = false → s.memSafe → s.inMap a n = true → s.errs = [] →
    Answers (.registerWrite (.mem core a n (.store v))) s fun t =>
      t.readMem a n = leBytes n v.toNat ∧ (∀ b, b < a ∨ a + n ≤ b → t.readByte b = s.readByte b) ∧
      t = { s with mem := t.mem, poison := t.poison, resv := t.resv }) ∧
  (∀ (s : State) (core a n : Nat) (op : AmoOp) (v : Word), s.pwr.held = false → s.memSafe → s.inMap a n = true → s.errs = [] →
    s.poisoned a n = false → let old := ofLe (s.readMem a n)
    Answers (.registerWrite (.mem core a n (.amo op v))) s fun t =>
      t.readMem a n = leBytes n (amoValue op n old v.toNat) ∧ (∀ b, b < a ∨ a + n ≤ b → t.readByte b = s.readByte b) ∧
      t = { s with mem := t.mem, poison := t.poison, resv := t.resv, outs := s.outs ++ [.readData core (wd old)] }) ∧
  (∀ (s : State) (core a n : Nat) (v : Word), s.pwr.held = false → inStaging a n = true → 0 < n →
    exec (.registerWrite (.mem core a n .lr)) s = .next (s.out (.accessFault core)) ∧
    exec (.registerWrite (.mem core a n (.sc v))) s = .next (s.out (.accessFault core))) ∧
  (∀ (s : State) (core a n : Nat) (op : MemOp), s.pwr.held = false → s.inMap a n = false → inRegs a n = false →
    inBootRom a n = false → exec (.registerWrite (.mem core a n op)) s = .next (s.out (.accessFault core)))

/-! The whole of the state. -/

/-- A command touches no part of the state but those that `mayTouch` lists for it; the reset causes, BLOCK_RESET and a register
access may touch every part but the queue (the frame of all 216 commands). -/
def Obligations.CommandsTouchOnlyTheirParts : Prop :=
  ∀ (c : Instr) (s t : State) (pt : Part), exec c s = .next t → pt ∉ mayTouch c → pt.same s t

/-! Fabric time and civil time. -/

/-- R11, R14, R62 and R359: a time-distribution pulse comes 1,024 ns after the one before and puts the new rate in force, or the one before it
where the rate changed on the pulse's own hub edge; an island that misses it, or whose reference clock is absent, starts its count of agreeing pulses anew and is
invalid from the second miss on (at once where the clock is absent); an island that takes it is corrected to the difference measured, agrees when that is at most one tick, becomes
valid with the eighth agreeing pulse in a row, and is invalid when it is more than two ticks. HCSL input k feeds port groups 4k to 4k + 3.
Readings the model chose where the spec leaves one open: log entry 9. -/
def Obligations.PulseCorrectsTheReplicas : Prop :=
  ∀ (s : State) (absent : BitVec 16) (missed : List (Fin 70)) (diffs : List (Fin 70 × Int)), s.pwr.held = false →
    let gone := fun i : Fin 70 => decide (i.val < 64) && absent.getLsbD (i.val / 4)
    Answers (.timeDistributionPulse absent missed diffs) s fun t =>
      t.time.now = max s.time.now (s.time.lastPulse + wPulse) ∧ t.time.lastPulse = t.time.now ∧
      t.time.rateNow = (if hubEdge t.time.now ≤ s.time.rateAt then s.time.ratePrev else s.time.rateNext) ∧
      (∀ i : Fin 70, gone i = true ∨ i ∈ missed → t.replica i = { s.replica i with
        missed := (s.replica i).missed + 1, agreed := 0,
        valid := (s.replica i).valid && decide ((s.replica i).missed = 0) && !gone i }) ∧
      (∀ i : Fin 70, gone i = false → i ∉ missed → let d := measured diffs i
        let a := if d.natAbs * wFrac ≤ wTick then (s.replica i).agreed + 1 else 0
        t.replica i = { diff := d, missed := 0, agreed := a,
                        valid := decide (d.natAbs * wFrac ≤ 2 * wTick) && ((s.replica i).valid || decide (8 ≤ a)) }) ∧
      t.time.fabOff = s.time.fabOff ∧ t.time.cycle = s.time.cycle ∧ t.time.cycStart = s.time.cycStart

/-- R47, R53 to R56, the delay exchange. A DELAY_REQ that is due is sent with the next REQ_ID and waits for its answer, t1 its departure
referred to the hub (without a cycle it is due 15,625 ticks after the last); a DELAY_REQ is answered with the time it was held. A DELAY_RESP of the waiting
request whose turnaround is within the limit is measured: once LINK_DELAY is valid a measurement that differs from the mean by more than 2 ns is
rejected, and the fourth rejection in a row drops the history; any other enters the last eight, their mean is twice LINK_DELAY, to which half of DELAY_ASYM is added, and it is valid from the fourth on. Any
other response is rejected and counted. A request is abandoned when the next is due, and at the latest 4 cycles after it was sent.
Readings the model chose where the spec leaves one open: log entry 13. -/
def Obligations.DelayExchangeMeasuresTheLink : Prop :=
  (∀ (s : State) (p : Fin 1024) (t1 : Nat), s.delayOn p = true → (s.time.hasCycle = true → s.delayDue p = true) →
    let u := if s.time.hasCycle then s else s.runTo (s.nextReq p)
    let v := u.dropReq p
    v.startsNow p (v.linkFrame p 7 tDelayReq .delayReq) →
    Answers (.delayReqTx p t1) s fun t => let id := ((v.port p).reqId + 1) % 2 ^ 16
      (t.port p).reqId = id ∧ (t.port p).req = some (id, v.toHub (p / 16) (v.depNear p t1), v.time.cycle) ∧
      (t.port p).reqCyc = (if v.time.hasCycle then some v.time.cycle else none) ∧ (t.port p).reqAt = some v.time.now ∧
      (t.port p).meas = (v.port p).meas ∧ (t.port p).delayOk = (v.port p).delayOk ∧
      Sent p tDelayReq (delayBytes id false 0) v t ∧ OtherPorts p v t ∧ Counted .port p R.PORT_DELAY_REQ_TX v t) ∧
  (∀ (s : State) (p : Fin 1024) (id src : BitVec 16) (t2 t3 : Nat), s.delayOn p = true → let u := s.seenAt p t2
    u.startsNow p (u.linkFrame p 7 tDelayResp (.delayResp id.toNat (u.toHub (p / 16) t2))) →
    Answers (.delayReqRx p id src t2 t3) s fun t =>
      Sent p tDelayResp (delayBytes id.toNat u.inNet (u.toHub (p / 16) (u.depNear p t3) - u.toHub (p / 16) t2)) u t ∧
      (t.port p).req = (u.port p).req ∧ (t.port p).meas = (u.port p).meas ∧ OtherPorts p u t ∧
      Counted .port p R.PORT_DELAY_RESP_TX u t) ∧
  (∀ (s : State) (p : Fin 1024) (id : BitVec 16) (synt : Bool) (turn t1 : Int) (t4 c : Nat), s.delayOn p = true →
    let u := s.seenAt p t4
    let q := u.port p
    let d2 := u.toHub (p / 16) t4 - t1 - turn
    q.req = some (id.toNat, t1, c) → turn ≤ (if synt then 20480 else 2048) * 65536 →
    ((q.delayOk = false ∨ (d2 * q.meas.length - q.meas.sum).natAbs ≤ 4 * q.meas.length * 65536) →
      Answers (.delayRespRx p id synt turn t4) s fun t =>
        let m := (q.meas ++ [d2]).drop (q.meas.length - 7)
        t.port p = { q with req := none, meas := m, rejRun := 0, delayOk := q.delayOk || decide (4 ≤ m.length) } ∧ OtherPorts p u t ∧
        t.linkDelay p = m.sum * wFrac / (2 * m.length) + sext 32 (u.regF .port p R.PORT_DELAY_ASYM 31 0) * 4096 ∧
        Counted .port p R.PORT_DELAY_ACCEPTED u t) ∧
    (q.delayOk = true → 4 * q.meas.length * 65536 < (d2 * q.meas.length - q.meas.sum).natAbs →
      Answers (.delayRespRx p id synt turn t4) s fun t =>
        t.port p = (if 4 ≤ q.rejRun + 1 then { q with req := none, meas := [], rejRun := 0, delayOk := false }
                    else { q with req := none, rejRun := q.rejRun + 1 }) ∧ OtherPorts p u t ∧
        Counted .port p R.PORT_DELAY_REJECTED u t)) ∧
  (∀ (s : State) (p : Fin 1024) (id : BitVec 16) (synt : Bool) (turn : Int) (t4 : Nat), s.delayOn p = true → let u := s.seenAt p t4
    ((∀ t1 c, (u.port p).req ≠ some (id.toNat, t1, c)) ∨ (if synt then 20480 else 2048) * 65536 < turn) →
    Answers (.delayRespRx p id synt turn t4) s fun t =>
      t.ports = u.ports ∧ Counted .port p R.PORT_DELAY_REJECTED u t) ∧
  (∀ (s : State) (p : Fin 1024) (id c : Nat) (t1 : Int), s.time.hasCycle = true → (s.port p).req = some (id, t1, c) →
    (4 ≤ cycDiff s.time.cycle c ∨ 1 ≤ cycDiff s.time.cycle c ∧ s.delayDue p = true) →
    Answers (.delayTimeout p) s fun t =>
      t.port p = { s.port p with req := none } ∧ OtherPorts p s t ∧ Counted .port p R.PORT_DELAY_TIMEOUT s t) ∧
  (∀ (s : State) (p : Fin 1024), s.time.hasCycle = false → (s.port p).req.isSome = true → let u := s.runTo (s.nextReq p)
    (u.port p).req.isSome = true → Answers (.delayTimeout p) s fun t =>
      t.port p = { u.port p with req := none } ∧ OtherPorts p u t ∧ Counted .port p R.PORT_DELAY_TIMEOUT u t)

/-- R51, R60, R61 and R63, the servo: in JOINED a valid clapper of the parent, of the node's own CYCLE_TICKS and within the offset limits, is applied: the slew p (SLEW_NOW) is the error over
2^SLEW_SHIFT within SLEW_LIMIT, the frequency f (FREQ_EST) moves by the error over 2^FREQ_SHIFT within 100 ppm and stays within 250,000 ppb, and the
offset and its instant are kept. An invalid clapper only counts, and a HALTED node takes none. The state is that of the instant at which the clapper's
timestamp point crosses the pins.
Readings the model chose where the spec leaves one open: log entries 8, 10 and 26. -/
def Obligations.ServoFollowsItsParent : Prop :=
  (∀ (s : State) (p : Fin 1024) (c : Clapper) (tRx : Nat), s.isUp p = true → s.node.state ≠ .halted → let u := s.seenAt p tRx
    u.clapperValid c = false → Answers (.clapperRx p c tRx) s fun t =>
      Counted .port p R.PORT_CLAP_RX_INVALID u t ∧ t.ports = u.ports ∧ t.node = s.node ∧ t.time = u.time) ∧
  (∀ (s : State) (p : Fin 1024) (c : Clapper) (tRx : Nat), s.isUp p = true → s.node.state = .halted →
    exec (.clapperRx p c tRx) s = .next s) ∧
  (∀ (s : State) (p : Fin 1024) (c : Clapper) (tRx : Nat), s.isUp p = true → s.node.state = .joined → let u := s.seenAt p tRx
    u.node.bellwether = false → u.node.join = none → u.clapperValid c = true → bitsOf (u.port p).timeCfg 1 0 = 0 →
    c.tbNode ≠ u.nodeId → u.node.followed = some (c.tbRank, c.tbNode) → (u.port p).delayOk = true →
    u.time.parent = some p.val → u.time.holdover = false → c.ticks = u.ticks →
    let off := u.clapperOffset p c (u.toHub (p / 16) tRx)
    off.natAbs ≤ u.limHoldOff * wTick → off.natAbs ≤ u.limLeave * wTick →
    let cfg := u.reg .time 0 R.TIME_SERVO_CFG
    let e := off * eFp / ((u.time.prevTicks * wTick : Nat) : Int)
    Answers (.clapperRx p c tRx) s fun t =>
      t.node.state = .joined ∧ t.time.offset = off ∧ t.time.offsetAt = t.time.now ∧ t.time.parentSteps = c.steps ∧
      t.time.p = -clamped e (fld cfg 11 8) ((fld cfg 7 0 * 1000 * 65536 : Nat) : Int) ∧
      t.time.f = clampInt (-(250000 * 65536)) (250000 * 65536) (u.time.f - clamped e (fld cfg 15 12) (100 * 65536)) ∧
      t.time.rateNext = t.time.f + t.time.p ∧ (t.port p).clapOff = off ∧ OtherPorts p u t)

/-- R68, whole: STEP loads the set values and makes civil time valid while it is not, and is refused with CIVIL_ALREADY_VALID while it is;
INVALIDATE ends its validity, after which it can be stepped again, and holds PPS_OUT low in mode 1 (R72); a CIVIL_SET_NS of 10^9 or more is refused with
RESERVED_ENCODING. Beside it, of R67 and R69: a write of CIVIL_RATE within 500,000 ppb changes the rate and leaves civil time where it
is, and one beyond is refused and the rate stays.
Readings the model chose where the spec leaves one open: log entry 21 (ERR_INFO of these refusals is the page offset of the register
written). -/
def Obligations.CivilTimeStepsAndSlews : Prop :=
  (∀ s : State, s.opens .time R.TIME_CIVIL_CTRL 23 → s.time.civValid = false → Answers .civilStep s fun t =>
    t = { s with time := { s.time with
      civSec := fld (s.reg .time 0 R.TIME_CIVIL_SET_SEC) 47 0, civW := fld (s.reg .time 0 R.TIME_CIVIL_SET_NS) 29 0 * wNs,
      civAt := s.time.now, civValid := true, civBefore := t.time.civBefore } }) ∧
  (∀ (s : State) (core : Nat) (v : Word), s.opens .time R.TIME_CIVIL_SET_NS 23 → s.featOk = true → 1000000000 ≤ fld v 29 0 →
    exec (.registerWrite (.reg ⟨core, pageBase .time 0 + R.TIME_CIVIL_SET_NS, 4, some v⟩)) s =
      .next (s.err .time 0 0x0007 0 R.TIME_CIVIL_SET_NS)) ∧
  (∀ s : State, s.opens .time R.TIME_CIVIL_CTRL 23 → s.time.civValid = true →
    exec .civilStep s = .next (s.err .time 0 0x0100 0 R.TIME_CIVIL_CTRL)) ∧
  (∀ s : State, s.opens .time R.TIME_CIVIL_CTRL 23 → let m := s.regF .mgmt 0 R.MGMT_PPS_OUT_CTRL 1 0
    exec .civilInvalidate s = .next { s with
      time := { s.time with civValid := false, ppsOut := if m = 0 ∨ m = 1 then false else s.time.ppsOut }
      outs := s.outs ++ (if (m = 0 ∨ m = 1) ∧ s.time.ppsOut = true then [.ppsOut false] else []) }) ∧
  (∀ (s : State) (rate : BitVec 32), s.opens .time R.TIME_CIVIL_RATE 23 → rate.toInt.natAbs ≤ 500000 →
    Answers (.civilRateWrite rate) s fun t =>
      t.civilRate = rate.toInt ∧ t.civil t.time.now = s.civil s.time.now ∧ t.time.now = s.time.now ∧
      t.time.civValid = s.time.civValid ∧ OnlyReg .time 0 R.TIME_CIVIL_RATE { s with time := t.time } t) ∧
  (∀ (s : State) (rate : BitVec 32), s.opens .time R.TIME_CIVIL_RATE 23 → 500000 < rate.toInt.natAbs →
    exec (.civilRateWrite rate) s = .next (s.err .time 0 0x0101 0 R.TIME_CIVIL_RATE))

/-- R71 to R73 and R76, the reads that latch and the PPS pins: NOW_NS answers fabric time in whole ns and latches its fraction and the cycle
number; CIVIL_SEC answers the second and latches the ns; PAIR_CYCLE answers the pair's cycle and latches the rest of the pair;
DIAG_TS_POP answers the oldest entry and removes it. The selected edge of PPS_IN is captured; PPS_OUT in mode 2 rises at a multiple of
PPS_OUT_PERIOD of fabric time, in mode 1 once civil time is valid, and falls WIDTH µs after it rose.
Readings the model chose where the spec leaves one open: log entry 57 (a row that reads answers core 0). -/
def Obligations.TimeReadsLatchAndPpsPulses : Prop :=
  (∀ s : State, s.pwr.held = false →
    exec .nowNsRead s = .next { s with
      time := { s.time with fracLatch := s.nowFrac % 2 ^ 16, cycLatch := s.time.cycle }
      outs := s.outs ++ [.readData 0 (wd s.nowNs)] }) ∧
  (∀ s : State, s.pwr.held = false → s.feat 23 = true →
    exec .civilSecRead s = .next { s with
      time := { s.time with civNsLatch := (s.civil s.time.now).2 / wNs }
      outs := s.outs ++ [.readData 0 (wd (s.civil s.time.now).1)] }) ∧
  (∀ s : State, s.pwr.held = false → s.feat 23 = true →
    exec .pairCycleRead s = .next { s with
      time := { s.time with pairFabL := s.time.pairFab, pairSecL := s.time.pairSec, pairNsL := s.time.pairNs }
      outs := s.outs ++ [.readData 0 (wd (s.time.pairCycle + b2n s.time.pairValid * 2 ^ 63))] }) ∧
  (∀ (s : State) (w : Word) (rest : List Word), s.pwr.held = false → s.regF .time 0 R.TIME_DIAG_TS_CTRL 0 0 = 1 →
    let g := s.regF .time 0 R.TIME_DIAG_TS_CTRL 25 16 / 16
    (smGet s.groups g {}).diag = w :: rest →
    Answers .diagTsPop s fun t => t.outs = s.outs ++ [.readData 0 w] ∧ (smGet t.groups g {}).diag = rest ∧
      t = { s with groups := t.groups, outs := t.outs }) ∧
  (∀ (s : State) (rising : Bool), s.feat 23 = true → bit (s.reg .mgmt 0 R.MGMT_PPS_IN_CTRL) 0 = true →
    exec (.ppsInEdge rising) s = .next (if rising = !bit (s.reg .mgmt 0 R.MGMT_PPS_IN_CTRL) 1 then { s with
      time := { s.time with ppsInNs := s.nowNs, ppsInSeq := (s.time.ppsInSeq + 1) % 2 ^ 32 } } else s)) ∧
  (∀ s : State, s.feat 23 = true → s.time.ppsOut = false →
    (s.regF .mgmt 0 R.MGMT_PPS_OUT_CTRL 1 0 = 1 ∧ s.time.civValid = true ∨
      s.regF .mgmt 0 R.MGMT_PPS_OUT_CTRL 1 0 = 2 ∧ 0 < (s.reg .mgmt 0 R.MGMT_PPS_OUT_PERIOD).toNat) →
    Answers .ppsOutEdge s fun t => t.time.ppsOut = true ∧ t.time.ppsRise = t.time.now ∧ s.time.now ≤ t.time.now ∧
      t.outs = s.outs ++ [.ppsOut true] ∧
      (s.regF .mgmt 0 R.MGMT_PPS_OUT_CTRL 1 0 = 2 →
        t.fab t.time.now % ((s.reg .mgmt 0 R.MGMT_PPS_OUT_PERIOD).toNat * wNs) = 0)) ∧
  (∀ s : State, s.time.ppsOut = true →
    exec .ppsOutWidthEnd s = .next { s with
      time := { s.time with
        now := max s.time.now (s.time.ppsRise + s.regF .mgmt 0 R.MGMT_PPS_OUT_CTRL 23 4 * wUs), ppsOut := false }
      outs := s.outs ++ [.ppsOut false] })

/-- R76 and R43: a write that sets DIAG_TS_CTRL.ENABLE takes the transmit timestamp queue of the port's group, and is refused where another
owner holds it, naming the queue and the holder; one that clears it releases the queue and drops what it held.
Readings the model chose where the spec leaves one open: log entry 23. -/
def Obligations.DiagnosticCaptureOwnsItsQueue : Prop :=
  ∀ (s : State) (ctrl : BitVec 32), s.opens .time R.TIME_DIAG_TS_CTRL 0 →
    let v := wd ctrl.toNat &&& 0xFFFF0001#64
    let g := fld (wd ctrl.toNat) 25 16 / 16
    let old := s.reg .time 0 R.TIME_DIAG_TS_CTRL
    (bit old 0 = false → ctrl.getLsbD 0 = true → (s.ownerOf (resTsq g) = 0 ∨ s.ownerOf (resTsq g) = ownerDiag g) →
      Answers (.diagTsEnable ctrl) s fun t => t.ownerOf (resTsq g) = ownerDiag g ∧ t.reg .time 0 R.TIME_DIAG_TS_CTRL = v) ∧
    (bit old 0 = false → ctrl.getLsbD 0 = true → s.ownerOf (resTsq g) ≠ 0 → s.ownerOf (resTsq g) ≠ ownerDiag g →
      Answers (.diagTsEnable ctrl) s fun t => t.groups = s.groups ∧ bit (t.reg .time 0 R.TIME_DIAG_TS_CTRL) 0 = false ∧
        (t.hdr .time 0).intCause.getLsbD 1 = true ∧
        ((s.hdr .time 0).errCode = 0 → (t.hdr .time 0).errCode.toNat = 1 + resTsq g * 2 ^ 16 ∧
          (t.hdr .time 0).errInfo = BitVec.ofNat 32 (s.ownerOf (resTsq g)))) ∧
    (bit old 0 = true → ctrl.getLsbD 0 = false → fld v 31 16 = fld old 31 16 →
      s.ownerOf (resTsq g) = ownerDiag g →
      Answers (.diagTsEnable ctrl) s fun t => t.ownerOf (resTsq g) = 0 ∧ (smGet t.groups g {}).diag = [] ∧
        t.reg .time 0 R.TIME_DIAG_TS_CTRL = v)

/-! The node and its cycle. -/

/-- R78, R82 and R98: START takes a node in OFF to LISTEN, which starts the listen timer; STOP takes any node but a HALTED one to OFF, where it has no
cycle (R370), drops its pending events (R195) and refuses a busy cut for NODE_STATE (R79, R119), or waits for the start of cycle X in the final window of a committed cut (R115); CLEAR_HALT takes a HALTED node to OFF. In any other
state each is refused with NODE_STATE_BUSY and the state as its detail. Beside them what valid clappers do (R80, R83, R93): one that shows another node with this node's ID halts the
node; one of a better timebase makes a candidate or a node in the network yield, is counted alone in STEPPED, and in YIELD becomes the timebase to look for; one of a worse timebase is counted;
in LISTEN one restarts the timer and is noted.
Readings the model chose where the spec leaves one open: log entry 26. -/
def Obligations.NodeCommandsMoveTheNode : Prop :=
  (∀ s : State, s.opens .cycle R.CYCLE_NODE_CTRL 0 →
    (s.node.state = .off → Answers .nodeStart s fun t =>
      t.node.state = .listen ∧ t.node.followed = none ∧ t.node.heard = [] ∧ t.node.looked = none ∧ t.node.bellwether = false ∧
      t.node.listenEnd = s.time.now + ((3 + s.rank) * s.ticks + s.nodeId * 16) * wTick ∧ t.time.now = s.time.now) ∧
    (s.node.state ≠ .off → exec .nodeStart s = .next (s.err .cycle 0 0x0140 s.node.state.code R.CYCLE_NODE_CTRL)) ∧
    (s.node.state ≠ .halted → s.finalWindow = false → Answers .nodeStop s fun t =>
      t.node.state = .off ∧ t.time.hasCycle = false ∧ t.node.followed = none ∧ t.node.bellwether = false ∧ t.evt.pend = [] ∧
      (s.cutBusy = true → t.slate.cut = .refused ∧ t.slate.reason = 2)) ∧
    (s.node.state ≠ .halted → s.finalWindow = true →
      exec .nodeStop s = .next { s with slate := { s.slate with deferred := s.slate.deferred ++ [.stop] } }) ∧
    (s.node.state = .halted → exec .nodeStop s = .next (s.err .cycle 0 0x0140 15 R.CYCLE_NODE_CTRL)) ∧
    (s.node.state = .halted → Answers .clearHalt s fun t =>
      t.node.state = .off ∧ t.time.hasCycle = false ∧ t.node.followed = none ∧ t.evt.pend = []) ∧
    (s.node.state ≠ .halted → exec .clearHalt s = .next (s.err .cycle 0 0x0140 s.node.state.code R.CYCLE_NODE_CTRL))) ∧
  (∀ (s : State) (p : Fin 1024) (c : Clapper) (tRx : Nat), s.isUp p = true → s.node.state ≠ .halted → let u := s.seenAt p tRx
    let tb := (c.tbRank, c.tbNode)
    u.clapperValid c = true → bitsOf (u.port p).timeCfg 1 0 ≠ 3 →
    (u.duplicate c = true → u.finalWindow = false → Answers (.clapperRx p c tRx) s fun t =>
      t.node.state = .halted ∧ t.node.followed = none ∧ t.node.bellwether = false ∧ t.evt.pend = [] ∧
      t.time.hasCycle = u.time.hasCycle ∧ t.time.parent = none) ∧
    (u.duplicate c = true → u.finalWindow = true → Answers (.clapperRx p c tRx) s fun t =>
      t.node = u.node ∧ t.slate.deferred = u.slate.deferred ++ [.halt p (c.cycle % 2 ^ 32)]) ∧
    (∀ f, u.duplicate c = false → (u.inNet = true ∨ u.node.state = .candidate ∧ u.node.zeroAt = none) → u.time.hasCycle = true →
      u.finalWindow = false → u.node.followed = some f → tbBetter tb f = true → tbBetter f tb = false →
      Answers (.clapperRx p c tRx) s fun t =>
        t.node.state = .yield ∧ t.node.looked = some tb ∧ t.node.yieldCycle = u.time.cycle ∧ t.node.followed = none ∧
        t.time.parent = none ∧ Counted .cycle 0 R.CYCLE_YIELDS u t) ∧
    (∀ f, u.duplicate c = false → u.node.state = .stepped → u.node.followed = some f → tbBetter tb f = true → tbBetter f tb = false →
      Answers (.clapperRx p c tRx) s fun t => t.node = u.node ∧ Counted .cycle 0 R.CYCLE_YIELDS u t) ∧
    (∀ f, u.duplicate c = false → (u.inNet = true ∨ u.node.state = .candidate ∨ u.node.state = .stepped) → u.node.followed = some f →
      tbBetter f tb = true → Answers (.clapperRx p c tRx) s fun t =>
        t.node = u.node ∧ Counted .cycle 0 R.CYCLE_TB_WORSE_SEEN u t) ∧
    (u.duplicate c = false → u.node.state = .yield → u.node.followed = none → Answers (.clapperRx p c tRx) s fun t =>
      t.node = { u.node with looked := match u.node.looked with
        | some b => if tbBetter tb b then some tb else some b
        | none => some tb }) ∧
    (u.duplicate c = false → u.node.state = .listen → u.node.followed = none → (u.port p).lastClap = none →
      Answers (.clapperRx p c tRx) s fun t =>
        t.node = { u.node with
          heard := heardSet u.node.heard tb u.time.now
          listenEnd := u.time.now + ((3 + u.rank) * u.ticks + u.nodeId * 16) * wTick
          looked := match u.node.looked with
            | some b => if tbBetter tb b then some tb else some b
            | none => some tb }))

/-- R78, R82: the listen timer makes a node of rank below 255 a candidate that follows its own timebase and counts it in
CANDIDATE_ENTRIES; at rank 255 it counts LISTEN_EXPIRED and the timer starts again. The candidate's cycle 0 begins at the first tick instant of
fabric time at least 3,200 ticks after the timer expired, and from then on the node has a cycle.
Readings the model chose where the spec leaves one open: log entry 26. -/
def Obligations.ListenTimerMakesACandidate : Prop :=
  (∀ s : State, s.node.state = .listen → s.rank ≠ 255 → Answers .listenTimerExpiry s fun t =>
    t.node.state = .candidate ∧ t.node.followed = some (s.rank, s.nodeId) ∧ t.time.hasCycle = s.time.hasCycle ∧
    t.time.now = max s.time.now s.node.listenEnd ∧ Counted .cycle 0 R.CYCLE_CANDIDATE_ENTRIES s t ∧
    (0 ≤ s.time.fabOff → ∃ z, t.node.zeroAt = some z ∧ t.fab z % wTick = 0 ∧ t.time.now + 3200 * wTick ≤ z ∧
      z < t.time.now + 3201 * wTick)) ∧
  (∀ s : State, s.node.state = .listen → s.rank = 255 → Answers .listenTimerExpiry s fun t =>
    t.node.state = .listen ∧ t.node.listenEnd = t.time.now + (258 * s.ticks + s.nodeId * 16) * wTick ∧
    t.time.now = max s.time.now s.node.listenEnd ∧ Counted .cycle 0 R.CYCLE_LISTEN_EXPIRED s t) ∧
  (∀ (s : State) (z : Nat), s.node.state = .candidate → s.node.zeroAt = some z → Answers .candidateCycleZero s fun t =>
    t.time.hasCycle = true ∧ t.time.cycle = 0 ∧ t.time.cycStart = z ∧ t.time.fabOff = s.time.fabOff ∧ z ≤ t.time.now ∧
    t.node.state = .candidate ∧ t.node.zeroAt = none)

/-- R84 and R85: two clappers of consecutive cycles of the timebase looked for that meet the conditions on enough ports are a full valid cycle N: the node is
STEPPED, follows that timebase, and its join is set, S a cycle after the second clapper's ORIGIN; conditions that fail leave it in LISTEN.
At S − Δ the join step adds Δ to fabric time, so that it becomes S, the cycle number becomes N + 2, and the pending events of cycles passed over are gone; STEP_NS shows Δ in whole ns.
A timebase of which no clapper has come for 2 × CYCLE_TICKS is dropped, and the join detector looks for the best of the rest. -/
def Obligations.JoinStepSetsFabricTime : Prop :=
  (∀ (s : State) (p : Fin 1024) (c : Clapper) (tRx : Nat) (a : ClapRec), s.isUp p = true → s.node.state = .listen →
    let u := s.seenAt p tRx
    let tb := (c.tbRank, c.tbNode)
    let b : ClapRec := {
      cycle := c.cycle, origin := c.origin, correction := c.correction, tRx := u.toHub (p / 16) tRx,
      rank := c.tbRank, node := c.tbNode, steps := c.steps, ticks := c.ticks, delayOk := (u.port p).delayOk, counts := true }
    u.clapperValid c = true → bitsOf (u.port p).timeCfg 1 0 < 2 → u.duplicate c = false → u.node.followed = none →
    u.node.looked = some tb → (u.port p).lastClap = some a → cycDiff b.cycle a.cycle = 1 → (a.rank, a.node) = tb →
    (u.pairOk p a b = true → b.ticks = u.ticks → u.regF .cycle 0 R.CYCLE_NODE_CFG 31 24 ≤ 1 →
      (∀ x ∈ u.ports, x.2.qual ≠ some a.cycle) → Answers (.clapperRx p c tRx) s fun t =>
        t.node.state = .stepped ∧ t.node.followed = some tb ∧ t.time.parent = some p.val ∧ t.time.parentSteps = c.steps ∧
        t.node.join = some {
          n := a.cycle, parent := p, sInst := ((b.origin * wFrac + u.ticks * wTick : Nat) : Int), stepped := false, checked := false,
          delta := ((b.origin : Int) + b.correction - b.tRx) * wFrac + u.linkDelay p }) ∧
    (u.pairOk p a b = true → b.ticks ≠ u.ticks → Answers (.clapperRx p c tRx) s fun t =>
      t.node.state = .listen ∧ t.node.mismatch = true ∧ Counted .cycle 0 R.CYCLE_JOIN_MISMATCH u t) ∧
    (u.pairOk p a b = false → Answers (.clapperRx p c tRx) s fun t =>
      t.node.state = .listen ∧ t.node.looked = some tb ∧ t.node.join = u.node.join)) ∧
  (∀ (s : State) (j : Join), s.node.state = .stepped → s.node.join = some j → j.stepped = false → Answers .joinStep s fun t =>
    t.time.fabOff = s.time.fabOff + j.delta ∧ t.time.hasCycle = true ∧ t.time.cycle = cycMod (j.n + 2) ∧
    t.time.cycStart = s.unfab (j.sInst - j.delta) ∧ (0 ≤ j.sInst - j.delta - s.time.fabOff → 0 ≤ j.sInst →
      (t.fab t.time.cycStart : Int) = j.sInst) ∧
    t.node = { s.node with join := some { j with stepped := true }, joinN := j.n, joinPort := j.parent,
                           stepNs := roundEven j.delta wNs } ∧
    t.evt.pend = s.evt.pend.filter fun e => decide (0 ≤ cycDiff e.cycle (cycMod (j.n + 2)))) ∧
  (∀ (s : State) (rank node at_ : Nat), s.node.state = .listen → s.node.looked = some (rank, node) →
    (s.node.heard.find? fun x => x.1 == rank && x.2.1 == node) = some (rank, node, at_) → Answers .joinDetectorDrop s fun t =>
      let due := at_ + 2 * s.ticks * wTick
      t.time.now = max s.time.now due ∧ t.node.looked = bestHeard t.node.heard ∧
      (∀ x, x ∈ t.node.heard ↔ x ∈ s.node.heard ∧ ¬ (x.1 = rank ∧ x.2.1 = node) ∧ at_ < x.2.2))

/-- R46, R370: a cycle begins CYCLE_TICKS after the one before, whatever else happens at its start: its number is the next one modulo
2^48, and the tick count of the cycle that ended is kept for the servo. A node without a cycle starts none. At the start, after a cut has committed or switched, the node
moves (R78): a candidate in its cycle 3 is the bellwether, a STEPPED node in cycle N + 3 is JOINED or gives the join up (R86), YIELD ends two cycles after it began (R83), HOLD_OFF ends with the
eighth start in a row whose offset is below RESUME (R89), and an offset above HOLD_OFF or LEAVE holds the node off or makes it leave (R88, R90). Then a port that sends clappers and whose lane is idle sends
the clapper of the new cycle (R48, R49). -/
def Obligations.CycleStartAdvancesTheCycle : Prop :=
  (∀ (s : State) (deps : List (Fin 1024 × Int)), s.time.hasCycle = true → Answers (.cycleStart deps) s fun t =>
    t.time.cycle = cycMod (s.time.cycle + 1) ∧ t.time.cycStart = s.time.cycStart + s.ticks * wTick ∧
    t.time.prevTicks = s.ticks ∧ t.time.fabOff = s.time.fabOff ∧ s.time.cycStart + s.ticks * wTick ≤ t.time.now) ∧
  (∀ (s : State) (deps : List (Fin 1024 × Int)), s.time.hasCycle = false → exec (.cycleStart deps) s = .next s) ∧
  (∀ (s : State) (deps : List (Fin 1024 × Int)), s.time.hasCycle = true →
    let v := s.endCycle.nextCycle.cutBehind.cutCycleStart.flushDeferred
    (v.node.state = .candidate → v.node.zeroAt = none → 0 ≤ cycDiff v.time.cycle 3 → Answers (.cycleStart deps) s fun t =>
      t.node.state = .joined ∧ t.node.bellwether = true) ∧
    (∀ j, v.node.state = .stepped → v.node.join = some j → j.stepped = true → 0 ≤ cycDiff v.time.cycle (j.n + 3) →
      (j.checked = true → Answers (.cycleStart deps) s fun t =>
        t.node.state = .joined ∧ t.node.join = none ∧ Counted .cycle 0 R.CYCLE_JOINS v t) ∧
      (j.checked = false → Answers (.cycleStart deps) s fun t =>
        t.node.state = .listen ∧ t.node.followed = none ∧ Counted .cycle 0 R.CYCLE_JOIN_ABORTS v t)) ∧
    (v.node.state = .yield → 0 ≤ cycDiff v.time.cycle (v.node.yieldCycle + 2) → Answers (.cycleStart deps) s fun t =>
      t.node.state = .listen ∧ t.node.looked = v.node.looked) ∧
    (v.inNet = true → v.node.bellwether = false → v.offsetAbove v.limLeave = true → v.finalWindow = false → v.time.hasCycle = true →
      Answers (.cycleStart deps) s fun t =>
        t.node.state = .yield ∧ t.node.looked = none ∧ Counted .cycle 0 R.CYCLE_LEAVES v t) ∧
    (v.node.state = .joined → v.node.bellwether = false → v.offsetAbove v.limLeave = false → v.offsetAbove v.limHoldOff = true →
      Answers (.cycleStart deps) s fun t => t.node.state = .holdOff ∧ Counted .cycle 0 R.CYCLE_HOLDOFF_ENTRIES v t) ∧
    (v.node.state = .holdOff → v.offsetAbove v.limLeave = false → Answers (.cycleStart deps) s fun t =>
      t.node.state = (if v.offsetBelow v.limResume ∧ 7 ≤ v.node.resume then .joined else .holdOff) ∧
      t.node.resume = (if v.offsetBelow v.limResume ∧ v.node.resume < 7 then v.node.resume + 1 else 0)) ∧
    (∀ p : Fin 1024, let w := v.nodeStartOfCycle
      let at_ := w.time.cycStart
      let x := w.node.followed.getD w.ownTb
      (w.portCycle p).clapperDue p = true → (w.port p).wire = none → (w.port p).laneFree ≤ at_ →
      (deps.find? fun d => d.1.val == p.val) = none → Answers (.cycleStart deps) s fun t =>
        ∃ f h, .frame p f true ∈ t.outs ∧ h.typ = tClapper ∧ f.body = itpBody f.tag.isSome h
          (clapperBytes w.time.cycle (roundFrac (w.fab at_)) ((8 * w.wByte p + 62) / wFrac : Nat) x.1 x.2
            (if w.node.bellwether ∨ w.node.state = .candidate then 0 else w.time.parentSteps + 1) w.ticks
            (b2n (w.node.state = .candidate) + 2 * b2n (w.node.state = .holdOff)))))

/-- R95, R97, R192 and R372, the claimant: a JOINED node sends a CLAIM for a listed owner and waits; it repeats a CLAIM that had no answer for 8
cycles until CLAIM_TRIES are spent; it is acknowledged from the later of two cycles after the CLAIM and the next cycle; it stops at a refusal and raises CLAIM_REFUSED; the
holder repeats its CLAIM every CLAIM_REFRESH cycles; an answer to no claim is counted as stray, and one on a port that is not in UP in RX_NOT_UP.
Readings the model chose where the spec leaves one open: log entry 14. -/
def Obligations.ClaimantAsksAndRefreshes : Prop :=
  (∀ (s : State) (p : Fin 1024) (x : BitVec 16), s.claimReady p x.toNat = true → s.mineOf p x.toNat = none →
    let v := s.modPort p fun q =>
      { q with mine := q.mine ++ [{ owner := x.toNat, sent := s.time.cycle, tries := 1, phase := .waiting }] }
    v.startsNow p (v.linkFrame p 6 tClaim (.claim x.toNat)) → Answers (.claimTx p x) s fun t =>
      t.mineOf p x.toNat = some { owner := x.toNat, sent := s.time.cycle, tries := 1, phase := .waiting } ∧
      Sent p tClaim (claimBytes x.toNat s.time.cycle 0 0) s t ∧ OtherPorts p s t ∧ Counted .port p R.PORT_CLAIM_TX s t) ∧
  (∀ (s : State) (p : Fin 1024) (x : BitVec 16) (m : MyClaim), s.mineOf p x.toNat = some m → m.phase = .waiting →
    8 ≤ cycDiff s.time.cycle m.sent →
    let v := s.modMine p x.toNat fun m => { m with sent := s.time.cycle, tries := m.tries + 1 }
    (m.tries < s.regF .cycle 0 R.CYCLE_CLAIM_CFG 19 16 → s.claimReady p x.toNat = true →
      v.startsNow p (v.linkFrame p 6 tClaim (.claim x.toNat)) → Answers (.claimRetry p x) s fun t =>
        t.mineOf p x.toNat = some { m with sent := s.time.cycle, tries := m.tries + 1 } ∧
        Sent p tClaim (claimBytes x.toNat s.time.cycle 0 0) s t ∧ OtherPorts p s t ∧ Counted .port p R.PORT_CLAIM_TX s t) ∧
    (s.regF .cycle 0 R.CYCLE_CLAIM_CFG 19 16 ≤ m.tries → ((s.port p).waits fun o => o == .claim x.toNat) = false →
      Answers (.claimRetry p x) s fun t =>
        t.mineOf p x.toNat = some { m with phase := .noAnswer } ∧ OtherPorts p s t ∧ t.outs = s.outs ∧ t.alarm.pend = addOcc
          { unit := 82 + p, cls := 0x00C, source := p, detail := x.toNat, count := 1, ns := s.nowNs } s.alarm.pend)) ∧
  (∀ (s : State) (p : Fin 1024) (x : BitVec 16) (m : MyClaim) (e : Nat), s.mineOf p x.toNat = some m → m.phase = .acked e →
    (s.regF .cycle 0 R.CYCLE_CLAIM_CFG 15 0 : Int) ≤ cycDiff s.time.cycle m.sent → s.claimReady p x.toNat = true →
    let v := s.modMine p x.toNat fun m => { m with sent := s.time.cycle }
    v.startsNow p (v.linkFrame p 6 tClaim (.claim x.toNat)) → Answers (.claimRefresh p x) s fun t =>
      t.mineOf p x.toNat = some { m with sent := s.time.cycle } ∧ Sent p tClaim (claimBytes x.toNat s.time.cycle 0 0) s t ∧
      OtherPorts p s t ∧ Counted .port p R.PORT_CLAIM_TX s t) ∧
  (∀ (s : State) (p : Fin 1024) (x : BitVec 16) (e : BitVec 48) (m : MyClaim), s.isUp p = true → s.mineOf p x.toNat = some m →
    m.phase = .waiting →
    let a := cycMod (m.sent + 2)
    let b := cycMod (s.time.cycle + 1)
    Answers (.claimAckRx p x e) s fun t =>
      t.mineOf p x.toNat = some { m with phase := .acked (if 0 ≤ cycDiff a b then a else b) } ∧ OtherPorts p s t) ∧
  (∀ (s : State) (p : Fin 1024) (x : BitVec 16) (e : BitVec 48), s.isUp p = true → s.mineOf p x.toNat = none →
    Answers (.claimAckRx p x e) s fun t => Counted .port p R.PORT_CLAIM_ANSWER_STRAY s t ∧ t.ports = s.ports) ∧
  (∀ (s : State) (p : Fin 1024) (x : BitVec 16) (e : BitVec 48) (reason : Nat), s.delineates p = true →
    (Answers (.claimAckRx p x e) s fun t => Counted .port p R.PORT_RX_NOT_UP s t ∧ t.ports = s.ports) ∧
    (Answers (.claimRefusedRx p x reason) s fun t => Counted .port p R.PORT_RX_NOT_UP s t ∧ t.ports = s.ports)) ∧
  (∀ (s : State) (p : Fin 1024) (x : BitVec 16) (reason : Nat) (m : MyClaim), s.isUp p = true → s.mineOf p x.toNat = some m →
    (m.phase = .waiting ∨ ∃ e, m.phase = .acked e) → 1 ≤ reason → reason ≤ 4 → Answers (.claimRefusedRx p x reason) s fun t =>
      t.mineOf p x.toNat = some { m with phase := .refused } ∧ OtherPorts p s t ∧ t.alarm.pend = addOcc
        { unit := 82 + p, cls := 0x00D, source := p, detail := x.toNat + reason * 2 ^ 16, count := 1, ns := s.nowNs } s.alarm.pend)

/-- R96, R97 and R88, the partner: a CLAIM is counted, and in HOLD_OFF dropped; one for an owner that marks no slot of the port is answered CLAIM_REFUSED, and so is one for an owner that
another node holds or has pending on any port, unless that claim is pending, of this cycle and of a higher node ID: it is withdrawn; one for a
free owner takes the lowest free entry of the claim table, pending until the second cycle after it; one from the holder refreshes its entry. An entry
without a refresh for 4 × CLAIM_REFRESH cycles is freed and counted.
Readings the model chose where the spec leaves one open: log entry 14. -/
def Obligations.PartnerDecidesClaims : Prop :=
  (∀ (s : State) (p : Fin 1024) (src x : BitVec 16) (asked : BitVec 48), s.isUp p = true → s.node.state = .holdOff →
    Answers (.claimRx p src x asked) s fun t => t.ports = s.ports ∧ t.outs = s.outs ∧ Counted .port p R.PORT_CLAIM_RX s t ∧
      Counted .port p R.PORT_CLAIM_DROPPED s t) ∧
  (∀ (s : State) (p : Fin 1024) (src x : BitVec 16) (asked : BitVec 48), s.isUp p = true → s.node.state ≠ .holdOff →
    (s.feat 12 = false ∨ s.live.marksSlot p x.toNat = false) →
    let fr : TxFrame := { cls := 6, typ := tClaimRefused, origin := .own
                          frame := s.claimFrame p tClaimRefused src.toNat (claimBytes x.toNat asked.toNat 1 0) }
    Answers (.claimRx p src x asked) s fun t =>
      (t.port p).claims = (s.port p).claims ∧ Counted .port p R.PORT_CLAIM_RX s t ∧ Counted .port p R.PORT_CLAIM_REFUSED_TX s t ∧
      ((s.port p).txq = [] → (s.loaded p fr).headDrop p fr = none → (t.port p).txq = [fr])) ∧
  (∀ (s : State) (p : Fin 1024) (src x : BitVec 16) (asked : BitVec 48), s.isUp p = true → s.node.state ≠ .holdOff →
    s.feat 12 = true → s.live.marksSlot p x.toNat = true →
    (∀ y, y ∈ s.claimOthers x.toNat src.toNat → s.givesWay src.toNat y.2.2 = false →
      Answers (.claimRx p src x asked) s fun t => (∀ q, (t.port q).claims = (s.port q).claims) ∧
        Counted .port p R.PORT_CLAIM_RX s t ∧ Counted .port p R.PORT_CLAIM_REFUSED_TX s t) ∧
    (∀ q i e, s.claimOthers x.toNat src.toNat = [(q, i, e)] → s.givesWay src.toNat e = true → q ≠ p.val →
      Answers (.claimRx p src x asked) s fun t => Counted .port p R.PORT_CLAIM_RX s t ∧
        (t.port q).claims = smErase (s.port q).claims i)) ∧
  (∀ (s : State) (p : Fin 1024) (src x : BitVec 16) (asked : BitVec 48) (i : Nat), s.isUp p = true → s.node.state ≠ .holdOff →
    s.feat 12 = true → s.live.marksSlot p x.toNat = true → s.claimOthers x.toNat src.toNat = [] →
    ((s.port p).claims.find? fun e => e.2.owner == x.toNat && e.2.holder == src.toNat) = none → i < 64 →
    smFind (s.port p).claims i = none → (∀ j, j < i → smFind (s.port p).claims j ≠ none) →
    Answers (.claimRx p src x asked) s fun t =>
      smFind (t.port p).claims i = some { owner := x.toNat, holder := src.toNat, eff := cycMod (s.time.cycle + 2), held := false,
                                          cycle := s.time.cycle, asked := asked.toNat, fresh := s.time.cycle } ∧
      (∀ j, j ≠ i → smFind (t.port p).claims j = smFind (s.port p).claims j) ∧ Counted .port p R.PORT_CLAIM_RX s t ∧
      Counted .port p R.PORT_CLAIM_ACK_TX s t) ∧
  (∀ (s : State) (p : Fin 1024) (src x : BitVec 16) (asked : BitVec 48) (i : Nat) (e : ClaimEnt), s.isUp p = true →
    s.node.state ≠ .holdOff → s.feat 12 = true → s.live.marksSlot p x.toNat = true → s.claimOthers x.toNat src.toNat = [] →
    ((s.port p).claims.find? fun e => e.2.owner == x.toNat && e.2.holder == src.toNat) = some (i, e) →
    Answers (.claimRx p src x asked) s fun t =>
      (t.port p).claims = smSet (s.port p).claims i { e with fresh := s.time.cycle } ∧ Counted .port p R.PORT_CLAIM_RX s t) ∧
  (∀ (s : State) (p : Fin 1024) (i : Fin 64) (e : ClaimEnt), smFind (s.port p).claims i = some e →
    4 * (s.regF .cycle 0 R.CYCLE_CLAIM_CFG 15 0 : Int) ≤ cycDiff s.time.cycle e.fresh → Answers (.claimExpired p i) s fun t =>
      t.port p = { s.port p with claims := smErase (s.port p).claims i } ∧ Counted .port p R.PORT_CLAIM_RELEASED s t ∧
      OtherPorts p s t)

/-! Slates and cuts. -/

/-- R38, R39, R100, R110 and R111: a table write reaches the staged slate alone, is refused with LIVE_SLATE for the live one and with SLATE_ARMED while a
cut is armed or committed, and returns CHECK to NONE; a write to a range that holds no table is UNMAPPED; a write of CYCLE_TICKS likewise reaches the staged slate. CHECK starts a validation; its end sets PASS, or FAIL with the code and the
offset of the first failure. -/
def Obligations.StagedSlateIsWrittenAndChecked : Prop :=
  (∀ (s : State) (off : Nat) (v : Word), s.running → 0x4000000 ≤ off → off < 0x5000000 → off % 8 = 0 →
    offMapped (off % 0x800000) = true →
    (decide (0x4800000 ≤ off) = s.slate.liveB → exec (.slateTableWrite off v) s = .next (s.err .cycle 0 0x0008 0 off)) ∧
    (decide (0x4800000 ≤ off) ≠ s.slate.liveB → s.cutBusy = true →
      exec (.slateTableWrite off v) s = .next (s.err .cycle 0 0x0009 0 off)) ∧
    (decide (0x4800000 ≤ off) ≠ s.slate.liveB → s.cutBusy = false → Answers (.slateTableWrite off v) s fun t =>
      smFind t.staged.tbl (off % 0x800000) = some v ∧
      (∀ o, o ≠ off % 0x800000 → smFind t.staged.tbl o = smFind s.staged.tbl o) ∧ t.live = s.live ∧
      t.slate.liveB = s.slate.liveB ∧ t.slate.check = .none)) ∧
  (∀ (s : State) (off : Nat) (v : Word), s.pwr.held = false → 0x4000000 ≤ off → off < 0x5000000 →
    offMapped (off % 0x800000) = false → exec (.slateTableWrite off v) s = .next (s.err .cycle 0 0x0006 0 off)) ∧
  (∀ (s : State) (v : Word), s.running → s.cutBusy = false →
    Answers (.slateTableWrite (pageBase .cycle 0 + R.CYCLE_CYCLE_TICKS) v) s fun t =>
      t.staged = { s.staged with ticks := fld v 23 0 } ∧ t.live = s.live ∧ t.slate.check = .none) ∧
  (∀ s : State, s.opens .cycle R.CYCLE_SLATE_CTRL 0 →
    (s.cutBusy = true → exec .slateCheck s = .next (s.err .cycle 0 0x0151 s.slate.cut.code R.CYCLE_SLATE_CTRL)) ∧
    (s.cutBusy = false → s.slate.check = .running → exec .slateCheck s = .next s) ∧
    (s.cutBusy = false → s.slate.check ≠ .running → Answers .slateCheck s fun t =>
      t.slate = { s.slate with check := .running } ∧ Counted .cycle 0 R.CYCLE_CHECKS_RUN s t)) ∧
  (∀ s : State, s.slate.check = .running → firstFinding s.findings = none → Answers .validationEnd s fun t =>
    t.slate = { s.slate with check := .pass, adoptGo := s.slate.adopt } ∧ (t.hdr .cycle 0).intCause.getLsbD 17 = true) ∧
  (∀ (s : State) (off code : Nat), s.slate.check = .running → firstFinding s.findings = some (off, code) →
    Answers .validationEnd s fun t =>
      t.slate = { s.slate with check := .fail, vcode := code, failOff := off, adopt := false,
                               adoptGo := s.slate.adoptGo && !s.slate.adopt } ∧
      (t.hdr .cycle 0).intCause.getLsbD 17 = true ∧ Counted .cycle 0 R.CYCLE_CHECKS_FAILED s t)

/-- R81: ADOPT is accepted in OFF and LISTEN and waits for the validation, which it starts unless a check runs or has passed; in any
other state it is refused with NODE_STATE_BUSY. Once the validation has passed, the staged slate becomes live on one edge; a line or
slice that another owner holds refuses it.
Readings the model chose where the spec leaves one open: log entries 18 and 27. -/
def Obligations.AdoptSwitchesAValidSlate : Prop :=
  (∀ s : State, s.opens .cycle R.CYCLE_NODE_CTRL 0 →
    (s.node.state ≠ .off → s.node.state ≠ .listen →
      exec .adopt s = .next (s.err .cycle 0 0x0140 s.node.state.code R.CYCLE_NODE_CTRL)) ∧
    ((s.node.state = .off ∨ s.node.state = .listen) → s.slate.adopt = false → Answers .adopt s fun t =>
      t.slate = { s.slate with
        adopt := true, adoptGo := s.slate.check == .pass
        check := if s.slate.check = .none ∨ s.slate.check = .fail then .running else s.slate.check })) ∧
  (∀ s : State, s.slate.adoptGo = true → s.claimBlocked = none → Answers .adoptSwitch s fun t =>
    t.live = s.staged ∧ t.staged = s.live ∧ t.slate.liveB = !s.slate.liveB ∧ t.slate.check = .none ∧ t.slate.adopt = false ∧
    t.slate.adoptGo = false ∧ t.slate.cut = s.slate.cut) ∧
  (∀ (s : State) (off code : Nat), s.slate.adoptGo = true → s.slate.adopt = true → s.claimBlocked = some (off, code) →
    exec .adoptSwitch s = .next
      ({ s with slate := { s.slate with adopt := false, adoptGo := false } }.err .cycle 0 0x0141 code off)) ∧
  (∀ s : State, s.slate.adoptGo = false → exec .adoptSwitch s = .next s)

/-- R112 to R117: CUT_CYCLE arms a cut for a cycle at least three ahead while the node is JOINED or in HOLD_OFF, and otherwise names the state, the busy
cut or the cycle; CANCEL ends an armed cut and is refused once it is committed. At the start of cycle X − 1 an armed cut whose check has passed commits; one
whose check failed or never ended is refused; at the start of cycle X a committed cut makes the staged slate live: CYCLE_START does so once the cycle has its number.
Readings the model chose where the spec leaves one open: log entry 27. -/
def Obligations.CutsArmCommitAndSwitch : Prop :=
  (∀ (s : State) (x : BitVec 48), s.opens .cycle R.CYCLE_CUT_CYCLE 0 →
    (s.inNet = false → exec (.cutArm x) s = .next (s.err .cycle 0 0x0153 s.node.state.code R.CYCLE_CUT_CYCLE)) ∧
    (s.inNet = true → s.cutBusy = true →
      exec (.cutArm x) s = .next (s.err .cycle 0 0x0151 s.slate.cut.code R.CYCLE_CUT_CYCLE)) ∧
    (s.inNet = true → s.cutBusy = false → cycDiff x.toNat (s.time.cycle + 3) < 0 →
      exec (.cutArm x) s = .next (s.err .cycle 0 0x0150 0 (s.time.cycle % 2 ^ 32))) ∧
    (s.inNet = true → s.cutBusy = false → 0 ≤ cycDiff x.toNat (s.time.cycle + 3) → Answers (.cutArm x) s fun t =>
      t.slate = { s.slate with
        x := x.toNat, cut := .armed
        check := if s.slate.check = .none ∨ s.slate.check = .fail then .running else s.slate.check })) ∧
  (∀ s : State, s.opens .cycle R.CYCLE_SLATE_CTRL 0 →
    (s.slate.cut = .armed → Answers .cutCancel s fun t => t.slate = { s.slate with cut := .cancelled }) ∧
    (s.slate.cut = .committed → exec .cutCancel s = .next (s.err .cycle 0 0x0152 0 (s.slate.x % 2 ^ 32))) ∧
    (s.cutBusy = false → exec .cutCancel s = .next (s.err .cycle 0 0x0151 s.slate.cut.code R.CYCLE_SLATE_CTRL))) ∧
  (∀ s : State, s.slate.cut = .armed → 0 ≤ cycDiff (s.time.cycle + 1) s.slate.x →
    (s.slate.check = .pass → s.claimBlocked = none → s.cutCycleStart.slate.cut = .committed ∧
      s.cutCycleStart.live = s.live ∧ ∀ n, n ∈ s.staged.lines → n < 0x1000 → s.cutCycleStart.ownerOf (resLine n) = ownerSched) ∧
    (s.slate.check = .fail → s.cutCycleStart.slate.cut = .refused ∧ s.cutCycleStart.slate.reason = 1 ∧
      s.cutCycleStart.live = s.live) ∧
    (s.slate.check = .none ∨ s.slate.check = .running → s.cutCycleStart.slate.cut = .refused ∧
      s.cutCycleStart.slate.reason = 3 ∧ s.cutCycleStart.slate.vcode = 0x0E)) ∧
  (∀ s : State, s.slate.cut = .committed → 0 ≤ cycDiff s.time.cycle s.slate.x →
    s.cutCycleStart.live = s.staged ∧ s.cutCycleStart.staged = s.live ∧ s.cutCycleStart.slate.cut = .applied ∧
    s.cutCycleStart.slate.applied = s.slate.x ∧ s.cutCycleStart.slate.check = .none) ∧
  (∀ (s : State) (deps : List (Fin 1024 × Int)), s.time.hasCycle = true → let v := s.endCycle.nextCycle.cutBehind
    (s.slate.cut = .committed → 0 ≤ cycDiff v.time.cycle s.slate.x → Answers (.cycleStart deps) s fun t =>
      t.live = s.staged ∧ t.staged = s.live ∧ t.slate.liveB = !s.slate.liveB ∧ t.slate.cut = .applied ∧
      t.slate.applied = s.slate.x ∧ t.slate.cutHere = some s.slate.x ∧ t.slate.check = .none) ∧
    (s.slate.cut = .armed → 0 ≤ cycDiff (v.time.cycle + 1) s.slate.x →
      (s.slate.check = .pass → v.claimBlocked = none → v.node.state = .joined → v.node.bellwether = true →
        Answers (.cycleStart deps) s fun t => t.live = s.live ∧ t.slate.liveB = s.slate.liveB ∧ t.slate.cut = .committed) ∧
      (s.slate.check = .fail → Answers (.cycleStart deps) s fun t =>
        t.live = s.live ∧ t.slate.cut = .refused ∧ t.slate.reason = 1 ∧ t.slate.refusedX = s.slate.x)))

/-! Gates and the frame paths. -/

/-- R17, R102, R105, R195, R196 and R227: a gate entry starts at its tick and is the last one run; in JOINED and HOLD_OFF its event line, and on the hub edge of its tick the line of a pending EVENT that the receiver still owns, pulse:
every SEND_ON_EVENT job fetched on an earlier hub edge that waits for the line is reached, unless the line has pulsed in the same period; an EVENT whose cycle is over fires as late. An EVENT frame at the hub on a line
that is not set in EVENT_RX_LINES is refused; a timed one of a later instant enters the pending store, and an untimed one pulses its line. HEAD_LOAD
marks one head as loaded. -/
def Obligations.GateEntriesAndEventsPulseTheirLines : Prop :=
  (∀ (s : State) (p : Fin 1024) (i st : Nat) (e : Word), s.time.hasCycle = true →
    (match (s.port p).gateAt with
     | some (c, j) => if c = s.time.cycle then j + 1 else 0
     | none => 0) = i → (gclSpans s.live p)[i]? = some (st, e) → let at_ := s.tickAt st
    let u := s.runTo at_
    Answers (.gateEntryStart p) s fun t =>
      (t.port p).gateAt = some (s.time.cycle, i) ∧ t.time.now = max s.time.now at_ ∧ OtherPorts p u t ∧
      (gEvent e = true → s.inNet = true → (gLine e, hubEdge at_) ∉ s.evt.seen → t.xfer.jobs = u.xfer.jobs.map fun j =>
        if j.kind = .sendOnEvent ∧ j.line = gLine e ∧ j.pulsed = false ∧ j.started = false ∧ hubEdge j.fetchAt < hubEdge at_ then
          { j with pulsed := true, place := u.xfer.nextPlace } else j) ∧
      (gEvent e = false ∨ s.inNet = false ∨ (gLine e, hubEdge at_) ∈ s.evt.seen →
        t.xfer = u.xfer ∧ t.evt = u.evt ∧ t.outs = u.outs)) ∧
  (∀ (s : State) (e : PendEvt), s.evt.pend = [e] → e.cycle = s.time.cycle → e.tick < s.ticks →
    let at_ := ceilHub (s.tickAt e.tick)
    Answers .eventPendingFire s fun t =>
      t.evt.pend = [] ∧ t.time.now = max s.time.now at_ ∧
      (s.ownerOf (resLine e.line) = ownerEvRx → (e.line, hubEdge at_) ∉ s.evt.seen → t.xfer.jobs = s.xfer.jobs.map fun j =>
        if j.kind = .sendOnEvent ∧ j.line = e.line ∧ j.pulsed = false ∧ j.started = false ∧ hubEdge j.fetchAt < hubEdge at_ then
          { j with pulsed := true, place := s.xfer.nextPlace } else j) ∧
      (s.ownerOf (resLine e.line) ≠ ownerEvRx ∨ (e.line, hubEdge at_) ∈ s.evt.seen → t.xfer = s.xfer ∧ t.outs = s.outs)) ∧
  (∀ (s : State) (e : PendEvt), s.evt.pend = [e] → 0 < cycDiff e.cycle s.time.cycle → exec .eventPendingFire s = .next s) ∧
  (∀ (s : State) (e : PendEvt), s.evt.pend = [e] → cycDiff e.cycle s.time.cycle < 0 →
    Answers .eventPendingFire s fun t => t.evt.pend = [] ∧ Counted .evt 0 R.EVT_EVENT_RX_LATE s t) ∧
  (∀ (s : State) (p : Fin 1024) (i : Nat), Answers (.headLoad p i) s fun t =>
    OtherPorts p s t ∧ (∀ j, j ≠ i → (t.port p).txq[j]? = (s.port p).txq[j]?) ∧
    (t.port p).txq[i]? = ((s.port p).txq[i]?).map fun f => { f with head := true }) ∧
  (∀ (s : State) (x : HubFrame) (ecc : EccList), let h := hdrOf x.frame.body
    let b := payloadOf x.frame.body
    let line := beAt b 0 1 % 64
    let u := s.atLeast (x.edge * wHub)
    s.nextHub = some x → h.typ = tEvent → s.live.identify h.handle = none →
    (bit (s.reg .evt 0 R.EVT_EVENT_RX_LINES) line = false → Answers (.hubReceive ecc) s fun t =>
      t.evt = s.evt ∧ t.xfer = s.xfer ∧ Counted .evt 0 R.EVT_EVENT_RX_REFUSED s t) ∧
    (bit (s.reg .evt 0 R.EVT_EVENT_RX_LINES) line = true → nbit (beAt b 0 1) 7 = true → s.time.hasCycle = true →
      let d := sext 16 (toField 16 ((beAt b 2 2 : Int) - s.time.cycle))
      (0 < d ∨ d = 0 ∧ u.tick < beAt b 4 3) → s.evt.pend.length < 64 → Answers (.hubReceive ecc) s fun t =>
        t.evt.pend = s.evt.pend ++ [⟨cycMod (s.time.cycle + d.toNat), beAt b 4 3, line⟩] ∧ t.xfer = s.xfer ∧
        Counted .evt 0 R.EVT_EVENT_RX s t) ∧
    (bit (s.reg .evt 0 R.EVT_EVENT_RX_LINES) line = true → nbit (beAt b 0 1) 7 = false →
      (line, hubEdge u.time.now) ∉ s.evt.seen → Answers (.hubReceive ecc) s fun t =>
        t.evt.pend = s.evt.pend ∧ Counted .evt 0 R.EVT_EVENT_RX s t ∧ t.xfer.jobs = s.xfer.jobs.map fun j =>
          if j.kind = .sendOnEvent ∧ j.line = line ∧ j.pulsed = false ∧ j.started = false ∧
              hubEdge j.fetchAt < hubEdge u.time.now then
            { j with pulsed := true, place := s.xfer.nextPlace } else j))

/-- R103, R104, R151: the only frame of a port, of a class whose window is open and lets it end before the close, starts at a tick once the lane is
free: an express frame leaves whole and takes the lane for its bytes, preamble and gap; a preemptable one puts its first fragment on the wire; one that cannot end before the close waits and is counted once.
A frame of a JOINED node whose longest window is too short for it is discarded and counted in TX_NO_FIT, and one of a node outside the network in TX_NODE_DISCARD (R91). -/
def Obligations.FramesStartInTheirWindow : Prop :=
  ∀ (s : State) (p : Fin 1024) (tick tDep close : Nat) (fr : TxFrame), let u := s.atLeast (s.tickAt tick)
    s.still (s.tickAt tick) → (s.port p).txq = [fr] → (s.port p).rest = none → fr.cls < 8 → fr.origin.isLink = false →
    (∀ x, fr.origin ≠ .claim x) →
    (u.headDrop p fr = none → u.headSays p fr = .go close → (s.port p).laneFree ≤ u.time.now →
      u.preemptable p fr.cls = false → Answers (.frameTxStart p tick tDep) s fun t =>
        (t.port p).txq = [] ∧ t.outs = s.outs ++ [.frame p fr.frame true] ∧ OtherPorts p s t ∧
        (t.port p).laneFree = u.time.now + (8 + frameLen fr.frame + 12) * s.wByte p) ∧
    (u.headDrop p fr = none → u.headSays p fr = .go close → (s.port p).laneFree ≤ u.time.now →
      u.preemptable p fr.cls = true → Answers (.frameTxStart p tick tDep) s fun t =>
        (t.port p).txq = [] ∧ t.outs = s.outs ∧ OtherPorts p s t ∧ (t.port p).frameNo = ((s.port p).frameNo + 1) % 4 ∧
        (t.port p).wire = some { fr, frameNo := (s.port p).frameNo, sent := 0, fragNo := 0, frags := 0, start := u.time.now, close }) ∧
    (s.node.state = .joined → (s.replica (p / 16)).valid = true → s.isUp p = true → u.preemptable p fr.cls = false →
      u.longest p fr.cls < u.occupancy p (frameLen fr.frame) → Answers (.frameTxStart p tick tDep) s fun t =>
        (t.port p).txq = [] ∧ (t.port p).laneFree = (s.port p).laneFree ∧ Counted .port p R.PORT_TX_NO_FIT s t ∧
        ((∀ id i m, fr.origin ≠ .job id i m) → t.outs = s.outs)) ∧
    (s.isUp p = true → u.headDrop p fr = some .nodeLeft → Answers (.frameTxStart p tick tDep) s fun t =>
      (t.port p).txq = [] ∧ Counted .port p R.PORT_TX_NODE_DISCARD s t) ∧
    (u.headDrop p fr = none → u.headSays p fr = .tooLong → fr.deferred = false → Answers (.frameTxStart p tick tDep) s fun t =>
      (t.port p).txq = [{ fr with deferred := true }] ∧ t.outs = s.outs ∧ Counted .port p R.PORT_TX_DEFERRED s t)

/-- R18, R20, R126, R136, R165, R169, R189, R190, R267, R369 and R372: a frame received in UP that fails stage 1 or 2 is discarded and counted, and an output port that had begun to relay it ends it with a wrong FCS; one for another node goes
to the ports of its relay entry, but not back to its own, or is counted in RX_NO_ROUTE; one for this node that passes stages 1 to 5 goes to the hub with its class
and last bit, no earlier than its last bit and than the frames its port received before, and is counted in RX_ITPITOS; one that fails a header check is counted there and goes no further; a frame that is no HELLO and comes before UP is counted in
RX_NOT_UP. The hub takes the frame of the earliest edge.
Readings the model chose where the spec leaves one open: log entry 33. -/
def Obligations.ReceivedFramesPassTheStages : Prop :=
  (∀ (s : State) (r : RxFrame) (stage ctr : Nat), let u := s.seenAt r.port r.tRx
    let itp := u.isItp r.port r.frame
    s.isUp r.port = true → failed12 r.fecOk r.fcsOk (frameLen r.frame) = some (stage, ctr) →
    (r.begun = [] → Answers (.frameReceive r) s fun t =>
      t.hubIn = u.hubIn ∧ t.ports = u.ports ∧ t.outs = u.outs ∧ Counted .port r.port ctr u t) ∧
    (∀ cls q, u.bound itp r.frame = true → u.stage3 r.port itp r.frame r.tRx = none →
      (itp = true → u.relayCheck r.frame = none) → u.routeOf itp r.frame = some (cls, [q]) →
      let fr : TxFrame := { cls, typ := if itp then typOf r.frame else 0, origin := .relay r.port, frame := r.frame }
      ((∃ b ∈ r.begun, b.val = q) → u.cutsThrough r.port fr q = true → Answers (.frameReceive r) s fun t =>
        t.outs = u.outs ++ [.frame q r.frame false] ∧ (t.port q).laneFree = u.time.now + 12 * u.wByte q ∧ OtherPorts q u t ∧
        t.hubIn = u.hubIn ∧ Counted .port q R.PORT_TX_STOMPED u t ∧ Counted .port r.port ctr u t) ∧
      ((∀ b ∈ r.begun, b.val ≠ q) ∨ u.cutsThrough r.port fr q = false → Answers (.frameReceive r) s fun t =>
        t.outs = u.outs ∧ t.ports = u.ports ∧ t.hubIn = u.hubIn ∧ Counted .port r.port ctr u t))) ∧
  (∀ (s : State) (r : RxFrame), let u := s.seenAt r.port r.tRx
    let itp := u.isItp r.port r.frame
    s.isUp r.port = true → failed12 r.fecOk r.fcsOk (frameLen r.frame) = none → r.frame.etherType ≠ 0x8808 →
    u.stage3 r.port itp r.frame r.tRx = none → u.bound itp r.frame = true → (itp = true → u.relayCheck r.frame = none) →
    (u.routeOf itp r.frame = none → Answers (.frameReceive r) s fun t =>
      t.ports = u.ports ∧ t.hubIn = u.hubIn ∧ Counted .port r.port R.PORT_RX_NO_ROUTE u t) ∧
    (∀ cls, u.routeOf itp r.frame = some (cls, [r.port.val]) → Answers (.frameReceive r) s fun t =>
      t.ports = u.ports ∧ t.hubIn = u.hubIn ∧ Counted .port r.port R.PORT_RELAY_RX u t ∧
      Counted .port r.port R.PORT_RELAY_HAIRPIN u t) ∧
    (∀ cls q, u.routeOf itp r.frame = some (cls, [q]) → q ≠ r.port → (itp = true → typOf r.frame ≠ tEvent) →
      let fr : TxFrame := { cls, typ := if itp then typOf r.frame else 0, origin := .relay r.port, frame := r.frame }
      (u.port q).txq = [] → (u.loaded q fr).headDrop q fr = none → Answers (.frameReceive r) s fun t =>
        (t.port q).txq = [fr] ∧ OtherPorts q u t ∧ t.hubIn = u.hubIn ∧ Counted .port r.port R.PORT_RELAY_RX u t)) ∧
  (∀ (s : State) (r : RxFrame), let u := s.seenAt r.port r.tRx
    s.isUp r.port = true → failed12 r.fecOk r.fcsOk (frameLen r.frame) = none →
    r.frame.etherType ≠ 0x8808 → u.isItp r.port r.frame = true → u.stage3 r.port true r.frame r.tRx = none →
    u.bound true r.frame = false →
    (u.stage5 r.port r.frame = none → linkLocal (typOf r.frame) = false →
      let last := u.lastBit r.port r.tRx (frameLen r.frame)
      let e := max r.edge (max (u.port r.port).hubLast (hubEdge last))
      Answers (.frameReceive r) s fun t =>
        t.hubIn = u.hubIn ++ [{ edge := e, port := r.port, cls := u.rxClass r.port true r.frame, frame := r.frame, last }] ∧
        t.port r.port = { u.port r.port with hubLast := e } ∧ OtherPorts r.port u t ∧ t.outs = u.outs ∧
        Counted .port r.port R.PORT_RX_ITPITOS u t) ∧
    (∀ ctr, u.stage5 r.port r.frame = some ctr → Answers (.frameReceive r) s fun t =>
      t.hubIn = u.hubIn ∧ t.ports = u.ports ∧ t.outs = u.outs ∧ Counted .port r.port ctr u t)) ∧
  (∀ (s : State) (r : RxFrame), s.delineates r.port = true → typOf r.frame ≠ tHello → Answers (.frameReceive r) s fun t =>
    t.hubIn = s.hubIn ∧ t.ports = s.ports ∧ t.outs = s.outs ∧ Counted .port r.port R.PORT_RX_NOT_UP s t) ∧
  (∀ (s : State) (x : HubFrame) (ecc : EccList), s.nextHub = some x → Answers (.hubReceive ecc) s fun t =>
    t.hubIn = s.hubIn.erase x ∧ t.time.now = max s.time.now (x.edge * wHub))

/-- R204, R205, R209, R211 and R262, R263: a DATA frame that no stream entry identifies and that passes the landing-zone check and the decoder writes its
elements at TARGET in rising order and no other byte of memory, and adds its length to the landed count of the zone; an ACCUM frame combines its elements with those in
memory there, and one that meets a poisoned word changes no memory and poisons the zone; one that fails a
check of the zone writes nothing. -/
def Obligations.StoredFramesLandInTheirZone : Prop :=
  (∀ (s : State) (x : HubFrame) (z : Nat) (xs : List Nat), let h := hdrOf x.frame.body
    s.nextHub = some x → s.live.identify h.handle = none → h.typ = tData → h.op = 1 → s.live.stage7 h = .ok z →
    stage8 h (payloadOf x.frame.body) = .ok xs → s.memSafe → s.poison = [] → s.errs = [] → s.xfer.jobs = [] →
    Answers (.hubReceive []) s fun t =>
      let n := xs.length * elemSize h.elem
      t.readMem h.target n = memOfElems h.elem xs ∧
      (∀ a, a < h.target ∨ h.target + n ≤ a → t.readByte a = s.readByte a) ∧
      (t.zone z).landed = ((s.zone z).landed + coverOf h) % 2 ^ 48 ∧ (t.zone z).poisoned = (s.zone z).poisoned ∧
      Counted .lz 0 R.LZ_LANDED_FRAMES s t) ∧
  (∀ (s : State) (x : HubFrame) (z : Nat) (xs : List Nat), let h := hdrOf x.frame.body
    s.nextHub = some x → s.live.identify h.handle = none → h.typ = tAccum → s.live.stage7 h = .ok z →
    stage8 h (payloadOf x.frame.body) = .ok xs → s.memSafe → s.errs = [] → s.xfer.jobs = [] →
    let n := xs.length * elemSize h.elem
    (s.poison = [] → Answers (.hubReceive []) s fun t =>
      let cs := combineAll h.op h.elem (elemsOfMem h.elem (s.readMem h.target n)) xs
      t.readMem h.target n = memOfElems h.elem (cs.map Comb.x) ∧
      (∀ a, a < h.target ∨ h.target + n ≤ a → t.readByte a = s.readByte a) ∧
      (t.zone z).landed = ((s.zone z).landed + coverOf h) % 2 ^ 48 ∧ (t.zone z).poisoned = (s.zone z).poisoned ∧
      Counted .lz 0 R.LZ_LANDED_FRAMES s t ∧ Counted .codec 0 R.CODEC_ACC_FRAMES s t) ∧
    (s.poisoned h.target (coverOf h) = true → Answers (.hubReceive []) s fun t =>
      t.mem = s.mem ∧ t.poison = s.poison ∧ (t.zone z).poisoned = true ∧ (t.zone z).landed = (s.zone z).landed ∧
      Counted .mem 0 R.MEM_LAND_POISONED s t)) ∧
  (∀ (s : State) (x : HubFrame) (ecc : EccList) (e : Nat × Nat), let h := hdrOf x.frame.body
    s.nextHub = some x → s.live.identify h.handle = none → h.typ = tData ∨ h.typ = tAccum → s.live.stage7 h = .error e →
    s.feat 22 = false →
    Answers (.hubReceive ecc) s fun t => t.mem = s.mem ∧ t.poison = s.poison ∧ t.lz.zones = s.lz.zones)

/-! Ports and links. -/

/-- R128 to R130, coming up: a signal takes DETECT to TRAINING, ready receivers take TRAINING or WAKING to LOCK with the coefficients they arrived at, codeword lock opens the observation
window, and its end latches the offered word and enters HELLO. Training that times out is counted, adds to both runs of failures and returns to DETECT, and its third failure in a
row raises an alarm; a WAKING port falls back to TRAINING after 1,250 µs; a port without lock returns to DETECT after 1 ms.
Readings the model chose where the spec leaves one open: log entry 29. -/
def Obligations.LinkComesUpInStages : Prop :=
  ∀ (s : State) (p : Fin 1024), let l := s.link p
    (l.state = .detect → Answers (.signalDetect p) s fun t =>
      t.link p = { l with state := .training, since := s.time.now } ∧ OnlyPort p s t) ∧
    (l.state = .training ∨ l.state = .waking → ∀ eq, Answers (.trainingReady p eq) s fun t =>
      t.link p = { l with state := .lock, since := s.time.now, failRun := 0, locked := false, winBad := false, eq
                          fast := l.state = .waking && l.coeffs.isSome } ∧ OnlyPort p s t) ∧
    (l.state = .lock → l.locked = false → Answers (.codewordLock p) s fun t =>
      t.link p = { l with locked := true, since := s.time.now, winBad := false, cwCount := 0, uncorr := [] } ∧ OnlyPort p s t) ∧
    (l.state = .lock → l.locked = true → let u := s.runTo (l.since + if l.fast then 50 * wUs else wMs)
      Answers (.observationWindowEnd p) s fun t =>
        t.time.now = max s.time.now (l.since + if l.fast then 50 * wUs else wMs) ∧ OtherPorts p u t ∧
        t.link p = { u.link p with state := .hello, offer := u.offered p, since := t.time.now, helloDue := t.time.now }) ∧
    (l.state = .training → let u := s.runTo (l.since + bitsOf l.trainCfg 15 0 * wMs)
      Answers (.trainTimeout p) s fun t =>
        t.time.now = max s.time.now (l.since + bitsOf l.trainCfg 15 0 * wMs) ∧ (t.link p).state = .detect ∧
        (t.link p).failRun = (u.link p).failRun + 1 ∧ (t.link p).failsUp = (u.link p).failsUp + 1 ∧
        (t.link p).since = t.time.now ∧ Counted .port p R.PORT_TRAIN_FAILS u t ∧
        ((u.link p).failRun < 2 → t.alarm = u.alarm ∧ OtherPorts p u t) ∧
        (2 ≤ (u.link p).failRun → Alarmed 0x010 p ((u.link p).failsUp + 1) t)) ∧
    (l.state = .waking → let u := s.runTo (l.since + 1250 * wUs)
      Answers (.wakeTrainTimeout p) s fun t =>
        t.time.now = max s.time.now (l.since + 1250 * wUs) ∧ OtherPorts p u t ∧
        t.link p = { u.link p with state := .training, since := t.time.now, eq := [] }) ∧
    (l.state = .lock → l.locked = false → let u := s.runTo (l.since + wMs)
      Answers (.lockTimeout p) s fun t =>
        t.time.now = max s.time.now (l.since + wMs) ∧ (t.link p).state = .detect ∧ (t.link p).since = t.time.now ∧
        OtherPorts p u t)

/-- R133, R134: a HELLO that is due goes out, and the next is due an INTERVAL, or in UP a KEEPALIVE, after it; the SWITCH HELLO goes out at once; one received in LOCK or HELLO is kept, in UP it keeps the link alive, and once each side has acknowledged the other the word used is what
both offer, the partner is named, and the port goes to SWITCH where LL_FEC is agreed and to UP otherwise, or to FAILED with the reason. HELLO without completion
returns to DETECT and is counted.
Readings the model chose where the spec leaves one open: log entries 13 and 30. -/
def Obligations.HelloAgreesOnTheLink : Prop :=
  (∀ (s : State) (p : Fin 1024), let l := s.link p
    let u := s.runTo l.helloDue
    let m := u.link p
    (l.state = .hello ∧ (m.kept = none ∨ m.gotAck = false) ∨
      l.state = .up ∧ l.sleeping = false ∧ (bit l.used 1 = false ∨ l.switched = true)) →
    u.startsNow p (u.linkFrame p 6 tHello (.hello false false)) → Answers (.helloTx p) s fun t =>
      Sent p tHello (helloBytes p u.instTag m.offer m.etherType m.kept.isSome false false) u t ∧ OtherPorts p u t ∧
      (t.link p).state = m.state ∧ (m.state = .hello → m.kept.isSome = true → (t.link p).sentAck.isSome = true) ∧
      (t.link p).helloDue = u.time.now + (if m.state = .up then bitsOf m.helloCfg 15 0 else bitsOf m.helloCfg 23 16) * wUs) ∧
  (∀ (s : State) (p : Fin 1024), let l := s.link p
    l.state = .switch → l.switched = false → s.startsNow p (s.linkFrame p 6 tHello (.hello true false)) →
    Answers (.helloTx p) s fun t =>
      Sent p tHello (helloBytes p s.instTag l.offer l.etherType l.kept.isSome true false) s t ∧ OtherPorts p s t ∧
      (t.link p).switched = true ∧ (t.link p).swEnd = (t.link p).since) ∧
  (∀ (s : State) (p : Fin 1024) (h : Hello) (e : Nat), let l := s.link p
    let u := (s.modLink p fun l => { l.swIn h.switch with kept := some h, gotAck := l.gotAck || h.ack }).runTo e
    let m := u.link p
    let used := m.offer &&& h.word &&& wd 0x7F
    l.state = .hello → (l.gotAck = true ∨ h.ack = true) → l.sentAck = some e → Answers (.helloRx p h) s fun t =>
      (t.link p).partnerW = h.word ∧ (t.link p).used = used ∧ (t.link p).partner = some (h.node, h.port, h.tag) ∧
      (bit h.word 0 = false → (t.link p).state = .failed ∧ (t.link p).helloFail = 1) ∧
      (bit h.word 0 = true → h.etherType ≠ m.etherType → (t.link p).state = .failed ∧ (t.link p).helloFail = 2) ∧
      (bit h.word 0 = true → h.etherType = m.etherType → h.node = u.nodeId →
        (t.link p).state = .failed ∧ (t.link p).helloFail = (if h.tag = u.instTag then 3 else 4) ∧
        (if h.tag = u.instTag then Alarmed 0x013 p 0 t else Alarmed 0x014 p h.node t)) ∧
      (bit h.word 0 = true → h.etherType = m.etherType → h.node ≠ u.nodeId →
        (t.link p).state = if bit used 1 then .switch else .up)) ∧
  (∀ (s : State) (p : Fin 1024) (h : Hello), let l := s.link p
    (l.state = .hello → ¬ ((l.gotAck = true ∨ h.ack = true) ∧ l.sentAck.isSome = true) → Answers (.helloRx p h) s fun t =>
      t.link p = { l.swIn h.switch with kept := some h, gotAck := l.gotAck || h.ack } ∧ OnlyPort p s t) ∧
    (l.state = .lock → l.locked = true → Answers (.helloRx p h) s fun t =>
      t.link p = { l with kept := some h, gotAck := h.ack } ∧ OnlyPort p s t) ∧
    (l.state = .up → s.helloDiffers p h = false → h.sleep = false → Answers (.helloRx p h) s fun t =>
      t.link p = { l with heardAt := s.time.now } ∧ OnlyPort p s t)) ∧
  (∀ (s : State) (p : Fin 1024), (s.link p).state = .hello →
    let u := s.runTo ((s.link p).since + bitsOf (s.link p).trainCfg 23 16 * wMs)
    Answers (.helloTimeout p) s fun t =>
      t.time.now = max s.time.now ((s.link p).since + bitsOf (s.link p).trainCfg 23 16 * wMs) ∧ (t.link p).state = .detect ∧
      OtherPorts p u t ∧ Counted .port p R.PORT_HELLO_TIMEOUTS u t)

/-- R125 and R130, the switch to LL-FEC: 256 codewords after its own SWITCH HELLO the transmitter changes and puts a marker out, and after the partner's the
receiver decodes LL-FEC; without LL lock 500 µs after its own SWITCH HELLO the port counts the failure, raises an alarm, falls back, is silent for 10 µs with reason 10 and
then returns to DETECT.
Readings the model chose where the spec leaves one open: log entries 30 and 82 (the first marker carries 0). -/
def Obligations.LowLatencySwitchOrFallsBack : Prop :=
  ∀ (s : State) (p : Fin 1024), let l := s.link p
    ((l.state = .switch ∨ l.state = .up) → l.squelched = false → l.switched = true → l.txLL = false → s.pwr.mfg = false →
      let u := s.runTo (l.swEnd + 256 * s.wCodeword p)
      Answers (.llSwitchBoundary p false) s fun t =>
        t.link p = { u.link p with txLL := true, fecLL := true, llAt := u.time.now } ∧
        t.outs = u.outs ++ [.llStart p (llEncode (List.replicate 256 0x1E5 ++ [0, 0]))] ∧ OtherPorts p u t) ∧
    (l.state = .switch → l.squelched = false → l.swSeen = true → l.rxLL = false → l.swCw + 256 ≤ l.cwCount →
      Answers (.llSwitchBoundary p true) s fun t =>
      t.link p = { l with rxLL := true, llCw := 0, llMark := none, llLock := false, llMiss := 0, cwCount := 0, uncorr := [] } ∧
      t.outs = s.outs ∧ OtherPorts p s t) ∧
    (l.state = .switch → l.squelched = false → l.switched = true → let u := s.runTo (l.since + 500 * wUs)
      Answers (.llSwitchTimeout p) s fun t =>
        t.time.now = max s.time.now (l.since + 500 * wUs) ∧ (∃ o, t.outs = u.outs ++ o ++ [.squelch p]) ∧
        t.link p = { u.link p with fallback := true, squelched := true, downReason := 10, since := t.time.now } ∧
        Counted .port p R.PORT_LL_SWITCH_FAILS u t ∧ Alarmed 0x011 p 0 t) ∧
    (l.squelched = true → l.state = .switch → let u := s.runTo (l.since + 10 * wUs)
      Answers (.squelchEnd p) s fun t =>
        t.time.now = max s.time.now (l.since + 10 * wUs) ∧ (t.link p).state = .detect ∧ (t.link p).squelched = false ∧
        (t.link p).fallback = (u.link p).fallback ∧ (t.link p).downReason = (u.link p).downReason ∧ OtherPorts p u t)

/-- R122, R126, R128, R132 and R135, going down: a port in UP goes down with reason 1 at a loss of signal, 2 at a loss of lock while there is a signal, 4 without a HELLO for 4 × KEEPALIVE, 5 at a HELLO that
names another partner, 6 at RETRAIN: it drops its delay history, claims and pauses. A standard codeword is counted, with its corrections; the ninth uncorrectable one of 8,192
takes the port down with reason 3. A received codeword of 544 symbols counts as its decoding says.
Readings the model chose where the spec leaves one open: log entries 29, 30 and 82. -/
def Obligations.LinkGoesDownWithItsReason : Prop :=
  (∀ (s : State) (p : Fin 1024), s.isUp p = true →
    Answers (.signalLoss p) s (WentDown p 1) ∧ Answers (.codewordRx p .lockLost true) s (WentDown p 2) ∧
    Answers (.codewordRx p .lockLost false) s (WentDown p 1) ∧
    Answers (.keepaliveTimeout p) s (fun t => WentDown p 4 t ∧
      t.time.now = max s.time.now ((s.link p).heardAt + 4 * bitsOf (s.link p).helloCfg 15 0 * wUs)) ∧
    (∀ h, s.helloDiffers p h = true → Answers (.helloRx p h) s (WentDown p 5)) ∧
    (s.opens .port R.PORT_LINK_CTRL 0 → Answers (.linkRetrain p) s (fun t => WentDown p 6 t ∧ (t.link p).fallback = false))) ∧
  (∀ (s : State) (p : Fin 1024) (sy : List Nat) (sig : Bool),
    (∀ x n, stdDecode sy = some (x, n) → exec (.codewordRx p (.rs sy) sig) s = exec (.codewordRx p (.std n false) sig) s) ∧
    (stdDecode sy = none → exec (.codewordRx p (.rs sy) sig) s = exec (.codewordRx p (.std 0 true) sig) s)) ∧
  (∀ (s : State) (p : Fin 1024) (n : Nat) (sig : Bool), s.isUp p = true → (s.link p).rxLL = false →
    (s.link p).uncorr.length ≤ 8 → Answers (.codewordRx p (.std n false) sig) s fun t =>
      (t.link p).state = .up ∧ (t.link p).cwCount = (s.link p).cwCount + 1 ∧ OtherPorts p s t ∧ Counted .port p R.PORT_FEC_CW s t ∧
      (0 < n → Counted .port p R.PORT_FEC_CW_CORRECTED s t)) ∧
  (∀ (s : State) (p : Fin 1024) (sig : Bool), s.isUp p = true → (s.link p).rxLL = false → (s.link p).uncorr.length = 8 →
    (∀ n, n ∈ (s.link p).uncorr → (s.link p).cwCount < n + 8192) → Answers (.codewordRx p (.std 0 true) sig) s (WentDown p 3)) ∧
  (∀ (s : State) (p : Fin 1024), (s.link p).state = .hello → Answers (.signalLoss p) s fun t =>
    (t.link p).state = .detect ∧ (t.link p).downReason = (s.link p).downReason ∧ OtherPorts p s t)

/-- R141 to R144: SLEEP is refused outside UP and without SLEEP agreed, and otherwise sends the SLEEP HELLO once its gate lets it; 1 µs after it the
port is silent in SLEEP with reason 7. WAKE puts a wake burst out and enters WAKING; a burst for this node does the same and sets ROOSTER_WOKE, any other is counted. A port not UP 2 ms after the
wake is counted and raises an alarm.
Readings the model chose where the spec leaves one open: log entries 13 and 24. -/
def Obligations.PortsSleepAndWake : Prop :=
  (∀ (s : State) (p : Fin 1024), s.opens .port R.PORT_LINK_CTRL 0 → let l := s.link p
    (l.state ≠ .up → exec (.linkSleep p) s = .next (s.err .port p 0x0161 l.state.code R.PORT_LINK_CTRL)) ∧
    (l.state = .up → s.linkBit p 4 = false → exec (.linkSleep p) s = .next (s.err .port p 0x0160 0 R.PORT_LINK_CTRL)) ∧
    (l.state = .up → s.linkBit p 4 = true → l.sleeping = false →
      let v := (s.modLink p fun l => { l with sleeping := true }).modPort p PortSt.dropOwn
      (Answers (.linkSleep p) s fun t => (t.link p).sleeping = true) ∧
      (v.startsNow p (v.linkFrame p 6 tHello (.hello false true)) → Answers (.linkSleep p) s fun t =>
        (t.link p).sleeping = true ∧ (t.link p).slept = true ∧ OtherPorts p s t ∧
        Sent p tHello (helloBytes p s.instTag l.offer l.etherType l.kept.isSome false true) s t)) ∧
    (l.state ≠ .sleep → exec (.linkWake p) s = .next (s.err .port p 0x0161 l.state.code R.PORT_LINK_CTRL)) ∧
    (l.state = .sleep → s.wakeTarget p = none → exec (.linkWake p) s = .next (s.err .port p 0x0162 0 R.PORT_LINK_CTRL)) ∧
    (∀ n, l.state = .sleep → s.wakeTarget p = some n → s.pwr.mfg = false → Answers (.linkWake p) s fun t =>
      (t.link p).state = .waking ∧ (t.link p).wakeAt = some s.time.now ∧ t.outs = s.outs ++ [.wakeBurst p (wakeWord n s.nodeId)] ∧
      OtherPorts p s t ∧ Counted .port p R.PORT_WAKES s t)) ∧
  (∀ (s : State) (p : Fin 1024), s.isUp p = true → (s.link p).slept = true →
    let u := s.runTo ((s.link p).since + wUs)
    Answers (.sleepSquelch p) s fun t =>
      t.time.now = max s.time.now ((s.link p).since + wUs) ∧ (t.link p).state = .sleep ∧ (t.link p).downReason = 7 ∧
      (t.port p).claims = [] ∧ (t.port p).meas = [] ∧ ∃ o, t.outs = u.outs ++ o ++ [.squelch p]) ∧
  (∀ (s : State) (p : Fin 1024) (b : WakeBurst), (s.link p).state = .sleep → s.burstOk p b = true →
    Answers (.wakeBurstRx p b) s fun t => (t.link p).state = .waking ∧ (t.link p).wakeAt = some s.time.now ∧
      (t.hdr .port p).intCause.getLsbD 18 = true ∧ OtherPorts p s t) ∧
  (∀ (s : State) (p : Fin 1024) (b : WakeBurst), (s.link p).state = .sleep → s.burstOk p b = false →
    Answers (.wakeBurstRx p b) s fun t => t.ports = s.ports ∧ Counted .port p R.PORT_ROOSTER_REJECTED s t) ∧
  (∀ (s : State) (p : Fin 1024) (w : Nat), (s.link p).wakeAt = some w → s.isUp p = false → Answers (.wakeLate p) s fun t =>
    (t.link p).wakeAt = none ∧ t.time.now = max s.time.now (w + 2 * wMs) ∧ Counted .port p R.PORT_WAKE_LATE s t ∧
    Alarmed 0x015 p (Config.freeValue s.freeCount).toNat t)

/-- R136 to R139: in UP a MAC control frame of wrong length is counted by its length, one that is no PAUSE and no priority flow control in RX_MAC_CTRL_OTHER, and the others have no effect here. A pause frame that selects
a class of a port with flow control agreed is obeyed at its effect tick, 250 ticks after its last bit, and otherwise ignored, and counted either way. From the effect tick its class is paused
for its time.
Readings the model chose where the spec leaves one open: log entry 32. -/
def Obligations.PausesHoldTheirClasses : Prop :=
  (∀ (s : State) (p : Fin 1024) (op : BitVec 16) (len : Nat), s.isUp p = true →
    (len < 64 → exec (.macControlRx p op len) s = .next (s.countP p R.PORT_RX_UNDERSIZE)) ∧
    (9216 < len → exec (.macControlRx p op len) s = .next (s.countP p R.PORT_RX_OVERSIZE)) ∧
    (64 ≤ len → len ≤ 9216 → (len ≠ 64 ∨ op ≠ 0x0001 ∧ op ≠ 0x0101) →
      exec (.macControlRx p op len) s = .next (s.countP p R.PORT_RX_MAC_CTRL_OTHER)) ∧
    (len = 64 → (op = 0x0001 ∨ op = 0x0101) → exec (.macControlRx p op len) s = .next s)) ∧
  (∀ (s : State) (p : Fin 1024) (q tick : Nat), s.isUp p = true → s.feat 4 = true → s.linkBit p 3 = true →
    bit (s.reg .port p R.PORT_PAUSE_CFG) 0 = true → Answers (.pauseRx p ⟨false, 0, [q], tick⟩) s fun t =>
      ∃ e, (t.port p).pauseEff = (s.port p).pauseEff ++ [e] ∧ e.at_ = s.tickAt (tick + 250) ∧ e.pfc = false ∧
        (∀ c n, (c, n) ∈ e.items ↔ c < 8 ∧ nbit (s.regF .port p R.PORT_PAUSE_CFG 15 8) c = true ∧
          n = q * (if s.bytesPerTick p = 8 then 8 else 4) * wTick) ∧
        OtherPorts p s t ∧ Counted .port p R.PORT_RX_PAUSE_OBEYED s t) ∧
  (∀ (s : State) (p : Fin 1024) (f : PauseFrame), s.isUp p = true → (s.feat 4 = false ∨ s.linkBit p 3 = false) →
    exec (.pauseRx p f) s = .next (s.countP p R.PORT_RX_PAUSE_IGNORED)) ∧
  (∀ (s : State) (p : Fin 1024) (at_ c n : Nat) (pfc : Bool), (s.port p).pauseEff = [⟨at_, pfc, [(c, n)]⟩] →
    let u := s.runTo at_
    (u.port p).wire = none → 0 < n → Answers (.pauseEffect p) s fun t =>
      t.time.now = max s.time.now at_ ∧ (t.port p).pauseEff = [] ∧ OtherPorts p u t ∧
      ∀ a, at_ ≤ a → a < at_ + n → (t.port p).paused c a = true) ∧
  (∀ (s : State) (p : Fin 1024) (c : Fin 8) (x : Span), (s.port p).spans = [x] → x.cls = c → x.from_ ≤ s.time.now →
    Answers (.pauseExpiry p c) s fun t => t.time.now = max s.time.now x.to_ ∧ t.ports = s.ports)

/-! Frame preemption. -/

/-- R148 to R150: a valid verify mPacket is answered, an invalid mPacket is counted; a valid respond mPacket ends the exchange in SUCCEEDED; without one for VERIFY_TIME a verify is sent again, three in all, and then the exchange has
FAILED, which raises an alarm. A port whose preemption is still inactive 100 ms after UP raises PREEMPT_INACTIVE.
Readings the model chose where the spec leaves one open: log entries 13 and 31. -/
def Obligations.VerifyExchangeDecidesPreemption : Prop :=
  (∀ (s : State) (p : Fin 1024), s.isUp p = true → nbit (s.link p).preCfg 0 = true →
    s.startsNow p (s.linkFrame p 7 0 .respond) → Answers (.verifyRx p true) s fun t =>
      t.outs = s.outs ++ [.respond p] ∧ OtherPorts p s t ∧ (t.port p).verify = (s.port p).verify ∧
      Counted .port p R.PORT_RESPOND_TX s t) ∧
  (∀ (s : State) (p : Fin 1024), s.isUp p = true →
    exec (.verifyRx p false) s = .next (s.countP p R.PORT_RX_REASM_CRC_ERR) ∧
    exec (.respondRx p false) s = .next (s.countP p R.PORT_RX_REASM_CRC_ERR)) ∧
  (∀ (s : State) (p : Fin 1024), s.isUp p = true → (s.port p).verify = .verifying → Answers (.respondRx p true) s fun t =>
    (t.port p).verify = .succeeded ∧ (t.port p).txActive = t.preActive p ∧ OtherPorts p s t) ∧
  (∀ (s : State) (p : Fin 1024), (s.port p).verify = .verifying → ((s.port p).waits fun o => o == .verify) = false →
    let w := (s.port p).verAt + bitsOf (s.port p).link.preCfg 15 8 * wMs
    let u := s.runTo w
    let v := u.modPort p fun q => { q with verify := .verifying, verTries := q.verTries + 1, verAt := u.time.now }
    ((s.port p).verTries < 3 → v.startsNow p (v.linkFrame p 7 0 .verify) → Answers (.verifyTimeout p) s fun t =>
      t.time.now = max s.time.now w ∧ t.outs = u.outs ++ [.verify p] ∧ (t.port p).verify = .verifying ∧
      (t.port p).verTries = (u.port p).verTries + 1 ∧ OtherPorts p u t ∧ Counted .port p R.PORT_VERIFY_TX u t) ∧
    (3 ≤ (s.port p).verTries → Answers (.verifyTimeout p) s fun t =>
      t.time.now = max s.time.now w ∧ t.port p = { u.port p with verify := .failed } ∧ OtherPorts p u t ∧ t.outs = u.outs ∧
      (t.hdr .port p).intCause.getLsbD 21 = true ∧ Counted .port p R.PORT_VERIFY_FAILS u t ∧ Alarmed 0x017 p 0 t)) ∧
  (∀ (s : State) (p : Fin 1024), s.isUp p = true → (s.link p).preWatch = true →
    let u := s.runTo ((s.link p).upAt + 100 * wMs)
    (u.port p).txActive = false → Answers (.preemptInactive p) s fun t =>
      t.time.now = max s.time.now ((s.link p).upAt + 100 * wMs) ∧ t.link p = { u.link p with preWatch := false } ∧
      OtherPorts p u t ∧ Alarmed 0x016 p 0 t)

/-- R126, R150 and R158: a start fragment whose mCRC is right opens a partial frame; the next continuation of the same frame in order adds its bytes; one out of order discards the partial frame and the later
fragments of its number, and is counted, and so does one with an uncorrectable codeword; a continuation with no partial frame is an orphan. A partial frame that has been idle for REASM_TIMEOUT cycle starts is
aborted. Without preemption agreed every fragment is discarded. -/
def Obligations.FragmentsAreReassembledInOrder : Prop :=
  (∀ (s : State) (p : Fin 1024) (m : Mpacket), s.isUp p = true → s.rxActive p = false →
    exec (.fragmentRx p m) s = .next (s.countP p R.PORT_RX_NOT_AGREED)) ∧
  (∀ (s : State) (p : Fin 1024) (m : Mpacket), s.isUp p = true → s.rxActive p = true → m.start = true → m.final = false →
    m.fecOk = true → m.crcOk = true → 60 ≤ m.data.length → m.data.length ≤ 9216 → let u := s.seenAt p m.tRx
    u.stage3 p (u.isItp p (parseFrame m.data)) (parseFrame m.data) m.tRx = none → Answers (.fragmentRx p m) s fun t =>
      (t.port p).reasm = some { frameNo := m.frameNo, next := 0, data := m.data, tRx := m.tRx, edge := m.edge, idle := 0 } ∧
      (t.port p).dropNo = none ∧ OtherPorts p u t) ∧
  (∀ (s : State) (p : Fin 1024) (m : Mpacket) (r : Reasm), s.isUp p = true → s.rxActive p = true → m.start = false →
    let u := s.seenAt p m.tRx
    (u.port p).reasm = some r →
    (m.fecOk = true → m.frameNo = r.frameNo → m.fragNo = r.next → m.final = false → 60 ≤ m.data.length → m.crcOk = true →
      r.data.length + m.data.length ≤ 9216 → Answers (.fragmentRx p m) s fun t =>
        (t.port p).reasm = some { r with next := (r.next + 1) % 4, data := r.data ++ m.data, idle := 0 } ∧ OtherPorts p u t ∧
        Counted .port p R.PORT_RX_FRAGMENTS u t) ∧
    (m.fecOk = true → m.frameNo ≠ r.frameNo ∨ m.fragNo ≠ r.next → Answers (.fragmentRx p m) s fun t =>
      (t.port p).reasm = none ∧ (t.port p).dropNo = some r.frameNo ∧ OtherPorts p u t ∧
      Counted .port p R.PORT_RX_REASM_SEQ_ERR u t) ∧
    (m.fecOk = false → Answers (.fragmentRx p m) s fun t =>
      (t.port p).reasm = none ∧ (t.port p).dropNo = some r.frameNo ∧ OtherPorts p u t ∧
      Counted .port p R.PORT_RX_FEC_DISCARD u t)) ∧
  (∀ (s : State) (p : Fin 1024) (m : Mpacket), s.isUp p = true → s.rxActive p = true → m.start = false →
    let u := s.seenAt p m.tRx
    (u.port p).reasm = none →
    ((u.port p).dropNo ≠ some m.frameNo → Answers (.fragmentRx p m) s fun t =>
      t.ports = u.ports ∧ Counted .port p R.PORT_RX_FRAGMENTS u t ∧ Counted .port p R.PORT_RX_REASM_ORPHAN u t) ∧
    ((u.port p).dropNo = some m.frameNo → exec (.fragmentRx p m) s = .next u.pace)) ∧
  (∀ (s : State) (p : Fin 1024) (r : Reasm), (s.port p).reasm = some r → (s.port p).reasmTo ≤ r.idle →
    Answers (.reasmTimeout p) s fun t => t.port p = { s.port p with reasm := none } ∧ OtherPorts p s t ∧
      Counted .port p R.PORT_RX_REASM_ABORTED s t)

/-! Replication and duplicate elimination. -/

/-- R171: recovery passes a sequence number at most once while its history covers it. A frame that has passed is discarded when the same
number comes again at once, and a frame that meets TAKE_ANY passes; in the vector algorithm a frame whose number the history marks is
discarded, one that passes is marked, a number that is marked stays so until it leaves the history, and a TAKE_ANY entry marks the numbers
below its first. HUB_RECEIVE evaluates a frame of a stream with RCVY_EN so, and a frame discarded there reaches no later stage. -/
def Obligations.RecoveryPassesEachNumberOnce : Prop :=
  (∀ (s : State) (r seq src : Nat) (lo : Word), (rcMatch lo = true ∨ 1 ≤ rcLen lo) → (s.rcMain r seq src lo).2 = true →
    ((s.rcMain r seq src lo).1.rcMain r seq src lo).2 = false) ∧
  (∀ (s : State) (r seq src : Nat) (lo : Word), (s.rc r).takeAny = true → (s.rcMain r seq src lo).2 = true ∧
    ((s.rcMain r seq src lo).1.rc r).rseq = seq ∧ ((s.rcMain r seq src lo).1.rc r).takeAny = false ∧
    (rcMatch lo = false → seq < 2 ^ 16 → rcLen lo ≤ 128 → ∀ k, k < rcLen lo →
      ((s.rcMain r seq src lo).1.rc r).marked (rcLen lo) ((seq + 2 ^ 16 - k) % 2 ^ 16))) ∧
  (∀ (s : State) (r seq src : Nat) (lo : Word), let l := rcLen lo
    let e := s.rc r
    let v := s.rcMain r seq src lo
    rcMatch lo = false → 1 ≤ l → l ≤ 128 → e.takeAny = false → e.rseq < 2 ^ 16 → seq < 2 ^ 16 →
    (e.marked l seq → v.2 = false) ∧ (v.2 = true → (v.1.rc r).marked l seq) ∧
    (∀ n, n < 2 ^ 16 → e.marked l n → (v.1.rc r).marked l n ∨ l ≤ ((v.1.rc r).rseq + 2 ^ 16 - n) % 2 ^ 16)) ∧
  (∀ (s : State) (x : HubFrame) (i m : Nat), let h := hdrOf x.frame.body
    let r := stIndex (s.live.word (offStream i))
    let lo := s.live.word (offRcvy r)
    s.nextHub = some x → s.live.identify h.handle = some i → stRcvy (s.live.word (offStream i)) = true →
    (rcPorts lo (s.live.word (offRcvy r + 8))).findIdx? (fun p => p == x.port) = some m → rcIndiv lo = false → (s.rc r).guard = false →
    Answers (.hubReceive []) s fun t => let v := s.rcMain r h.seq h.src lo
      (t.rc r).rseq = (v.1.rc r).rseq ∧ (t.rc r).hist = (v.1.rc r).hist ∧ (t.rc r).takeAny = (v.1.rc r).takeAny ∧
      (v.2 = false → t.mem = s.mem ∧ t.lz = s.lz ∧ t.evt = s.evt ∧ t.sq = s.sq ∧ t.fault.queue = s.fault.queue)) ∧
  (∀ (s : State) (r port seq cyc src : Nat), port ∉ rcPorts (s.live.word (offRcvy r)) (s.live.word (offRcvy r + 8)) →
    (s.recover r port seq cyc src).2 = false)

/-- R173, R174, R177, R180: an entry whose TIMER has reached RESET_TIMEOUT is reset and counted; a latent test that fails raises its alarm and begins a new period;
RESET_STATE, CLEAR_COUNTERS and SET_SEQ act on the selected entry alone; a write of RCVY_SEL or GEN_SEL captures the view of the entry it names. -/
def Obligations.StreamCommandsActOnTheirEntry : Prop :=
  (∀ (s : State) (r : Fin 32768), s.time.hasCycle = true → (s.rc r).takeAny = false → bit (s.live.word (offRcvy r)) 0 = true →
    rcTimeout (s.live.word (offRcvy r)) ≤ (s.rc r).timer → Answers (.rcvyTimeoutReset r) s fun t =>
      t.rc r = { (s.rc r).reset with ctrs := (t.rc r).ctrs } ∧ (∀ j, j ≠ r.val → t.rc j = s.rc j) ∧
      (t.hdr .stream 0).intCause.getLsbD 17 = true ∧ Counted .stream 0 R.STREAM_RCVY_RESETS s t) ∧
  (∀ (s : State) (r : Fin 32768), let hi := s.live.word (offRcvy r + 8)
    let d := ((((fld hi 11 10) * (s.rc r).testP : Nat) : Int) - (s.rc r).testD).natAbs
    s.time.hasCycle = true → bit (s.live.word (offRcvy r)) 0 = true → rcLatent hi = true → 0 < rcPeriod hi →
    s.time.cycle % rcPeriod hi = 0 → (s.rc r).testAny = false → (s.rc r).takeAny = false →
    (rcDiff hi < d → Answers (.latentTest r) s fun t =>
      (t.rc r).testP = 0 ∧ (t.rc r).testD = 0 ∧ (t.hdr .stream 0).intCause.getLsbD 16 = true ∧
      Counted .stream 0 R.STREAM_LATENT_ERRORS s t ∧ Alarmed 0x018 r (min d 0xFFFFFFFF) t) ∧
    (d ≤ rcDiff hi → Answers (.latentTest r) s fun t =>
      t.rc r = { s.rc r with testP := 0, testD := 0, testAny := false } ∧ t.alarm = s.alarm)) ∧
  (∀ s : State, let r := s.regF .stream 0 R.STREAM_RCVY_SEL 14 0
    s.opens .stream R.STREAM_RCVY_CTRL 6 →
    Answers .rcvyResetState s (fun t => t.rc r = (s.rc r).reset ∧ ∀ j, j ≠ r → t.rc j = s.rc j) ∧
    Answers .clearCounters s (fun t => t.rc r = { s.rc r with ctrs := List.replicate 17 0 } ∧ ∀ j, j ≠ r → t.rc j = s.rc j)) ∧
  (∀ (s : State) (n : BitVec 16), let g := s.regF .stream 0 R.STREAM_GEN_SEL 15 0
    s.opens .stream R.STREAM_GEN_CTRL 0 →
    Answers (.setSeq n) s fun t => t.nextSeq g = n.toNat ∧ ∀ j, j ≠ g → t.nextSeq j = s.nextSeq j) ∧
  (∀ (s : State) (r : BitVec 32), s.opens .stream R.STREAM_RCVY_SEL 6 → Answers (.rcvySel r) s fun t =>
    let i := r.toNat % 2 ^ 15
    t.regF .stream 0 R.STREAM_RCVY_SEL 14 0 = i ∧
      t.stream = { s.stream with view := rcView (s.rc i) (if rcMatch (s.live.word (offRcvy i)) then 0 else rcLen (s.live.word (offRcvy i))) }) ∧
  (∀ (s : State) (g : BitVec 32), s.opens .stream R.STREAM_GEN_SEL 0 → Answers (.genSel g) s fun t =>
    let i := g.toNat % 2 ^ 16
    t.regF .stream 0 R.STREAM_GEN_SEL 15 0 = i ∧ t.stream = { s.stream with genView := s.nextSeq i })

/-! Event lines and pins. -/

/-- R196 to R199: EVENT_RX_LINES takes the lines it adds and is refused where another owner holds one; a pin set to OUT is taken and put out inactive; the end of its
pulse puts it out inactive again; an edge that a pin in IN selects, 4 ns after the last, is stamped and counted; a pulse's generator builds its EVENT on its stream
handle, or counts that it has no entry. -/
def Obligations.EventLinesAndPinsAct : Prop :=
  (∀ (s : State) (lines : Word), s.opens .evt R.EVT_EVENT_RX_LINES 24 → let old := s.reg .evt 0 R.EVT_EVENT_RX_LINES
    ((∀ n, n < 64 → bit lines n = true → bit old n = false → s.ownerOf (resLine n) = 0 ∨ s.ownerOf (resLine n) = ownerEvRx) →
      Answers (.eventRxLines lines) s fun t => t.reg .evt 0 R.EVT_EVENT_RX_LINES = lines ∧
        ∀ n, n < 64 → bit lines n = true → bit old n = false → t.ownerOf (resLine n) = ownerEvRx) ∧
    (∀ n, n < 64 → bit lines n = true → bit old n = false → s.ownerOf (resLine n) ≠ 0 → s.ownerOf (resLine n) ≠ ownerEvRx →
      (∀ m, m < n → bit lines m = true → bit old m = false → s.ownerOf (resLine m) = 0 ∨ s.ownerOf (resLine m) = ownerEvRx) →
      exec (.eventRxLines lines) s = .next (s.refuseOwned .evt 0 (resLine n) (s.ownerOf (resLine n))))) ∧
  (∀ (s : State) (n : Fin 32) (v : BitVec 32), s.opens .evt (R.EVT_PIN_CFG + 4 * n) 0 → let w := wd v.toNat &&& 0xFF3F07#64
    pinMode (s.pinCfg n) = 0 → pinMode w = 1 → pinWidth w ≠ 0 → (s.ownerOf (resPin n) = 0 ∨ s.ownerOf (resPin n) = ownerPin n) →
    Answers (.pinCfg n v) s fun t => t.pinCfg n = w ∧ t.ownerOf (resPin n) = ownerPin n ∧ (t.pin n).level = pinInvert w ∧
      t.outs = s.outs ++ [.evtPin n (pinInvert w)]) ∧
  (∀ (s : State) (n : Fin 32), pinMode (s.pinCfg n) = 1 → (s.pin n).level = !pinInvert (s.pinCfg n) →
    Answers (.evtPinPulseEnd n) s fun t => t.outs = s.outs ++ [.evtPin n (pinInvert (s.pinCfg n))] ∧
      t.pin n = { s.pin n with level := pinInvert (s.pinCfg n), change := (s.pin n).until_ } ∧
      t.time.now = max s.time.now (s.pin n).until_) ∧
  (∀ (s : State) (n : Fin 32) (rising : Bool) (at_ : Nat), let u := s.atLeast at_
    pinMode (s.pinCfg n) = 2 → rising = !pinInvert (s.pinCfg n) → (s.pin n).level ≠ rising → (s.pin n).change + 4 * wNs ≤ u.time.now →
    Answers (.evtPinEdge n rising at_) s fun t => t.pin n = { s.pin n with level := rising, change := u.time.now, stamp := u.nowNs } ∧
      t.time.now = max s.time.now at_ ∧ Counted .evt 0 R.EVT_PIN_EDGES s t) ∧
  (∀ (s : State) (g : Fin 16) (x : GenPulse), smFind s.evt.gens g = some x → s.live.genPorts (fld (s.genWord g) 27 8) = none →
    Answers (.eventGenBuild g) s fun t => t.evt.gens = smErase s.evt.gens g ∧ t.ports = s.ports ∧
      Counted .evt 0 R.EVT_EVENT_GEN_NO_ENTRY s t) ∧
  (∀ (s : State) (g : Fin 16) (x : GenPulse) (p : Nat), let w := s.genWord g
    smFind s.evt.gens g = some x → s.live.genPorts (fld w 27 8) = some [p] → bit w 54 = false → s.linkBit p 6 = true →
    s.node.state = .joined → s.isUp p = true → (s.port p).txq = [] → s.occupancy p 70 ≤ s.longest p (fld w 30 28) →
    Answers (.eventGenBuild g) s fun t => ∃ fr h, (t.port p).txq = [fr] ∧ fr.cls = fld w 30 28 ∧ fr.typ = tEvent ∧
      fr.frame.body = itpBody (bit w 31) h (eventBytes false (fld w 53 48) 0 0 x.ns) ∧ h.typ = tEvent ∧ h.dst = fld w 47 32 ∧
      h.src = s.nodeId ∧ h.handle = fld w 27 8 ∧ h.seq = s.nextSeq (fld w 27 8 % 2 ^ 16) ∧ Counted .evt 0 R.EVT_EVENT_GEN_FRAMES s t)

/-! Memory and landing zones. -/

/-- R204, R206, R210, R212, R214: a scrub waits INTERVAL periods, reads the next line of its die and counts it; one that finds an uncorrectable word poisons it and counts
and raises it, one that finds a single error counts it, and an INTERVAL of 0 scrubs nothing; an
edit of a landing zone changes its definition in the live slate, and is refused once a cut is committed; CLEAR empties the reject table; ZONE_SEL captures the count of its zone.
The order of the lines and the instant that an interval counts from are the model's choice: log entry 84. -/
def Obligations.ScrubbingAndZoneCommands : Prop :=
  (∀ (s : State) (die : Fin 8) (w : Nat), let x := smGet s.scrubs die (0, 0)
    let a := lineAddr die x.1
    let moved (t : State) : Prop := t.mem = s.mem ∧ Counted .mem 0 R.MEM_SCRUB_LINES s t ∧
      t.time.now = max s.time.now (x.2 + s.regF .mem 0 R.MEM_SCRUB_CFG 15 0 * wHub) ∧
      smGet t.scrubs die (0, 0) = ((x.1 + 1) % 2 ^ 20, t.time.now)
    s.regF .mem 0 R.MEM_SCRUB_CFG 15 0 ≠ 0 → s.errs = [] → w % 8 = 0 → memStaging w = true → a ≤ w → w < a + 64 → w ∉ s.poison →
    Answers (.scrub die []) s (fun t => moved t ∧ t.poison = s.poison) ∧
    Answers (.scrub die [(w, .single)]) s (fun t => moved t ∧ t.poison = s.poison ∧ Counted .mch die R.MCH_ECC_CORRECTED s t) ∧
    Answers (.scrub die [(w, .uncorrectable)]) s (fun t => moved t ∧ t.poison = w :: s.poison ∧
      Counted .mch die R.MCH_ECC_UNCORR s t ∧ Alarmed 0x019 die w t)) ∧
  (∀ (s : State) (die : Fin 8) (ecc : EccList), s.regF .mem 0 R.MEM_SCRUB_CFG 15 0 = 0 →
    exec (.scrub die ecc) s = .next (s.arise ecc)) ∧
  (∀ (s : State) (z : Fin 4096), s.opens .lz R.LZ_EDIT_CTRL 0 → let lo := s.reg .lz 0 R.LZ_EDIT_WORD0
    let hi := s.reg .lz 0 R.LZ_EDIT_WORD1
    (s.slate.cut = .committed → exec (.lzEditApply z) s = .next (s.err .lz 0 0x0152 z (s.slate.x % 2 ^ 32))) ∧
    (s.slate.cut ≠ .committed → s.zoneBad s.live z lo hi = false → Answers (.lzEditApply z) s fun t =>
      t.live.word (offZone z) = lo ∧ t.live.word (offZone z + 8) = hi ∧ t.staged = s.staged ∧
      (∀ o, o ≠ offZone z → o ≠ offZone z + 8 → smFind t.live.tbl o = smFind s.live.tbl o) ∧
      (znValid lo = true → znAccum lo = true → t.ownerOf (resSlice (znScratch lo)) = ownerLz))) ∧
  (∀ s : State, s.opens .lz R.LZ_REJECT_CTRL 0 →
    exec .rejectClear s = .next { s with lz := { s.lz with rejects := [], full := false } }) ∧
  (∀ (s : State) (z : BitVec 32), s.opens .lz R.LZ_ZONE_SEL 0 → Answers (.zoneSel z) s fun t =>
    let i := z.toNat % 2 ^ 12
    t.regF .lz 0 R.LZ_ZONE_SEL 11 0 = i ∧
    t.lz = { s.lz with view := wd ((s.zone i).landed + b2n (s.zone i).poisoned * 2 ^ 63) })

/-! Submission queues and jobs. -/

/-- R216, R219 to R221, R223, R224: a doorbell within the free units of an enabled queue advances its TAIL, one beyond them stops the queue with code 1, and one to a disabled queue is
refused; the words of an inline push in order gather and the last of them fills the front buffer as a doorbell would, while a word out of order abandons the push; a poll, at the next instant of the queue's
interval, takes a current unit that it finds and only counts a stale one; a POST frame past stage 6 is deposited at TAIL with the PHASE of its position, and one that fails a
check stores nothing, is counted and raises POST_REJECTED.
The instant that the polling interval counts from is the model's choice: log entry 85. -/
def Obligations.DoorbellsPushesAndPollsAdvanceTheTail : Prop :=
  (∀ (s : State) (q : Fin 4096) (v : BitVec 32), s.running → let x := s.queue q
    let a := posDiff x.units v.toNat x.tail
    (x.enabled = true → x.remote = false → x.stopped = false → v.toNat % 2 ^ 16 < x.units → 0 < a → a ≤ x.units - x.out →
      Answers (.doorbell q v) s fun t => t.queue q = { x with tail := v.toNat % 2 ^ 17 } ∧
        (∀ r, r ≠ q.val → t.queue r = s.queue r) ∧ Counted .xfer 0 R.XFER_DOORBELLS s t) ∧
    (x.enabled = true → x.remote = false → x.stopped = false → (x.units ≤ v.toNat % 2 ^ 16 ∨ x.units - x.out < a ∧ a < x.units) →
      Answers (.doorbell q v) s fun t => (t.queue q).stopped = true ∧ (t.queue q).stopCode = 1 ∧ (t.queue q).tail = x.tail ∧
        (t.hdr .xfer 0).intCause.getLsbD 16 = true ∧ Counted .xfer 0 R.XFER_SQ_STOPS s t) ∧
    (x.enabled = false → Answers (.doorbell q v) s fun t => t.sq = s.sq ∧ (t.hdr .xfer 0).intCause.getLsbD 0 = true ∧
      ((s.hdr .xfer 0).errCode = 0 → (t.hdr .xfer 0).errCode.toNat = 0x0186 + q * 2 ^ 16))) ∧
  (∀ (s : State) (q : Fin 4096) (i : Fin 8) (v : Word), s.running → s.feat 13 = true → let x := s.queue q
    (i.val ≠ x.inl.length → Answers (.inlineStore q i v) s fun t => t.queue q = { x with inl := [] } ∧
      Counted .xfer 0 R.XFER_INLINE_ABORTED s t) ∧
    (i.val = x.inl.length → fld (nth (x.inl ++ [v]) 0 0) 3 1 < 2 → i.val + 1 ≠ 4 * (fld (nth (x.inl ++ [v]) 0 0) 3 1 + 1) →
      Answers (.inlineStore q i v) s fun t => t.queue q = { x with inl := x.inl ++ [v] }) ∧
    (i.val = x.inl.length → i.val + 1 = 4 * (fld (nth (x.inl ++ [v]) 0 0) 3 1 + 1) → fld (nth (x.inl ++ [v]) 0 0) 3 1 < 2 →
      x.enabled = true → x.remote = false → x.stopped = false → x.front = none →
      (let n := posAdd x.units x.tail ((i.val + 1) / 4)
       n % 2 ^ 16 < x.units ∧ 0 < posDiff x.units n x.tail ∧ posDiff x.units n x.tail ≤ x.units - x.out) →
      Answers (.inlineStore q i v) s fun t => (t.queue q).front = some (x.tail, wordBytes (x.inl ++ [v])) ∧
        (t.queue q).tail = posAdd x.units x.tail ((i.val + 1) / 4) % 2 ^ 17 ∧ (t.queue q).inl = [] ∧
        Counted .xfer 0 R.XFER_INLINE_PUSHES s t)) ∧
  (∀ (s : State) (q : Fin 4096), let x := s.queue q
    x.polls = true → s.errs = [] → s.poisoned (x.unitAddr x.tail) 32 = false → posAdd x.units x.tail 0 = x.tail →
    (unitPhase (s.unitAt q x.tail) = phaseAt x.tail → unitLen (s.unitAt q x.tail) = 1 → Answers (.sqPoll q []) s fun t =>
      t.queue q = { x with front := some (x.tail, s.unitAt q x.tail), tail := posAdd x.units x.tail 1, pollAt := s.pollDue x } ∧
      t.time.now = max s.time.now (s.pollDue x) ∧ Counted .xfer 0 R.XFER_POLLS s t ∧ Counted .xfer 0 R.XFER_POLL_HITS s t) ∧
    (unitPhase (s.unitAt q x.tail) ≠ phaseAt x.tail → Answers (.sqPoll q []) s fun t =>
      t.queue q = { x with pollAt := s.pollDue x } ∧ (∀ r, r ≠ q.val → t.queue r = s.queue r) ∧
      t.time.now = max s.time.now (s.pollDue x) ∧ Counted .xfer 0 R.XFER_POLLS s t)) ∧
  (∀ (s : State) (f : HubFrame), let h := hdrOf f.frame.body
    let b := payloadOf f.frame.body
    let q := beAt b 0 2 % 4096
    let x := s.queue q
    let units := beAt b 2 1
    s.nextHub = some f → s.live.identify h.handle = none → h.typ = tPost →
    (∀ k, s.postCheck q units h.src h.key (b.drop 8) = some k → Answers (.hubReceive []) s fun t =>
      t.sq = s.sq ∧ t.mem = s.mem ∧ (t.hdr .xfer 0).intCause.getLsbD 17 = true ∧ Alarmed 0x01D (q + k * 0x1000) h.src t ∧
      (k = 1 → Counted .xfer 0 R.XFER_POST_NOT_REMOTE s t) ∧ (k = 2 → Counted .xfer 0 R.XFER_POST_SOURCE s t) ∧
      (k = 3 → Counted .xfer 0 R.XFER_POST_KEY s t) ∧ (k = 4 → Counted .xfer 0 R.XFER_POST_UNITS s t) ∧
      (k = 5 → Counted .xfer 0 R.XFER_POST_NO_ROOM s t)) ∧
    (s.postCheck q units h.src h.key (b.drop 8) = none → units = 1 → 32 ≤ (b.drop 8).length → s.memSafe → s.errs = [] →
      posAdd x.units x.tail 0 = x.tail → Answers (.hubReceive []) s fun t => let a := x.unitAddr x.tail
        t.queue q = { x with tail := posAdd x.units x.tail 1 } ∧ t.readMem a 32 = withPhase ((b.drop 8).take 32) (phaseAt x.tail) ∧
        (∀ c, c < a ∨ a + 32 ≤ c → t.readByte c = s.readByte c) ∧ Counted .xfer 0 R.XFER_POST_DEPOSITED s t))

/-- R215, R216, R222, R223, R231 and R233: SQ_CFG enables a queue whose ring is sound, from position 0, and refuses another with the register at fault; it disables an enabled one.
The arbiter grants an eligible queue only, and what it grants is copied; a copy of current units becomes a job and advances HEAD, and a stale unit stops the queue with
code 2.
Readings the model chose where the spec leaves one open: log entry 35. -/
def Obligations.QueuesAreEnabledArbitratedAndFetched : Prop :=
  (∀ (s : State) (q : Fin 4096) (cfg : BitVec 32), s.running → s.feat 15 = true → let x := s.queue q
    let y := { x with remote := cfg.getLsbD 1, log2 := bitsOf cfg.toNat 7 3, cq := bitsOf cfg.toNat 17 8 }
    x.enabled = false →
    (s.sqBad y = none → Answers (.sqEnable q cfg) s fun t =>
      t.queue q = { y with enabled := true, head := 0, tail := 0, stopped := false, stopCode := 0, front := none, inl := [],
                           copying := [], pollAt := s.time.now } ∧ (∀ r, r ≠ q.val → t.queue r = s.queue r)) ∧
    (∀ off, s.sqBad y = some off → Answers (.sqEnable q cfg) s fun t => (t.queue q).enabled = false ∧
      (t.hdr .xfer 0).intCause.getLsbD 1 = true ∧
      ((s.hdr .xfer 0).errCode = 0 → (t.hdr .xfer 0).errCode.toNat = 0x0185 + q * 2 ^ 16 ∧ (t.hdr .xfer 0).errInfo.toNat = off))) ∧
  (∀ (s : State) (q : Fin 4096) (cfg : BitVec 32), s.running → let x := s.queue q
    x.enabled = true → cfg.getLsbD 1 = x.remote → bitsOf cfg.toNat 7 3 = x.log2 → bitsOf cfg.toNat 17 8 = x.cq →
    s.xfer.jobs = [] → Answers (.sqDisable q cfg) s fun t =>
      t.queue q = { x with enabled := false, front := none, inl := [], copying := [] } ∧ t.xfer = s.xfer) ∧
  (∀ (s : State) (q : Nat), s.arbitrate.2 = some q → s.arbitrate.1.eligible q = true) ∧
  (∀ (s u : State) (q units kind : Nat), s.arbitrate = (u, some q) → u.nextEntry q = some (units, kind, false) →
    Answers .entryFetch s fun t =>
      t.queue q = { u.queue q with copying := (u.queue q).copying ++ [(units, kind == 5)] } ∧
      t.time.now = max u.time.now (u.xfer.grantFree * wHub) ∧ t.xfer = { u.xfer with grantFree := hubEdge t.time.now + 1 }) ∧
  (∀ (s : State) (q : Fin 4096) (units : Nat) (f : Bool) (rest : List (Nat × Bool)), let x := s.queue q
    x.copying = (units, f) :: rest → s.poison = [] → s.errs = [] →
    ((∀ i, i < units → unitPhase (s.unitAt q (posAdd x.units x.head i)) = phaseAt (posAdd x.units x.head i)) →
      Answers (.entryCopied q []) s fun t => (t.queue q).head = posAdd x.units x.head units ∧ (t.queue q).copying = rest ∧
        (t.queue q).order = x.order + 1 ∧ t.xfer.nextId = s.xfer.nextId + 1 ∧ Counted .xfer 0 R.XFER_ENTRIES_FETCHED s t) ∧
    (0 < units → unitPhase (s.unitAt q (posAdd x.units x.head 0)) ≠ phaseAt (posAdd x.units x.head 0) →
      Answers (.entryCopied q []) s fun t => (t.queue q).stopped = true ∧ (t.queue q).stopCode = 2 ∧ (t.queue q).copying = [] ∧
        (t.queue q).head = x.head ∧ t.xfer.jobs = s.xfer.jobs))

/-- R167, R226 to R230: a send job of the queue whose turn it is builds its next frame, and no other queue builds: its stream takes the next sequence number, and its member port, when it is up and wide enough, gets the frame with the header and
encoded elements of R226; a job whose stream has no entry fails and builds no more. Jobs that a pulse has reached start; jobs whose limit of cycle starts has passed, and a FENCE that no
earlier job of its queue precedes, end. -/
def Obligations.JobsBuildTheirFramesAndEnd : Prop :=
  (∀ (s : State) (q : Fin 4096) (j : Job) (p : Nat), let i := j.frames.length
    let n := j.frameElems i
    let e := encode j.codec j.elem (elemsOfMem j.elem (s.readMem (j.frameSrc i) (n * elemSize j.elem)))
    s.buildTurn = some q.val → s.builder q = some j → s.poison = [] → s.errs = [] → s.live.genPorts j.handle = some [p] → j.tsReq = false → s.node.state = .joined →
    s.isUp p = true → (s.port p).txq = [] → s.occupancy p (itpLen j.tagged e.bytes.length) ≤ s.longest p j.cls →
    Answers (.frameBuild q []) s fun t =>
      t.nextSeq (j.handle % 2 ^ 16) = (s.nextSeq (j.handle % 2 ^ 16) + 1) % 2 ^ 16 ∧
      Counted .stream 0 R.STREAM_GEN_FRAMES s t ∧ ∃ fr, (t.port p).txq = [fr] ∧ fr.cls = j.cls ∧ fr.head = false ∧
        fr.origin = .job j.id i 0 ∧ fr.frame.body = itpBody j.tagged
          { s.jobHdr j i with seq := s.nextSeq (j.handle % 2 ^ 16), plen := e.bytes.length } e.bytes) ∧
  (∀ (s : State) (q : Fin 4096) (j : Job), s.buildTurn = some q.val → s.builder q = some j → s.poison = [] → s.errs = [] →
    s.live.genPorts j.handle = none →
    Answers (.frameBuild q []) s fun t => t.ports = s.ports ∧ t.stream = s.stream ∧ Counted .stream 0 R.STREAM_GEN_NO_ENTRY s t ∧
      ∀ x, x ∈ t.xfer.jobs → x.id = j.id → x.done = true ∧ x.failed = some stNoGen) ∧
  (∀ (s : State) (q : Fin 4096), s.buildTurn ≠ some q.val → exec (.frameBuild q []) s = .next s) ∧
  (∀ (s : State) (q : Fin 4096), Answers (.sendOnEventStart q) s fun t =>
    t = { s with xfer := { s.xfer with jobs := t.xfer.jobs } } ∧ t.xfer.jobs = s.xfer.jobs.map fun j =>
      { j with started := j.started || (j.queue == q.val && j.kind == .sendOnEvent && j.pulsed) }) ∧
  (∀ (s : State) (q : Fin 4096), Answers (.eventTimeout q) s fun t => ∀ x, x ∈ t.xfer.jobs ↔ x ∈ s.xfer.jobs ∧
    ∀ j, j ∈ s.xfer.jobs → j.queue = q.val → j.kind = .sendOnEvent → j.pulsed = false → j.limit ≠ 0 → j.limit ≤ j.waited →
      x.id ≠ j.id) ∧
  (∀ (s : State) (q : Fin 4096), Answers (.expectTimeout q) s fun t => ∀ x, x ∈ t.xfer.jobs ↔ x ∈ s.xfer.jobs ∧
    ∀ j, j ∈ s.xfer.jobs → j.queue = q.val → j.kind = .expect → j.pulsed = false → j.limit ≠ 0 → j.limit ≤ j.waited →
      x.id ≠ j.id) ∧
  (∀ (s : State) (q : Fin 4096) (j : Job), (s.xfer.jobs.find? fun x => x.queue == q.val && x.kind == .fence) = some j →
    (∀ x, x ∈ s.xfer.jobs → x.queue = j.queue → j.order ≤ x.order) → (∀ x, x ∈ s.xfer.jobs → x.gone s.time.now = false) →
    Answers (.fenceFinish q) s fun t =>
      ∀ x, x ∈ t.xfer.jobs ↔ x ∈ s.xfer.jobs ∧ x.id ≠ j.id)

/-! Completion rings. -/

/-- R235 to R237, R244 to R247, R249: CQ_HEAD takes a position up to TAIL and refuses one beyond; the oldest held entry is written at TAIL with the PHASE of its pass and TAIL advances; a
notification is sent DELAY × 1.024 µs after the oldest entry it covers; CQ_NOTIFY sets its register and starts its counts anew; CQ_CFG enables a sound ring from position 0 and disables one
that nothing uses; XFER_EN takes the timestamp queue of its group for the transfer engine, and is refused where another owner holds it. -/
def Obligations.CompletionRingsTakeEntriesAndNotify : Prop :=
  (∀ (s : State) (c : Fin 1024) (v : BitVec 32), s.running → let r := s.ring c
    let h := v.toNat % 2 ^ 17
    r.enabled = true → h % 2 ^ 16 < 2 ^ r.log2 →
    (posDiff (2 ^ r.log2) h r.head ≤ r.out → Answers (.cqHeadWrite c v) s fun t => (t.ring c).head = h ∧ (t.ring c).tail = r.tail ∧
      t.mem = s.mem) ∧
    (r.out < posDiff (2 ^ r.log2) h r.head → Answers (.cqHeadWrite c v) s fun t => t.cq = s.cq ∧
      (t.hdr .xfer 0).intCause.getLsbD 0 = true ∧ Counted .xfer 0 R.XFER_CQ_HEAD_INVALID s t)) ∧
  (∀ (s : State) (c : Fin 1024) (h : Held) (l : List Held), let r := s.ring c
    s.heldOf c = h :: l → r.full = false → s.memSafe → s.errs = [] → Answers (.heldEntryWrite c) s fun t =>
      let a := r.base + r.tail % 2 ^ 16 * 16
      t.readMem a 16 = leBytes 8 h.lo.toNat ++ leBytes 8 (setBit h.hi 63 (!nbit r.tail 16)).toNat ∧
      (∀ b, b < a ∨ a + 16 ≤ b → t.readByte b = s.readByte b) ∧ (t.ring c).tail = posAdd (2 ^ r.log2) r.tail 1 ∧
      t.xfer.held = s.xfer.held.erase h ∧ Counted .xfer 0 R.XFER_COMPLETIONS s t) ∧
  (∀ (s : State) (c : Fin 1024) (at_ : Nat), let r := s.ring c
    let i := fld r.notify 10 0
    r.oldest = some at_ → bit r.notify 15 = true → fld r.notify 31 24 ≠ 0 → s.routed i = true →
    Answers (.cqNotifyDelay c) s fun t => t.time.now = max s.time.now (at_ + fld r.notify 31 24 * wPulse) ∧
      t.ring c = { r with written := 0, oldest := none } ∧
      t.outs = s.outs ++ [.irq (bitsOf (s.route i) 3 0) (bitsOf (s.route i) 4 4) i]) ∧
  (∀ (s : State) (c : Fin 1024) (v : BitVec 32), s.running →
    (bitsOf v.toNat 23 16 ≠ 0 → Answers (.cqNotify c v) s fun t =>
      t.ring c = { s.ring c with notify := wd v.toNat &&& 0xFFFF87FF#64, written := 0, oldest := none } ∧
      (∀ d, d ≠ c.val → t.ring d = s.ring d)) ∧
    (bitsOf v.toNat 23 16 = 0 → exec (.cqNotify c v) s = .next (s.err .xfer 0 0x0007 16 (cqWin c 0x0C)))) ∧
  (∀ (s : State) (c : Fin 1024) (v : BitVec 32), s.running → let r := { s.ring c with log2 := bitsOf v.toNat 7 3 }
    ((s.ring c).enabled = false → s.cqBad r = none → Answers (.cqEnable c v) s fun t =>
      t.ring c = { r with enabled := true, head := 0, tail := 0, episode := false, written := 0, oldest := none } ∧
      ∀ d, d ≠ c.val → t.ring d = s.ring d) ∧
    ((s.ring c).enabled = true → bitsOf v.toNat 7 3 = (s.ring c).log2 → s.cqUsed c = false → Answers (.cqDisable c v) s fun t =>
      t.ring c = { s.ring c with enabled := false } ∧ ∀ d, d ≠ c.val → t.ring d = s.ring d) ∧
    ((s.ring c).enabled = true → bitsOf v.toNat 7 3 = (s.ring c).log2 → s.cqUsed c = true →
      exec (.cqDisable c v) s = .next (s.err .xfer 0 0x0189 c 0x08))) ∧
  (∀ (s : State) (g : Fin 64), s.opens .pgrp R.PGRP_TSQ_CTRL 17 →
    ((s.ownerOf (resTsq g) = 0 ∨ s.ownerOf (resTsq g) = ownerXfer) → Answers (.xferEn g true) s fun t =>
      t.ownerOf (resTsq g) = ownerXfer ∧ t.reg .pgrp g R.PGRP_TSQ_CTRL = 1) ∧
    (s.ownerOf (resTsq g) ≠ 0 → s.ownerOf (resTsq g) ≠ ownerXfer →
      exec (.xferEn g true) s = .next (s.refuseOwned .pgrp g (resTsq g) (s.ownerOf (resTsq g)))) ∧
    (s.ownerOf (resTsq g) = ownerXfer → Answers (.xferEn g false) s fun t =>
      t.ownerOf (resTsq g) = 0 ∧ t.reg .pgrp g R.PGRP_TSQ_CTRL = 0))

/-! The block mover. -/

/-- R271, R273 and R283 to R287: CH_SEL chooses a channel. An enable starts a channel whose ring is sound and whose event line is free, with a read of its descriptor, and is refused with the
register at fault or with the holder of the line; a disable stops it, releases its lines and needs a RESET, which an enabled or draining channel refuses; KICK and the idle poll make a channel that has nothing to
take read its ring again, and no other. COMMIT checks every shadow set and holds it for every channel; on the next hub edge it takes effect in the channels at a boundary, and is applied when it has in all.
Readings the model chose where the spec leaves one open: log entries 36 and 43. -/
def Obligations.MoverChannelsStartAndStop : Prop :=
  (∀ (s : State) (v : BitVec 32), s.opens .mover R.MOVER_CH_SEL 0 → Answers (.chSel v) s fun t =>
    t.chSel = v.toNat % 256 ∧ OnlyReg .mover 0 R.MOVER_CH_SEL s t) ∧
  (∀ s : State, s.opens .mover R.MOVER_CH_CTRL 18 → let c := s.chSel
    let m := s.chan c
    m.enabled = false → m.pend = none →
    ((∀ x ∈ s.mover.chans, wKind x.2.live.watch = 0) → s.chBad m = none → s.errs = [] → s.poisoned (m.descAddr m.index) 64 = false →
      (m.live.eventEn = true → s.ownerOf (resLine m.live.line) = 0 ∨ s.ownerOf (resLine m.live.line) = ownerCh c) →
      Answers .chEnable s fun t =>
        t.chan c = { m with enabled := true, paceRun := false, m := 0, z0 := (s.zone (wTarget m.live.watch)).landed,
                            readAt := s.time.now, ahead := s.offers (m.descAddr m.index) } ∧
        (∀ d, d ≠ c → t.chan d = s.chan d) ∧ (m.live.eventEn = true → t.ownerOf (resLine m.live.line) = ownerCh c) ∧
        t.mem = s.mem ∧ t.regs = s.regs) ∧
    (∀ code po, s.chBad m = some (code, po) → exec .chEnable s = .next (s.refuseEnable .mover 0 code c po)) ∧
    (s.chBad m = none → m.live.eventEn = true → s.ownerOf (resLine m.live.line) ≠ 0 → s.ownerOf (resLine m.live.line) ≠ ownerCh c →
      exec .chEnable s = .next (s.refuseOwned .mover 0 (resLine m.live.line) (s.ownerOf (resLine m.live.line))))) ∧
  (∀ s : State, s.opens .mover R.MOVER_CH_CTRL 18 → let c := s.chSel
    let m := s.chan c
    m.enabled = true → m.pend = none →
    (m.desc = none → m.held = none → m.barrier = false → Answers .chDisable s fun t =>
      (t.chan c).enabled = false ∧ (t.chan c).needsReset = true ∧ (t.chan c).draining = !m.unans.isEmpty ∧ (t.chan c).done = [] ∧
      (∀ d, d ≠ c → t.chan d = s.chan d) ∧ (∀ n, n < 64 → s.ownerOf (resLine n) = ownerCh c → t.ownerOf (resLine n) = 0) ∧
      t.mem = s.mem ∧ t.regs = s.regs) ∧
    (∀ d, (m.desc = some d ∨ m.desc = none ∧ m.held = some d ∧ m.barrier = true) → s.memSafe → Answers .chDisable s fun t =>
      (t.chan c).enabled = false ∧ (t.chan c).needsReset = true ∧ (t.chan c).desc = none ∧
      Counted .mover 0 R.MOVER_DISABLES_DROPPED s t ∧ (∀ b ∈ t.mover.bursts, b.ch ≠ c) ∧
      ∀ a, (∀ i j, j < d.dstLen → a ≠ d.dst + i * d.dstStride + j) → t.readByte a = s.readByte a)) ∧
  (∀ s : State, s.opens .mover R.MOVER_CH_CTRL 18 → let c := s.chSel
    let m := s.chan c
    (m.enabled = false → m.draining = false → Answers .chReset s fun t =>
      (t.chan c).needsReset = false ∧ (t.chan c).errCode = 0 ∧ (t.chan c).errIndex = 0 ∧ (t.chan c).more = false ∧
      (t.chan c).late = false ∧ (t.chan c).level = 0 ∧ (t.chan c).leftShown = 0 ∧ (t.chan c).descDone = 0 ∧ (t.chan c).bytes = 0 ∧
      (t.chan c).ringBase = m.ringBase ∧ (t.chan c).index = m.index ∧ (t.chan c).live = m.live ∧
      (∀ d, d ≠ c → t.chan d = s.chan d) ∧ t = { s with mover := t.mover }) ∧
    (m.enabled = true ∨ m.draining = true → exec .chReset s = .next (s.err .mover 0 0x01A2 c R.MOVER_CH_CTRL)) ∧
    (m.rereads = true → s.errs = [] → s.poisoned (m.descAddr m.index) 64 = false → Answers .chKick s fun t =>
      t.chan c = { m with readAt := s.time.now, ahead := s.offers (m.descAddr m.index) } ∧ (∀ d, d ≠ c → t.chan d = s.chan d) ∧
      t = { s with mover := t.mover }) ∧
    (m.rereads = true → s.errs = [] → s.poisoned (m.descAddr m.index) 64 = true → Answers .chKick s fun t =>
      t.chan c = { m with readAt := s.time.now, ahead := some none } ∧ t.mem = s.mem) ∧
    (m.rereads = false → exec .chKick s = .next s)) ∧
  (∀ (s : State) (c : Fin 256), let m := s.chan c
    let n := bitsOf m.ringCfg 31 16
    (n ≠ 0 → m.rereads = true → s.errs = [] → s.poisoned (m.descAddr m.index) 64 = false → Answers (.chIdlePoll c) s fun t =>
      t.chan c = { m with readAt := t.time.now, ahead := s.offers (m.descAddr m.index) } ∧ (∀ d, d ≠ c.val → t.chan d = s.chan d) ∧
      t.time.now = max s.time.now (m.readAt + n * 1024 * wNs) ∧ t.mem = s.mem) ∧
    (n = 0 ∨ m.rereads = false → exec (.chIdlePoll c) s = .next s)) ∧
  (∀ s : State, s.opens .mover 0x038 18 →
    (∀ c x l, s.mover.chans = (c, x) :: l → (setBad x.shadow).isSome = true →
      exec .moverShadowCommit s = .next (s.err .mover 0 0x01A3 c ((setBad x.shadow).getD 0))) ∧
    (∀ r holder, (∀ x ∈ s.mover.chans, setBad x.2.shadow = none) → s.lineClash s.newLines = some (r, holder) →
      exec .moverShadowCommit s = .next (s.refuseOwned .mover 0 r holder)) ∧
    ((∀ x ∈ s.mover.chans, setBad x.2.shadow = none) → s.newLines = [] → Answers .moverShadowCommit s fun t =>
      (t.hdr .mover 0).pending = true ∧ (t.hdr .mover 0).commitSeq = (s.hdr .mover 0).commitSeq + 1 ∧
      t.mover.commitAt = hubEdge s.time.now ∧ ∀ c, c < 256 → t.chan c = { s.chan c with pend := some (s.chan c).shadow })) ∧
  (∀ s : State, (s.hdr .mover 0).pending = true → Answers (.commitApplied ⟨.mover, 0⟩) s fun t =>
    t.time.now = max s.time.now ((s.mover.commitAt + 1) * wHub) ∧
    (∀ c x, let m := s.chan c
      (m.pend = some x → m.atBoundary = true → (t.chan c).live = x ∧ (t.chan c).pend = none ∧ (t.chan c).index = m.index ∧
        (t.chan c).hoSeq = (s.hdr .mover 0).commitSeq.toNat ∧ (t.chan c).hoFirst = m.index ∧
        (t.chan c).hoSame = (s.mover.commitAt == hubEdge t.time.now)) ∧
      (m.atBoundary = false → (t.chan c).live = m.live ∧ (t.chan c).pend = m.pend)) ∧
    ((∀ c, (s.chan c).pend = none ∨ (s.chan c).atBoundary = true) → (t.hdr .mover 0).pending = false ∧
      (t.hdr .mover 0).appliedSeq = (s.hdr .mover 0).commitSeq ∧ (t.hdr .mover 0).intCause.getLsbD 3 = true))

/-- R272 to R284: a hand-over takes the descriptor that the channel has read when it is sound, and halts the channel with the
code of the check that fails or at a poisoned word; a granted burst reads from the source lines and writes the destination lines, and the last one of a descriptor makes the channel read the next;
a channel that watches a level runs and stops at its thresholds. The data that returns is written to the destination and nowhere else, and data with
an uncorrected error halts the channel and writes nothing; when its writes are answered a descriptor is returned with OWN 0, and an error of a write halts the channel and names the descriptor that issued it.
Readings the model chose where the spec leaves one open: log entries 36, 41, 42 and 83. -/
def Obligations.MoverMovesItsDescriptors : Prop :=
  (∀ (s : State) (c : Fin 256), let m := s.chan c
    m.enabled = true → m.halted = false → m.halting = false → m.atBoundary = true → m.pend = none →
    (m.haltNext = false → m.ahead = none → Answers (.descriptorHandover c []) s fun t => (t.chan c).desc = none ∧
      (t.chan c).index = m.index ∧ (t.chan c).halted = false ∧ t.mem = s.mem) ∧
    (∀ b, m.haltNext = false → m.ahead = some (some b) → s.descBad (descOf m.index b) = none →
      Answers (.descriptorHandover c []) s fun t => (t.chan c).desc = some (descOf m.index b) ∧ (t.chan c).ahead = none ∧
        (t.chan c).index = m.nextIndex m.index ∧ (∀ d, d ≠ c.val → (t.chan d).desc = (s.chan d).desc) ∧ t.mem = s.mem) ∧
    (∀ b code, m.haltNext = false → m.ahead = some (some b) → s.descBad (descOf m.index b) = some code → m.unans = [] →
      m.errCode = 0 → Answers (.descriptorHandover c []) s fun t =>
        (t.chan c).halted = true ∧ (t.chan c).errCode = code ∧ (t.chan c).errIndex = m.index ∧
        (t.chan c).index = m.nextIndex m.index ∧ (t.chan c).desc = none ∧ (t.hdr .mover 0).intCause.getLsbD 16 = true ∧
        Counted .mover 0 R.MOVER_HALTS s t ∧ t.mem = s.mem) ∧
    (m.haltNext = false → m.ahead = some none → m.unans = [] → m.errCode = 0 → Answers (.descriptorHandover c []) s fun t =>
      (t.chan c).halted = true ∧ (t.chan c).errCode = 8 ∧ (t.chan c).errIndex = m.index ∧ (t.chan c).index = m.index ∧
      Counted .mover 0 R.MOVER_HALTS s t ∧ t.mem = s.mem) ∧
    (m.haltNext = true → m.unans = [] → Answers (.descriptorHandover c []) s fun t =>
      (t.chan c).halted = true ∧ (t.chan c).haltNext = false ∧ (t.chan c).desc = none ∧ (t.chan c).index = m.index ∧
      Counted .mover 0 R.MOVER_HALTS s t)) ∧
  (∀ (s : State) (c : Nat) (d : MvDesc), let m := s.chan c
    (∀ x ∈ s.mover.chans, wKind x.2.live.watch = 0) → s.pickChan = some c → m.desc = some d → d.burst ≠ 0 →
    s.outstanding + d.burst ≤ 262144 → Answers .burstGrant s fun t =>
      t.mover.bursts = s.mover.bursts ++ [⟨c, d.idx, d.src + d.si * d.srcStride + d.so, d.dst + d.di * d.dstStride + d.dof, d.burst⟩] ∧
      (t.chan c).desc = some (d.advance d.burst) ∧ (∀ e, e ≠ c → t.chan e = s.chan e) ∧ t.mem = s.mem ∧
      Counted .mover 0 R.MOVER_BURSTS s t ∧ t.time.now = max s.time.now (s.mover.readFree * wHub) ∧
      t.mover.readFree = hubEdge t.time.now + cdiv d.burst 1024 ∧ (d.burst < d.ungranted → (t.chan c).ahead = m.ahead) ∧
      (d.ungranted ≤ d.burst → s.errs = [] → s.poisoned (m.descAddr m.index) 64 = false →
        (t.chan c).ahead = s.offers (m.descAddr m.index) ∧ (t.chan c).readAt = t.time.now)) ∧
  (∀ (s : State) (c : Nat) (m : MvCh), let v := s.level m
    s.mover.chans = [(c, m)] → m.enabled = true → wKind m.live.watch ≠ 0 →
    (m.desc = none → Answers .burstGrant s fun t => (t.chan c).level = v ∧ t.mem = s.mem ∧ t.mover.bursts = s.mover.bursts ∧
      ((t.chan c).paceRun = true ↔ (v ≤ m.live.lo ∨ v < m.live.hi ∧ m.paceRun = true) ∧
        (wKind m.live.watch = 3 → v + s.inHand c + 64 ≤ m.live.hi))) ∧
    (∀ d, m.desc = some d → m.paceRun = true → m.live.lo < v → m.live.hi ≤ v → Answers .burstGrant s fun t =>
      t.chan c = { m with level := v, paceRun := false } ∧ t.mem = s.mem ∧ t.mover.bursts = s.mover.bursts ∧
      Counted .mover 0 R.MOVER_PACE_STOPS s t)) ∧
  (∀ (s : State) (b : MvBurst) (rest : List MvBurst) (d : MvDesc), let m := s.chan b.ch
    s.mover.bursts = b :: rest → m.desc = some d → s.memSafe → 0 < b.n → s.errs = [] →
    (s.poison = [] → s.othersWords b.ch = [] → (∀ k, k < b.n → b.dst + k < d.src ∨ d.src + d.srcExt ≤ b.dst + k) →
      (b.n < d.left → Answers (.burstDataReturn [] false) s fun t =>
        t.readMem b.dst b.n = s.readMem b.src b.n ∧ (∀ a, a < b.dst ∨ b.dst + b.n ≤ a → t.readByte a = s.readByte a) ∧
        (t.chan b.ch).desc = some { d with left := d.left - b.n } ∧ t.mover.bursts = rest ∧
        (t.chan b.ch).unans = m.unans ++ (wordsOf b.dst b.n).map (fun w => (w, d.idx)) ∧ (t.chan b.ch).m = m.m + b.n ∧
        t.mover.writeFree = max s.mover.writeFree (hubEdge s.time.now) + cdiv b.n 1024 ∧
        t.time.now = max s.time.now ((t.mover.writeFree - 1) * wHub)) ∧
      (d.left ≤ b.n → bit d.word0 1 = false → bit d.word0 2 = false → Answers (.burstDataReturn [] false) s fun t =>
        t.readMem b.dst b.n = s.readMem b.src b.n ∧ (∀ a, a < b.dst ∨ b.dst + b.n ≤ a → t.readByte a = s.readByte a) ∧
        (t.chan b.ch).desc = none ∧ (t.chan b.ch).barrier = m.barrier ∧ (t.chan b.ch).done = m.done ++ [⟨d.idx, d.word0, false⟩]) ∧
      (d.left ≤ b.n → bit d.word0 2 = true → Answers (.burstDataReturn [] false) s fun t =>
        (t.chan b.ch).desc = none ∧ (t.chan b.ch).barrier = true ∧ (t.chan b.ch).held = some d ∧
        (t.chan b.ch).done = m.done ++ [⟨d.idx, d.word0, false⟩])) ∧
    (s.poisoned b.src b.n = true → m.errCode = 0 → m.unans = [] → m.pend = none → Answers (.burstDataReturn [] false) s fun t =>
      t.mem = s.mem ∧ (t.chan b.ch).errCode = 6 ∧ (t.chan b.ch).errIndex = d.idx ∧ (t.chan b.ch).halted = true ∧
      (t.chan b.ch).desc = none ∧ Counted .mover 0 R.MOVER_HALTS s t) ∧
    (memLpddr b.src = true → m.errCode = 0 → m.unans = [] → m.pend = none → Answers (.burstDataReturn [] true) s fun t =>
      t.mem = s.mem ∧ (t.chan b.ch).errCode = 6 ∧ (t.chan b.ch).errIndex = d.idx ∧ (t.chan b.ch).halted = true ∧
      (t.chan b.ch).desc = none ∧ Counted .mch (mchOf b.src) R.MCH_ECC_UNCORR s t)) ∧
  (∀ (s : State) (c : Fin 256) (x : MvDone), let m := s.chan c
    m.enabled = true → m.unans ≠ [] → m.done = [x] → m.halting = false → s.memSafe → s.errs = [] →
    (m.barrier = false → Answers (.writesAnswered c []) s fun t =>
      t.readMem (m.descAddr x.idx) 8 = leBytes 8 (setBit x.word0 0 false).toNat ∧
      (∀ a, a < m.descAddr x.idx ∨ m.descAddr x.idx + 8 ≤ a → t.readByte a = s.readByte a) ∧
      (t.chan c).unans = [] ∧ (t.chan c).done = [] ∧ Counted .mover 0 R.MOVER_DESC_DONE s t) ∧
    (m.barrier = true → bit x.word0 1 = false → bit x.word0 2 = true → Answers (.writesAnswered c []) s fun t =>
      t.readMem (m.descAddr x.idx) 8 = leBytes 8 (setBit x.word0 0 false).toNat ∧ (t.chan c).barrier = false ∧
      (t.chan c).held = none ∧ (t.chan c).unans = [] ∧ (t.chan c).done = []) ∧
    (∀ w, w % 8 = 0 → memLpddr w = true → m.barrier = false → m.pend = none → m.errCode = 0 →
      (m.unans = [(w, x.idx)] → m.desc = none → Answers (.writesAnswered c [(w, .uncorrectable)]) s fun t => t.mem = s.mem ∧
        (t.chan c).errCode = 7 ∧ (t.chan c).errIndex = x.idx ∧ (t.chan c).late = true ∧ (t.chan c).halted = true ∧
        Counted .mover 0 R.MOVER_LATE_ERRORS s t ∧ Counted .mch (mchOf w) R.MCH_ECC_UNCORR s t) ∧
      (∀ d, m.desc = some d → m.unans = [(w, d.idx)] → d.idx ≠ x.idx → Answers (.writesAnswered c [(w, .uncorrectable)]) s fun t =>
        (t.chan c).errCode = 7 ∧ (t.chan c).errIndex = d.idx ∧ (t.chan c).late = false ∧ (t.chan c).halted = true ∧
        t.readMem (m.descAddr x.idx) 8 = leBytes 8 (setBit x.word0 0 false).toNat))) ∧
  (∀ (s : State) (c : Fin 256), (s.chan c).draining = true → Answers (.drainDone c) s fun t =>
    t.chan c = { s.chan c with draining := false, unans := [] } ∧ (∀ d, d ≠ c.val → t.chan d = s.chan d) ∧
    t = { s with mover := t.mover })

/-! The codec self-test. -/

/-- R266, R269 and R270: START takes the scratch slice that TEST_CFG names and runs the test; it is refused while a test runs, where another owner holds the slice, for settings that
break the rules and for a feature that was not accepted. The test encodes its elements to TEST_ENC, decodes them and combines them with those at TEST_DST, then releases the slice; one
that reads a poisoned word ends without writing.
Readings the model chose where the spec leaves one open: log entry 34. -/
def Obligations.CodecSelfTestRunsOnItsSlice : Prop :=
  (∀ s : State, s.opens .codec R.CODEC_TEST_CTRL 0 → let r := resSlice (tcSlice s.testCfg)
    (s.test.busy = true → exec .codecTestStart s = .next (s.err .codec 0 0x0190 0 R.CODEC_TEST_CTRL)) ∧
    (s.test.busy = false → s.ownerOf r ≠ 0 → s.ownerOf r ≠ ownerTest →
      exec .codecTestStart s = .next (s.refuseOwned .codec 0 r (s.ownerOf r))) ∧
    (s.test.busy = false → (s.ownerOf r = 0 ∨ s.ownerOf r = ownerTest) →
      (∀ po, s.testBad = some po → exec .codecTestStart s = .next (s.refuseEnable .codec 0 0x0191 0 po)) ∧
      (∀ b l, s.testBad = none → testNeeds s.testCfg = b :: l → s.feat b = false →
        exec .codecTestStart s = .next (s.err .codec 0 2 b R.CODEC_TEST_CTRL)) ∧
      (s.testBad = none → (∀ b ∈ testNeeds s.testCfg, s.feat b = true) → Answers .codecTestStart s fun t =>
        t.test.busy = true ∧ t.test.done = false ∧ t.test.poisoned = false ∧ t.ownerOf r = ownerTest ∧
        t = { s with test := t.test, scratch := t.scratch }))) ∧
  (∀ (s : State) (ys : List Nat), let w := s.testCfg
    let ty := tcElem w
    let n := tcCount w * elemSize ty
    let e := encode (tcCodec w) ty (elemsOfMem ty (s.readMem s.testSrc n))
    s.test.busy = true →
    (s.poison = [] → s.errs = [] → decode (tcCodec w) ty (tcCount w) e.bytes = .ok ys → Answers (.codecTestDone []) s fun t =>
      t.mem = ((s.writeMem s.testEnc e.bytes).apply (tcOp w) ty s.testDst ys).1.mem ∧
      t.test = { busy := false, done := true, poisoned := false, encBytes := e.bytes.length } ∧
      (s.ownerOf (resSlice (tcSlice w)) = ownerTest → t.ownerOf (resSlice (tcSlice w)) = 0) ∧
      (t.hdr .codec 0).intCause.getLsbD 16 = true ∧ Counted .codec 0 R.CODEC_TEST_RUNS s t) ∧
    (s.poisoned s.testSrc n = true → Answers (.codecTestDone []) s fun t => t.mem = s.mem ∧
      t.test = { s.test with busy := false, done := true, poisoned := true } ∧ Counted .codec 0 R.CODEC_TEST_RUNS s t)) ∧
  (∀ s : State, s.test.busy = false → exec (.codecTestDone []) s = .next s)

/-! Dailies, histograms and core counters. -/

/-- R289, R292 to R295 and R298 to R300: a capture at its instant takes every counter at once into the next slot, and is skipped and counted when the ring is full; TAKE asks for one at the next cycle start; a dump that has
been written shows its sequence number and cycle and advances RING_TAIL; RING_HEAD releases dumps up to RING_TAIL; the clears empty the histograms they name; a core counter that wraps
reads 0 and interrupts its hart unless its overflow bit is set, an interrupt that is masked waits until it is unmasked, and each trap records its PC.
Readings the model chose where the spec leaves one open: log entries 37, 38 and 44. -/
def Obligations.DailiesCaptureAndRelease : Prop :=
  (∀ s : State, s.captureDue = true →
    (s.dumpsHeld ≠ s.dumpSlots → s.cnt.busy = none → s.ddr.trained = true → exec .dailiesCapture s = .next { s with cnt := { s.cnt with
      busy := some s.capture, seq := s.cnt.seq + 1, take := false, wrapped := [], skipRun := false } }) ∧
    (s.dumpsHeld = s.dumpSlots → Answers .dailiesCapture s fun t => t.cnt.seq = s.cnt.seq + 1 ∧ t.cnt.take = false ∧
      t.cnt.busy = s.cnt.busy ∧ (t.hdr .cnt 0).intCause.getLsbD 17 = true ∧ Counted .cnt 0 R.CNT_DUMPS_SKIPPED_FULL s t) ∧
    (s.dumpsHeld ≠ s.dumpSlots → s.cnt.busy ≠ none → Answers .dailiesCapture s fun t => t.cnt.seq = s.cnt.seq + 1 ∧
      t.cnt.busy = s.cnt.busy ∧ Counted .cnt 0 R.CNT_DUMPS_SKIPPED_BUSY s t)) ∧
  (∀ s : State, s.captureDue = false → exec .dailiesCapture s = .next s) ∧
  (∀ s : State, s.opens .cnt R.CNT_DAILIES_CTRL 19 →
    exec .take s = .next (if (s.hdr .cnt 0).enable then { s with cnt := { s.cnt with take := true } } else s)) ∧
  (∀ (s : State) (c : Capture), s.cnt.busy = some c → s.memSafe → s.errs = [] → Answers .dumpWritten s fun t =>
    t.cnt.busy = none ∧ t.regF .cnt 0 R.CNT_RING_TAIL 31 0 = (s.regF .cnt 0 R.CNT_RING_TAIL 31 0 + 1) % 2 ^ 32 ∧
    t.reg .cnt 0 R.CNT_LAST_SEQ = wd c.seq ∧ (t.hdr .cnt 0).intCause.getLsbD 16 = true ∧ Counted .cnt 0 R.CNT_DUMPS_WRITTEN s t ∧
    t.readMem c.slot 16 = leBytes 8 c.seq ++
      leBytes 8 (c.cycle + b2n c.onDemand * 2 ^ 61 + b2n c.suspect * 2 ^ 62 + b2n c.civValid * 2 ^ 63)) ∧
  (∀ (s : State) (v : BitVec 32), s.opens .cnt R.CNT_RING_HEAD 19 → let old := s.regF .cnt 0 R.CNT_RING_HEAD 31 0
    ((v.toNat + 2 ^ 32 - old) % 2 ^ 32 ≤ s.dumpsHeld → Answers (.dailiesRingHead v) s fun t =>
      t.regF .cnt 0 R.CNT_RING_HEAD 31 0 = v.toNat ∧ OnlyReg .cnt 0 R.CNT_RING_HEAD s t) ∧
    (s.dumpsHeld < (v.toNat + 2 ^ 32 - old) % 2 ^ 32 → exec (.dailiesRingHead v) s = .next (s.err .cnt 0 0x01B1 0 v.toNat))) ∧
  (∀ (s : State) (g : Fin 64), s.opens .pgrp R.PGRP_HIST_CTRL 20 →
    exec (.clearSel g) s = .next { s with cnt := { s.cnt with hists := smErase s.cnt.hists (s.histSel g) } } ∧
    exec (.clearAll g) s = .next { s with cnt := { s.cnt with
      hists := ((List.range 24).map fun i => g.val * 24 + i).foldl smErase s.cnt.hists } }) ∧
  (∀ (s : State) (g : Fin 64) (kind : Fin 3) (v : BitVec 32), s.opens .pgrp (originOff kind) 20 →
    Answers (.histOriginWrite g kind v) s fun t => t.reg .pgrp g (originOff kind) = wd (v.toNat % 2 ^ 12) ∧
      t.cnt = { s.cnt with hists := ((List.range 8).map fun c => histNo g kind c).foldl smErase s.cnt.hists } ∧
      OnlyReg .pgrp g (originOff kind) { s with cnt := t.cnt } t) ∧
  (∀ s : State, s.opens .cnt R.CNT_OTHER_CTRL 20 → exec .otherClear s = .next { s with cnt := { s.cnt with other := {} } }) ∧
  (∀ (s : State) (h : Fin 16) (i : Fin 8) (masked : Bool) (pc : Word), Answers (.coreCounterOverflow h i (.wraps masked pc)) s fun t =>
    smGet t.core.hpm (16 * h + i) 0 = 0 ∧ ((h.val, i.val) ∈ t.core.ovf) ∧
    ((h.val, i.val) ∈ s.core.ovf → t.outs = s.outs ∧ t.core.ovfHeld = s.core.ovfHeld) ∧
    ((h.val, i.val) ∉ s.core.ovf → masked = true → t.outs = s.outs ∧ h.val ∈ t.core.ovfHeld) ∧
    ((h.val, i.val) ∉ s.core.ovf → masked = false → t.outs = s.outs ++ [.overflowIrq h] ∧ smGet t.core.ovfPc h 0 = pc)) ∧
  (∀ (s : State) (h : Fin 16) (i : Fin 8) (pc : Word),
    (h.val ∈ s.core.ovfHeld → Answers (.coreCounterOverflow h i (.unmasked pc)) s fun t => t.outs = s.outs ++ [.overflowIrq h] ∧
      h.val ∉ t.core.ovfHeld ∧ smGet t.core.ovfPc h 0 = pc ∧ t.core.ovf = s.core.ovf) ∧
    (h.val ∉ s.core.ovfHeld → exec (.coreCounterOverflow h i (.unmasked pc)) s = .next s) ∧
    (Answers (.coreCounterOverflow h i .cleared) s fun t => (h.val, i.val) ∉ t.core.ovf ∧ t.outs = s.outs ∧
      ∀ x, x ≠ (h.val, i.val) → (x ∈ t.core.ovf ↔ x ∈ s.core.ovf)))

/-! The reel and the alarm table. -/

/-- R302 to R310: the reel takes an ALARM record before a GAP and a GAP before a trace record, and drops a trace record that would leave less than RESERVE; EMIT produces the SW record with its words; RING_HEAD releases
records up to RING_TAIL; a sound ring is enabled from 0, and a disable takes or counts as lost what the FIFO holds (log entry 86). The alarm table merges an occurrence into the key of its class and source, or opens the lowest free key and notifies when its severity asks for it; KEY_SEL captures a key,
and a RELEASE frees it unless it changed since or is free. -/
def Obligations.ReelAndAlarmTableTakeTheirRecords : Prop :=
  (∀ s : State, (s.hdr .trace 0).enable = true → let n := s.regF .trace 0 R.TRACE_RING_TAIL 31 0
    let at_ := s.regF .trace 0 R.TRACE_RING_BASE 47 0 + n % s.reelSlots * 32
    let reserve := s.regF .trace 0 R.TRACE_RING_CFG 31 16
    (∀ r l, s.trace.alarms = r :: l →
      (0 < s.reelFree → s.memSafe → s.errs = [] → Answers .reelWrite s fun t => t.readMem at_ 32 = recBytes r ∧ t.trace.alarms = l ∧
        t.regF .trace 0 R.TRACE_RING_TAIL 31 0 = (n + 1) % 2 ^ 32 ∧ Counted .trace 0 R.TRACE_ALARM_RECORDS s t ∧
        ∀ a, a < at_ ∨ at_ + 32 ≤ a → t.readByte a = s.readByte a) ∧
      (s.reelFree = 0 → Answers .reelWrite s fun t => t.mem = s.mem ∧ t.trace.alarms = l ∧
        Counted .trace 0 R.TRACE_ALARM_RECORDS_LOST s t)) ∧
    (∀ g l, s.trace.alarms = [] → s.gaps = g :: l → reserve < s.reelFree → s.memSafe → s.errs = [] →
      Answers .reelWrite s fun t => t.src g = { s.src g with lostRate := 0, lostSpace := 0, firstLoss := 0 } ∧ t.trace.fifo = s.trace.fifo ∧
      (t.readMem at_ 32).drop 8 = leBytes 8 (wd (s.src g).lostRate).toNat ++ leBytes 8 (wd (s.src g).lostSpace).toNat ++
        leBytes 8 (wd (s.src g).firstLoss).toNat ∧ Counted .trace 0 R.TRACE_GAPS_WRITTEN s t) ∧
    (∀ r l, s.trace.alarms = [] → s.trace.fifo = r :: l →
      (s.gaps = [] → reserve < s.reelFree → s.memSafe → s.errs = [] → Answers .reelWrite s fun t => t.readMem at_ 32 = recBytes r ∧ t.trace.fifo = l ∧
        t.regF .trace 0 R.TRACE_RING_TAIL 31 0 = (n + 1) % 2 ^ 32 ∧ Counted .trace 0 R.TRACE_RECORDS_WRITTEN s t) ∧
      (s.reelFree ≤ reserve → Answers .reelWrite s fun t => t.mem = s.mem ∧ t.trace.fifo = l ∧
        (t.src r.source).lostSpace = (s.src r.source).lostSpace + 1 ∧ Counted .trace 0 R.TRACE_LOST_FULL s t))) ∧
  (∀ s : State, s.opens .trace R.TRACE_SW_CTRL 21 → let x := s.src 68
    (s.passesFilter 68 none none none = true → 0 < x.tokens → x.lostRate + x.lostSpace = 0 → s.trace.fifo.length < 4096 →
      Answers .emit s fun t => (t.src 68).tokens = x.tokens - 1 ∧ ∃ r, t.trace.fifo = s.trace.fifo ++ [r] ∧ r.source = 68 ∧
        r.kind = 0x07 ∧ r.w1 = s.reg .trace 0 R.TRACE_SW_WORD ∧ r.w2 = s.reg .trace 0 (R.TRACE_SW_WORD + 8) ∧
        r.w3 = s.reg .trace 0 (R.TRACE_SW_WORD + 16)) ∧
    (s.passesFilter 68 none none none = false → exec .emit s = .next s)) ∧
  (∀ (s : State) (v : BitVec 32), s.opens .trace R.TRACE_RING_HEAD 21 → let old := s.regF .trace 0 R.TRACE_RING_HEAD 31 0
    let held := (s.regF .trace 0 R.TRACE_RING_TAIL 31 0 + 2 ^ 32 - old) % 2 ^ 32
    ((v.toNat + 2 ^ 32 - old) % 2 ^ 32 ≤ held → Answers (.traceRingHead v) s fun t =>
      t.regF .trace 0 R.TRACE_RING_HEAD 31 0 = v.toNat ∧ OnlyReg .trace 0 R.TRACE_RING_HEAD s t) ∧
    (held < (v.toNat + 2 ^ 32 - old) % 2 ^ 32 → exec (.traceRingHead v) s = .next (s.err .trace 0 0x01C6 0 v.toNat))) ∧
  (∀ s : State, s.opens .trace 0x018 21 → (s.hdr .trace 0).enable = false →
    (s.reelCfgOk = true → Answers .traceEnable s fun t => (t.hdr .trace 0).enable = true ∧
      t.regF .trace 0 R.TRACE_RING_HEAD 31 0 = 0 ∧ t.regF .trace 0 R.TRACE_RING_TAIL 31 0 = 0 ∧ t.trace = s.trace) ∧
    (s.reelCfgOk = false → exec .traceEnable s = .next (s.refuseEnable .trace 0 0x01C7 0 0x018))) ∧
  (∀ s : State, s.opens .trace 0x018 21 → (s.hdr .trace 0).enable = true → Answers (.blockEnable ⟨.trace, 0⟩ false) s fun t =>
    (t.hdr .trace 0).enable = false ∧ t.trace.fifo = [] ∧ t.trace.alarms = [] ∧
    (∀ r, s.trace.fifo = [r] → s.trace.alarms = [] → s.reserve + s.gaps.length < s.reelFree →
      Counted .trace 0 R.TRACE_RECORDS_WRITTEN s t) ∧
    (∀ r, s.trace.fifo = [r] → s.trace.alarms = [] → s.reelFree ≤ s.reserve + s.gaps.length →
      Counted .trace 0 R.TRACE_LOST_FULL s t ∧ t.mem = s.mem)) ∧
  (∀ (s : State) (o : Occ), s.featOk = true → s.alarm.pend = [o] →
    (∀ i k, s.alarmKey o.cls o.source = some i → smFind s.alarm.keys i = some k → Answers .alarmApply s fun t =>
      t.alarm.pend = [] ∧ ∃ u, smFind t.alarm.keys i = some u ∧ u.count = min (k.count + o.count) (2 ^ 48 - 1) ∧ u.lastNs = o.ns ∧
        u.lastDetail = o.detail ∧ u.firstNs = k.firstNs ∧ u.firstDetail = k.firstDetail ∧ u.cls = k.cls ∧ u.source = k.source) ∧
    (∀ i, s.alarmKey o.cls o.source = none → (lowest 1023 fun j => (smFind s.alarm.keys j).isNone) = some i →
      Answers .alarmApply s fun t => t.alarm.pend = [] ∧ Counted .alarm 0 R.ALARM_KEYS_OPENED s t ∧
        (∃ u, smFind t.alarm.keys i = some u ∧ u.cls = o.cls ∧ u.source = o.source ∧ u.sev = severity o.cls ∧ u.count = o.count ∧
          u.firstNs = o.ns ∧ u.lastNs = o.ns ∧ u.firstDetail = o.detail ∧ u.lastDetail = o.detail) ∧
        (nbit (fld (s.reg .alarm 0 R.ALARM_CFG) 27 24) (severity o.cls) = true →
          (t.hdr .alarm 0).intCause.getLsbD 16 = true ∧ Counted .alarm 0 R.ALARM_NOTIFICATIONS s t))) ∧
  (∀ s : State, s.featOk = false → exec .alarmApply s = .next s) ∧
  (∀ (s : State) (v : BitVec 32), s.opens .alarm R.ALARM_KEY_SEL 0 → Answers (.keySel v) s fun t => let i := v.toNat % 1024
    t.regF .alarm 0 R.ALARM_KEY_SEL 9 0 = i ∧
    t.alarm = { s.alarm with view := alarmView (smFind s.alarm.keys i), changed := false }) ∧
  (∀ s : State, s.opens .alarm R.ALARM_KEY_CTRL 0 → let i := s.regF .alarm 0 R.ALARM_KEY_SEL 9 0
    (smFind s.alarm.keys i ≠ none → s.alarm.changed = false →
      exec .alarmRelease s = .next { s with alarm := { s.alarm with keys := smErase s.alarm.keys i } }) ∧
    (smFind s.alarm.keys i = none ∨ s.alarm.changed = true → Answers .alarmRelease s fun t => t.alarm = s.alarm ∧
      (t.hdr .alarm 0).intCause.getLsbD 0 = true ∧ Counted .alarm 0 R.ALARM_RELEASES_REFUSED s t))

/-! Fault aggregation. -/

/-- R193, R312 to R316 and R320: a FAULT frame past stage 6 joins the report queue, or is discarded and counted; a key that has been quiet for FAULT_REPEAT cycles is reported RESOLVED and freed; SEND reports what its registers hold, whatever its state, to this node's own aggregation where it is the collector, and nothing while HALTED; the aggregator
counts a report into the entry of its key and marks its reporter, opens an entry for a new one, and discards a RESOLVED that no entry has; a stale entry is cleared; ENTRY_SEL captures an entry, which RELEASE frees unless it changed since;
an enable checks the bitmap area, which is zero when the block is ready.
Readings the model chose where the spec leaves one open: log entries 15 and 83. -/
def Obligations.FaultsAreReportedAndAggregated : Prop :=
  (∀ s : State, (∀ x ∈ s.fault.slots, cycDiff s.time.cycle x.lastOcc < s.faultRepeat) → exec .faultResolvedSend s = .next s) ∧
  (∀ (s : State) (x : LimSlot), s.fault.slots = [x] → (s.faultRepeat : Int) ≤ cycDiff s.time.cycle x.lastOcc →
    fld (s.reg .fault 0 R.FAULT_TX_CFG) 15 0 = s.nodeId → (s.hdr .fault 0).enable = true → s.fault.ready = true →
    s.fault.queue.length < 2048 → Answers .faultResolvedSend s fun t => t.fault.slots = [] ∧
      t.fault.queue = s.fault.queue ++ [⟨s.nodeId, 1, x.node, x.port, x.code, x.firstCycle, x.count, x.detail⟩] ∧
      Counted .fault 0 R.FAULT_TX_RESOLVED s t) ∧
  (∀ s : State, s.opens .fault R.FAULT_SW_CTRL 22 → let a := s.reg .fault 0 R.FAULT_SW_FAULT0
    let b := s.reg .fault 0 R.FAULT_SW_FAULT1
    let c := s.reg .fault 0 R.FAULT_TX_CFG
    (fld c 15 0 = s.nodeId → (s.hdr .fault 0).enable = true → s.fault.ready = true → s.fault.queue.length < 2048 →
      Answers .faultSwSend s fun t => t.fault.queue = s.fault.queue ++
        [⟨s.nodeId, fld a 55 48, fld a 15 0, if bit a 26 then 0x400 else fld a 25 16, fld a 47 32, s.time.cycle, fld b 31 0,
          fld b 63 32⟩] ∧
        (fld a 55 48 ≠ 1 → Counted .fault 0 R.FAULT_TX_SENT s t) ∧ (fld a 55 48 = 1 → Counted .fault 0 R.FAULT_TX_RESOLVED s t)) ∧
    (fld c 15 0 ≠ s.nodeId → s.node.state = .halted → exec .faultSwSend s = .next s) ∧
    (fld c 15 0 ≠ s.nodeId → s.node.state ≠ .halted → s.live.genPorts (fld c 35 16) = none → Answers .faultSwSend s fun t =>
      t.ports = s.ports ∧ t.fault = s.fault ∧ Counted .fault 0 R.FAULT_TX_FAILED s t)) ∧
  (∀ (s : State) (r : FaultReport) (l : List FaultReport), s.fault.queue = r :: l → s.fault.ready = true → s.memSafe →
    s.errs = [] → s.poison = [] → r.src < 2 ^ 16 →
    (∀ e x, s.faultKey r = some e → smFind s.fault.entries e = some x → r.resolved = false → s.repBit e r.src = false →
      Answers .faultAggregate s fun t => t.fault.queue = l ∧ t.repBit e r.src = true ∧ smFind t.fault.entries e = some
        { x with reports := x.reports + 1, lastRep := r.src, lastCycle := s.time.cycle, lastDetail := r.detail, stale := false,
                 active := x.active + 1, raises := min (x.raises + 1) 0xFFFFFFFF }) ∧
    (∀ e x, s.faultKey r = some e → smFind s.fault.entries e = some x → r.resolved = true → s.repBit e r.src = true →
      Answers .faultAggregate s fun t => t.fault.queue = l ∧ t.repBit e r.src = false ∧ smFind t.fault.entries e = some
        { x with reports := x.reports + 1, lastRep := r.src, lastCycle := s.time.cycle, lastDetail := r.detail, stale := false,
                 active := x.active - 1 }) ∧
    (s.faultKey r = none → r.resolved = true → Answers .faultAggregate s fun t => t.fault.queue = l ∧
      t.fault.entries = s.fault.entries ∧ t.mem = s.mem ∧ Counted .fault 0 R.FAULT_RX_RESOLVED_UNKNOWN s t) ∧
    (∀ e, s.faultKey r = none → r.resolved = false → (lowest 4096 fun i => (smFind s.fault.entries i).isNone) = some e →
      s.repBit e r.src = false → Answers .faultAggregate s fun t => t.fault.queue = l ∧ t.repBit e r.src = true ∧
        Counted .fault 0 R.FAULT_ENTRIES_OPENED s t ∧ ∃ x, smFind t.fault.entries e = some x ∧ x.node = r.node ∧ x.port = r.port ∧
        x.code = r.code ∧ x.reports = 1 ∧ x.active = 1 ∧ x.raises = 1 ∧ x.firstRep = r.src ∧ x.lastRep = r.src)) ∧
  (∀ (s : State) (e : Nat) (x : FaultEntry), let n := s.regF .fault 0 R.FAULT_AGG_CFG 23 0
    s.fault.entries = [(e, x)] → s.errs = [] →
    (n ≠ 0 → x.active ≠ 0 → (n : Int) ≤ cycDiff s.time.cycle x.lastCycle → Answers .faultStale s fun t =>
      t.fault.entries = [(e, { x with active := 0, stale := true })] ∧ ∀ k, k < 2 ^ 16 → t.repBit e k = false) ∧
    (n = 0 ∨ x.active = 0 ∨ cycDiff s.time.cycle x.lastCycle < n → exec .faultStale s = .next s)) ∧
  (∀ (s : State) (v : BitVec 32), s.opens .fault R.FAULT_ENTRY_SEL 0 → Answers (.entrySel v) s fun t => let e := v.toNat % 4096
    t.regF .fault 0 R.FAULT_ENTRY_SEL 11 0 = e ∧
    t.fault = { s.fault with view := faultView (smFind s.fault.entries e), changed := false }) ∧
  (∀ s : State, s.opens .fault R.FAULT_ENTRY_CTRL 22 → let e := s.regF .fault 0 R.FAULT_ENTRY_SEL 11 0
    (smFind s.fault.entries e ≠ none → s.fault.changed = false → s.errs = [] → Answers .faultRelease s fun t =>
      t.fault = { s.fault with entries := smErase s.fault.entries e } ∧ ∀ k, k < 2 ^ 16 → t.repBit e k = false) ∧
    (smFind s.fault.entries e = none → exec .faultRelease s = .next (s.err .fault 0 0x01C3 e 0)) ∧
    (smFind s.fault.entries e ≠ none → s.fault.changed = true → exec .faultRelease s = .next (s.err .fault 0 0x01C2 e 0))) ∧
  (∀ s : State, s.opens .fault 0x018 22 → (s.hdr .fault 0).enable = false →
    (s.repAreaOk = true → Answers .faultEnable s fun t => (t.hdr .fault 0).enable = true ∧ t.fault.entries = [] ∧
      t.fault.queue = s.fault.queue ∧ t.fault.ready = false ∧ t.mem = s.mem) ∧
    (s.repAreaOk = false → exec .faultEnable s = .next (s.refuseEnable .fault 0 0x01C4 0 0x018))) ∧
  (∀ s : State, (s.hdr .fault 0).enable = true → s.fault.ready = false → s.errs = [] → Answers .faultReady s fun t => t.fault.ready = true ∧
    (∀ e k, e < 4096 → k < 2 ^ 16 → t.repBit e k = false) ∧
    ∀ a, a < s.repAddr 0 0 ∨ s.repAddr 0 0 + 2 ^ 25 ≤ a → t.readByte a = s.readByte a) ∧
  (∀ (s : State) (f : HubFrame), let h := hdrOf f.frame.body
    s.nextHub = some f → s.live.identify h.handle = none → h.typ = tFault →
    ((s.hdr .fault 0).enable = true → s.fault.ready = true → s.fault.queue.length < 2048 → Answers (.hubReceive []) s fun t =>
      t.fault = { s.fault with queue := s.fault.queue ++ [faultOf h (payloadOf f.frame.body)] } ∧ t.mem = s.mem ∧ t.sq = s.sq) ∧
    ((s.hdr .fault 0).enable = false ∨ s.fault.ready = false → Answers (.hubReceive []) s fun t => t.fault = s.fault ∧
      t.mem = s.mem ∧ Counted .fault 0 R.FAULT_RX_NOT_READY s t) ∧
    ((s.hdr .fault 0).enable = true → s.fault.ready = true → 2048 ≤ s.fault.queue.length → Answers (.hubReceive []) s fun t =>
      t.fault = s.fault ∧ t.mem = s.mem ∧ Counted .fault 0 R.FAULT_AGG_QUEUE_FULL s t ∧ Alarmed 0x021 0 2 t))

/-! Harts and interrupts. -/

/-- R323, R324, R326 to R328: START releases the cores it names at HART_ENTRY, and is refused where one of them runs already or the entry is outside the memory a core can run from; a source whose level is 1 signals its identity
once until it is rearmed; a timer interrupts a released core when MTIME reaches its compare value.
Readings the model chose where the spec leaves one open: log entries 48 and 49. -/
def Obligations.CoresStartAndTakeInterrupts : Prop :=
  (∀ (s : State) (mask : BitVec 16), s.opens .global R.GLOBAL_HART_CTRL 0 → mask ≠ 0 →
    ((∀ h, h < 16 → nbit mask.toNat h = true → nbit s.core.released h = false) → entryOk s.hartEntry = true →
      exec (.hartStart mask) s = .next { s with
        core := { s.core with released := s.core.released ||| mask.toNat }
        outs := s.outs ++ ((List.range 16).filter fun h => nbit mask.toNat h).map fun h => Out.release h s.hartEntry }) ∧
    (∀ h, h < 16 → nbit mask.toNat h = true → nbit s.core.released h = true →
      (∀ j, j < h → nbit mask.toNat j = true → nbit s.core.released j = false) →
      exec (.hartStart mask) s = .next (s.err .global 0 0x01D0 h R.GLOBAL_HART_CTRL)) ∧
    ((∀ h, h < 16 → nbit mask.toNat h = true → nbit s.core.released h = false) → entryOk s.hartEntry = false →
      exec (.hartStart mask) s = .next (s.err .global 0 0x01D1 0 (s.hartEntry % 2 ^ 32)))) ∧
  (∀ (s : State) (v : BitVec 32), s.opens .global R.GLOBAL_IRQ_REARM 0 →
    exec (.irqRearm v) s = .next { s with core := { s.core with
      disarmed := if v.getLsbD 31 then [] else s.core.disarmed.filter fun j => j != v.toNat % 128 } }) ∧
  (∀ (s : State) (j : Fin 128), s.pwr.held = false → let i := s.srcId j
    (s.srcLevel j = true → j.val ∉ s.core.disarmed → s.routed i = true → Answers (.irqSignal j) s fun t =>
      t.core.disarmed = j.val :: s.core.disarmed ∧ (bitsOf (s.route i) 3 0, bitsOf (s.route i) 4 4, i) ∈ t.core.pendIrq ∧
      t.outs = s.outs ++ [.irq (bitsOf (s.route i) 3 0) (bitsOf (s.route i) 4 4) i] ∧ Counted .global 0 R.GLOBAL_IRQ_SIGNALS s t) ∧
    (s.srcLevel j = false ∨ j.val ∈ s.core.disarmed ∨ s.routed i = false → exec (.irqSignal j) s = .next s)) ∧
  (∀ (s : State) (h : Fin 16), s.pwr.held = false →
    (nbit s.core.released h = true →
      (Answers (.machineTimerInterrupt h) s fun t =>
        t.time.now = max s.time.now (s.mtimeAt (s.reg .global 0 (R.GLOBAL_MTIMECMP + 8 * h)).toNat) ∧
        t.outs = s.outs ++ [.timerIrq h false] ∧ t = { s with time := { s.time with now := t.time.now }, outs := t.outs }) ∧
      Answers (.supervisorTimerInterrupt h) s fun t =>
        t.time.now = max s.time.now (s.mtimeAt (smGet s.core.stimecmp h 0).toNat) ∧
        t.outs = s.outs ++ [.timerIrq h true] ∧ t = { s with time := { s.time with now := t.time.now }, outs := t.outs }) ∧
    (nbit s.core.released h = false → exec (.machineTimerInterrupt h) s = .next s ∧ exec (.supervisorTimerInterrupt h) s = .next s))

/-! The management port. -/

/-- R329, R330 and R336: KICK and the idle poll read the OWN bit of the present descriptor; an owned transmit descriptor's frame is sent, padded to 60 bytes and with its FCS, and the descriptor returned with its STATUS, or returned
without a frame where its buffer is bad; a received frame that the port accepts goes to an owned descriptor, waits for one while the buffer has room, and is counted and dropped otherwise, as is one that the filter, the FCS or its
length excludes; a link change shows in MAC_STATUS and its cause.
Readings the model chose where the spec leaves one open: log entry 39. -/
def Obligations.ManagementPortMovesItsFrames : Prop :=
  (∀ s : State, s.opens .mgmt R.MGMT_TX_CTRL 0 → s.mgmtOn = true → s.errs = [] → s.poison = [] →
    exec .mgmtTxKick s = .next { s with mgmt := { s.mgmt with txReady := s.mgOwned s.txDesc } }) ∧
  (∀ s : State, s.mgmtOn = true → s.mgmt.txReady = true → s.memSafe → s.errs = [] → s.poison = [] → let a := s.txDesc
    let w := s.mgWord a 0
    let n := fld w 61 48
    (s.mgStatus w 14 1518 = 0 → Answers .mgmtTxDescriptor s fun t =>
      t.outs = s.outs ++ [.mgmtFrame (s.readMem (fld w 47 0) n ++ List.replicate (60 - n) 0) true] ∧ t.mgOwned a = false ∧
      (∀ b, b < a ∨ a + 16 ≤ b → t.readByte b = s.readByte b) ∧ t.mgmt.txReady = t.mgOwned t.txDesc ∧
      t.mgmt.txIndex = (s.mgmt.txIndex + 1) % s.mgRing R.MGMT_TX_RING_CFG ∧ Counted .mgmt 0 R.MGMT_TX_FRAMES s t) ∧
    (s.mgStatus w 14 1518 ≠ 0 → Answers .mgmtTxDescriptor s fun t => t.outs = s.outs ∧ t.mgOwned a = false ∧
      fld (t.mgWord a 1) 31 24 = s.mgStatus w 14 1518 ∧ t.mgmt.txReady = t.mgOwned t.txDesc ∧
      t.mgmt.txIndex = (s.mgmt.txIndex + 1) % s.mgRing R.MGMT_TX_RING_CFG)) ∧
  (∀ s : State, s.opens .mgmt R.MGMT_RX_CTRL 0 → s.mgmtOn = true → s.errs = [] → s.poison = [] → let a := s.rxDesc
    let w := s.mgWord a 0
    (s.mgmt.rxBuf = [] → exec .mgmtRxKick s = .next s) ∧
    (∀ f, s.mgmt.rxBuf = [f] → s.mgOwned a = true → s.mgStatus w 1536 (2 ^ 14) = 0 → s.memSafe → f.length < 2 ^ 14 →
      (fld w 47 0 + f.length ≤ a ∨ a + 16 ≤ fld w 47 0) → Answers .mgmtRxKick s fun t =>
        t.readMem (fld w 47 0) f.length = f ∧ t.mgOwned a = false ∧ fld (t.mgWord a 1) 13 0 = f.length ∧ t.mgmt.rxBuf = [] ∧
        t.mgmt.rxIndex = (s.mgmt.rxIndex + 1) % s.mgRing R.MGMT_RX_RING_CFG ∧ Counted .mgmt 0 R.MGMT_RX_FRAMES s t)) ∧
  (∀ s : State, s.mgmtOn = true → s.mgmt.rxBuf = [] → s.errs = [] → s.poison = [] →
    exec .mgmtIdlePoll s = .next { s with mgmt := { s.mgmt with txReady := s.mgOwned s.txDesc } }) ∧
  (∀ (s : State) (f : MgmtFrame), s.mgmtOn = true →
    (s.mgAccepts (beAt f.bytes 0 6) = false → Answers (.mgmtRxFrame f) s fun t => t.mgmt = s.mgmt ∧ t.mem = s.mem ∧
      Counted .mgmt 0 R.MGMT_RX_FILTERED s t) ∧
    (s.mgAccepts (beAt f.bytes 0 6) = true → f.fcsOk = false → Answers (.mgmtRxFrame f) s fun t => t.mgmt = s.mgmt ∧
      t.mem = s.mem ∧ Counted .mgmt 0 R.MGMT_RX_FCS_ERR s t) ∧
    (s.mgAccepts (beAt f.bytes 0 6) = true → f.fcsOk = true → 1518 < f.bytes.length → Answers (.mgmtRxFrame f) s fun t =>
      t.mgmt = s.mgmt ∧ t.mem = s.mem ∧ Counted .mgmt 0 R.MGMT_RX_TOO_LONG s t) ∧
    (s.mgAccepts (beAt f.bytes 0 6) = true → f.fcsOk = true → f.bytes.length ≤ 1518 → s.errs = [] → s.poison = [] →
      s.mgOwned s.rxDesc = false →
      ((s.mgmt.rxBuf.map List.length).sum + f.bytes.length ≤ 16384 → Answers (.mgmtRxFrame f) s fun t =>
        t = { s with mgmt := { s.mgmt with rxBuf := s.mgmt.rxBuf ++ [f.bytes] } }) ∧
      (16384 < (s.mgmt.rxBuf.map List.length).sum + f.bytes.length → Answers (.mgmtRxFrame f) s fun t =>
        t.mgmt = s.mgmt ∧ (t.hdr .mgmt 0).intCause.getLsbD 18 = true ∧ Counted .mgmt 0 R.MGMT_RX_NO_DESC s t))) ∧
  (∀ (s : State) (up fd : Bool) (speed : Nat), s.pwr.held = false → Answers (.mgmtLinkChange up speed fd) s fun t =>
    t.mgmt = { s.mgmt with link := up, speed := speed % 4, duplex := fd } ∧ (t.hdr .mgmt 0).intCause.getLsbD 19 = true ∧
    OnlyHeader .mgmt 0 { s with mgmt := t.mgmt } t)

/-! Secure boot and the fuses. -/

/-- R332 and R333: the checks of a slot fail in their order, each with its code; the boot ROM starts slot 0 where it passes, else slot 1, and asserts the alert pin where neither does. PROGRAM_KEY, REVOKE, SET_COUNTER and
SET_PROVISIONED begin their operation and are refused where BOOT_LOCK is set, the key is programmed, no usable key would be left, or the counter would fall or pass 64; an operation that completes blows its fuses.
Readings the model chose where the spec leaves one open: log entries 16, 47, 50 and 59. -/
def Obligations.BootChecksImagesAndFusesBlow : Prop :=
  (∀ (x : SecSt) (f : FlashSlot), let h := f.header
    (f.responds = false → x.slotCode f = 1) ∧
    (f.responds = true → 512 ≤ h.length →
      (magicOk h = false → x.slotCode f = 2) ∧
      (magicOk h = true → headerOk h = false → x.slotCode f = 3) ∧
      (magicOk h = true → headerOk h = true → x.badKey h = true → x.slotCode f = 4) ∧
      (magicOk h = true → headerOk h = true → x.badKey h = false → hdrBodyLen h ≤ f.body.length →
        x.slotCode f = if sigOk h = false then 5 else if hdrSecVersion h < x.counter then 6
          else if Config.sha384 (bodyOf f) = hdrBytes h 0x028 48 then 0 else 7))) ∧
  (∀ (s : State) (f0 f1 : FlashSlot), s.pwr.held = false → s.pwr.core0 = true → s.sec.done = false → s.sec.code1 = 0 → s.memSafe →
    s.errs = [] →
    Answers (.boot f0 f1) s fun t => t.sec.unprov = !s.sec.prov ∧ t.sec.code0 = s.sec.slotCode f0 ∧
      if s.sec.slotCode f0 = 0 then
        t.sec.done = true ∧ t.sec.slot = 0 ∧ t.sec.lock = s.sec.prov ∧ t.outs = s.outs ++ [.release 0 (hdrEntry f0.header)] ∧
        t.readMem (hdrLoad f0.header) (bodyOf f0).length = bodyOf f0
      else if s.sec.slotCode f1 = 0 then
        t.sec.code1 = 0 ∧ t.sec.done = true ∧ t.sec.slot = 1 ∧ t.sec.lock = s.sec.prov ∧
        t.outs = s.outs ++ [.release 0 (hdrEntry f1.header)] ∧ t.readMem (hdrLoad f1.header) (bodyOf f1).length = bodyOf f1
      else t.sec.code1 = s.sec.slotCode f1 ∧ t.sec.done = false ∧ t.sec.lock = s.sec.lock ∧ t.pwr.alert = true ∧
        t.outs = s.outs ++ [.alertN false]) ∧
  (∀ s : State, s.opens .sec R.SEC_FUSE_CTRL 0 → s.sec.op = none →
    (∀ k : Fin 4,
      (s.sec.lock = false → nth s.sec.keys k none = none → exec (.programKey k) s =
        .next { s with sec := { s.sec with op := some ⟨1, k, 0, s.keyStage⟩ } }) ∧
      (s.sec.lock = false → nth s.sec.keys k none ≠ none → exec (.programKey k) s = .next (s.err .sec 0 0x01F0 1 0)) ∧
      (s.sec.lock = true → exec (.programKey k) s = .next (s.err .sec 0 0x01F4 1 0)) ∧
      ((∃ j, j < 4 ∧ j ≠ k.val ∧ s.sec.usable j = true) → exec (.revoke k) s =
        .next { s with sec := { s.sec with op := some ⟨2, k, 0, s.keyStage⟩ } }) ∧
      ((∀ j, j < 4 → j ≠ k.val → s.sec.usable j = false) → exec (.revoke k) s = .next (s.err .sec 0 0x01F1 2 0))) ∧
    (∀ n : BitVec 7, (s.sec.counter ≤ n.toNat → n.toNat ≤ 64 → exec (.setCounter n) s =
        .next { s with sec := { s.sec with op := some ⟨3, 0, n.toNat, s.keyStage⟩ } }) ∧
      (n.toNat < s.sec.counter ∨ 64 < n.toNat → exec (.setCounter n) s = .next (s.err .sec 0 0x01F2 3 0))) ∧
    (s.sec.lock = false → (∃ j, j < 4 ∧ s.sec.usable j = true) → exec .setProvisioned s =
      .next { s with sec := { s.sec with op := some ⟨4, 0, 0, s.keyStage⟩ } }) ∧
    (s.sec.lock = false → (∀ j, j < 4 → s.sec.usable j = false) → exec .setProvisioned s = .next (s.err .sec 0 0x01F1 4 0)) ∧
    (s.sec.lock = true → exec .setProvisioned s = .next (s.err .sec 0 0x01F4 4 0))) ∧
  (∀ (s : State) (o : FuseOp), s.sec.op = some o → Answers .fuseOpDone s fun t => t = { s with sec := t.sec } ∧ t.sec.op = none ∧
    (o.op = 1 → t.sec.keys = setNth s.sec.keys o.key (some o.hash)) ∧ (o.op = 2 → t.sec.revoked = setNth s.sec.revoked o.key true) ∧
    (o.op = 3 → t.sec.counter = o.n) ∧ (o.op = 4 → t.sec.prov = true))

/-! Power, reset, LPDDR training and temperature. -/

/-- R338 to R346, R348, R362 and R365 to R367: the sequencer enables one rail after another from VDD_AO to PGOOD, and samples STRAP_OSC with the first; a rail that misses its limit, a current limit, an overvoltage, the lockout and thermal shutdown
put the endpoint in reset and turn rails off, the lanes first and PGOOD with the first rail. A
reset keeps the fuses and RESET_CAUSE and returns the rest; its release, 1 ms after PGOOD and RST_N or 10 µs after DEVICE_RESET, samples the straps; the PLLs zero staging memory; core 0 starts in the boot ROM 100 µs after the release, the PLLs locked.
Training reports its channels; the throttle stage follows the hottest sensor.
Readings the model chose where the spec leaves one open: log entries 51, 52, 60 and 88; the status bits of the PMBus are log entry 53's. -/
def Obligations.PowerResetAndTemperature : Prop :=
  (∀ (s : State) (drained : Bool) (low : Nat), s.pwr.seq = .off →
    ((drained = true ∨ 10000 ≤ low) → Answers (.uvloRise drained low) s fun t => t.pwr.seq = .rail 0 ∧ t.pwr.rails = 0 ∧
      t.pwr.cause = 1 ∧ t.pwr.pgood = false ∧ t.pwr.held = true ∧ t.pwr.oscSet = false ∧ t = { s with pwr := t.pwr }) ∧
    (drained = false → low < 10000 → exec (.uvloRise drained low) s = .next s)) ∧
  (∀ (s : State) (r : Fin 10) (osc : Bool), s.pwr.seq = .rail r →
    (Answers (.railInRegulation r osc) s fun t => t.pwr.rails = s.pwr.rails ||| 2 ^ r.val ∧
      t.pwr.seq = (if r.val = 0 then .crystal else if r.val = 9 then .good else .rail (r.val + 1)) ∧
      (r.val = 0 → t.pwr.osc = (if s.pwr.oscSet then s.pwr.osc else osc) ∧ t.pwr.oscSet = true) ∧
      (r.val ≠ 0 → t.pwr.osc = s.pwr.osc) ∧
      (r.val = 9 → t.pwr.pgood = true ∧ t.outs = s.outs ++ [.pgood true] ∧ t.pwr.relAt = s.pwr.ao + 1000000) ∧
      t = { s with pwr := t.pwr, outs := t.outs }) ∧
    Answers (.railTimeout r) s fun t => t.pwr.seq = .stopped ∧ t.pwr.rails = 0 ∧ t.pwr.stopRail = r + 1 ∧ t.pwr.alert = true ∧
      t.pwr.held = true ∧ t.pwr.pgood = false ∧ t.outs = s.outs ++ s.resetOuts ++ s.pwr.offOuts 0 ++ [.alertN false] ∧
      (s.pwr.stVout.length = 10 → nbit (nth t.pwr.stVout r 0) 2 = true)) ∧
  (∀ s : State, s.pwr.seq = .crystal → exec .crystalStable s = .next { s with pwr := { s.pwr with seq := .rail 1 } }) ∧
  (∀ (s : State) (r : Fin 10), nbit s.pwr.rails r = true → (r.val = 1 ∨ r.val = 6 ∨ r.val = 7 ∨ r.val = 8) →
    Answers (.railCurrentLimit r) s fun t => t.pwr.seq = .stopped ∧ t.pwr.rails = 0 ∧ t.pwr.stopRail = r + 1 ∧ t.pwr.alert = true ∧
      t.pwr.held = true ∧ (s.pwr.stIout.length = 10 → nbit (nth t.pwr.stIout r 0) 7 = true) ∧
      (s.pwr.stVout.length = 10 → nbit (nth t.pwr.stVout r 0) 4 = true)) ∧
  (∀ s : State, s.pwr.seq ≠ .off →
    (Answers .uvloFall s fun t => t.pwr.seq = .off ∧ t.pwr.rails = 0 ∧ t.pwr.held = true ∧
      t.pwr.cause = (if s.pwr.pgood then s.pwr.cause ||| 16 else s.pwr.cause) ∧
      t.outs = s.outs ++ s.resetOuts ++ s.pwr.offOuts 0) ∧
    ∀ mv, 5800 < mv → Answers (.vinOvervoltage mv) s fun t => t.pwr.seq = .off ∧ t.pwr.rails = 0 ∧ t.pwr.held = true ∧
      t.pwr.alert = true ∧ t.pwr.stInput = s.pwr.stInput ||| 0x80) ∧
  (∀ s : State, s.pwr.held = false → ∀ c cause, ((c, cause) = (Instr.rstNAssert, 2) ∨ (c, cause) = (Instr.deviceReset, 4)) →
    Answers c s fun t => t.pwr.held = true ∧ t.pwr.cause = s.pwr.cause ||| cause ∧ t.pwr.rails = s.pwr.rails ∧
      t.pwr.addr = s.pwr.addr ∧ t.pwr.osc = s.pwr.osc ∧ t.pwr.mfg = s.pwr.mfg ∧ t.pwr.alert = false ∧
      (c = .rstNAssert → t.pwr.rstN = false) ∧ (c = .deviceReset → t.pwr.relAt = t.pwr.ao + 10000) ∧
      t.featAcc = 0 ∧ t.featLock = false ∧ t.featOk = false ∧ t.regs = [] ∧ t.pages = [] ∧ t.ports = [] ∧ t.node = {} ∧
      t.slate = {} ∧ t.sq = [] ∧ t.cq = [] ∧ t.mover = {} ∧ t.ddr.trained = false ∧ t.sec.keys = s.sec.keys ∧
      t.sec.revoked = s.sec.revoked ∧ t.sec.counter = s.sec.counter ∧ t.sec.prov = s.sec.prov ∧ t.sec.lock = false ∧
      t.outs = s.outs ++ s.resetOuts ∧ ∀ a, a < 2 ^ 29 → t.readByte a = s.readByte a) ∧
  (∀ (s : State) (mfg : Bool) (addr : BitVec 3), s.pwr.held = true → s.pwr.pgood = true →
    (∀ d, Answers (.resetRelease (some d) mfg addr) s fun t =>
      t.pwr.held = false ∧ t.pwr.addr = addr.toNat ∧ t.pwr.mfg = (if s.pwr.released then s.pwr.mfg else mfg) ∧
      t.pwr.ao = (if s.pwr.rstN then max s.pwr.ao s.pwr.relAt else max s.pwr.relAt (s.pwr.ao + d + 1000000)) ∧
      t.mtime = 0 ∧ t = { s with pwr := t.pwr, core := t.core }) ∧
    exec (.resetRelease none mfg addr) s = .next s) ∧
  (∀ s : State, s.pwr.held = false → s.pwr.pll = false → Answers .pllLock s fun t => t.pwr.pll = true ∧ t.poison = [] ∧
    (∀ a, a < 2 ^ 29 → t.readByte a = 0) ∧ ∀ a, 2 ^ 29 ≤ a → t.readByte a = s.readByte a) ∧
  (∀ s : State, s.pwr.held = false → s.pwr.core0 = false → let u := s.runTo (s.core.mtime0 + 100 * wUs)
    (s.pwr.mfg = false → s.pwr.pll = true → exec .core0Release s = .next { u with
      pwr := { u.pwr with core0 := true }, outs := u.outs ++ [.release 0 0x00FF00000000] }) ∧
    (s.pwr.mfg = true ∨ s.pwr.pll = false → exec .core0Release s = .next s)) ∧
  (∀ s : State, s.opens .ddr R.DDR_TRAIN_CTRL 0 →
    (s.ddr.busy = false → s.ddr.trained = false → Answers .ddrTrainStart s fun t => t.ddr.busy = true ∧ t.ddr.trained = false ∧
      Counted .ddr 0 R.DDR_TRAIN_RUNS s t) ∧
    (s.ddr.busy = true → exec .ddrTrainStart s = .next (s.err .ddr 0 0x0200 0 R.DDR_TRAIN_CTRL)) ∧
    (s.ddr.busy = false → s.ddr.trained = true → exec .ddrTrainStart s = .next (s.err .ddr 0 0x0201 0 R.DDR_TRAIN_CTRL))) ∧
  (∀ (s : State) (passed : BitVec 8), s.ddr.busy = true → Answers (.ddrTrainDone passed) s fun t =>
    t.ddr.busy = false ∧ t.ddr.done = true ∧ t.ddr.passed = passed.toNat ∧ t.ddr.failed = 255 - passed.toNat ∧
    (t.ddr.trained = true ↔ passed = 255#8) ∧ (t.hdr .ddr 0).intCause.getLsbD 16 = true ∧
    (passed ≠ 255#8 → Counted .ddr 0 R.DDR_TRAIN_FAILURES s t)) ∧
  (∀ t : Int, nextStage 0 t = (if 1840 ≤ t then 2 else if 1680 ≤ t then 1 else 0) ∧
    nextStage 1 t = (if 1840 ≤ t then 2 else if t ≤ 1600 then 0 else 1) ∧
    nextStage 2 t = (if t ≤ 1600 then 0 else if t ≤ 1760 then 1 else 2)) ∧
  (∀ (s : State) (ts : List Int), nbit s.pwr.rails 0 = true → s.pwr.held = false → Answers (.thermalSample ts) s fun t =>
    t.pwr.temps = ts ∧ t.pwr.hottest = hottest ts ∧ t.pwr.stage = nextStage s.pwr.stage (nth ts (hottest ts) 0) ∧
    (s.pwr.stage = 0 → t.pwr.stage ≠ 0 → (t.hdr .pwr 0).intCause.getLsbD 16 = true ∧ Counted .pwr 0 R.PWR_THROTTLE_ENTRIES s t)) ∧
  (∀ s : State, nbit s.pwr.rails 0 = true → Answers .thermalShutdown s fun t => t.pwr.seq = .thermal ∧
    t.pwr.rails = s.pwr.rails &&& 1 ∧ t.pwr.cause = s.pwr.cause ||| 8 ∧ t.pwr.held = true ∧ t.pwr.alert = true ∧
    t.pwr.stTemp = s.pwr.stTemp ||| 0x80)

/-! PMBus. -/

/-- R363 and R367: while VDD_AO is in regulation the slave answers at 0x40 + STRAP_ADDR: PAGE selects a rail or the device, the status and telemetry commands answer what the endpoint measured last, with a PEC where the master asks for one, OPERATION turns it off and on,
CLEAR_FAULTS clears what has passed, and a command not listed or a write with a wrong PEC is not acknowledged; without VDD_AO, or at another address, nothing answers (the number formats, the PEC and the status bits are the PMBus standard's: log entry 53). -/
def Obligations.PmbusAnswersWhileVddAoStands : Prop :=
  (∀ (s : State) (x : Smb) (c : Instr), (nbit s.pwr.rails 0 = false ∨ x.addr.toNat ≠ 0x40 + s.pwr.addr) →
    c ∈ [.operationOff x, .operationOn x, .clearFaults x, .voutMode x, .statusWord x, .statusVout x, .statusIout x, .statusInput x,
      .statusTemperature x, .statusCml x, .readVin x, .readIin x, .readPin x, .readVout x, .readIout x, .readPout x,
      .readTemperature1 x, .pmbusRevision x] → exec c s = .next s) ∧
  (∀ (s : State) (x : Smb), nbit s.pwr.rails 0 = true → x.addr.toNat = 0x40 + s.pwr.addr →
    let pecOk (code : Nat) (data : List Nat) : Prop := ∀ b, x.pec = some b → b.toNat = pecOf (smbSent x code data)
    (∀ v : BitVec 8, pecOk 0x00 [v.toNat] → (v.toNat < 10 ∨ v.toNat = 0xFF) → exec (.page x v) s = .next { s with
      pwr := { s.pwr with page := v.toNat }, outs := s.outs ++ [.pmbus []] }) ∧
    (∀ v : BitVec 8, pecOk 0x00 [v.toNat] → 10 ≤ v.toNat → v.toNat ≠ 0xFF → exec (.page x v) s = .next (s.out .pmbusNack)) ∧
    (∀ v : BitVec 8, ¬ pecOk 0x00 [v.toNat] → exec (.page x v) s = .next { s with
      pwr := { s.pwr with stCml := s.pwr.stCml ||| 0x20 }, outs := s.outs ++ [.pmbusNack] }) ∧
    (pecOk 0x01 [0x00] → s.pwr.page = 0xFF → Answers (.operationOff x) s fun t => t.pwr.seq = .off ∧ t.pwr.rails = 0 ∧
      t.pwr.held = true ∧ ∃ l, t.outs = s.outs ++ [.pmbus []] ++ l) ∧
    (pecOk 0x01 [0x80] → s.pwr.page = 0xFF → s.pwr.seq = .thermal → s.pwr.hot = false → exec (.operationOn x) s = .next { s with
      pwr := { s.pwr with seq := .crystal }, outs := s.outs ++ [.pmbus []] }) ∧
    (pecOk 0x01 [0x80] → s.pwr.page ≠ 0xFF ∨ s.pwr.seq ≠ .thermal ∨ s.pwr.hot = true →
      exec (.operationOn x) s = .next (s.out .pmbusNack)) ∧
    (pecOk 0x03 [] → Answers (.clearFaults x) s fun t => t.pwr.stCml = 0 ∧ t.pwr.stVout = List.replicate 10 0 ∧
      t.pwr.stIout = List.replicate 10 0 ∧ (s.pwr.vinOv = false → t.pwr.stInput = 0) ∧
      (s.pwr.vinOv = true → t.pwr.stInput = s.pwr.stInput) ∧ (s.pwr.overTemp = false → t.pwr.stTemp = 0) ∧
      t.outs = s.outs ++ [.pmbus []]) ∧
    (∀ c code v n, (c, code, n, v) ∈ [(Instr.statusWord x, 0x79, 2, s.pwr.statusWord),
        (.statusVout x, 0x7A, 1, s.pwr.pick s.pwr.stVout), (.statusIout x, 0x7B, 1, s.pwr.pick s.pwr.stIout),
        (.statusInput x, 0x7C, 1, s.pwr.stInput), (.statusTemperature x, 0x7D, 1, s.pwr.stTemp), (.statusCml x, 0x7E, 1, s.pwr.stCml),
        (.pmbusRevision x, 0x98, 1, 0x33),
        (.readTemperature1 x, 0x8D, 2, lin11 (decide (s.pwr.tempTlm < 0)) s.pwr.tempTlm.natAbs 16)] →
      exec c s = .next (s.out (.pmbus (smbReply x code (leBytes n v))))) ∧
    (∀ c code v, (c, code, v) ∈ [(Instr.readVin x, 0x88, lin11 false s.pwr.vinTlm 1000),
        (.readIin x, 0x89, lin11 false s.pwr.iinTlm 100), (.readPin x, 0x97, lin11 false s.pwr.pinTlm 10)] →
      exec c s = .next (s.out (if s.pwr.page = 0xFF then .pmbus (smbReply x code (leBytes 2 v)) else .pmbusNack))) ∧
    (∀ c code v n, let r := nth s.pwr.railTlm s.pwr.page (0, 0, 0)
      (c, code, n, v) ∈ [(Instr.voutMode x, 0x20, 1, 0x14), (.readVout x, 0x8B, 2, lin16 r.1),
        (.readIout x, 0x8C, 2, lin11 false r.2.1 1000), (.readPout x, 0x96, 2, lin11 false r.2.2 1000)] →
      exec c s = .next (s.out (if s.pwr.page < 10 then .pmbus (smbReply x code (leBytes n v)) else .pmbusNack))) ∧
    (∀ code : BitVec 8, code.toNat ∉ pmbListed → exec (.pmbusUnknownCommand x code) s = .next { s with
      pwr := { s.pwr with stCml := s.pwr.stCml ||| 0x80 }, outs := s.outs ++ [.pmbusNack] })) ∧
  (∀ (s : State) (x : Telemetry), nbit s.pwr.rails 0 = true → Answers (.telemetryRefresh x) s fun t => t.pwr.vinTlm = x.vinMv ∧
    t.pwr.iinTlm = x.iin ∧ t.pwr.pinTlm = x.pin ∧ t.pwr.railTlm = x.rails ∧ t.pwr.tempTlm = nth s.pwr.sens (hottest s.pwr.sens) 0 ∧
    (s.pwr.held = false → t.pwr.vinMv = x.vinMv ∧ t.pwr.iin = x.iin ∧ t.pwr.pin = x.pin) ∧ t = { s with pwr := t.pwr })
end

