-- ==== Sys2Proof/Laws/Sparse.lean ====
section
/-! SUPPORT. Sparse arrays: reading after listing and unlisting, and the order of the keys. -/

namespace Sys2Proof.Machine

open Sys2Proof

/-- Reading the index that was listed last gives the value listed. -/
theorem smFind_smSet_same {α : Type} (m : SMap α) (k : Nat) (v : α) : smFind (smSet m k v) k = some v := by
  induction m with
  | nil => simp [smSet, smFind]
  | cons x m ih =>
    obtain ⟨i, w⟩ := x
    unfold smSet
    split
    · simp [smFind]
    · split
      · simp [smFind]
      · rename_i h
        simp [smFind, Ne.symm h, ih]

/-- Listing a value at an index leaves every other index as it was. -/
theorem smFind_smSet_other {α : Type} (m : SMap α) (k j : Nat) (v : α) (h : j ≠ k) :
    smFind (smSet m k v) j = smFind m j := by
  induction m with
  | nil => simp [smSet, smFind, Ne.symm h]
  | cons x m ih =>
    obtain ⟨i, w⟩ := x
    unfold smSet
    split
    · simp [smFind, Ne.symm h]
    · split
      · rename_i _ hk
        subst hk
        simp [smFind, Ne.symm h]
      · simp only [smFind, ih]

/-- Dropping entries by their index: an index kept reads as before, an index dropped reads as unlisted. -/
theorem smFind_filter {α : Type} (p : Nat → Bool) (m : SMap α) (k : Nat) :
    smFind (m.filter fun x => p x.1) k = if p k then smFind m k else none := by
  induction m with
  | nil => simp [smFind]
  | cons x m ih =>
    obtain ⟨i, w⟩ := x
    rw [List.filter_cons]
    by_cases h : i = k
    · subst h
      by_cases hp : p i = true <;> simp [hp, smFind, ih]
    · by_cases hp : p i = true <;> simp [hp, smFind, h, ih]

/-- Unlisting an index leaves every other index as it was. -/
theorem smFind_smErase_other {α : Type} (m : SMap α) (a j : Nat) (h : j ≠ a) : smFind (smErase m a) j = smFind m j := by
  induction m with
  | nil => rfl
  | cons x m ih =>
    obtain ⟨i, w⟩ := x
    unfold smErase
    split
    · rename_i hk
      subst hk
      simp [smFind, Ne.symm h]
    · split
      · rfl
      · simp only [smFind, ih]

@[simp] theorem smGet_smSet_same {α : Type} (m : SMap α) (k : Nat) (v d : α) : smGet (smSet m k v) k d = v := by
  simp [smGet, smFind_smSet_same]

theorem smGet_smSet_other {α : Type} (m : SMap α) (k j : Nat) (v d : α) (h : j ≠ k) :
    smGet (smSet m k v) j d = smGet m j d := by
  simp [smGet, smFind_smSet_other m k j v h]

@[simp] theorem smGet_smMod_same {α : Type} (m : SMap α) (k : Nat) (d e : α) (f : α → α) :
    smGet (smMod m k d f) k e = f (smGet m k d) := by
  simp [smMod]

theorem smGet_smMod_other {α : Type} (m : SMap α) (k j : Nat) (d e : α) (f : α → α) (h : j ≠ k) :
    smGet (smMod m k d f) j e = smGet m j e := by
  simp [smMod, smGet_smSet_other _ _ _ _ _ h]

end Sys2Proof.Machine
end

