-- ==== Sys2Proof/Laws/Memory.lean ====
section
/-! SUPPORT. Memory keeps its canonical form under every memory operation, and a write changes the bytes written and no other. -/

namespace Sys2Proof.Machine

open Sys2Proof

/-- The canonical form, entry by entry: a first address below all that follow, and a byte other than the unlisted one. -/
theorem Memory.wf_cons (a : Nat) (b : Byte) (m : List Host.Cell) :
    Memory.wf ((a, b) :: m) = true ↔ b ≠ memDefault ∧ (∀ c ∈ m, a < c.1) ∧ Memory.wf m = true := by
  induction m generalizing a b with
  | nil => simp [Memory.wf]
  | cons x m ih =>
    obtain ⟨a', b'⟩ := x
    have := ih a' b'
    simp only [Memory.wf, Bool.and_eq_true, decide_eq_true_eq, List.mem_cons, forall_eq_or_imp]
    constructor
    · rintro ⟨⟨h1, h2⟩, h3⟩
      have h4 := this.1 h3
      exact ⟨h2, ⟨h1, fun c hc => lt_trans h1 (h4.2.1 c hc)⟩, h3⟩
    · rintro ⟨h1, ⟨h2, _⟩, h3⟩
      exact ⟨⟨h2, h1⟩, h3⟩

/-- Listing a byte other than the unlisted one keeps the canonical form. -/
theorem Memory.wf_smSet (m : List Host.Cell) (a : Nat) (b : Byte) (h : Memory.wf m = true) (hb : b ≠ memDefault) :
    Memory.wf (smSet m a b) = true ∧ ∀ c ∈ smSet m a b, c.1 = a ∨ ∃ d ∈ m, c.1 = d.1 := by
  induction m with
  | nil => simp [smSet, Memory.wf, hb]
  | cons x m ih =>
    obtain ⟨i, w⟩ := x
    rw [Memory.wf_cons] at h
    obtain ⟨h1, h2, h3⟩ := h
    unfold smSet
    split
    · rename_i hk
      constructor
      · rw [Memory.wf_cons, Memory.wf_cons]
        refine ⟨hb, ?_, h1, h2, h3⟩
        intro c hc
        rcases List.mem_cons.1 hc with rfl | hc
        · exact hk
        · exact lt_trans hk (h2 c hc)
      · intro c hc
        rcases List.mem_cons.1 hc with rfl | hc
        · exact .inl rfl
        · exact .inr ⟨c, hc, rfl⟩
    · split
      · rename_i _ hk
        subst hk
        constructor
        · rw [Memory.wf_cons]; exact ⟨hb, h2, h3⟩
        · intro c hc
          rcases List.mem_cons.1 hc with rfl | hc
          · exact .inl rfl
          · exact .inr ⟨c, List.mem_cons_of_mem _ hc, rfl⟩
      · rename_i hk hk'
        obtain ⟨i1, i2⟩ := ih h3
        constructor
        · rw [Memory.wf_cons]
          refine ⟨h1, ?_, i1⟩
          intro c hc
          rcases i2 c hc with h | ⟨d, hd, h⟩
          · rw [h]; omega
          · rw [h]; exact h2 d hd
        · intro c hc
          rcases List.mem_cons.1 hc with rfl | hc
          · exact .inr ⟨_, List.mem_cons_self .., rfl⟩
          · rcases i2 c hc with h | ⟨d, hd, h⟩
            · exact .inl h
            · exact .inr ⟨d, List.mem_cons_of_mem _ hd, h⟩

/-- What is left after unlisting was listed before. -/
theorem mem_of_mem_smErase {α : Type} (m : SMap α) (a : Nat) : ∀ c ∈ smErase m a, c ∈ m := by
  induction m with
  | nil => simp [smErase]
  | cons x m ih =>
    obtain ⟨i, w⟩ := x
    intro c hc
    unfold smErase at hc
    split at hc
    · exact List.mem_cons_of_mem _ hc
    · split at hc
      · exact hc
      · rcases List.mem_cons.1 hc with rfl | hc
        · exact List.mem_cons_self ..
        · exact List.mem_cons_of_mem _ (ih c hc)

/-- Unlisting keeps the canonical form. -/
theorem Memory.wf_smErase (m : List Host.Cell) (a : Nat) (h : Memory.wf m = true) : Memory.wf (smErase m a) = true := by
  induction m with
  | nil => simpa [smErase] using h
  | cons x m ih =>
    obtain ⟨i, w⟩ := x
    have h0 := h
    rw [Memory.wf_cons] at h
    unfold smErase
    split
    · exact h.2.2
    · split
      · exact h0
      · rw [Memory.wf_cons]
        exact ⟨h.1, fun c hc => h.2.1 c (mem_of_mem_smErase m a c hc), ih h.2.2⟩

/-- Writing one byte keeps the canonical form. -/
theorem Memory.wf_memSet (m : List Host.Cell) (a : Nat) (b : Byte) (h : Memory.wf m = true) : Memory.wf (memSet m a b) = true := by
  unfold memSet
  split
  · exact Memory.wf_smErase m a h
  · exact (Memory.wf_smSet m a b h ‹_›).1

/-- Writing bytes keeps the canonical form. -/
theorem Memory.wf_memWriteBytes (bs : List Byte) (m : List Host.Cell) (a : Nat) (h : Memory.wf m = true) :
    Memory.wf (memWriteBytes m a bs) = true := by
  induction bs generalizing m a with
  | nil => exact h
  | cons b bs ih => exact ih _ _ (Memory.wf_memSet m a b h)

/-- Keeping some entries keeps the canonical form. -/
theorem Memory.wf_filter (p : Host.Cell → Bool) (m : List Host.Cell) (h : Memory.wf m = true) : Memory.wf (m.filter p) = true := by
  induction m with
  | nil => exact h
  | cons x m ih =>
    obtain ⟨i, w⟩ := x
    rw [Memory.wf_cons] at h
    rw [List.filter_cons]
    split
    · rw [Memory.wf_cons]
      exact ⟨h.1, fun c hc => h.2.1 c (List.mem_of_mem_filter hc), ih h.2.2⟩
    · exact ih h.2.2

/-- Zeroing a range keeps the canonical form. -/
theorem Memory.wf_memClear (m : List Host.Cell) (a n : Nat) (h : Memory.wf m = true) : Memory.wf (memClear m a n) = true :=
  Memory.wf_filter _ m h

/-- An address below every listed one reads as unlisted. -/
theorem smFind_of_lt {α : Type} (m : SMap α) (j : Nat) (h : ∀ c ∈ m, j < c.1) : smFind m j = none := by
  induction m with
  | nil => rfl
  | cons x m ih =>
    obtain ⟨i, w⟩ := x
    have h1 := h _ (List.mem_cons_self ..)
    have h2 : i ≠ j := by simp at h1; omega
    simp [smFind, h2, ih fun c hc => h c (List.mem_cons_of_mem _ hc)]

/-- Unlisting an address makes it read as unlisted. -/
theorem smFind_smErase_same (m : List Host.Cell) (a : Nat) (h : Memory.wf m = true) : smFind (smErase m a) a = none := by
  induction m with
  | nil => rfl
  | cons x m ih =>
    obtain ⟨i, w⟩ := x
    rw [Memory.wf_cons] at h
    unfold smErase
    split
    · rename_i hk; subst hk; exact smFind_of_lt m i h.2.1
    · split
      · rename_i h1 h2
        have := smFind_of_lt m a fun c hc => lt_trans h2 (h.2.1 c hc)
        simp [smFind, h1, this]
      · rename_i h1 h2; simp [smFind, h1, ih h.2.2]

/-- A byte written reads back. -/
theorem memByte_memSet_same (m : List Host.Cell) (a : Nat) (b : Byte) (h : Memory.wf m = true) :
    memByte (memSet m a b) a = b := by
  unfold memSet memByte smGet
  split
  · rename_i hb; rw [smFind_smErase_same m a h]; exact hb.symm
  · rw [smFind_smSet_same]; rfl

/-- Writing one byte leaves every other byte as it was. -/
theorem memByte_memSet_other (m : List Host.Cell) (a j : Nat) (b : Byte) (hj : j ≠ a) :
    memByte (memSet m a b) j = memByte m j := by
  unfold memSet memByte smGet
  split
  · rw [smFind_smErase_other m a j hj]
  · rw [smFind_smSet_other m a j b hj]

/-- Writing bytes leaves every byte outside them as it was. -/
theorem memByte_memWriteBytes_other (bs : List Byte) (m : List Host.Cell) (a j : Nat)
    (hj : j < a ∨ a + bs.length ≤ j) : memByte (memWriteBytes m a bs) j = memByte m j := by
  induction bs generalizing m a with
  | nil => rfl
  | cons b bs ih =>
    simp only [List.length_cons] at hj
    rw [memWriteBytes, ih _ _ (by omega), memByte_memSet_other m a j b (by omega)]

/-- The bytes written read back. -/
theorem memByte_memWriteBytes (bs : List Byte) (m : List Host.Cell) (a i : Nat) (h : Memory.wf m = true) (hi : i < bs.length) :
    memByte (memWriteBytes m a bs) (a + i) = nth bs i 0 := by
  induction bs generalizing m a i with
  | nil => simp at hi
  | cons b bs ih =>
    rw [memWriteBytes]
    cases i with
    | zero =>
      rw [memByte_memWriteBytes_other bs _ _ _ (by omega)]
      simp [nth, memByte_memSet_same m a b h]
    | succ i =>
      have := ih (memSet m a b) (a + 1) i (Memory.wf_memSet m a b h) (by simpa using hi)
      rw [show a + (i + 1) = a + 1 + i by omega, this]
      simp [nth]

end Sys2Proof.Machine
end

