-- ==== Sys2Proof/Laws/Frame.lean ====
section
/-! SUPPORT. What every operation that is no reset and no feature lock keeps: the queue, the features, internal reset and the canonical
form of memory. One lemma per operation says so; a proof over commands cites these and unfolds none of the operations. -/

namespace Sys2Proof.Machine

open Sys2Proof

/-- `t` has the queue, the features and the internal reset of `s`, and memory in canonical form if `s` has. -/
structure Steady (s t : State) : Prop where
  pending : t.pending = s.pending
  featAcc : t.featAcc = s.featAcc
  featLock : t.featLock = s.featLock
  featOk : t.featOk = s.featOk
  held : t.pwr.held = s.pwr.held
  mem : Memory.wf s.mem = true → Memory.wf t.mem = true

theorem Steady.refl (s : State) : Steady s s := ⟨rfl, rfl, rfl, rfl, rfl, id⟩

theorem Steady.trans {s t u : State} (h : Steady s t) (g : Steady t u) : Steady s u :=
  ⟨g.1.trans h.1, g.2.trans h.2, g.3.trans h.3, g.4.trans h.4, g.5.trans h.5, fun x => g.6 (h.6 x)⟩

/-- A record update of any other field keeps them. -/
@[simp] theorem Steady.update {s₀ t : State} {freeCount instDraw pages regs time node slate ports groups stream evt hubIn poison errs resv scrubs sq cq xfer lz core scratch cnt trace alarm fault mover test mgmt sec ddr pwr outs} (hp : PwrSt.held pwr = t.pwr.held) (h : Steady s₀ t) :
    Steady s₀ (State.mk t.pending freeCount t.featAcc t.featLock t.featOk instDraw pages regs time node slate ports groups stream evt hubIn t.mem poison
      errs resv scrubs sq cq xfer lz core scratch cnt trace alarm fault mover test mgmt sec ddr pwr outs) :=
  ⟨h.1, h.2, h.3, h.4, hp.trans h.5, h.6⟩

@[simp] theorem Steady.ite {s₀ a b : State} {c : Prop} [Decidable c] (ha : Steady s₀ a) (hb : Steady s₀ b) :
    Steady s₀ (if c then a else b) := by
  split <;> assumption

@[simp] theorem Steady.foldl {α : Type} {s₀ s : State} (l : List α) (f : State → α → State) (h : Steady s₀ s)
    (hf : ∀ u x, Steady s₀ u → Steady s₀ (f u x)) : Steady s₀ (l.foldl f s) := by
  induction l generalizing s with
  | nil => exact h
  | cons x l ih => exact ih (hf _ _ h)

@[simp] theorem Steady.foldl_fst {α β : Type} {s₀ : State} {s : State × β} (l : List α) (f : State × β → α → State × β)
    (h : Steady s₀ s.1) (hf : ∀ u x, Steady s₀ u.1 → Steady s₀ (f u x).1) : Steady s₀ (l.foldl f s).1 := by
  induction l generalizing s with
  | nil => exact h
  | cons x l ih => exact ih (hf _ _ h)

@[simp] theorem State.writeMem_steady {s₀ s : State} (a : Nat) (bs : List Byte) (hs : Steady s₀ s) : Steady s₀ (s.writeMem a bs) :=
  ⟨hs.1, hs.2, hs.3, hs.4, hs.5, fun x => Memory.wf_memWriteBytes _ _ _ (hs.6 x)⟩

@[simp] theorem State.zeroMem_steady {s₀ s : State} (a n : Nat) (hs : Steady s₀ s) : Steady s₀ (s.zeroMem a n) :=
  ⟨hs.1, hs.2, hs.3, hs.4, hs.5, fun x => Memory.wf_memClear _ _ _ (hs.6 x)⟩

@[simp] theorem State.free_steady {s₀ s : State} (hs : Steady s₀ s) : Steady s₀ s.free.2 :=
  ⟨hs.1, hs.2, hs.3, hs.4, hs.5, hs.6⟩

end Sys2Proof.Machine
end

