-- ==== Sys2Proof/Laws/FrameBase.lean ====
section
/-! SUPPORT. The operations of pages, outputs, memory and its errors, trace, alarms, transmission, streams, zones and slates keep the queue, the features, internal reset and the canonical form of memory. -/

namespace Sys2Proof.Machine

open Sys2Proof

@[simp] theorem State.modHdr_steady {s₀ s : State} (k : PageKind) (i : Nat) (f : PageHdr → PageHdr)
    (hs : Steady s₀ s) : Steady s₀ (s.modHdr k i f) := by
  unfold State.modHdr
  simp +contextual (maxDischargeDepth := 30) [*]

@[simp] theorem State.setReg_steady {s₀ s : State} (k : PageKind) (i po : Nat) (v : Word)
    (hs : Steady s₀ s) : Steady s₀ (s.setReg k i po v) := by
  unfold State.setReg
  simp +contextual (maxDischargeDepth := 30) [*]

@[simp] theorem State.cause_steady {s₀ s : State} (k : PageKind) (i bitNo : Nat)
    (hs : Steady s₀ s) : Steady s₀ (s.cause k i bitNo) := by
  unfold State.cause
  simp +contextual (maxDischargeDepth := 30) [*]

@[simp] theorem State.err_steady {s₀ s : State} (k : PageKind) (i code detail info : Nat)
    (hs : Steady s₀ s) : Steady s₀ (s.err k i code detail info) := by
  unfold State.err
  simp +contextual (maxDischargeDepth := 30) [*]

@[simp] theorem State.refuseOwned_steady {s₀ s : State} (k : PageKind) (i resource holder : Nat)
    (hs : Steady s₀ s) : Steady s₀ (s.refuseOwned k i resource holder) := by
  unfold State.refuseOwned
  simp +contextual (maxDischargeDepth := 30) [*]

@[simp] theorem State.refuseEnable_steady {s₀ s : State} (k : PageKind) (i code detail info : Nat)
    (hs : Steady s₀ s) : Steady s₀ (s.refuseEnable k i code detail info) := by
  unfold State.refuseEnable
  simp +contextual (maxDischargeDepth := 30) [*]

@[simp] theorem State.wrap_steady {s₀ s : State} (key : Nat) (hs : Steady s₀ s) : Steady s₀ (s.wrap key) := by
  unfold State.wrap
  simp +contextual (maxDischargeDepth := 30) [*]

@[simp] theorem State.countN_steady {s₀ s : State} (k : PageKind) (i po n : Nat)
    (hs : Steady s₀ s) : Steady s₀ (s.countN k i po n) := by
  unfold State.countN
  simp +contextual (maxDischargeDepth := 30) [*]

@[simp] theorem State.count_steady {s₀ s : State} (k : PageKind) (i po : Nat)
    (hs : Steady s₀ s) : Steady s₀ (s.count k i po) := by
  unfold State.count
  simp +contextual (maxDischargeDepth := 30) [*]

@[simp] theorem State.countP_steady {s₀ s : State} (p po : Nat) (hs : Steady s₀ s) : Steady s₀ (s.countP p po) := by
  unfold State.countP
  simp +contextual (maxDischargeDepth := 30) [*]

@[simp] theorem State.writeCtr_steady {s₀ s : State} (k : PageKind) (i po : Nat) (v : Word) (n : Nat)
    (hs : Steady s₀ s) : Steady s₀ (s.writeCtr k i po v n) := by
  unfold State.writeCtr
  simp +contextual (maxDischargeDepth := 30) [*]

@[simp] theorem State.out_steady {s₀ s : State} (o : Out) (hs : Steady s₀ s) : Steady s₀ (s.out o) := by
  unfold State.out
  simp +contextual (maxDischargeDepth := 30) [*]

@[simp] theorem State.atLeast_steady {s₀ s : State} (w : Nat) (hs : Steady s₀ s) : Steady s₀ (s.atLeast w) := by
  unfold State.atLeast
  simp +contextual (maxDischargeDepth := 30) [*]

@[simp] theorem State.modPort_steady {s₀ s : State} (p : Nat) (f : PortSt → PortSt)
    (hs : Steady s₀ s) : Steady s₀ (s.modPort p f) := by
  unfold State.modPort
  simp +contextual (maxDischargeDepth := 30) [*]

@[simp] theorem State.modLink_steady {s₀ s : State} (p : Nat) (f : LinkSt → LinkSt)
    (hs : Steady s₀ s) : Steady s₀ (s.modLink p f) := by
  unfold State.modLink
  simp +contextual (maxDischargeDepth := 30) [*]

@[simp] theorem State.setOwner_steady {s₀ s : State} (r o : Nat) (hs : Steady s₀ s) : Steady s₀ (s.setOwner r o) := by
  unfold State.setOwner
  repeat' (first | dsimp only | (simp +contextual (maxDischargeDepth := 30) [*]; done) | split |
    (refine Steady.foldl _ _ ?_ ?_) | (refine Steady.foldl_fst _ _ ?_ ?_) | intro _ | apply_assumption)

@[simp] theorem State.takeAll_steady {s₀ s : State} (o : Nat) (rs : List Nat)
    (hs : Steady s₀ s) : Steady s₀ (s.takeAll o rs) := by
  unfold State.takeAll
  simp +contextual (maxDischargeDepth := 30) [*]

@[simp] theorem State.release_steady {s₀ s : State} (o : Nat) (rs : List Nat)
    (hs : Steady s₀ s) : Steady s₀ (s.release o rs) := by
  unfold State.release
  simp +contextual (maxDischargeDepth := 30) [*]

@[simp] theorem State.modSrc_steady {s₀ s : State} (i : Nat) (f : TraceSrc → TraceSrc)
    (hs : Steady s₀ s) : Steady s₀ (s.modSrc i f) := by
  unfold State.modSrc
  simp +contextual (maxDischargeDepth := 30) [*]

@[simp] theorem State.loseRec_steady {s₀ s : State} (src : Nat) (space : Bool)
    (hs : Steady s₀ s) : Steady s₀ (s.loseRec src space) := by
  unfold State.loseRec
  simp +contextual (maxDischargeDepth := 30) [*]

@[simp] theorem State.passRec_steady {s₀ s : State} (r : TraceRec) (hs : Steady s₀ s) : Steady s₀ (s.passRec r) := by
  unfold State.passRec
  simp +contextual (maxDischargeDepth := 30) [*]

@[simp] theorem State.traceAt_steady {s₀ s : State} (src : Nat) (ev : Option Nat) (cls port : Option Nat) (frac kind : Nat) (w1 w2 w3 : Word)
    (hs : Steady s₀ s) : Steady s₀ (s.traceAt src ev cls port frac kind w1 w2 w3) := by
  unfold State.traceAt
  simp +contextual (maxDischargeDepth := 30) [*]

@[simp] theorem State.traceEv_steady {s₀ s : State} (src ev : Nat) (cls port : Option Nat) (kind : Nat) (w1 w2 w3 : Word)
    (hs : Steady s₀ s) : Steady s₀ (s.traceEv src ev cls port kind w1 w2 w3) := by
  unfold State.traceEv
  simp +contextual (maxDischargeDepth := 30) [*]

@[simp] theorem State.traceState_steady {s₀ s : State} (ev what new : Nat) (value : Word)
    (hs : Steady s₀ s) : Steady s₀ (s.traceState ev what new value) := by
  unfold State.traceState
  simp +contextual (maxDischargeDepth := 30) [*]

@[simp] theorem State.alarmAt_steady {s₀ s : State} (cls source detail : Nat) (ns : Nat)
    (hs : Steady s₀ s) : Steady s₀ (s.alarmAt cls source detail ns) := by
  unfold State.alarmAt
  simp +contextual (maxDischargeDepth := 30) [*]

@[simp] theorem State.raise_steady {s₀ s : State} (cls source detail : Nat)
    (hs : Steady s₀ s) : Steady s₀ (s.raise cls source detail) := by
  unfold State.raise
  simp +contextual (maxDischargeDepth := 30) [*]

@[simp] theorem State.linkErr_steady {s₀ s : State} (a : Nat) (hs : Steady s₀ s) : Steady s₀ (s.linkErr a) := by
  unfold State.linkErr
  simp +contextual (maxDischargeDepth := 30) [*]

@[simp] theorem State.eccOne_steady {s₀ s : State} (e : Nat × EccKind) (hs : Steady s₀ s) : Steady s₀ (s.eccOne e) := by
  unfold State.eccOne
  repeat' (first | dsimp only | (simp +contextual (maxDischargeDepth := 30) [*]; done) | split |
    (refine Steady.foldl _ _ ?_ ?_) | (refine Steady.foldl_fst _ _ ?_ ?_) | intro _ | apply_assumption)

@[simp] theorem State.arise_steady {s₀ s : State} (ecc : EccList) (hs : Steady s₀ s) : Steady s₀ (s.arise ecc) := by
  unfold State.arise
  simp +contextual (maxDischargeDepth := 30) [*]

@[simp] theorem State.eccTake_steady {s₀ s : State} (found : Nat × EccKind → Bool)
    (hs : Steady s₀ s) : Steady s₀ (s.eccTake found) := by
  unfold State.eccTake
  simp +contextual (maxDischargeDepth := 30) [*]

@[simp] theorem State.eccRead_steady {s₀ s : State} (a n : Nat) (hs : Steady s₀ s) : Steady s₀ (s.eccRead a n) := by
  unfold State.eccRead
  simp +contextual (maxDischargeDepth := 30) [*]

@[simp] theorem State.linkTake_steady {s₀ s : State} (a n : Nat) (hs : Steady s₀ s) : Steady s₀ (s.linkTake a n) := by
  unfold State.linkTake
  simp +contextual (maxDischargeDepth := 30) [*]

@[simp] theorem State.blur_steady {s₀ s : State} (lost : List Nat) (a : Nat) (bs : List Byte)
    (hs : Steady s₀ s) : Steady s₀ (s.blur lost a bs).1 := by
  unfold State.blur
  repeat' (first | dsimp only | (simp +contextual (maxDischargeDepth := 30) [*]; done) | split |
    (refine Steady.foldl _ _ ?_ ?_) | (refine Steady.foldl_fst _ _ ?_ ?_) | intro _ | apply_assumption)

@[simp] theorem State.store_steady {s₀ s : State} (a : Nat) (bs : List Byte) (hs : Steady s₀ s) : Steady s₀ (s.store a bs) := by
  unfold State.store
  simp +contextual (maxDischargeDepth := 30) [*]

@[simp] theorem State.storeZero_steady {s₀ s : State} (a n : Nat) (hs : Steady s₀ s) : Steady s₀ (s.storeZero a n) := by
  unfold State.storeZero
  simp +contextual (maxDischargeDepth := 30) [*]

@[simp] theorem State.load_steady {s₀ s : State} (a n : Nat) (hs : Steady s₀ s) : Steady s₀ (s.load a n).1 := by
  unfold State.load
  simp +contextual (maxDischargeDepth := 30) [*]

@[simp] theorem State.modStaged_steady {s₀ s : State} (f : Bank → Bank) (hs : Steady s₀ s) : Steady s₀ (s.modStaged f) := by
  unfold State.modStaged
  simp +contextual (maxDischargeDepth := 30) [*]

@[simp] theorem State.modLive_steady {s₀ s : State} (f : Bank → Bank) (hs : Steady s₀ s) : Steady s₀ (s.modLive f) := by
  unfold State.modLive
  simp +contextual (maxDischargeDepth := 30) [*]

@[simp] theorem State.sample_steady {s₀ s : State} (g k c v : Nat) (hs : Steady s₀ s) : Steady s₀ (s.sample g k c v) := by
  unfold State.sample
  simp +contextual (maxDischargeDepth := 30) [*]

@[simp] theorem State.sampleOther_steady {s₀ s : State} (v : Nat) (hs : Steady s₀ s) : Steady s₀ (s.sampleOther v) := by
  unfold State.sampleOther
  simp +contextual (maxDischargeDepth := 30) [*]

@[simp] theorem State.signal_steady {s₀ s : State} (i : Nat) (hs : Steady s₀ s) : Steady s₀ (s.signal i) := by
  unfold State.signal
  simp +contextual (maxDischargeDepth := 30) [*]

@[simp] theorem State.notifyId_steady {s₀ s : State} (i : Nat) (hs : Steady s₀ s) : Steady s₀ (s.notifyId i) := by
  unfold State.notifyId
  simp +contextual (maxDischargeDepth := 30) [*]

@[simp] theorem State.modRing_steady {s₀ s : State} (c : Nat) (f : CqSt → CqSt)
    (hs : Steady s₀ s) : Steady s₀ (s.modRing c f) := by
  unfold State.modRing
  simp +contextual (maxDischargeDepth := 30) [*]

@[simp] theorem State.notifyRing_steady {s₀ s : State} (c later : Nat) (hs : Steady s₀ s) : Steady s₀ (s.notifyRing c later) := by
  unfold State.notifyRing
  simp +contextual (maxDischargeDepth := 30) [*]

@[simp] theorem State.episode_steady {s₀ s : State} (c later : Nat) (sent : Bool)
    (hs : Steady s₀ s) : Steady s₀ (s.episode c later sent) := by
  unfold State.episode
  simp +contextual (maxDischargeDepth := 30) [*]

@[simp] theorem State.putEntry_steady {s₀ s : State} (c : Nat) (lo hi : Word)
    (hs : Steady s₀ s) : Steady s₀ (s.putEntry c lo hi) := by
  unfold State.putEntry
  simp +contextual (maxDischargeDepth := 30) [*]

@[simp] theorem State.complete_steady {s₀ s : State} (c queue : Nat) (lo hi : Word)
    (hs : Steady s₀ s) : Steady s₀ (s.complete c queue lo hi) := by
  unfold State.complete
  simp +contextual (maxDischargeDepth := 30) [*]

@[simp] theorem State.putHeld_steady {s₀ s : State} (c : Nat) (hs : Steady s₀ s) : Steady s₀ (s.putHeld c) := by
  unfold State.putHeld
  repeat' (first | dsimp only | (simp +contextual (maxDischargeDepth := 30) [*]; done) | split |
    (refine Steady.foldl _ _ ?_ ?_) | (refine Steady.foldl_fst _ _ ?_ ?_) | intro _ | apply_assumption)

@[simp] theorem State.modQueue_steady {s₀ s : State} (q : Nat) (f : SqSt → SqSt)
    (hs : Steady s₀ s) : Steady s₀ (s.modQueue q f) := by
  unfold State.modQueue
  simp +contextual (maxDischargeDepth := 30) [*]

@[simp] theorem State.modJob_steady {s₀ s : State} (id : Nat) (f : Job → Job) (hs : Steady s₀ s) : Steady s₀ (s.modJob id f) := by
  unfold State.modJob
  simp +contextual (maxDischargeDepth := 30) [*]

@[simp] theorem State.finishAt_steady {s₀ s : State} (at_ : Nat) (j : Job) (status : Nat)
    (hs : Steady s₀ s) : Steady s₀ (s.finishAt at_ j status) := by
  unfold State.finishAt
  repeat' (first | dsimp only | (simp +contextual (maxDischargeDepth := 30) [*]; done) | split |
    (refine Steady.foldl _ _ ?_ ?_) | (refine Steady.foldl_fst _ _ ?_ ?_) | intro _ | apply_assumption)

@[simp] theorem State.finish_steady {s₀ s : State} (j : Job) (status : Nat)
    (hs : Steady s₀ s) : Steady s₀ (s.finish j status) := by
  unfold State.finish
  repeat' (first | dsimp only | (simp +contextual (maxDischargeDepth := 30) [*]; done) | split |
    (refine Steady.foldl _ _ ?_ ?_) | (refine Steady.foldl_fst _ _ ?_ ?_) | intro _ | apply_assumption)

@[simp] theorem State.finishAll_steady {s₀ s : State} (l : List (Job × Nat)) (hs : Steady s₀ s) : Steady s₀ (s.finishAll l) := by
  unfold State.finishAll
  simp +contextual (maxDischargeDepth := 30) [*]

@[simp] theorem State.departs_steady {s₀ s : State} (hs : Steady s₀ s) : Steady s₀ s.departs := by
  unfold State.departs
  simp +contextual (maxDischargeDepth := 30) [*]

@[simp] theorem State.settle_steady {s₀ s : State} (id : Nat) (hs : Steady s₀ s) : Steady s₀ (s.settle id) := by
  unfold State.settle
  repeat' (first | dsimp only | (simp +contextual (maxDischargeDepth := 30) [*]; done) | split |
    (refine Steady.foldl _ _ ?_ ?_) | (refine Steady.foldl_fst _ _ ?_ ?_) | intro _ | apply_assumption)

@[simp] theorem State.freeTs_steady {s₀ s : State} (id : Nat) (hs : Steady s₀ s) : Steady s₀ (s.freeTs id) := by
  unfold State.freeTs
  repeat' (first | dsimp only | (simp +contextual (maxDischargeDepth := 30) [*]; done) | split |
    (refine Steady.foldl _ _ ?_ ?_) | (refine Steady.foldl_fst _ _ ?_ ?_) | intro _ | apply_assumption)

@[simp] theorem State.replicaDone_steady {s₀ s : State} (id frame member outcome at_ : Nat)
    (hs : Steady s₀ s) : Steady s₀ (s.replicaDone id frame member outcome at_) := by
  unfold State.replicaDone
  repeat' (first | dsimp only | (simp +contextual (maxDischargeDepth := 30) [*]; done) | split |
    (refine Steady.foldl _ _ ?_ ?_) | (refine Steady.foldl_fst _ _ ?_ ?_) | intro _ | apply_assumption)

@[simp] theorem State.captureTs_steady {s₀ s : State} (id port : Nat) (stamp : Nat) (sus : Bool)
    (hs : Steady s₀ s) : Steady s₀ (s.captureTs id port stamp sus) := by
  unfold State.captureTs
  repeat' (first | dsimp only | (simp +contextual (maxDischargeDepth := 30) [*]; done) | split |
    (refine Steady.foldl _ _ ?_ ?_) | (refine Steady.foldl_fst _ _ ?_ ?_) | intro _ | apply_assumption)

@[simp] theorem State.paceOne_steady {s₀ s : State} (c : Nat) (hs : Steady s₀ s) : Steady s₀ (s.paceOne c) := by
  unfold State.paceOne
  simp +contextual (maxDischargeDepth := 30) [*]

@[simp] theorem State.pace_steady {s₀ s : State} (hs : Steady s₀ s) : Steady s₀ s.pace := by
  unfold State.pace
  simp +contextual (maxDischargeDepth := 30) [*]

@[simp] theorem State.modPin_steady {s₀ s : State} (n : Nat) (f : PinSt → PinSt)
    (hs : Steady s₀ s) : Steady s₀ (s.modPin n f) := by
  unfold State.modPin
  simp +contextual (maxDischargeDepth := 30) [*]

@[simp] theorem State.pulsePin_steady {s₀ s : State} (line at_ n : Nat)
    (hs : Steady s₀ s) : Steady s₀ (s.pulsePin line at_ n) := by
  unfold State.pulsePin
  simp +contextual (maxDischargeDepth := 30) [*]

@[simp] theorem State.pulseGen_steady {s₀ s : State} (line at_ g : Nat)
    (hs : Steady s₀ s) : Steady s₀ (s.pulseGen line at_ g) := by
  unfold State.pulseGen
  repeat' (first | dsimp only | (simp +contextual (maxDischargeDepth := 30) [*]; done) | split |
    (refine Steady.foldl _ _ ?_ ?_) | (refine Steady.foldl_fst _ _ ?_ ?_) | intro _ | apply_assumption)

@[simp] theorem State.heardPulse_steady {s₀ s : State} (line at_ : Nat)
    (hs : Steady s₀ s) : Steady s₀ (s.heardPulse line at_) := by
  unfold State.heardPulse
  simp +contextual (maxDischargeDepth := 30) [*]

@[simp] theorem State.pulse_steady {s₀ s : State} (line at_ : Nat) (hs : Steady s₀ s) : Steady s₀ (s.pulse line at_) := by
  unfold State.pulse
  simp +contextual (maxDischargeDepth := 30) [*]

@[simp] theorem State.pulseNow_steady {s₀ s : State} (line : Nat) (hs : Steady s₀ s) : Steady s₀ (s.pulseNow line) := by
  unfold State.pulseNow
  simp +contextual (maxDischargeDepth := 30) [*]

@[simp] theorem State.fireLine_steady {s₀ s : State} (line at_ : Nat) (hs : Steady s₀ s) : Steady s₀ (s.fireLine line at_) := by
  unfold State.fireLine
  simp +contextual (maxDischargeDepth := 30) [*]

@[simp] theorem State.eventsPassed_steady {s₀ s : State} (cycle : Nat) (hs : Steady s₀ s) : Steady s₀ (s.eventsPassed cycle) := by
  unfold State.eventsPassed
  simp +contextual (maxDischargeDepth := 30) [*]

@[simp] theorem State.writePinCfg_steady {s₀ s : State} (n : Nat) (v : Word)
    (hs : Steady s₀ s) : Steady s₀ (s.writePinCfg n v) := by
  unfold State.writePinCfg
  repeat' (first | dsimp only | (simp +contextual (maxDischargeDepth := 30) [*]; done) | split |
    (refine Steady.foldl _ _ ?_ ?_) | (refine Steady.foldl_fst _ _ ?_ ?_) | intro _ | apply_assumption)

@[simp] theorem State.writeRxLines_steady {s₀ s : State} (v : Word) (hs : Steady s₀ s) : Steady s₀ (s.writeRxLines v) := by
  unfold State.writeRxLines
  repeat' (first | dsimp only | (simp +contextual (maxDischargeDepth := 30) [*]; done) | split |
    (refine Steady.foldl _ _ ?_ ?_) | (refine Steady.foldl_fst _ _ ?_ ?_) | intro _ | apply_assumption)

@[simp] theorem State.dropEvents_steady {s₀ s : State} (hs : Steady s₀ s) : Steady s₀ s.dropEvents := by
  unfold State.dropEvents
  simp +contextual (maxDischargeDepth := 30) [*]

@[simp] theorem State.eventRx_steady {s₀ s : State} (b : List Byte) (hs : Steady s₀ s) : Steady s₀ (s.eventRx b) := by
  unfold State.eventRx
  simp +contextual (maxDischargeDepth := 30) [*]

@[simp] theorem State.traceTx_steady {s₀ s : State} (p : Nat) (fr : TxFrame) (outcome : Nat)
    (hs : Steady s₀ s) : Steady s₀ (s.traceTx p fr outcome) := by
  unfold State.traceTx
  simp +contextual (maxDischargeDepth := 30) [*]

@[simp] theorem State.replicaLost_steady {s₀ s : State} (fr : TxFrame) (status : Nat)
    (hs : Steady s₀ s) : Steady s₀ (s.replicaLost fr status) := by
  unfold State.replicaLost
  repeat' (first | dsimp only | (simp +contextual (maxDischargeDepth := 30) [*]; done) | split |
    (refine Steady.foldl _ _ ?_ ?_) | (refine Steady.foldl_fst _ _ ?_ ?_) | intro _ | apply_assumption)

@[simp] theorem State.dropFrame_steady {s₀ s : State} (p : Nat) (fr : TxFrame) (d : Drop)
    (hs : Steady s₀ s) : Steady s₀ (s.dropFrame p fr d) := by
  unfold State.dropFrame
  simp +contextual (maxDischargeDepth := 30) [*]

@[simp] theorem State.purgeHeads_steady {s₀ s : State} (p : Nat) (hs : Steady s₀ s) : Steady s₀ (s.purgeHeads p) := by
  refine State.modPort_steady _ _ (Steady.foldl_fst _ _ (State.modPort_steady _ _ hs) ?_)
  intro u x hu
  split
  · exact hu
  · split
    · exact State.dropFrame_steady _ _ _ hu
    · exact hu

@[simp] theorem State.purge_steady {s₀ s : State} (p : Nat) (hs : Steady s₀ s) : Steady s₀ (s.purge p) := by
  unfold State.purge
  repeat' (first | dsimp only | (simp +contextual (maxDischargeDepth := 30) [*]; done) | split |
    (refine Steady.foldl _ _ ?_ ?_) | (refine Steady.foldl_fst _ _ ?_ ?_) | intro _ | apply_assumption)

@[simp] theorem State.leaves_steady {s₀ s : State} (p : Nat) (fr : TxFrame) (dep fin : Nat)
    (hs : Steady s₀ s) : Steady s₀ (s.leaves p fr dep fin) := by
  unfold State.leaves
  repeat' (first | dsimp only | (simp +contextual (maxDischargeDepth := 30) [*]; done) | split |
    (refine Steady.foldl _ _ ?_ ?_) | (refine Steady.foldl_fst _ _ ?_ ?_) | intro _ | apply_assumption)

@[simp] theorem State.endFragment_steady {s₀ s : State} (p : Nat) (x : PTx) (d : Nat) (final : Bool) (reason : Option Nat)
    (hs : Steady s₀ s) : Steady s₀ (s.endFragment p x d final reason) := by
  unfold State.endFragment
  simp +contextual (maxDischargeDepth := 30) [*]

@[simp] theorem State.endWire_steady {s₀ s : State} (p : Nat) (hs : Steady s₀ s) : Steady s₀ (s.endWire p) := by
  unfold State.endWire
  repeat' (first | dsimp only | (simp +contextual (maxDischargeDepth := 30) [*]; done) | split |
    (refine Steady.foldl _ _ ?_ ?_) | (refine Steady.foldl_fst _ _ ?_ ?_) | intro _ | apply_assumption)

@[simp] theorem State.cutWire_steady {s₀ s : State} (p at_ reason : Nat)
    (hs : Steady s₀ s) : Steady s₀ (s.cutWire p at_ reason) := by
  unfold State.cutWire
  repeat' (first | dsimp only | (simp +contextual (maxDischargeDepth := 30) [*]; done) | split |
    (refine Steady.foldl _ _ ?_ ?_) | (refine Steady.foldl_fst _ _ ?_ ?_) | intro _ | apply_assumption)

@[simp] theorem State.runTo_steady {s₀ s : State} (w : Nat) (hs : Steady s₀ s) : Steady s₀ (s.runTo w) := by
  unfold State.runTo
  simp +contextual (maxDischargeDepth := 30) [*]

@[simp] theorem State.started_steady {s₀ s : State} (p cls tDep : Nat) (fr : Option TxFrame)
    (hs : Steady s₀ s) : Steady s₀ (s.started p cls tDep fr) := by
  unfold State.started
  repeat' (first | dsimp only | (simp +contextual (maxDischargeDepth := 30) [*]; done) | split |
    (refine Steady.foldl _ _ ?_ ?_) | (refine Steady.foldl_fst _ _ ?_ ?_) | intro _ | apply_assumption)

@[simp] theorem State.mpacketOut_steady {s₀ s : State} (p : Nat) (respond : Bool) (fin : Nat)
    (hs : Steady s₀ s) : Steady s₀ (s.mpacketOut p respond fin) := by
  unfold State.mpacketOut
  simp +contextual (maxDischargeDepth := 30) [*]

@[simp] theorem State.startExpress_steady {s₀ s : State} (p : Nat) (fr0 : TxFrame) (tDep : Nat)
    (hs : Steady s₀ s) : Steady s₀ (s.startExpress p fr0 tDep) := by
  unfold State.startExpress
  repeat' (first | dsimp only | (simp +contextual (maxDischargeDepth := 30) [*]; done) | split |
    (refine Steady.foldl _ _ ?_ ?_) | (refine Steady.foldl_fst _ _ ?_ ?_) | intro _ | apply_assumption)

@[simp] theorem State.startPre_steady {s₀ s : State} (p : Nat) (fr0 : TxFrame) (close tDep : Nat)
    (hs : Steady s₀ s) : Steady s₀ (s.startPre p fr0 close tDep) := by
  unfold State.startPre
  simp +contextual (maxDischargeDepth := 30) [*]

@[simp] theorem State.resumeRest_steady {s₀ s : State} (p : Nat) (x : PTx) (close : Nat)
    (hs : Steady s₀ s) : Steady s₀ (s.resumeRest p x close) := by
  unfold State.resumeRest
  simp +contextual (maxDischargeDepth := 30) [*]

@[simp] theorem State.windowLost_steady {s₀ s : State} (p c close : Nat)
    (hs : Steady s₀ s) : Steady s₀ (s.windowLost p c close) := by
  unfold State.windowLost
  simp +contextual (maxDischargeDepth := 30) [*]

@[simp] theorem State.countHeld_steady {s₀ s : State} (p c : Nat) (hs : Steady s₀ s) : Steady s₀ (s.countHeld p c) := by
  unfold State.countHeld
  repeat' (first | dsimp only | (simp +contextual (maxDischargeDepth := 30) [*]; done) | split |
    (refine Steady.foldl _ _ ?_ ?_) | (refine Steady.foldl_fst _ _ ?_ ?_) | intro _ | apply_assumption)

@[simp] theorem State.countRest_steady {s₀ s : State} (p : Nat) (hs : Steady s₀ s) : Steady s₀ (s.countRest p) := by
  unfold State.countRest
  repeat' (first | dsimp only | (simp +contextual (maxDischargeDepth := 30) [*]; done) | split |
    (refine Steady.foldl _ _ ?_ ?_) | (refine Steady.foldl_fst _ _ ?_ ?_) | intro _ | apply_assumption)

@[simp] theorem State.countEatenHead_steady {s₀ s : State} (p c : Nat) (hs : Steady s₀ s) : Steady s₀ (s.countEatenHead p c) := by
  unfold State.countEatenHead
  repeat' (first | dsimp only | (simp +contextual (maxDischargeDepth := 30) [*]; done) | split |
    (refine Steady.foldl _ _ ?_ ?_) | (refine Steady.foldl_fst _ _ ?_ ?_) | intro _ | apply_assumption)

@[simp] theorem State.countEatenRest_steady {s₀ s : State} (p : Nat) (hs : Steady s₀ s) : Steady s₀ (s.countEatenRest p) := by
  unfold State.countEatenRest
  repeat' (first | dsimp only | (simp +contextual (maxDischargeDepth := 30) [*]; done) | split |
    (refine Steady.foldl _ _ ?_ ?_) | (refine Steady.foldl_fst _ _ ?_ ?_) | intro _ | apply_assumption)

@[simp] theorem State.countEaten_steady {s₀ s : State} (p : Nat) (hs : Steady s₀ s) : Steady s₀ (s.countEaten p) := by
  unfold State.countEaten
  repeat' (first | dsimp only | (simp +contextual (maxDischargeDepth := 30) [*]; done) | split |
    (refine Steady.foldl _ _ ?_ ?_) | (refine Steady.foldl_fst _ _ ?_ ?_) | intro _ | apply_assumption)

@[simp] theorem State.startPmac_steady {s₀ s : State} (p tDep : Nat) (hs : Steady s₀ s) : Steady s₀ (s.startPmac p tDep) := by
  unfold State.startPmac
  repeat' (first | dsimp only | (simp +contextual (maxDischargeDepth := 30) [*]; done) | split |
    (refine Steady.foldl _ _ ?_ ?_) | (refine Steady.foldl_fst _ _ ?_ ?_) | intro _ | apply_assumption)

@[simp] theorem State.txStep_steady {s₀ s : State} (p tDep : Nat) (hs : Steady s₀ s) : Steady s₀ (s.txStep p tDep) := by
  unfold State.txStep
  repeat' (first | dsimp only | (simp +contextual (maxDischargeDepth := 30) [*]; done) | split |
    (refine Steady.foldl _ _ ?_ ?_) | (refine Steady.foldl_fst _ _ ?_ ?_) | intro _ | apply_assumption)

@[simp] theorem State.push_steady {s₀ s : State} (p c tDep : Nat) (hs : Steady s₀ s) : Steady s₀ (s.push p c tDep) := by
  unfold State.push
  repeat' (first | dsimp only | (simp +contextual (maxDischargeDepth := 30) [*]; done) | split |
    (refine Steady.foldl _ _ ?_ ?_) | (refine Steady.foldl_fst _ _ ?_ ?_) | intro _ | apply_assumption)

@[simp] theorem State.sendOwn_steady {s₀ s : State} (p : Nat) (fr : TxFrame) (tDep : Nat)
    (hs : Steady s₀ s) : Steady s₀ (s.sendOwn p fr tDep) := by
  unfold State.sendOwn
  simp +contextual (maxDischargeDepth := 30) [*]

@[simp] theorem State.arrived_steady {s₀ s : State} (p : Nat) (hs : Steady s₀ s) : Steady s₀ (s.arrived p) := by
  unfold State.arrived
  simp +contextual (maxDischargeDepth := 30) [*]

@[simp] theorem State.abandon_steady {s₀ s : State} (p : Nat) (hs : Steady s₀ s) : Steady s₀ (s.abandon p) := by
  unfold State.abandon
  repeat' (first | dsimp only | (simp +contextual (maxDischargeDepth := 30) [*]; done) | split |
    (refine Steady.foldl _ _ ?_ ?_) | (refine Steady.foldl_fst _ _ ?_ ?_) | intro _ | apply_assumption)

@[simp] theorem State.finishWire_steady {s₀ s : State} (p : Nat) (hs : Steady s₀ s) : Steady s₀ (s.finishWire p) := by
  unfold State.finishWire
  repeat' (first | dsimp only | (simp +contextual (maxDischargeDepth := 30) [*]; done) | split |
    (refine Steady.foldl _ _ ?_ ?_) | (refine Steady.foldl_fst _ _ ?_ ?_) | intro _ | apply_assumption)

@[simp] theorem State.flushPort_steady {s₀ s : State} (p : Nat) (hs : Steady s₀ s) : Steady s₀ (s.flushPort p) := by
  unfold State.flushPort
  repeat' (first | dsimp only | (simp +contextual (maxDischargeDepth := 30) [*]; done) | split |
    (refine Steady.foldl _ _ ?_ ?_) | (refine Steady.foldl_fst _ _ ?_ ?_) | intro _ | apply_assumption)

@[simp] theorem State.flushTx_steady {s₀ s : State} (hs : Steady s₀ s) : Steady s₀ s.flushTx := by
  unfold State.flushTx
  simp +contextual (maxDischargeDepth := 30) [*]

@[simp] theorem State.holdPort_steady {s₀ s : State} (p : Nat) (hs : Steady s₀ s) : Steady s₀ (s.holdPort p) := by
  unfold State.holdPort
  simp +contextual (maxDischargeDepth := 30) [*]

@[simp] theorem State.holdOffTx_steady {s₀ s : State} (hs : Steady s₀ s) : Steady s₀ s.holdOffTx := by
  unfold State.holdOffTx
  simp +contextual (maxDischargeDepth := 30) [*]

@[simp] theorem State.enqueue_steady {s₀ s : State} (p : Nat) (fr : TxFrame) (hs : Steady s₀ s) : Steady s₀ (s.enqueue p fr) := by
  unfold State.enqueue
  simp +contextual (maxDischargeDepth := 30) [*]

@[simp] theorem State.replicate_steady {s₀ s : State} (handle cls typ : Nat) (tagged : Bool) (h : Hdr) (payload : List Byte) (origin : Nat → Origin) (loaded ts : Bool) (needBit : Option Nat) (ports : List Nat)
    (hs : Steady s₀ s) : Steady s₀ (s.replicate handle cls typ tagged h payload origin loaded ts needBit ports) := by
  unfold State.replicate
  simp +contextual (maxDischargeDepth := 30) [*]

@[simp] theorem State.modRc_steady {s₀ s : State} (r : Nat) (f : RcvySt → RcvySt)
    (hs : Steady s₀ s) : Steady s₀ (s.modRc r f) := by
  unfold State.modRc
  simp +contextual (maxDischargeDepth := 30) [*]

@[simp] theorem State.rcCount_steady {s₀ s : State} (r i n : Nat) (hs : Steady s₀ s) : Steady s₀ (s.rcCount r i n) := by
  unfold State.rcCount
  simp +contextual (maxDischargeDepth := 30) [*]

@[simp] theorem State.rcPass_steady {s₀ s : State} (r src : Nat) (hs : Steady s₀ s) : Steady s₀ (s.rcPass r src) := by
  unfold State.rcPass
  simp +contextual (maxDischargeDepth := 30) [*]

@[simp] theorem State.rcMain_steady {s₀ s : State} (r seq src : Nat) (lo : Word)
    (hs : Steady s₀ s) : Steady s₀ (s.rcMain r seq src lo).1 := by
  unfold State.rcMain
  repeat' (first | dsimp only | (simp +contextual (maxDischargeDepth := 30) [*]; done) | split |
    (refine Steady.foldl _ _ ?_ ?_) | (refine Steady.foldl_fst _ _ ?_ ?_) | intro _ | apply_assumption)

@[simp] theorem State.recover_steady {s₀ s : State} (r port seq cycField src : Nat)
    (hs : Steady s₀ s) : Steady s₀ (s.recover r port seq cycField src).1 := by
  unfold State.recover
  repeat' (first | dsimp only | (simp +contextual (maxDischargeDepth := 30) [*]; done) | split |
    (refine Steady.foldl _ _ ?_ ?_) | (refine Steady.foldl_fst _ _ ?_ ?_) | intro _ | apply_assumption)

@[simp] theorem State.rcTick_steady {s₀ s : State} (r : Nat) (hs : Steady s₀ s) : Steady s₀ (s.rcTick r) := by
  unfold State.rcTick
  simp +contextual (maxDischargeDepth := 30) [*]

@[simp] theorem State.rcExpire_steady {s₀ s : State} (r : Nat) (hs : Steady s₀ s) : Steady s₀ (s.rcExpire r) := by
  unfold State.rcExpire
  simp +contextual (maxDischargeDepth := 30) [*]

@[simp] theorem State.rcTestClear_steady {s₀ s : State} (r : Nat) (hs : Steady s₀ s) : Steady s₀ (s.rcTestClear r) := by
  unfold State.rcTestClear
  simp +contextual (maxDischargeDepth := 30) [*]

@[simp] theorem State.rcLatentTest_steady {s₀ s : State} (r : Nat) (hs : Steady s₀ s) : Steady s₀ (s.rcLatentTest r).1 := by
  unfold State.rcLatentTest
  repeat' (first | dsimp only | (simp +contextual (maxDischargeDepth := 30) [*]; done) | split |
    (refine Steady.foldl _ _ ?_ ?_) | (refine Steady.foldl_fst _ _ ?_ ?_) | intro _ | apply_assumption)

@[simp] theorem State.rcTimers_steady {s₀ s : State} (hs : Steady s₀ s) : Steady s₀ s.rcTimers := by
  unfold State.rcTimers
  simp +contextual (maxDischargeDepth := 30) [*]

@[simp] theorem State.streamSwitch_steady {s₀ s : State} (old new : Bank) (cut : Option Nat)
    (hs : Steady s₀ s) : Steady s₀ (s.streamSwitch old new cut) := by
  unfold State.streamSwitch
  simp +contextual (maxDischargeDepth := 30) [*]

@[simp] theorem State.writeRcvySel_steady {s₀ s : State} (v : Word) (hs : Steady s₀ s) : Steady s₀ (s.writeRcvySel v) := by
  unfold State.writeRcvySel
  simp +contextual (maxDischargeDepth := 30) [*]

@[simp] theorem State.rcReset_steady {s₀ s : State} (hs : Steady s₀ s) : Steady s₀ s.rcReset := by
  unfold State.rcReset
  simp +contextual (maxDischargeDepth := 30) [*]

@[simp] theorem State.rcClear_steady {s₀ s : State} (hs : Steady s₀ s) : Steady s₀ s.rcClear := by
  unfold State.rcClear
  simp +contextual (maxDischargeDepth := 30) [*]

@[simp] theorem State.writeRcvyCtrl_steady {s₀ s : State} (v : Word) (hs : Steady s₀ s) : Steady s₀ (s.writeRcvyCtrl v) := by
  unfold State.writeRcvyCtrl
  simp +contextual (maxDischargeDepth := 30) [*]

@[simp] theorem State.writeGenSel_steady {s₀ s : State} (v : Word) (hs : Steady s₀ s) : Steady s₀ (s.writeGenSel v) := by
  unfold State.writeGenSel
  simp +contextual (maxDischargeDepth := 30) [*]

@[simp] theorem State.writeGenCtrl_steady {s₀ s : State} (v : Word) (hs : Steady s₀ s) : Steady s₀ (s.writeGenCtrl v) := by
  unfold State.writeGenCtrl
  simp +contextual (maxDischargeDepth := 30) [*]

@[simp] theorem State.freeSlices_steady {s₀ s : State} (named : List Nat)
    (hs : Steady s₀ s) : Steady s₀ (s.freeSlices named) := by
  unfold State.freeSlices
  simp +contextual (maxDischargeDepth := 30) [*]

@[simp] theorem State.expectTest_steady {s₀ s : State} (z : Nat) (hs : Steady s₀ s) : Steady s₀ (s.expectTest z) := by
  unfold State.expectTest
  simp +contextual (maxDischargeDepth := 30) [*]

@[simp] theorem State.modZone_steady {s₀ s : State} (z : Nat) (f : ZoneSt → ZoneSt)
    (hs : Steady s₀ s) : Steady s₀ (s.modZone z f) := by
  unfold State.modZone
  simp +contextual (maxDischargeDepth := 30) [*]

@[simp] theorem State.landed_steady {s₀ s : State} (z n : Nat) (hs : Steady s₀ s) : Steady s₀ (s.landed z n) := by
  unfold State.landed
  simp +contextual (maxDischargeDepth := 30) [*]

@[simp] theorem State.zonePoison_steady {s₀ s : State} (z : Nat) (hs : Steady s₀ s) : Steady s₀ (s.zonePoison z) := by
  unfold State.zonePoison
  simp +contextual (maxDischargeDepth := 30) [*]

@[simp] theorem State.rejectRoom_steady {s₀ s : State} (hs : Steady s₀ s) : Steady s₀ s.rejectRoom := by
  unfold State.rejectRoom
  simp +contextual (maxDischargeDepth := 30) [*]

@[simp] theorem State.reject_steady {s₀ s : State} (src zone chk : Nat)
    (hs : Steady s₀ s) : Steady s₀ (s.reject src zone chk).1 := by
  unfold State.reject
  repeat' (first | dsimp only | (simp +contextual (maxDischargeDepth := 30) [*]; done) | split |
    (refine Steady.foldl _ _ ?_ ?_) | (refine Steady.foldl_fst _ _ ?_ ?_) | intro _ | apply_assumption)

@[simp] theorem State.refPoint_steady {s₀ s : State} (z : Nat) (hs : Steady s₀ s) : Steady s₀ (s.refPoint z) := by
  unfold State.refPoint
  simp +contextual (maxDischargeDepth := 30) [*]

@[simp] theorem State.zoneSwitch_steady {s₀ s : State} (z : Nat) (hs : Steady s₀ s) : Steady s₀ (s.zoneSwitch z) := by
  unfold State.zoneSwitch
  simp +contextual (maxDischargeDepth := 30) [*]

@[simp] theorem State.zonesSwitch_steady {s₀ s : State} (old new : Bank)
    (hs : Steady s₀ s) : Steady s₀ (s.zonesSwitch old new) := by
  unfold State.zonesSwitch
  simp +contextual (maxDischargeDepth := 30) [*]

@[simp] theorem State.lzEdit_steady {s₀ s : State} (z : Nat) (hs : Steady s₀ s) : Steady s₀ (s.lzEdit z) := by
  unfold State.lzEdit
  simp +contextual (maxDischargeDepth := 30) [*]

@[simp] theorem State.writeEditCtrl_steady {s₀ s : State} (v : Word) (hs : Steady s₀ s) : Steady s₀ (s.writeEditCtrl v) := by
  unfold State.writeEditCtrl
  simp +contextual (maxDischargeDepth := 30) [*]

@[simp] theorem State.rejectClear_steady {s₀ s : State} (hs : Steady s₀ s) : Steady s₀ s.rejectClear := by
  unfold State.rejectClear
  simp +contextual (maxDischargeDepth := 30) [*]

@[simp] theorem State.writeRejectCtrl_steady {s₀ s : State} (v : Word) (hs : Steady s₀ s) : Steady s₀ (s.writeRejectCtrl v) := by
  unfold State.writeRejectCtrl
  simp +contextual (maxDischargeDepth := 30) [*]

@[simp] theorem State.writeZoneSel_steady {s₀ s : State} (v : Word) (hs : Steady s₀ s) : Steady s₀ (s.writeZoneSel v) := by
  unfold State.writeZoneSel
  simp +contextual (maxDischargeDepth := 30) [*]

@[simp] theorem State.modSlate_steady {s₀ s : State} (f : SlateSt → SlateSt) (hs : Steady s₀ s) : Steady s₀ (s.modSlate f) := by
  unfold State.modSlate
  simp +contextual (maxDischargeDepth := 30) [*]

@[simp] theorem State.setCut_steady {s₀ s : State} (c : CutState) (hs : Steady s₀ s) : Steady s₀ (s.setCut c) := by
  unfold State.setCut
  simp +contextual (maxDischargeDepth := 30) [*]

@[simp] theorem State.startCheck_steady {s₀ s : State} (hs : Steady s₀ s) : Steady s₀ s.startCheck := by
  unfold State.startCheck
  simp +contextual (maxDischargeDepth := 30) [*]

@[simp] theorem State.adoptBusy_steady {s₀ s : State} (code : Nat) (hs : Steady s₀ s) : Steady s₀ (s.adoptBusy code) := by
  unfold State.adoptBusy
  simp +contextual (maxDischargeDepth := 30) [*]

@[simp] theorem State.adoptFails_steady {s₀ s : State} (code off : Nat)
    (hs : Steady s₀ s) : Steady s₀ (s.adoptFails code off) := by
  unfold State.adoptFails
  simp +contextual (maxDischargeDepth := 30) [*]

@[simp] theorem State.stagedWritten_steady {s₀ s : State} (hs : Steady s₀ s) : Steady s₀ s.stagedWritten := by
  unfold State.stagedWritten
  simp +contextual (maxDischargeDepth := 30) [*]

@[simp] theorem State.validationDone_steady {s₀ s : State} (hs : Steady s₀ s) : Steady s₀ s.validationDone := by
  unfold State.validationDone
  repeat' (first | dsimp only | (simp +contextual (maxDischargeDepth := 30) [*]; done) | split |
    (refine Steady.foldl _ _ ?_ ?_) | (refine Steady.foldl_fst _ _ ?_ ?_) | intro _ | apply_assumption)

@[simp] theorem State.claimSlate_steady {s₀ s : State} (hs : Steady s₀ s) : Steady s₀ s.claimSlate := by
  unfold State.claimSlate
  simp +contextual (maxDischargeDepth := 30) [*]

@[simp] theorem State.claimsSwitch_steady {s₀ s : State} (new : Bank) (p : Nat)
    (hs : Steady s₀ s) : Steady s₀ (s.claimsSwitch new p) := by
  unfold State.claimsSwitch
  simp +contextual (maxDischargeDepth := 30) [*]

@[simp] theorem State.restSwitch_steady {s₀ s : State} (new : Bank) (p : Nat)
    (hs : Steady s₀ s) : Steady s₀ (s.restSwitch new p) := by
  unfold State.restSwitch
  repeat' (first | dsimp only | (simp +contextual (maxDischargeDepth := 30) [*]; done) | split |
    (refine Steady.foldl _ _ ?_ ?_) | (refine Steady.foldl_fst _ _ ?_ ?_) | intro _ | apply_assumption)

@[simp] theorem State.switchBanks_steady {s₀ s : State} (cut : Option Nat)
    (hs : Steady s₀ s) : Steady s₀ (s.switchBanks cut) := by
  unfold State.switchBanks
  simp +contextual (maxDischargeDepth := 30) [*]

@[simp] theorem State.refuseCut_steady {s₀ s : State} (reason : Nat) (hs : Steady s₀ s) : Steady s₀ (s.refuseCut reason) := by
  unfold State.refuseCut
  simp +contextual (maxDischargeDepth := 30) [*]

@[simp] theorem State.commitPoint_steady {s₀ s : State} (hs : Steady s₀ s) : Steady s₀ s.commitPoint := by
  unfold State.commitPoint
  repeat' (first | dsimp only | (simp +contextual (maxDischargeDepth := 30) [*]; done) | split |
    (refine Steady.foldl _ _ ?_ ?_) | (refine Steady.foldl_fst _ _ ?_ ?_) | intro _ | apply_assumption)

@[simp] theorem State.applyCut_steady {s₀ s : State} (hs : Steady s₀ s) : Steady s₀ s.applyCut := by
  unfold State.applyCut
  simp +contextual (maxDischargeDepth := 30) [*]

@[simp] theorem State.cutCycleStart_steady {s₀ s : State} (hs : Steady s₀ s) : Steady s₀ s.cutCycleStart := by
  unfold State.cutCycleStart
  simp +contextual (maxDischargeDepth := 30) [*]

@[simp] theorem State.writeTable_steady {s₀ s : State} (off : Nat) (v : Word)
    (hs : Steady s₀ s) : Steady s₀ (s.writeTable off v) := by
  unfold State.writeTable
  simp +contextual (maxDischargeDepth := 30) [*]

@[simp] theorem State.writeRwc_steady {s₀ s : State} (k : PageKind) (po : Nat) (v : Word)
    (hs : Steady s₀ s) : Steady s₀ (s.writeRwc k po v) := by
  unfold State.writeRwc
  simp +contextual (maxDischargeDepth := 30) [*]

@[simp] theorem State.writeCutCycle_steady {s₀ s : State} (x : Nat) (hs : Steady s₀ s) : Steady s₀ (s.writeCutCycle x) := by
  unfold State.writeCutCycle
  simp +contextual (maxDischargeDepth := 30) [*]

@[simp] theorem State.slateCheck_steady {s₀ s : State} (hs : Steady s₀ s) : Steady s₀ s.slateCheck := by
  unfold State.slateCheck
  simp +contextual (maxDischargeDepth := 30) [*]

@[simp] theorem State.cutCancel_steady {s₀ s : State} (hs : Steady s₀ s) : Steady s₀ s.cutCancel := by
  unfold State.cutCancel
  simp +contextual (maxDischargeDepth := 30) [*]

@[simp] theorem State.writeSlateCtrl_steady {s₀ s : State} (v : Word) (hs : Steady s₀ s) : Steady s₀ (s.writeSlateCtrl v) := by
  unfold State.writeSlateCtrl
  simp +contextual (maxDischargeDepth := 30) [*]

@[simp] theorem State.adopt_steady {s₀ s : State} (hs : Steady s₀ s) : Steady s₀ s.adopt := by
  unfold State.adopt
  simp +contextual (maxDischargeDepth := 30) [*]

@[simp] theorem State.adoptSwitch_steady {s₀ s : State} (hs : Steady s₀ s) : Steady s₀ s.adoptSwitch := by
  unfold State.adoptSwitch
  repeat' (first | dsimp only | (simp +contextual (maxDischargeDepth := 30) [*]; done) | split |
    (refine Steady.foldl _ _ ?_ ?_) | (refine Steady.foldl_fst _ _ ?_ ?_) | intro _ | apply_assumption)

@[simp] theorem State.guarded_steady {s₀ s : State} (k : PageKind) (i po : Nat) (acc : Acc) (feat : Nat) (f : State → State)
    (hs : Steady s₀ s) (hf : ∀ u, Steady s₀ u → Steady s₀ (f u)) : Steady s₀ (s.guarded k i po acc feat f) := by
  unfold State.guarded
  simp +contextual (maxDischargeDepth := 30) [*]

@[simp] theorem State.roWrite_steady {s₀ s : State} (k : PageKind) (i po feat : Nat)
    (hs : Steady s₀ s) : Steady s₀ (s.roWrite k i po feat) := by
  unfold State.roWrite
  simp +contextual (maxDischargeDepth := 30) [*]

@[simp] theorem State.regWrite_steady {s₀ s : State} (k : PageKind) (i po : Nat) (f : State → State)
    (hs : Steady s₀ s) (hf : ∀ u, Steady s₀ u → Steady s₀ (f u)) : Steady s₀ (s.regWrite k i po f) := by
  unfold State.regWrite
  repeat' (first | dsimp only | (simp +contextual (maxDischargeDepth := 30) [*]; done) | split |
    (refine Steady.foldl _ _ ?_ ?_) | (refine Steady.foldl_fst _ _ ?_ ?_) | intro _ | apply_assumption)

@[simp] theorem State.regWriteV_steady {s₀ s : State} (k : PageKind) (i po : Nat) (v : Word) (f : State → Word → State)
    (hs : Steady s₀ s) (hf : ∀ u w, Steady s₀ u → Steady s₀ (f u w)) : Steady s₀ (s.regWriteV k i po v f) := by
  unfold State.regWriteV
  repeat' (first | dsimp only | (simp +contextual (maxDischargeDepth := 30) [*]; done) | split |
    (refine Steady.foldl _ _ ?_ ?_) | (refine Steady.foldl_fst _ _ ?_ ?_) | intro _ | apply_assumption)

@[simp] theorem State.hdrWrite_steady {s₀ s : State} (k : PageKind) (i po : Nat) (f : State → State)
    (hs : Steady s₀ s) (hf : ∀ u, Steady s₀ u → Steady s₀ (f u)) : Steady s₀ (s.hdrWrite k i po f) := by
  unfold State.hdrWrite
  simp +contextual (maxDischargeDepth := 30) [*]

@[simp] theorem State.regRead_steady {s₀ s : State} (k : PageKind) (po : Nat) (f : State → State)
    (hs : Steady s₀ s) (hf : ∀ u, Steady s₀ u → Steady s₀ (f u)) : Steady s₀ (s.regRead k po f) := by
  unfold State.regRead
  repeat' (first | dsimp only | (simp +contextual (maxDischargeDepth := 30) [*]; done) | split |
    (refine Steady.foldl _ _ ?_ ?_) | (refine Steady.foldl_fst _ _ ?_ ?_) | intro _ | apply_assumption)

end Sys2Proof.Machine
end

