-- ==== Sys2Proof/Laws/FrameTime.lean ====
section
/-! SUPPORT. The operations of faults, alarms, fabric and civil time, the node and claims keep the queue, the features, internal reset and the canonical form of memory. -/

namespace Sys2Proof.Machine

open Sys2Proof

@[simp] theorem State.modFault_steady {s₀ s : State} (f : FaultSt → FaultSt) (hs : Steady s₀ s) : Steady s₀ (s.modFault f) := by
  unfold State.modFault
  simp +contextual (maxDischargeDepth := 30) [*]

@[simp] theorem State.faultIn_steady {s₀ s : State} (r : FaultReport) (hs : Steady s₀ s) : Steady s₀ (s.faultIn r) := by
  unfold State.faultIn
  simp +contextual (maxDischargeDepth := 30) [*]

@[simp] theorem State.sendReport_steady {s₀ s : State} (r : FaultReport) (hs : Steady s₀ s) : Steady s₀ (s.sendReport r) := by
  unfold State.sendReport
  repeat' (first | dsimp only | (simp +contextual (maxDischargeDepth := 30) [*]; done) | split |
    (refine Steady.foldl _ _ ?_ ?_) | (refine Steady.foldl_fst _ _ ?_ ?_) | intro _ | apply_assumption)

@[simp] theorem State.limit_steady {s₀ s : State} (node port code detail : Nat)
    (hs : Steady s₀ s) : Steady s₀ (s.limit node port code detail) := by
  unfold State.limit
  repeat' (first | dsimp only | (simp +contextual (maxDischargeDepth := 30) [*]; done) | split |
    (refine Steady.foldl _ _ ?_ ?_) | (refine Steady.foldl_fst _ _ ?_ ?_) | intro _ | apply_assumption)

@[simp] theorem State.report_steady {s₀ s : State} (code : Nat) (subject : Option (Nat × Nat)) (detail : Nat)
    (hs : Steady s₀ s) : Steady s₀ (s.report code subject detail) := by
  unfold State.report
  repeat' (first | dsimp only | (simp +contextual (maxDischargeDepth := 30) [*]; done) | split |
    (refine Steady.foldl _ _ ?_ ?_) | (refine Steady.foldl_fst _ _ ?_ ?_) | intro _ | apply_assumption)

@[simp] theorem State.raisePort_steady {s₀ s : State} (cls p detail code : Nat)
    (hs : Steady s₀ s) : Steady s₀ (s.raisePort cls p detail code) := by
  unfold State.raisePort
  simp +contextual (maxDischargeDepth := 30) [*]

@[simp] theorem State.faultSend_steady {s₀ s : State} (hs : Steady s₀ s) : Steady s₀ s.faultSend := by
  unfold State.faultSend
  simp +contextual (maxDischargeDepth := 30) [*]

@[simp] theorem State.writeFaultSw_steady {s₀ s : State} (v : Word) (hs : Steady s₀ s) : Steady s₀ (s.writeFaultSw v) := by
  unfold State.writeFaultSw
  simp +contextual (maxDischargeDepth := 30) [*]

@[simp] theorem State.repByte_steady {s₀ s : State} (e n : Nat) (hs : Steady s₀ s) : Steady s₀ (s.repByte e n).1 := by
  unfold State.repByte
  simp +contextual (maxDischargeDepth := 30) [*]

@[simp] theorem State.setRepBit_steady {s₀ s : State} (e n old : Nat) (on : Bool)
    (hs : Steady s₀ s) : Steady s₀ (s.setRepBit e n old on) := by
  unfold State.setRepBit
  simp +contextual (maxDischargeDepth := 30) [*]

@[simp] theorem State.clearReps_steady {s₀ s : State} (e : Nat) (hs : Steady s₀ s) : Steady s₀ (s.clearReps e) := by
  unfold State.clearReps
  simp +contextual (maxDischargeDepth := 30) [*]

@[simp] theorem State.setEntry_steady {s₀ s : State} (e : Nat) (x : FaultEntry)
    (hs : Steady s₀ s) : Steady s₀ (s.setEntry e x) := by
  unfold State.setEntry
  simp +contextual (maxDischargeDepth := 30) [*]

@[simp] theorem State.openEntry_steady {s₀ s : State} (e : Nat) (r : FaultReport)
    (hs : Steady s₀ s) : Steady s₀ (s.openEntry e r) := by
  unfold State.openEntry
  simp +contextual (maxDischargeDepth := 30) [*]

@[simp] theorem State.updateEntry_steady {s₀ s : State} (e : Nat) (r : FaultReport)
    (hs : Steady s₀ s) : Steady s₀ (s.updateEntry e r) := by
  unfold State.updateEntry
  split
  · exact hs
  · have hb := State.repByte_steady e r.src hs
    exact .ite (State.setEntry_steady _ _ (State.setRepBit_steady _ _ _ _ hb))
      (.ite (State.setEntry_steady _ _ (State.setRepBit_steady _ _ _ _ hb)) (State.setEntry_steady _ _ hb))

@[simp] theorem State.aggregate_steady {s₀ s : State} (r : FaultReport) (hs : Steady s₀ s) : Steady s₀ (s.aggregate r) := by
  unfold State.aggregate
  repeat' (first | dsimp only | (simp +contextual (maxDischargeDepth := 30) [*]; done) | split |
    (refine Steady.foldl _ _ ?_ ?_) | (refine Steady.foldl_fst _ _ ?_ ?_) | intro _ | apply_assumption)

@[simp] theorem State.writeEntrySel_steady {s₀ s : State} (v : Word) (hs : Steady s₀ s) : Steady s₀ (s.writeEntrySel v) := by
  unfold State.writeEntrySel
  simp +contextual (maxDischargeDepth := 30) [*]

@[simp] theorem State.faultRelease_steady {s₀ s : State} (hs : Steady s₀ s) : Steady s₀ s.faultRelease := by
  unfold State.faultRelease
  repeat' (first | dsimp only | (simp +contextual (maxDischargeDepth := 30) [*]; done) | split |
    (refine Steady.foldl _ _ ?_ ?_) | (refine Steady.foldl_fst _ _ ?_ ?_) | intro _ | apply_assumption)

@[simp] theorem State.writeEntryCtrl_steady {s₀ s : State} (v : Word) (hs : Steady s₀ s) : Steady s₀ (s.writeEntryCtrl v) := by
  unfold State.writeEntryCtrl
  simp +contextual (maxDischargeDepth := 30) [*]

@[simp] theorem State.faultEnable_steady {s₀ s : State} (on : Bool) (hs : Steady s₀ s) : Steady s₀ (s.faultEnable on) := by
  unfold State.faultEnable
  simp +contextual (maxDischargeDepth := 30) [*]

@[simp] theorem State.writeFault_steady {s₀ s : State} (po : Nat) (v : Word)
    (hs : Steady s₀ s) : Steady s₀ (s.writeFault po v) := by
  unfold State.writeFault
  simp +contextual (maxDischargeDepth := 30) [*]

@[simp] theorem State.rejectReport_steady {s₀ s : State} (src zone chk : Nat)
    (hs : Steady s₀ s) : Steady s₀ (s.rejectReport src zone chk) := by
  unfold State.rejectReport
  simp +contextual (maxDischargeDepth := 30) [*]

@[simp] theorem State.modTrace_steady {s₀ s : State} (f : TraceSt → TraceSt) (hs : Steady s₀ s) : Steady s₀ (s.modTrace f) := by
  unfold State.modTrace
  simp +contextual (maxDischargeDepth := 30) [*]

@[simp] theorem State.refill_steady {s₀ s : State} (hs : Steady s₀ s) : Steady s₀ s.refill := by
  unfold State.refill
  simp +contextual (maxDischargeDepth := 30) [*]

@[simp] theorem State.putRec_steady {s₀ s : State} (r : TraceRec) (ctr : Nat)
    (hs : Steady s₀ s) : Steady s₀ (s.putRec r ctr) := by
  unfold State.putRec
  simp +contextual (maxDischargeDepth := 30) [*]

@[simp] theorem State.putGap_steady {s₀ s : State} (src : Nat) (hs : Steady s₀ s) : Steady s₀ (s.putGap src) := by
  unfold State.putGap
  simp +contextual (maxDischargeDepth := 30) [*]

@[simp] theorem State.reelAlarm_steady {s₀ s : State} (r : TraceRec) (hs : Steady s₀ s) : Steady s₀ (s.reelAlarm r) := by
  unfold State.reelAlarm
  simp +contextual (maxDischargeDepth := 30) [*]

@[simp] theorem State.reelTrace_steady {s₀ s : State} (r : TraceRec) (hs : Steady s₀ s) : Steady s₀ (s.reelTrace r) := by
  unfold State.reelTrace
  simp +contextual (maxDischargeDepth := 30) [*]

@[simp] theorem State.reelNext_steady {s₀ s : State} (hs : Steady s₀ s) : Steady s₀ s.reelNext := by
  unfold State.reelNext
  repeat' (first | dsimp only | (simp +contextual (maxDischargeDepth := 30) [*]; done) | split |
    (refine Steady.foldl _ _ ?_ ?_) | (refine Steady.foldl_fst _ _ ?_ ?_) | intro _ | apply_assumption)

@[simp] theorem State.reelDrain_steady {s₀ s : State} (hs : Steady s₀ s) : Steady s₀ s.reelDrain := by
  unfold State.reelDrain
  simp +contextual (maxDischargeDepth := 30) [*]

@[simp] theorem State.emit_steady {s₀ s : State} (hs : Steady s₀ s) : Steady s₀ s.emit := by
  unfold State.emit
  simp +contextual (maxDischargeDepth := 30) [*]

@[simp] theorem State.writeTraceSw_steady {s₀ s : State} (v : Word) (hs : Steady s₀ s) : Steady s₀ (s.writeTraceSw v) := by
  unfold State.writeTraceSw
  simp +contextual (maxDischargeDepth := 30) [*]

@[simp] theorem State.writeHead32_steady {s₀ s : State} (k : PageKind) (head tail code : Nat) (v : Word)
    (hs : Steady s₀ s) : Steady s₀ (s.writeHead32 k head tail code v) := by
  unfold State.writeHead32
  simp +contextual (maxDischargeDepth := 30) [*]

@[simp] theorem State.writeTraceHead_steady {s₀ s : State} (v : Word) (hs : Steady s₀ s) : Steady s₀ (s.writeTraceHead v) := by
  unfold State.writeTraceHead
  simp +contextual (maxDischargeDepth := 30) [*]

@[simp] theorem State.traceEnable_steady {s₀ s : State} (on : Bool) (hs : Steady s₀ s) : Steady s₀ (s.traceEnable on) := by
  unfold State.traceEnable
  simp +contextual (maxDischargeDepth := 30) [*]

@[simp] theorem State.writeTrace_steady {s₀ s : State} (po : Nat) (v : Word)
    (hs : Steady s₀ s) : Steady s₀ (s.writeTrace po v) := by
  unfold State.writeTrace
  simp +contextual (maxDischargeDepth := 30) [*]

@[simp] theorem State.modAlarm_steady {s₀ s : State} (f : AlarmSt → AlarmSt) (hs : Steady s₀ s) : Steady s₀ (s.modAlarm f) := by
  unfold State.modAlarm
  simp +contextual (maxDischargeDepth := 30) [*]

@[simp] theorem State.notifyKey_steady {s₀ s : State} (i : Nat) (opened : Bool)
    (hs : Steady s₀ s) : Steady s₀ (s.notifyKey i opened) := by
  unfold State.notifyKey
  repeat' (first | dsimp only | (simp +contextual (maxDischargeDepth := 30) [*]; done) | split |
    (refine Steady.foldl _ _ ?_ ?_) | (refine Steady.foldl_fst _ _ ?_ ?_) | intro _ | apply_assumption)

@[simp] theorem State.keyTook_steady {s₀ s : State} (i : Nat) (opened : Bool)
    (hs : Steady s₀ s) : Steady s₀ (s.keyTook i opened) := by
  unfold State.keyTook
  repeat' (first | dsimp only | (simp +contextual (maxDischargeDepth := 30) [*]; done) | split |
    (refine Steady.foldl _ _ ?_ ?_) | (refine Steady.foldl_fst _ _ ?_ ?_) | intro _ | apply_assumption)

@[simp] theorem State.setKey_steady {s₀ s : State} (i : Nat) (k : AlarmKey) (hs : Steady s₀ s) : Steady s₀ (s.setKey i k) := by
  unfold State.setKey
  simp +contextual (maxDischargeDepth := 30) [*]

@[simp] theorem State.keyTake_steady {s₀ s : State} (i : Nat) (o : Occ) (cls source detail sev : Nat)
    (hs : Steady s₀ s) : Steady s₀ (s.keyTake i o cls source detail sev) := by
  unfold State.keyTake
  repeat' (first | dsimp only | (simp +contextual (maxDischargeDepth := 30) [*]; done) | split |
    (refine Steady.foldl _ _ ?_ ?_) | (refine Steady.foldl_fst _ _ ?_ ?_) | intro _ | apply_assumption)

@[simp] theorem State.applyOcc_steady {s₀ s : State} (o : Occ) (hs : Steady s₀ s) : Steady s₀ (s.applyOcc o) := by
  unfold State.applyOcc
  repeat' (first | dsimp only | (simp +contextual (maxDischargeDepth := 30) [*]; done) | split |
    (refine Steady.foldl _ _ ?_ ?_) | (refine Steady.foldl_fst _ _ ?_ ?_) | intro _ | apply_assumption)

@[simp] theorem State.writeKeySel_steady {s₀ s : State} (v : Word) (hs : Steady s₀ s) : Steady s₀ (s.writeKeySel v) := by
  unfold State.writeKeySel
  simp +contextual (maxDischargeDepth := 30) [*]

@[simp] theorem State.alarmRelease_steady {s₀ s : State} (hs : Steady s₀ s) : Steady s₀ s.alarmRelease := by
  unfold State.alarmRelease
  repeat' (first | dsimp only | (simp +contextual (maxDischargeDepth := 30) [*]; done) | split |
    (refine Steady.foldl _ _ ?_ ?_) | (refine Steady.foldl_fst _ _ ?_ ?_) | intro _ | apply_assumption)

@[simp] theorem State.writeKeyCtrl_steady {s₀ s : State} (v : Word) (hs : Steady s₀ s) : Steady s₀ (s.writeKeyCtrl v) := by
  unfold State.writeKeyCtrl
  simp +contextual (maxDischargeDepth := 30) [*]

@[simp] theorem State.writeAlarm_steady {s₀ s : State} (po : Nat) (v : Word)
    (hs : Steady s₀ s) : Steady s₀ (s.writeAlarm po v) := by
  unfold State.writeAlarm
  simp +contextual (maxDischargeDepth := 30) [*]

@[simp] theorem State.modTime_steady {s₀ s : State} (f : TimeSt → TimeSt) (hs : Steady s₀ s) : Steady s₀ (s.modTime f) := by
  unfold State.modTime
  simp +contextual (maxDischargeDepth := 30) [*]

@[simp] theorem State.groupHold_steady {s₀ s : State} (i : Nat) (hs : Steady s₀ s) : Steady s₀ (s.groupHold i) := by
  unfold State.groupHold
  simp +contextual (maxDischargeDepth := 30) [*]

@[simp] theorem State.replicaSlip_steady {s₀ s : State} (i : Nat) (hs : Steady s₀ s) : Steady s₀ (s.replicaSlip i) := by
  unfold State.replicaSlip
  simp +contextual (maxDischargeDepth := 30) [*]

@[simp] theorem State.pulseIsland_steady {s₀ s : State} (missed : List (Fin 70)) (diffs : List (Fin 70 × Int)) (i : Fin 70)
    (hs : Steady s₀ s) : Steady s₀ (s.pulseIsland missed diffs i) := by
  unfold State.pulseIsland
  simp +contextual (maxDischargeDepth := 30) [*]

@[simp] theorem State.measure_steady {s₀ s : State} (p : Nat) (d2 : Int) (hs : Steady s₀ s) : Steady s₀ (s.measure p d2) := by
  unfold State.measure
  simp +contextual (maxDischargeDepth := 30) [*]

@[simp] theorem State.setF_steady {s₀ s : State} (f : Int) (hs : Steady s₀ s) : Steady s₀ (s.setF f) := by
  unfold State.setF
  simp +contextual (maxDischargeDepth := 30) [*]

@[simp] theorem State.setRate_steady {s₀ s : State} (p : Int) (hs : Steady s₀ s) : Steady s₀ (s.setRate p) := by
  unfold State.setRate
  simp +contextual (maxDischargeDepth := 30) [*]

@[simp] theorem State.servo_steady {s₀ s : State} (p : Nat) (c : Clapper) (off : Int)
    (hs : Steady s₀ s) : Steady s₀ (s.servo p c off) := by
  unfold State.servo
  simp +contextual (maxDischargeDepth := 30) [*]

@[simp] theorem State.setParent_steady {s₀ s : State} (c : Cand) (hs : Steady s₀ s) : Steady s₀ (s.setParent c) := by
  unfold State.setParent
  simp +contextual (maxDischargeDepth := 30) [*]

@[simp] theorem State.enterHoldover_steady {s₀ s : State} (hs : Steady s₀ s) : Steady s₀ s.enterHoldover := by
  unfold State.enterHoldover
  simp +contextual (maxDischargeDepth := 30) [*]

@[simp] theorem State.betterPorts_steady {s₀ s : State} (l : List Cand) (cur : Cand)
    (hs : Steady s₀ s) : Steady s₀ (s.betterPorts l cur) := by
  unfold State.betterPorts
  repeat' (first | dsimp only | (simp +contextual (maxDischargeDepth := 30) [*]; done) | split |
    (refine Steady.foldl _ _ ?_ ?_) | (refine Steady.foldl_fst _ _ ?_ ?_) | intro _ | apply_assumption)

@[simp] theorem State.endServoCycle_steady {s₀ s : State} (hs : Steady s₀ s) : Steady s₀ s.endServoCycle := by
  unfold State.endServoCycle
  repeat' (first | dsimp only | (simp +contextual (maxDischargeDepth := 30) [*]; done) | split |
    (refine Steady.foldl _ _ ?_ ?_) | (refine Steady.foldl_fst _ _ ?_ ?_) | intro _ | apply_assumption)

@[simp] theorem State.dropServo_steady {s₀ s : State} (hs : Steady s₀ s) : Steady s₀ s.dropServo := by
  unfold State.dropServo
  simp +contextual (maxDischargeDepth := 30) [*]

@[simp] theorem State.addPair_steady {s₀ s : State} (a b : ClapRec) (hs : Steady s₀ s) : Steady s₀ (s.addPair a b) := by
  unfold State.addPair
  simp +contextual (maxDischargeDepth := 30) [*]

@[simp] theorem State.modNode_steady {s₀ s : State} (f : NodeSt → NodeSt) (hs : Steady s₀ s) : Steady s₀ (s.modNode f) := by
  unfold State.modNode
  simp +contextual (maxDischargeDepth := 30) [*]

@[simp] theorem State.enter_steady {s₀ s : State} (st : NodeState) (hs : Steady s₀ s) : Steady s₀ (s.enter st) := by
  unfold State.enter
  simp +contextual (maxDischargeDepth := 30) [*]

@[simp] theorem State.refuseForNode_steady {s₀ s : State} (hs : Steady s₀ s) : Steady s₀ s.refuseForNode := by
  unfold State.refuseForNode
  simp +contextual (maxDischargeDepth := 30) [*]

@[simp] theorem State.forgetQual_steady {s₀ s : State} (hs : Steady s₀ s) : Steady s₀ s.forgetQual := by
  unfold State.forgetQual
  simp +contextual (maxDischargeDepth := 30) [*]

@[simp] theorem State.startListen_steady {s₀ s : State} (hs : Steady s₀ s) : Steady s₀ s.startListen := by
  unfold State.startListen
  simp +contextual (maxDischargeDepth := 30) [*]

@[simp] theorem State.toListen_steady {s₀ s : State} (keep : Option (Nat × Nat))
    (hs : Steady s₀ s) : Steady s₀ (s.toListen keep) := by
  unfold State.toListen
  simp +contextual (maxDischargeDepth := 30) [*]

@[simp] theorem State.toYield_steady {s₀ s : State} (better : Option (Nat × Nat))
    (hs : Steady s₀ s) : Steady s₀ (s.toYield better) := by
  unfold State.toYield
  simp +contextual (maxDischargeDepth := 30) [*]

@[simp] theorem State.toOff_steady {s₀ s : State} (hs : Steady s₀ s) : Steady s₀ s.toOff := by
  unfold State.toOff
  simp +contextual (maxDischargeDepth := 30) [*]

@[simp] theorem State.toHalted_steady {s₀ s : State} (p detail : Nat) (hs : Steady s₀ s) : Steady s₀ (s.toHalted p detail) := by
  unfold State.toHalted
  simp +contextual (maxDischargeDepth := 30) [*]

@[simp] theorem State.yieldTo_steady {s₀ s : State} (rank node : Nat) (hs : Steady s₀ s) : Steady s₀ (s.yieldTo rank node) := by
  unfold State.yieldTo
  simp +contextual (maxDischargeDepth := 30) [*]

@[simp] theorem State.leave_steady {s₀ s : State} (hs : Steady s₀ s) : Steady s₀ s.leave := by
  unfold State.leave
  simp +contextual (maxDischargeDepth := 30) [*]

@[simp] theorem State.orDefer_steady {s₀ s : State} (d : Deferred) (f : State → State)
    (hs : Steady s₀ s) (hf : ∀ u, Steady s₀ u → Steady s₀ (f u)) : Steady s₀ (s.orDefer d f) := by
  unfold State.orDefer
  simp +contextual (maxDischargeDepth := 30) [*]

@[simp] theorem State.runDeferred_steady {s₀ s : State} (d : Deferred) (hs : Steady s₀ s) : Steady s₀ (s.runDeferred d) := by
  unfold State.runDeferred
  repeat' (first | dsimp only | (simp +contextual (maxDischargeDepth := 30) [*]; done) | split |
    (refine Steady.foldl _ _ ?_ ?_) | (refine Steady.foldl_fst _ _ ?_ ?_) | intro _ | apply_assumption)

@[simp] theorem State.toHoldOff_steady {s₀ s : State} (hs : Steady s₀ s) : Steady s₀ s.toHoldOff := by
  unfold State.toHoldOff
  simp +contextual (maxDischargeDepth := 30) [*]

@[simp] theorem State.compareOffset_steady {s₀ s : State} (hs : Steady s₀ s) : Steady s₀ s.compareOffset := by
  unfold State.compareOffset
  simp +contextual (maxDischargeDepth := 30) [*]

@[simp] theorem State.look_steady {s₀ s : State} (tb : Option (Nat × Nat)) (hs : Steady s₀ s) : Steady s₀ (s.look tb) := by
  unfold State.look
  simp +contextual (maxDischargeDepth := 30) [*]

@[simp] theorem State.detected_steady {s₀ s : State} (n : Nat) (best : Cand)
    (hs : Steady s₀ s) : Steady s₀ (s.detected n best) := by
  unfold State.detected
  repeat' (first | dsimp only | (simp +contextual (maxDischargeDepth := 30) [*]; done) | split |
    (refine Steady.foldl _ _ ?_ ?_) | (refine Steady.foldl_fst _ _ ?_ ?_) | intro _ | apply_assumption)

@[simp] theorem State.detect_steady {s₀ s : State} (p : Nat) (a b : ClapRec) (hs : Steady s₀ s) : Steady s₀ (s.detect p a b) := by
  unfold State.detect
  repeat' (first | dsimp only | (simp +contextual (maxDischargeDepth := 30) [*]; done) | split |
    (refine Steady.foldl _ _ ?_ ?_) | (refine Steady.foldl_fst _ _ ?_ ?_) | intro _ | apply_assumption)

@[simp] theorem State.abortJoin_steady {s₀ s : State} (parent : Nat) (hs : Steady s₀ s) : Steady s₀ (s.abortJoin parent) := by
  unfold State.abortJoin
  simp +contextual (maxDischargeDepth := 30) [*]

@[simp] theorem State.joinCheck_steady {s₀ s : State} (p : Nat) (c : Clapper) (off : Int)
    (hs : Steady s₀ s) : Steady s₀ (s.joinCheck p c off) := by
  unfold State.joinCheck
  repeat' (first | dsimp only | (simp +contextual (maxDischargeDepth := 30) [*]; done) | split |
    (refine Steady.foldl _ _ ?_ ?_) | (refine Steady.foldl_fst _ _ ?_ ?_) | intro _ | apply_assumption)

@[simp] theorem State.seenAt_steady {s₀ s : State} (p t : Nat) (hs : Steady s₀ s) : Steady s₀ (s.seenAt p t) := by
  unfold State.seenAt
  simp +contextual (maxDischargeDepth := 30) [*]

@[simp] theorem State.clapperOut_steady {s₀ s : State} (p : Nat) (f : Frame) (first tDep : Nat)
    (hs : Steady s₀ s) : Steady s₀ (s.clapperOut p f first tDep) := by
  unfold State.clapperOut
  simp +contextual (maxDischargeDepth := 30) [*]

@[simp] theorem State.notUp_steady {s₀ s : State} (p : Nat) (hs : Steady s₀ s) : Steady s₀ (s.notUp p) := by
  unfold State.notUp
  simp +contextual (maxDischargeDepth := 30) [*]

@[simp] theorem State.candidateClapper_steady {s₀ s : State} (p : Nat) (c : Clapper) (off : Int)
    (hs : Steady s₀ s) : Steady s₀ (s.candidateClapper p c off) := by
  unfold State.candidateClapper
  simp +contextual (maxDischargeDepth := 30) [*]

@[simp] theorem State.servoTakes_steady {s₀ s : State} (p : Nat) (c : Clapper) (off : Int)
    (hs : Steady s₀ s) : Steady s₀ (s.servoTakes p c off) := by
  unfold State.servoTakes
  simp +contextual (maxDischargeDepth := 30) [*]

@[simp] theorem State.listenClapper_steady {s₀ s : State} (tb : Nat × Nat)
    (hs : Steady s₀ s) : Steady s₀ (s.listenClapper tb) := by
  unfold State.listenClapper
  simp +contextual (maxDischargeDepth := 30) [*]

@[simp] theorem State.yieldClapper_steady {s₀ s : State} (tb : Nat × Nat) (hs : Steady s₀ s) : Steady s₀ (s.yieldClapper tb) := by
  unfold State.yieldClapper
  repeat' (first | dsimp only | (simp +contextual (maxDischargeDepth := 30) [*]; done) | split |
    (refine Steady.foldl _ _ ?_ ?_) | (refine Steady.foldl_fst _ _ ?_ ?_) | intro _ | apply_assumption)

@[simp] theorem State.compareTb_steady {s₀ s : State} (tb : Nat × Nat) (hs : Steady s₀ s) : Steady s₀ (s.compareTb tb) := by
  unfold State.compareTb
  repeat' (first | dsimp only | (simp +contextual (maxDischargeDepth := 30) [*]; done) | split |
    (refine Steady.foldl _ _ ?_ ?_) | (refine Steady.foldl_fst _ _ ?_ ?_) | intro _ | apply_assumption)

@[simp] theorem State.timebase_steady {s₀ s : State} (tb : Nat × Nat) (hs : Steady s₀ s) : Steady s₀ (s.timebase tb) := by
  unfold State.timebase
  repeat' (first | dsimp only | (simp +contextual (maxDischargeDepth := 30) [*]; done) | split |
    (refine Steady.foldl _ _ ?_ ?_) | (refine Steady.foldl_fst _ _ ?_ ?_) | intro _ | apply_assumption)

@[simp] theorem State.keepClapper_steady {s₀ s : State} (p : Nat) (c : Clapper) (tRx : Int)
    (hs : Steady s₀ s) : Steady s₀ (s.keepClapper p c tRx) := by
  unfold State.keepClapper
  repeat' (first | dsimp only | (simp +contextual (maxDischargeDepth := 30) [*]; done) | split |
    (refine Steady.foldl _ _ ?_ ?_) | (refine Steady.foldl_fst _ _ ?_ ?_) | intro _ | apply_assumption)

@[simp] theorem State.clapperIn_steady {s₀ s : State} (p : Nat) (c : Clapper) (tRx : Nat)
    (hs : Steady s₀ s) : Steady s₀ (s.clapperIn p c tRx) := by
  unfold State.clapperIn
  simp +contextual (maxDischargeDepth := 30) [*]

@[simp] theorem State.dropReq_steady {s₀ s : State} (p : Nat) (hs : Steady s₀ s) : Steady s₀ (s.dropReq p) := by
  unfold State.dropReq
  simp +contextual (maxDischargeDepth := 30) [*]

@[simp] theorem State.requestDelay_steady {s₀ s : State} (p t1 : Nat) (hs : Steady s₀ s) : Steady s₀ (s.requestDelay p t1) := by
  unfold State.requestDelay
  simp +contextual (maxDischargeDepth := 30) [*]

@[simp] theorem State.answerDelay_steady {s₀ s : State} (p reqId t2 t3 : Nat)
    (hs : Steady s₀ s) : Steady s₀ (s.answerDelay p reqId t2 t3) := by
  unfold State.answerDelay
  simp +contextual (maxDischargeDepth := 30) [*]

@[simp] theorem State.delayResp_steady {s₀ s : State} (p reqId : Nat) (synt : Bool) (turn : Int) (t4 : Nat)
    (hs : Steady s₀ s) : Steady s₀ (s.delayResp p reqId synt turn t4) := by
  unfold State.delayResp
  repeat' (first | dsimp only | (simp +contextual (maxDischargeDepth := 30) [*]; done) | split |
    (refine Steady.foldl _ _ ?_ ?_) | (refine Steady.foldl_fst _ _ ?_ ?_) | intro _ | apply_assumption)

@[simp] theorem State.sendClapper_steady {s₀ s : State} (p : Nat) (corr : Int)
    (hs : Steady s₀ s) : Steady s₀ (s.sendClapper p corr) := by
  unfold State.sendClapper
  simp +contextual (maxDischargeDepth := 30) [*]

@[simp] theorem State.sendClappers_steady {s₀ s : State} (deps : List (Fin 1024 × Int))
    (hs : Steady s₀ s) : Steady s₀ (s.sendClappers deps) := by
  unfold State.sendClappers
  simp +contextual (maxDischargeDepth := 30) [*]

@[simp] theorem State.keepCivil_steady {s₀ s : State} (hs : Steady s₀ s) : Steady s₀ s.keepCivil := by
  unfold State.keepCivil
  simp +contextual (maxDischargeDepth := 30) [*]

@[simp] theorem State.rebaseCivil_steady {s₀ s : State} (hs : Steady s₀ s) : Steady s₀ s.rebaseCivil := by
  unfold State.rebaseCivil
  simp +contextual (maxDischargeDepth := 30) [*]

@[simp] theorem State.civilStep_steady {s₀ s : State} (hs : Steady s₀ s) : Steady s₀ s.civilStep := by
  unfold State.civilStep
  simp +contextual (maxDischargeDepth := 30) [*]

@[simp] theorem State.setPps_steady {s₀ s : State} (level : Bool) (hs : Steady s₀ s) : Steady s₀ (s.setPps level) := by
  unfold State.setPps
  simp +contextual (maxDischargeDepth := 30) [*]

@[simp] theorem State.holdPps_steady {s₀ s : State} (hs : Steady s₀ s) : Steady s₀ s.holdPps := by
  unfold State.holdPps
  simp +contextual (maxDischargeDepth := 30) [*]

@[simp] theorem State.civilInvalidate_steady {s₀ s : State} (hs : Steady s₀ s) : Steady s₀ s.civilInvalidate := by
  unfold State.civilInvalidate
  simp +contextual (maxDischargeDepth := 30) [*]

@[simp] theorem State.writeCivilCtrl_steady {s₀ s : State} (v : Word) (hs : Steady s₀ s) : Steady s₀ (s.writeCivilCtrl v) := by
  unfold State.writeCivilCtrl
  simp +contextual (maxDischargeDepth := 30) [*]

@[simp] theorem State.writeCivilRate_steady {s₀ s : State} (v : Word) (hs : Steady s₀ s) : Steady s₀ (s.writeCivilRate v) := by
  unfold State.writeCivilRate
  simp +contextual (maxDischargeDepth := 30) [*]

@[simp] theorem State.pairRing_steady {s₀ s : State} (start : Nat) (civ : Nat × Nat) (valid : Bool)
    (hs : Steady s₀ s) : Steady s₀ (s.pairRing start civ valid) := by
  unfold State.pairRing
  simp +contextual (maxDischargeDepth := 30) [*]

@[simp] theorem State.latchPair_steady {s₀ s : State} (hs : Steady s₀ s) : Steady s₀ s.latchPair := by
  unfold State.latchPair
  simp +contextual (maxDischargeDepth := 30) [*]

@[simp] theorem State.readNow_steady {s₀ s : State} (hs : Steady s₀ s) : Steady s₀ s.readNow.1 := by
  unfold State.readNow
  simp +contextual (maxDischargeDepth := 30) [*]

@[simp] theorem State.readCivilSec_steady {s₀ s : State} (hs : Steady s₀ s) : Steady s₀ s.readCivilSec.1 := by
  unfold State.readCivilSec
  simp +contextual (maxDischargeDepth := 30) [*]

@[simp] theorem State.readPairCycle_steady {s₀ s : State} (hs : Steady s₀ s) : Steady s₀ s.readPairCycle.1 := by
  unfold State.readPairCycle
  simp +contextual (maxDischargeDepth := 30) [*]

@[simp] theorem State.ppsRises_steady {s₀ s : State} (f : Nat) (hs : Steady s₀ s) : Steady s₀ (s.ppsRises f) := by
  unfold State.ppsRises
  simp +contextual (maxDischargeDepth := 30) [*]

@[simp] theorem State.ppsPassed_steady {s₀ s : State} (f0 f1 : Nat) (hs : Steady s₀ s) : Steady s₀ (s.ppsPassed f0 f1) := by
  unfold State.ppsPassed
  simp +contextual (maxDischargeDepth := 30) [*]

@[simp] theorem State.writePpsOut_steady {s₀ s : State} (po : Nat) (v : Word)
    (hs : Steady s₀ s) : Steady s₀ (s.writePpsOut po v) := by
  unfold State.writePpsOut
  simp +contextual (maxDischargeDepth := 30) [*]

@[simp] theorem State.writeDiag_steady {s₀ s : State} (v : Word) (hs : Steady s₀ s) : Steady s₀ (s.writeDiag v) := by
  unfold State.writeDiag
  repeat' (first | dsimp only | (simp +contextual (maxDischargeDepth := 30) [*]; done) | split |
    (refine Steady.foldl _ _ ?_ ?_) | (refine Steady.foldl_fst _ _ ?_ ?_) | intro _ | apply_assumption)

@[simp] theorem State.popDiag_steady {s₀ s : State} (hs : Steady s₀ s) : Steady s₀ s.popDiag.1 := by
  unfold State.popDiag
  repeat' (first | dsimp only | (simp +contextual (maxDischargeDepth := 30) [*]; done) | split |
    (refine Steady.foldl _ _ ?_ ?_) | (refine Steady.foldl_fst _ _ ?_ ?_) | intro _ | apply_assumption)

@[simp] theorem State.writeTime_steady {s₀ s : State} (po : Nat) (v : Word)
    (hs : Steady s₀ s) : Steady s₀ (s.writeTime po v) := by
  unfold State.writeTime
  repeat' (first | dsimp only | (simp +contextual (maxDischargeDepth := 30) [*]; done) | split |
    (refine Steady.foldl _ _ ?_ ?_) | (refine Steady.foldl_fst _ _ ?_ ?_) | intro _ | apply_assumption)

@[simp] theorem State.writePortTime_steady {s₀ s : State} (p po : Nat) (v : Word)
    (hs : Steady s₀ s) : Steady s₀ (s.writePortTime p po v) := by
  unfold State.writePortTime
  simp +contextual (maxDischargeDepth := 30) [*]

@[simp] theorem State.eachPort_steady {s₀ s : State} (f : Nat → State → State)
    (hs : Steady s₀ s) (hf : ∀ n u, Steady s₀ u → Steady s₀ (f n u)) : Steady s₀ (s.eachPort f) := by
  unfold State.eachPort
  simp +contextual (maxDischargeDepth := 30) [*]

@[simp] theorem State.lateBurst_steady {s₀ s : State} (p : Nat) (hs : Steady s₀ s) : Steady s₀ (State.lateBurst p s) := by
  unfold State.lateBurst
  simp +contextual (maxDischargeDepth := 30) [*]

@[simp] theorem State.endCycle_steady {s₀ s : State} (hs : Steady s₀ s) : Steady s₀ s.endCycle := by
  unfold State.endCycle
  simp +contextual (maxDischargeDepth := 30) [*]

@[simp] theorem State.portCycle_steady {s₀ s : State} (p : Nat) (hs : Steady s₀ s) : Steady s₀ (State.portCycle p s) := by
  unfold State.portCycle
  simp +contextual (maxDischargeDepth := 30) [*]

@[simp] theorem State.syncRec_steady {s₀ s : State} (hs : Steady s₀ s) : Steady s₀ s.syncRec := by
  unfold State.syncRec
  simp +contextual (maxDischargeDepth := 30) [*]

@[simp] theorem State.countCycle_steady {s₀ s : State} (hs : Steady s₀ s) : Steady s₀ s.countCycle := by
  unfold State.countCycle
  simp +contextual (maxDischargeDepth := 30) [*]

@[simp] theorem State.cycleBegin_steady {s₀ s : State} (deps : List (Fin 1024 × Int))
    (hs : Steady s₀ s) : Steady s₀ (s.cycleBegin deps) := by
  unfold State.cycleBegin
  simp +contextual (maxDischargeDepth := 30) [*]

@[simp] theorem State.candidateStart_steady {s₀ s : State} (hs : Steady s₀ s) : Steady s₀ s.candidateStart := by
  unfold State.candidateStart
  simp +contextual (maxDischargeDepth := 30) [*]

@[simp] theorem State.steppedStart_steady {s₀ s : State} (hs : Steady s₀ s) : Steady s₀ s.steppedStart := by
  unfold State.steppedStart
  repeat' (first | dsimp only | (simp +contextual (maxDischargeDepth := 30) [*]; done) | split |
    (refine Steady.foldl _ _ ?_ ?_) | (refine Steady.foldl_fst _ _ ?_ ?_) | intro _ | apply_assumption)

@[simp] theorem State.yieldStart_steady {s₀ s : State} (hs : Steady s₀ s) : Steady s₀ s.yieldStart := by
  unfold State.yieldStart
  simp +contextual (maxDischargeDepth := 30) [*]

@[simp] theorem State.holdOffStart_steady {s₀ s : State} (hs : Steady s₀ s) : Steady s₀ s.holdOffStart := by
  unfold State.holdOffStart
  simp +contextual (maxDischargeDepth := 30) [*]

@[simp] theorem State.nodeStartOfCycle_steady {s₀ s : State} (hs : Steady s₀ s) : Steady s₀ s.nodeStartOfCycle := by
  unfold State.nodeStartOfCycle
  repeat' (first | dsimp only | (simp +contextual (maxDischargeDepth := 30) [*]; done) | split |
    (refine Steady.foldl _ _ ?_ ?_) | (refine Steady.foldl_fst _ _ ?_ ?_) | intro _ | apply_assumption)

@[simp] theorem State.flushDeferred_steady {s₀ s : State} (hs : Steady s₀ s) : Steady s₀ s.flushDeferred := by
  unfold State.flushDeferred
  simp +contextual (maxDischargeDepth := 30) [*]

@[simp] theorem State.nextCycle_steady {s₀ s : State} (hs : Steady s₀ s) : Steady s₀ s.nextCycle := by
  unfold State.nextCycle
  simp +contextual (maxDischargeDepth := 30) [*]

@[simp] theorem State.cutBehind_steady {s₀ s : State} (hs : Steady s₀ s) : Steady s₀ s.cutBehind := by
  unfold State.cutBehind
  simp +contextual (maxDischargeDepth := 30) [*]

@[simp] theorem State.nodeBusy_steady {s₀ s : State} (hs : Steady s₀ s) : Steady s₀ s.nodeBusy := by
  unfold State.nodeBusy
  simp +contextual (maxDischargeDepth := 30) [*]

@[simp] theorem State.nodeStart_steady {s₀ s : State} (hs : Steady s₀ s) : Steady s₀ s.nodeStart := by
  unfold State.nodeStart
  simp +contextual (maxDischargeDepth := 30) [*]

@[simp] theorem State.nodeStop_steady {s₀ s : State} (hs : Steady s₀ s) : Steady s₀ s.nodeStop := by
  unfold State.nodeStop
  simp +contextual (maxDischargeDepth := 30) [*]

@[simp] theorem State.clearHalt_steady {s₀ s : State} (hs : Steady s₀ s) : Steady s₀ s.clearHalt := by
  unfold State.clearHalt
  simp +contextual (maxDischargeDepth := 30) [*]

@[simp] theorem State.writeNodeCtrl_steady {s₀ s : State} (v : Word) (hs : Steady s₀ s) : Steady s₀ (s.writeNodeCtrl v) := by
  unfold State.writeNodeCtrl
  simp +contextual (maxDischargeDepth := 30) [*]

@[simp] theorem State.writeCycle_steady {s₀ s : State} (po : Nat) (v : Word)
    (hs : Steady s₀ s) : Steady s₀ (s.writeCycle po v) := by
  unfold State.writeCycle
  simp +contextual (maxDischargeDepth := 30) [*]

@[simp] theorem State.sendClaim_steady {s₀ s : State} (p x : Nat) (hs : Steady s₀ s) : Steady s₀ (s.sendClaim p x) := by
  unfold State.sendClaim
  simp +contextual (maxDischargeDepth := 30) [*]

@[simp] theorem State.modMine_steady {s₀ s : State} (p x : Nat) (f : MyClaim → MyClaim)
    (hs : Steady s₀ s) : Steady s₀ (s.modMine p x f) := by
  unfold State.modMine
  simp +contextual (maxDischargeDepth := 30) [*]

@[simp] theorem State.claimAck_steady {s₀ s : State} (p x : Nat) (hs : Steady s₀ s) : Steady s₀ (s.claimAck p x) := by
  unfold State.claimAck
  repeat' (first | dsimp only | (simp +contextual (maxDischargeDepth := 30) [*]; done) | split |
    (refine Steady.foldl _ _ ?_ ?_) | (refine Steady.foldl_fst _ _ ?_ ?_) | intro _ | apply_assumption)

@[simp] theorem State.claimNo_steady {s₀ s : State} (p x reason : Nat) (hs : Steady s₀ s) : Steady s₀ (s.claimNo p x reason) := by
  unfold State.claimNo
  repeat' (first | dsimp only | (simp +contextual (maxDischargeDepth := 30) [*]; done) | split |
    (refine Steady.foldl _ _ ?_ ?_) | (refine Steady.foldl_fst _ _ ?_ ?_) | intro _ | apply_assumption)

@[simp] theorem State.answer_steady {s₀ s : State} (p typ dst ctr : Nat) (payload : List Byte)
    (hs : Steady s₀ s) : Steady s₀ (s.answer p typ dst ctr payload) := by
  unfold State.answer
  simp +contextual (maxDischargeDepth := 30) [*]

@[simp] theorem State.refuseClaim_steady {s₀ s : State} (p x dst asked reason holder : Nat)
    (hs : Steady s₀ s) : Steady s₀ (s.refuseClaim p x dst asked reason holder) := by
  unfold State.refuseClaim
  simp +contextual (maxDischargeDepth := 30) [*]

@[simp] theorem State.withdraw_steady {s₀ s : State} (src : Nat) (e : Nat × Nat × ClaimEnt)
    (hs : Steady s₀ s) : Steady s₀ (s.withdraw src e) := by
  unfold State.withdraw
  simp +contextual (maxDischargeDepth := 30) [*]

@[simp] theorem State.acceptClaim_steady {s₀ s : State} (p x src asked : Nat)
    (hs : Steady s₀ s) : Steady s₀ (s.acceptClaim p x src asked) := by
  unfold State.acceptClaim
  repeat' (first | dsimp only | (simp +contextual (maxDischargeDepth := 30) [*]; done) | split |
    (refine Steady.foldl _ _ ?_ ?_) | (refine Steady.foldl_fst _ _ ?_ ?_) | intro _ | apply_assumption)

@[simp] theorem State.claimIn_steady {s₀ s : State} (p src x asked : Nat)
    (hs : Steady s₀ s) : Steady s₀ (s.claimIn p src x asked) := by
  unfold State.claimIn
  repeat' (first | dsimp only | (simp +contextual (maxDischargeDepth := 30) [*]; done) | split |
    (refine Steady.foldl _ _ ?_ ?_) | (refine Steady.foldl_fst _ _ ?_ ?_) | intro _ | apply_assumption)

@[simp] theorem State.freeClaims_steady {s₀ s : State} (p : Nat) (hs : Steady s₀ s) : Steady s₀ (s.freeClaims p) := by
  unfold State.freeClaims
  simp +contextual (maxDischargeDepth := 30) [*]

end Sys2Proof.Machine
end

