-- ==== Sys2Proof/Laws/FrameLink.lean ====
section
/-! SUPPORT. The operations of links, reception, preemption and landing keep the queue, the features, internal reset and the canonical form of memory. -/

namespace Sys2Proof.Machine

open Sys2Proof

@[simp] theorem State.traceRx_steady {s₀ s : State} (p : Nat) (itp : Bool) (f : Frame) (outcome tick : Nat)
    (hs : Steady s₀ s) : Steady s₀ (s.traceRx p itp f outcome tick) := by
  unfold State.traceRx
  simp +contextual (maxDischargeDepth := 30) [*]

@[simp] theorem State.refreshActive_steady {s₀ s : State} (p : Nat) (hs : Steady s₀ s) : Steady s₀ (s.refreshActive p) := by
  unfold State.refreshActive
  simp +contextual (maxDischargeDepth := 30) [*]

@[simp] theorem State.sendVerify_steady {s₀ s : State} (p : Nat) (hs : Steady s₀ s) : Steady s₀ (s.sendVerify p) := by
  unfold State.sendVerify
  simp +contextual (maxDischargeDepth := 30) [*]

@[simp] theorem State.startVerify_steady {s₀ s : State} (p : Nat) (hs : Steady s₀ s) : Steady s₀ (s.startVerify p) := by
  unfold State.startVerify
  simp +contextual (maxDischargeDepth := 30) [*]

@[simp] theorem State.abortReasm_steady {s₀ s : State} (p : Nat) (hs : Steady s₀ s) : Steady s₀ (s.abortReasm p) := by
  unfold State.abortReasm
  repeat' (first | dsimp only | (simp +contextual (maxDischargeDepth := 30) [*]; done) | split |
    (refine Steady.foldl _ _ ?_ ?_) | (refine Steady.foldl_fst _ _ ?_ ?_) | intro _ | apply_assumption)

@[simp] theorem State.leaveUp_steady {s₀ s : State} (p : Nat) (st : LinkState)
    (hs : Steady s₀ s) : Steady s₀ (s.leaveUp p st) := by
  unfold State.leaveUp
  simp +contextual (maxDischargeDepth := 30) [*]

@[simp] theorem State.enterDetect_steady {s₀ s : State} (p : Nat) (hs : Steady s₀ s) : Steady s₀ (s.enterDetect p) := by
  unfold State.enterDetect
  simp +contextual (maxDischargeDepth := 30) [*]

@[simp] theorem State.recordDown_steady {s₀ s : State} (p reason : Nat)
    (hs : Steady s₀ s) : Steady s₀ (s.recordDown p reason) := by
  unfold State.recordDown
  simp +contextual (maxDischargeDepth := 30) [*]

@[simp] theorem State.goDown_steady {s₀ s : State} (p reason : Nat) (hs : Steady s₀ s) : Steady s₀ (s.goDown p reason) := by
  unfold State.goDown
  simp +contextual (maxDischargeDepth := 30) [*]

@[simp] theorem State.enterUp_steady {s₀ s : State} (p : Nat) (hs : Steady s₀ s) : Steady s₀ (s.enterUp p) := by
  unfold State.enterUp
  simp +contextual (maxDischargeDepth := 30) [*]

@[simp] theorem State.enterFailed_steady {s₀ s : State} (p reason : Nat)
    (hs : Steady s₀ s) : Steady s₀ (s.enterFailed p reason) := by
  unfold State.enterFailed
  simp +contextual (maxDischargeDepth := 30) [*]

@[simp] theorem State.enterSleep_steady {s₀ s : State} (p reason : Nat)
    (hs : Steady s₀ s) : Steady s₀ (s.enterSleep p reason) := by
  unfold State.enterSleep
  repeat' (first | dsimp only | (simp +contextual (maxDischargeDepth := 30) [*]; done) | split |
    (refine Steady.foldl _ _ ?_ ?_) | (refine Steady.foldl_fst _ _ ?_ ?_) | intro _ | apply_assumption)

@[simp] theorem State.enterWaking_steady {s₀ s : State} (p : Nat) (hs : Steady s₀ s) : Steady s₀ (s.enterWaking p) := by
  unfold State.enterWaking
  simp +contextual (maxDischargeDepth := 30) [*]

@[simp] theorem State.portEnable_steady {s₀ s : State} (p : Nat) (on : Bool)
    (hs : Steady s₀ s) : Steady s₀ (s.portEnable p on) := by
  unfold State.portEnable
  simp +contextual (maxDischargeDepth := 30) [*]

@[simp] theorem State.sinceLink_steady {s₀ s : State} (p w : Nat) (hs : Steady s₀ s) : Steady s₀ (s.sinceLink p w) := by
  unfold State.sinceLink
  simp +contextual (maxDischargeDepth := 30) [*]

@[simp] theorem State.sendHello_steady {s₀ s : State} (p : Nat) (sw sl : Bool)
    (hs : Steady s₀ s) : Steady s₀ (s.sendHello p sw sl) := by
  unfold State.sendHello
  simp +contextual (maxDischargeDepth := 30) [*]

@[simp] theorem State.completeHello_steady {s₀ s : State} (p : Nat) (h : Hello)
    (hs : Steady s₀ s) : Steady s₀ (s.completeHello p h) := by
  unfold State.completeHello
  simp +contextual (maxDischargeDepth := 30) [*]

@[simp] theorem State.helloCheck_steady {s₀ s : State} (p : Nat) (hs : Steady s₀ s) : Steady s₀ (s.helloCheck p) := by
  unfold State.helloCheck
  repeat' (first | dsimp only | (simp +contextual (maxDischargeDepth := 30) [*]; done) | split |
    (refine Steady.foldl _ _ ?_ ?_) | (refine Steady.foldl_fst _ _ ?_ ?_) | intro _ | apply_assumption)

@[simp] theorem State.helloIn_steady {s₀ s : State} (p : Nat) (h : Hello) (hs : Steady s₀ s) : Steady s₀ (s.helloIn p h) := by
  unfold State.helloIn
  repeat' (first | dsimp only | (simp +contextual (maxDischargeDepth := 30) [*]; done) | split |
    (refine Steady.foldl _ _ ?_ ?_) | (refine Steady.foldl_fst _ _ ?_ ?_) | intro _ | apply_assumption)

@[simp] theorem State.lockLost_steady {s₀ s : State} (p : Nat) (signal : Bool)
    (hs : Steady s₀ s) : Steady s₀ (s.lockLost p signal) := by
  unfold State.lockLost
  repeat' (first | dsimp only | (simp +contextual (maxDischargeDepth := 30) [*]; done) | split |
    (refine Steady.foldl _ _ ?_ ?_) | (refine Steady.foldl_fst _ _ ?_ ?_) | intro _ | apply_assumption)

@[simp] theorem State.cwIn_steady {s₀ s : State} (p : Nat) (corrected : Nat) (uncorr : Bool)
    (hs : Steady s₀ s) : Steady s₀ (s.cwIn p corrected uncorr) := by
  unfold State.cwIn
  simp +contextual (maxDischargeDepth := 30) [*]

@[simp] theorem State.hiUncorr_steady {s₀ s : State} (p : Nat) (hs : Steady s₀ s) : Steady s₀ (s.hiUncorr p) := by
  unfold State.hiUncorr
  simp +contextual (maxDischargeDepth := 30) [*]

@[simp] theorem State.markerIn_steady {s₀ s : State} (p : Nat) (marker signal : Bool)
    (hs : Steady s₀ s) : Steady s₀ (s.markerIn p marker signal) := by
  unfold State.markerIn
  simp +contextual (maxDischargeDepth := 30) [*]

@[simp] theorem State.llIn_steady {s₀ s : State} (p : Nat) (symbols : List Nat) (signal : Bool)
    (hs : Steady s₀ s) : Steady s₀ (s.llIn p symbols signal) := by
  unfold State.llIn
  repeat' (first | dsimp only | (simp +contextual (maxDischargeDepth := 30) [*]; done) | split |
    (refine Steady.foldl _ _ ?_ ?_) | (refine Steady.foldl_fst _ _ ?_ ?_) | intro _ | apply_assumption)

@[simp] theorem State.stdIn_steady {s₀ s : State} (p corrected : Nat) (uncorr : Bool)
    (hs : Steady s₀ s) : Steady s₀ (s.stdIn p corrected uncorr) := by
  unfold State.stdIn
  simp +contextual (maxDischargeDepth := 30) [*]

@[simp] theorem State.retrain_steady {s₀ s : State} (p : Nat) (hs : Steady s₀ s) : Steady s₀ (s.retrain p) := by
  unfold State.retrain
  simp +contextual (maxDischargeDepth := 30) [*]

@[simp] theorem State.linkSleep_steady {s₀ s : State} (p : Nat) (hs : Steady s₀ s) : Steady s₀ (s.linkSleep p) := by
  unfold State.linkSleep
  simp +contextual (maxDischargeDepth := 30) [*]

@[simp] theorem State.linkWake_steady {s₀ s : State} (p : Nat) (hs : Steady s₀ s) : Steady s₀ (s.linkWake p) := by
  unfold State.linkWake
  repeat' (first | dsimp only | (simp +contextual (maxDischargeDepth := 30) [*]; done) | split |
    (refine Steady.foldl _ _ ?_ ?_) | (refine Steady.foldl_fst _ _ ?_ ?_) | intro _ | apply_assumption)

@[simp] theorem State.writeLinkCtrl_steady {s₀ s : State} (p : Nat) (v : Word)
    (hs : Steady s₀ s) : Steady s₀ (s.writeLinkCtrl p v) := by
  unfold State.writeLinkCtrl
  simp +contextual (maxDischargeDepth := 30) [*]

@[simp] theorem State.writeLinkCfg_steady {s₀ s : State} (p : Nat) (v : Word)
    (hs : Steady s₀ s) : Steady s₀ (s.writeLinkCfg p v) := by
  unfold State.writeLinkCfg
  simp +contextual (maxDischargeDepth := 30) [*]

@[simp] theorem State.writePortLink_steady {s₀ s : State} (p po : Nat) (v : Word)
    (hs : Steady s₀ s) : Steady s₀ (s.writePortLink p po v) := by
  unfold State.writePortLink
  repeat' (first | dsimp only | (simp +contextual (maxDischargeDepth := 30) [*]; done) | split |
    (refine Steady.foldl _ _ ?_ ?_) | (refine Steady.foldl_fst _ _ ?_ ?_) | intro _ | apply_assumption)

@[simp] theorem State.drop3_steady {s₀ s : State} (p ctr : Nat) (hs : Steady s₀ s) : Steady s₀ (s.drop3 p ctr) := by
  unfold State.drop3
  simp +contextual (maxDischargeDepth := 30) [*]

@[simp] theorem State.relayTo_steady {s₀ s : State} (p cls : Nat) (itp : Bool) (f : Frame) (q : Nat)
    (hs : Steady s₀ s) : Steady s₀ (s.relayTo p cls itp f q) := by
  unfold State.relayTo
  simp +contextual (maxDischargeDepth := 30) [*]

@[simp] theorem State.relay_steady {s₀ s : State} (p : Nat) (itp : Bool) (f : Frame) (cls : Nat) (ports : List Nat)
    (hs : Steady s₀ s) : Steady s₀ (s.relay p itp f cls ports) := by
  unfold State.relay
  simp +contextual (maxDischargeDepth := 30) [*]

@[simp] theorem State.stomp_steady {s₀ s : State} (p cls : Nat) (itp : Bool) (f : Frame) (q : Nat)
    (hs : Steady s₀ s) : Steady s₀ (s.stomp p cls itp f q) := by
  unfold State.stomp
  simp +contextual (maxDischargeDepth := 30) [*]

@[simp] theorem State.stompAll_steady {s₀ s : State} (p : Nat) (itp : Bool) (f : Frame) (tRx : Nat) (begun : List (Fin 1024))
    (hs : Steady s₀ s) : Steady s₀ (s.stompAll p itp f tRx begun) := by
  unfold State.stompAll
  repeat' (first | dsimp only | (simp +contextual (maxDischargeDepth := 30) [*]; done) | split |
    (refine Steady.foldl _ _ ?_ ?_) | (refine Steady.foldl_fst _ _ ?_ ?_) | intro _ | apply_assumption)

@[simp] theorem State.pauseIn_steady {s₀ s : State} (p : Nat) (f : PauseFrame)
    (hs : Steady s₀ s) : Steady s₀ (s.pauseIn p f) := by
  unfold State.pauseIn
  simp +contextual (maxDischargeDepth := 30) [*]

@[simp] theorem State.ctrlIn_steady {s₀ s : State} (p : Nat) (f : Frame) (tRx : Nat)
    (hs : Steady s₀ s) : Steady s₀ (s.ctrlIn p f tRx) := by
  unfold State.ctrlIn
  simp +contextual (maxDischargeDepth := 30) [*]

@[simp] theorem State.consume_steady {s₀ s : State} (p : Nat) (f : Frame) (tRx : Nat)
    (hs : Steady s₀ s) : Steady s₀ (s.consume p f tRx) := by
  unfold State.consume
  simp +contextual (maxDischargeDepth := 30) [*]

@[simp] theorem State.fromStage5_steady {s₀ s : State} (p : Nat) (itp : Bool) (f : Frame) (tRx last edge : Nat)
    (hs : Steady s₀ s) : Steady s₀ (s.fromStage5 p itp f tRx last edge) := by
  unfold State.fromStage5
  repeat' (first | dsimp only | (simp +contextual (maxDischargeDepth := 30) [*]; done) | split |
    (refine Steady.foldl _ _ ?_ ?_) | (refine Steady.foldl_fst _ _ ?_ ?_) | intro _ | apply_assumption)

@[simp] theorem State.fromStage3_steady {s₀ s : State} (p : Nat) (itp : Bool) (f : Frame) (tRx last edge : Nat)
    (hs : Steady s₀ s) : Steady s₀ (s.fromStage3 p itp f tRx last edge) := by
  unfold State.fromStage3
  repeat' (first | dsimp only | (simp +contextual (maxDischargeDepth := 30) [*]; done) | split |
    (refine Steady.foldl _ _ ?_ ?_) | (refine Steady.foldl_fst _ _ ?_ ?_) | intro _ | apply_assumption)

@[simp] theorem State.rxUp_steady {s₀ s : State} (r : RxFrame) (hs : Steady s₀ s) : Steady s₀ (s.rxUp r) := by
  unfold State.rxUp
  repeat' (first | dsimp only | (simp +contextual (maxDischargeDepth := 30) [*]; done) | split |
    (refine Steady.foldl _ _ ?_ ?_) | (refine Steady.foldl_fst _ _ ?_ ?_) | intro _ | apply_assumption)

@[simp] theorem State.rxNotUp_steady {s₀ s : State} (r : RxFrame) (hs : Steady s₀ s) : Steady s₀ (s.rxNotUp r) := by
  unfold State.rxNotUp
  simp +contextual (maxDischargeDepth := 30) [*]

@[simp] theorem State.reasmDrop_steady {s₀ s : State} (p ctr : Nat) (drop : Option Nat)
    (hs : Steady s₀ s) : Steady s₀ (s.reasmDrop p ctr drop) := by
  unfold State.reasmDrop
  simp +contextual (maxDischargeDepth := 30) [*]

@[simp] theorem State.pmacWhole_steady {s₀ s : State} (p : Nat) (b : List Byte) (tRx last edge : Nat)
    (hs : Steady s₀ s) : Steady s₀ (s.pmacWhole p b tRx last edge) := by
  unfold State.pmacWhole
  simp +contextual (maxDischargeDepth := 30) [*]

@[simp] theorem State.startIn_steady {s₀ s : State} (p : Nat) (m : Mpacket) (hs : Steady s₀ s) : Steady s₀ (s.startIn p m) := by
  unfold State.startIn
  repeat' (first | dsimp only | (simp +contextual (maxDischargeDepth := 30) [*]; done) | split |
    (refine Steady.foldl _ _ ?_ ?_) | (refine Steady.foldl_fst _ _ ?_ ?_) | intro _ | apply_assumption)

@[simp] theorem State.contHeld_steady {s₀ s : State} (p : Nat) (r : Reasm) (m : Mpacket)
    (hs : Steady s₀ s) : Steady s₀ (s.contHeld p r m) := by
  unfold State.contHeld
  simp +contextual (maxDischargeDepth := 30) [*]

@[simp] theorem State.contIn_steady {s₀ s : State} (p : Nat) (m : Mpacket) (hs : Steady s₀ s) : Steady s₀ (s.contIn p m) := by
  unfold State.contIn
  repeat' (first | dsimp only | (simp +contextual (maxDischargeDepth := 30) [*]; done) | split |
    (refine Steady.foldl _ _ ?_ ?_) | (refine Steady.foldl_fst _ _ ?_ ?_) | intro _ | apply_assumption)

@[simp] theorem State.traceHub_steady {s₀ s : State} (x : HubFrame) (outcome : Nat) (zone : Option Nat)
    (hs : Steady s₀ s) : Steady s₀ (s.traceHub x outcome zone) := by
  unfold State.traceHub
  simp +contextual (maxDischargeDepth := 30) [*]

@[simp] theorem State.stage6_steady {s₀ s : State} (x : HubFrame) (hs : Steady s₀ s) : Steady s₀ (s.stage6 x).1 := by
  unfold State.stage6
  repeat' (first | dsimp only | (simp +contextual (maxDischargeDepth := 30) [*]; done) | split |
    (refine Steady.foldl _ _ ?_ ?_) | (refine Steady.foldl_fst _ _ ?_ ?_) | intro _ | apply_assumption)

@[simp] theorem State.readRanges_steady {s₀ s : State} (l : List (Nat × Nat))
    (hs : Steady s₀ s) : Steady s₀ (s.readRanges l) := by
  unfold State.readRanges
  simp +contextual (maxDischargeDepth := 30) [*]

@[simp] theorem State.apply_steady {s₀ s : State} (op t a : Nat) (xs : List Nat)
    (hs : Steady s₀ s) : Steady s₀ (s.apply op t a xs).1 := by
  unfold State.apply
  simp +contextual (maxDischargeDepth := 30) [*]

@[simp] theorem State.countAccum_steady {s₀ s : State} (h : Hdr) (cs : List Comb)
    (hs : Steady s₀ s) : Steady s₀ (s.countAccum h cs) := by
  unfold State.countAccum
  simp +contextual (maxDischargeDepth := 30) [*]

@[simp] theorem State.stage9_steady {s₀ s : State} (x : HubFrame) (h : Hdr) (z : Nat) (xs : List Nat)
    (hs : Steady s₀ s) : Steady s₀ (s.stage9 x h z xs) := by
  unfold State.stage9
  simp +contextual (maxDischargeDepth := 30) [*]

@[simp] theorem State.land_steady {s₀ s : State} (x : HubFrame) (hs : Steady s₀ s) : Steady s₀ (s.land x) := by
  unfold State.land
  repeat' (first | dsimp only | (simp +contextual (maxDischargeDepth := 30) [*]; done) | split |
    (refine Steady.foldl _ _ ?_ ?_) | (refine Steady.foldl_fst _ _ ?_ ?_) | intro _ | apply_assumption)

@[simp] theorem State.scrubLine_steady {s₀ s : State} (die : Nat) (hs : Steady s₀ s) : Steady s₀ (s.scrubLine die) := by
  unfold State.scrubLine
  simp +contextual (maxDischargeDepth := 30) [*]

end Sys2Proof.Machine
end

