-- ==== Sys2Proof/Laws/FrameWork.lean ====
section
/-! SUPPORT. The operations of queues, jobs, rings, the block mover, the self-test and the dailies keep the queue, the features, internal reset and the canonical form of memory. -/

namespace Sys2Proof.Machine

open Sys2Proof

@[simp] theorem State.winGuard_steady {s₀ s : State} (roff : Nat) (held : Bool) (f : State → State)
    (hs : Steady s₀ s) (hf : ∀ u, Steady s₀ u → Steady s₀ (f u)) : Steady s₀ (s.winGuard roff held f) := by
  unfold State.winGuard
  simp +contextual (maxDischargeDepth := 30) [*]

@[simp] theorem State.stopQueue_steady {s₀ s : State} (q code info : Nat)
    (hs : Steady s₀ s) : Steady s₀ (s.stopQueue q code info) := by
  unfold State.stopQueue
  simp +contextual (maxDischargeDepth := 30) [*]

@[simp] theorem State.ring219_steady {s₀ s : State} (q t off : Nat) (hs : Steady s₀ s) : Steady s₀ (s.ring219 q t off).1 := by
  unfold State.ring219
  repeat' (first | dsimp only | (simp +contextual (maxDischargeDepth := 30) [*]; done) | split |
    (refine Steady.foldl _ _ ?_ ?_) | (refine Steady.foldl_fst _ _ ?_ ?_) | intro _ | apply_assumption)

@[simp] theorem State.doorbell_steady {s₀ s : State} (q value : Nat) (hs : Steady s₀ s) : Steady s₀ (s.doorbell q value) := by
  unfold State.doorbell
  simp +contextual (maxDischargeDepth := 30) [*]

@[simp] theorem State.pushDone_steady {s₀ s : State} (q off : Nat) (ws : List Word)
    (hs : Steady s₀ s) : Steady s₀ (s.pushDone q off ws) := by
  unfold State.pushDone
  simp +contextual (maxDischargeDepth := 30) [*]

@[simp] theorem State.pushAbort_steady {s₀ s : State} (q off : Nat) (hs : Steady s₀ s) : Steady s₀ (s.pushAbort q off) := by
  unfold State.pushAbort
  simp +contextual (maxDischargeDepth := 30) [*]

@[simp] theorem State.inlineStore_steady {s₀ s : State} (q i : Nat) (v : Word)
    (hs : Steady s₀ s) : Steady s₀ (s.inlineStore q i v) := by
  unfold State.inlineStore
  simp +contextual (maxDischargeDepth := 30) [*]

@[simp] theorem State.pollRest_steady {s₀ s : State} (q : Nat) (units : Nat)
    (hs : Steady s₀ s) : Steady s₀ (s.pollRest q units) := by
  unfold State.pollRest
  repeat' (first | dsimp only | (simp +contextual (maxDischargeDepth := 30) [*]; done) | split |
    (refine Steady.foldl _ _ ?_ ?_) | (refine Steady.foldl_fst _ _ ?_ ?_) | intro _ | apply_assumption)

@[simp] theorem State.postIn_steady {s₀ s : State} (src key : Nat) (b : List Byte)
    (hs : Steady s₀ s) : Steady s₀ (s.postIn src key b) := by
  unfold State.postIn
  repeat' (first | dsimp only | (simp +contextual (maxDischargeDepth := 30) [*]; done) | split |
    (refine Steady.foldl _ _ ?_ ?_) | (refine Steady.foldl_fst _ _ ?_ ?_) | intro _ | apply_assumption)

@[simp] theorem State.arbApply_steady {s₀ s : State} (hs : Steady s₀ s) : Steady s₀ s.arbApply := by
  unfold State.arbApply
  simp +contextual (maxDischargeDepth := 30) [*]

@[simp] theorem State.newRound_steady {s₀ s : State} (hs : Steady s₀ s) : Steady s₀ s.newRound := by
  unfold State.newRound
  simp +contextual (maxDischargeDepth := 30) [*]

@[simp] theorem State.arbitrate_steady {s₀ s : State} (hs : Steady s₀ s) : Steady s₀ s.arbitrate.1 := by
  unfold State.arbitrate
  repeat' (first | dsimp only | (simp +contextual (maxDischargeDepth := 30) [*]; done) | split |
    (refine Steady.foldl _ _ ?_ ?_) | (refine Steady.foldl_fst _ _ ?_ ?_) | intro _ | apply_assumption)

@[simp] theorem State.sqOff_steady {s₀ s : State} (q : Nat) (hs : Steady s₀ s) : Steady s₀ (s.sqOff q) := by
  unfold State.sqOff
  simp +contextual (maxDischargeDepth := 30) [*]

@[simp] theorem State.sqOn_steady {s₀ s : State} (q : Nat) (hs : Steady s₀ s) : Steady s₀ (s.sqOn q) := by
  unfold State.sqOn
  simp +contextual (maxDischargeDepth := 30) [*]

@[simp] theorem State.writeSqCfg_steady {s₀ s : State} (q : Nat) (v : Word)
    (hs : Steady s₀ s) : Steady s₀ (s.writeSqCfg q v) := by
  unfold State.writeSqCfg
  repeat' (first | dsimp only | (simp +contextual (maxDischargeDepth := 30) [*]; done) | split |
    (refine Steady.foldl _ _ ?_ ?_) | (refine Steady.foldl_fst _ _ ?_ ?_) | intro _ | apply_assumption)

@[simp] theorem State.writeSq_steady {s₀ s : State} (q off : Nat) (v : Word)
    (hs : Steady s₀ s) : Steady s₀ (s.writeSq q off v) := by
  unfold State.writeSq
  repeat' (first | dsimp only | (simp +contextual (maxDischargeDepth := 30) [*]; done) | split |
    (refine Steady.foldl _ _ ?_ ?_) | (refine Steady.foldl_fst _ _ ?_ ?_) | intro _ | apply_assumption)

@[simp] theorem State.beginJob_steady {s₀ s : State} (j : Job) (hs : Steady s₀ s) : Steady s₀ (s.beginJob j) := by
  unfold State.beginJob
  repeat' (first | dsimp only | (simp +contextual (maxDischargeDepth := 30) [*]; done) | split |
    (refine Steady.foldl _ _ ?_ ?_) | (refine Steady.foldl_fst _ _ ?_ ?_) | intro _ | apply_assumption)

@[simp] theorem State.traceFetch_steady {s₀ s : State} (j : Job) (hs : Steady s₀ s) : Steady s₀ (s.traceFetch j) := by
  unfold State.traceFetch
  simp +contextual (maxDischargeDepth := 30) [*]

@[simp] theorem State.startJob_steady {s₀ s : State} (q : Nat) (b : List Byte)
    (hs : Steady s₀ s) : Steady s₀ (s.startJob q b) := by
  unfold State.startJob
  repeat' (first | dsimp only | (simp +contextual (maxDischargeDepth := 30) [*]; done) | split |
    (refine Steady.foldl _ _ ?_ ?_) | (refine Steady.foldl_fst _ _ ?_ ?_) | intro _ | apply_assumption)

@[simp] theorem State.grant_steady {s₀ s : State} (q : Nat) (hs : Steady s₀ s) : Steady s₀ (s.grant q) := by
  unfold State.grant
  repeat' (first | dsimp only | (simp +contextual (maxDischargeDepth := 30) [*]; done) | split |
    (refine Steady.foldl _ _ ?_ ?_) | (refine Steady.foldl_fst _ _ ?_ ?_) | intro _ | apply_assumption)

@[simp] theorem State.grantEdge_steady {s₀ s : State} (hs : Steady s₀ s) : Steady s₀ s.grantEdge := by
  unfold State.grantEdge
  simp +contextual (maxDischargeDepth := 30) [*]

@[simp] theorem State.turnOver_steady {s₀ s : State} (q : Nat) (hs : Steady s₀ s) : Steady s₀ (s.turnOver q) := by
  unfold State.turnOver
  simp +contextual (maxDischargeDepth := 30) [*]

@[simp] theorem State.buildFails_steady {s₀ s : State} (j : Job) (status : Nat)
    (hs : Steady s₀ s) : Steady s₀ (s.buildFails j status) := by
  unfold State.buildFails
  simp +contextual (maxDischargeDepth := 30) [*]

@[simp] theorem State.reserveTs_steady {s₀ s : State} (j : Job) (port : Nat)
    (hs : Steady s₀ s) : Steady s₀ (s.reserveTs j port).1 := by
  unfold State.reserveTs
  repeat' (first | dsimp only | (simp +contextual (maxDischargeDepth := 30) [*]; done) | split |
    (refine Steady.foldl _ _ ?_ ?_) | (refine Steady.foldl_fst _ _ ?_ ?_) | intro _ | apply_assumption)

@[simp] theorem State.countEnc_steady {s₀ s : State} (codec n : Nat) (e : Enc)
    (hs : Steady s₀ s) : Steady s₀ (s.countEnc codec n e) := by
  unfold State.countEnc
  simp +contextual (maxDischargeDepth := 30) [*]

@[simp] theorem State.placeFrame_steady {s₀ s : State} (j : Job) (i : Nat) (ports : List Nat)
    (hs : Steady s₀ s) : Steady s₀ (s.placeFrame j i ports) := by
  unfold State.placeFrame
  repeat' (first | dsimp only | (simp +contextual (maxDischargeDepth := 30) [*]; done) | split |
    (refine Steady.foldl _ _ ?_ ?_) | (refine Steady.foldl_fst _ _ ?_ ?_) | intro _ | apply_assumption)

@[simp] theorem State.buildFrame_steady {s₀ s : State} (j : Job) (hs : Steady s₀ s) : Steady s₀ (s.buildFrame j) := by
  unfold State.buildFrame
  repeat' (first | dsimp only | (simp +contextual (maxDischargeDepth := 30) [*]; done) | split |
    (refine Steady.foldl _ _ ?_ ?_) | (refine Steady.foldl_fst _ _ ?_ ?_) | intro _ | apply_assumption)

@[simp] theorem State.hubEvent_steady {s₀ s : State} (x : HubFrame) (b : List Byte)
    (hs : Steady s₀ s) : Steady s₀ (s.hubEvent x b) := by
  unfold State.hubEvent
  simp +contextual (maxDischargeDepth := 30) [*]

@[simp] theorem State.hubPost_steady {s₀ s : State} (x : HubFrame) (h : Hdr) (b : List Byte)
    (hs : Steady s₀ s) : Steady s₀ (s.hubPost x h b) := by
  unfold State.hubPost
  simp +contextual (maxDischargeDepth := 30) [*]

@[simp] theorem State.afterStage6_steady {s₀ s : State} (x : HubFrame) (hs : Steady s₀ s) : Steady s₀ (s.afterStage6 x) := by
  unfold State.afterStage6
  simp +contextual (maxDischargeDepth := 30) [*]

@[simp] theorem State.writeCqHead_steady {s₀ s : State} (c : Nat) (v : Word)
    (hs : Steady s₀ s) : Steady s₀ (s.writeCqHead c v) := by
  unfold State.writeCqHead
  simp +contextual (maxDischargeDepth := 30) [*]

@[simp] theorem State.writeCqNotify_steady {s₀ s : State} (c : Nat) (v : Word)
    (hs : Steady s₀ s) : Steady s₀ (s.writeCqNotify c v) := by
  unfold State.writeCqNotify
  simp +contextual (maxDischargeDepth := 30) [*]

@[simp] theorem State.writeCqCfg_steady {s₀ s : State} (c : Nat) (v : Word)
    (hs : Steady s₀ s) : Steady s₀ (s.writeCqCfg c v) := by
  unfold State.writeCqCfg
  repeat' (first | dsimp only | (simp +contextual (maxDischargeDepth := 30) [*]; done) | split |
    (refine Steady.foldl _ _ ?_ ?_) | (refine Steady.foldl_fst _ _ ?_ ?_) | intro _ | apply_assumption)

@[simp] theorem State.writeCq_steady {s₀ s : State} (c off : Nat) (v : Word)
    (hs : Steady s₀ s) : Steady s₀ (s.writeCq c off v) := by
  unfold State.writeCq
  simp +contextual (maxDischargeDepth := 30) [*]

@[simp] theorem State.xferEn_steady {s₀ s : State} (g : Nat) (on : Bool) (hs : Steady s₀ s) : Steady s₀ (s.xferEn g on) := by
  unfold State.xferEn
  repeat' (first | dsimp only | (simp +contextual (maxDischargeDepth := 30) [*]; done) | split |
    (refine Steady.foldl _ _ ?_ ?_) | (refine Steady.foldl_fst _ _ ?_ ?_) | intro _ | apply_assumption)

@[simp] theorem State.modChan_steady {s₀ s : State} (c : Nat) (f : MvCh → MvCh)
    (hs : Steady s₀ s) : Steady s₀ (s.modChan c f) := by
  unfold State.modChan
  simp +contextual (maxDischargeDepth := 30) [*]

@[simp] theorem State.traceMover_steady {s₀ s : State} (ev c idx : Nat)
    (hs : Steady s₀ s) : Steady s₀ (s.traceMover ev c idx) := by
  unfold State.traceMover
  simp +contextual (maxDischargeDepth := 30) [*]

@[simp] theorem State.chErr_steady {s₀ s : State} (c code idx : Nat) (late pulsed : Bool)
    (hs : Steady s₀ s) : Steady s₀ (s.chErr c code idx late pulsed) := by
  unfold State.chErr
  simp +contextual (maxDischargeDepth := 30) [*]

@[simp] theorem State.applySet_steady {s₀ s : State} (c : Nat) (x : MvSet) (hs : Steady s₀ s) : Steady s₀ (s.applySet c x) := by
  unfold State.applySet
  simp +contextual (maxDischargeDepth := 30) [*]

@[simp] theorem State.moverApplied_steady {s₀ s : State} (hs : Steady s₀ s) : Steady s₀ s.moverApplied := by
  unfold State.moverApplied
  simp +contextual (maxDischargeDepth := 30) [*]

@[simp] theorem State.takeSet_steady {s₀ s : State} (c : Nat) (hs : Steady s₀ s) : Steady s₀ (s.takeSet c) := by
  unfold State.takeSet
  repeat' (first | dsimp only | (simp +contextual (maxDischargeDepth := 30) [*]; done) | split |
    (refine Steady.foldl _ _ ?_ ?_) | (refine Steady.foldl_fst _ _ ?_ ?_) | intro _ | apply_assumption)

@[simp] theorem State.tryHalt_steady {s₀ s : State} (c : Nat) (hs : Steady s₀ s) : Steady s₀ (s.tryHalt c) := by
  unfold State.tryHalt
  simp +contextual (maxDischargeDepth := 30) [*]

@[simp] theorem State.stopChan_steady {s₀ s : State} (c : Nat) (hs : Steady s₀ s) : Steady s₀ (s.stopChan c) := by
  unfold State.stopChan
  simp +contextual (maxDischargeDepth := 30) [*]

@[simp] theorem State.dropPendLine_steady {s₀ s : State} (c : Nat) (m : MvCh) (keep : Bool)
    (hs : Steady s₀ s) : Steady s₀ (s.dropPendLine c m keep) := by
  unfold State.dropPendLine
  repeat' (first | dsimp only | (simp +contextual (maxDischargeDepth := 30) [*]; done) | split |
    (refine Steady.foldl _ _ ?_ ?_) | (refine Steady.foldl_fst _ _ ?_ ?_) | intro _ | apply_assumption)

@[simp] theorem State.moverCommit_steady {s₀ s : State} (hs : Steady s₀ s) : Steady s₀ s.moverCommit := by
  unfold State.moverCommit
  repeat' (first | dsimp only | (simp +contextual (maxDischargeDepth := 30) [*]; done) | split |
    (refine Steady.foldl _ _ ?_ ?_) | (refine Steady.foldl_fst _ _ ?_ ?_) | intro _ | apply_assumption)

@[simp] theorem State.moverEdge_steady {s₀ s : State} (hs : Steady s₀ s) : Steady s₀ s.moverEdge := by
  unfold State.moverEdge
  simp +contextual (maxDischargeDepth := 30) [*]

@[simp] theorem State.moverDiscard_steady {s₀ s : State} (hs : Steady s₀ s) : Steady s₀ s.moverDiscard := by
  unfold State.moverDiscard
  simp +contextual (maxDischargeDepth := 30) [*]

@[simp] theorem State.readAhead_steady {s₀ s : State} (c : Nat) (hs : Steady s₀ s) : Steady s₀ (s.readAhead c) := by
  unfold State.readAhead
  simp +contextual (maxDischargeDepth := 30) [*]

@[simp] theorem State.takeDesc_steady {s₀ s : State} (c : Nat) (hs : Steady s₀ s) : Steady s₀ (s.takeDesc c) := by
  unfold State.takeDesc
  repeat' (first | dsimp only | (simp +contextual (maxDischargeDepth := 30) [*]; done) | split |
    (refine Steady.foldl _ _ ?_ ?_) | (refine Steady.foldl_fst _ _ ?_ ?_) | intro _ | apply_assumption)

@[simp] theorem State.handover_steady {s₀ s : State} (c : Nat) (hs : Steady s₀ s) : Steady s₀ (s.handover c) := by
  unfold State.handover
  simp +contextual (maxDischargeDepth := 30) [*]

@[simp] theorem State.chKick_steady {s₀ s : State} (c : Nat) (hs : Steady s₀ s) : Steady s₀ (s.chKick c) := by
  unfold State.chKick
  simp +contextual (maxDischargeDepth := 30) [*]

@[simp] theorem State.grantBurst_steady {s₀ s : State} (c : Nat) (d : MvDesc) (n : Nat)
    (hs : Steady s₀ s) : Steady s₀ (s.grantBurst c d n) := by
  unfold State.grantBurst
  simp +contextual (maxDischargeDepth := 30) [*]

@[simp] theorem State.moverPulse_steady {s₀ s : State} (c : Nat) (word0 : Word)
    (hs : Steady s₀ s) : Steady s₀ (s.moverPulse c word0).1 := by
  unfold State.moverPulse
  repeat' (first | dsimp only | (simp +contextual (maxDischargeDepth := 30) [*]; done) | split |
    (refine Steady.foldl _ _ ?_ ?_) | (refine Steady.foldl_fst _ _ ?_ ?_) | intro _ | apply_assumption)

@[simp] theorem State.leftZero_steady {s₀ s : State} (c : Nat) (d : MvDesc) (hs : Steady s₀ s) : Steady s₀ (s.leftZero c d) := by
  unfold State.leftZero
  simp +contextual (maxDischargeDepth := 30) [*]

@[simp] theorem State.countChan_steady {s₀ s : State} (c w n : Nat) (hs : Steady s₀ s) : Steady s₀ (s.countChan c w n) := by
  unfold State.countChan
  simp +contextual (maxDischargeDepth := 30) [*]

@[simp] theorem State.writeEdges_steady {s₀ s : State} (n : Nat) (hs : Steady s₀ s) : Steady s₀ (s.writeEdges n) := by
  unfold State.writeEdges
  simp +contextual (maxDischargeDepth := 30) [*]

@[simp] theorem State.issueBurst_steady {s₀ s : State} (b : MvBurst) (d : MvDesc)
    (hs : Steady s₀ s) : Steady s₀ (s.issueBurst b d) := by
  unfold State.issueBurst
  simp +contextual (maxDischargeDepth := 30) [*]

@[simp] theorem State.returnDesc_steady {s₀ s : State} (c : Nat) (d : MvDone)
    (hs : Steady s₀ s) : Steady s₀ (s.returnDesc c d) := by
  unfold State.returnDesc
  simp +contextual (maxDischargeDepth := 30) [*]

@[simp] theorem State.barrierDone_steady {s₀ s : State} (c : Nat) (d : MvDone)
    (hs : Steady s₀ s) : Steady s₀ (s.barrierDone c d) := by
  unfold State.barrierDone
  simp +contextual (maxDischargeDepth := 30) [*]

@[simp] theorem State.lateError_steady {s₀ s : State} (c : Nat) (d : MvDone)
    (hs : Steady s₀ s) : Steady s₀ (s.lateError c d) := by
  unfold State.lateError
  simp +contextual (maxDischargeDepth := 30) [*]

@[simp] theorem State.settleDesc_steady {s₀ s : State} (c : Nat) (bad : List Nat) (d : MvDone)
    (hs : Steady s₀ s) : Steady s₀ (s.settleDesc c bad d) := by
  unfold State.settleDesc
  simp +contextual (maxDischargeDepth := 30) [*]

@[simp] theorem State.answered_steady {s₀ s : State} (c : Nat) (hs : Steady s₀ s) : Steady s₀ (s.answered c) := by
  unfold State.answered
  repeat' (first | dsimp only | (simp +contextual (maxDischargeDepth := 30) [*]; done) | split |
    (refine Steady.foldl _ _ ?_ ?_) | (refine Steady.foldl_fst _ _ ?_ ?_) | intro _ | apply_assumption)

@[simp] theorem State.chEnable_steady {s₀ s : State} (c : Nat) (hs : Steady s₀ s) : Steady s₀ (s.chEnable c) := by
  unfold State.chEnable
  repeat' (first | dsimp only | (simp +contextual (maxDischargeDepth := 30) [*]; done) | split |
    (refine Steady.foldl _ _ ?_ ?_) | (refine Steady.foldl_fst _ _ ?_ ?_) | intro _ | apply_assumption)

@[simp] theorem State.scramble_steady {s₀ s : State} (d : MvDesc) (hs : Steady s₀ s) : Steady s₀ (s.scramble d) := by
  refine ⟨hs.1, hs.2, hs.3, hs.4, hs.5, fun x => ?_⟩
  have key : ∀ (f : List Host.Cell → Nat → List Host.Cell) (l : List Nat) (m : List Host.Cell),
      (∀ m k, Memory.wf m = true → Memory.wf (f m k) = true) → Memory.wf m = true → Memory.wf (l.foldl f m) = true := by
    intro f l
    induction l with
    | nil => intro m _ h; exact h
    | cons k l ih => intro m hf h; exact ih _ hf (hf _ _ h)
  exact key _ _ _ (fun m k h => Memory.wf_memSet _ _ _ h) (hs.6 x)

@[simp] theorem State.chDisable_steady {s₀ s : State} (c : Nat) (hs : Steady s₀ s) : Steady s₀ (s.chDisable c) := by
  unfold State.chDisable
  repeat' (first | dsimp only | (simp +contextual (maxDischargeDepth := 30) [*]; done) | split |
    (refine Steady.foldl _ _ ?_ ?_) | (refine Steady.foldl_fst _ _ ?_ ?_) | intro _ | apply_assumption)

@[simp] theorem State.chReset_steady {s₀ s : State} (c : Nat) (hs : Steady s₀ s) : Steady s₀ (s.chReset c) := by
  unfold State.chReset
  simp +contextual (maxDischargeDepth := 30) [*]

@[simp] theorem State.writeChCtrl_steady {s₀ s : State} (c : Nat) (v : Word)
    (hs : Steady s₀ s) : Steady s₀ (s.writeChCtrl c v) := by
  unfold State.writeChCtrl
  simp +contextual (maxDischargeDepth := 30) [*]

@[simp] theorem State.moverOff_steady {s₀ s : State} (hs : Steady s₀ s) : Steady s₀ s.moverOff := by
  unfold State.moverOff
  simp +contextual (maxDischargeDepth := 30) [*]

@[simp] theorem State.writeCh_steady {s₀ s : State} (po : Nat) (v : Word) (hs : Steady s₀ s) : Steady s₀ (s.writeCh po v) := by
  have h1 := State.writeChCtrl_steady s.chSel v hs
  have h2 : ∀ f, Steady s₀ (s.modChan s.chSel f) := fun f => State.modChan_steady _ f hs
  have h3 := State.err_steady .mover 0 0x01A2 s.chSel po hs
  exact .ite h1 (.ite (h2 _) (.ite (h2 _) (.ite (h2 _) (.ite (h2 _) (.ite (h2 _)
    (.ite (.ite h3 (.ite (h2 _) (.ite (h2 _) (h2 _)))) hs))))))

@[simp] theorem State.writeChSel_steady {s₀ s : State} (v : Word) (hs : Steady s₀ s) : Steady s₀ (s.writeChSel v) := by
  unfold State.writeChSel
  simp +contextual (maxDischargeDepth := 30) [*]

@[simp] theorem State.testStart_steady {s₀ s : State} (hs : Steady s₀ s) : Steady s₀ s.testStart := by
  unfold State.testStart
  repeat' (first | dsimp only | (simp +contextual (maxDischargeDepth := 30) [*]; done) | split |
    (refine Steady.foldl _ _ ?_ ?_) | (refine Steady.foldl_fst _ _ ?_ ?_) | intro _ | apply_assumption)

@[simp] theorem State.writeTestCtrl_steady {s₀ s : State} (v : Word) (hs : Steady s₀ s) : Steady s₀ (s.writeTestCtrl v) := by
  unfold State.writeTestCtrl
  simp +contextual (maxDischargeDepth := 30) [*]

@[simp] theorem State.testEnd_steady {s₀ s : State} (poisoned : Bool) (hs : Steady s₀ s) : Steady s₀ (s.testEnd poisoned) := by
  unfold State.testEnd
  simp +contextual (maxDischargeDepth := 30) [*]

@[simp] theorem State.testRun_steady {s₀ s : State} (hs : Steady s₀ s) : Steady s₀ s.testRun := by
  unfold State.testRun
  repeat' (first | dsimp only | (simp +contextual (maxDischargeDepth := 30) [*]; done) | split |
    (refine Steady.foldl _ _ ?_ ?_) | (refine Steady.foldl_fst _ _ ?_ ?_) | intro _ | apply_assumption)

@[simp] theorem State.writeTest_steady {s₀ s : State} (po : Nat) (v : Word)
    (hs : Steady s₀ s) : Steady s₀ (s.writeTest po v) := by
  unfold State.writeTest
  simp +contextual (maxDischargeDepth := 30) [*]

@[simp] theorem State.modCnt_steady {s₀ s : State} (f : CntSt → CntSt) (hs : Steady s₀ s) : Steady s₀ (s.modCnt f) := by
  unfold State.modCnt
  simp +contextual (maxDischargeDepth := 30) [*]

@[simp] theorem State.skipDump_steady {s₀ s : State} (ctr detail : Nat)
    (hs : Steady s₀ s) : Steady s₀ (s.skipDump ctr detail) := by
  unfold State.skipDump
  simp +contextual (maxDischargeDepth := 30) [*]

@[simp] theorem State.captureNow_steady {s₀ s : State} (hs : Steady s₀ s) : Steady s₀ s.captureNow := by
  unfold State.captureNow
  simp +contextual (maxDischargeDepth := 30) [*]

@[simp] theorem State.putWord_steady {s₀ s : State} (a : Nat) (w : Word) (hs : Steady s₀ s) : Steady s₀ (s.putWord a w) := by
  unfold State.putWord
  simp +contextual (maxDischargeDepth := 30) [*]

@[simp] theorem State.writeDump_steady {s₀ s : State} (c : Capture) (hs : Steady s₀ s) : Steady s₀ (s.writeDump c) := by
  unfold State.writeDump
  simp +contextual (maxDischargeDepth := 30) [*]

@[simp] theorem State.takeDump_steady {s₀ s : State} (hs : Steady s₀ s) : Steady s₀ s.takeDump := by
  unfold State.takeDump
  simp +contextual (maxDischargeDepth := 30) [*]

@[simp] theorem State.writeDumpHead_steady {s₀ s : State} (v : Word) (hs : Steady s₀ s) : Steady s₀ (s.writeDumpHead v) := by
  unfold State.writeDumpHead
  simp +contextual (maxDischargeDepth := 30) [*]

@[simp] theorem State.cntEnable_steady {s₀ s : State} (on : Bool) (hs : Steady s₀ s) : Steady s₀ (s.cntEnable on) := by
  unfold State.cntEnable
  repeat' (first | dsimp only | (simp +contextual (maxDischargeDepth := 30) [*]; done) | split |
    (refine Steady.foldl _ _ ?_ ?_) | (refine Steady.foldl_fst _ _ ?_ ?_) | intro _ | apply_assumption)

@[simp] theorem State.clearHist_steady {s₀ s : State} (n : Nat) (hs : Steady s₀ s) : Steady s₀ (s.clearHist n) := by
  unfold State.clearHist
  simp +contextual (maxDischargeDepth := 30) [*]

@[simp] theorem State.clearGroup_steady {s₀ s : State} (g : Nat) (hs : Steady s₀ s) : Steady s₀ (s.clearGroup g) := by
  unfold State.clearGroup
  simp +contextual (maxDischargeDepth := 30) [*]

@[simp] theorem State.writeHistCtrl_steady {s₀ s : State} (g : Nat) (v : Word)
    (hs : Steady s₀ s) : Steady s₀ (s.writeHistCtrl g v) := by
  unfold State.writeHistCtrl
  simp +contextual (maxDischargeDepth := 30) [*]

@[simp] theorem State.writeOrigin_steady {s₀ s : State} (g kind : Nat) (v : Word)
    (hs : Steady s₀ s) : Steady s₀ (s.writeOrigin g kind v) := by
  unfold State.writeOrigin
  simp +contextual (maxDischargeDepth := 30) [*]

@[simp] theorem State.clearOther_steady {s₀ s : State} (hs : Steady s₀ s) : Steady s₀ s.clearOther := by
  unfold State.clearOther
  simp +contextual (maxDischargeDepth := 30) [*]

@[simp] theorem State.writeHist_steady {s₀ s : State} (g po : Nat) (v : Word)
    (hs : Steady s₀ s) : Steady s₀ (s.writeHist g po v) := by
  unfold State.writeHist
  simp +contextual (maxDischargeDepth := 30) [*]

@[simp] theorem State.writeCnt_steady {s₀ s : State} (po : Nat) (v : Word) (hs : Steady s₀ s) : Steady s₀ (s.writeCnt po v) := by
  unfold State.writeCnt
  simp +contextual (maxDischargeDepth := 30) [*]

@[simp] theorem State.takeOverflow_steady {s₀ s : State} (h : Nat) (pc : Word)
    (hs : Steady s₀ s) : Steady s₀ (s.takeOverflow h pc) := by
  unfold State.takeOverflow
  simp +contextual (maxDischargeDepth := 30) [*]

@[simp] theorem State.coreOverflow_steady {s₀ s : State} (h ctr : Nat) (masked : Bool) (pc : Word)
    (hs : Steady s₀ s) : Steady s₀ (s.coreOverflow h ctr masked pc) := by
  unfold State.coreOverflow
  simp +contextual (maxDischargeDepth := 30) [*]

end Sys2Proof.Machine
end

