-- ==== Sys2Proof/Laws/FrameSys.lean ====
section
/-! SUPPORT. The operations of cores, management, boot, power, event pins, headers, the register region and memory keep the queue, the features, internal reset and the canonical form of memory. -/

namespace Sys2Proof.Machine

open Sys2Proof

@[simp] theorem State.evalSrc_steady {s₀ s : State} (j : Nat) (hs : Steady s₀ s) : Steady s₀ (s.evalSrc j) := by
  unfold State.evalSrc
  simp +contextual (maxDischargeDepth := 30) [*]

@[simp] theorem State.writeRearm_steady {s₀ s : State} (v : Word) (hs : Steady s₀ s) : Steady s₀ (s.writeRearm v) := by
  unfold State.writeRearm
  simp +contextual (maxDischargeDepth := 30) [*]

@[simp] theorem State.writeRouteSel_steady {s₀ s : State} (v : Word) (hs : Steady s₀ s) : Steady s₀ (s.writeRouteSel v) := by
  unfold State.writeRouteSel
  simp +contextual (maxDischargeDepth := 30) [*]

@[simp] theorem State.writeRoute_steady {s₀ s : State} (v : Word) (hs : Steady s₀ s) : Steady s₀ (s.writeRoute v) := by
  unfold State.writeRoute
  simp +contextual (maxDischargeDepth := 30) [*]

@[simp] theorem State.writeIrqSrc_steady {s₀ s : State} (j : Nat) (v : Word)
    (hs : Steady s₀ s) : Steady s₀ (s.writeIrqSrc j v) := by
  unfold State.writeIrqSrc
  simp +contextual (maxDischargeDepth := 30) [*]

@[simp] theorem State.hartStart_steady {s₀ s : State} (mask : Nat) (hs : Steady s₀ s) : Steady s₀ (s.hartStart mask) := by
  unfold State.hartStart
  repeat' (first | dsimp only | (simp +contextual (maxDischargeDepth := 30) [*]; done) | split |
    (refine Steady.foldl _ _ ?_ ?_) | (refine Steady.foldl_fst _ _ ?_ ?_) | intro _ | apply_assumption)

@[simp] theorem State.timerIrq_steady {s₀ s : State} (h cmp : Nat) (supervisor : Bool)
    (hs : Steady s₀ s) : Steady s₀ (s.timerIrq h cmp supervisor) := by
  unfold State.timerIrq
  simp +contextual (maxDischargeDepth := 30) [*]

@[simp] theorem State.writeEtherType_steady {s₀ s : State} (v : Word) (hs : Steady s₀ s) : Steady s₀ (s.writeEtherType v) := by
  unfold State.writeEtherType
  simp +contextual (maxDischargeDepth := 30) [*]

@[simp] theorem State.writeGlobal_steady {s₀ s : State} (po : Nat) (v : Word)
    (hs : Steady s₀ s) : Steady s₀ (s.writeGlobal po v) := by
  unfold State.writeGlobal
  simp +contextual (maxDischargeDepth := 30) [*]

@[simp] theorem State.modMgmt_steady {s₀ s : State} (f : MgmtSt → MgmtSt) (hs : Steady s₀ s) : Steady s₀ (s.modMgmt f) := by
  unfold State.modMgmt
  simp +contextual (maxDischargeDepth := 30) [*]

@[simp] theorem State.mgRead_steady {s₀ s : State} (a : Nat) (hs : Steady s₀ s) : Steady s₀ (s.mgRead a).1 := by
  unfold State.mgRead
  simp +contextual (maxDischargeDepth := 30) [*]

@[simp] theorem State.mgReturn_steady {s₀ s : State} (a : Nat) (d : Word × Word) (status : Nat) (rxLen : Option Nat) (cause : Nat)
    (hs : Steady s₀ s) : Steady s₀ (s.mgReturn a d status rxLen cause) := by
  unfold State.mgReturn
  simp +contextual (maxDischargeDepth := 30) [*]

@[simp] theorem State.txPoll_steady {s₀ s : State} (hs : Steady s₀ s) : Steady s₀ s.txPoll := by
  unfold State.txPoll
  simp +contextual (maxDischargeDepth := 30) [*]

@[simp] theorem State.txSend_steady {s₀ s : State} (hs : Steady s₀ s) : Steady s₀ s.txSend := by
  unfold State.txSend
  simp +contextual (maxDischargeDepth := 30) [*]

@[simp] theorem State.writeTxCtrl_steady {s₀ s : State} (v : Word) (hs : Steady s₀ s) : Steady s₀ (s.writeTxCtrl v) := by
  unfold State.writeTxCtrl
  simp +contextual (maxDischargeDepth := 30) [*]

@[simp] theorem State.rxPut_steady {s₀ s : State} (d : Word × Word) (f : List Byte)
    (hs : Steady s₀ s) : Steady s₀ (s.rxPut d f).1 := by
  unfold State.rxPut
  simp +contextual (maxDischargeDepth := 30) [*]

@[simp] theorem State.rxDrain_steady (n : Nat) {s₀ s : State} (hs : Steady s₀ s) : Steady s₀ (State.rxDrain n s) := by
  induction n generalizing s with
  | zero => exact hs
  | succ n ih =>
    unfold State.rxDrain
    split
    · exact hs
    · rename_i f rest _
      have hm := State.mgRead_steady s.rxDesc hs
      have hp := State.rxPut_steady (s.mgRead s.rxDesc).2 f hm
      dsimp only
      split
      · split
        · rename_i t h
          rw [h] at hp
          exact ih (State.modMgmt_steady _ hp)
        · rename_i t h
          rw [h] at hp
          exact ih hp
      · exact hm

@[simp] theorem State.rxPoll_steady {s₀ s : State} (hs : Steady s₀ s) : Steady s₀ s.rxPoll := by
  unfold State.rxPoll
  simp +contextual (maxDischargeDepth := 30) [*]

@[simp] theorem State.writeRxCtrl_steady {s₀ s : State} (v : Word) (hs : Steady s₀ s) : Steady s₀ (s.writeRxCtrl v) := by
  unfold State.writeRxCtrl
  simp +contextual (maxDischargeDepth := 30) [*]

@[simp] theorem State.mgReceive_steady {s₀ s : State} (f : MgmtFrame) (hs : Steady s₀ s) : Steady s₀ (s.mgReceive f) := by
  unfold State.mgReceive
  simp +contextual (maxDischargeDepth := 30) [*]

@[simp] theorem State.mgmtEnable_steady {s₀ s : State} (on : Bool) (hs : Steady s₀ s) : Steady s₀ (s.mgmtEnable on) := by
  unfold State.mgmtEnable
  simp +contextual (maxDischargeDepth := 30) [*]

@[simp] theorem State.writeMac_steady {s₀ s : State} (po : Nat) (v : Word) (hs : Steady s₀ s) : Steady s₀ (s.writeMac po v) := by
  unfold State.writeMac
  simp +contextual (maxDischargeDepth := 30) [*]

@[simp] theorem State.modSec_steady {s₀ s : State} (f : SecSt → SecSt) (hs : Steady s₀ s) : Steady s₀ (s.modSec f) := by
  unfold State.modSec
  simp +contextual (maxDischargeDepth := 30) [*]

@[simp] theorem State.trySlot_steady {s₀ s : State} (f : FlashSlot) (hs : Steady s₀ s) : Steady s₀ (s.trySlot f) := by
  unfold State.trySlot
  simp +contextual (maxDischargeDepth := 30) [*]

@[simp] theorem State.startSlot_steady {s₀ s : State} (n : Nat) (f : FlashSlot)
    (hs : Steady s₀ s) : Steady s₀ (s.startSlot n f) := by
  unfold State.startSlot
  simp +contextual (maxDischargeDepth := 30) [*]

@[simp] theorem State.writeFuse_steady {s₀ s : State} (v : Word) (hs : Steady s₀ s) : Steady s₀ (s.writeFuse v) := by
  unfold State.writeFuse
  repeat' (first | dsimp only | (simp +contextual (maxDischargeDepth := 30) [*]; done) | split |
    (refine Steady.foldl _ _ ?_ ?_) | (refine Steady.foldl_fst _ _ ?_ ?_) | intro _ | apply_assumption)

@[simp] theorem State.fuseWrite_steady {s₀ s : State} (op k n : Nat) (hs : Steady s₀ s) : Steady s₀ (s.fuseWrite op k n) := by
  unfold State.fuseWrite
  simp +contextual (maxDischargeDepth := 30) [*]

@[simp] theorem State.writeSec_steady {s₀ s : State} (po : Nat) (v : Word) (hs : Steady s₀ s) : Steady s₀ (s.writeSec po v) := by
  unfold State.writeSec
  simp +contextual (maxDischargeDepth := 30) [*]

@[simp] theorem State.modPwr_steady {s₀ s : State} (f : PwrSt → PwrSt)
    (hs : Steady s₀ s) (hf : ∀ p, (f p).held = p.held) : Steady s₀ (s.modPwr f) := by
  unfold State.modPwr
  simp +contextual (maxDischargeDepth := 30) [*]

@[simp] theorem State.alertOn_steady {s₀ s : State} (hs : Steady s₀ s) : Steady s₀ s.alertOn := by
  unfold State.alertOn
  simp +contextual (maxDischargeDepth := 30) [*]

@[simp] theorem State.writeTrain_steady {s₀ s : State} (v : Word) (hs : Steady s₀ s) : Steady s₀ (s.writeTrain v) := by
  unfold State.writeTrain
  simp +contextual (maxDischargeDepth := 30) [*]

@[simp] theorem State.thermalSample_steady {s₀ s : State} (ts : List Int) (hs : Steady s₀ s) :
    Steady s₀ (s.thermalSample ts) := by
  have h1 : Steady s₀ ((if s.pwr.stage = 0 then s else s.countN .pwr 0 R.PWR_THROTTLE_US 100).modPwr fun p =>
      { p with temps := ts, hottest := hottest ts, stage := nextStage s.pwr.stage (nth ts (hottest ts) 0) }) :=
    State.modPwr_steady _ (.ite hs (State.countN_steady _ _ _ _ hs)) fun _ => rfl
  have h2 := Steady.ite (c := s.pwr.stage = nextStage s.pwr.stage (nth ts (hottest ts) 0)) h1 (State.cause_steady .pwr 0 16 h1)
  exact .ite (State.raise_steady _ _ _ (State.count_steady _ _ _ h2)) h2

@[simp] theorem State.writePwr_steady {s₀ s : State} (po : Nat) (v : Word) (hs : Steady s₀ s) : Steady s₀ (s.writePwr po v) := by
  unfold State.writePwr
  simp +contextual (maxDischargeDepth := 30) [*]

@[simp] theorem State.nack_steady {s₀ s : State} (hs : Steady s₀ s) : Steady s₀ s.nack := by
  unfold State.nack
  simp +contextual (maxDischargeDepth := 30) [*]

@[simp] theorem State.pmb_steady {s₀ s : State} (x : Smb) (f : State → State)
    (hs : Steady s₀ s) (hf : ∀ u, Steady s₀ u → Steady s₀ (f u)) : Steady s₀ (s.pmb x f) := by
  unfold State.pmb
  simp +contextual (maxDischargeDepth := 30) [*]

@[simp] theorem State.pmbWrite_steady {s₀ s : State} (x : Smb) (code : Nat) (data : List Nat) (f : State → State)
    (hs : Steady s₀ s) (hf : ∀ u, Steady s₀ u → Steady s₀ (f u)) : Steady s₀ (s.pmbWrite x code data f) := by
  unfold State.pmbWrite
  simp +contextual (maxDischargeDepth := 30) [*]

@[simp] theorem State.ack_steady {s₀ s : State} (x : Smb) (code n v : Nat) (hs : Steady s₀ s) : Steady s₀ (s.ack x code n v) := by
  unfold State.ack
  simp +contextual (maxDischargeDepth := 30) [*]

@[simp] theorem State.accept_steady {s₀ s : State} (hs : Steady s₀ s) : Steady s₀ s.accept := by
  unfold State.accept
  simp +contextual (maxDischargeDepth := 30) [*]

@[simp] theorem State.onRail_steady {s₀ s : State} (f : Nat → State)
    (hs : Steady s₀ s) (hf : ∀ n, Steady s₀ (f n)) : Steady s₀ (s.onRail f) := by
  unfold State.onRail
  simp +contextual (maxDischargeDepth := 30) [*]

@[simp] theorem State.writeStream_steady {s₀ s : State} (po : Nat) (v : Word)
    (hs : Steady s₀ s) : Steady s₀ (s.writeStream po v) := by
  unfold State.writeStream
  simp +contextual (maxDischargeDepth := 30) [*]

@[simp] theorem State.writeEvt_steady {s₀ s : State} (po : Nat) (v : Word) (hs : Steady s₀ s) : Steady s₀ (s.writeEvt po v) := by
  unfold State.writeEvt
  simp +contextual (maxDischargeDepth := 30) [*]

@[simp] theorem State.genPayload_steady {s₀ s : State} (w : Word) (delay : Nat) (x : GenPulse)
    (hs : Steady s₀ s) : Steady s₀ (s.genPayload w delay x).1 := by
  unfold State.genPayload
  repeat' (first | dsimp only | (simp +contextual (maxDischargeDepth := 30) [*]; done) | split |
    (refine Steady.foldl _ _ ?_ ?_) | (refine Steady.foldl_fst _ _ ?_ ?_) | intro _ | apply_assumption)

@[simp] theorem State.hdrGuard_steady {s₀ s : State} (k : PageKind) (i po : Nat) (f : State → State)
    (hs : Steady s₀ s) (hf : ∀ u, Steady s₀ u → Steady s₀ (f u)) : Steady s₀ (s.hdrGuard k i po f) := by
  unfold State.hdrGuard
  simp +contextual (maxDischargeDepth := 30) [*]

@[simp] theorem State.hdrEnable_steady {s₀ s : State} (k : PageKind) (i : Nat) (on : Bool)
    (hs : Steady s₀ s) : Steady s₀ (s.hdrEnable k i on) := by
  unfold State.hdrEnable
  simp +contextual (maxDischargeDepth := 30) [*]

@[simp] theorem State.moverEnable_steady {s₀ s : State} (on : Bool) (hs : Steady s₀ s) : Steady s₀ (s.moverEnable on) := by
  unfold State.moverEnable
  simp +contextual (maxDischargeDepth := 30) [*]

@[simp] theorem State.setEnable_steady {s₀ s : State} (k : PageKind) (i : Nat) (on : Bool)
    (hs : Steady s₀ s) : Steady s₀ (s.setEnable k i on) := by
  unfold State.setEnable
  repeat' (first | dsimp only | (simp +contextual (maxDischargeDepth := 30) [*]; done) | split |
    (refine Steady.foldl _ _ ?_ ?_) | (refine Steady.foldl_fst _ _ ?_ ?_) | intro _ | apply_assumption)

@[simp] theorem State.resetRegs_steady {s₀ s : State} (k : PageKind) (i : Nat)
    (hs : Steady s₀ s) : Steady s₀ (s.resetRegs k i) := by
  unfold State.resetRegs
  simp +contextual (maxDischargeDepth := 30) [*]

@[simp] theorem State.resetEvt_steady {s₀ s : State} (hs : Steady s₀ s) : Steady s₀ s.resetEvt := by
  unfold State.resetEvt
  simp +contextual (maxDischargeDepth := 30) [*]

@[simp] theorem State.resetTime_steady {s₀ s : State} (hs : Steady s₀ s) : Steady s₀ s.resetTime := by
  unfold State.resetTime
  simp +contextual (maxDischargeDepth := 30) [*]

@[simp] theorem State.resetCodec_steady {s₀ s : State} (hs : Steady s₀ s) : Steady s₀ s.resetCodec := by
  unfold State.resetCodec
  simp +contextual (maxDischargeDepth := 30) [*]

@[simp] theorem State.resetLz_steady {s₀ s : State} (hs : Steady s₀ s) : Steady s₀ s.resetLz := by
  unfold State.resetLz
  simp +contextual (maxDischargeDepth := 30) [*]

@[simp] theorem State.resetMover_steady {s₀ s : State} (hs : Steady s₀ s) : Steady s₀ s.resetMover := by
  unfold State.resetMover
  simp +contextual (maxDischargeDepth := 30) [*]

@[simp] theorem State.resetXfer_steady {s₀ s : State} (hs : Steady s₀ s) : Steady s₀ s.resetXfer := by
  unfold State.resetXfer
  simp +contextual (maxDischargeDepth := 30) [*]

@[simp] theorem State.resetPort_steady {s₀ s : State} (p : Nat) (hs : Steady s₀ s) : Steady s₀ (s.resetPort p) := by
  unfold State.resetPort
  simp +contextual (maxDischargeDepth := 30) [*]

@[simp] theorem State.clearCause_steady {s₀ s : State} (k : PageKind) (i : Nat) (mask raised : BitVec 32)
    (hs : Steady s₀ s) : Steady s₀ (s.clearCause k i mask raised) :=
  State.modHdr_steady _ _ _ hs

@[simp] theorem State.causeGuard_steady {s₀ s : State} (k : PageKind) (i : Nat) (f : State → State)
    (hs : Steady s₀ s) (hf : ∀ u, Steady s₀ u → Steady s₀ (f u)) : Steady s₀ (s.causeGuard k i f) := by
  unfold State.causeGuard
  simp +contextual (maxDischargeDepth := 30) [*]

@[simp] theorem State.setPending_steady {s₀ s : State} (k : PageKind) (i : Nat)
    (hs : Steady s₀ s) : Steady s₀ (s.setPending k i) := by
  unfold State.setPending
  simp +contextual (maxDischargeDepth := 30) [*]

@[simp] theorem State.commitPage_steady {s₀ s : State} (k : PageKind) (i : Nat)
    (hs : Steady s₀ s) : Steady s₀ (s.commitPage k i) := by
  unfold State.commitPage
  repeat' (first | dsimp only | (simp +contextual (maxDischargeDepth := 30) [*]; done) | split |
    (refine Steady.foldl _ _ ?_ ?_) | (refine Steady.foldl_fst _ _ ?_ ?_) | intro _ | apply_assumption)

@[simp] theorem State.discardPage_steady {s₀ s : State} (k : PageKind) (i : Nat)
    (hs : Steady s₀ s) : Steady s₀ (s.discardPage k i) := by
  unfold State.discardPage
  repeat' (first | dsimp only | (simp +contextual (maxDischargeDepth := 30) [*]; done) | split |
    (refine Steady.foldl _ _ ?_ ?_) | (refine Steady.foldl_fst _ _ ?_ ?_) | intro _ | apply_assumption)

@[simp] theorem State.writeShadowCtrl_steady {s₀ s : State} (k : PageKind) (i : Nat) (v : Word)
    (hs : Steady s₀ s) : Steady s₀ (s.writeShadowCtrl k i v) := by
  unfold State.writeShadowCtrl
  simp +contextual (maxDischargeDepth := 30) [*]

@[simp] theorem State.applyPage_steady {s₀ s : State} (k : PageKind) (i : Nat)
    (hs : Steady s₀ s) : Steady s₀ (s.applyPage k i) := by
  unfold State.applyPage
  simp +contextual (maxDischargeDepth := 30) [*]

@[simp] theorem State.takeSnap_steady {s₀ s : State} (k : PageKind) (i : Nat)
    (hs : Steady s₀ s) : Steady s₀ (s.takeSnap k i) := by
  unfold State.takeSnap
  simp +contextual (maxDischargeDepth := 30) [*]

@[simp] theorem State.readReg_steady {s₀ s : State} (k : PageKind) (i po : Nat) (r : RegRow)
    (hs : Steady s₀ s) : Steady s₀ (s.readReg k i po r).1 := by
  unfold State.readReg
  repeat' (first | dsimp only | (simp +contextual (maxDischargeDepth := 30) [*]; done) | split |
    (refine Steady.foldl _ _ ?_ ?_) | (refine Steady.foldl_fst _ _ ?_ ?_) | intro _ | apply_assumption)

@[simp] theorem State.writeTimeReg_steady {s₀ s : State} (po : Nat) (v : Word)
    (hs : Steady s₀ s) : Steady s₀ (s.writeTimeReg po v) := by
  unfold State.writeTimeReg
  simp +contextual (maxDischargeDepth := 30) [*]

@[simp] theorem State.writeCycleReg_steady {s₀ s : State} (po : Nat) (v : Word)
    (hs : Steady s₀ s) : Steady s₀ (s.writeCycleReg po v) := by
  unfold State.writeCycleReg
  simp +contextual (maxDischargeDepth := 30) [*]

@[simp] theorem State.writeLzReg_steady {s₀ s : State} (po : Nat) (v : Word)
    (hs : Steady s₀ s) : Steady s₀ (s.writeLzReg po v) := by
  unfold State.writeLzReg
  simp +contextual (maxDischargeDepth := 30) [*]

@[simp] theorem State.writeTraceReg_steady {s₀ s : State} (po : Nat) (v : Word)
    (hs : Steady s₀ s) : Steady s₀ (s.writeTraceReg po v) := by
  unfold State.writeTraceReg
  simp +contextual (maxDischargeDepth := 30) [*]

@[simp] theorem State.writeAlarmReg_steady {s₀ s : State} (po : Nat) (v : Word)
    (hs : Steady s₀ s) : Steady s₀ (s.writeAlarmReg po v) := by
  unfold State.writeAlarmReg
  simp +contextual (maxDischargeDepth := 30) [*]

@[simp] theorem State.writeFaultReg_steady {s₀ s : State} (po : Nat) (v : Word)
    (hs : Steady s₀ s) : Steady s₀ (s.writeFaultReg po v) := by
  unfold State.writeFaultReg
  simp +contextual (maxDischargeDepth := 30) [*]

@[simp] theorem State.writeMgmtReg_steady {s₀ s : State} (po : Nat) (v : Word)
    (hs : Steady s₀ s) : Steady s₀ (s.writeMgmtReg po v) := by
  unfold State.writeMgmtReg
  simp +contextual (maxDischargeDepth := 30) [*]

@[simp] theorem State.writePortReg_steady {s₀ s : State} (p po : Nat) (v : Word)
    (hs : Steady s₀ s) : Steady s₀ (s.writePortReg p po v) := by
  unfold State.writePortReg
  simp +contextual (maxDischargeDepth := 30) [*]

@[simp] theorem State.writeBlock_steady {s₀ s : State} (k : PageKind) (i po : Nat) (v : Word)
    (hs : Steady s₀ s) : Steady s₀ (s.writeBlock k i po v) := by
  unfold State.writeBlock
  repeat' (first | dsimp only | (simp +contextual (maxDischargeDepth := 30) [*]; done) | split |
    (refine Steady.foldl _ _ ?_ ?_) | (refine Steady.foldl_fst _ _ ?_ ?_) | intro _ | apply_assumption)

@[simp] theorem State.writeRow_steady {s₀ s : State} (k : PageKind) (i po : Nat) (r : RegRow) (v : Word)
    (hs : Steady s₀ s) : Steady s₀ (s.writeRow k i po r v) := by
  unfold State.writeRow
  repeat' (first | dsimp only | (simp +contextual (maxDischargeDepth := 30) [*]; done) | split |
    (refine Steady.foldl _ _ ?_ ?_) | (refine Steady.foldl_fst _ _ ?_ ?_) | intro _ | apply_assumption)

@[simp] theorem State.readPage_steady {s₀ s : State} (k : PageKind) (i po : Nat)
    (hs : Steady s₀ s) : Steady s₀ (s.readPage k i po).1 := by
  unfold State.readPage
  repeat' (first | dsimp only | (simp +contextual (maxDischargeDepth := 30) [*]; done) | split |
    (refine Steady.foldl _ _ ?_ ?_) | (refine Steady.foldl_fst _ _ ?_ ?_) | intro _ | apply_assumption)

@[simp] theorem State.bellAccess_steady {s₀ s : State} (off width : Nat) (data : Option Word)
    (hs : Steady s₀ s) : Steady s₀ (s.bellAccess off width data).1 := by
  unfold State.bellAccess
  repeat' (first | dsimp only | (simp +contextual (maxDischargeDepth := 30) [*]; done) | split |
    (refine Steady.foldl _ _ ?_ ?_) | (refine Steady.foldl_fst _ _ ?_ ?_) | intro _ | apply_assumption)

@[simp] theorem State.sqAccess_steady {s₀ s : State} (off width : Nat) (data : Option Word)
    (hs : Steady s₀ s) : Steady s₀ (s.sqAccess off width data).1 := by
  unfold State.sqAccess
  repeat' (first | dsimp only | (simp +contextual (maxDischargeDepth := 30) [*]; done) | split |
    (refine Steady.foldl _ _ ?_ ?_) | (refine Steady.foldl_fst _ _ ?_ ?_) | intro _ | apply_assumption)

@[simp] theorem State.cqAccess_steady {s₀ s : State} (off width : Nat) (data : Option Word)
    (hs : Steady s₀ s) : Steady s₀ (s.cqAccess off width data).1 := by
  unfold State.cqAccess
  repeat' (first | dsimp only | (simp +contextual (maxDischargeDepth := 30) [*]; done) | split |
    (refine Steady.foldl _ _ ?_ ?_) | (refine Steady.foldl_fst _ _ ?_ ?_) | intro _ | apply_assumption)

@[simp] theorem State.tableAccess_steady {s₀ s : State} (off width : Nat) (data : Option Word)
    (hs : Steady s₀ s) : Steady s₀ (s.tableAccess off width data).1 := by
  unfold State.tableAccess
  repeat' (first | dsimp only | (simp +contextual (maxDischargeDepth := 30) [*]; done) | split |
    (refine Steady.foldl _ _ ?_ ?_) | (refine Steady.foldl_fst _ _ ?_ ?_) | intro _ | apply_assumption)

@[simp] theorem State.coreFault_steady {s₀ s : State} (core : Nat) (hs : Steady s₀ s) : Steady s₀ (s.coreFault core) := by
  unfold State.coreFault
  simp +contextual (maxDischargeDepth := 30) [*]

@[simp] theorem State.coreRead_steady {s₀ s : State} (core a n : Nat) (f : State → Nat → State)
    (hs : Steady s₀ s) (hf : ∀ u v, Steady s₀ u → Steady s₀ (f u v)) : Steady s₀ (s.coreRead core a n f) :=
  .ite (State.coreFault_steady _ (State.eccRead_steady _ _ hs)) (hf _ _ (State.eccRead_steady _ _ hs))

@[simp] theorem State.dropResv_steady {s₀ s : State} (core : Nat) (hs : Steady s₀ s) : Steady s₀ (s.dropResv core) := by
  unfold State.dropResv
  simp +contextual (maxDischargeDepth := 30) [*]

@[simp] theorem State.coreMem_steady {s₀ s : State} (core a n : Nat) (op : MemOp) (hs : Steady s₀ s) :
    Steady s₀ (s.coreMem core a n op) := by
  have h1 := State.coreFault_steady core hs
  unfold State.coreMem
  split
  · exact State.coreRead_steady _ _ _ _ hs fun u v hu => State.out_steady _ hu
  · exact State.store_steady _ _ hs
  · exact State.coreRead_steady _ _ _ _ hs fun u v hu => State.out_steady _ (State.store_steady _ _ hu)
  · exact .ite h1 (State.coreRead_steady _ _ _ _ hs fun u v hu => State.out_steady _ (Steady.update rfl hu))
  · exact .ite h1 (.ite (State.out_steady _ (State.dropResv_steady _ (State.store_steady _ _ hs)))
      (State.out_steady _ (State.dropResv_steady _ hs)))

end Sys2Proof.Machine
end

