-- ==== Sys2Proof/Laws/FrameReset.lean ====
section
/-! SUPPORT. What the resets, the feature lock and the writes that can cause them keep: the queue, the canonical form of memory, and,
once the features are locked, the features, unless internal reset is asserted. -/

namespace Sys2Proof.Machine

open Sys2Proof

/-- The features are accepted, and internal reset is not held. -/
def State.agreed (s : State) : Prop := s.pwr.held = false ∧ s.featLock = true ∧ s.featOk = true

/-- `t` has the queue of `s`, memory in canonical form if `s` has, and, if the features of `s` are accepted, either stands in internal
reset or has the features of `s`. -/
structure Kept (s t : State) : Prop where
  pending : t.pending = s.pending
  mem : Memory.wf s.mem = true → Memory.wf t.mem = true
  feats : s.agreed → t.pwr.held = true ∨
    (t.featAcc = s.featAcc ∧ t.featLock = s.featLock ∧ t.featOk = s.featOk ∧ t.pwr.held = s.pwr.held)

theorem Steady.kept {s t : State} (h : Steady s t) : Kept s t :=
  ⟨h.pending, h.mem, fun _ => .inr ⟨h.featAcc, h.featLock, h.featOk, h.held⟩⟩

theorem Kept.refl (s : State) : Kept s s := (Steady.refl s).kept

/-- An operation that keeps everything may follow. -/
theorem Kept.steady {s t u : State} (h : Kept s t) (g : Steady t u) : Kept s u :=
  ⟨g.pending.trans h.pending, fun x => g.mem (h.mem x), fun x => (h.feats x).imp g.held.trans fun y =>
    ⟨g.featAcc.trans y.1, g.featLock.trans y.2.1, g.featOk.trans y.2.2.1, g.held.trans y.2.2.2⟩⟩

theorem Kept.ite {s a b : State} {c : Prop} [Decidable c] (ha : Kept s a) (hb : Kept s b) : Kept s (if c then a else b) := by
  split <;> assumption

/-- Asserting internal reset keeps the queue and the canonical form of memory. -/
theorem State.assertReset_kept {s₀ s : State} (h : Kept s₀ s) : Kept s₀ s.assertReset :=
  ⟨h.pending, fun x => Memory.wf_filter _ _ (h.mem x), fun _ => .inl rfl⟩

theorem State.resetFor_kept {s₀ s : State} (n : Nat) (h : Kept s₀ s) : Kept s₀ (s.resetFor n) :=
  State.assertReset_kept (h.steady (State.modPwr_steady _ (Steady.refl _) fun _ => rfl))

theorem State.deviceReset_kept {s₀ s : State} (h : Kept s₀ s) : Kept s₀ s.deviceReset :=
  .ite h ((State.resetFor_kept 2 h).steady (State.modPwr_steady _ (Steady.refl _) fun _ => rfl))

theorem State.railsOff_kept {s₀ s : State} (next : SeqState) (keep : Nat) (h : Kept s₀ s) : Kept s₀ (s.railsOff next keep) :=
  (State.assertReset_kept h).steady (Steady.update rfl (Steady.refl _))

theorem State.alertOn_kept {s₀ s : State} (h : Kept s₀ s) : Kept s₀ s.alertOn := h.steady (State.alertOn_steady (Steady.refl s))

theorem State.railFail_kept {s₀ s : State} (rail : Nat) (h : Kept s₀ s) : Kept s₀ (s.railFail rail) :=
  State.alertOn_kept ((State.railsOff_kept _ _ h).steady (State.modPwr_steady _ (Steady.refl _) fun _ => rfl))

theorem State.turnOff_kept {s₀ s : State} (h : Kept s₀ s) : Kept s₀ s.turnOff := State.railsOff_kept _ _ h

/-! The feature registers (R33, R34). -/

theorem State.resetGlobal_kept {s₀ s : State} (h : Kept s₀ s) : Kept s₀ s.resetGlobal := by
  refine ⟨h.pending, h.mem, fun x => (h.feats x).imp id fun y => ⟨?_, y.2.1, y.2.2.1, y.2.2.2⟩⟩
  simp [State.resetGlobal, y.2.1, x.2.1, y.1]

theorem State.lockFeatures_kept {s₀ s : State} (h : Kept s₀ s) : Kept s₀ s.lockFeatures := by
  by_cases hl : s.featLock = true
  · simpa [State.lockFeatures, hl] using h
  · have e := fun code detail => h.steady (State.err_steady .global 0 code detail 0 (Steady.refl s))
    unfold State.lockFeatures
    rw [if_neg hl]
    split
    · exact e _ _
    · split
      · exact ⟨h.pending, h.mem, fun x => (h.feats x).imp id fun y => absurd (y.2.1.trans x.2.1) hl⟩
      · exact e _ _

theorem State.writeFeatAcc_kept {s₀ s : State} (v : Word) (h : Kept s₀ s) : Kept s₀ (s.writeFeatAcc v) := by
  by_cases hl : s.featLock = true
  · simpa [State.writeFeatAcc, hl] using h.steady (State.err_steady .global 0 errFeatLocked 0 0 (Steady.refl s))
  · unfold State.writeFeatAcc
    rw [if_neg hl]
    exact ⟨h.pending, h.mem, fun x => (h.feats x).imp id fun y => absurd (y.2.1.trans x.2.1) hl⟩

/-! Writes of CTRL, and accesses to the register region. -/

theorem State.resetBlock_kept {s₀ s : State} (k : PageKind) (i : Nat) (h : Kept s₀ s) : Kept s₀ (s.resetBlock k i) := by
  have r := Steady.refl s
  unfold State.resetBlock
  cases k <;> dsimp only
  case global => exact State.resetGlobal_kept h
  case time => exact h.steady (State.resetTime_steady r)
  case xfer => exact h.steady (State.resetXfer_steady r)
  case lz => exact h.steady (State.resetLz_steady r)
  case codec => exact h.steady (State.resetCodec_steady r)
  case mover => exact h.steady (State.resetMover_steady r)
  case evt => exact h.steady (State.resetEvt_steady r)
  case cnt => exact h.steady (State.cntEnable_steady _ r)
  case trace => exact h.steady (State.traceEnable_steady _ r)
  case fault => exact h.steady (State.faultEnable_steady _ r)
  case mgmt => exact h.steady (State.setPps_steady _ (State.mgmtEnable_steady _ r))
  case pgrp => exact h.steady (State.xferEn_steady _ _ r)
  case port => exact h.steady (State.resetPort_steady _ r)
  all_goals exact h

theorem State.blockReset_kept {s₀ s : State} (k : PageKind) (i : Nat) (h : Kept s₀ s) : Kept s₀ (s.blockReset k i) :=
  (State.resetBlock_kept k i h).steady (State.modHdr_steady _ _ _ (State.resetRegs_steady _ _ (Steady.refl _)))

theorem State.writeCtrl_kept {s₀ s : State} (k : PageKind) (i : Nat) (v : Word) (h : Kept s₀ s) : Kept s₀ (s.writeCtrl k i v) := by
  have h1 := (Kept.ite (c := bit v 1 = true) (State.blockReset_kept k i h) h).steady
    (State.setEnable_steady k i (bit v 0) (Steady.refl _))
  have h2 := Kept.ite (c := bit v 16 = true) (State.lockFeatures_kept h1) h1
  exact .ite (.ite (State.deviceReset_kept h2) h2) h1

/-- A write that passes the common checks keeps what its action keeps. -/
theorem State.guarded_kept {s₀ s : State} (k : PageKind) (i po : Nat) (acc : Acc) (feat : Nat) (f : State → State)
    (h : Kept s₀ s) (hf : ∀ u, Kept s₀ u → Kept s₀ (f u)) : Kept s₀ (s.guarded k i po acc feat f) := by
  unfold State.guarded
  have e := fun k i code detail po => h.steady (State.err_steady k i code detail po (Steady.refl s))
  repeat' split
  all_goals first | exact h | exact hf _ h | exact e _ _ _ _ _

theorem State.causeGuard_kept {s₀ s : State} (k : PageKind) (i : Nat) (f : State → State) (h : Kept s₀ s)
    (hf : ∀ u, Kept s₀ u → Kept s₀ (f u)) : Kept s₀ (s.causeGuard k i f) := by
  unfold State.causeGuard
  have e := fun k i code detail po => h.steady (State.err_steady k i code detail po (Steady.refl s))
  repeat' split
  all_goals first | exact h | exact hf _ h | exact e _ _ _ _ _

theorem State.writeHdr_kept {s₀ s : State} (k : PageKind) (i po : Nat) (v : Word) (h : Kept s₀ s) :
    Kept s₀ (s.writeHdr k i po v) := by
  unfold State.writeHdr
  split
  · exact .ite (State.guarded_kept _ _ _ _ _ _ h fun u hu => State.writeFeatAcc_kept _ hu)
      (h.steady (State.roWrite_steady _ _ _ _ (Steady.refl _)))
  · exact State.guarded_kept _ _ _ _ _ _ h fun u hu => State.writeCtrl_kept _ _ _ hu
  · exact State.causeGuard_kept _ _ _ h fun u hu => hu.steady (State.clearCause_steady _ _ _ _ (Steady.refl _))
  · exact State.guarded_kept _ _ _ _ _ _ h fun u hu => hu.steady (State.modHdr_steady _ _ _ (Steady.refl _))
  · exact State.guarded_kept _ _ _ _ _ _ h fun u hu => hu.steady (State.writeShadowCtrl_steady _ _ _ (Steady.refl _))
  · exact State.guarded_kept _ _ _ _ _ _ h fun u hu =>
      hu.steady (.ite (State.takeSnap_steady _ _ (Steady.refl _)) (Steady.refl _))
  · exact h.steady (State.roWrite_steady _ _ _ _ (Steady.refl _))

theorem State.writePage_kept {s₀ s : State} (k : PageKind) (i po : Nat) (v : Word) (h : Kept s₀ s) :
    Kept s₀ (s.writePage k i po v) := by
  unfold State.writePage
  split
  · exact State.writeHdr_kept _ _ _ _ h
  · split
    · exact h.steady (State.writeRow_steady _ _ _ _ _ (Steady.refl _))
    · exact h

theorem State.access_kept {s₀ s : State} (off width : Nat) (data : Option Word) (h : Kept s₀ s) :
    Kept s₀ (s.access off width data).1 := by
  have r := Steady.refl s
  unfold State.access
  repeat' split
  · exact h.steady (State.bellAccess_steady _ _ _ r)
  · exact h.steady (State.sqAccess_steady _ _ _ r)
  · exact h.steady (State.cqAccess_steady _ _ _ r)
  · exact h.steady (State.tableAccess_steady _ _ _ r)
  · unfold State.pageAccess
    repeat' split
    · exact State.writePage_kept _ _ _ _ h
    · exact h.steady (State.readPage_steady _ _ _ r)
    · exact h.steady (State.err_steady _ _ _ _ _ r)
    · exact h
  · exact h.steady (State.err_steady _ _ _ _ _ r)

theorem State.regAccess_kept {s₀ s : State} (a : Access) (h : Kept s₀ s) : Kept s₀ (s.regAccess a) := by
  unfold State.regAccess
  have h1 := State.access_kept a.off a.width a.data h
  split
  · exact h1
  · exact h1.steady (State.out_steady _ (Steady.refl _))

/-- An access of a core keeps what the register region keeps; memory and the boot ROM change nothing of it. -/
theorem State.coreAccess_kept {s₀ s : State} (core a n : Nat) (op : MemOp) (h : Kept s₀ s) : Kept s₀ (s.coreAccess core a n op) := by
  have hf := h.steady (State.coreFault_steady core (Steady.refl s))
  unfold State.coreAccess
  refine .ite (h.steady (State.coreMem_steady _ _ _ _ (Steady.refl s))) (.ite ?_ (.ite ?_ hf))
  · cases op
    case load => exact State.regAccess_kept _ h
    case store v => exact State.regAccess_kept _ h
    all_goals exact hf
  · cases op
    case load => exact h.steady (State.out_steady _ (Steady.refl s))
    all_goals exact hf

end Sys2Proof.Machine
end

