-- ==== Sys2Proof/Laws/Parts.lean ====
section
/-! SUPPORT. The parts of the state that an operation leaves as they are: updates, choices and folds. One lemma per operation, in the
files that import this one, says which parts it touches; a proof over commands cites these and unfolds none of the operations. -/

namespace Sys2Proof.Machine

open Sys2Proof

theorem Part.same_refl (pt : Part) (s : State) : pt.same s s := by cases pt <;> simp [Part.same]

@[simp] theorem Part.same_ite {pt : Part} {s₀ a b : State} {c : Prop} [Decidable c] (ha : pt.same s₀ a) (hb : pt.same s₀ b) :
    pt.same s₀ (if c then a else b) := by
  split <;> assumption

@[simp] theorem Part.same_foldl {α : Type} {pt : Part} {s₀ s : State} (l : List α) (f : State → α → State) (h : pt.same s₀ s)
    (hf : ∀ u x, pt.same s₀ u → pt.same s₀ (f u x)) : pt.same s₀ (l.foldl f s) := by
  induction l generalizing s with
  | nil => exact h
  | cons x l ih => exact ih (hf _ _ h)

@[simp] theorem Part.same_foldl_fst {α β : Type} {pt : Part} {s₀ : State} {s : State × β} (l : List α) (f : State × β → α → State × β)
    (h : pt.same s₀ s.1) (hf : ∀ u x, pt.same s₀ u.1 → pt.same s₀ (f u x).1) : pt.same s₀ (l.foldl f s).1 := by
  induction l generalizing s with
  | nil => exact h
  | cons x l ih => exact ih (hf _ _ h)

@[simp] theorem Part.same_freeCount {pt : Part} {s₀ t : State} {freeCount} (h0 : pt ≠ .frees) (hs : pt.same s₀ t) :
    pt.same s₀ { t with freeCount := freeCount } := by
  cases pt <;> first | exact hs | contradiction

@[simp] theorem Part.same_featAcc {pt : Part} {s₀ t : State} {featAcc} (h0 : pt ≠ .feats) (hs : pt.same s₀ t) :
    pt.same s₀ { t with featAcc := featAcc } := by
  cases pt <;> first | exact hs | contradiction

@[simp] theorem Part.same_featLock {pt : Part} {s₀ t : State} {featLock} (h0 : pt ≠ .feats) (hs : pt.same s₀ t) :
    pt.same s₀ { t with featLock := featLock } := by
  cases pt <;> first | exact hs | contradiction

@[simp] theorem Part.same_featOk {pt : Part} {s₀ t : State} {featOk} (h0 : pt ≠ .feats) (hs : pt.same s₀ t) :
    pt.same s₀ { t with featOk := featOk } := by
  cases pt <;> first | exact hs | contradiction

@[simp] theorem Part.same_instDraw {pt : Part} {s₀ t : State} {instDraw} (h0 : pt ≠ .feats) (hs : pt.same s₀ t) :
    pt.same s₀ { t with instDraw := instDraw } := by
  cases pt <;> first | exact hs | contradiction

@[simp] theorem Part.same_pages {pt : Part} {s₀ t : State} {pages} (h0 : pt ≠ .pages) (hs : pt.same s₀ t) :
    pt.same s₀ { t with pages := pages } := by
  cases pt <;> first | exact hs | contradiction

@[simp] theorem Part.same_regs {pt : Part} {s₀ t : State} {regs} (h0 : pt ≠ .regs) (hs : pt.same s₀ t) :
    pt.same s₀ { t with regs := regs } := by
  cases pt <;> first | exact hs | contradiction

@[simp] theorem Part.same_time {pt : Part} {s₀ t : State} {time} (h0 : pt ≠ .time) (hs : pt.same s₀ t) :
    pt.same s₀ { t with time := time } := by
  cases pt <;> first | exact hs | contradiction

@[simp] theorem Part.same_node {pt : Part} {s₀ t : State} {node} (h0 : pt ≠ .node) (hs : pt.same s₀ t) :
    pt.same s₀ { t with node := node } := by
  cases pt <;> first | exact hs | contradiction

@[simp] theorem Part.same_slate {pt : Part} {s₀ t : State} {slate} (h0 : pt ≠ .slate) (hs : pt.same s₀ t) :
    pt.same s₀ { t with slate := slate } := by
  cases pt <;> first | exact hs | contradiction

@[simp] theorem Part.same_ports {pt : Part} {s₀ t : State} {ports} (h0 : pt ≠ .ports) (hs : pt.same s₀ t) :
    pt.same s₀ { t with ports := ports } := by
  cases pt <;> first | exact hs | contradiction

@[simp] theorem Part.same_groups {pt : Part} {s₀ t : State} {groups} (h0 : pt ≠ .groups) (hs : pt.same s₀ t) :
    pt.same s₀ { t with groups := groups } := by
  cases pt <;> first | exact hs | contradiction

@[simp] theorem Part.same_stream {pt : Part} {s₀ t : State} {stream} (h0 : pt ≠ .stream) (hs : pt.same s₀ t) :
    pt.same s₀ { t with stream := stream } := by
  cases pt <;> first | exact hs | contradiction

@[simp] theorem Part.same_evt {pt : Part} {s₀ t : State} {evt} (h0 : pt ≠ .evt) (hs : pt.same s₀ t) :
    pt.same s₀ { t with evt := evt } := by
  cases pt <;> first | exact hs | contradiction

@[simp] theorem Part.same_hubIn {pt : Part} {s₀ t : State} {hubIn} (h0 : pt ≠ .hubIn) (hs : pt.same s₀ t) :
    pt.same s₀ { t with hubIn := hubIn } := by
  cases pt <;> first | exact hs | contradiction

@[simp] theorem Part.same_mem {pt : Part} {s₀ t : State} {mem} (h0 : pt ≠ .memory) (hs : pt.same s₀ t) :
    pt.same s₀ { t with mem := mem } := by
  cases pt <;> first | exact hs | contradiction

@[simp] theorem Part.same_poison {pt : Part} {s₀ t : State} {poison} (h0 : pt ≠ .memory) (hs : pt.same s₀ t) :
    pt.same s₀ { t with poison := poison } := by
  cases pt <;> first | exact hs | contradiction

@[simp] theorem Part.same_errs {pt : Part} {s₀ t : State} {errs} (h0 : pt ≠ .memory) (hs : pt.same s₀ t) :
    pt.same s₀ { t with errs := errs } := by
  cases pt <;> first | exact hs | contradiction

@[simp] theorem Part.same_resv {pt : Part} {s₀ t : State} {resv} (h0 : pt ≠ .memory) (hs : pt.same s₀ t) :
    pt.same s₀ { t with resv := resv } := by
  cases pt <;> first | exact hs | contradiction

@[simp] theorem Part.same_scrubs {pt : Part} {s₀ t : State} {scrubs} (h0 : pt ≠ .memory) (hs : pt.same s₀ t) :
    pt.same s₀ { t with scrubs := scrubs } := by
  cases pt <;> first | exact hs | contradiction

@[simp] theorem Part.same_sq {pt : Part} {s₀ t : State} {sq} (h0 : pt ≠ .sq) (hs : pt.same s₀ t) :
    pt.same s₀ { t with sq := sq } := by
  cases pt <;> first | exact hs | contradiction

@[simp] theorem Part.same_cq {pt : Part} {s₀ t : State} {cq} (h0 : pt ≠ .cq) (hs : pt.same s₀ t) :
    pt.same s₀ { t with cq := cq } := by
  cases pt <;> first | exact hs | contradiction

@[simp] theorem Part.same_xfer {pt : Part} {s₀ t : State} {xfer} (h0 : pt ≠ .xfer) (hs : pt.same s₀ t) :
    pt.same s₀ { t with xfer := xfer } := by
  cases pt <;> first | exact hs | contradiction

@[simp] theorem Part.same_lz {pt : Part} {s₀ t : State} {lz} (h0 : pt ≠ .lz) (hs : pt.same s₀ t) :
    pt.same s₀ { t with lz := lz } := by
  cases pt <;> first | exact hs | contradiction

@[simp] theorem Part.same_core {pt : Part} {s₀ t : State} {core} (h0 : pt ≠ .core) (hs : pt.same s₀ t) :
    pt.same s₀ { t with core := core } := by
  cases pt <;> first | exact hs | contradiction

@[simp] theorem Part.same_scratch {pt : Part} {s₀ t : State} {scratch} (h0 : pt ≠ .scratch) (hs : pt.same s₀ t) :
    pt.same s₀ { t with scratch := scratch } := by
  cases pt <;> first | exact hs | contradiction

@[simp] theorem Part.same_cnt {pt : Part} {s₀ t : State} {cnt} (h0 : pt ≠ .cnt) (hs : pt.same s₀ t) :
    pt.same s₀ { t with cnt := cnt } := by
  cases pt <;> first | exact hs | contradiction

@[simp] theorem Part.same_trace {pt : Part} {s₀ t : State} {trace} (h0 : pt ≠ .trace) (hs : pt.same s₀ t) :
    pt.same s₀ { t with trace := trace } := by
  cases pt <;> first | exact hs | contradiction

@[simp] theorem Part.same_alarm {pt : Part} {s₀ t : State} {alarm} (h0 : pt ≠ .alarm) (hs : pt.same s₀ t) :
    pt.same s₀ { t with alarm := alarm } := by
  cases pt <;> first | exact hs | contradiction

@[simp] theorem Part.same_fault {pt : Part} {s₀ t : State} {fault} (h0 : pt ≠ .fault) (hs : pt.same s₀ t) :
    pt.same s₀ { t with fault := fault } := by
  cases pt <;> first | exact hs | contradiction

@[simp] theorem Part.same_mover {pt : Part} {s₀ t : State} {mover} (h0 : pt ≠ .mover) (hs : pt.same s₀ t) :
    pt.same s₀ { t with mover := mover } := by
  cases pt <;> first | exact hs | contradiction

@[simp] theorem Part.same_test {pt : Part} {s₀ t : State} {test} (h0 : pt ≠ .test) (hs : pt.same s₀ t) :
    pt.same s₀ { t with test := test } := by
  cases pt <;> first | exact hs | contradiction

@[simp] theorem Part.same_mgmt {pt : Part} {s₀ t : State} {mgmt} (h0 : pt ≠ .mgmt) (hs : pt.same s₀ t) :
    pt.same s₀ { t with mgmt := mgmt } := by
  cases pt <;> first | exact hs | contradiction

@[simp] theorem Part.same_sec {pt : Part} {s₀ t : State} {sec} (h0 : pt ≠ .sec) (hs : pt.same s₀ t) :
    pt.same s₀ { t with sec := sec } := by
  cases pt <;> first | exact hs | contradiction

@[simp] theorem Part.same_ddr {pt : Part} {s₀ t : State} {ddr} (h0 : pt ≠ .ddr) (hs : pt.same s₀ t) :
    pt.same s₀ { t with ddr := ddr } := by
  cases pt <;> first | exact hs | contradiction

@[simp] theorem Part.same_pwr {pt : Part} {s₀ t : State} {pwr} (h0 : pt ≠ .pwr) (hs : pt.same s₀ t) :
    pt.same s₀ { t with pwr := pwr } := by
  cases pt <;> first | exact hs | contradiction

@[simp] theorem Part.same_outs {pt : Part} {s₀ t : State} {outs} (h0 : pt ≠ .outs) (hs : pt.same s₀ t) :
    pt.same s₀ { t with outs := outs } := by
  cases pt <;> first | exact hs | contradiction

@[simp] theorem Part.same_mem_poison {pt : Part} {s₀ t : State} {mem poison} (h0 : pt ≠ .memory) (hs : pt.same s₀ t) :
    pt.same s₀ { t with mem := mem, poison := poison } := by
  cases pt <;> first | exact hs | contradiction

@[simp] theorem Part.same_mem_poison_errs_resv {pt : Part} {s₀ t : State} {mem poison errs resv} (h0 : pt ≠ .memory) (hs : pt.same s₀ t) :
    pt.same s₀ { t with mem := mem, poison := poison, errs := errs, resv := resv } := by
  cases pt <;> first | exact hs | contradiction

@[simp] theorem Part.same_sq_xfer {pt : Part} {s₀ t : State} {sq xfer} (h0 : pt ≠ .sq) (h1 : pt ≠ .xfer) (hs : pt.same s₀ t) :
    pt.same s₀ { t with sq := sq, xfer := xfer } := by
  cases pt <;> first | exact hs | contradiction

@[simp] theorem Part.same_featAcc_core {pt : Part} {s₀ t : State} {featAcc core} (h0 : pt ≠ .feats) (h1 : pt ≠ .core) (hs : pt.same s₀ t) :
    pt.same s₀ { t with featAcc := featAcc, core := core } := by
  cases pt <;> first | exact hs | contradiction

@[simp] theorem Part.same_core_outs {pt : Part} {s₀ t : State} {core outs} (h0 : pt ≠ .core) (h1 : pt ≠ .outs) (hs : pt.same s₀ t) :
    pt.same s₀ { t with core := core, outs := outs } := by
  cases pt <;> first | exact hs | contradiction

@[simp] theorem Part.same_ddr_pwr {pt : Part} {s₀ t : State} {ddr pwr} (h0 : pt ≠ .ddr) (h1 : pt ≠ .pwr) (hs : pt.same s₀ t) :
    pt.same s₀ { t with ddr := ddr, pwr := pwr } := by
  cases pt <;> first | exact hs | contradiction

end Sys2Proof.Machine
end

