-- ==== Sys2Proof/Laws/PartsBase.lean ====
section
/-! SUPPORT. Which parts of the state the operations of pages, outputs, memory and its errors, trace, alarms, transmission, streams, zones and slates touch: every other part stays as it is. -/

namespace Sys2Proof.Machine

open Sys2Proof

@[simp] theorem State.modHdr_same {pt : Part} {s₀ s : State} (k : PageKind) (i : Nat) (f : PageHdr → PageHdr) (h0 : pt ≠ .pages)
    (hs : pt.same s₀ s) : pt.same s₀ (s.modHdr k i f) := by
  unfold State.modHdr
  simp +contextual (maxDischargeDepth := 30) [*]

@[simp] theorem State.setReg_same {pt : Part} {s₀ s : State} (k : PageKind) (i po : Nat) (v : Word) (h0 : pt ≠ .regs) (hs :
    pt.same s₀ s) : pt.same s₀ (s.setReg k i po v) := by
  unfold State.setReg
  simp +contextual (maxDischargeDepth := 30) [*]

@[simp] theorem State.cause_same {pt : Part} {s₀ s : State} (k : PageKind) (i bitNo : Nat) (h0 : pt ≠ .pages) (hs : pt.same s₀ s)
    : pt.same s₀ (s.cause k i bitNo) := by
  unfold State.cause
  simp +contextual (maxDischargeDepth := 30) [*]

@[simp] theorem State.err_same {pt : Part} {s₀ s : State} (k : PageKind) (i code detail info : Nat) (h0 : pt ≠ .pages) (hs :
    pt.same s₀ s) : pt.same s₀ (s.err k i code detail info) := by
  unfold State.err
  simp +contextual (maxDischargeDepth := 30) [*]

@[simp] theorem State.refuseOwned_same {pt : Part} {s₀ s : State} (k : PageKind) (i resource holder : Nat) (h0 : pt ≠ .pages) (hs
    : pt.same s₀ s) : pt.same s₀ (s.refuseOwned k i resource holder) := by
  unfold State.refuseOwned
  simp +contextual (maxDischargeDepth := 30) [*]

@[simp] theorem State.refuseEnable_same {pt : Part} {s₀ s : State} (k : PageKind) (i code detail info : Nat) (h0 : pt ≠ .pages)
    (hs : pt.same s₀ s) : pt.same s₀ (s.refuseEnable k i code detail info) := by
  unfold State.refuseEnable
  simp +contextual (maxDischargeDepth := 30) [*]

@[simp] theorem State.wrap_same {pt : Part} {s₀ s : State} (key : Nat) (h0 : pt ≠ .cnt) (hs : pt.same s₀ s) : pt.same s₀ (s.wrap
    key) := by
  unfold State.wrap
  simp +contextual (maxDischargeDepth := 30) [*]

@[simp] theorem State.countN_same {pt : Part} {s₀ s : State} (k : PageKind) (i po n : Nat) (h0 : pt ≠ .pages) (h1 : pt ≠ .regs)
    (h2 : pt ≠ .cnt) (hs : pt.same s₀ s) : pt.same s₀ (s.countN k i po n) := by
  unfold State.countN
  simp +contextual (maxDischargeDepth := 30) [*]

@[simp] theorem State.count_same {pt : Part} {s₀ s : State} (k : PageKind) (i po : Nat) (h0 : pt ≠ .pages) (h1 : pt ≠ .regs)
    (h2 : pt ≠ .cnt) (hs : pt.same s₀ s) : pt.same s₀ (s.count k i po) := by
  unfold State.count
  simp +contextual (maxDischargeDepth := 30) [*]

@[simp] theorem State.countP_same {pt : Part} {s₀ s : State} (p po : Nat) (h0 : pt ≠ .pages) (h1 : pt ≠ .regs) (h2 : pt ≠ .cnt)
    (hs : pt.same s₀ s) : pt.same s₀ (s.countP p po) := by
  unfold State.countP
  simp +contextual (maxDischargeDepth := 30) [*]

@[simp] theorem State.writeCtr_same {pt : Part} {s₀ s : State} (k : PageKind) (i po : Nat) (v : Word) (n : Nat) (h0 : pt ≠ .pages)
    (h1 : pt ≠ .regs) (h2 : pt ≠ .cnt) (hs : pt.same s₀ s) : pt.same s₀ (s.writeCtr k i po v n) := by
  unfold State.writeCtr
  simp +contextual (maxDischargeDepth := 30) [*]

@[simp] theorem State.out_same {pt : Part} {s₀ s : State} (o : Out) (h0 : pt ≠ .outs) (hs : pt.same s₀ s) : pt.same s₀ (s.out o)
    := by
  unfold State.out
  simp +contextual (maxDischargeDepth := 30) [*]

@[simp] theorem State.free_same {pt : Part} {s₀ s : State} (h0 : pt ≠ .frees) (hs : pt.same s₀ s) : pt.same s₀ s.free.2 :=
  Part.same_freeCount h0 hs

@[simp] theorem State.atLeast_same {pt : Part} {s₀ s : State} (w : Nat) (h0 : pt ≠ .time) (hs : pt.same s₀ s) : pt.same s₀
    (s.atLeast w) := by
  unfold State.atLeast
  simp +contextual (maxDischargeDepth := 30) [*]

@[simp] theorem State.modPort_same {pt : Part} {s₀ s : State} (p : Nat) (f : PortSt → PortSt) (h0 : pt ≠ .ports) (hs : pt.same s₀
    s) : pt.same s₀ (s.modPort p f) := by
  unfold State.modPort
  simp +contextual (maxDischargeDepth := 30) [*]

@[simp] theorem State.modLink_same {pt : Part} {s₀ s : State} (p : Nat) (f : LinkSt → LinkSt) (h0 : pt ≠ .ports) (hs : pt.same s₀
    s) : pt.same s₀ (s.modLink p f) := by
  unfold State.modLink
  simp +contextual (maxDischargeDepth := 30) [*]

@[simp] theorem State.writeMem_same {pt : Part} {s₀ s : State} (a : Nat) (bs : List Byte) (h0 : pt ≠ .memory) (hs : pt.same s₀ s)
    : pt.same s₀ (s.writeMem a bs) := by
  unfold State.writeMem
  repeat' (first | dsimp only | (simp +contextual (maxDischargeDepth := 30) [*]; done) | split |
    (refine Part.same_foldl _ _ ?_ ?_) | (refine Part.same_foldl_fst _ _ ?_ ?_) | intro _ | apply_assumption)

@[simp] theorem State.zeroMem_same {pt : Part} {s₀ s : State} (a n : Nat) (h0 : pt ≠ .memory) (hs : pt.same s₀ s) : pt.same s₀
    (s.zeroMem a n) := by
  unfold State.zeroMem
  repeat' (first | dsimp only | (simp +contextual (maxDischargeDepth := 30) [*]; done) | split |
    (refine Part.same_foldl _ _ ?_ ?_) | (refine Part.same_foldl_fst _ _ ?_ ?_) | intro _ | apply_assumption)

@[simp] theorem State.setOwner_same {pt : Part} {s₀ s : State} (r o : Nat) (h0 : pt ≠ .groups) (h1 : pt ≠ .evt)
    (h2 : pt ≠ .scratch) (hs : pt.same s₀ s) : pt.same s₀ (s.setOwner r o) := by
  unfold State.setOwner
  repeat' (first | dsimp only | (simp +contextual (maxDischargeDepth := 30) [*]; done) | split |
    (refine Part.same_foldl _ _ ?_ ?_) | (refine Part.same_foldl_fst _ _ ?_ ?_) | intro _ | apply_assumption)

@[simp] theorem State.takeAll_same {pt : Part} {s₀ s : State} (o : Nat) (rs : List Nat) (h0 : pt ≠ .groups) (h1 : pt ≠ .evt)
    (h2 : pt ≠ .scratch) (hs : pt.same s₀ s) : pt.same s₀ (s.takeAll o rs) := by
  unfold State.takeAll
  simp +contextual (maxDischargeDepth := 30) [*]

@[simp] theorem State.release_same {pt : Part} {s₀ s : State} (o : Nat) (rs : List Nat) (h0 : pt ≠ .groups) (h1 : pt ≠ .evt)
    (h2 : pt ≠ .scratch) (hs : pt.same s₀ s) : pt.same s₀ (s.release o rs) := by
  unfold State.release
  simp +contextual (maxDischargeDepth := 30) [*]

@[simp] theorem State.modSrc_same {pt : Part} {s₀ s : State} (i : Nat) (f : TraceSrc → TraceSrc) (h0 : pt ≠ .trace) (hs : pt.same
    s₀ s) : pt.same s₀ (s.modSrc i f) := by
  unfold State.modSrc
  simp +contextual (maxDischargeDepth := 30) [*]

@[simp] theorem State.loseRec_same {pt : Part} {s₀ s : State} (src : Nat) (space : Bool) (h0 : pt ≠ .pages) (h1 : pt ≠ .regs)
    (h2 : pt ≠ .cnt) (h3 : pt ≠ .trace) (hs : pt.same s₀ s) : pt.same s₀ (s.loseRec src space) := by
  unfold State.loseRec
  simp +contextual (maxDischargeDepth := 30) [*]

@[simp] theorem State.passRec_same {pt : Part} {s₀ s : State} (r : TraceRec) (h0 : pt ≠ .pages) (h1 : pt ≠ .regs) (h2 : pt ≠ .cnt)
    (h3 : pt ≠ .trace) (hs : pt.same s₀ s) : pt.same s₀ (s.passRec r) := by
  unfold State.passRec
  simp +contextual (maxDischargeDepth := 30) [*]

@[simp] theorem State.traceAt_same {pt : Part} {s₀ s : State} (src : Nat) (ev : Option Nat) (cls port : Option Nat) (frac kind :
    Nat) (w1 w2 w3 : Word) (h0 : pt ≠ .pages) (h1 : pt ≠ .regs) (h2 : pt ≠ .cnt) (h3 : pt ≠ .trace) (hs : pt.same s₀ s) : pt.same
    s₀ (s.traceAt src ev cls port frac kind w1 w2 w3) := by
  unfold State.traceAt
  simp +contextual (maxDischargeDepth := 30) [*]

@[simp] theorem State.traceEv_same {pt : Part} {s₀ s : State} (src ev : Nat) (cls port : Option Nat) (kind : Nat) (w1 w2 w3 :
    Word) (h0 : pt ≠ .pages) (h1 : pt ≠ .regs) (h2 : pt ≠ .cnt) (h3 : pt ≠ .trace) (hs : pt.same s₀ s) : pt.same s₀ (s.traceEv src
    ev cls port kind w1 w2 w3) := by
  unfold State.traceEv
  simp +contextual (maxDischargeDepth := 30) [*]

@[simp] theorem State.traceState_same {pt : Part} {s₀ s : State} (ev what new : Nat) (value : Word) (h0 : pt ≠ .pages)
    (h1 : pt ≠ .regs) (h2 : pt ≠ .cnt) (h3 : pt ≠ .trace) (hs : pt.same s₀ s) : pt.same s₀ (s.traceState ev what new value) := by
  unfold State.traceState
  simp +contextual (maxDischargeDepth := 30) [*]

@[simp] theorem State.alarmAt_same {pt : Part} {s₀ s : State} (cls source detail : Nat) (ns : Nat) (h0 : pt ≠ .alarm) (hs :
    pt.same s₀ s) : pt.same s₀ (s.alarmAt cls source detail ns) := by
  unfold State.alarmAt
  simp +contextual (maxDischargeDepth := 30) [*]

@[simp] theorem State.raise_same {pt : Part} {s₀ s : State} (cls source detail : Nat) (h0 : pt ≠ .alarm) (hs : pt.same s₀ s) :
    pt.same s₀ (s.raise cls source detail) := by
  unfold State.raise
  simp +contextual (maxDischargeDepth := 30) [*]

@[simp] theorem State.linkErr_same {pt : Part} {s₀ s : State} (a : Nat) (h0 : pt ≠ .pages) (h1 : pt ≠ .regs) (h2 : pt ≠ .cnt)
    (h3 : pt ≠ .alarm) (hs : pt.same s₀ s) : pt.same s₀ (s.linkErr a) := by
  unfold State.linkErr
  simp +contextual (maxDischargeDepth := 30) [*]

@[simp] theorem State.eccOne_same {pt : Part} {s₀ s : State} (e : Nat × EccKind) (h0 : pt ≠ .pages) (h1 : pt ≠ .regs)
    (h2 : pt ≠ .memory) (h3 : pt ≠ .cnt) (h4 : pt ≠ .alarm) (hs : pt.same s₀ s) : pt.same s₀ (s.eccOne e) := by
  unfold State.eccOne
  repeat' (first | dsimp only | (simp +contextual (maxDischargeDepth := 30) [*]; done) | split |
    (refine Part.same_foldl _ _ ?_ ?_) | (refine Part.same_foldl_fst _ _ ?_ ?_) | intro _ | apply_assumption)

@[simp] theorem State.arise_same {pt : Part} {s₀ s : State} (ecc : EccList) (h0 : pt ≠ .memory) (hs : pt.same s₀ s) : pt.same s₀
    (s.arise ecc) := by
  unfold State.arise
  simp +contextual (maxDischargeDepth := 30) [*]

@[simp] theorem State.eccTake_same {pt : Part} {s₀ s : State} (found : Nat × EccKind → Bool) (h0 : pt ≠ .pages) (h1 : pt ≠ .regs)
    (h2 : pt ≠ .memory) (h3 : pt ≠ .cnt) (h4 : pt ≠ .alarm) (hs : pt.same s₀ s) : pt.same s₀ (s.eccTake found) := by
  unfold State.eccTake
  simp +contextual (maxDischargeDepth := 30) [*]

@[simp] theorem State.eccRead_same {pt : Part} {s₀ s : State} (a n : Nat) (h0 : pt ≠ .pages) (h1 : pt ≠ .regs) (h2 : pt ≠ .memory)
    (h3 : pt ≠ .cnt) (h4 : pt ≠ .alarm) (hs : pt.same s₀ s) : pt.same s₀ (s.eccRead a n) := by
  unfold State.eccRead
  simp +contextual (maxDischargeDepth := 30) [*]

@[simp] theorem State.linkTake_same {pt : Part} {s₀ s : State} (a n : Nat) (h0 : pt ≠ .pages) (h1 : pt ≠ .regs)
    (h2 : pt ≠ .memory) (h3 : pt ≠ .cnt) (h4 : pt ≠ .alarm) (hs : pt.same s₀ s) : pt.same s₀ (s.linkTake a n) := by
  unfold State.linkTake
  simp +contextual (maxDischargeDepth := 30) [*]

@[simp] theorem State.blur_same {pt : Part} {s₀ s : State} (lost : List Nat) (a : Nat) (bs : List Byte) (h0 : pt ≠ .frees) (hs :
    pt.same s₀ s) : pt.same s₀ (s.blur lost a bs).1 := by
  unfold State.blur
  repeat' (first | dsimp only | (simp +contextual (maxDischargeDepth := 30) [*]; done) | split |
    (refine Part.same_foldl _ _ ?_ ?_) | (refine Part.same_foldl_fst _ _ ?_ ?_) | intro _ | apply_assumption)

@[simp] theorem State.store_same {pt : Part} {s₀ s : State} (a : Nat) (bs : List Byte) (h0 : pt ≠ .frees) (h1 : pt ≠ .pages)
    (h2 : pt ≠ .regs) (h3 : pt ≠ .memory) (h4 : pt ≠ .cnt) (h5 : pt ≠ .alarm) (hs : pt.same s₀ s) : pt.same s₀ (s.store a bs) :=
    by
  unfold State.store
  simp +contextual (maxDischargeDepth := 30) [*]

@[simp] theorem State.storeZero_same {pt : Part} {s₀ s : State} (a n : Nat) (h0 : pt ≠ .frees) (h1 : pt ≠ .pages)
    (h2 : pt ≠ .regs) (h3 : pt ≠ .memory) (h4 : pt ≠ .cnt) (h5 : pt ≠ .alarm) (hs : pt.same s₀ s) : pt.same s₀ (s.storeZero a n)
    := by
  unfold State.storeZero
  simp +contextual (maxDischargeDepth := 30) [*]

@[simp] theorem State.load_same {pt : Part} {s₀ s : State} (a n : Nat) (h0 : pt ≠ .frees) (h1 : pt ≠ .pages) (h2 : pt ≠ .regs)
    (h3 : pt ≠ .memory) (h4 : pt ≠ .cnt) (h5 : pt ≠ .alarm) (hs : pt.same s₀ s) : pt.same s₀ (s.load a n).1 := by
  unfold State.load
  simp +contextual (maxDischargeDepth := 30) [*]

@[simp] theorem State.modStaged_same {pt : Part} {s₀ s : State} (f : Bank → Bank) (h0 : pt ≠ .slate) (hs : pt.same s₀ s) : pt.same
    s₀ (s.modStaged f) := by
  unfold State.modStaged
  simp +contextual (maxDischargeDepth := 30) [*]

@[simp] theorem State.modLive_same {pt : Part} {s₀ s : State} (f : Bank → Bank) (h0 : pt ≠ .slate) (hs : pt.same s₀ s) : pt.same
    s₀ (s.modLive f) := by
  unfold State.modLive
  simp +contextual (maxDischargeDepth := 30) [*]

@[simp] theorem State.sample_same {pt : Part} {s₀ s : State} (g k c v : Nat) (h0 : pt ≠ .pages) (h1 : pt ≠ .cnt) (hs : pt.same s₀
    s) : pt.same s₀ (s.sample g k c v) := by
  unfold State.sample
  simp +contextual (maxDischargeDepth := 30) [*]

@[simp] theorem State.sampleOther_same {pt : Part} {s₀ s : State} (v : Nat) (h0 : pt ≠ .pages) (h1 : pt ≠ .cnt) (hs : pt.same s₀
    s) : pt.same s₀ (s.sampleOther v) := by
  unfold State.sampleOther
  simp +contextual (maxDischargeDepth := 30) [*]

@[simp] theorem State.signal_same {pt : Part} {s₀ s : State} (i : Nat) (h0 : pt ≠ .pages) (h1 : pt ≠ .regs) (h2 : pt ≠ .core)
    (h3 : pt ≠ .cnt) (h4 : pt ≠ .outs) (hs : pt.same s₀ s) : pt.same s₀ (s.signal i) := by
  unfold State.signal
  simp +contextual (maxDischargeDepth := 30) [*]

@[simp] theorem State.notifyId_same {pt : Part} {s₀ s : State} (i : Nat) (h0 : pt ≠ .pages) (h1 : pt ≠ .regs) (h2 : pt ≠ .core)
    (h3 : pt ≠ .cnt) (h4 : pt ≠ .outs) (hs : pt.same s₀ s) : pt.same s₀ (s.notifyId i) := by
  unfold State.notifyId
  simp +contextual (maxDischargeDepth := 30) [*]

@[simp] theorem State.modRing_same {pt : Part} {s₀ s : State} (c : Nat) (f : CqSt → CqSt) (h0 : pt ≠ .cq) (hs : pt.same s₀ s) :
    pt.same s₀ (s.modRing c f) := by
  unfold State.modRing
  simp +contextual (maxDischargeDepth := 30) [*]

@[simp] theorem State.notifyRing_same {pt : Part} {s₀ s : State} (c later : Nat) (h0 : pt ≠ .pages) (h1 : pt ≠ .regs)
    (h2 : pt ≠ .cq) (h3 : pt ≠ .core) (h4 : pt ≠ .cnt) (h5 : pt ≠ .outs) (hs : pt.same s₀ s) : pt.same s₀ (s.notifyRing c later)
    := by
  unfold State.notifyRing
  simp +contextual (maxDischargeDepth := 30) [*]

@[simp] theorem State.episode_same {pt : Part} {s₀ s : State} (c later : Nat) (sent : Bool) (h0 : pt ≠ .pages) (h1 : pt ≠ .regs)
    (h2 : pt ≠ .cq) (h3 : pt ≠ .core) (h4 : pt ≠ .cnt) (h5 : pt ≠ .alarm) (h6 : pt ≠ .outs) (hs : pt.same s₀ s) : pt.same s₀
    (s.episode c later sent) := by
  unfold State.episode
  simp +contextual (maxDischargeDepth := 30) [*]

@[simp] theorem State.putEntry_same {pt : Part} {s₀ s : State} (c : Nat) (lo hi : Word) (h0 : pt ≠ .frees) (h1 : pt ≠ .pages)
    (h2 : pt ≠ .regs) (h3 : pt ≠ .memory) (h4 : pt ≠ .cq) (h5 : pt ≠ .core) (h6 : pt ≠ .cnt) (h7 : pt ≠ .alarm) (h8 : pt ≠ .outs)
    (hs : pt.same s₀ s) : pt.same s₀ (s.putEntry c lo hi) := by
  unfold State.putEntry
  simp +contextual (maxDischargeDepth := 30) [*]

@[simp] theorem State.complete_same {pt : Part} {s₀ s : State} (c queue : Nat) (lo hi : Word) (h0 : pt ≠ .frees)
    (h1 : pt ≠ .pages) (h2 : pt ≠ .regs) (h3 : pt ≠ .memory) (h4 : pt ≠ .cq) (h5 : pt ≠ .xfer) (h6 : pt ≠ .core) (h7 : pt ≠ .cnt)
    (h8 : pt ≠ .alarm) (h9 : pt ≠ .outs) (hs : pt.same s₀ s) : pt.same s₀ (s.complete c queue lo hi) := by
  unfold State.complete
  simp +contextual (maxDischargeDepth := 30) [*]

@[simp] theorem State.putHeld_same {pt : Part} {s₀ s : State} (c : Nat) (h0 : pt ≠ .frees) (h1 : pt ≠ .pages) (h2 : pt ≠ .regs)
    (h3 : pt ≠ .memory) (h4 : pt ≠ .cq) (h5 : pt ≠ .xfer) (h6 : pt ≠ .core) (h7 : pt ≠ .cnt) (h8 : pt ≠ .alarm) (h9 : pt ≠ .outs)
    (hs : pt.same s₀ s) : pt.same s₀ (s.putHeld c) := by
  unfold State.putHeld
  repeat' (first | dsimp only | (simp +contextual (maxDischargeDepth := 30) [*]; done) | split |
    (refine Part.same_foldl _ _ ?_ ?_) | (refine Part.same_foldl_fst _ _ ?_ ?_) | intro _ | apply_assumption)

@[simp] theorem State.modQueue_same {pt : Part} {s₀ s : State} (q : Nat) (f : SqSt → SqSt) (h0 : pt ≠ .sq) (hs : pt.same s₀ s) :
    pt.same s₀ (s.modQueue q f) := by
  unfold State.modQueue
  simp +contextual (maxDischargeDepth := 30) [*]

@[simp] theorem State.modJob_same {pt : Part} {s₀ s : State} (id : Nat) (f : Job → Job) (h0 : pt ≠ .xfer) (hs : pt.same s₀ s) :
    pt.same s₀ (s.modJob id f) := by
  unfold State.modJob
  simp +contextual (maxDischargeDepth := 30) [*]

@[simp] theorem State.finishAt_same {pt : Part} {s₀ s : State} (at_ : Nat) (j : Job) (status : Nat) (h0 : pt ≠ .frees)
    (h1 : pt ≠ .pages) (h2 : pt ≠ .regs) (h3 : pt ≠ .memory) (h4 : pt ≠ .cq) (h5 : pt ≠ .xfer) (h6 : pt ≠ .core) (h7 : pt ≠ .cnt)
    (h8 : pt ≠ .trace) (h9 : pt ≠ .alarm) (h10 : pt ≠ .outs) (hs : pt.same s₀ s) : pt.same s₀ (s.finishAt at_ j status) := by
  unfold State.finishAt
  repeat' (first | dsimp only | (simp +contextual (maxDischargeDepth := 30) [*]; done) | split |
    (refine Part.same_foldl _ _ ?_ ?_) | (refine Part.same_foldl_fst _ _ ?_ ?_) | intro _ | apply_assumption)

@[simp] theorem State.finish_same {pt : Part} {s₀ s : State} (j : Job) (status : Nat) (h0 : pt ≠ .frees) (h1 : pt ≠ .pages)
    (h2 : pt ≠ .regs) (h3 : pt ≠ .memory) (h4 : pt ≠ .cq) (h5 : pt ≠ .xfer) (h6 : pt ≠ .core) (h7 : pt ≠ .cnt) (h8 : pt ≠ .trace)
    (h9 : pt ≠ .alarm) (h10 : pt ≠ .outs) (hs : pt.same s₀ s) : pt.same s₀ (s.finish j status) := by
  unfold State.finish
  repeat' (first | dsimp only | (simp +contextual (maxDischargeDepth := 30) [*]; done) | split |
    (refine Part.same_foldl _ _ ?_ ?_) | (refine Part.same_foldl_fst _ _ ?_ ?_) | intro _ | apply_assumption)

@[simp] theorem State.finishAll_same {pt : Part} {s₀ s : State} (l : List (Job × Nat)) (h0 : pt ≠ .frees) (h1 : pt ≠ .pages)
    (h2 : pt ≠ .regs) (h3 : pt ≠ .memory) (h4 : pt ≠ .cq) (h5 : pt ≠ .xfer) (h6 : pt ≠ .core) (h7 : pt ≠ .cnt) (h8 : pt ≠ .trace)
    (h9 : pt ≠ .alarm) (h10 : pt ≠ .outs) (hs : pt.same s₀ s) : pt.same s₀ (s.finishAll l) := by
  unfold State.finishAll
  simp +contextual (maxDischargeDepth := 30) [*]

@[simp] theorem State.departs_same {pt : Part} {s₀ s : State} (h0 : pt ≠ .frees) (h1 : pt ≠ .pages) (h2 : pt ≠ .regs)
    (h3 : pt ≠ .memory) (h4 : pt ≠ .cq) (h5 : pt ≠ .xfer) (h6 : pt ≠ .core) (h7 : pt ≠ .cnt) (h8 : pt ≠ .trace) (h9 : pt ≠ .alarm)
    (h10 : pt ≠ .outs) (hs : pt.same s₀ s) : pt.same s₀ s.departs := by
  unfold State.departs
  simp +contextual (maxDischargeDepth := 30) [*]

@[simp] theorem State.settle_same {pt : Part} {s₀ s : State} (id : Nat) (h0 : pt ≠ .frees) (h1 : pt ≠ .pages) (h2 : pt ≠ .regs)
    (h3 : pt ≠ .memory) (h4 : pt ≠ .cq) (h5 : pt ≠ .xfer) (h6 : pt ≠ .core) (h7 : pt ≠ .cnt) (h8 : pt ≠ .trace) (h9 : pt ≠ .alarm)
    (h10 : pt ≠ .outs) (hs : pt.same s₀ s) : pt.same s₀ (s.settle id) := by
  unfold State.settle
  repeat' (first | dsimp only | (simp +contextual (maxDischargeDepth := 30) [*]; done) | split |
    (refine Part.same_foldl _ _ ?_ ?_) | (refine Part.same_foldl_fst _ _ ?_ ?_) | intro _ | apply_assumption)

@[simp] theorem State.freeTs_same {pt : Part} {s₀ s : State} (id : Nat) (h0 : pt ≠ .groups) (h1 : pt ≠ .xfer) (hs : pt.same s₀ s)
    : pt.same s₀ (s.freeTs id) := by
  unfold State.freeTs
  repeat' (first | dsimp only | (simp +contextual (maxDischargeDepth := 30) [*]; done) | split |
    (refine Part.same_foldl _ _ ?_ ?_) | (refine Part.same_foldl_fst _ _ ?_ ?_) | intro _ | apply_assumption)

@[simp] theorem State.replicaDone_same {pt : Part} {s₀ s : State} (id frame member outcome at_ : Nat) (h0 : pt ≠ .groups)
    (h1 : pt ≠ .xfer) (hs : pt.same s₀ s) : pt.same s₀ (s.replicaDone id frame member outcome at_) := by
  unfold State.replicaDone
  repeat' (first | dsimp only | (simp +contextual (maxDischargeDepth := 30) [*]; done) | split |
    (refine Part.same_foldl _ _ ?_ ?_) | (refine Part.same_foldl_fst _ _ ?_ ?_) | intro _ | apply_assumption)

@[simp] theorem State.captureTs_same {pt : Part} {s₀ s : State} (id port : Nat) (stamp : Nat) (sus : Bool) (h0 : pt ≠ .pages)
    (h1 : pt ≠ .regs) (h2 : pt ≠ .groups) (h3 : pt ≠ .xfer) (h4 : pt ≠ .cnt) (hs : pt.same s₀ s) : pt.same s₀ (s.captureTs id port
    stamp sus) := by
  unfold State.captureTs
  repeat' (first | dsimp only | (simp +contextual (maxDischargeDepth := 30) [*]; done) | split |
    (refine Part.same_foldl _ _ ?_ ?_) | (refine Part.same_foldl_fst _ _ ?_ ?_) | intro _ | apply_assumption)

@[simp] theorem State.paceOne_same {pt : Part} {s₀ s : State} (c : Nat) (h0 : pt ≠ .pages) (h1 : pt ≠ .regs)
    (h2 : pt ≠ .cnt) (h3 : pt ≠ .mover) (hs : pt.same s₀ s) : pt.same s₀ (s.paceOne c) := by
  unfold State.paceOne
  simp +contextual (maxDischargeDepth := 30) [*]

@[simp] theorem State.pace_same {pt : Part} {s₀ s : State} (h0 : pt ≠ .pages) (h1 : pt ≠ .regs) (h2 : pt ≠ .cnt)
    (h3 : pt ≠ .mover) (hs : pt.same s₀ s) : pt.same s₀ s.pace := by
  unfold State.pace
  simp +contextual (maxDischargeDepth := 30) [*]

@[simp] theorem State.modPin_same {pt : Part} {s₀ s : State} (n : Nat) (f : PinSt → PinSt) (h0 : pt ≠ .evt) (hs : pt.same s₀ s) :
    pt.same s₀ (s.modPin n f) := by
  unfold State.modPin
  simp +contextual (maxDischargeDepth := 30) [*]

@[simp] theorem State.pulsePin_same {pt : Part} {s₀ s : State} (line at_ n : Nat) (h0 : pt ≠ .pages) (h1 : pt ≠ .regs)
    (h2 : pt ≠ .evt) (h3 : pt ≠ .cnt) (h4 : pt ≠ .outs) (hs : pt.same s₀ s) : pt.same s₀ (s.pulsePin line at_ n) := by
  unfold State.pulsePin
  simp +contextual (maxDischargeDepth := 30) [*]

@[simp] theorem State.pulseGen_same {pt : Part} {s₀ s : State} (line at_ g : Nat) (h0 : pt ≠ .pages) (h1 : pt ≠ .regs)
    (h2 : pt ≠ .evt) (h3 : pt ≠ .cnt) (hs : pt.same s₀ s) : pt.same s₀ (s.pulseGen line at_ g) := by
  unfold State.pulseGen
  repeat' (first | dsimp only | (simp +contextual (maxDischargeDepth := 30) [*]; done) | split |
    (refine Part.same_foldl _ _ ?_ ?_) | (refine Part.same_foldl_fst _ _ ?_ ?_) | intro _ | apply_assumption)

@[simp] theorem State.heardPulse_same {pt : Part} {s₀ s : State} (line at_ : Nat) (h0 : pt ≠ .pages) (h1 : pt ≠ .regs)
    (h2 : pt ≠ .evt) (h3 : pt ≠ .xfer) (h4 : pt ≠ .cnt) (h5 : pt ≠ .outs) (hs : pt.same s₀ s) : pt.same s₀ (s.heardPulse line at_)
    := by
  unfold State.heardPulse
  simp +contextual (maxDischargeDepth := 30) [*]

@[simp] theorem State.pulse_same {pt : Part} {s₀ s : State} (line at_ : Nat) (h0 : pt ≠ .pages) (h1 : pt ≠ .regs) (h2 : pt ≠ .evt)
    (h3 : pt ≠ .xfer) (h4 : pt ≠ .cnt) (h5 : pt ≠ .outs) (hs : pt.same s₀ s) : pt.same s₀ (s.pulse line at_) := by
  unfold State.pulse
  simp +contextual (maxDischargeDepth := 30) [*]

@[simp] theorem State.pulseNow_same {pt : Part} {s₀ s : State} (line : Nat) (h0 : pt ≠ .pages) (h1 : pt ≠ .regs) (h2 : pt ≠ .evt)
    (h3 : pt ≠ .xfer) (h4 : pt ≠ .cnt) (h5 : pt ≠ .outs) (hs : pt.same s₀ s) : pt.same s₀ (s.pulseNow line) := by
  unfold State.pulseNow
  simp +contextual (maxDischargeDepth := 30) [*]

@[simp] theorem State.fireLine_same {pt : Part} {s₀ s : State} (line at_ : Nat) (h0 : pt ≠ .pages) (h1 : pt ≠ .regs)
    (h2 : pt ≠ .evt) (h3 : pt ≠ .xfer) (h4 : pt ≠ .cnt) (h5 : pt ≠ .outs) (hs : pt.same s₀ s) : pt.same s₀ (s.fireLine line at_)
    := by
  unfold State.fireLine
  simp +contextual (maxDischargeDepth := 30) [*]

@[simp] theorem State.eventsPassed_same {pt : Part} {s₀ s : State} (cycle : Nat) (h0 : pt ≠ .pages) (h1 : pt ≠ .regs)
    (h2 : pt ≠ .evt) (h3 : pt ≠ .xfer) (h4 : pt ≠ .cnt) (h5 : pt ≠ .outs) (hs : pt.same s₀ s) : pt.same s₀ (s.eventsPassed cycle)
    := by
  unfold State.eventsPassed
  simp +contextual (maxDischargeDepth := 30) [*]

@[simp] theorem State.writePinCfg_same {pt : Part} {s₀ s : State} (n : Nat) (v : Word) (h0 : pt ≠ .pages) (h1 : pt ≠ .regs)
    (h2 : pt ≠ .groups) (h3 : pt ≠ .evt) (h4 : pt ≠ .scratch) (h5 : pt ≠ .outs) (hs : pt.same s₀ s) : pt.same s₀ (s.writePinCfg n
    v) := by
  unfold State.writePinCfg
  repeat' (first | dsimp only | (simp +contextual (maxDischargeDepth := 30) [*]; done) | split |
    (refine Part.same_foldl _ _ ?_ ?_) | (refine Part.same_foldl_fst _ _ ?_ ?_) | intro _ | apply_assumption)

@[simp] theorem State.writeRxLines_same {pt : Part} {s₀ s : State} (v : Word) (h0 : pt ≠ .pages) (h1 : pt ≠ .regs)
    (h2 : pt ≠ .groups) (h3 : pt ≠ .evt) (h4 : pt ≠ .scratch) (hs : pt.same s₀ s) : pt.same s₀ (s.writeRxLines v) := by
  unfold State.writeRxLines
  repeat' (first | dsimp only | (simp +contextual (maxDischargeDepth := 30) [*]; done) | split |
    (refine Part.same_foldl _ _ ?_ ?_) | (refine Part.same_foldl_fst _ _ ?_ ?_) | intro _ | apply_assumption)

@[simp] theorem State.dropEvents_same {pt : Part} {s₀ s : State} (h0 : pt ≠ .pages) (h1 : pt ≠ .regs) (h2 : pt ≠ .evt)
    (h3 : pt ≠ .cnt) (hs : pt.same s₀ s) : pt.same s₀ s.dropEvents := by
  unfold State.dropEvents
  simp +contextual (maxDischargeDepth := 30) [*]

@[simp] theorem State.eventRx_same {pt : Part} {s₀ s : State} (b : List Byte) (h0 : pt ≠ .pages) (h1 : pt ≠ .regs)
    (h2 : pt ≠ .evt) (h3 : pt ≠ .xfer) (h4 : pt ≠ .cnt) (h5 : pt ≠ .outs) (hs : pt.same s₀ s) : pt.same s₀ (s.eventRx b) := by
  unfold State.eventRx
  simp +contextual (maxDischargeDepth := 30) [*]

@[simp] theorem State.traceTx_same {pt : Part} {s₀ s : State} (p : Nat) (fr : TxFrame) (outcome : Nat) (h0 : pt ≠ .pages)
    (h1 : pt ≠ .regs) (h2 : pt ≠ .cnt) (h3 : pt ≠ .trace) (hs : pt.same s₀ s) : pt.same s₀ (s.traceTx p fr outcome) := by
  unfold State.traceTx
  simp +contextual (maxDischargeDepth := 30) [*]

@[simp] theorem State.replicaLost_same {pt : Part} {s₀ s : State} (fr : TxFrame) (status : Nat) (h0 : pt ≠ .groups)
    (h1 : pt ≠ .xfer) (hs : pt.same s₀ s) : pt.same s₀ (s.replicaLost fr status) := by
  unfold State.replicaLost
  repeat' (first | dsimp only | (simp +contextual (maxDischargeDepth := 30) [*]; done) | split |
    (refine Part.same_foldl _ _ ?_ ?_) | (refine Part.same_foldl_fst _ _ ?_ ?_) | intro _ | apply_assumption)

@[simp] theorem State.dropFrame_same {pt : Part} {s₀ s : State} (p : Nat) (fr : TxFrame) (d : Drop) (h0 : pt ≠ .pages)
    (h1 : pt ≠ .regs) (h2 : pt ≠ .groups) (h3 : pt ≠ .xfer) (h4 : pt ≠ .cnt) (h5 : pt ≠ .trace) (hs : pt.same s₀ s) : pt.same s₀
    (s.dropFrame p fr d) := by
  unfold State.dropFrame
  simp +contextual (maxDischargeDepth := 30) [*]

@[simp] theorem State.purgeHeads_same {pt : Part} {s₀ s : State} (p : Nat) (h0 : pt ≠ .pages) (h1 : pt ≠ .regs) (h2 : pt ≠ .ports) (h3 : pt ≠ .groups) (h4 : pt ≠ .xfer) (h5 : pt ≠ .cnt) (h6 : pt ≠ .trace) (hs : pt.same s₀ s) :
    pt.same s₀ (s.purgeHeads p) := by
  have hd : ∀ u x d, pt.same s₀ u → pt.same s₀ (u.dropFrame p x d) := fun u x d hu => by simp [*]
  have hp : ∀ u g, pt.same s₀ u → pt.same s₀ (u.modPort p g) := fun u g hu => by simp [*]
  refine hp _ _ (Part.same_foldl_fst _ _ (hp _ _ hs) ?_)
  intro u x hu
  split
  · exact hu
  · split
    · exact hd _ _ _ hu
    · exact hu

@[simp] theorem State.purge_same {pt : Part} {s₀ s : State} (p : Nat) (h0 : pt ≠ .frees) (h1 : pt ≠ .pages) (h2 : pt ≠ .regs)
    (h3 : pt ≠ .ports) (h4 : pt ≠ .groups) (h5 : pt ≠ .memory) (h6 : pt ≠ .cq) (h7 : pt ≠ .xfer) (h8 : pt ≠ .core)
    (h9 : pt ≠ .cnt) (h10 : pt ≠ .trace) (h11 : pt ≠ .alarm) (h12 : pt ≠ .mover) (h13 : pt ≠ .outs) (hs : pt.same s₀ s) : pt.same
    s₀ (s.purge p) := by
  unfold State.purge
  repeat' (first | dsimp only | (simp +contextual (maxDischargeDepth := 30) [*]; done) | split |
    (refine Part.same_foldl _ _ ?_ ?_) | (refine Part.same_foldl_fst _ _ ?_ ?_) | intro _ | apply_assumption)

@[simp] theorem State.leaves_same {pt : Part} {s₀ s : State} (p : Nat) (fr : TxFrame) (dep fin : Nat) (h0 : pt ≠ .pages)
    (h1 : pt ≠ .regs) (h2 : pt ≠ .ports) (h3 : pt ≠ .groups) (h4 : pt ≠ .xfer) (h5 : pt ≠ .cnt) (hs : pt.same s₀ s) : pt.same s₀
    (s.leaves p fr dep fin) := by
  unfold State.leaves
  repeat' (first | dsimp only | (simp +contextual (maxDischargeDepth := 30) [*]; done) | split |
    (refine Part.same_foldl _ _ ?_ ?_) | (refine Part.same_foldl_fst _ _ ?_ ?_) | intro _ | apply_assumption)

@[simp] theorem State.endFragment_same {pt : Part} {s₀ s : State} (p : Nat) (x : PTx) (d : Nat) (final : Bool) (reason : Option
    Nat) (h0 : pt ≠ .pages) (h1 : pt ≠ .regs) (h2 : pt ≠ .ports) (h3 : pt ≠ .groups) (h4 : pt ≠ .xfer) (h5 : pt ≠ .cnt)
    (h6 : pt ≠ .outs) (hs : pt.same s₀ s) : pt.same s₀ (s.endFragment p x d final reason) := by
  unfold State.endFragment
  simp +contextual (maxDischargeDepth := 30) [*]

@[simp] theorem State.endWire_same {pt : Part} {s₀ s : State} (p : Nat) (h0 : pt ≠ .pages) (h1 : pt ≠ .regs) (h2 : pt ≠ .ports)
    (h3 : pt ≠ .groups) (h4 : pt ≠ .xfer) (h5 : pt ≠ .cnt) (h6 : pt ≠ .outs) (hs : pt.same s₀ s) : pt.same s₀ (s.endWire p) := by
  unfold State.endWire
  repeat' (first | dsimp only | (simp +contextual (maxDischargeDepth := 30) [*]; done) | split |
    (refine Part.same_foldl _ _ ?_ ?_) | (refine Part.same_foldl_fst _ _ ?_ ?_) | intro _ | apply_assumption)

@[simp] theorem State.cutWire_same {pt : Part} {s₀ s : State} (p at_ reason : Nat) (h0 : pt ≠ .pages) (h1 : pt ≠ .regs)
    (h2 : pt ≠ .ports) (h3 : pt ≠ .groups) (h4 : pt ≠ .xfer) (h5 : pt ≠ .cnt) (h6 : pt ≠ .outs) (hs : pt.same s₀ s) : pt.same s₀
    (s.cutWire p at_ reason) := by
  unfold State.cutWire
  repeat' (first | dsimp only | (simp +contextual (maxDischargeDepth := 30) [*]; done) | split |
    (refine Part.same_foldl _ _ ?_ ?_) | (refine Part.same_foldl_fst _ _ ?_ ?_) | intro _ | apply_assumption)

@[simp] theorem State.runTo_same {pt : Part} {s₀ s : State} (w : Nat) (h0 : pt ≠ .frees) (h1 : pt ≠ .pages) (h2 : pt ≠ .regs)
    (h3 : pt ≠ .time) (h4 : pt ≠ .ports) (h5 : pt ≠ .groups) (h6 : pt ≠ .memory) (h7 : pt ≠ .cq) (h8 : pt ≠ .xfer)
    (h9 : pt ≠ .core) (h10 : pt ≠ .cnt) (h11 : pt ≠ .trace) (h12 : pt ≠ .alarm) (h13 : pt ≠ .mover) (h14 : pt ≠ .outs) (hs :
    pt.same s₀ s) : pt.same s₀ (s.runTo w) := by
  unfold State.runTo
  simp +contextual (maxDischargeDepth := 30) [*]

@[simp] theorem State.started_same {pt : Part} {s₀ s : State} (p cls tDep : Nat) (fr : Option TxFrame) (h0 : pt ≠ .pages)
    (h1 : pt ≠ .regs) (h2 : pt ≠ .groups) (h3 : pt ≠ .xfer) (h4 : pt ≠ .cnt) (h5 : pt ≠ .trace) (hs : pt.same s₀ s) : pt.same s₀
    (s.started p cls tDep fr) := by
  unfold State.started
  repeat' (first | dsimp only | (simp +contextual (maxDischargeDepth := 30) [*]; done) | split |
    (refine Part.same_foldl _ _ ?_ ?_) | (refine Part.same_foldl_fst _ _ ?_ ?_) | intro _ | apply_assumption)

@[simp] theorem State.mpacketOut_same {pt : Part} {s₀ s : State} (p : Nat) (respond : Bool) (fin : Nat) (h0 : pt ≠ .pages)
    (h1 : pt ≠ .regs) (h2 : pt ≠ .ports) (h3 : pt ≠ .cnt) (h4 : pt ≠ .outs) (hs : pt.same s₀ s) : pt.same s₀ (s.mpacketOut p
    respond fin) := by
  unfold State.mpacketOut
  simp +contextual (maxDischargeDepth := 30) [*]

@[simp] theorem State.startExpress_same {pt : Part} {s₀ s : State} (p : Nat) (fr0 : TxFrame) (tDep : Nat) (h0 : pt ≠ .pages)
    (h1 : pt ≠ .regs) (h2 : pt ≠ .ports) (h3 : pt ≠ .groups) (h4 : pt ≠ .xfer) (h5 : pt ≠ .cnt) (h6 : pt ≠ .trace)
    (h7 : pt ≠ .outs) (hs : pt.same s₀ s) : pt.same s₀ (s.startExpress p fr0 tDep) := by
  unfold State.startExpress
  repeat' (first | dsimp only | (simp +contextual (maxDischargeDepth := 30) [*]; done) | split |
    (refine Part.same_foldl _ _ ?_ ?_) | (refine Part.same_foldl_fst _ _ ?_ ?_) | intro _ | apply_assumption)

@[simp] theorem State.startPre_same {pt : Part} {s₀ s : State} (p : Nat) (fr0 : TxFrame) (close tDep : Nat) (h0 : pt ≠ .pages)
    (h1 : pt ≠ .regs) (h2 : pt ≠ .ports) (h3 : pt ≠ .groups) (h4 : pt ≠ .xfer) (h5 : pt ≠ .cnt) (h6 : pt ≠ .trace) (hs : pt.same
    s₀ s) : pt.same s₀ (s.startPre p fr0 close tDep) := by
  unfold State.startPre
  simp +contextual (maxDischargeDepth := 30) [*]

@[simp] theorem State.resumeRest_same {pt : Part} {s₀ s : State} (p : Nat) (x : PTx) (close : Nat) (h0 : pt ≠ .ports) (hs :
    pt.same s₀ s) : pt.same s₀ (s.resumeRest p x close) := by
  unfold State.resumeRest
  simp +contextual (maxDischargeDepth := 30) [*]

@[simp] theorem State.windowLost_same {pt : Part} {s₀ s : State} (p c close : Nat) (h0 : pt ≠ .pages) (h1 : pt ≠ .regs)
    (h2 : pt ≠ .ports) (h3 : pt ≠ .cnt) (hs : pt.same s₀ s) : pt.same s₀ (s.windowLost p c close) := by
  unfold State.windowLost
  simp +contextual (maxDischargeDepth := 30) [*]

@[simp] theorem State.countHeld_same {pt : Part} {s₀ s : State} (p c : Nat) (h0 : pt ≠ .pages) (h1 : pt ≠ .regs)
    (h2 : pt ≠ .ports) (h3 : pt ≠ .cnt) (hs : pt.same s₀ s) : pt.same s₀ (s.countHeld p c) := by
  unfold State.countHeld
  repeat' (first | dsimp only | (simp +contextual (maxDischargeDepth := 30) [*]; done) | split |
    (refine Part.same_foldl _ _ ?_ ?_) | (refine Part.same_foldl_fst _ _ ?_ ?_) | intro _ | apply_assumption)

@[simp] theorem State.countRest_same {pt : Part} {s₀ s : State} (p : Nat) (h0 : pt ≠ .pages) (h1 : pt ≠ .regs) (h2 : pt ≠ .ports)
    (h3 : pt ≠ .cnt) (hs : pt.same s₀ s) : pt.same s₀ (s.countRest p) := by
  unfold State.countRest
  repeat' (first | dsimp only | (simp +contextual (maxDischargeDepth := 30) [*]; done) | split |
    (refine Part.same_foldl _ _ ?_ ?_) | (refine Part.same_foldl_fst _ _ ?_ ?_) | intro _ | apply_assumption)

@[simp] theorem State.countEatenHead_same {pt : Part} {s₀ s : State} (p c : Nat) (h0 : pt ≠ .pages) (h1 : pt ≠ .regs)
    (h2 : pt ≠ .ports) (h3 : pt ≠ .cnt) (hs : pt.same s₀ s) : pt.same s₀ (s.countEatenHead p c) := by
  unfold State.countEatenHead
  repeat' (first | dsimp only | (simp +contextual (maxDischargeDepth := 30) [*]; done) | split |
    (refine Part.same_foldl _ _ ?_ ?_) | (refine Part.same_foldl_fst _ _ ?_ ?_) | intro _ | apply_assumption)

@[simp] theorem State.countEatenRest_same {pt : Part} {s₀ s : State} (p : Nat) (h0 : pt ≠ .pages) (h1 : pt ≠ .regs)
    (h2 : pt ≠ .ports) (h3 : pt ≠ .cnt) (hs : pt.same s₀ s) : pt.same s₀ (s.countEatenRest p) := by
  unfold State.countEatenRest
  repeat' (first | dsimp only | (simp +contextual (maxDischargeDepth := 30) [*]; done) | split |
    (refine Part.same_foldl _ _ ?_ ?_) | (refine Part.same_foldl_fst _ _ ?_ ?_) | intro _ | apply_assumption)

@[simp] theorem State.countEaten_same {pt : Part} {s₀ s : State} (p : Nat) (h0 : pt ≠ .pages) (h1 : pt ≠ .regs) (h2 : pt ≠ .ports)
    (h3 : pt ≠ .cnt) (hs : pt.same s₀ s) : pt.same s₀ (s.countEaten p) := by
  unfold State.countEaten
  simp +contextual (maxDischargeDepth := 30) [*]

@[simp] theorem State.startPmac_same {pt : Part} {s₀ s : State} (p tDep : Nat) (h0 : pt ≠ .pages) (h1 : pt ≠ .regs)
    (h2 : pt ≠ .ports) (h3 : pt ≠ .groups) (h4 : pt ≠ .xfer) (h5 : pt ≠ .cnt) (h6 : pt ≠ .trace) (hs : pt.same s₀ s) : pt.same s₀
    (s.startPmac p tDep) := by
  unfold State.startPmac
  repeat' (first | dsimp only | (simp +contextual (maxDischargeDepth := 30) [*]; done) | split |
    (refine Part.same_foldl _ _ ?_ ?_) | (refine Part.same_foldl_fst _ _ ?_ ?_) | intro _ | apply_assumption)

@[simp] theorem State.txStep_same {pt : Part} {s₀ s : State} (p tDep : Nat) (h0 : pt ≠ .frees) (h1 : pt ≠ .pages)
    (h2 : pt ≠ .regs) (h3 : pt ≠ .ports) (h4 : pt ≠ .groups) (h5 : pt ≠ .memory) (h6 : pt ≠ .cq) (h7 : pt ≠ .xfer)
    (h8 : pt ≠ .core) (h9 : pt ≠ .cnt) (h10 : pt ≠ .trace) (h11 : pt ≠ .alarm) (h12 : pt ≠ .mover) (h13 : pt ≠ .outs) (hs :
    pt.same s₀ s) : pt.same s₀ (s.txStep p tDep) := by
  unfold State.txStep
  repeat' (first | dsimp only | (simp +contextual (maxDischargeDepth := 30) [*]; done) | split |
    (refine Part.same_foldl _ _ ?_ ?_) | (refine Part.same_foldl_fst _ _ ?_ ?_) | intro _ | apply_assumption)

@[simp] theorem State.push_same {pt : Part} {s₀ s : State} (p c tDep : Nat) (h0 : pt ≠ .frees) (h1 : pt ≠ .pages)
    (h2 : pt ≠ .regs) (h3 : pt ≠ .time) (h4 : pt ≠ .ports) (h5 : pt ≠ .groups) (h6 : pt ≠ .memory) (h7 : pt ≠ .cq)
    (h8 : pt ≠ .xfer) (h9 : pt ≠ .core) (h10 : pt ≠ .cnt) (h11 : pt ≠ .trace) (h12 : pt ≠ .alarm) (h13 : pt ≠ .mover)
    (h14 : pt ≠ .outs) (hs : pt.same s₀ s) : pt.same s₀ (s.push p c tDep) := by
  unfold State.push
  repeat' (first | dsimp only | (simp +contextual (maxDischargeDepth := 30) [*]; done) | split |
    (refine Part.same_foldl _ _ ?_ ?_) | (refine Part.same_foldl_fst _ _ ?_ ?_) | intro _ | apply_assumption)

@[simp] theorem State.sendOwn_same {pt : Part} {s₀ s : State} (p : Nat) (fr : TxFrame) (tDep : Nat) (h0 : pt ≠ .frees)
    (h1 : pt ≠ .pages) (h2 : pt ≠ .regs) (h3 : pt ≠ .time) (h4 : pt ≠ .ports) (h5 : pt ≠ .groups) (h6 : pt ≠ .memory)
    (h7 : pt ≠ .cq) (h8 : pt ≠ .xfer) (h9 : pt ≠ .core) (h10 : pt ≠ .cnt) (h11 : pt ≠ .trace) (h12 : pt ≠ .alarm)
    (h13 : pt ≠ .mover) (h14 : pt ≠ .outs) (hs : pt.same s₀ s) : pt.same s₀ (s.sendOwn p fr tDep) := by
  unfold State.sendOwn
  simp +contextual (maxDischargeDepth := 30) [*]

@[simp] theorem State.arrived_same {pt : Part} {s₀ s : State} (p : Nat) (h0 : pt ≠ .frees) (h1 : pt ≠ .pages) (h2 : pt ≠ .regs)
    (h3 : pt ≠ .ports) (h4 : pt ≠ .groups) (h5 : pt ≠ .memory) (h6 : pt ≠ .cq) (h7 : pt ≠ .xfer) (h8 : pt ≠ .core)
    (h9 : pt ≠ .cnt) (h10 : pt ≠ .trace) (h11 : pt ≠ .alarm) (h12 : pt ≠ .mover) (h13 : pt ≠ .outs) (hs : pt.same s₀ s) : pt.same
    s₀ (s.arrived p) := by
  unfold State.arrived
  simp +contextual (maxDischargeDepth := 30) [*]

@[simp] theorem State.abandon_same {pt : Part} {s₀ s : State} (p : Nat) (h0 : pt ≠ .pages) (h1 : pt ≠ .regs) (h2 : pt ≠ .ports)
    (h3 : pt ≠ .groups) (h4 : pt ≠ .xfer) (h5 : pt ≠ .cnt) (h6 : pt ≠ .trace) (hs : pt.same s₀ s) : pt.same s₀ (s.abandon p) := by
  unfold State.abandon
  repeat' (first | dsimp only | (simp +contextual (maxDischargeDepth := 30) [*]; done) | split |
    (refine Part.same_foldl _ _ ?_ ?_) | (refine Part.same_foldl_fst _ _ ?_ ?_) | intro _ | apply_assumption)

@[simp] theorem State.finishWire_same {pt : Part} {s₀ s : State} (p : Nat) (h0 : pt ≠ .pages) (h1 : pt ≠ .regs) (h2 : pt ≠ .ports)
    (h3 : pt ≠ .groups) (h4 : pt ≠ .xfer) (h5 : pt ≠ .cnt) (h6 : pt ≠ .outs) (hs : pt.same s₀ s) : pt.same s₀ (s.finishWire p) :=
    by
  unfold State.finishWire
  repeat' (first | dsimp only | (simp +contextual (maxDischargeDepth := 30) [*]; done) | split |
    (refine Part.same_foldl _ _ ?_ ?_) | (refine Part.same_foldl_fst _ _ ?_ ?_) | intro _ | apply_assumption)

@[simp] theorem State.flushPort_same {pt : Part} {s₀ s : State} (p : Nat) (h0 : pt ≠ .pages) (h1 : pt ≠ .regs) (h2 : pt ≠ .ports)
    (h3 : pt ≠ .groups) (h4 : pt ≠ .xfer) (h5 : pt ≠ .cnt) (h6 : pt ≠ .trace) (h7 : pt ≠ .outs) (hs : pt.same s₀ s) : pt.same s₀
    (s.flushPort p) := by
  unfold State.flushPort
  repeat' (first | dsimp only | (simp +contextual (maxDischargeDepth := 30) [*]; done) | split |
    (refine Part.same_foldl _ _ ?_ ?_) | (refine Part.same_foldl_fst _ _ ?_ ?_) | intro _ | apply_assumption)

@[simp] theorem State.flushTx_same {pt : Part} {s₀ s : State} (h0 : pt ≠ .frees) (h1 : pt ≠ .pages) (h2 : pt ≠ .regs)
    (h3 : pt ≠ .ports) (h4 : pt ≠ .groups) (h5 : pt ≠ .memory) (h6 : pt ≠ .cq) (h7 : pt ≠ .xfer) (h8 : pt ≠ .core)
    (h9 : pt ≠ .cnt) (h10 : pt ≠ .trace) (h11 : pt ≠ .alarm) (h12 : pt ≠ .mover) (h13 : pt ≠ .outs) (hs : pt.same s₀ s) : pt.same
    s₀ s.flushTx := by
  unfold State.flushTx
  simp +contextual (maxDischargeDepth := 30) [*]

@[simp] theorem State.holdPort_same {pt : Part} {s₀ s : State} (p : Nat) (h0 : pt ≠ .pages) (h1 : pt ≠ .regs) (h2 : pt ≠ .ports)
    (h3 : pt ≠ .groups) (h4 : pt ≠ .xfer) (h5 : pt ≠ .cnt) (h6 : pt ≠ .trace) (h7 : pt ≠ .outs) (hs : pt.same s₀ s) : pt.same s₀
    (s.holdPort p) := by
  unfold State.holdPort
  simp +contextual (maxDischargeDepth := 30) [*]

@[simp] theorem State.holdOffTx_same {pt : Part} {s₀ s : State} (h0 : pt ≠ .frees) (h1 : pt ≠ .pages) (h2 : pt ≠ .regs)
    (h3 : pt ≠ .ports) (h4 : pt ≠ .groups) (h5 : pt ≠ .memory) (h6 : pt ≠ .cq) (h7 : pt ≠ .xfer) (h8 : pt ≠ .core)
    (h9 : pt ≠ .cnt) (h10 : pt ≠ .trace) (h11 : pt ≠ .alarm) (h12 : pt ≠ .mover) (h13 : pt ≠ .outs) (hs : pt.same s₀ s) : pt.same
    s₀ s.holdOffTx := by
  unfold State.holdOffTx
  simp +contextual (maxDischargeDepth := 30) [*]

@[simp] theorem State.enqueue_same {pt : Part} {s₀ s : State} (p : Nat) (fr : TxFrame) (h0 : pt ≠ .ports) (hs : pt.same s₀ s) :
    pt.same s₀ (s.enqueue p fr) := by
  unfold State.enqueue
  simp +contextual (maxDischargeDepth := 30) [*]

@[simp] theorem State.replicate_same {pt : Part} {s₀ s : State} (handle cls typ : Nat) (tagged : Bool) (h : Hdr) (payload : List
    Byte) (origin : Nat → Origin) (loaded ts : Bool) (needBit : Option Nat) (ports : List Nat) (h0 : pt ≠ .pages)
    (h1 : pt ≠ .regs) (h2 : pt ≠ .ports) (h3 : pt ≠ .stream) (h4 : pt ≠ .cnt) (hs : pt.same s₀ s) : pt.same s₀ (s.replicate handle
    cls typ tagged h payload origin loaded ts needBit ports) := by
  unfold State.replicate
  simp +contextual (maxDischargeDepth := 30) [*]

@[simp] theorem State.modRc_same {pt : Part} {s₀ s : State} (r : Nat) (f : RcvySt → RcvySt) (h0 : pt ≠ .stream) (hs : pt.same s₀
    s) : pt.same s₀ (s.modRc r f) := by
  unfold State.modRc
  simp +contextual (maxDischargeDepth := 30) [*]

@[simp] theorem State.rcCount_same {pt : Part} {s₀ s : State} (r i n : Nat) (h0 : pt ≠ .pages) (h1 : pt ≠ .regs)
    (h2 : pt ≠ .stream) (h3 : pt ≠ .cnt) (hs : pt.same s₀ s) : pt.same s₀ (s.rcCount r i n) := by
  unfold State.rcCount
  simp +contextual (maxDischargeDepth := 30) [*]

@[simp] theorem State.rcPass_same {pt : Part} {s₀ s : State} (r src : Nat) (h0 : pt ≠ .pages) (h1 : pt ≠ .regs)
    (h2 : pt ≠ .stream) (h3 : pt ≠ .cnt) (hs : pt.same s₀ s) : pt.same s₀ (s.rcPass r src) := by
  unfold State.rcPass
  simp +contextual (maxDischargeDepth := 30) [*]

@[simp] theorem State.rcMain_same {pt : Part} {s₀ s : State} (r seq src : Nat) (lo : Word) (h0 : pt ≠ .pages) (h1 : pt ≠ .regs)
    (h2 : pt ≠ .stream) (h3 : pt ≠ .cnt) (hs : pt.same s₀ s) : pt.same s₀ (s.rcMain r seq src lo).1 := by
  unfold State.rcMain
  repeat' (first | dsimp only | (simp +contextual (maxDischargeDepth := 30) [*]; done) | split |
    (refine Part.same_foldl _ _ ?_ ?_) | (refine Part.same_foldl_fst _ _ ?_ ?_) | intro _ | apply_assumption)

@[simp] theorem State.recover_same {pt : Part} {s₀ s : State} (r port seq cycField src : Nat) (h0 : pt ≠ .pages) (h1 : pt ≠ .regs)
    (h2 : pt ≠ .stream) (h3 : pt ≠ .cnt) (hs : pt.same s₀ s) : pt.same s₀ (s.recover r port seq cycField src).1 := by
  unfold State.recover
  repeat' (first | dsimp only | (simp +contextual (maxDischargeDepth := 30) [*]; done) | split |
    (refine Part.same_foldl _ _ ?_ ?_) | (refine Part.same_foldl_fst _ _ ?_ ?_) | intro _ | apply_assumption)

@[simp] theorem State.rcTick_same {pt : Part} {s₀ s : State} (r : Nat) (h0 : pt ≠ .stream) (hs : pt.same s₀ s) : pt.same s₀
    (s.rcTick r) := by
  unfold State.rcTick
  simp +contextual (maxDischargeDepth := 30) [*]

@[simp] theorem State.rcExpire_same {pt : Part} {s₀ s : State} (r : Nat) (h0 : pt ≠ .pages) (h1 : pt ≠ .regs) (h2 : pt ≠ .stream)
    (h3 : pt ≠ .cnt) (hs : pt.same s₀ s) : pt.same s₀ (s.rcExpire r) := by
  unfold State.rcExpire
  simp +contextual (maxDischargeDepth := 30) [*]

@[simp] theorem State.rcTestClear_same {pt : Part} {s₀ s : State} (r : Nat) (h0 : pt ≠ .stream) (hs : pt.same s₀ s) : pt.same s₀
    (s.rcTestClear r) := by
  unfold State.rcTestClear
  simp +contextual (maxDischargeDepth := 30) [*]

@[simp] theorem State.rcLatentTest_same {pt : Part} {s₀ s : State} (r : Nat) (h0 : pt ≠ .pages) (h1 : pt ≠ .regs)
    (h2 : pt ≠ .stream) (h3 : pt ≠ .cnt) (hs : pt.same s₀ s) : pt.same s₀ (s.rcLatentTest r).1 := by
  unfold State.rcLatentTest
  repeat' (first | dsimp only | (simp +contextual (maxDischargeDepth := 30) [*]; done) | split |
    (refine Part.same_foldl _ _ ?_ ?_) | (refine Part.same_foldl_fst _ _ ?_ ?_) | intro _ | apply_assumption)

@[simp] theorem State.rcTimers_same {pt : Part} {s₀ s : State} (h0 : pt ≠ .stream) (hs : pt.same s₀ s) : pt.same s₀ s.rcTimers :=
    by
  unfold State.rcTimers
  simp +contextual (maxDischargeDepth := 30) [*]

@[simp] theorem State.streamSwitch_same {pt : Part} {s₀ s : State} (old new : Bank) (cut : Option Nat) (h0 : pt ≠ .pages)
    (h1 : pt ≠ .regs) (h2 : pt ≠ .stream) (h3 : pt ≠ .cnt) (hs : pt.same s₀ s) : pt.same s₀ (s.streamSwitch old new cut) := by
  unfold State.streamSwitch
  simp +contextual (maxDischargeDepth := 30) [*]

@[simp] theorem State.writeRcvySel_same {pt : Part} {s₀ s : State} (v : Word) (h0 : pt ≠ .regs) (h1 : pt ≠ .stream) (hs : pt.same
    s₀ s) : pt.same s₀ (s.writeRcvySel v) := by
  unfold State.writeRcvySel
  simp +contextual (maxDischargeDepth := 30) [*]

@[simp] theorem State.rcReset_same {pt : Part} {s₀ s : State} (h0 : pt ≠ .stream) (hs : pt.same s₀ s) : pt.same s₀ s.rcReset := by
  unfold State.rcReset
  simp +contextual (maxDischargeDepth := 30) [*]

@[simp] theorem State.rcClear_same {pt : Part} {s₀ s : State} (h0 : pt ≠ .stream) (hs : pt.same s₀ s) : pt.same s₀ s.rcClear := by
  unfold State.rcClear
  simp +contextual (maxDischargeDepth := 30) [*]

@[simp] theorem State.writeRcvyCtrl_same {pt : Part} {s₀ s : State} (v : Word) (h0 : pt ≠ .stream) (hs : pt.same s₀ s) : pt.same
    s₀ (s.writeRcvyCtrl v) := by
  unfold State.writeRcvyCtrl
  simp +contextual (maxDischargeDepth := 30) [*]

@[simp] theorem State.writeGenSel_same {pt : Part} {s₀ s : State} (v : Word) (h0 : pt ≠ .regs) (h1 : pt ≠ .stream) (hs : pt.same
    s₀ s) : pt.same s₀ (s.writeGenSel v) := by
  unfold State.writeGenSel
  simp +contextual (maxDischargeDepth := 30) [*]

@[simp] theorem State.writeGenCtrl_same {pt : Part} {s₀ s : State} (v : Word) (h0 : pt ≠ .stream) (hs : pt.same s₀ s) : pt.same s₀
    (s.writeGenCtrl v) := by
  unfold State.writeGenCtrl
  simp +contextual (maxDischargeDepth := 30) [*]

@[simp] theorem State.freeSlices_same {pt : Part} {s₀ s : State} (named : List Nat) (h0 : pt ≠ .groups) (h1 : pt ≠ .evt)
    (h2 : pt ≠ .scratch) (hs : pt.same s₀ s) : pt.same s₀ (s.freeSlices named) := by
  unfold State.freeSlices
  simp +contextual (maxDischargeDepth := 30) [*]

@[simp] theorem State.expectTest_same {pt : Part} {s₀ s : State} (z : Nat) (h0 : pt ≠ .frees) (h1 : pt ≠ .pages) (h2 : pt ≠ .regs)
    (h3 : pt ≠ .memory) (h4 : pt ≠ .cq) (h5 : pt ≠ .xfer) (h6 : pt ≠ .core) (h7 : pt ≠ .cnt) (h8 : pt ≠ .trace) (h9 : pt ≠ .alarm)
    (h10 : pt ≠ .outs) (hs : pt.same s₀ s) : pt.same s₀ (s.expectTest z) := by
  unfold State.expectTest
  simp +contextual (maxDischargeDepth := 30) [*]

@[simp] theorem State.modZone_same {pt : Part} {s₀ s : State} (z : Nat) (f : ZoneSt → ZoneSt) (h0 : pt ≠ .lz) (hs : pt.same s₀ s)
    : pt.same s₀ (s.modZone z f) := by
  unfold State.modZone
  simp +contextual (maxDischargeDepth := 30) [*]

@[simp] theorem State.landed_same {pt : Part} {s₀ s : State} (z n : Nat) (h0 : pt ≠ .frees) (h1 : pt ≠ .pages) (h2 : pt ≠ .regs)
    (h3 : pt ≠ .memory) (h4 : pt ≠ .cq) (h5 : pt ≠ .xfer) (h6 : pt ≠ .lz) (h7 : pt ≠ .core) (h8 : pt ≠ .cnt) (h9 : pt ≠ .trace)
    (h10 : pt ≠ .alarm) (h11 : pt ≠ .outs) (hs : pt.same s₀ s) : pt.same s₀ (s.landed z n) := by
  unfold State.landed
  simp +contextual (maxDischargeDepth := 30) [*]

@[simp] theorem State.zonePoison_same {pt : Part} {s₀ s : State} (z : Nat) (h0 : pt ≠ .frees) (h1 : pt ≠ .pages) (h2 : pt ≠ .regs)
    (h3 : pt ≠ .memory) (h4 : pt ≠ .cq) (h5 : pt ≠ .xfer) (h6 : pt ≠ .lz) (h7 : pt ≠ .core) (h8 : pt ≠ .cnt) (h9 : pt ≠ .trace)
    (h10 : pt ≠ .alarm) (h11 : pt ≠ .outs) (hs : pt.same s₀ s) : pt.same s₀ (s.zonePoison z) := by
  unfold State.zonePoison
  simp +contextual (maxDischargeDepth := 30) [*]

@[simp] theorem State.rejectRoom_same {pt : Part} {s₀ s : State} (h0 : pt ≠ .lz) (hs : pt.same s₀ s) : pt.same s₀ s.rejectRoom :=
    by
  unfold State.rejectRoom
  simp +contextual (maxDischargeDepth := 30) [*]

@[simp] theorem State.reject_same {pt : Part} {s₀ s : State} (src zone chk : Nat) (h0 : pt ≠ .pages) (h1 : pt ≠ .regs)
    (h2 : pt ≠ .lz) (h3 : pt ≠ .cnt) (h4 : pt ≠ .alarm) (hs : pt.same s₀ s) : pt.same s₀ (s.reject src zone chk).1 := by
  unfold State.reject
  repeat' (first | dsimp only | (simp +contextual (maxDischargeDepth := 30) [*]; done) | split |
    (refine Part.same_foldl _ _ ?_ ?_) | (refine Part.same_foldl_fst _ _ ?_ ?_) | intro _ | apply_assumption)

@[simp] theorem State.refPoint_same {pt : Part} {s₀ s : State} (z : Nat) (h0 : pt ≠ .mover) (hs : pt.same s₀ s) : pt.same s₀
    (s.refPoint z) := by
  unfold State.refPoint
  simp +contextual (maxDischargeDepth := 30) [*]

@[simp] theorem State.zoneSwitch_same {pt : Part} {s₀ s : State} (z : Nat) (h0 : pt ≠ .lz) (hs : pt.same s₀ s) : pt.same s₀
    (s.zoneSwitch z) := by
  unfold State.zoneSwitch
  simp +contextual (maxDischargeDepth := 30) [*]

@[simp] theorem State.zonesSwitch_same {pt : Part} {s₀ s : State} (old new : Bank) (h0 : pt ≠ .frees) (h1 : pt ≠ .pages)
    (h2 : pt ≠ .regs) (h3 : pt ≠ .groups) (h4 : pt ≠ .evt) (h5 : pt ≠ .memory) (h6 : pt ≠ .cq) (h7 : pt ≠ .xfer) (h8 : pt ≠ .lz)
    (h9 : pt ≠ .core) (h10 : pt ≠ .scratch) (h11 : pt ≠ .cnt) (h12 : pt ≠ .trace) (h13 : pt ≠ .alarm) (h14 : pt ≠ .mover)
    (h15 : pt ≠ .outs) (hs : pt.same s₀ s) : pt.same s₀ (s.zonesSwitch old new) := by
  unfold State.zonesSwitch
  simp +contextual (maxDischargeDepth := 30) [*]

@[simp] theorem State.lzEdit_same {pt : Part} {s₀ s : State} (z : Nat) (h0 : pt ≠ .pages) (h1 : pt ≠ .slate) (h2 : pt ≠ .groups)
    (h3 : pt ≠ .evt) (h4 : pt ≠ .scratch) (hs : pt.same s₀ s) : pt.same s₀ (s.lzEdit z) := by
  unfold State.lzEdit
  simp +contextual (maxDischargeDepth := 30) [*]

@[simp] theorem State.writeEditCtrl_same {pt : Part} {s₀ s : State} (v : Word) (h0 : pt ≠ .pages) (h1 : pt ≠ .slate)
    (h2 : pt ≠ .groups) (h3 : pt ≠ .evt) (h4 : pt ≠ .scratch) (hs : pt.same s₀ s) : pt.same s₀ (s.writeEditCtrl v) := by
  unfold State.writeEditCtrl
  simp +contextual (maxDischargeDepth := 30) [*]

@[simp] theorem State.rejectClear_same {pt : Part} {s₀ s : State} (h0 : pt ≠ .lz) (hs : pt.same s₀ s) : pt.same s₀ s.rejectClear
    := by
  unfold State.rejectClear
  simp +contextual (maxDischargeDepth := 30) [*]

@[simp] theorem State.writeRejectCtrl_same {pt : Part} {s₀ s : State} (v : Word) (h0 : pt ≠ .lz) (hs : pt.same s₀ s) : pt.same s₀
    (s.writeRejectCtrl v) := by
  unfold State.writeRejectCtrl
  simp +contextual (maxDischargeDepth := 30) [*]

@[simp] theorem State.writeZoneSel_same {pt : Part} {s₀ s : State} (v : Word) (h0 : pt ≠ .regs) (h1 : pt ≠ .lz) (hs : pt.same s₀
    s) : pt.same s₀ (s.writeZoneSel v) := by
  unfold State.writeZoneSel
  simp +contextual (maxDischargeDepth := 30) [*]

@[simp] theorem State.modSlate_same {pt : Part} {s₀ s : State} (f : SlateSt → SlateSt) (h0 : pt ≠ .slate) (hs : pt.same s₀ s) :
    pt.same s₀ (s.modSlate f) := by
  unfold State.modSlate
  simp +contextual (maxDischargeDepth := 30) [*]

@[simp] theorem State.setCut_same {pt : Part} {s₀ s : State} (c : CutState) (h0 : pt ≠ .pages) (h1 : pt ≠ .regs)
    (h2 : pt ≠ .slate) (h3 : pt ≠ .cnt) (h4 : pt ≠ .trace) (hs : pt.same s₀ s) : pt.same s₀ (s.setCut c) := by
  unfold State.setCut
  simp +contextual (maxDischargeDepth := 30) [*]

@[simp] theorem State.startCheck_same {pt : Part} {s₀ s : State} (h0 : pt ≠ .pages) (h1 : pt ≠ .regs) (h2 : pt ≠ .slate)
    (h3 : pt ≠ .cnt) (hs : pt.same s₀ s) : pt.same s₀ s.startCheck := by
  unfold State.startCheck
  simp +contextual (maxDischargeDepth := 30) [*]

@[simp] theorem State.adoptBusy_same {pt : Part} {s₀ s : State} (code : Nat) (h0 : pt ≠ .pages) (h1 : pt ≠ .slate) (hs : pt.same
    s₀ s) : pt.same s₀ (s.adoptBusy code) := by
  unfold State.adoptBusy
  simp +contextual (maxDischargeDepth := 30) [*]

@[simp] theorem State.adoptFails_same {pt : Part} {s₀ s : State} (code off : Nat) (h0 : pt ≠ .pages) (h1 : pt ≠ .slate) (hs :
    pt.same s₀ s) : pt.same s₀ (s.adoptFails code off) := by
  unfold State.adoptFails
  simp +contextual (maxDischargeDepth := 30) [*]

@[simp] theorem State.stagedWritten_same {pt : Part} {s₀ s : State} (h0 : pt ≠ .pages) (h1 : pt ≠ .slate) (hs : pt.same s₀ s) :
    pt.same s₀ s.stagedWritten := by
  unfold State.stagedWritten
  simp +contextual (maxDischargeDepth := 30) [*]

@[simp] theorem State.validationDone_same {pt : Part} {s₀ s : State} (h0 : pt ≠ .pages) (h1 : pt ≠ .regs) (h2 : pt ≠ .slate)
    (h3 : pt ≠ .cnt) (hs : pt.same s₀ s) : pt.same s₀ s.validationDone := by
  unfold State.validationDone
  repeat' (first | dsimp only | (simp +contextual (maxDischargeDepth := 30) [*]; done) | split |
    (refine Part.same_foldl _ _ ?_ ?_) | (refine Part.same_foldl_fst _ _ ?_ ?_) | intro _ | apply_assumption)

@[simp] theorem State.claimSlate_same {pt : Part} {s₀ s : State} (h0 : pt ≠ .slate) (h1 : pt ≠ .groups) (h2 : pt ≠ .evt)
    (h3 : pt ≠ .scratch) (hs : pt.same s₀ s) : pt.same s₀ s.claimSlate := by
  unfold State.claimSlate
  simp +contextual (maxDischargeDepth := 30) [*]

@[simp] theorem State.claimsSwitch_same {pt : Part} {s₀ s : State} (new : Bank) (p : Nat) (h0 : pt ≠ .pages) (h1 : pt ≠ .regs)
    (h2 : pt ≠ .ports) (h3 : pt ≠ .cnt) (hs : pt.same s₀ s) : pt.same s₀ (s.claimsSwitch new p) := by
  unfold State.claimsSwitch
  simp +contextual (maxDischargeDepth := 30) [*]

@[simp] theorem State.restSwitch_same {pt : Part} {s₀ s : State} (new : Bank) (p : Nat) (h0 : pt ≠ .pages) (h1 : pt ≠ .regs)
    (h2 : pt ≠ .ports) (h3 : pt ≠ .groups) (h4 : pt ≠ .xfer) (h5 : pt ≠ .cnt) (h6 : pt ≠ .trace) (h7 : pt ≠ .outs) (hs : pt.same
    s₀ s) : pt.same s₀ (s.restSwitch new p) := by
  unfold State.restSwitch
  repeat' (first | dsimp only | (simp +contextual (maxDischargeDepth := 30) [*]; done) | split |
    (refine Part.same_foldl _ _ ?_ ?_) | (refine Part.same_foldl_fst _ _ ?_ ?_) | intro _ | apply_assumption)

@[simp] theorem State.switchBanks_same {pt : Part} {s₀ s : State} (cut : Option Nat) (h0 : pt ≠ .frees) (h1 : pt ≠ .pages)
    (h2 : pt ≠ .regs) (h3 : pt ≠ .slate) (h4 : pt ≠ .ports) (h5 : pt ≠ .groups) (h6 : pt ≠ .stream) (h7 : pt ≠ .evt)
    (h8 : pt ≠ .memory) (h9 : pt ≠ .cq) (h10 : pt ≠ .xfer) (h11 : pt ≠ .lz) (h12 : pt ≠ .core) (h13 : pt ≠ .scratch)
    (h14 : pt ≠ .cnt) (h15 : pt ≠ .trace) (h16 : pt ≠ .alarm) (h17 : pt ≠ .mover) (h18 : pt ≠ .outs) (hs : pt.same s₀ s) : pt.same
    s₀ (s.switchBanks cut) := by
  unfold State.switchBanks
  simp +contextual (maxDischargeDepth := 30) [*]

@[simp] theorem State.refuseCut_same {pt : Part} {s₀ s : State} (reason : Nat) (h0 : pt ≠ .pages) (h1 : pt ≠ .regs)
    (h2 : pt ≠ .slate) (h3 : pt ≠ .groups) (h4 : pt ≠ .evt) (h5 : pt ≠ .scratch) (h6 : pt ≠ .cnt) (h7 : pt ≠ .trace)
    (h8 : pt ≠ .alarm) (hs : pt.same s₀ s) : pt.same s₀ (s.refuseCut reason) := by
  unfold State.refuseCut
  simp +contextual (maxDischargeDepth := 30) [*]

@[simp] theorem State.commitPoint_same {pt : Part} {s₀ s : State} (h0 : pt ≠ .pages) (h1 : pt ≠ .regs) (h2 : pt ≠ .slate)
    (h3 : pt ≠ .groups) (h4 : pt ≠ .evt) (h5 : pt ≠ .scratch) (h6 : pt ≠ .cnt) (h7 : pt ≠ .trace) (h8 : pt ≠ .alarm) (hs : pt.same
    s₀ s) : pt.same s₀ s.commitPoint := by
  unfold State.commitPoint
  repeat' (first | dsimp only | (simp +contextual (maxDischargeDepth := 30) [*]; done) | split |
    (refine Part.same_foldl _ _ ?_ ?_) | (refine Part.same_foldl_fst _ _ ?_ ?_) | intro _ | apply_assumption)

@[simp] theorem State.applyCut_same {pt : Part} {s₀ s : State} (h0 : pt ≠ .frees) (h1 : pt ≠ .pages) (h2 : pt ≠ .regs)
    (h3 : pt ≠ .slate) (h4 : pt ≠ .ports) (h5 : pt ≠ .groups) (h6 : pt ≠ .stream) (h7 : pt ≠ .evt) (h8 : pt ≠ .memory)
    (h9 : pt ≠ .cq) (h10 : pt ≠ .xfer) (h11 : pt ≠ .lz) (h12 : pt ≠ .core) (h13 : pt ≠ .scratch) (h14 : pt ≠ .cnt)
    (h15 : pt ≠ .trace) (h16 : pt ≠ .alarm) (h17 : pt ≠ .mover) (h18 : pt ≠ .outs) (hs : pt.same s₀ s) : pt.same s₀ s.applyCut :=
    by
  unfold State.applyCut
  simp +contextual (maxDischargeDepth := 30) [*]

@[simp] theorem State.cutCycleStart_same {pt : Part} {s₀ s : State} (h0 : pt ≠ .frees) (h1 : pt ≠ .pages) (h2 : pt ≠ .regs)
    (h3 : pt ≠ .slate) (h4 : pt ≠ .ports) (h5 : pt ≠ .groups) (h6 : pt ≠ .stream) (h7 : pt ≠ .evt) (h8 : pt ≠ .memory)
    (h9 : pt ≠ .cq) (h10 : pt ≠ .xfer) (h11 : pt ≠ .lz) (h12 : pt ≠ .core) (h13 : pt ≠ .scratch) (h14 : pt ≠ .cnt)
    (h15 : pt ≠ .trace) (h16 : pt ≠ .alarm) (h17 : pt ≠ .mover) (h18 : pt ≠ .outs) (hs : pt.same s₀ s) : pt.same s₀
    s.cutCycleStart := by
  unfold State.cutCycleStart
  simp +contextual (maxDischargeDepth := 30) [*]

@[simp] theorem State.writeTable_same {pt : Part} {s₀ s : State} (off : Nat) (v : Word) (h0 : pt ≠ .pages) (h1 : pt ≠ .slate) (hs
    : pt.same s₀ s) : pt.same s₀ (s.writeTable off v) := by
  unfold State.writeTable
  simp +contextual (maxDischargeDepth := 30) [*]

@[simp] theorem State.writeRwc_same {pt : Part} {s₀ s : State} (k : PageKind) (po : Nat) (v : Word) (h0 : pt ≠ .pages)
    (h1 : pt ≠ .slate) (hs : pt.same s₀ s) : pt.same s₀ (s.writeRwc k po v) := by
  unfold State.writeRwc
  simp +contextual (maxDischargeDepth := 30) [*]

@[simp] theorem State.writeCutCycle_same {pt : Part} {s₀ s : State} (x : Nat) (h0 : pt ≠ .pages) (h1 : pt ≠ .regs)
    (h2 : pt ≠ .slate) (h3 : pt ≠ .cnt) (h4 : pt ≠ .trace) (hs : pt.same s₀ s) : pt.same s₀ (s.writeCutCycle x) := by
  unfold State.writeCutCycle
  simp +contextual (maxDischargeDepth := 30) [*]

@[simp] theorem State.slateCheck_same {pt : Part} {s₀ s : State} (h0 : pt ≠ .pages) (h1 : pt ≠ .regs) (h2 : pt ≠ .slate)
    (h3 : pt ≠ .cnt) (hs : pt.same s₀ s) : pt.same s₀ s.slateCheck := by
  unfold State.slateCheck
  simp +contextual (maxDischargeDepth := 30) [*]

@[simp] theorem State.cutCancel_same {pt : Part} {s₀ s : State} (h0 : pt ≠ .pages) (h1 : pt ≠ .regs) (h2 : pt ≠ .slate)
    (h3 : pt ≠ .cnt) (h4 : pt ≠ .trace) (hs : pt.same s₀ s) : pt.same s₀ s.cutCancel := by
  unfold State.cutCancel
  simp +contextual (maxDischargeDepth := 30) [*]

@[simp] theorem State.writeSlateCtrl_same {pt : Part} {s₀ s : State} (v : Word) (h0 : pt ≠ .pages) (h1 : pt ≠ .regs)
    (h2 : pt ≠ .slate) (h3 : pt ≠ .cnt) (h4 : pt ≠ .trace) (hs : pt.same s₀ s) : pt.same s₀ (s.writeSlateCtrl v) := by
  unfold State.writeSlateCtrl
  simp +contextual (maxDischargeDepth := 30) [*]

@[simp] theorem State.adopt_same {pt : Part} {s₀ s : State} (h0 : pt ≠ .pages) (h1 : pt ≠ .regs) (h2 : pt ≠ .slate)
    (h3 : pt ≠ .cnt) (hs : pt.same s₀ s) : pt.same s₀ s.adopt := by
  unfold State.adopt
  simp +contextual (maxDischargeDepth := 30) [*]

@[simp] theorem State.adoptSwitch_same {pt : Part} {s₀ s : State} (h0 : pt ≠ .frees) (h1 : pt ≠ .pages) (h2 : pt ≠ .regs)
    (h3 : pt ≠ .slate) (h4 : pt ≠ .ports) (h5 : pt ≠ .groups) (h6 : pt ≠ .stream) (h7 : pt ≠ .evt) (h8 : pt ≠ .memory)
    (h9 : pt ≠ .cq) (h10 : pt ≠ .xfer) (h11 : pt ≠ .lz) (h12 : pt ≠ .core) (h13 : pt ≠ .scratch) (h14 : pt ≠ .cnt)
    (h15 : pt ≠ .trace) (h16 : pt ≠ .alarm) (h17 : pt ≠ .mover) (h18 : pt ≠ .outs) (hs : pt.same s₀ s) : pt.same s₀ s.adoptSwitch
    := by
  unfold State.adoptSwitch
  repeat' (first | dsimp only | (simp +contextual (maxDischargeDepth := 30) [*]; done) | split |
    (refine Part.same_foldl _ _ ?_ ?_) | (refine Part.same_foldl_fst _ _ ?_ ?_) | intro _ | apply_assumption)

@[simp] theorem State.guarded_same {pt : Part} {s₀ s : State} (k : PageKind) (i po : Nat) (acc : Acc) (feat : Nat) (f : State →
    State) (h0 : pt ≠ .pages) (hs : pt.same s₀ s) (hf : ∀ u, pt.same s₀ u → pt.same s₀ (f u)) : pt.same s₀ (s.guarded k i po acc
    feat f) := by
  unfold State.guarded
  simp +contextual (maxDischargeDepth := 30) [*]

@[simp] theorem State.roWrite_same {pt : Part} {s₀ s : State} (k : PageKind) (i po feat : Nat) (h0 : pt ≠ .pages) (hs : pt.same s₀
    s) : pt.same s₀ (s.roWrite k i po feat) := by
  unfold State.roWrite
  simp +contextual (maxDischargeDepth := 30) [*]

@[simp] theorem State.regWrite_same {pt : Part} {s₀ s : State} (k : PageKind) (i po : Nat) (f : State → State) (h0 : pt ≠ .pages)
    (hs : pt.same s₀ s) (hf : ∀ u, pt.same s₀ u → pt.same s₀ (f u)) : pt.same s₀ (s.regWrite k i po f) := by
  unfold State.regWrite
  repeat' (first | dsimp only | (simp +contextual (maxDischargeDepth := 30) [*]; done) | split |
    (refine Part.same_foldl _ _ ?_ ?_) | (refine Part.same_foldl_fst _ _ ?_ ?_) | intro _ | apply_assumption)

@[simp] theorem State.regWriteV_same {pt : Part} {s₀ s : State} (k : PageKind) (i po : Nat) (v : Word) (f : State → Word → State)
    (h0 : pt ≠ .pages) (hs : pt.same s₀ s) (hf : ∀ u w, pt.same s₀ u → pt.same s₀ (f u w)) : pt.same s₀ (s.regWriteV k i po v f)
    := by
  unfold State.regWriteV
  repeat' (first | dsimp only | (simp +contextual (maxDischargeDepth := 30) [*]; done) | split |
    (refine Part.same_foldl _ _ ?_ ?_) | (refine Part.same_foldl_fst _ _ ?_ ?_) | intro _ | apply_assumption)

@[simp] theorem State.hdrWrite_same {pt : Part} {s₀ s : State} (k : PageKind) (i po : Nat) (f : State → State) (h0 : pt ≠ .pages)
    (hs : pt.same s₀ s) (hf : ∀ u, pt.same s₀ u → pt.same s₀ (f u)) : pt.same s₀ (s.hdrWrite k i po f) := by
  unfold State.hdrWrite
  simp +contextual (maxDischargeDepth := 30) [*]

@[simp] theorem State.regRead_same {pt : Part} {s₀ s : State} (k : PageKind) (po : Nat) (f : State → State) (h0 : pt ≠ .outs) (hs
    : pt.same s₀ s) (hf : ∀ u, pt.same s₀ u → pt.same s₀ (f u)) : pt.same s₀ (s.regRead k po f) := by
  unfold State.regRead
  repeat' (first | dsimp only | (simp +contextual (maxDischargeDepth := 30) [*]; done) | split |
    (refine Part.same_foldl _ _ ?_ ?_) | (refine Part.same_foldl_fst _ _ ?_ ?_) | intro _ | apply_assumption)

end Sys2Proof.Machine
end

