-- ==== Sys2Proof/Laws/PartsTime.lean ====
section
/-! SUPPORT. Which parts of the state the operations of faults, alarms, fabric and civil time, the node and claims touch: every other part stays as it is. -/

namespace Sys2Proof.Machine

open Sys2Proof

@[simp] theorem State.modFault_same {pt : Part} {s₀ s : State} (f : FaultSt → FaultSt) (h0 : pt ≠ .fault) (hs : pt.same s₀ s) :
    pt.same s₀ (s.modFault f) := by
  unfold State.modFault
  simp +contextual (maxDischargeDepth := 30) [*]

@[simp] theorem State.faultIn_same {pt : Part} {s₀ s : State} (r : FaultReport) (h0 : pt ≠ .pages) (h1 : pt ≠ .regs)
    (h2 : pt ≠ .cnt) (h3 : pt ≠ .alarm) (h4 : pt ≠ .fault) (hs : pt.same s₀ s) : pt.same s₀ (s.faultIn r) := by
  unfold State.faultIn
  simp +contextual (maxDischargeDepth := 30) [*]

@[simp] theorem State.sendReport_same {pt : Part} {s₀ s : State} (r : FaultReport) (h0 : pt ≠ .frees) (h1 : pt ≠ .pages)
    (h2 : pt ≠ .regs) (h3 : pt ≠ .ports) (h4 : pt ≠ .groups) (h5 : pt ≠ .stream) (h6 : pt ≠ .memory) (h7 : pt ≠ .cq)
    (h8 : pt ≠ .xfer) (h9 : pt ≠ .core) (h10 : pt ≠ .cnt) (h11 : pt ≠ .trace) (h12 : pt ≠ .alarm) (h13 : pt ≠ .fault)
    (h14 : pt ≠ .mover) (h15 : pt ≠ .outs) (hs : pt.same s₀ s) : pt.same s₀ (s.sendReport r) := by
  unfold State.sendReport
  repeat' (first | dsimp only | (simp +contextual (maxDischargeDepth := 30) [*]; done) | split |
    (refine Part.same_foldl _ _ ?_ ?_) | (refine Part.same_foldl_fst _ _ ?_ ?_) | intro _ | apply_assumption)

@[simp] theorem State.limit_same {pt : Part} {s₀ s : State} (node port code detail : Nat) (h0 : pt ≠ .frees) (h1 : pt ≠ .pages)
    (h2 : pt ≠ .regs) (h3 : pt ≠ .ports) (h4 : pt ≠ .groups) (h5 : pt ≠ .stream) (h6 : pt ≠ .memory) (h7 : pt ≠ .cq)
    (h8 : pt ≠ .xfer) (h9 : pt ≠ .core) (h10 : pt ≠ .cnt) (h11 : pt ≠ .trace) (h12 : pt ≠ .alarm) (h13 : pt ≠ .fault)
    (h14 : pt ≠ .mover) (h15 : pt ≠ .outs) (hs : pt.same s₀ s) : pt.same s₀ (s.limit node port code detail) := by
  unfold State.limit
  repeat' (first | dsimp only | (simp +contextual (maxDischargeDepth := 30) [*]; done) | split |
    (refine Part.same_foldl _ _ ?_ ?_) | (refine Part.same_foldl_fst _ _ ?_ ?_) | intro _ | apply_assumption)

@[simp] theorem State.report_same {pt : Part} {s₀ s : State} (code : Nat) (subject : Option (Nat × Nat)) (detail : Nat)
    (h0 : pt ≠ .frees) (h1 : pt ≠ .pages) (h2 : pt ≠ .regs) (h3 : pt ≠ .ports) (h4 : pt ≠ .groups) (h5 : pt ≠ .stream)
    (h6 : pt ≠ .memory) (h7 : pt ≠ .cq) (h8 : pt ≠ .xfer) (h9 : pt ≠ .core) (h10 : pt ≠ .cnt) (h11 : pt ≠ .trace)
    (h12 : pt ≠ .alarm) (h13 : pt ≠ .fault) (h14 : pt ≠ .mover) (h15 : pt ≠ .outs) (hs : pt.same s₀ s) : pt.same s₀ (s.report code
    subject detail) := by
  unfold State.report
  repeat' (first | dsimp only | (simp +contextual (maxDischargeDepth := 30) [*]; done) | split |
    (refine Part.same_foldl _ _ ?_ ?_) | (refine Part.same_foldl_fst _ _ ?_ ?_) | intro _ | apply_assumption)

@[simp] theorem State.raisePort_same {pt : Part} {s₀ s : State} (cls p detail code : Nat) (h0 : pt ≠ .frees) (h1 : pt ≠ .pages)
    (h2 : pt ≠ .regs) (h3 : pt ≠ .ports) (h4 : pt ≠ .groups) (h5 : pt ≠ .stream) (h6 : pt ≠ .memory) (h7 : pt ≠ .cq)
    (h8 : pt ≠ .xfer) (h9 : pt ≠ .core) (h10 : pt ≠ .cnt) (h11 : pt ≠ .trace) (h12 : pt ≠ .alarm) (h13 : pt ≠ .fault)
    (h14 : pt ≠ .mover) (h15 : pt ≠ .outs) (hs : pt.same s₀ s) : pt.same s₀ (s.raisePort cls p detail code) := by
  unfold State.raisePort
  simp +contextual (maxDischargeDepth := 30) [*]

@[simp] theorem State.faultSend_same {pt : Part} {s₀ s : State} (h0 : pt ≠ .frees) (h1 : pt ≠ .pages) (h2 : pt ≠ .regs)
    (h3 : pt ≠ .ports) (h4 : pt ≠ .groups) (h5 : pt ≠ .stream) (h6 : pt ≠ .memory) (h7 : pt ≠ .cq) (h8 : pt ≠ .xfer)
    (h9 : pt ≠ .core) (h10 : pt ≠ .cnt) (h11 : pt ≠ .trace) (h12 : pt ≠ .alarm) (h13 : pt ≠ .fault) (h14 : pt ≠ .mover)
    (h15 : pt ≠ .outs) (hs : pt.same s₀ s) : pt.same s₀ s.faultSend := by
  unfold State.faultSend
  simp +contextual (maxDischargeDepth := 30) [*]

@[simp] theorem State.writeFaultSw_same {pt : Part} {s₀ s : State} (v : Word) (h0 : pt ≠ .frees) (h1 : pt ≠ .pages)
    (h2 : pt ≠ .regs) (h3 : pt ≠ .ports) (h4 : pt ≠ .groups) (h5 : pt ≠ .stream) (h6 : pt ≠ .memory) (h7 : pt ≠ .cq)
    (h8 : pt ≠ .xfer) (h9 : pt ≠ .core) (h10 : pt ≠ .cnt) (h11 : pt ≠ .trace) (h12 : pt ≠ .alarm) (h13 : pt ≠ .fault)
    (h14 : pt ≠ .mover) (h15 : pt ≠ .outs) (hs : pt.same s₀ s) : pt.same s₀ (s.writeFaultSw v) := by
  unfold State.writeFaultSw
  simp +contextual (maxDischargeDepth := 30) [*]

@[simp] theorem State.repByte_same {pt : Part} {s₀ s : State} (e n : Nat) (h0 : pt ≠ .frees) (h1 : pt ≠ .pages) (h2 : pt ≠ .regs)
    (h3 : pt ≠ .memory) (h4 : pt ≠ .cnt) (h5 : pt ≠ .alarm) (hs : pt.same s₀ s) : pt.same s₀ (s.repByte e n).1 := by
  unfold State.repByte
  simp +contextual (maxDischargeDepth := 30) [*]

@[simp] theorem State.setRepBit_same {pt : Part} {s₀ s : State} (e n old : Nat) (on : Bool) (h0 : pt ≠ .frees) (h1 : pt ≠ .pages)
    (h2 : pt ≠ .regs) (h3 : pt ≠ .memory) (h4 : pt ≠ .cnt) (h5 : pt ≠ .alarm) (hs : pt.same s₀ s) : pt.same s₀ (s.setRepBit e n
    old on) := by
  unfold State.setRepBit
  simp +contextual (maxDischargeDepth := 30) [*]

@[simp] theorem State.clearReps_same {pt : Part} {s₀ s : State} (e : Nat) (h0 : pt ≠ .frees) (h1 : pt ≠ .pages) (h2 : pt ≠ .regs)
    (h3 : pt ≠ .memory) (h4 : pt ≠ .cnt) (h5 : pt ≠ .alarm) (hs : pt.same s₀ s) : pt.same s₀ (s.clearReps e) := by
  unfold State.clearReps
  simp +contextual (maxDischargeDepth := 30) [*]

@[simp] theorem State.setEntry_same {pt : Part} {s₀ s : State} (e : Nat) (x : FaultEntry) (h0 : pt ≠ .fault) (hs : pt.same s₀ s) :
    pt.same s₀ (s.setEntry e x) := by
  unfold State.setEntry
  simp +contextual (maxDischargeDepth := 30) [*]

@[simp] theorem State.openEntry_same {pt : Part} {s₀ s : State} (e : Nat) (r : FaultReport) (h0 : pt ≠ .pages) (h1 : pt ≠ .regs)
    (h2 : pt ≠ .cnt) (h3 : pt ≠ .alarm) (h4 : pt ≠ .fault) (hs : pt.same s₀ s) : pt.same s₀ (s.openEntry e r) := by
  unfold State.openEntry
  simp +contextual (maxDischargeDepth := 30) [*]

@[simp] theorem State.updateEntry_same {pt : Part} {s₀ s : State} (e : Nat) (r : FaultReport) (h0 : pt ≠ .frees) (h1 : pt ≠ .pages) (h2 : pt ≠ .regs) (h3 : pt ≠ .memory) (h4 : pt ≠ .cnt) (h5 : pt ≠ .alarm) (h6 : pt ≠ .fault)
    (hs : pt.same s₀ s) : pt.same s₀ (s.updateEntry e r) := by
  have hb : pt.same s₀ (s.repByte e r.src).1 := by simp [*]
  have hx : ∀ u x, pt.same s₀ u → pt.same s₀ (State.setEntry u e x) := fun u x hu => by simp [*]
  have hr : ∀ u n o b, pt.same s₀ u → pt.same s₀ (State.setRepBit u e n o b) := fun u n o b hu => by simp [*]
  unfold State.updateEntry
  split
  · exact hs
  · exact Part.same_ite (hx _ _ (hr _ _ _ _ hb)) (Part.same_ite (hx _ _ (hr _ _ _ _ hb)) (hx _ _ hb))

@[simp] theorem State.aggregate_same {pt : Part} {s₀ s : State} (r : FaultReport) (h0 : pt ≠ .frees) (h1 : pt ≠ .pages)
    (h2 : pt ≠ .regs) (h3 : pt ≠ .memory) (h4 : pt ≠ .cnt) (h5 : pt ≠ .alarm) (h6 : pt ≠ .fault) (hs : pt.same s₀ s) : pt.same s₀
    (s.aggregate r) := by
  unfold State.aggregate
  repeat' (first | dsimp only | (simp +contextual (maxDischargeDepth := 30) [*]; done) | split |
    (refine Part.same_foldl _ _ ?_ ?_) | (refine Part.same_foldl_fst _ _ ?_ ?_) | intro _ | apply_assumption)

@[simp] theorem State.writeEntrySel_same {pt : Part} {s₀ s : State} (v : Word) (h0 : pt ≠ .regs) (h1 : pt ≠ .fault) (hs : pt.same
    s₀ s) : pt.same s₀ (s.writeEntrySel v) := by
  unfold State.writeEntrySel
  simp +contextual (maxDischargeDepth := 30) [*]

@[simp] theorem State.faultRelease_same {pt : Part} {s₀ s : State} (h0 : pt ≠ .frees) (h1 : pt ≠ .pages) (h2 : pt ≠ .regs)
    (h3 : pt ≠ .memory) (h4 : pt ≠ .cnt) (h5 : pt ≠ .alarm) (h6 : pt ≠ .fault) (hs : pt.same s₀ s) : pt.same s₀ s.faultRelease :=
    by
  unfold State.faultRelease
  repeat' (first | dsimp only | (simp +contextual (maxDischargeDepth := 30) [*]; done) | split |
    (refine Part.same_foldl _ _ ?_ ?_) | (refine Part.same_foldl_fst _ _ ?_ ?_) | intro _ | apply_assumption)

@[simp] theorem State.writeEntryCtrl_same {pt : Part} {s₀ s : State} (v : Word) (h0 : pt ≠ .frees) (h1 : pt ≠ .pages)
    (h2 : pt ≠ .regs) (h3 : pt ≠ .memory) (h4 : pt ≠ .cnt) (h5 : pt ≠ .alarm) (h6 : pt ≠ .fault) (hs : pt.same s₀ s) : pt.same s₀
    (s.writeEntryCtrl v) := by
  unfold State.writeEntryCtrl
  simp +contextual (maxDischargeDepth := 30) [*]

@[simp] theorem State.faultEnable_same {pt : Part} {s₀ s : State} (on : Bool) (h0 : pt ≠ .pages) (h1 : pt ≠ .fault) (hs : pt.same
    s₀ s) : pt.same s₀ (s.faultEnable on) := by
  unfold State.faultEnable
  simp +contextual (maxDischargeDepth := 30) [*]

@[simp] theorem State.writeFault_same {pt : Part} {s₀ s : State} (po : Nat) (v : Word) (h0 : pt ≠ .pages) (h1 : pt ≠ .regs) (hs :
    pt.same s₀ s) : pt.same s₀ (s.writeFault po v) := by
  unfold State.writeFault
  simp +contextual (maxDischargeDepth := 30) [*]

@[simp] theorem State.rejectReport_same {pt : Part} {s₀ s : State} (src zone chk : Nat) (h0 : pt ≠ .frees) (h1 : pt ≠ .pages)
    (h2 : pt ≠ .regs) (h3 : pt ≠ .ports) (h4 : pt ≠ .groups) (h5 : pt ≠ .stream) (h6 : pt ≠ .memory) (h7 : pt ≠ .cq)
    (h8 : pt ≠ .xfer) (h9 : pt ≠ .lz) (h10 : pt ≠ .core) (h11 : pt ≠ .cnt) (h12 : pt ≠ .trace) (h13 : pt ≠ .alarm)
    (h14 : pt ≠ .fault) (h15 : pt ≠ .mover) (h16 : pt ≠ .outs) (hs : pt.same s₀ s) : pt.same s₀ (s.rejectReport src zone chk) :=
    by
  unfold State.rejectReport
  simp +contextual (maxDischargeDepth := 30) [*]

@[simp] theorem State.modTrace_same {pt : Part} {s₀ s : State} (f : TraceSt → TraceSt) (h0 : pt ≠ .trace) (hs : pt.same s₀ s) :
    pt.same s₀ (s.modTrace f) := by
  unfold State.modTrace
  simp +contextual (maxDischargeDepth := 30) [*]

@[simp] theorem State.refill_same {pt : Part} {s₀ s : State} (h0 : pt ≠ .trace) (hs : pt.same s₀ s) : pt.same s₀ s.refill := by
  unfold State.refill
  simp +contextual (maxDischargeDepth := 30) [*]

@[simp] theorem State.putRec_same {pt : Part} {s₀ s : State} (r : TraceRec) (ctr : Nat) (h0 : pt ≠ .frees) (h1 : pt ≠ .pages)
    (h2 : pt ≠ .regs) (h3 : pt ≠ .memory) (h4 : pt ≠ .cnt) (h5 : pt ≠ .alarm) (hs : pt.same s₀ s) : pt.same s₀ (s.putRec r ctr) :=
    by
  unfold State.putRec
  simp +contextual (maxDischargeDepth := 30) [*]

@[simp] theorem State.putGap_same {pt : Part} {s₀ s : State} (src : Nat) (h0 : pt ≠ .frees) (h1 : pt ≠ .pages) (h2 : pt ≠ .regs)
    (h3 : pt ≠ .memory) (h4 : pt ≠ .cnt) (h5 : pt ≠ .trace) (h6 : pt ≠ .alarm) (hs : pt.same s₀ s) : pt.same s₀ (s.putGap src) :=
    by
  unfold State.putGap
  simp +contextual (maxDischargeDepth := 30) [*]

@[simp] theorem State.reelAlarm_same {pt : Part} {s₀ s : State} (r : TraceRec) (h0 : pt ≠ .frees) (h1 : pt ≠ .pages)
    (h2 : pt ≠ .regs) (h3 : pt ≠ .memory) (h4 : pt ≠ .cnt) (h5 : pt ≠ .alarm) (hs : pt.same s₀ s) : pt.same s₀ (s.reelAlarm r) :=
    by
  unfold State.reelAlarm
  simp +contextual (maxDischargeDepth := 30) [*]

@[simp] theorem State.reelTrace_same {pt : Part} {s₀ s : State} (r : TraceRec) (h0 : pt ≠ .frees) (h1 : pt ≠ .pages)
    (h2 : pt ≠ .regs) (h3 : pt ≠ .memory) (h4 : pt ≠ .cnt) (h5 : pt ≠ .trace) (h6 : pt ≠ .alarm) (hs : pt.same s₀ s) : pt.same s₀
    (s.reelTrace r) := by
  unfold State.reelTrace
  simp +contextual (maxDischargeDepth := 30) [*]

@[simp] theorem State.reelNext_same {pt : Part} {s₀ s : State} (h0 : pt ≠ .frees) (h1 : pt ≠ .pages) (h2 : pt ≠ .regs)
    (h3 : pt ≠ .memory) (h4 : pt ≠ .cnt) (h5 : pt ≠ .trace) (h6 : pt ≠ .alarm) (hs : pt.same s₀ s) : pt.same s₀ s.reelNext := by
  unfold State.reelNext
  repeat' (first | dsimp only | (simp +contextual (maxDischargeDepth := 30) [*]; done) | split |
    (refine Part.same_foldl _ _ ?_ ?_) | (refine Part.same_foldl_fst _ _ ?_ ?_) | intro _ | apply_assumption)

@[simp] theorem State.reelDrain_same {pt : Part} {s₀ s : State} (h0 : pt ≠ .frees) (h1 : pt ≠ .pages) (h2 : pt ≠ .regs)
    (h3 : pt ≠ .memory) (h4 : pt ≠ .cnt) (h5 : pt ≠ .trace) (h6 : pt ≠ .alarm) (hs : pt.same s₀ s) : pt.same s₀ s.reelDrain := by
  unfold State.reelDrain
  simp +contextual (maxDischargeDepth := 30) [*]

@[simp] theorem State.emit_same {pt : Part} {s₀ s : State} (h0 : pt ≠ .pages) (h1 : pt ≠ .regs) (h2 : pt ≠ .cnt)
    (h3 : pt ≠ .trace) (hs : pt.same s₀ s) : pt.same s₀ s.emit := by
  unfold State.emit
  simp +contextual (maxDischargeDepth := 30) [*]

@[simp] theorem State.writeTraceSw_same {pt : Part} {s₀ s : State} (v : Word) (h0 : pt ≠ .pages) (h1 : pt ≠ .regs)
    (h2 : pt ≠ .cnt) (h3 : pt ≠ .trace) (hs : pt.same s₀ s) : pt.same s₀ (s.writeTraceSw v) := by
  unfold State.writeTraceSw
  simp +contextual (maxDischargeDepth := 30) [*]

@[simp] theorem State.writeHead32_same {pt : Part} {s₀ s : State} (k : PageKind) (head tail code : Nat) (v : Word)
    (h0 : pt ≠ .pages) (h1 : pt ≠ .regs) (hs : pt.same s₀ s) : pt.same s₀ (s.writeHead32 k head tail code v) := by
  unfold State.writeHead32
  simp +contextual (maxDischargeDepth := 30) [*]

@[simp] theorem State.writeTraceHead_same {pt : Part} {s₀ s : State} (v : Word) (h0 : pt ≠ .pages) (h1 : pt ≠ .regs) (hs : pt.same
    s₀ s) : pt.same s₀ (s.writeTraceHead v) := by
  unfold State.writeTraceHead
  simp +contextual (maxDischargeDepth := 30) [*]

@[simp] theorem State.traceEnable_same {pt : Part} {s₀ s : State} (on : Bool) (h0 : pt ≠ .frees) (h1 : pt ≠ .pages)
    (h2 : pt ≠ .regs) (h3 : pt ≠ .memory) (h4 : pt ≠ .cnt) (h5 : pt ≠ .trace) (h6 : pt ≠ .alarm) (hs : pt.same s₀ s) : pt.same s₀
    (s.traceEnable on) := by
  unfold State.traceEnable
  simp +contextual (maxDischargeDepth := 30) [*]

@[simp] theorem State.writeTrace_same {pt : Part} {s₀ s : State} (po : Nat) (v : Word) (h0 : pt ≠ .pages) (h1 : pt ≠ .regs)
    (h2 : pt ≠ .trace) (hs : pt.same s₀ s) : pt.same s₀ (s.writeTrace po v) := by
  unfold State.writeTrace
  simp +contextual (maxDischargeDepth := 30) [*]

@[simp] theorem State.modAlarm_same {pt : Part} {s₀ s : State} (f : AlarmSt → AlarmSt) (h0 : pt ≠ .alarm) (hs : pt.same s₀ s) :
    pt.same s₀ (s.modAlarm f) := by
  unfold State.modAlarm
  simp +contextual (maxDischargeDepth := 30) [*]

@[simp] theorem State.notifyKey_same {pt : Part} {s₀ s : State} (i : Nat) (opened : Bool) (h0 : pt ≠ .pages) (h1 : pt ≠ .regs)
    (h2 : pt ≠ .cnt) (h3 : pt ≠ .trace) (h4 : pt ≠ .alarm) (hs : pt.same s₀ s) : pt.same s₀ (s.notifyKey i opened) := by
  unfold State.notifyKey
  repeat' (first | dsimp only | (simp +contextual (maxDischargeDepth := 30) [*]; done) | split |
    (refine Part.same_foldl _ _ ?_ ?_) | (refine Part.same_foldl_fst _ _ ?_ ?_) | intro _ | apply_assumption)

@[simp] theorem State.keyTook_same {pt : Part} {s₀ s : State} (i : Nat) (opened : Bool) (h0 : pt ≠ .pages) (h1 : pt ≠ .regs)
    (h2 : pt ≠ .cnt) (h3 : pt ≠ .trace) (h4 : pt ≠ .alarm) (hs : pt.same s₀ s) : pt.same s₀ (s.keyTook i opened) := by
  unfold State.keyTook
  repeat' (first | dsimp only | (simp +contextual (maxDischargeDepth := 30) [*]; done) | split |
    (refine Part.same_foldl _ _ ?_ ?_) | (refine Part.same_foldl_fst _ _ ?_ ?_) | intro _ | apply_assumption)

@[simp] theorem State.setKey_same {pt : Part} {s₀ s : State} (i : Nat) (k : AlarmKey) (h0 : pt ≠ .alarm) (hs : pt.same s₀ s) :
    pt.same s₀ (s.setKey i k) := by
  unfold State.setKey
  simp +contextual (maxDischargeDepth := 30) [*]

@[simp] theorem State.keyTake_same {pt : Part} {s₀ s : State} (i : Nat) (o : Occ) (cls source detail sev : Nat) (h0 : pt ≠ .pages)
    (h1 : pt ≠ .regs) (h2 : pt ≠ .cnt) (h3 : pt ≠ .trace) (h4 : pt ≠ .alarm) (hs : pt.same s₀ s) : pt.same s₀ (s.keyTake i o cls
    source detail sev) := by
  unfold State.keyTake
  repeat' (first | dsimp only | (simp +contextual (maxDischargeDepth := 30) [*]; done) | split |
    (refine Part.same_foldl _ _ ?_ ?_) | (refine Part.same_foldl_fst _ _ ?_ ?_) | intro _ | apply_assumption)

@[simp] theorem State.applyOcc_same {pt : Part} {s₀ s : State} (o : Occ) (h0 : pt ≠ .pages) (h1 : pt ≠ .regs) (h2 : pt ≠ .cnt)
    (h3 : pt ≠ .trace) (h4 : pt ≠ .alarm) (hs : pt.same s₀ s) : pt.same s₀ (s.applyOcc o) := by
  unfold State.applyOcc
  repeat' (first | dsimp only | (simp +contextual (maxDischargeDepth := 30) [*]; done) | split |
    (refine Part.same_foldl _ _ ?_ ?_) | (refine Part.same_foldl_fst _ _ ?_ ?_) | intro _ | apply_assumption)

@[simp] theorem State.writeKeySel_same {pt : Part} {s₀ s : State} (v : Word) (h0 : pt ≠ .regs) (h1 : pt ≠ .alarm) (hs : pt.same s₀
    s) : pt.same s₀ (s.writeKeySel v) := by
  unfold State.writeKeySel
  simp +contextual (maxDischargeDepth := 30) [*]

@[simp] theorem State.alarmRelease_same {pt : Part} {s₀ s : State} (h0 : pt ≠ .pages) (h1 : pt ≠ .regs) (h2 : pt ≠ .cnt)
    (h3 : pt ≠ .alarm) (hs : pt.same s₀ s) : pt.same s₀ s.alarmRelease := by
  unfold State.alarmRelease
  repeat' (first | dsimp only | (simp +contextual (maxDischargeDepth := 30) [*]; done) | split |
    (refine Part.same_foldl _ _ ?_ ?_) | (refine Part.same_foldl_fst _ _ ?_ ?_) | intro _ | apply_assumption)

@[simp] theorem State.writeKeyCtrl_same {pt : Part} {s₀ s : State} (v : Word) (h0 : pt ≠ .pages) (h1 : pt ≠ .regs)
    (h2 : pt ≠ .cnt) (h3 : pt ≠ .alarm) (hs : pt.same s₀ s) : pt.same s₀ (s.writeKeyCtrl v) := by
  unfold State.writeKeyCtrl
  simp +contextual (maxDischargeDepth := 30) [*]

@[simp] theorem State.writeAlarm_same {pt : Part} {s₀ s : State} (po : Nat) (v : Word) (h0 : pt ≠ .pages) (h1 : pt ≠ .regs)
    (h2 : pt ≠ .alarm) (hs : pt.same s₀ s) : pt.same s₀ (s.writeAlarm po v) := by
  unfold State.writeAlarm
  simp +contextual (maxDischargeDepth := 30) [*]

@[simp] theorem State.modTime_same {pt : Part} {s₀ s : State} (f : TimeSt → TimeSt) (h0 : pt ≠ .time) (hs : pt.same s₀ s) :
    pt.same s₀ (s.modTime f) := by
  unfold State.modTime
  simp +contextual (maxDischargeDepth := 30) [*]

@[simp] theorem State.groupHold_same {pt : Part} {s₀ s : State} (i : Nat) (h0 : pt ≠ .pages) (h1 : pt ≠ .regs) (h2 : pt ≠ .ports)
    (h3 : pt ≠ .groups) (h4 : pt ≠ .xfer) (h5 : pt ≠ .cnt) (h6 : pt ≠ .trace) (h7 : pt ≠ .outs) (hs : pt.same s₀ s) : pt.same s₀
    (s.groupHold i) := by
  unfold State.groupHold
  simp +contextual (maxDischargeDepth := 30) [*]

@[simp] theorem State.replicaSlip_same {pt : Part} {s₀ s : State} (i : Nat) (h0 : pt ≠ .pages) (h1 : pt ≠ .regs)
    (h2 : pt ≠ .ports) (h3 : pt ≠ .groups) (h4 : pt ≠ .xfer) (h5 : pt ≠ .cnt) (h6 : pt ≠ .trace) (h7 : pt ≠ .alarm)
    (h8 : pt ≠ .outs) (hs : pt.same s₀ s) : pt.same s₀ (s.replicaSlip i) := by
  unfold State.replicaSlip
  simp +contextual (maxDischargeDepth := 30) [*]

@[simp] theorem State.pulseIsland_same {pt : Part} {s₀ s : State} (missed : List (Fin 70)) (diffs : List (Fin 70 × Int)) (i : Fin
    70) (h0 : pt ≠ .pages) (h1 : pt ≠ .regs) (h2 : pt ≠ .time) (h3 : pt ≠ .ports) (h4 : pt ≠ .groups) (h5 : pt ≠ .xfer)
    (h6 : pt ≠ .cnt) (h7 : pt ≠ .trace) (h8 : pt ≠ .alarm) (h9 : pt ≠ .outs) (hs : pt.same s₀ s) : pt.same s₀ (s.pulseIsland
    missed diffs i) := by
  unfold State.pulseIsland
  simp +contextual (maxDischargeDepth := 30) [*]

@[simp] theorem State.measure_same {pt : Part} {s₀ s : State} (p : Nat) (d2 : Int) (h0 : pt ≠ .pages) (h1 : pt ≠ .regs)
    (h2 : pt ≠ .ports) (h3 : pt ≠ .cnt) (hs : pt.same s₀ s) : pt.same s₀ (s.measure p d2) := by
  unfold State.measure
  simp +contextual (maxDischargeDepth := 30) [*]

@[simp] theorem State.setF_same {pt : Part} {s₀ s : State} (f : Int) (h0 : pt ≠ .time) (h1 : pt ≠ .alarm) (hs : pt.same s₀ s) :
    pt.same s₀ (s.setF f) := by
  unfold State.setF
  simp +contextual (maxDischargeDepth := 30) [*]

@[simp] theorem State.setRate_same {pt : Part} {s₀ s : State} (p : Int) (h0 : pt ≠ .time) (hs : pt.same s₀ s) : pt.same s₀
    (s.setRate p) := by
  unfold State.setRate
  simp +contextual (maxDischargeDepth := 30) [*]

@[simp] theorem State.servo_same {pt : Part} {s₀ s : State} (p : Nat) (c : Clapper) (off : Int) (h0 : pt ≠ .frees)
    (h1 : pt ≠ .pages) (h2 : pt ≠ .regs) (h3 : pt ≠ .time) (h4 : pt ≠ .ports) (h5 : pt ≠ .groups) (h6 : pt ≠ .stream)
    (h7 : pt ≠ .memory) (h8 : pt ≠ .cq) (h9 : pt ≠ .xfer) (h10 : pt ≠ .core) (h11 : pt ≠ .cnt) (h12 : pt ≠ .trace)
    (h13 : pt ≠ .alarm) (h14 : pt ≠ .fault) (h15 : pt ≠ .mover) (h16 : pt ≠ .outs) (hs : pt.same s₀ s) : pt.same s₀ (s.servo p c
    off) := by
  unfold State.servo
  simp +contextual (maxDischargeDepth := 30) [*]

@[simp] theorem State.setParent_same {pt : Part} {s₀ s : State} (c : Cand) (h0 : pt ≠ .pages) (h1 : pt ≠ .regs) (h2 : pt ≠ .time)
    (h3 : pt ≠ .cnt) (h4 : pt ≠ .trace) (hs : pt.same s₀ s) : pt.same s₀ (s.setParent c) := by
  unfold State.setParent
  simp +contextual (maxDischargeDepth := 30) [*]

@[simp] theorem State.enterHoldover_same {pt : Part} {s₀ s : State} (h0 : pt ≠ .pages) (h1 : pt ≠ .regs) (h2 : pt ≠ .time)
    (h3 : pt ≠ .cnt) (h4 : pt ≠ .alarm) (hs : pt.same s₀ s) : pt.same s₀ s.enterHoldover := by
  unfold State.enterHoldover
  simp +contextual (maxDischargeDepth := 30) [*]

@[simp] theorem State.betterPorts_same {pt : Part} {s₀ s : State} (l : List Cand) (cur : Cand) (h0 : pt ≠ .pages)
    (h1 : pt ≠ .regs) (h2 : pt ≠ .time) (h3 : pt ≠ .cnt) (h4 : pt ≠ .trace) (hs : pt.same s₀ s) : pt.same s₀ (s.betterPorts l cur)
    := by
  unfold State.betterPorts
  repeat' (first | dsimp only | (simp +contextual (maxDischargeDepth := 30) [*]; done) | split |
    (refine Part.same_foldl _ _ ?_ ?_) | (refine Part.same_foldl_fst _ _ ?_ ?_) | intro _ | apply_assumption)

@[simp] theorem State.endServoCycle_same {pt : Part} {s₀ s : State} (h0 : pt ≠ .frees) (h1 : pt ≠ .pages) (h2 : pt ≠ .regs)
    (h3 : pt ≠ .time) (h4 : pt ≠ .ports) (h5 : pt ≠ .groups) (h6 : pt ≠ .stream) (h7 : pt ≠ .memory) (h8 : pt ≠ .cq)
    (h9 : pt ≠ .xfer) (h10 : pt ≠ .core) (h11 : pt ≠ .cnt) (h12 : pt ≠ .trace) (h13 : pt ≠ .alarm) (h14 : pt ≠ .fault)
    (h15 : pt ≠ .mover) (h16 : pt ≠ .outs) (hs : pt.same s₀ s) : pt.same s₀ s.endServoCycle := by
  unfold State.endServoCycle
  repeat' (first | dsimp only | (simp +contextual (maxDischargeDepth := 30) [*]; done) | split |
    (refine Part.same_foldl _ _ ?_ ?_) | (refine Part.same_foldl_fst _ _ ?_ ?_) | intro _ | apply_assumption)

@[simp] theorem State.dropServo_same {pt : Part} {s₀ s : State} (h0 : pt ≠ .time) (hs : pt.same s₀ s) : pt.same s₀ s.dropServo :=
    by
  unfold State.dropServo
  simp +contextual (maxDischargeDepth := 30) [*]

@[simp] theorem State.addPair_same {pt : Part} {s₀ s : State} (a b : ClapRec) (h0 : pt ≠ .time) (hs : pt.same s₀ s) : pt.same s₀
    (s.addPair a b) := by
  unfold State.addPair
  simp +contextual (maxDischargeDepth := 30) [*]

@[simp] theorem State.modNode_same {pt : Part} {s₀ s : State} (f : NodeSt → NodeSt) (h0 : pt ≠ .node) (hs : pt.same s₀ s) :
    pt.same s₀ (s.modNode f) := by
  unfold State.modNode
  simp +contextual (maxDischargeDepth := 30) [*]

@[simp] theorem State.enter_same {pt : Part} {s₀ s : State} (st : NodeState) (h0 : pt ≠ .pages) (h1 : pt ≠ .regs)
    (h2 : pt ≠ .node) (h3 : pt ≠ .slate) (h4 : pt ≠ .cnt) (h5 : pt ≠ .trace) (hs : pt.same s₀ s) : pt.same s₀ (s.enter st) := by
  unfold State.enter
  simp +contextual (maxDischargeDepth := 30) [*]

@[simp] theorem State.refuseForNode_same {pt : Part} {s₀ s : State} (h0 : pt ≠ .pages) (h1 : pt ≠ .regs) (h2 : pt ≠ .slate)
    (h3 : pt ≠ .groups) (h4 : pt ≠ .evt) (h5 : pt ≠ .scratch) (h6 : pt ≠ .cnt) (h7 : pt ≠ .trace) (h8 : pt ≠ .alarm) (hs : pt.same
    s₀ s) : pt.same s₀ s.refuseForNode := by
  unfold State.refuseForNode
  simp +contextual (maxDischargeDepth := 30) [*]

@[simp] theorem State.forgetQual_same {pt : Part} {s₀ s : State} (h0 : pt ≠ .ports) (hs : pt.same s₀ s) : pt.same s₀ s.forgetQual
    := by
  unfold State.forgetQual
  simp +contextual (maxDischargeDepth := 30) [*]

@[simp] theorem State.startListen_same {pt : Part} {s₀ s : State} (h0 : pt ≠ .node) (hs : pt.same s₀ s) : pt.same s₀ s.startListen
    := by
  unfold State.startListen
  simp +contextual (maxDischargeDepth := 30) [*]

@[simp] theorem State.toListen_same {pt : Part} {s₀ s : State} (keep : Option (Nat × Nat)) (h0 : pt ≠ .pages) (h1 : pt ≠ .regs)
    (h2 : pt ≠ .time) (h3 : pt ≠ .node) (h4 : pt ≠ .slate) (h5 : pt ≠ .ports) (h6 : pt ≠ .cnt) (h7 : pt ≠ .trace) (hs : pt.same s₀
    s) : pt.same s₀ (s.toListen keep) := by
  unfold State.toListen
  simp +contextual (maxDischargeDepth := 30) [*]

@[simp] theorem State.toYield_same {pt : Part} {s₀ s : State} (better : Option (Nat × Nat)) (h0 : pt ≠ .frees) (h1 : pt ≠ .pages)
    (h2 : pt ≠ .regs) (h3 : pt ≠ .time) (h4 : pt ≠ .node) (h5 : pt ≠ .slate) (h6 : pt ≠ .ports) (h7 : pt ≠ .groups)
    (h8 : pt ≠ .evt) (h9 : pt ≠ .memory) (h10 : pt ≠ .cq) (h11 : pt ≠ .xfer) (h12 : pt ≠ .core) (h13 : pt ≠ .scratch)
    (h14 : pt ≠ .cnt) (h15 : pt ≠ .trace) (h16 : pt ≠ .alarm) (h17 : pt ≠ .mover) (h18 : pt ≠ .outs) (hs : pt.same s₀ s) : pt.same
    s₀ (s.toYield better) := by
  unfold State.toYield
  simp +contextual (maxDischargeDepth := 30) [*]

@[simp] theorem State.toOff_same {pt : Part} {s₀ s : State} (h0 : pt ≠ .frees) (h1 : pt ≠ .pages) (h2 : pt ≠ .regs)
    (h3 : pt ≠ .time) (h4 : pt ≠ .node) (h5 : pt ≠ .slate) (h6 : pt ≠ .ports) (h7 : pt ≠ .groups) (h8 : pt ≠ .evt)
    (h9 : pt ≠ .memory) (h10 : pt ≠ .cq) (h11 : pt ≠ .xfer) (h12 : pt ≠ .core) (h13 : pt ≠ .scratch) (h14 : pt ≠ .cnt)
    (h15 : pt ≠ .trace) (h16 : pt ≠ .alarm) (h17 : pt ≠ .mover) (h18 : pt ≠ .outs) (hs : pt.same s₀ s) : pt.same s₀ s.toOff := by
  unfold State.toOff
  simp +contextual (maxDischargeDepth := 30) [*]

@[simp] theorem State.toHalted_same {pt : Part} {s₀ s : State} (p detail : Nat) (h0 : pt ≠ .frees) (h1 : pt ≠ .pages)
    (h2 : pt ≠ .regs) (h3 : pt ≠ .time) (h4 : pt ≠ .node) (h5 : pt ≠ .slate) (h6 : pt ≠ .ports) (h7 : pt ≠ .groups)
    (h8 : pt ≠ .stream) (h9 : pt ≠ .evt) (h10 : pt ≠ .memory) (h11 : pt ≠ .cq) (h12 : pt ≠ .xfer) (h13 : pt ≠ .core)
    (h14 : pt ≠ .scratch) (h15 : pt ≠ .cnt) (h16 : pt ≠ .trace) (h17 : pt ≠ .alarm) (h18 : pt ≠ .fault) (h19 : pt ≠ .mover)
    (h20 : pt ≠ .outs) (hs : pt.same s₀ s) : pt.same s₀ (s.toHalted p detail) := by
  unfold State.toHalted
  simp +contextual (maxDischargeDepth := 30) [*]

@[simp] theorem State.yieldTo_same {pt : Part} {s₀ s : State} (rank node : Nat) (h0 : pt ≠ .frees) (h1 : pt ≠ .pages)
    (h2 : pt ≠ .regs) (h3 : pt ≠ .time) (h4 : pt ≠ .node) (h5 : pt ≠ .slate) (h6 : pt ≠ .ports) (h7 : pt ≠ .groups)
    (h8 : pt ≠ .evt) (h9 : pt ≠ .memory) (h10 : pt ≠ .cq) (h11 : pt ≠ .xfer) (h12 : pt ≠ .core) (h13 : pt ≠ .scratch)
    (h14 : pt ≠ .cnt) (h15 : pt ≠ .trace) (h16 : pt ≠ .alarm) (h17 : pt ≠ .mover) (h18 : pt ≠ .outs) (hs : pt.same s₀ s) : pt.same
    s₀ (s.yieldTo rank node) := by
  unfold State.yieldTo
  simp +contextual (maxDischargeDepth := 30) [*]

@[simp] theorem State.leave_same {pt : Part} {s₀ s : State} (h0 : pt ≠ .frees) (h1 : pt ≠ .pages) (h2 : pt ≠ .regs)
    (h3 : pt ≠ .time) (h4 : pt ≠ .node) (h5 : pt ≠ .slate) (h6 : pt ≠ .ports) (h7 : pt ≠ .groups) (h8 : pt ≠ .evt)
    (h9 : pt ≠ .memory) (h10 : pt ≠ .cq) (h11 : pt ≠ .xfer) (h12 : pt ≠ .core) (h13 : pt ≠ .scratch) (h14 : pt ≠ .cnt)
    (h15 : pt ≠ .trace) (h16 : pt ≠ .alarm) (h17 : pt ≠ .mover) (h18 : pt ≠ .outs) (hs : pt.same s₀ s) : pt.same s₀ s.leave := by
  unfold State.leave
  simp +contextual (maxDischargeDepth := 30) [*]

@[simp] theorem State.orDefer_same {pt : Part} {s₀ s : State} (d : Deferred) (f : State → State) (h0 : pt ≠ .slate) (hs : pt.same
    s₀ s) (hf : ∀ u, pt.same s₀ u → pt.same s₀ (f u)) : pt.same s₀ (s.orDefer d f) := by
  unfold State.orDefer
  simp +contextual (maxDischargeDepth := 30) [*]

@[simp] theorem State.runDeferred_same {pt : Part} {s₀ s : State} (d : Deferred) (h0 : pt ≠ .frees) (h1 : pt ≠ .pages)
    (h2 : pt ≠ .regs) (h3 : pt ≠ .time) (h4 : pt ≠ .node) (h5 : pt ≠ .slate) (h6 : pt ≠ .ports) (h7 : pt ≠ .groups)
    (h8 : pt ≠ .stream) (h9 : pt ≠ .evt) (h10 : pt ≠ .memory) (h11 : pt ≠ .cq) (h12 : pt ≠ .xfer) (h13 : pt ≠ .core)
    (h14 : pt ≠ .scratch) (h15 : pt ≠ .cnt) (h16 : pt ≠ .trace) (h17 : pt ≠ .alarm) (h18 : pt ≠ .fault) (h19 : pt ≠ .mover)
    (h20 : pt ≠ .outs) (hs : pt.same s₀ s) : pt.same s₀ (s.runDeferred d) := by
  unfold State.runDeferred
  repeat' (first | dsimp only | (simp +contextual (maxDischargeDepth := 30) [*]; done) | split |
    (refine Part.same_foldl _ _ ?_ ?_) | (refine Part.same_foldl_fst _ _ ?_ ?_) | intro _ | apply_assumption)

@[simp] theorem State.toHoldOff_same {pt : Part} {s₀ s : State} (h0 : pt ≠ .frees) (h1 : pt ≠ .pages) (h2 : pt ≠ .regs)
    (h3 : pt ≠ .node) (h4 : pt ≠ .slate) (h5 : pt ≠ .ports) (h6 : pt ≠ .groups) (h7 : pt ≠ .memory) (h8 : pt ≠ .cq)
    (h9 : pt ≠ .xfer) (h10 : pt ≠ .core) (h11 : pt ≠ .cnt) (h12 : pt ≠ .trace) (h13 : pt ≠ .alarm) (h14 : pt ≠ .mover)
    (h15 : pt ≠ .outs) (hs : pt.same s₀ s) : pt.same s₀ s.toHoldOff := by
  unfold State.toHoldOff
  simp +contextual (maxDischargeDepth := 30) [*]

@[simp] theorem State.compareOffset_same {pt : Part} {s₀ s : State} (h0 : pt ≠ .frees) (h1 : pt ≠ .pages) (h2 : pt ≠ .regs)
    (h3 : pt ≠ .time) (h4 : pt ≠ .node) (h5 : pt ≠ .slate) (h6 : pt ≠ .ports) (h7 : pt ≠ .groups) (h8 : pt ≠ .evt)
    (h9 : pt ≠ .memory) (h10 : pt ≠ .cq) (h11 : pt ≠ .xfer) (h12 : pt ≠ .core) (h13 : pt ≠ .scratch) (h14 : pt ≠ .cnt)
    (h15 : pt ≠ .trace) (h16 : pt ≠ .alarm) (h17 : pt ≠ .mover) (h18 : pt ≠ .outs) (hs : pt.same s₀ s) : pt.same s₀
    s.compareOffset := by
  unfold State.compareOffset
  simp +contextual (maxDischargeDepth := 30) [*]

@[simp] theorem State.look_same {pt : Part} {s₀ s : State} (tb : Option (Nat × Nat)) (h0 : pt ≠ .time) (h1 : pt ≠ .node) (hs :
    pt.same s₀ s) : pt.same s₀ (s.look tb) := by
  unfold State.look
  simp +contextual (maxDischargeDepth := 30) [*]

@[simp] theorem State.detected_same {pt : Part} {s₀ s : State} (n : Nat) (best : Cand) (h0 : pt ≠ .pages) (h1 : pt ≠ .regs)
    (h2 : pt ≠ .time) (h3 : pt ≠ .node) (h4 : pt ≠ .slate) (h5 : pt ≠ .cnt) (h6 : pt ≠ .trace) (hs : pt.same s₀ s) : pt.same s₀
    (s.detected n best) := by
  unfold State.detected
  repeat' (first | dsimp only | (simp +contextual (maxDischargeDepth := 30) [*]; done) | split |
    (refine Part.same_foldl _ _ ?_ ?_) | (refine Part.same_foldl_fst _ _ ?_ ?_) | intro _ | apply_assumption)

@[simp] theorem State.detect_same {pt : Part} {s₀ s : State} (p : Nat) (a b : ClapRec) (h0 : pt ≠ .pages) (h1 : pt ≠ .regs)
    (h2 : pt ≠ .time) (h3 : pt ≠ .node) (h4 : pt ≠ .slate) (h5 : pt ≠ .ports) (h6 : pt ≠ .cnt) (h7 : pt ≠ .trace)
    (h8 : pt ≠ .alarm) (hs : pt.same s₀ s) : pt.same s₀ (s.detect p a b) := by
  unfold State.detect
  repeat' (first | dsimp only | (simp +contextual (maxDischargeDepth := 30) [*]; done) | split |
    (refine Part.same_foldl _ _ ?_ ?_) | (refine Part.same_foldl_fst _ _ ?_ ?_) | intro _ | apply_assumption)

@[simp] theorem State.abortJoin_same {pt : Part} {s₀ s : State} (parent : Nat) (h0 : pt ≠ .pages) (h1 : pt ≠ .regs)
    (h2 : pt ≠ .time) (h3 : pt ≠ .node) (h4 : pt ≠ .slate) (h5 : pt ≠ .ports) (h6 : pt ≠ .groups) (h7 : pt ≠ .evt)
    (h8 : pt ≠ .scratch) (h9 : pt ≠ .cnt) (h10 : pt ≠ .trace) (h11 : pt ≠ .alarm) (hs : pt.same s₀ s) : pt.same s₀ (s.abortJoin
    parent) := by
  unfold State.abortJoin
  simp +contextual (maxDischargeDepth := 30) [*]

@[simp] theorem State.joinCheck_same {pt : Part} {s₀ s : State} (p : Nat) (c : Clapper) (off : Int) (h0 : pt ≠ .pages)
    (h1 : pt ≠ .regs) (h2 : pt ≠ .time) (h3 : pt ≠ .node) (h4 : pt ≠ .slate) (h5 : pt ≠ .ports) (h6 : pt ≠ .groups)
    (h7 : pt ≠ .evt) (h8 : pt ≠ .scratch) (h9 : pt ≠ .cnt) (h10 : pt ≠ .trace) (h11 : pt ≠ .alarm) (hs : pt.same s₀ s) : pt.same
    s₀ (s.joinCheck p c off) := by
  unfold State.joinCheck
  repeat' (first | dsimp only | (simp +contextual (maxDischargeDepth := 30) [*]; done) | split |
    (refine Part.same_foldl _ _ ?_ ?_) | (refine Part.same_foldl_fst _ _ ?_ ?_) | intro _ | apply_assumption)

@[simp] theorem State.seenAt_same {pt : Part} {s₀ s : State} (p t : Nat) (h0 : pt ≠ .frees) (h1 : pt ≠ .pages) (h2 : pt ≠ .regs)
    (h3 : pt ≠ .time) (h4 : pt ≠ .ports) (h5 : pt ≠ .groups) (h6 : pt ≠ .memory) (h7 : pt ≠ .cq) (h8 : pt ≠ .xfer)
    (h9 : pt ≠ .core) (h10 : pt ≠ .cnt) (h11 : pt ≠ .trace) (h12 : pt ≠ .alarm) (h13 : pt ≠ .mover) (h14 : pt ≠ .outs) (hs :
    pt.same s₀ s) : pt.same s₀ (s.seenAt p t) := by
  unfold State.seenAt
  simp +contextual (maxDischargeDepth := 30) [*]

@[simp] theorem State.clapperOut_same {pt : Part} {s₀ s : State} (p : Nat) (f : Frame) (first tDep : Nat) (h0 : pt ≠ .pages)
    (h1 : pt ≠ .regs) (h2 : pt ≠ .ports) (h3 : pt ≠ .groups) (h4 : pt ≠ .xfer) (h5 : pt ≠ .cnt) (h6 : pt ≠ .trace)
    (h7 : pt ≠ .outs) (hs : pt.same s₀ s) : pt.same s₀ (s.clapperOut p f first tDep) := by
  unfold State.clapperOut
  simp +contextual (maxDischargeDepth := 30) [*]

@[simp] theorem State.notUp_same {pt : Part} {s₀ s : State} (p : Nat) (h0 : pt ≠ .pages) (h1 : pt ≠ .regs) (h2 : pt ≠ .cnt) (hs :
    pt.same s₀ s) : pt.same s₀ (s.notUp p) := by
  unfold State.notUp
  simp +contextual (maxDischargeDepth := 30) [*]

@[simp] theorem State.candidateClapper_same {pt : Part} {s₀ s : State} (p : Nat) (c : Clapper) (off : Int) (h0 : pt ≠ .time)
    (h1 : pt ≠ .ports) (hs : pt.same s₀ s) : pt.same s₀ (s.candidateClapper p c off) := by
  unfold State.candidateClapper
  simp +contextual (maxDischargeDepth := 30) [*]

@[simp] theorem State.servoTakes_same {pt : Part} {s₀ s : State} (p : Nat) (c : Clapper) (off : Int) (h0 : pt ≠ .frees)
    (h1 : pt ≠ .pages) (h2 : pt ≠ .regs) (h3 : pt ≠ .time) (h4 : pt ≠ .node) (h5 : pt ≠ .slate) (h6 : pt ≠ .ports)
    (h7 : pt ≠ .groups) (h8 : pt ≠ .stream) (h9 : pt ≠ .evt) (h10 : pt ≠ .memory) (h11 : pt ≠ .cq) (h12 : pt ≠ .xfer)
    (h13 : pt ≠ .core) (h14 : pt ≠ .scratch) (h15 : pt ≠ .cnt) (h16 : pt ≠ .trace) (h17 : pt ≠ .alarm) (h18 : pt ≠ .fault)
    (h19 : pt ≠ .mover) (h20 : pt ≠ .outs) (hs : pt.same s₀ s) : pt.same s₀ (s.servoTakes p c off) := by
  unfold State.servoTakes
  simp +contextual (maxDischargeDepth := 30) [*]

@[simp] theorem State.listenClapper_same {pt : Part} {s₀ s : State} (tb : Nat × Nat) (h0 : pt ≠ .time) (h1 : pt ≠ .node) (hs :
    pt.same s₀ s) : pt.same s₀ (s.listenClapper tb) := by
  unfold State.listenClapper
  simp +contextual (maxDischargeDepth := 30) [*]

@[simp] theorem State.yieldClapper_same {pt : Part} {s₀ s : State} (tb : Nat × Nat) (h0 : pt ≠ .time) (h1 : pt ≠ .node) (hs :
    pt.same s₀ s) : pt.same s₀ (s.yieldClapper tb) := by
  unfold State.yieldClapper
  repeat' (first | dsimp only | (simp +contextual (maxDischargeDepth := 30) [*]; done) | split |
    (refine Part.same_foldl _ _ ?_ ?_) | (refine Part.same_foldl_fst _ _ ?_ ?_) | intro _ | apply_assumption)

@[simp] theorem State.compareTb_same {pt : Part} {s₀ s : State} (tb : Nat × Nat) (h0 : pt ≠ .frees) (h1 : pt ≠ .pages)
    (h2 : pt ≠ .regs) (h3 : pt ≠ .time) (h4 : pt ≠ .node) (h5 : pt ≠ .slate) (h6 : pt ≠ .ports) (h7 : pt ≠ .groups)
    (h8 : pt ≠ .evt) (h9 : pt ≠ .memory) (h10 : pt ≠ .cq) (h11 : pt ≠ .xfer) (h12 : pt ≠ .core) (h13 : pt ≠ .scratch)
    (h14 : pt ≠ .cnt) (h15 : pt ≠ .trace) (h16 : pt ≠ .alarm) (h17 : pt ≠ .mover) (h18 : pt ≠ .outs) (hs : pt.same s₀ s) : pt.same
    s₀ (s.compareTb tb) := by
  unfold State.compareTb
  repeat' (first | dsimp only | (simp +contextual (maxDischargeDepth := 30) [*]; done) | split |
    (refine Part.same_foldl _ _ ?_ ?_) | (refine Part.same_foldl_fst _ _ ?_ ?_) | intro _ | apply_assumption)

@[simp] theorem State.timebase_same {pt : Part} {s₀ s : State} (tb : Nat × Nat) (h0 : pt ≠ .frees) (h1 : pt ≠ .pages)
    (h2 : pt ≠ .regs) (h3 : pt ≠ .time) (h4 : pt ≠ .node) (h5 : pt ≠ .slate) (h6 : pt ≠ .ports) (h7 : pt ≠ .groups)
    (h8 : pt ≠ .evt) (h9 : pt ≠ .memory) (h10 : pt ≠ .cq) (h11 : pt ≠ .xfer) (h12 : pt ≠ .core) (h13 : pt ≠ .scratch)
    (h14 : pt ≠ .cnt) (h15 : pt ≠ .trace) (h16 : pt ≠ .alarm) (h17 : pt ≠ .mover) (h18 : pt ≠ .outs) (hs : pt.same s₀ s) : pt.same
    s₀ (s.timebase tb) := by
  unfold State.timebase
  repeat' (first | dsimp only | (simp +contextual (maxDischargeDepth := 30) [*]; done) | split |
    (refine Part.same_foldl _ _ ?_ ?_) | (refine Part.same_foldl_fst _ _ ?_ ?_) | intro _ | apply_assumption)

@[simp] theorem State.keepClapper_same {pt : Part} {s₀ s : State} (p : Nat) (c : Clapper) (tRx : Int) (h0 : pt ≠ .pages)
    (h1 : pt ≠ .regs) (h2 : pt ≠ .time) (h3 : pt ≠ .node) (h4 : pt ≠ .slate) (h5 : pt ≠ .ports) (h6 : pt ≠ .cnt)
    (h7 : pt ≠ .trace) (h8 : pt ≠ .alarm) (hs : pt.same s₀ s) : pt.same s₀ (s.keepClapper p c tRx) := by
  unfold State.keepClapper
  repeat' (first | dsimp only | (simp +contextual (maxDischargeDepth := 30) [*]; done) | split |
    (refine Part.same_foldl _ _ ?_ ?_) | (refine Part.same_foldl_fst _ _ ?_ ?_) | intro _ | apply_assumption)

@[simp] theorem State.clapperIn_same {pt : Part} {s₀ s : State} (p : Nat) (c : Clapper) (tRx : Nat) (h0 : pt ≠ .frees)
    (h1 : pt ≠ .pages) (h2 : pt ≠ .regs) (h3 : pt ≠ .time) (h4 : pt ≠ .node) (h5 : pt ≠ .slate) (h6 : pt ≠ .ports)
    (h7 : pt ≠ .groups) (h8 : pt ≠ .stream) (h9 : pt ≠ .evt) (h10 : pt ≠ .memory) (h11 : pt ≠ .cq) (h12 : pt ≠ .xfer)
    (h13 : pt ≠ .core) (h14 : pt ≠ .scratch) (h15 : pt ≠ .cnt) (h16 : pt ≠ .trace) (h17 : pt ≠ .alarm) (h18 : pt ≠ .fault)
    (h19 : pt ≠ .mover) (h20 : pt ≠ .outs) (hs : pt.same s₀ s) : pt.same s₀ (s.clapperIn p c tRx) := by
  unfold State.clapperIn
  simp +contextual (maxDischargeDepth := 30) [*]

@[simp] theorem State.dropReq_same {pt : Part} {s₀ s : State} (p : Nat) (h0 : pt ≠ .pages) (h1 : pt ≠ .regs) (h2 : pt ≠ .ports)
    (h3 : pt ≠ .cnt) (hs : pt.same s₀ s) : pt.same s₀ (s.dropReq p) := by
  unfold State.dropReq
  simp +contextual (maxDischargeDepth := 30) [*]

@[simp] theorem State.requestDelay_same {pt : Part} {s₀ s : State} (p t1 : Nat) (h0 : pt ≠ .frees) (h1 : pt ≠ .pages)
    (h2 : pt ≠ .regs) (h3 : pt ≠ .time) (h4 : pt ≠ .ports) (h5 : pt ≠ .groups) (h6 : pt ≠ .memory) (h7 : pt ≠ .cq)
    (h8 : pt ≠ .xfer) (h9 : pt ≠ .core) (h10 : pt ≠ .cnt) (h11 : pt ≠ .trace) (h12 : pt ≠ .alarm) (h13 : pt ≠ .mover)
    (h14 : pt ≠ .outs) (hs : pt.same s₀ s) : pt.same s₀ (s.requestDelay p t1) := by
  unfold State.requestDelay
  simp +contextual (maxDischargeDepth := 30) [*]

@[simp] theorem State.answerDelay_same {pt : Part} {s₀ s : State} (p reqId t2 t3 : Nat) (h0 : pt ≠ .frees) (h1 : pt ≠ .pages)
    (h2 : pt ≠ .regs) (h3 : pt ≠ .time) (h4 : pt ≠ .ports) (h5 : pt ≠ .groups) (h6 : pt ≠ .memory) (h7 : pt ≠ .cq)
    (h8 : pt ≠ .xfer) (h9 : pt ≠ .core) (h10 : pt ≠ .cnt) (h11 : pt ≠ .trace) (h12 : pt ≠ .alarm) (h13 : pt ≠ .mover)
    (h14 : pt ≠ .outs) (hs : pt.same s₀ s) : pt.same s₀ (s.answerDelay p reqId t2 t3) := by
  unfold State.answerDelay
  simp +contextual (maxDischargeDepth := 30) [*]

@[simp] theorem State.delayResp_same {pt : Part} {s₀ s : State} (p reqId : Nat) (synt : Bool) (turn : Int) (t4 : Nat)
    (h0 : pt ≠ .pages) (h1 : pt ≠ .regs) (h2 : pt ≠ .ports) (h3 : pt ≠ .cnt) (hs : pt.same s₀ s) : pt.same s₀ (s.delayResp p reqId
    synt turn t4) := by
  unfold State.delayResp
  repeat' (first | dsimp only | (simp +contextual (maxDischargeDepth := 30) [*]; done) | split |
    (refine Part.same_foldl _ _ ?_ ?_) | (refine Part.same_foldl_fst _ _ ?_ ?_) | intro _ | apply_assumption)

@[simp] theorem State.sendClapper_same {pt : Part} {s₀ s : State} (p : Nat) (corr : Int) (h0 : pt ≠ .pages) (h1 : pt ≠ .regs)
    (h2 : pt ≠ .ports) (h3 : pt ≠ .groups) (h4 : pt ≠ .xfer) (h5 : pt ≠ .cnt) (h6 : pt ≠ .trace) (h7 : pt ≠ .outs) (hs : pt.same
    s₀ s) : pt.same s₀ (s.sendClapper p corr) := by
  unfold State.sendClapper
  simp +contextual (maxDischargeDepth := 30) [*]

@[simp] theorem State.sendClappers_same {pt : Part} {s₀ s : State} (deps : List (Fin 1024 × Int)) (h0 : pt ≠ .pages)
    (h1 : pt ≠ .regs) (h2 : pt ≠ .ports) (h3 : pt ≠ .groups) (h4 : pt ≠ .xfer) (h5 : pt ≠ .cnt) (h6 : pt ≠ .trace)
    (h7 : pt ≠ .outs) (hs : pt.same s₀ s) : pt.same s₀ (s.sendClappers deps) := by
  unfold State.sendClappers
  simp +contextual (maxDischargeDepth := 30) [*]

@[simp] theorem State.keepCivil_same {pt : Part} {s₀ s : State} (h0 : pt ≠ .time) (hs : pt.same s₀ s) : pt.same s₀ s.keepCivil :=
    by
  unfold State.keepCivil
  simp +contextual (maxDischargeDepth := 30) [*]

@[simp] theorem State.rebaseCivil_same {pt : Part} {s₀ s : State} (h0 : pt ≠ .time) (hs : pt.same s₀ s) : pt.same s₀ s.rebaseCivil
    := by
  unfold State.rebaseCivil
  simp +contextual (maxDischargeDepth := 30) [*]

@[simp] theorem State.civilStep_same {pt : Part} {s₀ s : State} (h0 : pt ≠ .pages) (h1 : pt ≠ .time) (hs : pt.same s₀ s) : pt.same
    s₀ s.civilStep := by
  unfold State.civilStep
  simp +contextual (maxDischargeDepth := 30) [*]

@[simp] theorem State.setPps_same {pt : Part} {s₀ s : State} (level : Bool) (h0 : pt ≠ .time) (h1 : pt ≠ .outs) (hs : pt.same s₀
    s) : pt.same s₀ (s.setPps level) := by
  unfold State.setPps
  simp +contextual (maxDischargeDepth := 30) [*]

@[simp] theorem State.holdPps_same {pt : Part} {s₀ s : State} (h0 : pt ≠ .time) (h1 : pt ≠ .outs) (hs : pt.same s₀ s) : pt.same s₀
    s.holdPps := by
  unfold State.holdPps
  simp +contextual (maxDischargeDepth := 30) [*]

@[simp] theorem State.civilInvalidate_same {pt : Part} {s₀ s : State} (h0 : pt ≠ .time) (h1 : pt ≠ .outs) (hs : pt.same s₀ s) :
    pt.same s₀ s.civilInvalidate := by
  unfold State.civilInvalidate
  simp +contextual (maxDischargeDepth := 30) [*]

@[simp] theorem State.writeCivilCtrl_same {pt : Part} {s₀ s : State} (v : Word) (h0 : pt ≠ .pages) (h1 : pt ≠ .time)
    (h2 : pt ≠ .outs) (hs : pt.same s₀ s) : pt.same s₀ (s.writeCivilCtrl v) := by
  unfold State.writeCivilCtrl
  simp +contextual (maxDischargeDepth := 30) [*]

@[simp] theorem State.writeCivilRate_same {pt : Part} {s₀ s : State} (v : Word) (h0 : pt ≠ .pages) (h1 : pt ≠ .regs)
    (h2 : pt ≠ .time) (hs : pt.same s₀ s) : pt.same s₀ (s.writeCivilRate v) := by
  unfold State.writeCivilRate
  simp +contextual (maxDischargeDepth := 30) [*]

@[simp] theorem State.pairRing_same {pt : Part} {s₀ s : State} (start : Nat) (civ : Nat × Nat) (valid : Bool) (h0 : pt ≠ .frees)
    (h1 : pt ≠ .pages) (h2 : pt ≠ .regs) (h3 : pt ≠ .time) (h4 : pt ≠ .memory) (h5 : pt ≠ .cnt) (h6 : pt ≠ .alarm) (hs : pt.same
    s₀ s) : pt.same s₀ (s.pairRing start civ valid) := by
  unfold State.pairRing
  simp +contextual (maxDischargeDepth := 30) [*]

@[simp] theorem State.latchPair_same {pt : Part} {s₀ s : State} (h0 : pt ≠ .frees) (h1 : pt ≠ .pages) (h2 : pt ≠ .regs)
    (h3 : pt ≠ .time) (h4 : pt ≠ .memory) (h5 : pt ≠ .cnt) (h6 : pt ≠ .alarm) (hs : pt.same s₀ s) : pt.same s₀ s.latchPair := by
  unfold State.latchPair
  simp +contextual (maxDischargeDepth := 30) [*]

@[simp] theorem State.readNow_same {pt : Part} {s₀ s : State} (h0 : pt ≠ .time) (hs : pt.same s₀ s) : pt.same s₀ s.readNow.1 := by
  unfold State.readNow
  simp +contextual (maxDischargeDepth := 30) [*]

@[simp] theorem State.readCivilSec_same {pt : Part} {s₀ s : State} (h0 : pt ≠ .time) (hs : pt.same s₀ s) : pt.same s₀
    s.readCivilSec.1 := by
  unfold State.readCivilSec
  simp +contextual (maxDischargeDepth := 30) [*]

@[simp] theorem State.readPairCycle_same {pt : Part} {s₀ s : State} (h0 : pt ≠ .time) (hs : pt.same s₀ s) : pt.same s₀
    s.readPairCycle.1 := by
  unfold State.readPairCycle
  simp +contextual (maxDischargeDepth := 30) [*]

@[simp] theorem State.ppsRises_same {pt : Part} {s₀ s : State} (f : Nat) (h0 : pt ≠ .time) (h1 : pt ≠ .outs) (hs : pt.same s₀ s) :
    pt.same s₀ (s.ppsRises f) := by
  unfold State.ppsRises
  simp +contextual (maxDischargeDepth := 30) [*]

@[simp] theorem State.ppsPassed_same {pt : Part} {s₀ s : State} (f0 f1 : Nat) (h0 : pt ≠ .time) (h1 : pt ≠ .outs) (hs : pt.same s₀
    s) : pt.same s₀ (s.ppsPassed f0 f1) := by
  unfold State.ppsPassed
  simp +contextual (maxDischargeDepth := 30) [*]

@[simp] theorem State.writePpsOut_same {pt : Part} {s₀ s : State} (po : Nat) (v : Word) (h0 : pt ≠ .pages) (h1 : pt ≠ .regs)
    (h2 : pt ≠ .time) (h3 : pt ≠ .outs) (hs : pt.same s₀ s) : pt.same s₀ (s.writePpsOut po v) := by
  unfold State.writePpsOut
  simp +contextual (maxDischargeDepth := 30) [*]

@[simp] theorem State.writeDiag_same {pt : Part} {s₀ s : State} (v : Word) (h0 : pt ≠ .pages) (h1 : pt ≠ .regs)
    (h2 : pt ≠ .groups) (h3 : pt ≠ .evt) (h4 : pt ≠ .scratch) (hs : pt.same s₀ s) : pt.same s₀ (s.writeDiag v) := by
  unfold State.writeDiag
  repeat' (first | dsimp only | (simp +contextual (maxDischargeDepth := 30) [*]; done) | split |
    (refine Part.same_foldl _ _ ?_ ?_) | (refine Part.same_foldl_fst _ _ ?_ ?_) | intro _ | apply_assumption)

@[simp] theorem State.popDiag_same {pt : Part} {s₀ s : State} (h0 : pt ≠ .groups) (hs : pt.same s₀ s) : pt.same s₀ s.popDiag.1 :=
    by
  unfold State.popDiag
  repeat' (first | dsimp only | (simp +contextual (maxDischargeDepth := 30) [*]; done) | split |
    (refine Part.same_foldl _ _ ?_ ?_) | (refine Part.same_foldl_fst _ _ ?_ ?_) | intro _ | apply_assumption)

@[simp] theorem State.writeTime_same {pt : Part} {s₀ s : State} (po : Nat) (v : Word) (h0 : pt ≠ .pages) (h1 : pt ≠ .regs) (hs :
    pt.same s₀ s) : pt.same s₀ (s.writeTime po v) := by
  unfold State.writeTime
  repeat' (first | dsimp only | (simp +contextual (maxDischargeDepth := 30) [*]; done) | split |
    (refine Part.same_foldl _ _ ?_ ?_) | (refine Part.same_foldl_fst _ _ ?_ ?_) | intro _ | apply_assumption)

@[simp] theorem State.writePortTime_same {pt : Part} {s₀ s : State} (p po : Nat) (v : Word) (h0 : pt ≠ .pages) (h1 : pt ≠ .regs)
    (h2 : pt ≠ .ports) (hs : pt.same s₀ s) : pt.same s₀ (s.writePortTime p po v) := by
  unfold State.writePortTime
  simp +contextual (maxDischargeDepth := 30) [*]

@[simp] theorem State.eachPort_same {pt : Part} {s₀ s : State} (f : Nat → State → State) (hs : pt.same s₀ s) (hf : ∀ n u, pt.same
    s₀ u → pt.same s₀ (f n u)) : pt.same s₀ (s.eachPort f) := by
  unfold State.eachPort
  simp +contextual (maxDischargeDepth := 30) [*]

@[simp] theorem State.lateBurst_same {pt : Part} {s₀ s : State} (p : Nat) (h0 : pt ≠ .frees) (h1 : pt ≠ .pages) (h2 : pt ≠ .regs)
    (h3 : pt ≠ .ports) (h4 : pt ≠ .groups) (h5 : pt ≠ .stream) (h6 : pt ≠ .memory) (h7 : pt ≠ .cq) (h8 : pt ≠ .xfer)
    (h9 : pt ≠ .core) (h10 : pt ≠ .cnt) (h11 : pt ≠ .trace) (h12 : pt ≠ .alarm) (h13 : pt ≠ .fault) (h14 : pt ≠ .mover)
    (h15 : pt ≠ .outs) (hs : pt.same s₀ s) : pt.same s₀ (State.lateBurst p s) := by
  unfold State.lateBurst
  simp +contextual (maxDischargeDepth := 30) [*]

@[simp] theorem State.endCycle_same {pt : Part} {s₀ s : State} (h0 : pt ≠ .frees) (h1 : pt ≠ .pages) (h2 : pt ≠ .regs)
    (h3 : pt ≠ .time) (h4 : pt ≠ .ports) (h5 : pt ≠ .groups) (h6 : pt ≠ .stream) (h7 : pt ≠ .memory) (h8 : pt ≠ .cq)
    (h9 : pt ≠ .xfer) (h10 : pt ≠ .core) (h11 : pt ≠ .cnt) (h12 : pt ≠ .trace) (h13 : pt ≠ .alarm) (h14 : pt ≠ .fault)
    (h15 : pt ≠ .mover) (h16 : pt ≠ .outs) (hs : pt.same s₀ s) : pt.same s₀ s.endCycle := by
  unfold State.endCycle
  simp +contextual (maxDischargeDepth := 30) [*]

@[simp] theorem State.portCycle_same {pt : Part} {s₀ s : State} (p : Nat) (h0 : pt ≠ .ports) (hs : pt.same s₀ s) : pt.same s₀
    (State.portCycle p s) := by
  unfold State.portCycle
  simp +contextual (maxDischargeDepth := 30) [*]

@[simp] theorem State.syncRec_same {pt : Part} {s₀ s : State} (h0 : pt ≠ .pages) (h1 : pt ≠ .regs) (h2 : pt ≠ .cnt)
    (h3 : pt ≠ .trace) (hs : pt.same s₀ s) : pt.same s₀ s.syncRec := by
  unfold State.syncRec
  simp +contextual (maxDischargeDepth := 30) [*]

@[simp] theorem State.countCycle_same {pt : Part} {s₀ s : State} (h0 : pt ≠ .stream) (h1 : pt ≠ .xfer) (h2 : pt ≠ .cnt) (hs :
    pt.same s₀ s) : pt.same s₀ s.countCycle := by
  unfold State.countCycle
  simp +contextual (maxDischargeDepth := 30) [*]

@[simp] theorem State.cycleBegin_same {pt : Part} {s₀ s : State} (deps : List (Fin 1024 × Int)) (h0 : pt ≠ .frees)
    (h1 : pt ≠ .pages) (h2 : pt ≠ .regs) (h3 : pt ≠ .time) (h4 : pt ≠ .ports) (h5 : pt ≠ .groups) (h6 : pt ≠ .stream)
    (h7 : pt ≠ .memory) (h8 : pt ≠ .xfer) (h9 : pt ≠ .cnt) (h10 : pt ≠ .trace) (h11 : pt ≠ .alarm) (h12 : pt ≠ .outs) (hs :
    pt.same s₀ s) : pt.same s₀ (s.cycleBegin deps) := by
  unfold State.cycleBegin
  simp +contextual (maxDischargeDepth := 30) [*]

@[simp] theorem State.candidateStart_same {pt : Part} {s₀ s : State} (h0 : pt ≠ .pages) (h1 : pt ≠ .regs) (h2 : pt ≠ .node)
    (h3 : pt ≠ .slate) (h4 : pt ≠ .cnt) (h5 : pt ≠ .trace) (hs : pt.same s₀ s) : pt.same s₀ s.candidateStart := by
  unfold State.candidateStart
  simp +contextual (maxDischargeDepth := 30) [*]

@[simp] theorem State.steppedStart_same {pt : Part} {s₀ s : State} (h0 : pt ≠ .pages) (h1 : pt ≠ .regs) (h2 : pt ≠ .time)
    (h3 : pt ≠ .node) (h4 : pt ≠ .slate) (h5 : pt ≠ .ports) (h6 : pt ≠ .groups) (h7 : pt ≠ .evt) (h8 : pt ≠ .scratch)
    (h9 : pt ≠ .cnt) (h10 : pt ≠ .trace) (h11 : pt ≠ .alarm) (hs : pt.same s₀ s) : pt.same s₀ s.steppedStart := by
  unfold State.steppedStart
  repeat' (first | dsimp only | (simp +contextual (maxDischargeDepth := 30) [*]; done) | split |
    (refine Part.same_foldl _ _ ?_ ?_) | (refine Part.same_foldl_fst _ _ ?_ ?_) | intro _ | apply_assumption)

@[simp] theorem State.yieldStart_same {pt : Part} {s₀ s : State} (h0 : pt ≠ .pages) (h1 : pt ≠ .regs) (h2 : pt ≠ .time)
    (h3 : pt ≠ .node) (h4 : pt ≠ .slate) (h5 : pt ≠ .ports) (h6 : pt ≠ .cnt) (h7 : pt ≠ .trace) (hs : pt.same s₀ s) : pt.same s₀
    s.yieldStart := by
  unfold State.yieldStart
  simp +contextual (maxDischargeDepth := 30) [*]

@[simp] theorem State.holdOffStart_same {pt : Part} {s₀ s : State} (h0 : pt ≠ .pages) (h1 : pt ≠ .regs) (h2 : pt ≠ .node)
    (h3 : pt ≠ .slate) (h4 : pt ≠ .cnt) (h5 : pt ≠ .trace) (hs : pt.same s₀ s) : pt.same s₀ s.holdOffStart := by
  unfold State.holdOffStart
  simp +contextual (maxDischargeDepth := 30) [*]

@[simp] theorem State.nodeStartOfCycle_same {pt : Part} {s₀ s : State} (h0 : pt ≠ .frees) (h1 : pt ≠ .pages) (h2 : pt ≠ .regs)
    (h3 : pt ≠ .time) (h4 : pt ≠ .node) (h5 : pt ≠ .slate) (h6 : pt ≠ .ports) (h7 : pt ≠ .groups) (h8 : pt ≠ .evt)
    (h9 : pt ≠ .memory) (h10 : pt ≠ .cq) (h11 : pt ≠ .xfer) (h12 : pt ≠ .core) (h13 : pt ≠ .scratch) (h14 : pt ≠ .cnt)
    (h15 : pt ≠ .trace) (h16 : pt ≠ .alarm) (h17 : pt ≠ .mover) (h18 : pt ≠ .outs) (hs : pt.same s₀ s) : pt.same s₀
    s.nodeStartOfCycle := by
  unfold State.nodeStartOfCycle
  repeat' (first | dsimp only | (simp +contextual (maxDischargeDepth := 30) [*]; done) | split |
    (refine Part.same_foldl _ _ ?_ ?_) | (refine Part.same_foldl_fst _ _ ?_ ?_) | intro _ | apply_assumption)

@[simp] theorem State.flushDeferred_same {pt : Part} {s₀ s : State} (h0 : pt ≠ .frees) (h1 : pt ≠ .pages) (h2 : pt ≠ .regs)
    (h3 : pt ≠ .time) (h4 : pt ≠ .node) (h5 : pt ≠ .slate) (h6 : pt ≠ .ports) (h7 : pt ≠ .groups) (h8 : pt ≠ .stream)
    (h9 : pt ≠ .evt) (h10 : pt ≠ .memory) (h11 : pt ≠ .cq) (h12 : pt ≠ .xfer) (h13 : pt ≠ .core) (h14 : pt ≠ .scratch)
    (h15 : pt ≠ .cnt) (h16 : pt ≠ .trace) (h17 : pt ≠ .alarm) (h18 : pt ≠ .fault) (h19 : pt ≠ .mover) (h20 : pt ≠ .outs) (hs :
    pt.same s₀ s) : pt.same s₀ s.flushDeferred := by
  unfold State.flushDeferred
  simp +contextual (maxDischargeDepth := 30) [*]

@[simp] theorem State.nextCycle_same {pt : Part} {s₀ s : State} (h0 : pt ≠ .frees) (h1 : pt ≠ .pages) (h2 : pt ≠ .regs)
    (h3 : pt ≠ .time) (h4 : pt ≠ .ports) (h5 : pt ≠ .groups) (h6 : pt ≠ .memory) (h7 : pt ≠ .cq) (h8 : pt ≠ .xfer)
    (h9 : pt ≠ .core) (h10 : pt ≠ .cnt) (h11 : pt ≠ .trace) (h12 : pt ≠ .alarm) (h13 : pt ≠ .mover) (h14 : pt ≠ .outs) (hs :
    pt.same s₀ s) : pt.same s₀ s.nextCycle := by
  unfold State.nextCycle
  simp +contextual (maxDischargeDepth := 30) [*]

@[simp] theorem State.cutBehind_same {pt : Part} {s₀ s : State} (h0 : pt ≠ .slate) (hs : pt.same s₀ s) : pt.same s₀ s.cutBehind :=
    by
  unfold State.cutBehind
  simp +contextual (maxDischargeDepth := 30) [*]

@[simp] theorem State.nodeBusy_same {pt : Part} {s₀ s : State} (h0 : pt ≠ .pages) (hs : pt.same s₀ s) : pt.same s₀ s.nodeBusy :=
    by
  unfold State.nodeBusy
  simp +contextual (maxDischargeDepth := 30) [*]

@[simp] theorem State.nodeStart_same {pt : Part} {s₀ s : State} (h0 : pt ≠ .pages) (h1 : pt ≠ .regs) (h2 : pt ≠ .time)
    (h3 : pt ≠ .node) (h4 : pt ≠ .slate) (h5 : pt ≠ .ports) (h6 : pt ≠ .cnt) (h7 : pt ≠ .trace) (hs : pt.same s₀ s) : pt.same s₀
    s.nodeStart := by
  unfold State.nodeStart
  simp +contextual (maxDischargeDepth := 30) [*]

@[simp] theorem State.nodeStop_same {pt : Part} {s₀ s : State} (h0 : pt ≠ .frees) (h1 : pt ≠ .pages) (h2 : pt ≠ .regs)
    (h3 : pt ≠ .time) (h4 : pt ≠ .node) (h5 : pt ≠ .slate) (h6 : pt ≠ .ports) (h7 : pt ≠ .groups) (h8 : pt ≠ .evt)
    (h9 : pt ≠ .memory) (h10 : pt ≠ .cq) (h11 : pt ≠ .xfer) (h12 : pt ≠ .core) (h13 : pt ≠ .scratch) (h14 : pt ≠ .cnt)
    (h15 : pt ≠ .trace) (h16 : pt ≠ .alarm) (h17 : pt ≠ .mover) (h18 : pt ≠ .outs) (hs : pt.same s₀ s) : pt.same s₀ s.nodeStop :=
    by
  unfold State.nodeStop
  simp +contextual (maxDischargeDepth := 30) [*]

@[simp] theorem State.clearHalt_same {pt : Part} {s₀ s : State} (h0 : pt ≠ .frees) (h1 : pt ≠ .pages) (h2 : pt ≠ .regs)
    (h3 : pt ≠ .time) (h4 : pt ≠ .node) (h5 : pt ≠ .slate) (h6 : pt ≠ .ports) (h7 : pt ≠ .groups) (h8 : pt ≠ .evt)
    (h9 : pt ≠ .memory) (h10 : pt ≠ .cq) (h11 : pt ≠ .xfer) (h12 : pt ≠ .core) (h13 : pt ≠ .scratch) (h14 : pt ≠ .cnt)
    (h15 : pt ≠ .trace) (h16 : pt ≠ .alarm) (h17 : pt ≠ .mover) (h18 : pt ≠ .outs) (hs : pt.same s₀ s) : pt.same s₀ s.clearHalt :=
    by
  unfold State.clearHalt
  simp +contextual (maxDischargeDepth := 30) [*]

@[simp] theorem State.writeNodeCtrl_same {pt : Part} {s₀ s : State} (v : Word) (h0 : pt ≠ .frees) (h1 : pt ≠ .pages)
    (h2 : pt ≠ .regs) (h3 : pt ≠ .time) (h4 : pt ≠ .node) (h5 : pt ≠ .slate) (h6 : pt ≠ .ports) (h7 : pt ≠ .groups)
    (h8 : pt ≠ .evt) (h9 : pt ≠ .memory) (h10 : pt ≠ .cq) (h11 : pt ≠ .xfer) (h12 : pt ≠ .core) (h13 : pt ≠ .scratch)
    (h14 : pt ≠ .cnt) (h15 : pt ≠ .trace) (h16 : pt ≠ .alarm) (h17 : pt ≠ .mover) (h18 : pt ≠ .outs) (hs : pt.same s₀ s) : pt.same
    s₀ (s.writeNodeCtrl v) := by
  unfold State.writeNodeCtrl
  simp +contextual (maxDischargeDepth := 30) [*]

@[simp] theorem State.writeCycle_same {pt : Part} {s₀ s : State} (po : Nat) (v : Word) (h0 : pt ≠ .pages) (h1 : pt ≠ .regs) (hs :
    pt.same s₀ s) : pt.same s₀ (s.writeCycle po v) := by
  unfold State.writeCycle
  simp +contextual (maxDischargeDepth := 30) [*]

@[simp] theorem State.sendClaim_same {pt : Part} {s₀ s : State} (p x : Nat) (h0 : pt ≠ .frees) (h1 : pt ≠ .pages)
    (h2 : pt ≠ .regs) (h3 : pt ≠ .time) (h4 : pt ≠ .ports) (h5 : pt ≠ .groups) (h6 : pt ≠ .memory) (h7 : pt ≠ .cq)
    (h8 : pt ≠ .xfer) (h9 : pt ≠ .core) (h10 : pt ≠ .cnt) (h11 : pt ≠ .trace) (h12 : pt ≠ .alarm) (h13 : pt ≠ .mover)
    (h14 : pt ≠ .outs) (hs : pt.same s₀ s) : pt.same s₀ (s.sendClaim p x) := by
  unfold State.sendClaim
  simp +contextual (maxDischargeDepth := 30) [*]

@[simp] theorem State.modMine_same {pt : Part} {s₀ s : State} (p x : Nat) (f : MyClaim → MyClaim) (h0 : pt ≠ .ports) (hs : pt.same
    s₀ s) : pt.same s₀ (s.modMine p x f) := by
  unfold State.modMine
  simp +contextual (maxDischargeDepth := 30) [*]

@[simp] theorem State.claimAck_same {pt : Part} {s₀ s : State} (p x : Nat) (h0 : pt ≠ .pages) (h1 : pt ≠ .regs) (h2 : pt ≠ .ports)
    (h3 : pt ≠ .cnt) (hs : pt.same s₀ s) : pt.same s₀ (s.claimAck p x) := by
  unfold State.claimAck
  repeat' (first | dsimp only | (simp +contextual (maxDischargeDepth := 30) [*]; done) | split |
    (refine Part.same_foldl _ _ ?_ ?_) | (refine Part.same_foldl_fst _ _ ?_ ?_) | intro _ | apply_assumption)

@[simp] theorem State.claimNo_same {pt : Part} {s₀ s : State} (p x reason : Nat) (h0 : pt ≠ .pages) (h1 : pt ≠ .regs)
    (h2 : pt ≠ .ports) (h3 : pt ≠ .cnt) (h4 : pt ≠ .alarm) (hs : pt.same s₀ s) : pt.same s₀ (s.claimNo p x reason) := by
  unfold State.claimNo
  repeat' (first | dsimp only | (simp +contextual (maxDischargeDepth := 30) [*]; done) | split |
    (refine Part.same_foldl _ _ ?_ ?_) | (refine Part.same_foldl_fst _ _ ?_ ?_) | intro _ | apply_assumption)

@[simp] theorem State.answer_same {pt : Part} {s₀ s : State} (p typ dst ctr : Nat) (payload : List Byte) (h0 : pt ≠ .frees)
    (h1 : pt ≠ .pages) (h2 : pt ≠ .regs) (h3 : pt ≠ .ports) (h4 : pt ≠ .groups) (h5 : pt ≠ .memory) (h6 : pt ≠ .cq)
    (h7 : pt ≠ .xfer) (h8 : pt ≠ .core) (h9 : pt ≠ .cnt) (h10 : pt ≠ .trace) (h11 : pt ≠ .alarm) (h12 : pt ≠ .mover)
    (h13 : pt ≠ .outs) (hs : pt.same s₀ s) : pt.same s₀ (s.answer p typ dst ctr payload) := by
  unfold State.answer
  simp +contextual (maxDischargeDepth := 30) [*]

@[simp] theorem State.refuseClaim_same {pt : Part} {s₀ s : State} (p x dst asked reason holder : Nat) (h0 : pt ≠ .frees)
    (h1 : pt ≠ .pages) (h2 : pt ≠ .regs) (h3 : pt ≠ .ports) (h4 : pt ≠ .groups) (h5 : pt ≠ .memory) (h6 : pt ≠ .cq)
    (h7 : pt ≠ .xfer) (h8 : pt ≠ .core) (h9 : pt ≠ .cnt) (h10 : pt ≠ .trace) (h11 : pt ≠ .alarm) (h12 : pt ≠ .mover)
    (h13 : pt ≠ .outs) (hs : pt.same s₀ s) : pt.same s₀ (s.refuseClaim p x dst asked reason holder) := by
  unfold State.refuseClaim
  simp +contextual (maxDischargeDepth := 30) [*]

@[simp] theorem State.withdraw_same {pt : Part} {s₀ s : State} (src : Nat) (e : Nat × Nat × ClaimEnt) (h0 : pt ≠ .frees)
    (h1 : pt ≠ .pages) (h2 : pt ≠ .regs) (h3 : pt ≠ .ports) (h4 : pt ≠ .groups) (h5 : pt ≠ .memory) (h6 : pt ≠ .cq)
    (h7 : pt ≠ .xfer) (h8 : pt ≠ .core) (h9 : pt ≠ .cnt) (h10 : pt ≠ .trace) (h11 : pt ≠ .alarm) (h12 : pt ≠ .mover)
    (h13 : pt ≠ .outs) (hs : pt.same s₀ s) : pt.same s₀ (s.withdraw src e) := by
  unfold State.withdraw
  simp +contextual (maxDischargeDepth := 30) [*]

@[simp] theorem State.acceptClaim_same {pt : Part} {s₀ s : State} (p x src asked : Nat) (h0 : pt ≠ .frees) (h1 : pt ≠ .pages)
    (h2 : pt ≠ .regs) (h3 : pt ≠ .ports) (h4 : pt ≠ .groups) (h5 : pt ≠ .memory) (h6 : pt ≠ .cq) (h7 : pt ≠ .xfer)
    (h8 : pt ≠ .core) (h9 : pt ≠ .cnt) (h10 : pt ≠ .trace) (h11 : pt ≠ .alarm) (h12 : pt ≠ .mover) (h13 : pt ≠ .outs) (hs :
    pt.same s₀ s) : pt.same s₀ (s.acceptClaim p x src asked) := by
  unfold State.acceptClaim
  repeat' (first | dsimp only | (simp +contextual (maxDischargeDepth := 30) [*]; done) | split |
    (refine Part.same_foldl _ _ ?_ ?_) | (refine Part.same_foldl_fst _ _ ?_ ?_) | intro _ | apply_assumption)

@[simp] theorem State.claimIn_same {pt : Part} {s₀ s : State} (p src x asked : Nat) (h0 : pt ≠ .frees) (h1 : pt ≠ .pages)
    (h2 : pt ≠ .regs) (h3 : pt ≠ .ports) (h4 : pt ≠ .groups) (h5 : pt ≠ .memory) (h6 : pt ≠ .cq) (h7 : pt ≠ .xfer)
    (h8 : pt ≠ .core) (h9 : pt ≠ .cnt) (h10 : pt ≠ .trace) (h11 : pt ≠ .alarm) (h12 : pt ≠ .mover) (h13 : pt ≠ .outs) (hs :
    pt.same s₀ s) : pt.same s₀ (s.claimIn p src x asked) := by
  unfold State.claimIn
  repeat' (first | dsimp only | (simp +contextual (maxDischargeDepth := 30) [*]; done) | split |
    (refine Part.same_foldl _ _ ?_ ?_) | (refine Part.same_foldl_fst _ _ ?_ ?_) | intro _ | apply_assumption)

@[simp] theorem State.freeClaims_same {pt : Part} {s₀ s : State} (p : Nat) (h0 : pt ≠ .pages) (h1 : pt ≠ .regs) (h2 : pt ≠ .ports)
    (h3 : pt ≠ .cnt) (hs : pt.same s₀ s) : pt.same s₀ (s.freeClaims p) := by
  unfold State.freeClaims
  simp +contextual (maxDischargeDepth := 30) [*]

end Sys2Proof.Machine
end

