-- ==== Sys2Proof/Laws/PartsLink.lean ====
section
/-! SUPPORT. Which parts of the state the operations of links, reception, preemption and landing touch: every other part stays as it is. -/

namespace Sys2Proof.Machine

open Sys2Proof

@[simp] theorem State.traceRx_same {pt : Part} {s₀ s : State} (p : Nat) (itp : Bool) (f : Frame) (outcome tick : Nat)
    (h0 : pt ≠ .pages) (h1 : pt ≠ .regs) (h2 : pt ≠ .cnt) (h3 : pt ≠ .trace) (hs : pt.same s₀ s) : pt.same s₀ (s.traceRx p itp f
    outcome tick) := by
  unfold State.traceRx
  simp +contextual (maxDischargeDepth := 30) [*]

@[simp] theorem State.refreshActive_same {pt : Part} {s₀ s : State} (p : Nat) (h0 : pt ≠ .pages) (h1 : pt ≠ .ports) (hs : pt.same
    s₀ s) : pt.same s₀ (s.refreshActive p) := by
  unfold State.refreshActive
  simp +contextual (maxDischargeDepth := 30) [*]

@[simp] theorem State.sendVerify_same {pt : Part} {s₀ s : State} (p : Nat) (h0 : pt ≠ .frees) (h1 : pt ≠ .pages) (h2 : pt ≠ .regs)
    (h3 : pt ≠ .time) (h4 : pt ≠ .ports) (h5 : pt ≠ .groups) (h6 : pt ≠ .memory) (h7 : pt ≠ .cq) (h8 : pt ≠ .xfer)
    (h9 : pt ≠ .core) (h10 : pt ≠ .cnt) (h11 : pt ≠ .trace) (h12 : pt ≠ .alarm) (h13 : pt ≠ .mover) (h14 : pt ≠ .outs) (hs :
    pt.same s₀ s) : pt.same s₀ (s.sendVerify p) := by
  unfold State.sendVerify
  simp +contextual (maxDischargeDepth := 30) [*]

@[simp] theorem State.startVerify_same {pt : Part} {s₀ s : State} (p : Nat) (h0 : pt ≠ .frees) (h1 : pt ≠ .pages)
    (h2 : pt ≠ .regs) (h3 : pt ≠ .time) (h4 : pt ≠ .ports) (h5 : pt ≠ .groups) (h6 : pt ≠ .memory) (h7 : pt ≠ .cq)
    (h8 : pt ≠ .xfer) (h9 : pt ≠ .core) (h10 : pt ≠ .cnt) (h11 : pt ≠ .trace) (h12 : pt ≠ .alarm) (h13 : pt ≠ .mover)
    (h14 : pt ≠ .outs) (hs : pt.same s₀ s) : pt.same s₀ (s.startVerify p) := by
  unfold State.startVerify
  simp +contextual (maxDischargeDepth := 30) [*]

@[simp] theorem State.abortReasm_same {pt : Part} {s₀ s : State} (p : Nat) (h0 : pt ≠ .pages) (h1 : pt ≠ .regs) (h2 : pt ≠ .ports)
    (h3 : pt ≠ .cnt) (h4 : pt ≠ .trace) (hs : pt.same s₀ s) : pt.same s₀ (s.abortReasm p) := by
  unfold State.abortReasm
  repeat' (first | dsimp only | (simp +contextual (maxDischargeDepth := 30) [*]; done) | split |
    (refine Part.same_foldl _ _ ?_ ?_) | (refine Part.same_foldl_fst _ _ ?_ ?_) | intro _ | apply_assumption)

@[simp] theorem State.leaveUp_same {pt : Part} {s₀ s : State} (p : Nat) (st : LinkState) (h0 : pt ≠ .frees) (h1 : pt ≠ .pages)
    (h2 : pt ≠ .regs) (h3 : pt ≠ .ports) (h4 : pt ≠ .groups) (h5 : pt ≠ .memory) (h6 : pt ≠ .cq) (h7 : pt ≠ .xfer)
    (h8 : pt ≠ .core) (h9 : pt ≠ .cnt) (h10 : pt ≠ .trace) (h11 : pt ≠ .alarm) (h12 : pt ≠ .mover) (h13 : pt ≠ .outs) (hs :
    pt.same s₀ s) : pt.same s₀ (s.leaveUp p st) := by
  unfold State.leaveUp
  simp +contextual (maxDischargeDepth := 30) [*]

@[simp] theorem State.enterDetect_same {pt : Part} {s₀ s : State} (p : Nat) (h0 : pt ≠ .frees) (h1 : pt ≠ .pages)
    (h2 : pt ≠ .regs) (h3 : pt ≠ .ports) (h4 : pt ≠ .groups) (h5 : pt ≠ .memory) (h6 : pt ≠ .cq) (h7 : pt ≠ .xfer)
    (h8 : pt ≠ .core) (h9 : pt ≠ .cnt) (h10 : pt ≠ .trace) (h11 : pt ≠ .alarm) (h12 : pt ≠ .mover) (h13 : pt ≠ .outs) (hs :
    pt.same s₀ s) : pt.same s₀ (s.enterDetect p) := by
  unfold State.enterDetect
  simp +contextual (maxDischargeDepth := 30) [*]

@[simp] theorem State.recordDown_same {pt : Part} {s₀ s : State} (p reason : Nat) (h0 : pt ≠ .frees) (h1 : pt ≠ .pages)
    (h2 : pt ≠ .regs) (h3 : pt ≠ .ports) (h4 : pt ≠ .groups) (h5 : pt ≠ .stream) (h6 : pt ≠ .memory) (h7 : pt ≠ .cq)
    (h8 : pt ≠ .xfer) (h9 : pt ≠ .core) (h10 : pt ≠ .cnt) (h11 : pt ≠ .trace) (h12 : pt ≠ .alarm) (h13 : pt ≠ .fault)
    (h14 : pt ≠ .mover) (h15 : pt ≠ .outs) (hs : pt.same s₀ s) : pt.same s₀ (s.recordDown p reason) := by
  unfold State.recordDown
  simp +contextual (maxDischargeDepth := 30) [*]

@[simp] theorem State.goDown_same {pt : Part} {s₀ s : State} (p reason : Nat) (h0 : pt ≠ .frees) (h1 : pt ≠ .pages)
    (h2 : pt ≠ .regs) (h3 : pt ≠ .ports) (h4 : pt ≠ .groups) (h5 : pt ≠ .stream) (h6 : pt ≠ .memory) (h7 : pt ≠ .cq)
    (h8 : pt ≠ .xfer) (h9 : pt ≠ .core) (h10 : pt ≠ .cnt) (h11 : pt ≠ .trace) (h12 : pt ≠ .alarm) (h13 : pt ≠ .fault)
    (h14 : pt ≠ .mover) (h15 : pt ≠ .outs) (hs : pt.same s₀ s) : pt.same s₀ (s.goDown p reason) := by
  unfold State.goDown
  simp +contextual (maxDischargeDepth := 30) [*]

@[simp] theorem State.enterUp_same {pt : Part} {s₀ s : State} (p : Nat) (h0 : pt ≠ .frees) (h1 : pt ≠ .pages) (h2 : pt ≠ .regs)
    (h3 : pt ≠ .time) (h4 : pt ≠ .ports) (h5 : pt ≠ .groups) (h6 : pt ≠ .memory) (h7 : pt ≠ .cq) (h8 : pt ≠ .xfer)
    (h9 : pt ≠ .core) (h10 : pt ≠ .cnt) (h11 : pt ≠ .trace) (h12 : pt ≠ .alarm) (h13 : pt ≠ .mover) (h14 : pt ≠ .outs) (hs :
    pt.same s₀ s) : pt.same s₀ (s.enterUp p) := by
  unfold State.enterUp
  simp +contextual (maxDischargeDepth := 30) [*]

@[simp] theorem State.enterFailed_same {pt : Part} {s₀ s : State} (p reason : Nat) (h0 : pt ≠ .pages) (h1 : pt ≠ .ports)
    (h2 : pt ≠ .outs) (hs : pt.same s₀ s) : pt.same s₀ (s.enterFailed p reason) := by
  unfold State.enterFailed
  simp +contextual (maxDischargeDepth := 30) [*]

@[simp] theorem State.enterSleep_same {pt : Part} {s₀ s : State} (p reason : Nat) (h0 : pt ≠ .frees) (h1 : pt ≠ .pages)
    (h2 : pt ≠ .regs) (h3 : pt ≠ .ports) (h4 : pt ≠ .groups) (h5 : pt ≠ .memory) (h6 : pt ≠ .cq) (h7 : pt ≠ .xfer)
    (h8 : pt ≠ .core) (h9 : pt ≠ .cnt) (h10 : pt ≠ .trace) (h11 : pt ≠ .alarm) (h12 : pt ≠ .mover) (h13 : pt ≠ .outs) (hs :
    pt.same s₀ s) : pt.same s₀ (s.enterSleep p reason) := by
  unfold State.enterSleep
  repeat' (first | dsimp only | (simp +contextual (maxDischargeDepth := 30) [*]; done) | split |
    (refine Part.same_foldl _ _ ?_ ?_) | (refine Part.same_foldl_fst _ _ ?_ ?_) | intro _ | apply_assumption)

@[simp] theorem State.enterWaking_same {pt : Part} {s₀ s : State} (p : Nat) (h0 : pt ≠ .pages) (h1 : pt ≠ .regs)
    (h2 : pt ≠ .ports) (h3 : pt ≠ .cnt) (hs : pt.same s₀ s) : pt.same s₀ (s.enterWaking p) := by
  unfold State.enterWaking
  simp +contextual (maxDischargeDepth := 30) [*]

@[simp] theorem State.portEnable_same {pt : Part} {s₀ s : State} (p : Nat) (on : Bool) (h0 : pt ≠ .frees) (h1 : pt ≠ .pages)
    (h2 : pt ≠ .regs) (h3 : pt ≠ .ports) (h4 : pt ≠ .groups) (h5 : pt ≠ .stream) (h6 : pt ≠ .memory) (h7 : pt ≠ .cq)
    (h8 : pt ≠ .xfer) (h9 : pt ≠ .core) (h10 : pt ≠ .cnt) (h11 : pt ≠ .trace) (h12 : pt ≠ .alarm) (h13 : pt ≠ .fault)
    (h14 : pt ≠ .mover) (h15 : pt ≠ .outs) (hs : pt.same s₀ s) : pt.same s₀ (s.portEnable p on) := by
  unfold State.portEnable
  simp +contextual (maxDischargeDepth := 30) [*]

@[simp] theorem State.sinceLink_same {pt : Part} {s₀ s : State} (p w : Nat) (h0 : pt ≠ .frees) (h1 : pt ≠ .pages)
    (h2 : pt ≠ .regs) (h3 : pt ≠ .time) (h4 : pt ≠ .ports) (h5 : pt ≠ .groups) (h6 : pt ≠ .memory) (h7 : pt ≠ .cq)
    (h8 : pt ≠ .xfer) (h9 : pt ≠ .core) (h10 : pt ≠ .cnt) (h11 : pt ≠ .trace) (h12 : pt ≠ .alarm) (h13 : pt ≠ .mover)
    (h14 : pt ≠ .outs) (hs : pt.same s₀ s) : pt.same s₀ (s.sinceLink p w) := by
  unfold State.sinceLink
  simp +contextual (maxDischargeDepth := 30) [*]

@[simp] theorem State.sendHello_same {pt : Part} {s₀ s : State} (p : Nat) (sw sl : Bool) (h0 : pt ≠ .frees) (h1 : pt ≠ .pages)
    (h2 : pt ≠ .regs) (h3 : pt ≠ .time) (h4 : pt ≠ .ports) (h5 : pt ≠ .groups) (h6 : pt ≠ .memory) (h7 : pt ≠ .cq)
    (h8 : pt ≠ .xfer) (h9 : pt ≠ .core) (h10 : pt ≠ .cnt) (h11 : pt ≠ .trace) (h12 : pt ≠ .alarm) (h13 : pt ≠ .mover)
    (h14 : pt ≠ .outs) (hs : pt.same s₀ s) : pt.same s₀ (s.sendHello p sw sl) := by
  unfold State.sendHello
  simp +contextual (maxDischargeDepth := 30) [*]

@[simp] theorem State.completeHello_same {pt : Part} {s₀ s : State} (p : Nat) (h : Hello) (h0 : pt ≠ .frees) (h1 : pt ≠ .pages)
    (h2 : pt ≠ .regs) (h3 : pt ≠ .time) (h4 : pt ≠ .ports) (h5 : pt ≠ .groups) (h6 : pt ≠ .stream) (h7 : pt ≠ .memory)
    (h8 : pt ≠ .cq) (h9 : pt ≠ .xfer) (h10 : pt ≠ .core) (h11 : pt ≠ .cnt) (h12 : pt ≠ .trace) (h13 : pt ≠ .alarm)
    (h14 : pt ≠ .fault) (h15 : pt ≠ .mover) (h16 : pt ≠ .outs) (hs : pt.same s₀ s) : pt.same s₀ (s.completeHello p h) := by
  unfold State.completeHello
  simp +contextual (maxDischargeDepth := 30) [*]

@[simp] theorem State.helloCheck_same {pt : Part} {s₀ s : State} (p : Nat) (h0 : pt ≠ .frees) (h1 : pt ≠ .pages) (h2 : pt ≠ .regs)
    (h3 : pt ≠ .time) (h4 : pt ≠ .ports) (h5 : pt ≠ .groups) (h6 : pt ≠ .stream) (h7 : pt ≠ .memory) (h8 : pt ≠ .cq)
    (h9 : pt ≠ .xfer) (h10 : pt ≠ .core) (h11 : pt ≠ .cnt) (h12 : pt ≠ .trace) (h13 : pt ≠ .alarm) (h14 : pt ≠ .fault)
    (h15 : pt ≠ .mover) (h16 : pt ≠ .outs) (hs : pt.same s₀ s) : pt.same s₀ (s.helloCheck p) := by
  unfold State.helloCheck
  repeat' (first | dsimp only | (simp +contextual (maxDischargeDepth := 30) [*]; done) | split |
    (refine Part.same_foldl _ _ ?_ ?_) | (refine Part.same_foldl_fst _ _ ?_ ?_) | intro _ | apply_assumption)

@[simp] theorem State.helloIn_same {pt : Part} {s₀ s : State} (p : Nat) (h : Hello) (h0 : pt ≠ .frees) (h1 : pt ≠ .pages)
    (h2 : pt ≠ .regs) (h3 : pt ≠ .time) (h4 : pt ≠ .ports) (h5 : pt ≠ .groups) (h6 : pt ≠ .stream) (h7 : pt ≠ .memory)
    (h8 : pt ≠ .cq) (h9 : pt ≠ .xfer) (h10 : pt ≠ .core) (h11 : pt ≠ .cnt) (h12 : pt ≠ .trace) (h13 : pt ≠ .alarm)
    (h14 : pt ≠ .fault) (h15 : pt ≠ .mover) (h16 : pt ≠ .outs) (hs : pt.same s₀ s) : pt.same s₀ (s.helloIn p h) := by
  unfold State.helloIn
  repeat' (first | dsimp only | (simp +contextual (maxDischargeDepth := 30) [*]; done) | split |
    (refine Part.same_foldl _ _ ?_ ?_) | (refine Part.same_foldl_fst _ _ ?_ ?_) | intro _ | apply_assumption)

@[simp] theorem State.lockLost_same {pt : Part} {s₀ s : State} (p : Nat) (signal : Bool) (h0 : pt ≠ .frees) (h1 : pt ≠ .pages)
    (h2 : pt ≠ .regs) (h3 : pt ≠ .ports) (h4 : pt ≠ .groups) (h5 : pt ≠ .stream) (h6 : pt ≠ .memory) (h7 : pt ≠ .cq)
    (h8 : pt ≠ .xfer) (h9 : pt ≠ .core) (h10 : pt ≠ .cnt) (h11 : pt ≠ .trace) (h12 : pt ≠ .alarm) (h13 : pt ≠ .fault)
    (h14 : pt ≠ .mover) (h15 : pt ≠ .outs) (hs : pt.same s₀ s) : pt.same s₀ (s.lockLost p signal) := by
  unfold State.lockLost
  repeat' (first | dsimp only | (simp +contextual (maxDischargeDepth := 30) [*]; done) | split |
    (refine Part.same_foldl _ _ ?_ ?_) | (refine Part.same_foldl_fst _ _ ?_ ?_) | intro _ | apply_assumption)

@[simp] theorem State.cwIn_same {pt : Part} {s₀ s : State} (p : Nat) (corrected : Nat) (uncorr : Bool) (h0 : pt ≠ .pages)
    (h1 : pt ≠ .regs) (h2 : pt ≠ .ports) (h3 : pt ≠ .cnt) (hs : pt.same s₀ s) : pt.same s₀ (s.cwIn p corrected uncorr) := by
  unfold State.cwIn
  simp +contextual (maxDischargeDepth := 30) [*]

@[simp] theorem State.hiUncorr_same {pt : Part} {s₀ s : State} (p : Nat) (h0 : pt ≠ .frees) (h1 : pt ≠ .pages) (h2 : pt ≠ .regs)
    (h3 : pt ≠ .ports) (h4 : pt ≠ .groups) (h5 : pt ≠ .stream) (h6 : pt ≠ .memory) (h7 : pt ≠ .cq) (h8 : pt ≠ .xfer)
    (h9 : pt ≠ .core) (h10 : pt ≠ .cnt) (h11 : pt ≠ .trace) (h12 : pt ≠ .alarm) (h13 : pt ≠ .fault) (h14 : pt ≠ .mover)
    (h15 : pt ≠ .outs) (hs : pt.same s₀ s) : pt.same s₀ (s.hiUncorr p) := by
  unfold State.hiUncorr
  simp +contextual (maxDischargeDepth := 30) [*]

@[simp] theorem State.markerIn_same {pt : Part} {s₀ s : State} (p : Nat) (marker signal : Bool) (h0 : pt ≠ .frees)
    (h1 : pt ≠ .pages) (h2 : pt ≠ .regs) (h3 : pt ≠ .time) (h4 : pt ≠ .ports) (h5 : pt ≠ .groups) (h6 : pt ≠ .stream)
    (h7 : pt ≠ .memory) (h8 : pt ≠ .cq) (h9 : pt ≠ .xfer) (h10 : pt ≠ .core) (h11 : pt ≠ .cnt) (h12 : pt ≠ .trace)
    (h13 : pt ≠ .alarm) (h14 : pt ≠ .fault) (h15 : pt ≠ .mover) (h16 : pt ≠ .outs) (hs : pt.same s₀ s) : pt.same s₀ (s.markerIn p
    marker signal) := by
  unfold State.markerIn
  simp +contextual (maxDischargeDepth := 30) [*]

@[simp] theorem State.llIn_same {pt : Part} {s₀ s : State} (p : Nat) (symbols : List Nat) (signal : Bool) (h0 : pt ≠ .frees)
    (h1 : pt ≠ .pages) (h2 : pt ≠ .regs) (h3 : pt ≠ .time) (h4 : pt ≠ .ports) (h5 : pt ≠ .groups) (h6 : pt ≠ .stream)
    (h7 : pt ≠ .memory) (h8 : pt ≠ .cq) (h9 : pt ≠ .xfer) (h10 : pt ≠ .core) (h11 : pt ≠ .cnt) (h12 : pt ≠ .trace)
    (h13 : pt ≠ .alarm) (h14 : pt ≠ .fault) (h15 : pt ≠ .mover) (h16 : pt ≠ .outs) (hs : pt.same s₀ s) : pt.same s₀ (s.llIn p
    symbols signal) := by
  unfold State.llIn
  repeat' (first | dsimp only | (simp +contextual (maxDischargeDepth := 30) [*]; done) | split |
    (refine Part.same_foldl _ _ ?_ ?_) | (refine Part.same_foldl_fst _ _ ?_ ?_) | intro _ | apply_assumption)

@[simp] theorem State.stdIn_same {pt : Part} {s₀ s : State} (p corrected : Nat) (uncorr : Bool) (h0 : pt ≠ .frees)
    (h1 : pt ≠ .pages) (h2 : pt ≠ .regs) (h3 : pt ≠ .ports) (h4 : pt ≠ .groups) (h5 : pt ≠ .stream) (h6 : pt ≠ .memory)
    (h7 : pt ≠ .cq) (h8 : pt ≠ .xfer) (h9 : pt ≠ .core) (h10 : pt ≠ .cnt) (h11 : pt ≠ .trace) (h12 : pt ≠ .alarm)
    (h13 : pt ≠ .fault) (h14 : pt ≠ .mover) (h15 : pt ≠ .outs) (hs : pt.same s₀ s) : pt.same s₀ (s.stdIn p corrected uncorr) := by
  unfold State.stdIn
  simp +contextual (maxDischargeDepth := 30) [*]

@[simp] theorem State.retrain_same {pt : Part} {s₀ s : State} (p : Nat) (h0 : pt ≠ .frees) (h1 : pt ≠ .pages) (h2 : pt ≠ .regs)
    (h3 : pt ≠ .ports) (h4 : pt ≠ .groups) (h5 : pt ≠ .stream) (h6 : pt ≠ .memory) (h7 : pt ≠ .cq) (h8 : pt ≠ .xfer)
    (h9 : pt ≠ .core) (h10 : pt ≠ .cnt) (h11 : pt ≠ .trace) (h12 : pt ≠ .alarm) (h13 : pt ≠ .fault) (h14 : pt ≠ .mover)
    (h15 : pt ≠ .outs) (hs : pt.same s₀ s) : pt.same s₀ (s.retrain p) := by
  unfold State.retrain
  simp +contextual (maxDischargeDepth := 30) [*]

@[simp] theorem State.linkSleep_same {pt : Part} {s₀ s : State} (p : Nat) (h0 : pt ≠ .frees) (h1 : pt ≠ .pages) (h2 : pt ≠ .regs)
    (h3 : pt ≠ .time) (h4 : pt ≠ .ports) (h5 : pt ≠ .groups) (h6 : pt ≠ .memory) (h7 : pt ≠ .cq) (h8 : pt ≠ .xfer)
    (h9 : pt ≠ .core) (h10 : pt ≠ .cnt) (h11 : pt ≠ .trace) (h12 : pt ≠ .alarm) (h13 : pt ≠ .mover) (h14 : pt ≠ .outs) (hs :
    pt.same s₀ s) : pt.same s₀ (s.linkSleep p) := by
  unfold State.linkSleep
  simp +contextual (maxDischargeDepth := 30) [*]

@[simp] theorem State.linkWake_same {pt : Part} {s₀ s : State} (p : Nat) (h0 : pt ≠ .pages) (h1 : pt ≠ .regs) (h2 : pt ≠ .ports)
    (h3 : pt ≠ .cnt) (h4 : pt ≠ .outs) (hs : pt.same s₀ s) : pt.same s₀ (s.linkWake p) := by
  unfold State.linkWake
  repeat' (first | dsimp only | (simp +contextual (maxDischargeDepth := 30) [*]; done) | split |
    (refine Part.same_foldl _ _ ?_ ?_) | (refine Part.same_foldl_fst _ _ ?_ ?_) | intro _ | apply_assumption)

@[simp] theorem State.writeLinkCtrl_same {pt : Part} {s₀ s : State} (p : Nat) (v : Word) (h0 : pt ≠ .frees) (h1 : pt ≠ .pages)
    (h2 : pt ≠ .regs) (h3 : pt ≠ .time) (h4 : pt ≠ .ports) (h5 : pt ≠ .groups) (h6 : pt ≠ .stream) (h7 : pt ≠ .memory)
    (h8 : pt ≠ .cq) (h9 : pt ≠ .xfer) (h10 : pt ≠ .core) (h11 : pt ≠ .cnt) (h12 : pt ≠ .trace) (h13 : pt ≠ .alarm)
    (h14 : pt ≠ .fault) (h15 : pt ≠ .mover) (h16 : pt ≠ .outs) (hs : pt.same s₀ s) : pt.same s₀ (s.writeLinkCtrl p v) := by
  unfold State.writeLinkCtrl
  simp +contextual (maxDischargeDepth := 30) [*]

@[simp] theorem State.writeLinkCfg_same {pt : Part} {s₀ s : State} (p : Nat) (v : Word) (h0 : pt ≠ .frees) (h1 : pt ≠ .pages)
    (h2 : pt ≠ .regs) (h3 : pt ≠ .ports) (h4 : pt ≠ .groups) (h5 : pt ≠ .memory) (h6 : pt ≠ .cq) (h7 : pt ≠ .xfer)
    (h8 : pt ≠ .core) (h9 : pt ≠ .cnt) (h10 : pt ≠ .trace) (h11 : pt ≠ .alarm) (h12 : pt ≠ .mover) (h13 : pt ≠ .outs) (hs :
    pt.same s₀ s) : pt.same s₀ (s.writeLinkCfg p v) := by
  unfold State.writeLinkCfg
  simp +contextual (maxDischargeDepth := 30) [*]

@[simp] theorem State.writePortLink_same {pt : Part} {s₀ s : State} (p po : Nat) (v : Word) (h0 : pt ≠ .frees) (h1 : pt ≠ .pages)
    (h2 : pt ≠ .regs) (h3 : pt ≠ .time) (h4 : pt ≠ .ports) (h5 : pt ≠ .groups) (h6 : pt ≠ .stream) (h7 : pt ≠ .memory)
    (h8 : pt ≠ .cq) (h9 : pt ≠ .xfer) (h10 : pt ≠ .core) (h11 : pt ≠ .cnt) (h12 : pt ≠ .trace) (h13 : pt ≠ .alarm)
    (h14 : pt ≠ .fault) (h15 : pt ≠ .mover) (h16 : pt ≠ .outs) (hs : pt.same s₀ s) : pt.same s₀ (s.writePortLink p po v) := by
  unfold State.writePortLink
  repeat' (first | dsimp only | (simp +contextual (maxDischargeDepth := 30) [*]; done) | split |
    (refine Part.same_foldl _ _ ?_ ?_) | (refine Part.same_foldl_fst _ _ ?_ ?_) | intro _ | apply_assumption)

@[simp] theorem State.drop3_same {pt : Part} {s₀ s : State} (p ctr : Nat) (h0 : pt ≠ .pages) (h1 : pt ≠ .regs) (h2 : pt ≠ .ports)
    (h3 : pt ≠ .cnt) (hs : pt.same s₀ s) : pt.same s₀ (s.drop3 p ctr) := by
  unfold State.drop3
  simp +contextual (maxDischargeDepth := 30) [*]

@[simp] theorem State.relayTo_same {pt : Part} {s₀ s : State} (p cls : Nat) (itp : Bool) (f : Frame) (q : Nat) (h0 : pt ≠ .frees)
    (h1 : pt ≠ .pages) (h2 : pt ≠ .regs) (h3 : pt ≠ .ports) (h4 : pt ≠ .groups) (h5 : pt ≠ .memory) (h6 : pt ≠ .cq)
    (h7 : pt ≠ .xfer) (h8 : pt ≠ .core) (h9 : pt ≠ .cnt) (h10 : pt ≠ .trace) (h11 : pt ≠ .alarm) (h12 : pt ≠ .mover)
    (h13 : pt ≠ .outs) (hs : pt.same s₀ s) : pt.same s₀ (s.relayTo p cls itp f q) := by
  unfold State.relayTo
  simp +contextual (maxDischargeDepth := 30) [*]

@[simp] theorem State.relay_same {pt : Part} {s₀ s : State} (p : Nat) (itp : Bool) (f : Frame) (cls : Nat) (ports : List Nat)
    (h0 : pt ≠ .frees) (h1 : pt ≠ .pages) (h2 : pt ≠ .regs) (h3 : pt ≠ .ports) (h4 : pt ≠ .groups) (h5 : pt ≠ .memory)
    (h6 : pt ≠ .cq) (h7 : pt ≠ .xfer) (h8 : pt ≠ .core) (h9 : pt ≠ .cnt) (h10 : pt ≠ .trace) (h11 : pt ≠ .alarm)
    (h12 : pt ≠ .mover) (h13 : pt ≠ .outs) (hs : pt.same s₀ s) : pt.same s₀ (s.relay p itp f cls ports) := by
  unfold State.relay
  simp +contextual (maxDischargeDepth := 30) [*]

@[simp] theorem State.stomp_same {pt : Part} {s₀ s : State} (p cls : Nat) (itp : Bool) (f : Frame) (q : Nat) (h0 : pt ≠ .pages)
    (h1 : pt ≠ .regs) (h2 : pt ≠ .ports) (h3 : pt ≠ .groups) (h4 : pt ≠ .xfer) (h5 : pt ≠ .cnt) (h6 : pt ≠ .trace)
    (h7 : pt ≠ .outs) (hs : pt.same s₀ s) : pt.same s₀ (s.stomp p cls itp f q) := by
  unfold State.stomp
  simp +contextual (maxDischargeDepth := 30) [*]

@[simp] theorem State.stompAll_same {pt : Part} {s₀ s : State} (p : Nat) (itp : Bool) (f : Frame) (tRx : Nat) (begun : List (Fin
    1024)) (h0 : pt ≠ .pages) (h1 : pt ≠ .regs) (h2 : pt ≠ .ports) (h3 : pt ≠ .groups) (h4 : pt ≠ .xfer) (h5 : pt ≠ .cnt)
    (h6 : pt ≠ .trace) (h7 : pt ≠ .outs) (hs : pt.same s₀ s) : pt.same s₀ (s.stompAll p itp f tRx begun) := by
  unfold State.stompAll
  repeat' (first | dsimp only | (simp +contextual (maxDischargeDepth := 30) [*]; done) | split |
    (refine Part.same_foldl _ _ ?_ ?_) | (refine Part.same_foldl_fst _ _ ?_ ?_) | intro _ | apply_assumption)

@[simp] theorem State.pauseIn_same {pt : Part} {s₀ s : State} (p : Nat) (f : PauseFrame) (h0 : pt ≠ .pages) (h1 : pt ≠ .regs)
    (h2 : pt ≠ .ports) (h3 : pt ≠ .cnt) (hs : pt.same s₀ s) : pt.same s₀ (s.pauseIn p f) := by
  unfold State.pauseIn
  simp +contextual (maxDischargeDepth := 30) [*]

@[simp] theorem State.ctrlIn_same {pt : Part} {s₀ s : State} (p : Nat) (f : Frame) (tRx : Nat) (h0 : pt ≠ .pages)
    (h1 : pt ≠ .regs) (h2 : pt ≠ .ports) (h3 : pt ≠ .cnt) (hs : pt.same s₀ s) : pt.same s₀ (s.ctrlIn p f tRx) := by
  unfold State.ctrlIn
  simp +contextual (maxDischargeDepth := 30) [*]

@[simp] theorem State.consume_same {pt : Part} {s₀ s : State} (p : Nat) (f : Frame) (tRx : Nat) (h0 : pt ≠ .frees) (h1 : pt ≠ .pages) (h2 : pt ≠ .regs) (h3 : pt ≠ .time) (h4 : pt ≠ .node) (h5 : pt ≠ .slate) (h6 : pt ≠ .ports) (h7 : pt ≠ .groups) (h8 : pt ≠ .stream) (h9 : pt ≠ .evt) (h10 : pt ≠ .memory) (h11 : pt ≠ .cq) (h12 : pt ≠ .xfer) (h13 : pt ≠ .core) (h14 : pt ≠ .scratch) (h15 : pt ≠ .cnt) (h16 : pt ≠ .trace) (h17 : pt ≠ .alarm) (h18 : pt ≠ .fault) (h19 : pt ≠ .mover) (h20 : pt ≠ .outs) (hs : pt.same s₀ s) : pt.same s₀ (s.consume p f tRx) := by
  have c0 : ∀ (u : State) (q : Nat) (c : Clapper) (t : Nat), pt.same s₀ u → pt.same s₀ (u.clapperIn q c t) := fun u q c t hu => by simp [*]
  have c1 : ∀ (u : State) (q : Nat) (a : Nat) (b : Nat) (c : Nat), pt.same s₀ u → pt.same s₀ (u.answerDelay q a b c) := fun u q a b c hu => by simp [*]
  have c2 : ∀ (u : State) (q : Nat) (a : Nat) (b : Bool) (c : Int) (d : Nat), pt.same s₀ u → pt.same s₀ (u.delayResp q a b c d) := fun u q a b c d hu => by simp [*]
  have c3 : ∀ (u : State) (q : Nat) (h : Hello), pt.same s₀ u → pt.same s₀ (u.helloIn q h) := fun u q h hu => by simp [*]
  have c4 : ∀ (u : State) (q : Nat) (a : Nat) (b : Nat) (c : Nat), pt.same s₀ u → pt.same s₀ (u.claimIn q a b c) := fun u q a b c hu => by simp [*]
  have c5 : ∀ (u : State) (q : Nat) (a : Nat), pt.same s₀ u → pt.same s₀ (u.claimAck q a) := fun u q a hu => by simp [*]
  have c6 : ∀ (u : State) (q : Nat) (a : Nat) (b : Nat), pt.same s₀ u → pt.same s₀ (u.claimNo q a b) := fun u q a b hu => by simp [*]
  unfold State.consume
  dsimp only
  exact Part.same_ite (Part.same_ite hs (c0 _ _ _ _ hs)) (Part.same_ite (Part.same_ite (c1 _ _ _ _ _ hs) hs)
    (Part.same_ite (Part.same_ite (c2 _ _ _ _ _ _ hs) hs) (Part.same_ite (c3 _ _ _ hs) (Part.same_ite (c4 _ _ _ _ _ hs)
      (Part.same_ite (c5 _ _ _ hs) (c6 _ _ _ _ hs))))))

@[simp] theorem State.fromStage5_same {pt : Part} {s₀ s : State} (p : Nat) (itp : Bool) (f : Frame) (tRx last edge : Nat)
    (h0 : pt ≠ .frees) (h1 : pt ≠ .pages) (h2 : pt ≠ .regs) (h3 : pt ≠ .time) (h4 : pt ≠ .node) (h5 : pt ≠ .slate)
    (h6 : pt ≠ .ports) (h7 : pt ≠ .groups) (h8 : pt ≠ .stream) (h9 : pt ≠ .evt) (h10 : pt ≠ .hubIn) (h11 : pt ≠ .memory)
    (h12 : pt ≠ .cq) (h13 : pt ≠ .xfer) (h14 : pt ≠ .core) (h15 : pt ≠ .scratch) (h16 : pt ≠ .cnt) (h17 : pt ≠ .trace)
    (h18 : pt ≠ .alarm) (h19 : pt ≠ .fault) (h20 : pt ≠ .mover) (h21 : pt ≠ .outs) (hs : pt.same s₀ s) : pt.same s₀ (s.fromStage5
    p itp f tRx last edge) := by
  unfold State.fromStage5
  repeat' (first | dsimp only | (simp +contextual (maxDischargeDepth := 30) [*]; done) | split |
    (refine Part.same_foldl _ _ ?_ ?_) | (refine Part.same_foldl_fst _ _ ?_ ?_) | intro _ | apply_assumption)

@[simp] theorem State.fromStage3_same {pt : Part} {s₀ s : State} (p : Nat) (itp : Bool) (f : Frame) (tRx last edge : Nat)
    (h0 : pt ≠ .frees) (h1 : pt ≠ .pages) (h2 : pt ≠ .regs) (h3 : pt ≠ .time) (h4 : pt ≠ .node) (h5 : pt ≠ .slate)
    (h6 : pt ≠ .ports) (h7 : pt ≠ .groups) (h8 : pt ≠ .stream) (h9 : pt ≠ .evt) (h10 : pt ≠ .hubIn) (h11 : pt ≠ .memory)
    (h12 : pt ≠ .cq) (h13 : pt ≠ .xfer) (h14 : pt ≠ .core) (h15 : pt ≠ .scratch) (h16 : pt ≠ .cnt) (h17 : pt ≠ .trace)
    (h18 : pt ≠ .alarm) (h19 : pt ≠ .fault) (h20 : pt ≠ .mover) (h21 : pt ≠ .outs) (hs : pt.same s₀ s) : pt.same s₀ (s.fromStage3
    p itp f tRx last edge) := by
  unfold State.fromStage3
  repeat' (first | dsimp only | (simp +contextual (maxDischargeDepth := 30) [*]; done) | split |
    (refine Part.same_foldl _ _ ?_ ?_) | (refine Part.same_foldl_fst _ _ ?_ ?_) | intro _ | apply_assumption)

@[simp] theorem State.rxUp_same {pt : Part} {s₀ s : State} (r : RxFrame) (h0 : pt ≠ .frees) (h1 : pt ≠ .pages) (h2 : pt ≠ .regs)
    (h3 : pt ≠ .time) (h4 : pt ≠ .node) (h5 : pt ≠ .slate) (h6 : pt ≠ .ports) (h7 : pt ≠ .groups) (h8 : pt ≠ .stream)
    (h9 : pt ≠ .evt) (h10 : pt ≠ .hubIn) (h11 : pt ≠ .memory) (h12 : pt ≠ .cq) (h13 : pt ≠ .xfer) (h14 : pt ≠ .core)
    (h15 : pt ≠ .scratch) (h16 : pt ≠ .cnt) (h17 : pt ≠ .trace) (h18 : pt ≠ .alarm) (h19 : pt ≠ .fault) (h20 : pt ≠ .mover)
    (h21 : pt ≠ .outs) (hs : pt.same s₀ s) : pt.same s₀ (s.rxUp r) := by
  unfold State.rxUp
  repeat' (first | dsimp only | (simp +contextual (maxDischargeDepth := 30) [*]; done) | split |
    (refine Part.same_foldl _ _ ?_ ?_) | (refine Part.same_foldl_fst _ _ ?_ ?_) | intro _ | apply_assumption)

@[simp] theorem State.rxNotUp_same {pt : Part} {s₀ s : State} (r : RxFrame) (h0 : pt ≠ .frees) (h1 : pt ≠ .pages)
    (h2 : pt ≠ .regs) (h3 : pt ≠ .time) (h4 : pt ≠ .ports) (h5 : pt ≠ .groups) (h6 : pt ≠ .stream) (h7 : pt ≠ .memory)
    (h8 : pt ≠ .cq) (h9 : pt ≠ .xfer) (h10 : pt ≠ .core) (h11 : pt ≠ .cnt) (h12 : pt ≠ .trace) (h13 : pt ≠ .alarm)
    (h14 : pt ≠ .fault) (h15 : pt ≠ .mover) (h16 : pt ≠ .outs) (hs : pt.same s₀ s) : pt.same s₀ (s.rxNotUp r) := by
  unfold State.rxNotUp
  simp +contextual (maxDischargeDepth := 30) [*]

@[simp] theorem State.reasmDrop_same {pt : Part} {s₀ s : State} (p ctr : Nat) (drop : Option Nat) (h0 : pt ≠ .pages)
    (h1 : pt ≠ .regs) (h2 : pt ≠ .ports) (h3 : pt ≠ .cnt) (hs : pt.same s₀ s) : pt.same s₀ (s.reasmDrop p ctr drop) := by
  unfold State.reasmDrop
  simp +contextual (maxDischargeDepth := 30) [*]

@[simp] theorem State.pmacWhole_same {pt : Part} {s₀ s : State} (p : Nat) (b : List Byte) (tRx last edge : Nat) (h0 : pt ≠ .frees)
    (h1 : pt ≠ .pages) (h2 : pt ≠ .regs) (h3 : pt ≠ .time) (h4 : pt ≠ .node) (h5 : pt ≠ .slate) (h6 : pt ≠ .ports)
    (h7 : pt ≠ .groups) (h8 : pt ≠ .stream) (h9 : pt ≠ .evt) (h10 : pt ≠ .hubIn) (h11 : pt ≠ .memory) (h12 : pt ≠ .cq)
    (h13 : pt ≠ .xfer) (h14 : pt ≠ .core) (h15 : pt ≠ .scratch) (h16 : pt ≠ .cnt) (h17 : pt ≠ .trace) (h18 : pt ≠ .alarm)
    (h19 : pt ≠ .fault) (h20 : pt ≠ .mover) (h21 : pt ≠ .outs) (hs : pt.same s₀ s) : pt.same s₀ (s.pmacWhole p b tRx last edge) :=
    by
  unfold State.pmacWhole
  simp +contextual (maxDischargeDepth := 30) [*]

@[simp] theorem State.startIn_same {pt : Part} {s₀ s : State} (p : Nat) (m : Mpacket) (h0 : pt ≠ .frees) (h1 : pt ≠ .pages)
    (h2 : pt ≠ .regs) (h3 : pt ≠ .time) (h4 : pt ≠ .node) (h5 : pt ≠ .slate) (h6 : pt ≠ .ports) (h7 : pt ≠ .groups)
    (h8 : pt ≠ .stream) (h9 : pt ≠ .evt) (h10 : pt ≠ .hubIn) (h11 : pt ≠ .memory) (h12 : pt ≠ .cq) (h13 : pt ≠ .xfer)
    (h14 : pt ≠ .core) (h15 : pt ≠ .scratch) (h16 : pt ≠ .cnt) (h17 : pt ≠ .trace) (h18 : pt ≠ .alarm) (h19 : pt ≠ .fault)
    (h20 : pt ≠ .mover) (h21 : pt ≠ .outs) (hs : pt.same s₀ s) : pt.same s₀ (s.startIn p m) := by
  unfold State.startIn
  repeat' (first | dsimp only | (simp +contextual (maxDischargeDepth := 30) [*]; done) | split |
    (refine Part.same_foldl _ _ ?_ ?_) | (refine Part.same_foldl_fst _ _ ?_ ?_) | intro _ | apply_assumption)

@[simp] theorem State.contHeld_same {pt : Part} {s₀ s : State} (p : Nat) (r : Reasm) (m : Mpacket) (h0 : pt ≠ .frees)
    (h1 : pt ≠ .pages) (h2 : pt ≠ .regs) (h3 : pt ≠ .time) (h4 : pt ≠ .node) (h5 : pt ≠ .slate) (h6 : pt ≠ .ports)
    (h7 : pt ≠ .groups) (h8 : pt ≠ .stream) (h9 : pt ≠ .evt) (h10 : pt ≠ .hubIn) (h11 : pt ≠ .memory) (h12 : pt ≠ .cq)
    (h13 : pt ≠ .xfer) (h14 : pt ≠ .core) (h15 : pt ≠ .scratch) (h16 : pt ≠ .cnt) (h17 : pt ≠ .trace) (h18 : pt ≠ .alarm)
    (h19 : pt ≠ .fault) (h20 : pt ≠ .mover) (h21 : pt ≠ .outs) (hs : pt.same s₀ s) : pt.same s₀ (s.contHeld p r m) := by
  unfold State.contHeld
  simp +contextual (maxDischargeDepth := 30) [*]

@[simp] theorem State.contIn_same {pt : Part} {s₀ s : State} (p : Nat) (m : Mpacket) (h0 : pt ≠ .frees) (h1 : pt ≠ .pages)
    (h2 : pt ≠ .regs) (h3 : pt ≠ .time) (h4 : pt ≠ .node) (h5 : pt ≠ .slate) (h6 : pt ≠ .ports) (h7 : pt ≠ .groups)
    (h8 : pt ≠ .stream) (h9 : pt ≠ .evt) (h10 : pt ≠ .hubIn) (h11 : pt ≠ .memory) (h12 : pt ≠ .cq) (h13 : pt ≠ .xfer)
    (h14 : pt ≠ .core) (h15 : pt ≠ .scratch) (h16 : pt ≠ .cnt) (h17 : pt ≠ .trace) (h18 : pt ≠ .alarm) (h19 : pt ≠ .fault)
    (h20 : pt ≠ .mover) (h21 : pt ≠ .outs) (hs : pt.same s₀ s) : pt.same s₀ (s.contIn p m) := by
  unfold State.contIn
  repeat' (first | dsimp only | (simp +contextual (maxDischargeDepth := 30) [*]; done) | split |
    (refine Part.same_foldl _ _ ?_ ?_) | (refine Part.same_foldl_fst _ _ ?_ ?_) | intro _ | apply_assumption)

@[simp] theorem State.traceHub_same {pt : Part} {s₀ s : State} (x : HubFrame) (outcome : Nat) (zone : Option Nat)
    (h0 : pt ≠ .pages) (h1 : pt ≠ .regs) (h2 : pt ≠ .cnt) (h3 : pt ≠ .trace) (hs : pt.same s₀ s) : pt.same s₀ (s.traceHub x
    outcome zone) := by
  unfold State.traceHub
  simp +contextual (maxDischargeDepth := 30) [*]

@[simp] theorem State.stage6_same {pt : Part} {s₀ s : State} (x : HubFrame) (h0 : pt ≠ .pages) (h1 : pt ≠ .regs)
    (h2 : pt ≠ .stream) (h3 : pt ≠ .cnt) (hs : pt.same s₀ s) : pt.same s₀ (s.stage6 x).1 := by
  unfold State.stage6
  repeat' (first | dsimp only | (simp +contextual (maxDischargeDepth := 30) [*]; done) | split |
    (refine Part.same_foldl _ _ ?_ ?_) | (refine Part.same_foldl_fst _ _ ?_ ?_) | intro _ | apply_assumption)

@[simp] theorem State.readRanges_same {pt : Part} {s₀ s : State} (l : List (Nat × Nat)) (h0 : pt ≠ .pages) (h1 : pt ≠ .regs)
    (h2 : pt ≠ .memory) (h3 : pt ≠ .cnt) (h4 : pt ≠ .alarm) (hs : pt.same s₀ s) : pt.same s₀ (s.readRanges l) := by
  unfold State.readRanges
  simp +contextual (maxDischargeDepth := 30) [*]

@[simp] theorem State.apply_same {pt : Part} {s₀ s : State} (op t a : Nat) (xs : List Nat) (h0 : pt ≠ .memory) (hs : pt.same s₀ s)
    : pt.same s₀ (s.apply op t a xs).1 := by
  unfold State.apply
  simp +contextual (maxDischargeDepth := 30) [*]

@[simp] theorem State.countAccum_same {pt : Part} {s₀ s : State} (h : Hdr) (cs : List Comb) (h0 : pt ≠ .pages) (h1 : pt ≠ .regs)
    (h2 : pt ≠ .cnt) (hs : pt.same s₀ s) : pt.same s₀ (s.countAccum h cs) := by
  unfold State.countAccum
  simp +contextual (maxDischargeDepth := 30) [*]

@[simp] theorem State.stage9_same {pt : Part} {s₀ s : State} (x : HubFrame) (h : Hdr) (z : Nat) (xs : List Nat) (h0 : pt ≠ .frees)
    (h1 : pt ≠ .pages) (h2 : pt ≠ .regs) (h3 : pt ≠ .memory) (h4 : pt ≠ .cq) (h5 : pt ≠ .xfer) (h6 : pt ≠ .lz) (h7 : pt ≠ .core)
    (h8 : pt ≠ .cnt) (h9 : pt ≠ .trace) (h10 : pt ≠ .alarm) (h11 : pt ≠ .outs) (hs : pt.same s₀ s) : pt.same s₀ (s.stage9 x h z
    xs) := by
  unfold State.stage9
  simp +contextual (maxDischargeDepth := 30) [*]

@[simp] theorem State.land_same {pt : Part} {s₀ s : State} (x : HubFrame) (h0 : pt ≠ .frees) (h1 : pt ≠ .pages) (h2 : pt ≠ .regs)
    (h3 : pt ≠ .ports) (h4 : pt ≠ .groups) (h5 : pt ≠ .stream) (h6 : pt ≠ .memory) (h7 : pt ≠ .cq) (h8 : pt ≠ .xfer)
    (h9 : pt ≠ .lz) (h10 : pt ≠ .core) (h11 : pt ≠ .cnt) (h12 : pt ≠ .trace) (h13 : pt ≠ .alarm) (h14 : pt ≠ .fault)
    (h15 : pt ≠ .mover) (h16 : pt ≠ .outs) (hs : pt.same s₀ s) : pt.same s₀ (s.land x) := by
  unfold State.land
  repeat' (first | dsimp only | (simp +contextual (maxDischargeDepth := 30) [*]; done) | split |
    (refine Part.same_foldl _ _ ?_ ?_) | (refine Part.same_foldl_fst _ _ ?_ ?_) | intro _ | apply_assumption)

@[simp] theorem State.scrubLine_same {pt : Part} {s₀ s : State} (die : Nat) (h0 : pt ≠ .pages) (h1 : pt ≠ .regs) (h2 : pt ≠ .time)
    (h3 : pt ≠ .memory) (h4 : pt ≠ .cnt) (h5 : pt ≠ .alarm) (hs : pt.same s₀ s) : pt.same s₀ (s.scrubLine die) := by
  unfold State.scrubLine
  simp +contextual (maxDischargeDepth := 30) [*]

end Sys2Proof.Machine
end

