-- ==== Sys2Proof/Laws/PartsWork.lean ====
section
/-! SUPPORT. Which parts of the state the operations of queues, jobs, rings, the block mover, the self-test and the dailies touch: every other part stays as it is. -/

namespace Sys2Proof.Machine

open Sys2Proof

@[simp] theorem State.winGuard_same {pt : Part} {s₀ s : State} (roff : Nat) (held : Bool) (f : State → State) (h0 : pt ≠ .pages)
    (hs : pt.same s₀ s) (hf : ∀ u, pt.same s₀ u → pt.same s₀ (f u)) : pt.same s₀ (s.winGuard roff held f) := by
  unfold State.winGuard
  simp +contextual (maxDischargeDepth := 30) [*]

@[simp] theorem State.stopQueue_same {pt : Part} {s₀ s : State} (q code info : Nat) (h0 : pt ≠ .pages) (h1 : pt ≠ .regs)
    (h2 : pt ≠ .sq) (h3 : pt ≠ .xfer) (h4 : pt ≠ .cnt) (h5 : pt ≠ .alarm) (hs : pt.same s₀ s) : pt.same s₀ (s.stopQueue q code
    info) := by
  unfold State.stopQueue
  simp +contextual (maxDischargeDepth := 30) [*]

@[simp] theorem State.ring219_same {pt : Part} {s₀ s : State} (q t off : Nat) (h0 : pt ≠ .pages) (h1 : pt ≠ .regs) (h2 : pt ≠ .sq)
    (h3 : pt ≠ .xfer) (h4 : pt ≠ .cnt) (h5 : pt ≠ .alarm) (hs : pt.same s₀ s) : pt.same s₀ (s.ring219 q t off).1 := by
  unfold State.ring219
  repeat' (first | dsimp only | (simp +contextual (maxDischargeDepth := 30) [*]; done) | split |
    (refine Part.same_foldl _ _ ?_ ?_) | (refine Part.same_foldl_fst _ _ ?_ ?_) | intro _ | apply_assumption)

@[simp] theorem State.doorbell_same {pt : Part} {s₀ s : State} (q value : Nat) (h0 : pt ≠ .pages) (h1 : pt ≠ .regs)
    (h2 : pt ≠ .sq) (h3 : pt ≠ .xfer) (h4 : pt ≠ .cnt) (h5 : pt ≠ .alarm) (hs : pt.same s₀ s) : pt.same s₀ (s.doorbell q value) :=
    by
  unfold State.doorbell
  simp +contextual (maxDischargeDepth := 30) [*]

@[simp] theorem State.pushDone_same {pt : Part} {s₀ s : State} (q off : Nat) (ws : List Word) (h0 : pt ≠ .pages) (h1 : pt ≠ .regs)
    (h2 : pt ≠ .sq) (h3 : pt ≠ .xfer) (h4 : pt ≠ .cnt) (h5 : pt ≠ .alarm) (hs : pt.same s₀ s) : pt.same s₀ (s.pushDone q off ws)
    := by
  unfold State.pushDone
  simp +contextual (maxDischargeDepth := 30) [*]

@[simp] theorem State.pushAbort_same {pt : Part} {s₀ s : State} (q off : Nat) (h0 : pt ≠ .pages) (h1 : pt ≠ .regs) (h2 : pt ≠ .sq)
    (h3 : pt ≠ .cnt) (hs : pt.same s₀ s) : pt.same s₀ (s.pushAbort q off) := by
  unfold State.pushAbort
  simp +contextual (maxDischargeDepth := 30) [*]

@[simp] theorem State.inlineStore_same {pt : Part} {s₀ s : State} (q i : Nat) (v : Word) (h0 : pt ≠ .pages) (h1 : pt ≠ .regs)
    (h2 : pt ≠ .sq) (h3 : pt ≠ .xfer) (h4 : pt ≠ .cnt) (h5 : pt ≠ .alarm) (hs : pt.same s₀ s) : pt.same s₀ (s.inlineStore q i v)
    := by
  unfold State.inlineStore
  simp +contextual (maxDischargeDepth := 30) [*]

@[simp] theorem State.pollRest_same {pt : Part} {s₀ s : State} (q : Nat) (units : Nat) (h0 : pt ≠ .pages) (h1 : pt ≠ .regs)
    (h2 : pt ≠ .memory) (h3 : pt ≠ .sq) (h4 : pt ≠ .xfer) (h5 : pt ≠ .cnt) (h6 : pt ≠ .alarm) (hs : pt.same s₀ s) : pt.same s₀
    (s.pollRest q units) := by
  unfold State.pollRest
  repeat' (first | dsimp only | (simp +contextual (maxDischargeDepth := 30) [*]; done) | split |
    (refine Part.same_foldl _ _ ?_ ?_) | (refine Part.same_foldl_fst _ _ ?_ ?_) | intro _ | apply_assumption)

@[simp] theorem State.postIn_same {pt : Part} {s₀ s : State} (src key : Nat) (b : List Byte) (h0 : pt ≠ .frees) (h1 : pt ≠ .pages)
    (h2 : pt ≠ .regs) (h3 : pt ≠ .memory) (h4 : pt ≠ .sq) (h5 : pt ≠ .cnt) (h6 : pt ≠ .alarm) (hs : pt.same s₀ s) : pt.same s₀
    (s.postIn src key b) := by
  unfold State.postIn
  repeat' (first | dsimp only | (simp +contextual (maxDischargeDepth := 30) [*]; done) | split |
    (refine Part.same_foldl _ _ ?_ ?_) | (refine Part.same_foldl_fst _ _ ?_ ?_) | intro _ | apply_assumption)

@[simp] theorem State.arbApply_same {pt : Part} {s₀ s : State} (h0 : pt ≠ .pages) (h1 : pt ≠ .sq) (h2 : pt ≠ .xfer) (hs : pt.same
    s₀ s) : pt.same s₀ s.arbApply := by
  unfold State.arbApply
  simp +contextual (maxDischargeDepth := 30) [*]

@[simp] theorem State.newRound_same {pt : Part} {s₀ s : State} (h0 : pt ≠ .pages) (h1 : pt ≠ .sq) (h2 : pt ≠ .xfer) (hs : pt.same
    s₀ s) : pt.same s₀ s.newRound := by
  unfold State.newRound
  simp +contextual (maxDischargeDepth := 30) [*]

@[simp] theorem State.arbitrate_same {pt : Part} {s₀ s : State} (h0 : pt ≠ .pages) (h1 : pt ≠ .sq) (h2 : pt ≠ .xfer) (hs : pt.same
    s₀ s) : pt.same s₀ s.arbitrate.1 := by
  unfold State.arbitrate
  repeat' (first | dsimp only | (simp +contextual (maxDischargeDepth := 30) [*]; done) | split |
    (refine Part.same_foldl _ _ ?_ ?_) | (refine Part.same_foldl_fst _ _ ?_ ?_) | intro _ | apply_assumption)

@[simp] theorem State.sqOff_same {pt : Part} {s₀ s : State} (q : Nat) (h0 : pt ≠ .frees) (h1 : pt ≠ .pages) (h2 : pt ≠ .regs)
    (h3 : pt ≠ .memory) (h4 : pt ≠ .sq) (h5 : pt ≠ .cq) (h6 : pt ≠ .xfer) (h7 : pt ≠ .core) (h8 : pt ≠ .cnt) (h9 : pt ≠ .trace)
    (h10 : pt ≠ .alarm) (h11 : pt ≠ .outs) (hs : pt.same s₀ s) : pt.same s₀ (s.sqOff q) := by
  unfold State.sqOff
  simp +contextual (maxDischargeDepth := 30) [*]

@[simp] theorem State.sqOn_same {pt : Part} {s₀ s : State} (q : Nat) (h0 : pt ≠ .sq) (hs : pt.same s₀ s) : pt.same s₀ (s.sqOn q)
    := by
  unfold State.sqOn
  simp +contextual (maxDischargeDepth := 30) [*]

@[simp] theorem State.writeSqCfg_same {pt : Part} {s₀ s : State} (q : Nat) (v : Word) (h0 : pt ≠ .frees) (h1 : pt ≠ .pages)
    (h2 : pt ≠ .regs) (h3 : pt ≠ .memory) (h4 : pt ≠ .sq) (h5 : pt ≠ .cq) (h6 : pt ≠ .xfer) (h7 : pt ≠ .core) (h8 : pt ≠ .cnt)
    (h9 : pt ≠ .trace) (h10 : pt ≠ .alarm) (h11 : pt ≠ .outs) (hs : pt.same s₀ s) : pt.same s₀ (s.writeSqCfg q v) := by
  unfold State.writeSqCfg
  repeat' (first | dsimp only | (simp +contextual (maxDischargeDepth := 30) [*]; done) | split |
    (refine Part.same_foldl _ _ ?_ ?_) | (refine Part.same_foldl_fst _ _ ?_ ?_) | intro _ | apply_assumption)

@[simp] theorem State.writeSq_same {pt : Part} {s₀ s : State} (q off : Nat) (v : Word) (h0 : pt ≠ .frees) (h1 : pt ≠ .pages)
    (h2 : pt ≠ .regs) (h3 : pt ≠ .memory) (h4 : pt ≠ .sq) (h5 : pt ≠ .cq) (h6 : pt ≠ .xfer) (h7 : pt ≠ .core) (h8 : pt ≠ .cnt)
    (h9 : pt ≠ .trace) (h10 : pt ≠ .alarm) (h11 : pt ≠ .outs) (hs : pt.same s₀ s) : pt.same s₀ (s.writeSq q off v) := by
  unfold State.writeSq
  repeat' (first | dsimp only | (simp +contextual (maxDischargeDepth := 30) [*]; done) | split |
    (refine Part.same_foldl _ _ ?_ ?_) | (refine Part.same_foldl_fst _ _ ?_ ?_) | intro _ | apply_assumption)

@[simp] theorem State.beginJob_same {pt : Part} {s₀ s : State} (j : Job) (h0 : pt ≠ .frees) (h1 : pt ≠ .pages) (h2 : pt ≠ .regs)
    (h3 : pt ≠ .memory) (h4 : pt ≠ .cq) (h5 : pt ≠ .xfer) (h6 : pt ≠ .core) (h7 : pt ≠ .cnt) (h8 : pt ≠ .trace) (h9 : pt ≠ .alarm)
    (h10 : pt ≠ .outs) (hs : pt.same s₀ s) : pt.same s₀ (s.beginJob j) := by
  unfold State.beginJob
  repeat' (first | dsimp only | (simp +contextual (maxDischargeDepth := 30) [*]; done) | split |
    (refine Part.same_foldl _ _ ?_ ?_) | (refine Part.same_foldl_fst _ _ ?_ ?_) | intro _ | apply_assumption)

@[simp] theorem State.traceFetch_same {pt : Part} {s₀ s : State} (j : Job) (h0 : pt ≠ .pages) (h1 : pt ≠ .regs) (h2 : pt ≠ .cnt)
    (h3 : pt ≠ .trace) (hs : pt.same s₀ s) : pt.same s₀ (s.traceFetch j) := by
  unfold State.traceFetch
  simp +contextual (maxDischargeDepth := 30) [*]

@[simp] theorem State.startJob_same {pt : Part} {s₀ s : State} (q : Nat) (b : List Byte) (h0 : pt ≠ .frees) (h1 : pt ≠ .pages)
    (h2 : pt ≠ .regs) (h3 : pt ≠ .memory) (h4 : pt ≠ .sq) (h5 : pt ≠ .cq) (h6 : pt ≠ .xfer) (h7 : pt ≠ .core) (h8 : pt ≠ .cnt)
    (h9 : pt ≠ .trace) (h10 : pt ≠ .alarm) (h11 : pt ≠ .outs) (hs : pt.same s₀ s) : pt.same s₀ (s.startJob q b) := by
  unfold State.startJob
  repeat' (first | dsimp only | (simp +contextual (maxDischargeDepth := 30) [*]; done) | split |
    (refine Part.same_foldl _ _ ?_ ?_) | (refine Part.same_foldl_fst _ _ ?_ ?_) | intro _ | apply_assumption)

@[simp] theorem State.grant_same {pt : Part} {s₀ s : State} (q : Nat) (h0 : pt ≠ .frees) (h1 : pt ≠ .pages) (h2 : pt ≠ .regs)
    (h3 : pt ≠ .memory) (h4 : pt ≠ .sq) (h5 : pt ≠ .cq) (h6 : pt ≠ .xfer) (h7 : pt ≠ .core) (h8 : pt ≠ .cnt) (h9 : pt ≠ .trace)
    (h10 : pt ≠ .alarm) (h11 : pt ≠ .outs) (hs : pt.same s₀ s) : pt.same s₀ (s.grant q) := by
  unfold State.grant
  repeat' (first | dsimp only | (simp +contextual (maxDischargeDepth := 30) [*]; done) | split |
    (refine Part.same_foldl _ _ ?_ ?_) | (refine Part.same_foldl_fst _ _ ?_ ?_) | intro _ | apply_assumption)

@[simp] theorem State.grantEdge_same {pt : Part} {s₀ s : State} (h0 : pt ≠ .time) (h1 : pt ≠ .xfer) (hs : pt.same s₀ s) : pt.same
    s₀ s.grantEdge := by
  unfold State.grantEdge
  simp +contextual (maxDischargeDepth := 30) [*]

@[simp] theorem State.turnOver_same {pt : Part} {s₀ s : State} (q : Nat) (h0 : pt ≠ .sq) (h1 : pt ≠ .xfer) (hs : pt.same s₀ s) :
    pt.same s₀ (s.turnOver q) := by
  unfold State.turnOver
  simp +contextual (maxDischargeDepth := 30) [*]

@[simp] theorem State.buildFails_same {pt : Part} {s₀ s : State} (j : Job) (status : Nat) (h0 : pt ≠ .frees) (h1 : pt ≠ .pages)
    (h2 : pt ≠ .regs) (h3 : pt ≠ .memory) (h4 : pt ≠ .cq) (h5 : pt ≠ .xfer) (h6 : pt ≠ .core) (h7 : pt ≠ .cnt) (h8 : pt ≠ .trace)
    (h9 : pt ≠ .alarm) (h10 : pt ≠ .outs) (hs : pt.same s₀ s) : pt.same s₀ (s.buildFails j status) := by
  unfold State.buildFails
  simp +contextual (maxDischargeDepth := 30) [*]

@[simp] theorem State.reserveTs_same {pt : Part} {s₀ s : State} (j : Job) (port : Nat) (h0 : pt ≠ .pages) (h1 : pt ≠ .regs)
    (h2 : pt ≠ .groups) (h3 : pt ≠ .xfer) (h4 : pt ≠ .cnt) (hs : pt.same s₀ s) : pt.same s₀ (s.reserveTs j port).1 := by
  unfold State.reserveTs
  repeat' (first | dsimp only | (simp +contextual (maxDischargeDepth := 30) [*]; done) | split |
    (refine Part.same_foldl _ _ ?_ ?_) | (refine Part.same_foldl_fst _ _ ?_ ?_) | intro _ | apply_assumption)

@[simp] theorem State.countEnc_same {pt : Part} {s₀ s : State} (codec n : Nat) (e : Enc) (h0 : pt ≠ .pages) (h1 : pt ≠ .regs)
    (h2 : pt ≠ .cnt) (hs : pt.same s₀ s) : pt.same s₀ (s.countEnc codec n e) := by
  unfold State.countEnc
  simp +contextual (maxDischargeDepth := 30) [*]

@[simp] theorem State.placeFrame_same {pt : Part} {s₀ s : State} (j : Job) (i : Nat) (ports : List Nat) (h0 : pt ≠ .frees)
    (h1 : pt ≠ .pages) (h2 : pt ≠ .regs) (h3 : pt ≠ .ports) (h4 : pt ≠ .groups) (h5 : pt ≠ .stream) (h6 : pt ≠ .memory)
    (h7 : pt ≠ .cq) (h8 : pt ≠ .xfer) (h9 : pt ≠ .core) (h10 : pt ≠ .cnt) (h11 : pt ≠ .trace) (h12 : pt ≠ .alarm)
    (h13 : pt ≠ .mover) (h14 : pt ≠ .outs) (hs : pt.same s₀ s) : pt.same s₀ (s.placeFrame j i ports) := by
  unfold State.placeFrame
  repeat' (first | dsimp only | (simp +contextual (maxDischargeDepth := 30) [*]; done) | split |
    (refine Part.same_foldl _ _ ?_ ?_) | (refine Part.same_foldl_fst _ _ ?_ ?_) | intro _ | apply_assumption)

@[simp] theorem State.buildFrame_same {pt : Part} {s₀ s : State} (j : Job) (h0 : pt ≠ .frees) (h1 : pt ≠ .pages) (h2 : pt ≠ .regs)
    (h3 : pt ≠ .ports) (h4 : pt ≠ .groups) (h5 : pt ≠ .stream) (h6 : pt ≠ .memory) (h7 : pt ≠ .cq) (h8 : pt ≠ .xfer)
    (h9 : pt ≠ .core) (h10 : pt ≠ .cnt) (h11 : pt ≠ .trace) (h12 : pt ≠ .alarm) (h13 : pt ≠ .mover) (h14 : pt ≠ .outs) (hs :
    pt.same s₀ s) : pt.same s₀ (s.buildFrame j) := by
  unfold State.buildFrame
  repeat' (first | dsimp only | (simp +contextual (maxDischargeDepth := 30) [*]; done) | split |
    (refine Part.same_foldl _ _ ?_ ?_) | (refine Part.same_foldl_fst _ _ ?_ ?_) | intro _ | apply_assumption)

@[simp] theorem State.hubEvent_same {pt : Part} {s₀ s : State} (x : HubFrame) (b : List Byte) (h0 : pt ≠ .pages) (h1 : pt ≠ .regs)
    (h2 : pt ≠ .evt) (h3 : pt ≠ .xfer) (h4 : pt ≠ .cnt) (h5 : pt ≠ .trace) (h6 : pt ≠ .outs) (hs : pt.same s₀ s) : pt.same s₀
    (s.hubEvent x b) := by
  unfold State.hubEvent
  simp +contextual (maxDischargeDepth := 30) [*]

@[simp] theorem State.hubPost_same {pt : Part} {s₀ s : State} (x : HubFrame) (h : Hdr) (b : List Byte) (h0 : pt ≠ .frees)
    (h1 : pt ≠ .pages) (h2 : pt ≠ .regs) (h3 : pt ≠ .memory) (h4 : pt ≠ .sq) (h5 : pt ≠ .cnt) (h6 : pt ≠ .trace)
    (h7 : pt ≠ .alarm) (hs : pt.same s₀ s) : pt.same s₀ (s.hubPost x h b) := by
  unfold State.hubPost
  simp +contextual (maxDischargeDepth := 30) [*]

@[simp] theorem State.afterStage6_same {pt : Part} {s₀ s : State} (x : HubFrame) (h0 : pt ≠ .frees) (h1 : pt ≠ .pages)
    (h2 : pt ≠ .regs) (h3 : pt ≠ .ports) (h4 : pt ≠ .groups) (h5 : pt ≠ .stream) (h6 : pt ≠ .evt) (h7 : pt ≠ .memory)
    (h8 : pt ≠ .sq) (h9 : pt ≠ .cq) (h10 : pt ≠ .xfer) (h11 : pt ≠ .lz) (h12 : pt ≠ .core) (h13 : pt ≠ .cnt) (h14 : pt ≠ .trace)
    (h15 : pt ≠ .alarm) (h16 : pt ≠ .fault) (h17 : pt ≠ .mover) (h18 : pt ≠ .outs) (hs : pt.same s₀ s) : pt.same s₀ (s.afterStage6
    x) := by
  unfold State.afterStage6
  simp +contextual (maxDischargeDepth := 30) [*]

@[simp] theorem State.writeCqHead_same {pt : Part} {s₀ s : State} (c : Nat) (v : Word) (h0 : pt ≠ .pages) (h1 : pt ≠ .regs)
    (h2 : pt ≠ .cq) (h3 : pt ≠ .core) (h4 : pt ≠ .cnt) (h5 : pt ≠ .alarm) (h6 : pt ≠ .outs) (hs : pt.same s₀ s) : pt.same s₀
    (s.writeCqHead c v) := by
  unfold State.writeCqHead
  simp +contextual (maxDischargeDepth := 30) [*]

@[simp] theorem State.writeCqNotify_same {pt : Part} {s₀ s : State} (c : Nat) (v : Word) (h0 : pt ≠ .pages) (h1 : pt ≠ .cq) (hs :
    pt.same s₀ s) : pt.same s₀ (s.writeCqNotify c v) := by
  unfold State.writeCqNotify
  simp +contextual (maxDischargeDepth := 30) [*]

@[simp] theorem State.writeCqCfg_same {pt : Part} {s₀ s : State} (c : Nat) (v : Word) (h0 : pt ≠ .pages) (h1 : pt ≠ .cq) (hs :
    pt.same s₀ s) : pt.same s₀ (s.writeCqCfg c v) := by
  unfold State.writeCqCfg
  repeat' (first | dsimp only | (simp +contextual (maxDischargeDepth := 30) [*]; done) | split |
    (refine Part.same_foldl _ _ ?_ ?_) | (refine Part.same_foldl_fst _ _ ?_ ?_) | intro _ | apply_assumption)

@[simp] theorem State.writeCq_same {pt : Part} {s₀ s : State} (c off : Nat) (v : Word) (h0 : pt ≠ .pages) (h1 : pt ≠ .regs)
    (h2 : pt ≠ .cq) (h3 : pt ≠ .core) (h4 : pt ≠ .cnt) (h5 : pt ≠ .alarm) (h6 : pt ≠ .outs) (hs : pt.same s₀ s) : pt.same s₀
    (s.writeCq c off v) := by
  unfold State.writeCq
  simp +contextual (maxDischargeDepth := 30) [*]

@[simp] theorem State.xferEn_same {pt : Part} {s₀ s : State} (g : Nat) (on : Bool) (h0 : pt ≠ .pages) (h1 : pt ≠ .regs)
    (h2 : pt ≠ .groups) (h3 : pt ≠ .evt) (h4 : pt ≠ .scratch) (hs : pt.same s₀ s) : pt.same s₀ (s.xferEn g on) := by
  unfold State.xferEn
  repeat' (first | dsimp only | (simp +contextual (maxDischargeDepth := 30) [*]; done) | split |
    (refine Part.same_foldl _ _ ?_ ?_) | (refine Part.same_foldl_fst _ _ ?_ ?_) | intro _ | apply_assumption)

@[simp] theorem State.modChan_same {pt : Part} {s₀ s : State} (c : Nat) (f : MvCh → MvCh) (h0 : pt ≠ .mover) (hs : pt.same s₀ s) :
    pt.same s₀ (s.modChan c f) := by
  unfold State.modChan
  simp +contextual (maxDischargeDepth := 30) [*]

@[simp] theorem State.traceMover_same {pt : Part} {s₀ s : State} (ev c idx : Nat) (h0 : pt ≠ .pages) (h1 : pt ≠ .regs)
    (h2 : pt ≠ .cnt) (h3 : pt ≠ .trace) (hs : pt.same s₀ s) : pt.same s₀ (s.traceMover ev c idx) := by
  unfold State.traceMover
  simp +contextual (maxDischargeDepth := 30) [*]

@[simp] theorem State.chErr_same {pt : Part} {s₀ s : State} (c code idx : Nat) (late pulsed : Bool) (h0 : pt ≠ .mover) (hs :
    pt.same s₀ s) : pt.same s₀ (s.chErr c code idx late pulsed) := by
  unfold State.chErr
  simp +contextual (maxDischargeDepth := 30) [*]

@[simp] theorem State.applySet_same {pt : Part} {s₀ s : State} (c : Nat) (x : MvSet) (h0 : pt ≠ .groups) (h1 : pt ≠ .evt)
    (h2 : pt ≠ .scratch) (h3 : pt ≠ .mover) (hs : pt.same s₀ s) : pt.same s₀ (s.applySet c x) := by
  unfold State.applySet
  simp +contextual (maxDischargeDepth := 30) [*]

@[simp] theorem State.moverApplied_same {pt : Part} {s₀ s : State} (h0 : pt ≠ .pages) (hs : pt.same s₀ s) : pt.same s₀
    s.moverApplied := by
  unfold State.moverApplied
  simp +contextual (maxDischargeDepth := 30) [*]

@[simp] theorem State.takeSet_same {pt : Part} {s₀ s : State} (c : Nat) (h0 : pt ≠ .pages) (h1 : pt ≠ .groups) (h2 : pt ≠ .evt)
    (h3 : pt ≠ .scratch) (h4 : pt ≠ .mover) (hs : pt.same s₀ s) : pt.same s₀ (s.takeSet c) := by
  unfold State.takeSet
  repeat' (first | dsimp only | (simp +contextual (maxDischargeDepth := 30) [*]; done) | split |
    (refine Part.same_foldl _ _ ?_ ?_) | (refine Part.same_foldl_fst _ _ ?_ ?_) | intro _ | apply_assumption)

@[simp] theorem State.tryHalt_same {pt : Part} {s₀ s : State} (c : Nat) (h0 : pt ≠ .pages) (h1 : pt ≠ .regs) (h2 : pt ≠ .groups)
    (h3 : pt ≠ .evt) (h4 : pt ≠ .scratch) (h5 : pt ≠ .cnt) (h6 : pt ≠ .trace) (h7 : pt ≠ .mover) (hs : pt.same s₀ s) : pt.same s₀
    (s.tryHalt c) := by
  unfold State.tryHalt
  simp +contextual (maxDischargeDepth := 30) [*]

@[simp] theorem State.stopChan_same {pt : Part} {s₀ s : State} (c : Nat) (h0 : pt ≠ .pages) (h1 : pt ≠ .regs) (h2 : pt ≠ .groups)
    (h3 : pt ≠ .evt) (h4 : pt ≠ .scratch) (h5 : pt ≠ .cnt) (h6 : pt ≠ .trace) (h7 : pt ≠ .mover) (hs : pt.same s₀ s) : pt.same s₀
    (s.stopChan c) := by
  unfold State.stopChan
  simp +contextual (maxDischargeDepth := 30) [*]

@[simp] theorem State.dropPendLine_same {pt : Part} {s₀ s : State} (c : Nat) (m : MvCh) (keep : Bool) (h0 : pt ≠ .groups)
    (h1 : pt ≠ .evt) (h2 : pt ≠ .scratch) (hs : pt.same s₀ s) : pt.same s₀ (s.dropPendLine c m keep) := by
  unfold State.dropPendLine
  repeat' (first | dsimp only | (simp +contextual (maxDischargeDepth := 30) [*]; done) | split |
    (refine Part.same_foldl _ _ ?_ ?_) | (refine Part.same_foldl_fst _ _ ?_ ?_) | intro _ | apply_assumption)

@[simp] theorem State.moverCommit_same {pt : Part} {s₀ s : State} (h0 : pt ≠ .pages) (h1 : pt ≠ .groups) (h2 : pt ≠ .evt)
    (h3 : pt ≠ .scratch) (h4 : pt ≠ .mover) (hs : pt.same s₀ s) : pt.same s₀ s.moverCommit := by
  unfold State.moverCommit
  repeat' (first | dsimp only | (simp +contextual (maxDischargeDepth := 30) [*]; done) | split |
    (refine Part.same_foldl _ _ ?_ ?_) | (refine Part.same_foldl_fst _ _ ?_ ?_) | intro _ | apply_assumption)

@[simp] theorem State.moverEdge_same {pt : Part} {s₀ s : State} (h0 : pt ≠ .pages) (h1 : pt ≠ .regs) (h2 : pt ≠ .time)
    (h3 : pt ≠ .groups) (h4 : pt ≠ .evt) (h5 : pt ≠ .scratch) (h6 : pt ≠ .cnt) (h7 : pt ≠ .mover) (hs : pt.same s₀ s) : pt.same s₀
    s.moverEdge := by
  unfold State.moverEdge
  simp +contextual (maxDischargeDepth := 30) [*]

@[simp] theorem State.moverDiscard_same {pt : Part} {s₀ s : State} (h0 : pt ≠ .pages) (h1 : pt ≠ .groups) (h2 : pt ≠ .evt)
    (h3 : pt ≠ .scratch) (h4 : pt ≠ .mover) (hs : pt.same s₀ s) : pt.same s₀ s.moverDiscard := by
  unfold State.moverDiscard
  simp +contextual (maxDischargeDepth := 30) [*]

@[simp] theorem State.readAhead_same {pt : Part} {s₀ s : State} (c : Nat) (h0 : pt ≠ .pages) (h1 : pt ≠ .regs) (h2 : pt ≠ .memory)
    (h3 : pt ≠ .cnt) (h4 : pt ≠ .alarm) (h5 : pt ≠ .mover) (hs : pt.same s₀ s) : pt.same s₀ (s.readAhead c) := by
  unfold State.readAhead
  simp +contextual (maxDischargeDepth := 30) [*]

@[simp] theorem State.takeDesc_same {pt : Part} {s₀ s : State} (c : Nat) (h0 : pt ≠ .pages) (h1 : pt ≠ .regs) (h2 : pt ≠ .groups)
    (h3 : pt ≠ .evt) (h4 : pt ≠ .scratch) (h5 : pt ≠ .cnt) (h6 : pt ≠ .trace) (h7 : pt ≠ .mover) (hs : pt.same s₀ s) : pt.same s₀
    (s.takeDesc c) := by
  unfold State.takeDesc
  repeat' (first | dsimp only | (simp +contextual (maxDischargeDepth := 30) [*]; done) | split |
    (refine Part.same_foldl _ _ ?_ ?_) | (refine Part.same_foldl_fst _ _ ?_ ?_) | intro _ | apply_assumption)

@[simp] theorem State.handover_same {pt : Part} {s₀ s : State} (c : Nat) (h0 : pt ≠ .pages) (h1 : pt ≠ .regs) (h2 : pt ≠ .groups)
    (h3 : pt ≠ .evt) (h4 : pt ≠ .scratch) (h5 : pt ≠ .cnt) (h6 : pt ≠ .trace) (h7 : pt ≠ .mover) (hs : pt.same s₀ s) : pt.same s₀
    (s.handover c) := by
  unfold State.handover
  simp +contextual (maxDischargeDepth := 30) [*]

@[simp] theorem State.chKick_same {pt : Part} {s₀ s : State} (c : Nat) (h0 : pt ≠ .pages) (h1 : pt ≠ .regs) (h2 : pt ≠ .memory)
    (h3 : pt ≠ .cnt) (h4 : pt ≠ .alarm) (h5 : pt ≠ .mover) (hs : pt.same s₀ s) : pt.same s₀ (s.chKick c) := by
  unfold State.chKick
  simp +contextual (maxDischargeDepth := 30) [*]

@[simp] theorem State.grantBurst_same {pt : Part} {s₀ s : State} (c : Nat) (d : MvDesc) (n : Nat) (h0 : pt ≠ .pages)
    (h1 : pt ≠ .regs) (h2 : pt ≠ .time) (h3 : pt ≠ .memory) (h4 : pt ≠ .cnt) (h5 : pt ≠ .alarm) (h6 : pt ≠ .mover) (hs : pt.same
    s₀ s) : pt.same s₀ (s.grantBurst c d n) := by
  unfold State.grantBurst
  simp +contextual (maxDischargeDepth := 30) [*]

@[simp] theorem State.moverPulse_same {pt : Part} {s₀ s : State} (c : Nat) (word0 : Word) (h0 : pt ≠ .pages) (h1 : pt ≠ .regs)
    (h2 : pt ≠ .evt) (h3 : pt ≠ .xfer) (h4 : pt ≠ .cnt) (h5 : pt ≠ .outs) (hs : pt.same s₀ s) : pt.same s₀ (s.moverPulse c
    word0).1 := by
  unfold State.moverPulse
  repeat' (first | dsimp only | (simp +contextual (maxDischargeDepth := 30) [*]; done) | split |
    (refine Part.same_foldl _ _ ?_ ?_) | (refine Part.same_foldl_fst _ _ ?_ ?_) | intro _ | apply_assumption)

@[simp] theorem State.leftZero_same {pt : Part} {s₀ s : State} (c : Nat) (d : MvDesc) (h0 : pt ≠ .pages) (h1 : pt ≠ .regs)
    (h2 : pt ≠ .evt) (h3 : pt ≠ .xfer) (h4 : pt ≠ .cnt) (h5 : pt ≠ .trace) (h6 : pt ≠ .mover) (h7 : pt ≠ .outs) (hs : pt.same s₀
    s) : pt.same s₀ (s.leftZero c d) := by
  unfold State.leftZero
  simp +contextual (maxDischargeDepth := 30) [*]

@[simp] theorem State.countChan_same {pt : Part} {s₀ s : State} (c w n : Nat) (h0 : pt ≠ .pages) (h1 : pt ≠ .regs)
    (h2 : pt ≠ .cnt) (h3 : pt ≠ .mover) (hs : pt.same s₀ s) : pt.same s₀ (s.countChan c w n) := by
  unfold State.countChan
  simp +contextual (maxDischargeDepth := 30) [*]

@[simp] theorem State.writeEdges_same {pt : Part} {s₀ s : State} (n : Nat) (h0 : pt ≠ .time) (h1 : pt ≠ .mover) (hs : pt.same s₀
    s) : pt.same s₀ (s.writeEdges n) := by
  unfold State.writeEdges
  simp +contextual (maxDischargeDepth := 30) [*]

@[simp] theorem State.issueBurst_same {pt : Part} {s₀ s : State} (b : MvBurst) (d : MvDesc) (h0 : pt ≠ .frees) (h1 : pt ≠ .pages)
    (h2 : pt ≠ .regs) (h3 : pt ≠ .memory) (h4 : pt ≠ .cnt) (h5 : pt ≠ .mover) (hs : pt.same s₀ s) : pt.same s₀ (s.issueBurst b d)
    := by
  unfold State.issueBurst
  simp +contextual (maxDischargeDepth := 30) [*]

@[simp] theorem State.returnDesc_same {pt : Part} {s₀ s : State} (c : Nat) (d : MvDone) (h0 : pt ≠ .frees) (h1 : pt ≠ .pages)
    (h2 : pt ≠ .regs) (h3 : pt ≠ .memory) (h4 : pt ≠ .cnt) (h5 : pt ≠ .alarm) (h6 : pt ≠ .mover) (hs : pt.same s₀ s) : pt.same s₀
    (s.returnDesc c d) := by
  unfold State.returnDesc
  simp +contextual (maxDischargeDepth := 30) [*]

@[simp] theorem State.barrierDone_same {pt : Part} {s₀ s : State} (c : Nat) (d : MvDone) (h0 : pt ≠ .pages) (h1 : pt ≠ .regs)
    (h2 : pt ≠ .evt) (h3 : pt ≠ .xfer) (h4 : pt ≠ .cnt) (h5 : pt ≠ .trace) (h6 : pt ≠ .mover) (h7 : pt ≠ .outs) (hs : pt.same s₀
    s) : pt.same s₀ (s.barrierDone c d) := by
  unfold State.barrierDone
  simp +contextual (maxDischargeDepth := 30) [*]

@[simp] theorem State.lateError_same {pt : Part} {s₀ s : State} (c : Nat) (d : MvDone) (h0 : pt ≠ .pages) (h1 : pt ≠ .regs)
    (h2 : pt ≠ .groups) (h3 : pt ≠ .evt) (h4 : pt ≠ .scratch) (h5 : pt ≠ .cnt) (h6 : pt ≠ .trace) (h7 : pt ≠ .mover) (hs : pt.same
    s₀ s) : pt.same s₀ (s.lateError c d) := by
  unfold State.lateError
  simp +contextual (maxDischargeDepth := 30) [*]

@[simp] theorem State.settleDesc_same {pt : Part} {s₀ s : State} (c : Nat) (bad : List Nat) (d : MvDone) (h0 : pt ≠ .frees)
    (h1 : pt ≠ .pages) (h2 : pt ≠ .regs) (h3 : pt ≠ .groups) (h4 : pt ≠ .evt) (h5 : pt ≠ .memory) (h6 : pt ≠ .xfer)
    (h7 : pt ≠ .scratch) (h8 : pt ≠ .cnt) (h9 : pt ≠ .trace) (h10 : pt ≠ .alarm) (h11 : pt ≠ .mover) (h12 : pt ≠ .outs) (hs :
    pt.same s₀ s) : pt.same s₀ (s.settleDesc c bad d) := by
  unfold State.settleDesc
  simp +contextual (maxDischargeDepth := 30) [*]

@[simp] theorem State.answered_same {pt : Part} {s₀ s : State} (c : Nat) (h0 : pt ≠ .frees) (h1 : pt ≠ .pages) (h2 : pt ≠ .regs)
    (h3 : pt ≠ .groups) (h4 : pt ≠ .evt) (h5 : pt ≠ .memory) (h6 : pt ≠ .xfer) (h7 : pt ≠ .scratch) (h8 : pt ≠ .cnt)
    (h9 : pt ≠ .trace) (h10 : pt ≠ .alarm) (h11 : pt ≠ .mover) (h12 : pt ≠ .outs) (hs : pt.same s₀ s) : pt.same s₀ (s.answered c)
    := by
  unfold State.answered
  repeat' (first | dsimp only | (simp +contextual (maxDischargeDepth := 30) [*]; done) | split |
    (refine Part.same_foldl _ _ ?_ ?_) | (refine Part.same_foldl_fst _ _ ?_ ?_) | intro _ | apply_assumption)

@[simp] theorem State.chEnable_same {pt : Part} {s₀ s : State} (c : Nat) (h0 : pt ≠ .pages) (h1 : pt ≠ .regs) (h2 : pt ≠ .groups)
    (h3 : pt ≠ .evt) (h4 : pt ≠ .memory) (h5 : pt ≠ .scratch) (h6 : pt ≠ .cnt) (h7 : pt ≠ .alarm) (h8 : pt ≠ .mover) (hs : pt.same
    s₀ s) : pt.same s₀ (s.chEnable c) := by
  unfold State.chEnable
  repeat' (first | dsimp only | (simp +contextual (maxDischargeDepth := 30) [*]; done) | split |
    (refine Part.same_foldl _ _ ?_ ?_) | (refine Part.same_foldl_fst _ _ ?_ ?_) | intro _ | apply_assumption)

@[simp] theorem State.scramble_same {pt : Part} {s₀ s : State} (d : MvDesc) (h0 : pt ≠ .frees) (h1 : pt ≠ .memory) (hs : pt.same s₀ s) :
    pt.same s₀ (s.scramble d) := by
  unfold State.scramble
  cases pt <;> first | exact hs | contradiction

@[simp] theorem State.chDisable_same {pt : Part} {s₀ s : State} (c : Nat) (h0 : pt ≠ .frees) (h1 : pt ≠ .pages) (h2 : pt ≠ .regs) (h3 : pt ≠ .groups) (h4 : pt ≠ .evt) (h5 : pt ≠ .memory) (h6 : pt ≠ .scratch) (h7 : pt ≠ .cnt) (h8 : pt ≠ .mover) (hs : pt.same s₀ s) :
    pt.same s₀ (s.chDisable c) := by
  have c0 : ∀ (u : State) (d : MvDesc), pt.same s₀ u → pt.same s₀ (u.scramble d) := fun u d hu => by simp [*]
  have c1 : ∀ (u : State) (c : Nat) (f : MvCh → MvCh), pt.same s₀ u → pt.same s₀ (u.modChan c f) := fun u c f hu => by simp [*]
  have c2 : ∀ (u : State) (o : Nat) (l : List Nat), pt.same s₀ u → pt.same s₀ (u.release o l) := fun u o l hu => by simp [*]
  have c3 : ∀ (u : State) (c : Nat), pt.same s₀ u → pt.same s₀ (u.takeSet c) := fun u c hu => by simp [*]
  have c4 : ∀ (u : State) (k : PageKind) (i : Nat) (po : Nat), pt.same s₀ u → pt.same s₀ (u.count k i po) := fun u k i po hu => by simp [*]
  have up : ∀ (u : State) n m, pt.same s₀ u → pt.same s₀ { u with freeCount := n, mover := m } := fun u n m hu =>
    Part.same_mover (t := { u with freeCount := n }) (by assumption) (Part.same_freeCount (by assumption) hu)
  unfold State.chDisable
  dsimp only
  refine Part.same_ite hs (Part.same_ite (c4 _ _ _ _ ?_) ?_) <;>
    (refine c3 _ _ (c2 _ _ _ (c1 _ _ _ (up _ _ _ ?_))); split; exact c0 _ _ hs; exact hs)

@[simp] theorem State.chReset_same {pt : Part} {s₀ s : State} (c : Nat) (h0 : pt ≠ .pages) (h1 : pt ≠ .mover) (hs : pt.same s₀ s)
    : pt.same s₀ (s.chReset c) := by
  unfold State.chReset
  simp +contextual (maxDischargeDepth := 30) [*]

@[simp] theorem State.writeChCtrl_same {pt : Part} {s₀ s : State} (c : Nat) (v : Word) (h0 : pt ≠ .frees) (h1 : pt ≠ .pages)
    (h2 : pt ≠ .regs) (h3 : pt ≠ .groups) (h4 : pt ≠ .evt) (h5 : pt ≠ .memory) (h6 : pt ≠ .scratch) (h7 : pt ≠ .cnt)
    (h8 : pt ≠ .alarm) (h9 : pt ≠ .mover) (hs : pt.same s₀ s) : pt.same s₀ (s.writeChCtrl c v) := by
  unfold State.writeChCtrl
  simp +contextual (maxDischargeDepth := 30) [*]

@[simp] theorem State.moverOff_same {pt : Part} {s₀ s : State} (h0 : pt ≠ .frees) (h1 : pt ≠ .pages) (h2 : pt ≠ .regs)
    (h3 : pt ≠ .groups) (h4 : pt ≠ .evt) (h5 : pt ≠ .memory) (h6 : pt ≠ .scratch) (h7 : pt ≠ .cnt) (h8 : pt ≠ .mover) (hs :
    pt.same s₀ s) : pt.same s₀ s.moverOff := by
  unfold State.moverOff
  simp +contextual (maxDischargeDepth := 30) [*]

@[simp] theorem State.writeCh_same {pt : Part} {s₀ s : State} (po : Nat) (v : Word) (h0 : pt ≠ .frees) (h1 : pt ≠ .pages) (h2 : pt ≠ .regs) (h3 : pt ≠ .groups) (h4 : pt ≠ .evt) (h5 : pt ≠ .memory) (h6 : pt ≠ .scratch) (h7 : pt ≠ .cnt) (h8 : pt ≠ .alarm) (h9 : pt ≠ .mover) (hs : pt.same s₀ s) :
    pt.same s₀ (s.writeCh po v) := by
  have h1 : pt.same s₀ (s.writeChCtrl s.chSel v) := by simp [*]
  have h2 : ∀ f, pt.same s₀ (s.modChan s.chSel f) := fun f => by simp [*]
  have h3 : pt.same s₀ (s.err .mover 0 0x01A2 s.chSel po) := by simp [*]
  unfold State.writeCh
  exact Part.same_ite h1 (Part.same_ite (h2 _) (Part.same_ite (h2 _) (Part.same_ite (h2 _) (Part.same_ite (h2 _) (Part.same_ite (h2 _)
    (Part.same_ite (Part.same_ite h3 (Part.same_ite (h2 _) (Part.same_ite (h2 _) (h2 _)))) hs))))))

@[simp] theorem State.writeChSel_same {pt : Part} {s₀ s : State} (v : Word) (h0 : pt ≠ .regs) (hs : pt.same s₀ s) : pt.same s₀
    (s.writeChSel v) := by
  unfold State.writeChSel
  simp +contextual (maxDischargeDepth := 30) [*]

@[simp] theorem State.testStart_same {pt : Part} {s₀ s : State} (h0 : pt ≠ .pages) (h1 : pt ≠ .groups) (h2 : pt ≠ .evt)
    (h3 : pt ≠ .scratch) (h4 : pt ≠ .test) (hs : pt.same s₀ s) : pt.same s₀ s.testStart := by
  unfold State.testStart
  repeat' (first | dsimp only | (simp +contextual (maxDischargeDepth := 30) [*]; done) | split |
    (refine Part.same_foldl _ _ ?_ ?_) | (refine Part.same_foldl_fst _ _ ?_ ?_) | intro _ | apply_assumption)

@[simp] theorem State.writeTestCtrl_same {pt : Part} {s₀ s : State} (v : Word) (h0 : pt ≠ .pages) (h1 : pt ≠ .groups)
    (h2 : pt ≠ .evt) (h3 : pt ≠ .scratch) (h4 : pt ≠ .test) (hs : pt.same s₀ s) : pt.same s₀ (s.writeTestCtrl v) := by
  unfold State.writeTestCtrl
  simp +contextual (maxDischargeDepth := 30) [*]

@[simp] theorem State.testEnd_same {pt : Part} {s₀ s : State} (poisoned : Bool) (h0 : pt ≠ .pages) (h1 : pt ≠ .regs)
    (h2 : pt ≠ .groups) (h3 : pt ≠ .evt) (h4 : pt ≠ .scratch) (h5 : pt ≠ .cnt) (h6 : pt ≠ .test) (hs : pt.same s₀ s) : pt.same s₀
    (s.testEnd poisoned) := by
  unfold State.testEnd
  simp +contextual (maxDischargeDepth := 30) [*]

@[simp] theorem State.testRun_same {pt : Part} {s₀ s : State} (h0 : pt ≠ .frees) (h1 : pt ≠ .pages) (h2 : pt ≠ .regs)
    (h3 : pt ≠ .groups) (h4 : pt ≠ .evt) (h5 : pt ≠ .memory) (h6 : pt ≠ .scratch) (h7 : pt ≠ .cnt) (h8 : pt ≠ .alarm)
    (h9 : pt ≠ .test) (hs : pt.same s₀ s) : pt.same s₀ s.testRun := by
  unfold State.testRun
  repeat' (first | dsimp only | (simp +contextual (maxDischargeDepth := 30) [*]; done) | split |
    (refine Part.same_foldl _ _ ?_ ?_) | (refine Part.same_foldl_fst _ _ ?_ ?_) | intro _ | apply_assumption)

@[simp] theorem State.writeTest_same {pt : Part} {s₀ s : State} (po : Nat) (v : Word) (h0 : pt ≠ .pages) (h1 : pt ≠ .regs)
    (h2 : pt ≠ .groups) (h3 : pt ≠ .evt) (h4 : pt ≠ .scratch) (h5 : pt ≠ .test) (hs : pt.same s₀ s) : pt.same s₀ (s.writeTest po
    v) := by
  unfold State.writeTest
  simp +contextual (maxDischargeDepth := 30) [*]

@[simp] theorem State.modCnt_same {pt : Part} {s₀ s : State} (f : CntSt → CntSt) (h0 : pt ≠ .cnt) (hs : pt.same s₀ s) : pt.same s₀
    (s.modCnt f) := by
  unfold State.modCnt
  simp +contextual (maxDischargeDepth := 30) [*]

@[simp] theorem State.skipDump_same {pt : Part} {s₀ s : State} (ctr detail : Nat) (h0 : pt ≠ .pages) (h1 : pt ≠ .regs)
    (h2 : pt ≠ .cnt) (h3 : pt ≠ .alarm) (hs : pt.same s₀ s) : pt.same s₀ (s.skipDump ctr detail) := by
  unfold State.skipDump
  simp +contextual (maxDischargeDepth := 30) [*]

@[simp] theorem State.captureNow_same {pt : Part} {s₀ s : State} (h0 : pt ≠ .pages) (h1 : pt ≠ .regs) (h2 : pt ≠ .cnt)
    (h3 : pt ≠ .alarm) (hs : pt.same s₀ s) : pt.same s₀ s.captureNow := by
  unfold State.captureNow
  simp +contextual (maxDischargeDepth := 30) [*]

@[simp] theorem State.putWord_same {pt : Part} {s₀ s : State} (a : Nat) (w : Word) (h0 : pt ≠ .frees) (h1 : pt ≠ .pages)
    (h2 : pt ≠ .regs) (h3 : pt ≠ .memory) (h4 : pt ≠ .cnt) (h5 : pt ≠ .alarm) (hs : pt.same s₀ s) : pt.same s₀ (s.putWord a w) :=
    by
  unfold State.putWord
  simp +contextual (maxDischargeDepth := 30) [*]

@[simp] theorem State.writeDump_same {pt : Part} {s₀ s : State} (c : Capture) (h0 : pt ≠ .frees) (h1 : pt ≠ .pages)
    (h2 : pt ≠ .regs) (h3 : pt ≠ .memory) (h4 : pt ≠ .cnt) (h5 : pt ≠ .alarm) (hs : pt.same s₀ s) : pt.same s₀ (s.writeDump c) :=
    by
  unfold State.writeDump
  simp +contextual (maxDischargeDepth := 30) [*]

@[simp] theorem State.takeDump_same {pt : Part} {s₀ s : State} (h0 : pt ≠ .cnt) (hs : pt.same s₀ s) : pt.same s₀ s.takeDump := by
  unfold State.takeDump
  simp +contextual (maxDischargeDepth := 30) [*]

@[simp] theorem State.writeDumpHead_same {pt : Part} {s₀ s : State} (v : Word) (h0 : pt ≠ .pages) (h1 : pt ≠ .regs) (hs : pt.same
    s₀ s) : pt.same s₀ (s.writeDumpHead v) := by
  unfold State.writeDumpHead
  simp +contextual (maxDischargeDepth := 30) [*]

@[simp] theorem State.cntEnable_same {pt : Part} {s₀ s : State} (on : Bool) (h0 : pt ≠ .pages) (h1 : pt ≠ .regs) (h2 : pt ≠ .cnt)
    (hs : pt.same s₀ s) : pt.same s₀ (s.cntEnable on) := by
  unfold State.cntEnable
  repeat' (first | dsimp only | (simp +contextual (maxDischargeDepth := 30) [*]; done) | split |
    (refine Part.same_foldl _ _ ?_ ?_) | (refine Part.same_foldl_fst _ _ ?_ ?_) | intro _ | apply_assumption)

@[simp] theorem State.clearHist_same {pt : Part} {s₀ s : State} (n : Nat) (h0 : pt ≠ .cnt) (hs : pt.same s₀ s) : pt.same s₀
    (s.clearHist n) := by
  unfold State.clearHist
  simp +contextual (maxDischargeDepth := 30) [*]

@[simp] theorem State.clearGroup_same {pt : Part} {s₀ s : State} (g : Nat) (h0 : pt ≠ .cnt) (hs : pt.same s₀ s) : pt.same s₀
    (s.clearGroup g) := by
  unfold State.clearGroup
  simp +contextual (maxDischargeDepth := 30) [*]

@[simp] theorem State.writeHistCtrl_same {pt : Part} {s₀ s : State} (g : Nat) (v : Word) (h0 : pt ≠ .cnt) (hs : pt.same s₀ s) :
    pt.same s₀ (s.writeHistCtrl g v) := by
  unfold State.writeHistCtrl
  simp +contextual (maxDischargeDepth := 30) [*]

@[simp] theorem State.writeOrigin_same {pt : Part} {s₀ s : State} (g kind : Nat) (v : Word) (h0 : pt ≠ .regs) (h1 : pt ≠ .cnt) (hs
    : pt.same s₀ s) : pt.same s₀ (s.writeOrigin g kind v) := by
  unfold State.writeOrigin
  simp +contextual (maxDischargeDepth := 30) [*]

@[simp] theorem State.clearOther_same {pt : Part} {s₀ s : State} (h0 : pt ≠ .cnt) (hs : pt.same s₀ s) : pt.same s₀ s.clearOther :=
    by
  unfold State.clearOther
  simp +contextual (maxDischargeDepth := 30) [*]

@[simp] theorem State.writeHist_same {pt : Part} {s₀ s : State} (g po : Nat) (v : Word) (h0 : pt ≠ .pages) (h1 : pt ≠ .regs)
    (h2 : pt ≠ .cnt) (hs : pt.same s₀ s) : pt.same s₀ (s.writeHist g po v) := by
  unfold State.writeHist
  simp +contextual (maxDischargeDepth := 30) [*]

@[simp] theorem State.writeCnt_same {pt : Part} {s₀ s : State} (po : Nat) (v : Word) (h0 : pt ≠ .pages) (h1 : pt ≠ .regs)
    (h2 : pt ≠ .cnt) (hs : pt.same s₀ s) : pt.same s₀ (s.writeCnt po v) := by
  unfold State.writeCnt
  simp +contextual (maxDischargeDepth := 30) [*]

@[simp] theorem State.takeOverflow_same {pt : Part} {s₀ s : State} (h : Nat) (pc : Word) (h0 : pt ≠ .core) (h1 : pt ≠ .outs) (hs :
    pt.same s₀ s) : pt.same s₀ (s.takeOverflow h pc) := by
  unfold State.takeOverflow
  simp +contextual (maxDischargeDepth := 30) [*]

@[simp] theorem State.coreOverflow_same {pt : Part} {s₀ s : State} (h ctr : Nat) (masked : Bool) (pc : Word) (h0 : pt ≠ .core)
    (h1 : pt ≠ .outs) (hs : pt.same s₀ s) : pt.same s₀ (s.coreOverflow h ctr masked pc) := by
  unfold State.coreOverflow
  simp +contextual (maxDischargeDepth := 30) [*]

end Sys2Proof.Machine
end

