-- ==== Sys2Proof/Laws/PartsSys.lean ====
section
/-! SUPPORT. Which parts of the state the operations of cores, management, boot, power, event pins, headers, the register region and memory touch: every other part stays as it is. -/

namespace Sys2Proof.Machine

open Sys2Proof

@[simp] theorem State.evalSrc_same {pt : Part} {s₀ s : State} (j : Nat) (h0 : pt ≠ .pages) (h1 : pt ≠ .regs) (h2 : pt ≠ .core)
    (h3 : pt ≠ .cnt) (h4 : pt ≠ .outs) (hs : pt.same s₀ s) : pt.same s₀ (s.evalSrc j) := by
  unfold State.evalSrc
  simp +contextual (maxDischargeDepth := 30) [*]

@[simp] theorem State.writeRearm_same {pt : Part} {s₀ s : State} (v : Word) (h0 : pt ≠ .core) (hs : pt.same s₀ s) : pt.same s₀
    (s.writeRearm v) := by
  unfold State.writeRearm
  simp +contextual (maxDischargeDepth := 30) [*]

@[simp] theorem State.writeRouteSel_same {pt : Part} {s₀ s : State} (v : Word) (h0 : pt ≠ .pages) (h1 : pt ≠ .regs) (hs : pt.same
    s₀ s) : pt.same s₀ (s.writeRouteSel v) := by
  unfold State.writeRouteSel
  simp +contextual (maxDischargeDepth := 30) [*]

@[simp] theorem State.writeRoute_same {pt : Part} {s₀ s : State} (v : Word) (h0 : pt ≠ .core) (hs : pt.same s₀ s) : pt.same s₀
    (s.writeRoute v) := by
  unfold State.writeRoute
  simp +contextual (maxDischargeDepth := 30) [*]

@[simp] theorem State.writeIrqSrc_same {pt : Part} {s₀ s : State} (j : Nat) (v : Word) (h0 : pt ≠ .pages) (h1 : pt ≠ .regs) (hs :
    pt.same s₀ s) : pt.same s₀ (s.writeIrqSrc j v) := by
  unfold State.writeIrqSrc
  simp +contextual (maxDischargeDepth := 30) [*]

@[simp] theorem State.hartStart_same {pt : Part} {s₀ s : State} (mask : Nat) (h0 : pt ≠ .pages) (h1 : pt ≠ .core)
    (h2 : pt ≠ .outs) (hs : pt.same s₀ s) : pt.same s₀ (s.hartStart mask) := by
  unfold State.hartStart
  repeat' (first | dsimp only | (simp +contextual (maxDischargeDepth := 30) [*]; done) | split |
    (refine Part.same_foldl _ _ ?_ ?_) | (refine Part.same_foldl_fst _ _ ?_ ?_) | intro _ | apply_assumption)

@[simp] theorem State.timerIrq_same {pt : Part} {s₀ s : State} (h cmp : Nat) (supervisor : Bool) (h0 : pt ≠ .time)
    (h1 : pt ≠ .outs) (hs : pt.same s₀ s) : pt.same s₀ (s.timerIrq h cmp supervisor) := by
  unfold State.timerIrq
  simp +contextual (maxDischargeDepth := 30) [*]

@[simp] theorem State.writeEtherType_same {pt : Part} {s₀ s : State} (v : Word) (h0 : pt ≠ .pages) (h1 : pt ≠ .regs) (hs : pt.same
    s₀ s) : pt.same s₀ (s.writeEtherType v) := by
  unfold State.writeEtherType
  simp +contextual (maxDischargeDepth := 30) [*]

@[simp] theorem State.writeGlobal_same {pt : Part} {s₀ s : State} (po : Nat) (v : Word) (h0 : pt ≠ .pages) (h1 : pt ≠ .regs)
    (h2 : pt ≠ .core) (h3 : pt ≠ .outs) (hs : pt.same s₀ s) : pt.same s₀ (s.writeGlobal po v) := by
  unfold State.writeGlobal
  simp +contextual (maxDischargeDepth := 30) [*]

@[simp] theorem State.modMgmt_same {pt : Part} {s₀ s : State} (f : MgmtSt → MgmtSt) (h0 : pt ≠ .mgmt) (hs : pt.same s₀ s) :
    pt.same s₀ (s.modMgmt f) := by
  unfold State.modMgmt
  simp +contextual (maxDischargeDepth := 30) [*]

@[simp] theorem State.mgRead_same {pt : Part} {s₀ s : State} (a : Nat) (h0 : pt ≠ .frees) (h1 : pt ≠ .pages) (h2 : pt ≠ .regs)
    (h3 : pt ≠ .memory) (h4 : pt ≠ .cnt) (h5 : pt ≠ .alarm) (hs : pt.same s₀ s) : pt.same s₀ (s.mgRead a).1 := by
  unfold State.mgRead
  simp +contextual (maxDischargeDepth := 30) [*]

@[simp] theorem State.mgReturn_same {pt : Part} {s₀ s : State} (a : Nat) (d : Word × Word) (status : Nat) (rxLen : Option Nat)
    (cause : Nat) (h0 : pt ≠ .frees) (h1 : pt ≠ .pages) (h2 : pt ≠ .regs) (h3 : pt ≠ .memory) (h4 : pt ≠ .cnt) (h5 : pt ≠ .alarm)
    (hs : pt.same s₀ s) : pt.same s₀ (s.mgReturn a d status rxLen cause) := by
  unfold State.mgReturn
  simp +contextual (maxDischargeDepth := 30) [*]

@[simp] theorem State.txPoll_same {pt : Part} {s₀ s : State} (h0 : pt ≠ .frees) (h1 : pt ≠ .pages) (h2 : pt ≠ .regs)
    (h3 : pt ≠ .memory) (h4 : pt ≠ .cnt) (h5 : pt ≠ .alarm) (h6 : pt ≠ .mgmt) (hs : pt.same s₀ s) : pt.same s₀ s.txPoll := by
  unfold State.txPoll
  simp +contextual (maxDischargeDepth := 30) [*]

@[simp] theorem State.txSend_same {pt : Part} {s₀ s : State} (h0 : pt ≠ .frees) (h1 : pt ≠ .pages) (h2 : pt ≠ .regs)
    (h3 : pt ≠ .memory) (h4 : pt ≠ .cnt) (h5 : pt ≠ .alarm) (h6 : pt ≠ .mgmt) (h7 : pt ≠ .outs) (hs : pt.same s₀ s) : pt.same s₀
    s.txSend := by
  unfold State.txSend
  simp +contextual (maxDischargeDepth := 30) [*]

@[simp] theorem State.writeTxCtrl_same {pt : Part} {s₀ s : State} (v : Word) (h0 : pt ≠ .frees) (h1 : pt ≠ .pages)
    (h2 : pt ≠ .regs) (h3 : pt ≠ .memory) (h4 : pt ≠ .cnt) (h5 : pt ≠ .alarm) (h6 : pt ≠ .mgmt) (hs : pt.same s₀ s) : pt.same s₀
    (s.writeTxCtrl v) := by
  unfold State.writeTxCtrl
  simp +contextual (maxDischargeDepth := 30) [*]

@[simp] theorem State.rxPut_same {pt : Part} {s₀ s : State} (d : Word × Word) (f : List Byte) (h0 : pt ≠ .frees)
    (h1 : pt ≠ .pages) (h2 : pt ≠ .regs) (h3 : pt ≠ .memory) (h4 : pt ≠ .cnt) (h5 : pt ≠ .alarm) (h6 : pt ≠ .mgmt) (hs : pt.same
    s₀ s) : pt.same s₀ (s.rxPut d f).1 := by
  unfold State.rxPut
  simp +contextual (maxDischargeDepth := 30) [*]

@[simp] theorem State.rxDrain_same {pt : Part} (n : Nat) {s₀ s : State} (h0 : pt ≠ .frees) (h1 : pt ≠ .pages) (h2 : pt ≠ .regs) (h3 : pt ≠ .memory) (h4 : pt ≠ .cnt) (h5 : pt ≠ .alarm) (h6 : pt ≠ .mgmt) (hs : pt.same s₀ s) : pt.same s₀ (State.rxDrain n s) := by
  have hg : ∀ u k, pt.same s₀ u → pt.same s₀ (u.mgRead k).1 := fun u k hu => by simp [*]
  have hr : ∀ u d f, pt.same s₀ u → pt.same s₀ (u.rxPut d f).1 := fun u d f hu => by simp [*]
  have hm : ∀ u g, pt.same s₀ u → pt.same s₀ (State.modMgmt u g) := fun u g hu => by simp [*]
  induction n generalizing s with
  | zero => exact hs
  | succ n ih =>
    unfold State.rxDrain
    split
    · exact hs
    · rename_i f rest _
      have hp := hr _ (s.mgRead s.rxDesc).2 f (hg _ s.rxDesc hs)
      dsimp only
      split
      · split
        · rename_i t h
          rw [h] at hp
          exact ih (hm _ _ hp)
        · rename_i t h
          rw [h] at hp
          exact ih hp
      · exact hg _ _ hs

@[simp] theorem State.rxPoll_same {pt : Part} {s₀ s : State} (h0 : pt ≠ .frees) (h1 : pt ≠ .pages) (h2 : pt ≠ .regs)
    (h3 : pt ≠ .memory) (h4 : pt ≠ .cnt) (h5 : pt ≠ .alarm) (h6 : pt ≠ .mgmt) (hs : pt.same s₀ s) : pt.same s₀ s.rxPoll := by
  unfold State.rxPoll
  simp +contextual (maxDischargeDepth := 30) [*]

@[simp] theorem State.writeRxCtrl_same {pt : Part} {s₀ s : State} (v : Word) (h0 : pt ≠ .frees) (h1 : pt ≠ .pages)
    (h2 : pt ≠ .regs) (h3 : pt ≠ .memory) (h4 : pt ≠ .cnt) (h5 : pt ≠ .alarm) (h6 : pt ≠ .mgmt) (hs : pt.same s₀ s) : pt.same s₀
    (s.writeRxCtrl v) := by
  unfold State.writeRxCtrl
  simp +contextual (maxDischargeDepth := 30) [*]

@[simp] theorem State.mgReceive_same {pt : Part} {s₀ s : State} (f : MgmtFrame) (h0 : pt ≠ .frees) (h1 : pt ≠ .pages)
    (h2 : pt ≠ .regs) (h3 : pt ≠ .memory) (h4 : pt ≠ .cnt) (h5 : pt ≠ .alarm) (h6 : pt ≠ .mgmt) (hs : pt.same s₀ s) : pt.same s₀
    (s.mgReceive f) := by
  unfold State.mgReceive
  simp +contextual (maxDischargeDepth := 30) [*]

@[simp] theorem State.mgmtEnable_same {pt : Part} {s₀ s : State} (on : Bool) (h0 : pt ≠ .frees) (h1 : pt ≠ .pages)
    (h2 : pt ≠ .regs) (h3 : pt ≠ .memory) (h4 : pt ≠ .cnt) (h5 : pt ≠ .alarm) (h6 : pt ≠ .mgmt) (hs : pt.same s₀ s) : pt.same s₀
    (s.mgmtEnable on) := by
  unfold State.mgmtEnable
  simp +contextual (maxDischargeDepth := 30) [*]

@[simp] theorem State.writeMac_same {pt : Part} {s₀ s : State} (po : Nat) (v : Word) (h0 : pt ≠ .frees) (h1 : pt ≠ .pages)
    (h2 : pt ≠ .regs) (h3 : pt ≠ .memory) (h4 : pt ≠ .cnt) (h5 : pt ≠ .alarm) (h6 : pt ≠ .mgmt) (hs : pt.same s₀ s) : pt.same s₀
    (s.writeMac po v) := by
  unfold State.writeMac
  simp +contextual (maxDischargeDepth := 30) [*]

@[simp] theorem State.modSec_same {pt : Part} {s₀ s : State} (f : SecSt → SecSt) (h0 : pt ≠ .sec) (hs : pt.same s₀ s) : pt.same s₀
    (s.modSec f) := by
  unfold State.modSec
  simp +contextual (maxDischargeDepth := 30) [*]

@[simp] theorem State.trySlot_same {pt : Part} {s₀ s : State} (f : FlashSlot) (h0 : pt ≠ .frees) (h1 : pt ≠ .pages)
    (h2 : pt ≠ .regs) (h3 : pt ≠ .memory) (h4 : pt ≠ .cnt) (h5 : pt ≠ .alarm) (hs : pt.same s₀ s) : pt.same s₀ (s.trySlot f) := by
  unfold State.trySlot
  simp +contextual (maxDischargeDepth := 30) [*]

@[simp] theorem State.startSlot_same {pt : Part} {s₀ s : State} (n : Nat) (f : FlashSlot) (h0 : pt ≠ .sec) (h1 : pt ≠ .outs) (hs :
    pt.same s₀ s) : pt.same s₀ (s.startSlot n f) := by
  unfold State.startSlot
  simp +contextual (maxDischargeDepth := 30) [*]

@[simp] theorem State.writeFuse_same {pt : Part} {s₀ s : State} (v : Word) (h0 : pt ≠ .pages) (h1 : pt ≠ .sec) (hs : pt.same s₀ s)
    : pt.same s₀ (s.writeFuse v) := by
  unfold State.writeFuse
  repeat' (first | dsimp only | (simp +contextual (maxDischargeDepth := 30) [*]; done) | split |
    (refine Part.same_foldl _ _ ?_ ?_) | (refine Part.same_foldl_fst _ _ ?_ ?_) | intro _ | apply_assumption)

@[simp] theorem State.fuseWrite_same {pt : Part} {s₀ s : State} (op k n : Nat) (h0 : pt ≠ .pages) (h1 : pt ≠ .sec) (hs : pt.same
    s₀ s) : pt.same s₀ (s.fuseWrite op k n) := by
  unfold State.fuseWrite
  simp +contextual (maxDischargeDepth := 30) [*]

@[simp] theorem State.writeSec_same {pt : Part} {s₀ s : State} (po : Nat) (v : Word) (h0 : pt ≠ .pages) (h1 : pt ≠ .regs)
    (h2 : pt ≠ .sec) (hs : pt.same s₀ s) : pt.same s₀ (s.writeSec po v) := by
  unfold State.writeSec
  simp +contextual (maxDischargeDepth := 30) [*]

@[simp] theorem State.modPwr_same {pt : Part} {s₀ s : State} (f : PwrSt → PwrSt) (h0 : pt ≠ .pwr) (hs : pt.same s₀ s) : pt.same s₀
    (s.modPwr f) := by
  unfold State.modPwr
  simp +contextual (maxDischargeDepth := 30) [*]

@[simp] theorem State.alertOn_same {pt : Part} {s₀ s : State} (h0 : pt ≠ .pwr) (h1 : pt ≠ .outs) (hs : pt.same s₀ s) : pt.same s₀
    s.alertOn := by
  unfold State.alertOn
  simp +contextual (maxDischargeDepth := 30) [*]

@[simp] theorem State.writeTrain_same {pt : Part} {s₀ s : State} (v : Word) (h0 : pt ≠ .pages) (h1 : pt ≠ .regs) (h2 : pt ≠ .cnt)
    (h3 : pt ≠ .ddr) (hs : pt.same s₀ s) : pt.same s₀ (s.writeTrain v) := by
  unfold State.writeTrain
  simp +contextual (maxDischargeDepth := 30) [*]

@[simp] theorem State.thermalSample_same {pt : Part} {s₀ s : State} (ts : List Int) (h0 : pt ≠ .pages) (h1 : pt ≠ .regs) (h2 : pt ≠ .cnt) (h3 : pt ≠ .alarm) (h4 : pt ≠ .pwr)
    (hs : pt.same s₀ s) : pt.same s₀ (s.thermalSample ts) := by
  have c0 : ∀ (u : State) (k : PageKind) (i : Nat) (po : Nat) (n : Nat), pt.same s₀ u → pt.same s₀ (u.countN k i po n) := fun u k i po n hu => by simp [*]
  have c1 : ∀ (u : State) (k : PageKind) (i : Nat) (po : Nat), pt.same s₀ u → pt.same s₀ (u.count k i po) := fun u k i po hu => by simp [*]
  have c2 : ∀ (u : State) (a : Nat) (b : Nat) (c : Nat), pt.same s₀ u → pt.same s₀ (u.raise a b c) := fun u a b c hu => by simp [*]
  have c3 : ∀ (u : State) (k : PageKind) (i : Nat) (n : Nat), pt.same s₀ u → pt.same s₀ (u.cause k i n) := fun u k i n hu => by simp [*]
  have c4 : ∀ (u : State) (f : PwrSt → PwrSt), pt.same s₀ u → pt.same s₀ (u.modPwr f) := fun u f hu => by simp [*]
  have h1 := c4 _ (fun p => { p with temps := ts, hottest := hottest ts, stage := nextStage s.pwr.stage (nth ts (hottest ts) 0) })
    (Part.same_ite (c := s.pwr.stage = 0) hs (c0 _ .pwr 0 R.PWR_THROTTLE_US 100 hs))
  have h2 := Part.same_ite (c := s.pwr.stage = nextStage s.pwr.stage (nth ts (hottest ts) 0)) h1 (c3 _ .pwr 0 16 h1)
  exact Part.same_ite (c2 _ _ _ _ (c1 _ _ _ _ h2)) h2

@[simp] theorem State.writePwr_same {pt : Part} {s₀ s : State} (po : Nat) (v : Word) (h0 : pt ≠ .pwr) (hs : pt.same s₀ s) :
    pt.same s₀ (s.writePwr po v) := by
  unfold State.writePwr
  simp +contextual (maxDischargeDepth := 30) [*]

@[simp] theorem State.nack_same {pt : Part} {s₀ s : State} (h0 : pt ≠ .outs) (hs : pt.same s₀ s) : pt.same s₀ s.nack := by
  unfold State.nack
  simp +contextual (maxDischargeDepth := 30) [*]

@[simp] theorem State.pmb_same {pt : Part} {s₀ s : State} (x : Smb) (f : State → State) (hs : pt.same s₀ s) (hf : ∀ u, pt.same s₀
    u → pt.same s₀ (f u)) : pt.same s₀ (s.pmb x f) := by
  unfold State.pmb
  simp +contextual (maxDischargeDepth := 30) [*]

@[simp] theorem State.pmbWrite_same {pt : Part} {s₀ s : State} (x : Smb) (code : Nat) (data : List Nat) (f : State → State)
    (h0 : pt ≠ .pwr) (h1 : pt ≠ .outs) (hs : pt.same s₀ s) (hf : ∀ u, pt.same s₀ u → pt.same s₀ (f u)) : pt.same s₀ (s.pmbWrite x
    code data f) := by
  unfold State.pmbWrite
  simp +contextual (maxDischargeDepth := 30) [*]

@[simp] theorem State.ack_same {pt : Part} {s₀ s : State} (x : Smb) (code n v : Nat) (h0 : pt ≠ .outs) (hs : pt.same s₀ s) :
    pt.same s₀ (s.ack x code n v) := by
  unfold State.ack
  simp +contextual (maxDischargeDepth := 30) [*]

@[simp] theorem State.accept_same {pt : Part} {s₀ s : State} (h0 : pt ≠ .outs) (hs : pt.same s₀ s) : pt.same s₀ s.accept := by
  unfold State.accept
  simp +contextual (maxDischargeDepth := 30) [*]

@[simp] theorem State.onRail_same {pt : Part} {s₀ s : State} (f : Nat → State) (h0 : pt ≠ .outs) (hs : pt.same s₀ s) (hf : ∀ n,
    pt.same s₀ (f n)) : pt.same s₀ (s.onRail f) := by
  unfold State.onRail
  simp +contextual (maxDischargeDepth := 30) [*]

@[simp] theorem State.writeStream_same {pt : Part} {s₀ s : State} (po : Nat) (v : Word) (h0 : pt ≠ .regs) (h1 : pt ≠ .stream) (hs
    : pt.same s₀ s) : pt.same s₀ (s.writeStream po v) := by
  unfold State.writeStream
  simp +contextual (maxDischargeDepth := 30) [*]

@[simp] theorem State.writeEvt_same {pt : Part} {s₀ s : State} (po : Nat) (v : Word) (h0 : pt ≠ .pages) (h1 : pt ≠ .regs)
    (h2 : pt ≠ .groups) (h3 : pt ≠ .evt) (h4 : pt ≠ .scratch) (h5 : pt ≠ .outs) (hs : pt.same s₀ s) : pt.same s₀ (s.writeEvt po v)
    := by
  unfold State.writeEvt
  simp +contextual (maxDischargeDepth := 30) [*]

@[simp] theorem State.genPayload_same {pt : Part} {s₀ s : State} (w : Word) (delay : Nat) (x : GenPulse) (h0 : pt ≠ .frees) (hs :
    pt.same s₀ s) : pt.same s₀ (s.genPayload w delay x).1 := by
  unfold State.genPayload
  repeat' (first | dsimp only | (simp +contextual (maxDischargeDepth := 30) [*]; done) | split |
    (refine Part.same_foldl _ _ ?_ ?_) | (refine Part.same_foldl_fst _ _ ?_ ?_) | intro _ | apply_assumption)

@[simp] theorem State.hdrGuard_same {pt : Part} {s₀ s : State} (k : PageKind) (i po : Nat) (f : State → State) (h0 : pt ≠ .pages)
    (hs : pt.same s₀ s) (hf : ∀ u, pt.same s₀ u → pt.same s₀ (f u)) : pt.same s₀ (s.hdrGuard k i po f) := by
  unfold State.hdrGuard
  simp +contextual (maxDischargeDepth := 30) [*]

@[simp] theorem State.hdrEnable_same {pt : Part} {s₀ s : State} (k : PageKind) (i : Nat) (on : Bool) (h0 : pt ≠ .pages) (hs :
    pt.same s₀ s) : pt.same s₀ (s.hdrEnable k i on) := by
  unfold State.hdrEnable
  simp +contextual (maxDischargeDepth := 30) [*]

@[simp] theorem State.moverEnable_same {pt : Part} {s₀ s : State} (on : Bool) (h0 : pt ≠ .frees) (h1 : pt ≠ .pages)
    (h2 : pt ≠ .regs) (h3 : pt ≠ .groups) (h4 : pt ≠ .evt) (h5 : pt ≠ .memory) (h6 : pt ≠ .scratch) (h7 : pt ≠ .cnt)
    (h8 : pt ≠ .mover) (hs : pt.same s₀ s) : pt.same s₀ (s.moverEnable on) := by
  unfold State.moverEnable
  simp +contextual (maxDischargeDepth := 30) [*]

@[simp] theorem State.setEnable_same {pt : Part} {s₀ s : State} (k : PageKind) (i : Nat) (on : Bool) (h0 : pt ≠ .frees)
    (h1 : pt ≠ .pages) (h2 : pt ≠ .regs) (h3 : pt ≠ .ports) (h4 : pt ≠ .groups) (h5 : pt ≠ .stream) (h6 : pt ≠ .evt)
    (h7 : pt ≠ .memory) (h8 : pt ≠ .cq) (h9 : pt ≠ .xfer) (h10 : pt ≠ .core) (h11 : pt ≠ .scratch) (h12 : pt ≠ .cnt)
    (h13 : pt ≠ .trace) (h14 : pt ≠ .alarm) (h15 : pt ≠ .fault) (h16 : pt ≠ .mover) (h17 : pt ≠ .mgmt) (h18 : pt ≠ .outs) (hs :
    pt.same s₀ s) : pt.same s₀ (s.setEnable k i on) := by
  unfold State.setEnable
  repeat' (first | dsimp only | (simp +contextual (maxDischargeDepth := 30) [*]; done) | split |
    (refine Part.same_foldl _ _ ?_ ?_) | (refine Part.same_foldl_fst _ _ ?_ ?_) | intro _ | apply_assumption)

@[simp] theorem State.resetRegs_same {pt : Part} {s₀ s : State} (k : PageKind) (i : Nat) (h0 : pt ≠ .regs) (hs : pt.same s₀ s) :
    pt.same s₀ (s.resetRegs k i) := by
  unfold State.resetRegs
  simp +contextual (maxDischargeDepth := 30) [*]

@[simp] theorem State.resetEvt_same {pt : Part} {s₀ s : State} (h0 : pt ≠ .groups) (h1 : pt ≠ .evt) (h2 : pt ≠ .scratch) (hs :
    pt.same s₀ s) : pt.same s₀ s.resetEvt := by
  unfold State.resetEvt
  simp +contextual (maxDischargeDepth := 30) [*]

@[simp] theorem State.resetTime_same {pt : Part} {s₀ s : State} (h0 : pt ≠ .pages) (h1 : pt ≠ .regs) (h2 : pt ≠ .time)
    (h3 : pt ≠ .groups) (h4 : pt ≠ .evt) (h5 : pt ≠ .scratch) (hs : pt.same s₀ s) : pt.same s₀ s.resetTime := by
  unfold State.resetTime
  simp +contextual (maxDischargeDepth := 30) [*]

@[simp] theorem State.resetCodec_same {pt : Part} {s₀ s : State} (h0 : pt ≠ .groups) (h1 : pt ≠ .evt) (h2 : pt ≠ .scratch)
    (h3 : pt ≠ .test) (hs : pt.same s₀ s) : pt.same s₀ s.resetCodec := by
  unfold State.resetCodec
  simp +contextual (maxDischargeDepth := 30) [*]

@[simp] theorem State.resetLz_same {pt : Part} {s₀ s : State} (h0 : pt ≠ .groups) (h1 : pt ≠ .evt) (h2 : pt ≠ .scratch) (hs :
    pt.same s₀ s) : pt.same s₀ s.resetLz := by
  unfold State.resetLz
  simp +contextual (maxDischargeDepth := 30) [*]

@[simp] theorem State.resetMover_same {pt : Part} {s₀ s : State} (h0 : pt ≠ .frees) (h1 : pt ≠ .pages) (h2 : pt ≠ .regs)
    (h3 : pt ≠ .groups) (h4 : pt ≠ .evt) (h5 : pt ≠ .memory) (h6 : pt ≠ .scratch) (h7 : pt ≠ .cnt) (h8 : pt ≠ .mover) (hs :
    pt.same s₀ s) : pt.same s₀ s.resetMover := by
  unfold State.resetMover
  simp +contextual (maxDischargeDepth := 30) [*]

@[simp] theorem State.resetXfer_same {pt : Part} {s₀ s : State} (h0 : pt ≠ .pages) (h1 : pt ≠ .regs) (h2 : pt ≠ .groups)
    (h3 : pt ≠ .evt) (h4 : pt ≠ .xfer) (h5 : pt ≠ .scratch) (hs : pt.same s₀ s) : pt.same s₀ s.resetXfer := by
  unfold State.resetXfer
  simp +contextual (maxDischargeDepth := 30) [*]

@[simp] theorem State.resetGlobal_same {pt : Part} {s₀ s : State} (h0 : pt ≠ .feats) (h1 : pt ≠ .core) (hs : pt.same s₀ s) :
    pt.same s₀ s.resetGlobal := by
  unfold State.resetGlobal
  simp +contextual (maxDischargeDepth := 30) [*]

@[simp] theorem State.resetPort_same {pt : Part} {s₀ s : State} (p : Nat) (h0 : pt ≠ .frees) (h1 : pt ≠ .pages) (h2 : pt ≠ .regs)
    (h3 : pt ≠ .ports) (h4 : pt ≠ .groups) (h5 : pt ≠ .stream) (h6 : pt ≠ .memory) (h7 : pt ≠ .cq) (h8 : pt ≠ .xfer)
    (h9 : pt ≠ .core) (h10 : pt ≠ .cnt) (h11 : pt ≠ .trace) (h12 : pt ≠ .alarm) (h13 : pt ≠ .fault) (h14 : pt ≠ .mover)
    (h15 : pt ≠ .outs) (hs : pt.same s₀ s) : pt.same s₀ (s.resetPort p) := by
  unfold State.resetPort
  simp +contextual (maxDischargeDepth := 30) [*]

@[simp] theorem State.lockFeatures_same {pt : Part} {s₀ s : State} (h0 : pt ≠ .feats) (h1 : pt ≠ .pages) (hs : pt.same s₀ s) :
    pt.same s₀ s.lockFeatures := by
  unfold State.lockFeatures
  repeat' (first | dsimp only | (simp +contextual (maxDischargeDepth := 30) [*]; done) | split |
    (refine Part.same_foldl _ _ ?_ ?_) | (refine Part.same_foldl_fst _ _ ?_ ?_) | intro _ | apply_assumption)

@[simp] theorem State.writeFeatAcc_same {pt : Part} {s₀ s : State} (v : Word) (h0 : pt ≠ .feats) (h1 : pt ≠ .pages) (hs : pt.same s₀ s) :
    pt.same s₀ (s.writeFeatAcc v) := by
  have c0 : ∀ k i a b c, pt.same s₀ (s.err k i a b c) := fun k i a b c => by simp [*]
  have c1 : pt.same s₀ { s with featAcc := v } := Part.same_featAcc (by assumption) hs
  unfold State.writeFeatAcc
  split
  · exact c0 _ _ _ _ _
  · first | exact c1 | exact Part.same_featAcc (by assumption) hs

@[simp] theorem State.clearCause_same {pt : Part} {s₀ s : State} (k : PageKind) (i : Nat) (mask raised : BitVec 32) (h0 : pt ≠ .pages)
    (hs : pt.same s₀ s) : pt.same s₀ (s.clearCause k i mask raised) :=
  State.modHdr_same _ _ _ h0 hs

@[simp] theorem State.causeGuard_same {pt : Part} {s₀ s : State} (k : PageKind) (i : Nat) (f : State → State) (h0 : pt ≠ .pages)
    (hs : pt.same s₀ s) (hf : ∀ u, pt.same s₀ u → pt.same s₀ (f u)) : pt.same s₀ (s.causeGuard k i f) := by
  unfold State.causeGuard
  simp +contextual (maxDischargeDepth := 30) [*]

@[simp] theorem State.setPending_same {pt : Part} {s₀ s : State} (k : PageKind) (i : Nat) (h0 : pt ≠ .pages) (hs : pt.same s₀ s) :
    pt.same s₀ (s.setPending k i) := by
  unfold State.setPending
  simp +contextual (maxDischargeDepth := 30) [*]

@[simp] theorem State.commitPage_same {pt : Part} {s₀ s : State} (k : PageKind) (i : Nat) (h0 : pt ≠ .pages) (h1 : pt ≠ .groups)
    (h2 : pt ≠ .evt) (h3 : pt ≠ .xfer) (h4 : pt ≠ .scratch) (h5 : pt ≠ .mover) (hs : pt.same s₀ s) : pt.same s₀ (s.commitPage k i)
    := by
  unfold State.commitPage
  repeat' (first | dsimp only | (simp +contextual (maxDischargeDepth := 30) [*]; done) | split |
    (refine Part.same_foldl _ _ ?_ ?_) | (refine Part.same_foldl_fst _ _ ?_ ?_) | intro _ | apply_assumption)

@[simp] theorem State.discardPage_same {pt : Part} {s₀ s : State} (k : PageKind) (i : Nat) (h0 : pt ≠ .pages) (h1 : pt ≠ .groups)
    (h2 : pt ≠ .evt) (h3 : pt ≠ .sq) (h4 : pt ≠ .xfer) (h5 : pt ≠ .scratch) (h6 : pt ≠ .mover) (hs : pt.same s₀ s) : pt.same s₀
    (s.discardPage k i) := by
  unfold State.discardPage
  repeat' (first | dsimp only | (simp +contextual (maxDischargeDepth := 30) [*]; done) | split |
    (refine Part.same_foldl _ _ ?_ ?_) | (refine Part.same_foldl_fst _ _ ?_ ?_) | intro _ | apply_assumption)

@[simp] theorem State.writeShadowCtrl_same {pt : Part} {s₀ s : State} (k : PageKind) (i : Nat) (v : Word) (h0 : pt ≠ .pages)
    (h1 : pt ≠ .groups) (h2 : pt ≠ .evt) (h3 : pt ≠ .sq) (h4 : pt ≠ .xfer) (h5 : pt ≠ .scratch) (h6 : pt ≠ .mover) (hs : pt.same
    s₀ s) : pt.same s₀ (s.writeShadowCtrl k i v) := by
  unfold State.writeShadowCtrl
  simp +contextual (maxDischargeDepth := 30) [*]

@[simp] theorem State.applyPage_same {pt : Part} {s₀ s : State} (k : PageKind) (i : Nat) (h0 : pt ≠ .pages) (hs : pt.same s₀ s) :
    pt.same s₀ (s.applyPage k i) := by
  unfold State.applyPage
  simp +contextual (maxDischargeDepth := 30) [*]

@[simp] theorem State.takeSnap_same {pt : Part} {s₀ s : State} (k : PageKind) (i : Nat) (h0 : pt ≠ .pages) (hs : pt.same s₀ s) :
    pt.same s₀ (s.takeSnap k i) := by
  unfold State.takeSnap
  simp +contextual (maxDischargeDepth := 30) [*]

@[simp] theorem State.readReg_same {pt : Part} {s₀ s : State} (k : PageKind) (i po : Nat) (r : RegRow) (h0 : pt ≠ .time)
    (h1 : pt ≠ .groups) (hs : pt.same s₀ s) : pt.same s₀ (s.readReg k i po r).1 := by
  unfold State.readReg
  repeat' (first | dsimp only | (simp +contextual (maxDischargeDepth := 30) [*]; done) | split |
    (refine Part.same_foldl _ _ ?_ ?_) | (refine Part.same_foldl_fst _ _ ?_ ?_) | intro _ | apply_assumption)

@[simp] theorem State.writeTimeReg_same {pt : Part} {s₀ s : State} (po : Nat) (v : Word) (h0 : pt ≠ .pages) (h1 : pt ≠ .regs)
    (h2 : pt ≠ .time) (h3 : pt ≠ .groups) (h4 : pt ≠ .evt) (h5 : pt ≠ .scratch) (h6 : pt ≠ .outs) (hs : pt.same s₀ s) : pt.same s₀
    (s.writeTimeReg po v) := by
  unfold State.writeTimeReg
  simp +contextual (maxDischargeDepth := 30) [*]

@[simp] theorem State.writeCycleReg_same {pt : Part} {s₀ s : State} (po : Nat) (v : Word) (h0 : pt ≠ .frees) (h1 : pt ≠ .pages)
    (h2 : pt ≠ .regs) (h3 : pt ≠ .time) (h4 : pt ≠ .node) (h5 : pt ≠ .slate) (h6 : pt ≠ .ports) (h7 : pt ≠ .groups)
    (h8 : pt ≠ .evt) (h9 : pt ≠ .memory) (h10 : pt ≠ .cq) (h11 : pt ≠ .xfer) (h12 : pt ≠ .core) (h13 : pt ≠ .scratch)
    (h14 : pt ≠ .cnt) (h15 : pt ≠ .trace) (h16 : pt ≠ .alarm) (h17 : pt ≠ .mover) (h18 : pt ≠ .outs) (hs : pt.same s₀ s) : pt.same
    s₀ (s.writeCycleReg po v) := by
  unfold State.writeCycleReg
  simp +contextual (maxDischargeDepth := 30) [*]

@[simp] theorem State.writeLzReg_same {pt : Part} {s₀ s : State} (po : Nat) (v : Word) (h0 : pt ≠ .pages) (h1 : pt ≠ .regs)
    (h2 : pt ≠ .slate) (h3 : pt ≠ .groups) (h4 : pt ≠ .evt) (h5 : pt ≠ .lz) (h6 : pt ≠ .scratch) (hs : pt.same s₀ s) : pt.same s₀
    (s.writeLzReg po v) := by
  unfold State.writeLzReg
  simp +contextual (maxDischargeDepth := 30) [*]

@[simp] theorem State.writeTraceReg_same {pt : Part} {s₀ s : State} (po : Nat) (v : Word) (h0 : pt ≠ .pages) (h1 : pt ≠ .regs)
    (h2 : pt ≠ .cnt) (h3 : pt ≠ .trace) (hs : pt.same s₀ s) : pt.same s₀ (s.writeTraceReg po v) := by
  unfold State.writeTraceReg
  simp +contextual (maxDischargeDepth := 30) [*]

@[simp] theorem State.writeAlarmReg_same {pt : Part} {s₀ s : State} (po : Nat) (v : Word) (h0 : pt ≠ .pages) (h1 : pt ≠ .regs)
    (h2 : pt ≠ .cnt) (h3 : pt ≠ .alarm) (hs : pt.same s₀ s) : pt.same s₀ (s.writeAlarmReg po v) := by
  unfold State.writeAlarmReg
  simp +contextual (maxDischargeDepth := 30) [*]

@[simp] theorem State.writeFaultReg_same {pt : Part} {s₀ s : State} (po : Nat) (v : Word) (h0 : pt ≠ .frees) (h1 : pt ≠ .pages)
    (h2 : pt ≠ .regs) (h3 : pt ≠ .ports) (h4 : pt ≠ .groups) (h5 : pt ≠ .stream) (h6 : pt ≠ .memory) (h7 : pt ≠ .cq)
    (h8 : pt ≠ .xfer) (h9 : pt ≠ .core) (h10 : pt ≠ .cnt) (h11 : pt ≠ .trace) (h12 : pt ≠ .alarm) (h13 : pt ≠ .fault)
    (h14 : pt ≠ .mover) (h15 : pt ≠ .outs) (hs : pt.same s₀ s) : pt.same s₀ (s.writeFaultReg po v) := by
  unfold State.writeFaultReg
  simp +contextual (maxDischargeDepth := 30) [*]

@[simp] theorem State.writeMgmtReg_same {pt : Part} {s₀ s : State} (po : Nat) (v : Word) (h0 : pt ≠ .frees) (h1 : pt ≠ .pages)
    (h2 : pt ≠ .regs) (h3 : pt ≠ .time) (h4 : pt ≠ .memory) (h5 : pt ≠ .cnt) (h6 : pt ≠ .alarm) (h7 : pt ≠ .mgmt)
    (h8 : pt ≠ .outs) (hs : pt.same s₀ s) : pt.same s₀ (s.writeMgmtReg po v) := by
  unfold State.writeMgmtReg
  simp +contextual (maxDischargeDepth := 30) [*]

@[simp] theorem State.writePortReg_same {pt : Part} {s₀ s : State} (p po : Nat) (v : Word) (h0 : pt ≠ .frees) (h1 : pt ≠ .pages)
    (h2 : pt ≠ .regs) (h3 : pt ≠ .time) (h4 : pt ≠ .ports) (h5 : pt ≠ .groups) (h6 : pt ≠ .stream) (h7 : pt ≠ .memory)
    (h8 : pt ≠ .cq) (h9 : pt ≠ .xfer) (h10 : pt ≠ .core) (h11 : pt ≠ .cnt) (h12 : pt ≠ .trace) (h13 : pt ≠ .alarm)
    (h14 : pt ≠ .fault) (h15 : pt ≠ .mover) (h16 : pt ≠ .outs) (hs : pt.same s₀ s) : pt.same s₀ (s.writePortReg p po v) := by
  unfold State.writePortReg
  simp +contextual (maxDischargeDepth := 30) [*]

@[simp] theorem State.writeBlock_same {pt : Part} {s₀ s : State} (k : PageKind) (i po : Nat) (v : Word) (h0 : pt ≠ .frees)
    (h1 : pt ≠ .pages) (h2 : pt ≠ .regs) (h3 : pt ≠ .time) (h4 : pt ≠ .node) (h5 : pt ≠ .slate) (h6 : pt ≠ .ports)
    (h7 : pt ≠ .groups) (h8 : pt ≠ .stream) (h9 : pt ≠ .evt) (h10 : pt ≠ .memory) (h11 : pt ≠ .cq) (h12 : pt ≠ .xfer)
    (h13 : pt ≠ .lz) (h14 : pt ≠ .core) (h15 : pt ≠ .scratch) (h16 : pt ≠ .cnt) (h17 : pt ≠ .trace) (h18 : pt ≠ .alarm)
    (h19 : pt ≠ .fault) (h20 : pt ≠ .mover) (h21 : pt ≠ .test) (h22 : pt ≠ .mgmt) (h23 : pt ≠ .sec) (h24 : pt ≠ .ddr)
    (h25 : pt ≠ .pwr) (h26 : pt ≠ .outs) (hs : pt.same s₀ s) : pt.same s₀ (s.writeBlock k i po v) := by
  unfold State.writeBlock
  repeat' (first | dsimp only | (simp +contextual (maxDischargeDepth := 30) [*]; done) | split |
    (refine Part.same_foldl _ _ ?_ ?_) | (refine Part.same_foldl_fst _ _ ?_ ?_) | intro _ | apply_assumption)

@[simp] theorem State.writeRow_same {pt : Part} {s₀ s : State} (k : PageKind) (i po : Nat) (r : RegRow) (v : Word)
    (h0 : pt ≠ .frees) (h1 : pt ≠ .pages) (h2 : pt ≠ .regs) (h3 : pt ≠ .time) (h4 : pt ≠ .node) (h5 : pt ≠ .slate)
    (h6 : pt ≠ .ports) (h7 : pt ≠ .groups) (h8 : pt ≠ .stream) (h9 : pt ≠ .evt) (h10 : pt ≠ .memory) (h11 : pt ≠ .cq)
    (h12 : pt ≠ .xfer) (h13 : pt ≠ .lz) (h14 : pt ≠ .core) (h15 : pt ≠ .scratch) (h16 : pt ≠ .cnt) (h17 : pt ≠ .trace)
    (h18 : pt ≠ .alarm) (h19 : pt ≠ .fault) (h20 : pt ≠ .mover) (h21 : pt ≠ .test) (h22 : pt ≠ .mgmt) (h23 : pt ≠ .sec)
    (h24 : pt ≠ .ddr) (h25 : pt ≠ .pwr) (h26 : pt ≠ .outs) (hs : pt.same s₀ s) : pt.same s₀ (s.writeRow k i po r v) := by
  unfold State.writeRow
  repeat' (first | dsimp only | (simp +contextual (maxDischargeDepth := 30) [*]; done) | split |
    (refine Part.same_foldl _ _ ?_ ?_) | (refine Part.same_foldl_fst _ _ ?_ ?_) | intro _ | apply_assumption)

@[simp] theorem State.readPage_same {pt : Part} {s₀ s : State} (k : PageKind) (i po : Nat) (h0 : pt ≠ .time) (h1 : pt ≠ .groups)
    (hs : pt.same s₀ s) : pt.same s₀ (s.readPage k i po).1 := by
  unfold State.readPage
  repeat' (first | dsimp only | (simp +contextual (maxDischargeDepth := 30) [*]; done) | split |
    (refine Part.same_foldl _ _ ?_ ?_) | (refine Part.same_foldl_fst _ _ ?_ ?_) | intro _ | apply_assumption)

@[simp] theorem State.bellAccess_same {pt : Part} {s₀ s : State} (off width : Nat) (data : Option Word) (h0 : pt ≠ .pages)
    (h1 : pt ≠ .regs) (h2 : pt ≠ .sq) (h3 : pt ≠ .xfer) (h4 : pt ≠ .cnt) (h5 : pt ≠ .alarm) (h6 : pt ≠ .mover) (hs : pt.same s₀ s)
    : pt.same s₀ (s.bellAccess off width data).1 := by
  unfold State.bellAccess
  repeat' (first | dsimp only | (simp +contextual (maxDischargeDepth := 30) [*]; done) | split |
    (refine Part.same_foldl _ _ ?_ ?_) | (refine Part.same_foldl_fst _ _ ?_ ?_) | intro _ | apply_assumption)

@[simp] theorem State.sqAccess_same {pt : Part} {s₀ s : State} (off width : Nat) (data : Option Word) (h0 : pt ≠ .frees)
    (h1 : pt ≠ .pages) (h2 : pt ≠ .regs) (h3 : pt ≠ .memory) (h4 : pt ≠ .sq) (h5 : pt ≠ .cq) (h6 : pt ≠ .xfer) (h7 : pt ≠ .core)
    (h8 : pt ≠ .cnt) (h9 : pt ≠ .trace) (h10 : pt ≠ .alarm) (h11 : pt ≠ .mover) (h12 : pt ≠ .outs) (hs : pt.same s₀ s) : pt.same
    s₀ (s.sqAccess off width data).1 := by
  unfold State.sqAccess
  repeat' (first | dsimp only | (simp +contextual (maxDischargeDepth := 30) [*]; done) | split |
    (refine Part.same_foldl _ _ ?_ ?_) | (refine Part.same_foldl_fst _ _ ?_ ?_) | intro _ | apply_assumption)

@[simp] theorem State.cqAccess_same {pt : Part} {s₀ s : State} (off width : Nat) (data : Option Word) (h0 : pt ≠ .pages)
    (h1 : pt ≠ .regs) (h2 : pt ≠ .cq) (h3 : pt ≠ .core) (h4 : pt ≠ .cnt) (h5 : pt ≠ .alarm) (h6 : pt ≠ .outs) (hs : pt.same s₀ s)
    : pt.same s₀ (s.cqAccess off width data).1 := by
  unfold State.cqAccess
  repeat' (first | dsimp only | (simp +contextual (maxDischargeDepth := 30) [*]; done) | split |
    (refine Part.same_foldl _ _ ?_ ?_) | (refine Part.same_foldl_fst _ _ ?_ ?_) | intro _ | apply_assumption)

@[simp] theorem State.tableAccess_same {pt : Part} {s₀ s : State} (off width : Nat) (data : Option Word) (h0 : pt ≠ .pages)
    (h1 : pt ≠ .slate) (hs : pt.same s₀ s) : pt.same s₀ (s.tableAccess off width data).1 := by
  unfold State.tableAccess
  repeat' (first | dsimp only | (simp +contextual (maxDischargeDepth := 30) [*]; done) | split |
    (refine Part.same_foldl _ _ ?_ ?_) | (refine Part.same_foldl_fst _ _ ?_ ?_) | intro _ | apply_assumption)

@[simp] theorem State.coreFault_same {pt : Part} {s₀ s : State} (core : Nat) (h0 : pt ≠ .outs) (hs : pt.same s₀ s) : pt.same s₀
    (s.coreFault core) := by
  unfold State.coreFault
  simp +contextual (maxDischargeDepth := 30) [*]

@[simp] theorem State.coreRead_same {pt : Part} {s₀ s : State} (core a n : Nat) (f : State → Nat → State) (h0 : pt ≠ .pages) (h1 : pt ≠ .regs) (h2 : pt ≠ .memory) (h3 : pt ≠ .cnt) (h4 : pt ≠ .alarm) (h5 : pt ≠ .outs)
    (hs : pt.same s₀ s) (hf : ∀ u v, pt.same s₀ u → pt.same s₀ (f u v)) : pt.same s₀ (s.coreRead core a n f) := by
  have he : pt.same s₀ (s.eccRead a n) := by simp [*]
  have hc : pt.same s₀ ((s.eccRead a n).coreFault core) := by simp [*]
  exact Part.same_ite hc (hf _ _ he)

@[simp] theorem State.dropResv_same {pt : Part} {s₀ s : State} (core : Nat) (h0 : pt ≠ .memory) (hs : pt.same s₀ s) : pt.same s₀
    (s.dropResv core) := by
  unfold State.dropResv
  simp +contextual (maxDischargeDepth := 30) [*]

@[simp] theorem State.coreMem_same {pt : Part} {s₀ s : State} (core a n : Nat) (op : MemOp) (h0 : pt ≠ .frees) (h1 : pt ≠ .pages) (h2 : pt ≠ .regs) (h3 : pt ≠ .memory) (h4 : pt ≠ .cnt) (h5 : pt ≠ .alarm) (h6 : pt ≠ .outs)
    (hs : pt.same s₀ s) : pt.same s₀ (s.coreMem core a n op) := by
  have ho : ∀ u o, pt.same s₀ u → pt.same s₀ (u.out o) := fun u o hu => by simp [*]
  have hw : ∀ u a b, pt.same s₀ u → pt.same s₀ (State.store u a b) := fun u a b hu => by simp [*]
  have hd : ∀ u, pt.same s₀ u → pt.same s₀ (State.dropResv u core) := fun u hu => by simp [*]
  have hv : ∀ u r, pt.same s₀ u → pt.same s₀ { u with resv := r } := fun u r hu => by simp [*]
  have hc : pt.same s₀ (s.coreFault core) := by simp [*]
  have hr : ∀ a n (f : State → Nat → State), (∀ u v, pt.same s₀ u → pt.same s₀ (f u v)) → pt.same s₀ (s.coreRead core a n f) :=
    fun a n f hf => State.coreRead_same core a n f (by assumption) (by assumption) (by assumption) (by assumption) (by assumption) (by assumption) hs hf
  unfold State.coreMem
  split
  · exact hr _ _ _ fun u v hu => ho _ _ hu
  · exact hw _ _ _ hs
  · exact hr _ _ _ fun u v hu => ho _ _ (hw _ _ _ hu)
  · exact Part.same_ite hc (hr _ _ _ fun u v hu => ho _ _ (hv _ _ hu))
  · exact Part.same_ite hc (Part.same_ite (ho _ _ (hd _ (hw _ _ _ hs))) (ho _ _ (hd _ hs)))

end Sys2Proof.Machine
end

