-- ==== Sys2Proof/Laws/State.lean ====
section
/-! SUPPORT. The state's fields under each named update: the field the update is for changes, every other one stays. -/

namespace Sys2Proof.Machine

open Sys2Proof

/-! State.modHdr -/

@[simp] theorem State.modHdr_pending (s : State) (k : PageKind) (i : Nat) (f : PageHdr → PageHdr) : (s.modHdr k i f).pending = s.pending := rfl
@[simp] theorem State.modHdr_freeCount (s : State) (k : PageKind) (i : Nat) (f : PageHdr → PageHdr) : (s.modHdr k i f).freeCount = s.freeCount := rfl
@[simp] theorem State.modHdr_featAcc (s : State) (k : PageKind) (i : Nat) (f : PageHdr → PageHdr) : (s.modHdr k i f).featAcc = s.featAcc := rfl
@[simp] theorem State.modHdr_featLock (s : State) (k : PageKind) (i : Nat) (f : PageHdr → PageHdr) : (s.modHdr k i f).featLock = s.featLock := rfl
@[simp] theorem State.modHdr_featOk (s : State) (k : PageKind) (i : Nat) (f : PageHdr → PageHdr) : (s.modHdr k i f).featOk = s.featOk := rfl
@[simp] theorem State.modHdr_instDraw (s : State) (k : PageKind) (i : Nat) (f : PageHdr → PageHdr) : (s.modHdr k i f).instDraw = s.instDraw := rfl
@[simp] theorem State.modHdr_regs (s : State) (k : PageKind) (i : Nat) (f : PageHdr → PageHdr) : (s.modHdr k i f).regs = s.regs := rfl
@[simp] theorem State.modHdr_time (s : State) (k : PageKind) (i : Nat) (f : PageHdr → PageHdr) : (s.modHdr k i f).time = s.time := rfl
@[simp] theorem State.modHdr_node (s : State) (k : PageKind) (i : Nat) (f : PageHdr → PageHdr) : (s.modHdr k i f).node = s.node := rfl
@[simp] theorem State.modHdr_slate (s : State) (k : PageKind) (i : Nat) (f : PageHdr → PageHdr) : (s.modHdr k i f).slate = s.slate := rfl
@[simp] theorem State.modHdr_ports (s : State) (k : PageKind) (i : Nat) (f : PageHdr → PageHdr) : (s.modHdr k i f).ports = s.ports := rfl
@[simp] theorem State.modHdr_groups (s : State) (k : PageKind) (i : Nat) (f : PageHdr → PageHdr) : (s.modHdr k i f).groups = s.groups := rfl
@[simp] theorem State.modHdr_stream (s : State) (k : PageKind) (i : Nat) (f : PageHdr → PageHdr) : (s.modHdr k i f).stream = s.stream := rfl
@[simp] theorem State.modHdr_evt (s : State) (k : PageKind) (i : Nat) (f : PageHdr → PageHdr) : (s.modHdr k i f).evt = s.evt := rfl
@[simp] theorem State.modHdr_hubIn (s : State) (k : PageKind) (i : Nat) (f : PageHdr → PageHdr) : (s.modHdr k i f).hubIn = s.hubIn := rfl
@[simp] theorem State.modHdr_mem (s : State) (k : PageKind) (i : Nat) (f : PageHdr → PageHdr) : (s.modHdr k i f).mem = s.mem := rfl
@[simp] theorem State.modHdr_poison (s : State) (k : PageKind) (i : Nat) (f : PageHdr → PageHdr) : (s.modHdr k i f).poison = s.poison := rfl
@[simp] theorem State.modHdr_errs (s : State) (k : PageKind) (i : Nat) (f : PageHdr → PageHdr) : (s.modHdr k i f).errs = s.errs := rfl
@[simp] theorem State.modHdr_resv (s : State) (k : PageKind) (i : Nat) (f : PageHdr → PageHdr) : (s.modHdr k i f).resv = s.resv := rfl
@[simp] theorem State.modHdr_scrubs (s : State) (k : PageKind) (i : Nat) (f : PageHdr → PageHdr) : (s.modHdr k i f).scrubs = s.scrubs := rfl
@[simp] theorem State.modHdr_sq (s : State) (k : PageKind) (i : Nat) (f : PageHdr → PageHdr) : (s.modHdr k i f).sq = s.sq := rfl
@[simp] theorem State.modHdr_cq (s : State) (k : PageKind) (i : Nat) (f : PageHdr → PageHdr) : (s.modHdr k i f).cq = s.cq := rfl
@[simp] theorem State.modHdr_xfer (s : State) (k : PageKind) (i : Nat) (f : PageHdr → PageHdr) : (s.modHdr k i f).xfer = s.xfer := rfl
@[simp] theorem State.modHdr_lz (s : State) (k : PageKind) (i : Nat) (f : PageHdr → PageHdr) : (s.modHdr k i f).lz = s.lz := rfl
@[simp] theorem State.modHdr_core (s : State) (k : PageKind) (i : Nat) (f : PageHdr → PageHdr) : (s.modHdr k i f).core = s.core := rfl
@[simp] theorem State.modHdr_scratch (s : State) (k : PageKind) (i : Nat) (f : PageHdr → PageHdr) : (s.modHdr k i f).scratch = s.scratch := rfl
@[simp] theorem State.modHdr_cnt (s : State) (k : PageKind) (i : Nat) (f : PageHdr → PageHdr) : (s.modHdr k i f).cnt = s.cnt := rfl
@[simp] theorem State.modHdr_trace (s : State) (k : PageKind) (i : Nat) (f : PageHdr → PageHdr) : (s.modHdr k i f).trace = s.trace := rfl
@[simp] theorem State.modHdr_alarm (s : State) (k : PageKind) (i : Nat) (f : PageHdr → PageHdr) : (s.modHdr k i f).alarm = s.alarm := rfl
@[simp] theorem State.modHdr_fault (s : State) (k : PageKind) (i : Nat) (f : PageHdr → PageHdr) : (s.modHdr k i f).fault = s.fault := rfl
@[simp] theorem State.modHdr_mover (s : State) (k : PageKind) (i : Nat) (f : PageHdr → PageHdr) : (s.modHdr k i f).mover = s.mover := rfl
@[simp] theorem State.modHdr_test (s : State) (k : PageKind) (i : Nat) (f : PageHdr → PageHdr) : (s.modHdr k i f).test = s.test := rfl
@[simp] theorem State.modHdr_mgmt (s : State) (k : PageKind) (i : Nat) (f : PageHdr → PageHdr) : (s.modHdr k i f).mgmt = s.mgmt := rfl
@[simp] theorem State.modHdr_sec (s : State) (k : PageKind) (i : Nat) (f : PageHdr → PageHdr) : (s.modHdr k i f).sec = s.sec := rfl
@[simp] theorem State.modHdr_ddr (s : State) (k : PageKind) (i : Nat) (f : PageHdr → PageHdr) : (s.modHdr k i f).ddr = s.ddr := rfl
@[simp] theorem State.modHdr_pwr (s : State) (k : PageKind) (i : Nat) (f : PageHdr → PageHdr) : (s.modHdr k i f).pwr = s.pwr := rfl
@[simp] theorem State.modHdr_outs (s : State) (k : PageKind) (i : Nat) (f : PageHdr → PageHdr) : (s.modHdr k i f).outs = s.outs := rfl

/-! State.cause -/

@[simp] theorem State.cause_pending (s : State) (k : PageKind) (i b : Nat) : (s.cause k i b).pending = s.pending := rfl
@[simp] theorem State.cause_freeCount (s : State) (k : PageKind) (i b : Nat) : (s.cause k i b).freeCount = s.freeCount := rfl
@[simp] theorem State.cause_featAcc (s : State) (k : PageKind) (i b : Nat) : (s.cause k i b).featAcc = s.featAcc := rfl
@[simp] theorem State.cause_featLock (s : State) (k : PageKind) (i b : Nat) : (s.cause k i b).featLock = s.featLock := rfl
@[simp] theorem State.cause_featOk (s : State) (k : PageKind) (i b : Nat) : (s.cause k i b).featOk = s.featOk := rfl
@[simp] theorem State.cause_instDraw (s : State) (k : PageKind) (i b : Nat) : (s.cause k i b).instDraw = s.instDraw := rfl
@[simp] theorem State.cause_regs (s : State) (k : PageKind) (i b : Nat) : (s.cause k i b).regs = s.regs := rfl
@[simp] theorem State.cause_time (s : State) (k : PageKind) (i b : Nat) : (s.cause k i b).time = s.time := rfl
@[simp] theorem State.cause_node (s : State) (k : PageKind) (i b : Nat) : (s.cause k i b).node = s.node := rfl
@[simp] theorem State.cause_slate (s : State) (k : PageKind) (i b : Nat) : (s.cause k i b).slate = s.slate := rfl
@[simp] theorem State.cause_ports (s : State) (k : PageKind) (i b : Nat) : (s.cause k i b).ports = s.ports := rfl
@[simp] theorem State.cause_groups (s : State) (k : PageKind) (i b : Nat) : (s.cause k i b).groups = s.groups := rfl
@[simp] theorem State.cause_stream (s : State) (k : PageKind) (i b : Nat) : (s.cause k i b).stream = s.stream := rfl
@[simp] theorem State.cause_evt (s : State) (k : PageKind) (i b : Nat) : (s.cause k i b).evt = s.evt := rfl
@[simp] theorem State.cause_hubIn (s : State) (k : PageKind) (i b : Nat) : (s.cause k i b).hubIn = s.hubIn := rfl
@[simp] theorem State.cause_mem (s : State) (k : PageKind) (i b : Nat) : (s.cause k i b).mem = s.mem := rfl
@[simp] theorem State.cause_poison (s : State) (k : PageKind) (i b : Nat) : (s.cause k i b).poison = s.poison := rfl
@[simp] theorem State.cause_errs (s : State) (k : PageKind) (i b : Nat) : (s.cause k i b).errs = s.errs := rfl
@[simp] theorem State.cause_resv (s : State) (k : PageKind) (i b : Nat) : (s.cause k i b).resv = s.resv := rfl
@[simp] theorem State.cause_scrubs (s : State) (k : PageKind) (i b : Nat) : (s.cause k i b).scrubs = s.scrubs := rfl
@[simp] theorem State.cause_sq (s : State) (k : PageKind) (i b : Nat) : (s.cause k i b).sq = s.sq := rfl
@[simp] theorem State.cause_cq (s : State) (k : PageKind) (i b : Nat) : (s.cause k i b).cq = s.cq := rfl
@[simp] theorem State.cause_xfer (s : State) (k : PageKind) (i b : Nat) : (s.cause k i b).xfer = s.xfer := rfl
@[simp] theorem State.cause_lz (s : State) (k : PageKind) (i b : Nat) : (s.cause k i b).lz = s.lz := rfl
@[simp] theorem State.cause_core (s : State) (k : PageKind) (i b : Nat) : (s.cause k i b).core = s.core := rfl
@[simp] theorem State.cause_scratch (s : State) (k : PageKind) (i b : Nat) : (s.cause k i b).scratch = s.scratch := rfl
@[simp] theorem State.cause_cnt (s : State) (k : PageKind) (i b : Nat) : (s.cause k i b).cnt = s.cnt := rfl
@[simp] theorem State.cause_trace (s : State) (k : PageKind) (i b : Nat) : (s.cause k i b).trace = s.trace := rfl
@[simp] theorem State.cause_alarm (s : State) (k : PageKind) (i b : Nat) : (s.cause k i b).alarm = s.alarm := rfl
@[simp] theorem State.cause_fault (s : State) (k : PageKind) (i b : Nat) : (s.cause k i b).fault = s.fault := rfl
@[simp] theorem State.cause_mover (s : State) (k : PageKind) (i b : Nat) : (s.cause k i b).mover = s.mover := rfl
@[simp] theorem State.cause_test (s : State) (k : PageKind) (i b : Nat) : (s.cause k i b).test = s.test := rfl
@[simp] theorem State.cause_mgmt (s : State) (k : PageKind) (i b : Nat) : (s.cause k i b).mgmt = s.mgmt := rfl
@[simp] theorem State.cause_sec (s : State) (k : PageKind) (i b : Nat) : (s.cause k i b).sec = s.sec := rfl
@[simp] theorem State.cause_ddr (s : State) (k : PageKind) (i b : Nat) : (s.cause k i b).ddr = s.ddr := rfl
@[simp] theorem State.cause_pwr (s : State) (k : PageKind) (i b : Nat) : (s.cause k i b).pwr = s.pwr := rfl
@[simp] theorem State.cause_outs (s : State) (k : PageKind) (i b : Nat) : (s.cause k i b).outs = s.outs := rfl

/-! State.err -/

@[simp] theorem State.err_pending (s : State) (k : PageKind) (i code detail info : Nat) : (s.err k i code detail info).pending = s.pending := rfl
@[simp] theorem State.err_freeCount (s : State) (k : PageKind) (i code detail info : Nat) : (s.err k i code detail info).freeCount = s.freeCount := rfl
@[simp] theorem State.err_featAcc (s : State) (k : PageKind) (i code detail info : Nat) : (s.err k i code detail info).featAcc = s.featAcc := rfl
@[simp] theorem State.err_featLock (s : State) (k : PageKind) (i code detail info : Nat) : (s.err k i code detail info).featLock = s.featLock := rfl
@[simp] theorem State.err_featOk (s : State) (k : PageKind) (i code detail info : Nat) : (s.err k i code detail info).featOk = s.featOk := rfl
@[simp] theorem State.err_instDraw (s : State) (k : PageKind) (i code detail info : Nat) : (s.err k i code detail info).instDraw = s.instDraw := rfl
@[simp] theorem State.err_regs (s : State) (k : PageKind) (i code detail info : Nat) : (s.err k i code detail info).regs = s.regs := rfl
@[simp] theorem State.err_time (s : State) (k : PageKind) (i code detail info : Nat) : (s.err k i code detail info).time = s.time := rfl
@[simp] theorem State.err_node (s : State) (k : PageKind) (i code detail info : Nat) : (s.err k i code detail info).node = s.node := rfl
@[simp] theorem State.err_slate (s : State) (k : PageKind) (i code detail info : Nat) : (s.err k i code detail info).slate = s.slate := rfl
@[simp] theorem State.err_ports (s : State) (k : PageKind) (i code detail info : Nat) : (s.err k i code detail info).ports = s.ports := rfl
@[simp] theorem State.err_groups (s : State) (k : PageKind) (i code detail info : Nat) : (s.err k i code detail info).groups = s.groups := rfl
@[simp] theorem State.err_stream (s : State) (k : PageKind) (i code detail info : Nat) : (s.err k i code detail info).stream = s.stream := rfl
@[simp] theorem State.err_evt (s : State) (k : PageKind) (i code detail info : Nat) : (s.err k i code detail info).evt = s.evt := rfl
@[simp] theorem State.err_hubIn (s : State) (k : PageKind) (i code detail info : Nat) : (s.err k i code detail info).hubIn = s.hubIn := rfl
@[simp] theorem State.err_mem (s : State) (k : PageKind) (i code detail info : Nat) : (s.err k i code detail info).mem = s.mem := rfl
@[simp] theorem State.err_poison (s : State) (k : PageKind) (i code detail info : Nat) : (s.err k i code detail info).poison = s.poison := rfl
@[simp] theorem State.err_errs (s : State) (k : PageKind) (i code detail info : Nat) : (s.err k i code detail info).errs = s.errs := rfl
@[simp] theorem State.err_resv (s : State) (k : PageKind) (i code detail info : Nat) : (s.err k i code detail info).resv = s.resv := rfl
@[simp] theorem State.err_scrubs (s : State) (k : PageKind) (i code detail info : Nat) : (s.err k i code detail info).scrubs = s.scrubs := rfl
@[simp] theorem State.err_sq (s : State) (k : PageKind) (i code detail info : Nat) : (s.err k i code detail info).sq = s.sq := rfl
@[simp] theorem State.err_cq (s : State) (k : PageKind) (i code detail info : Nat) : (s.err k i code detail info).cq = s.cq := rfl
@[simp] theorem State.err_xfer (s : State) (k : PageKind) (i code detail info : Nat) : (s.err k i code detail info).xfer = s.xfer := rfl
@[simp] theorem State.err_lz (s : State) (k : PageKind) (i code detail info : Nat) : (s.err k i code detail info).lz = s.lz := rfl
@[simp] theorem State.err_core (s : State) (k : PageKind) (i code detail info : Nat) : (s.err k i code detail info).core = s.core := rfl
@[simp] theorem State.err_scratch (s : State) (k : PageKind) (i code detail info : Nat) : (s.err k i code detail info).scratch = s.scratch := rfl
@[simp] theorem State.err_cnt (s : State) (k : PageKind) (i code detail info : Nat) : (s.err k i code detail info).cnt = s.cnt := rfl
@[simp] theorem State.err_trace (s : State) (k : PageKind) (i code detail info : Nat) : (s.err k i code detail info).trace = s.trace := rfl
@[simp] theorem State.err_alarm (s : State) (k : PageKind) (i code detail info : Nat) : (s.err k i code detail info).alarm = s.alarm := rfl
@[simp] theorem State.err_fault (s : State) (k : PageKind) (i code detail info : Nat) : (s.err k i code detail info).fault = s.fault := rfl
@[simp] theorem State.err_mover (s : State) (k : PageKind) (i code detail info : Nat) : (s.err k i code detail info).mover = s.mover := rfl
@[simp] theorem State.err_test (s : State) (k : PageKind) (i code detail info : Nat) : (s.err k i code detail info).test = s.test := rfl
@[simp] theorem State.err_mgmt (s : State) (k : PageKind) (i code detail info : Nat) : (s.err k i code detail info).mgmt = s.mgmt := rfl
@[simp] theorem State.err_sec (s : State) (k : PageKind) (i code detail info : Nat) : (s.err k i code detail info).sec = s.sec := rfl
@[simp] theorem State.err_ddr (s : State) (k : PageKind) (i code detail info : Nat) : (s.err k i code detail info).ddr = s.ddr := rfl
@[simp] theorem State.err_pwr (s : State) (k : PageKind) (i code detail info : Nat) : (s.err k i code detail info).pwr = s.pwr := rfl
@[simp] theorem State.err_outs (s : State) (k : PageKind) (i code detail info : Nat) : (s.err k i code detail info).outs = s.outs := rfl

/-! State.refuseEnable -/

@[simp] theorem State.refuseEnable_pending (s : State) (k : PageKind) (i code detail info : Nat) : (s.refuseEnable k i code detail info).pending = s.pending := rfl
@[simp] theorem State.refuseEnable_freeCount (s : State) (k : PageKind) (i code detail info : Nat) : (s.refuseEnable k i code detail info).freeCount = s.freeCount := rfl
@[simp] theorem State.refuseEnable_featAcc (s : State) (k : PageKind) (i code detail info : Nat) : (s.refuseEnable k i code detail info).featAcc = s.featAcc := rfl
@[simp] theorem State.refuseEnable_featLock (s : State) (k : PageKind) (i code detail info : Nat) : (s.refuseEnable k i code detail info).featLock = s.featLock := rfl
@[simp] theorem State.refuseEnable_featOk (s : State) (k : PageKind) (i code detail info : Nat) : (s.refuseEnable k i code detail info).featOk = s.featOk := rfl
@[simp] theorem State.refuseEnable_instDraw (s : State) (k : PageKind) (i code detail info : Nat) : (s.refuseEnable k i code detail info).instDraw = s.instDraw := rfl
@[simp] theorem State.refuseEnable_regs (s : State) (k : PageKind) (i code detail info : Nat) : (s.refuseEnable k i code detail info).regs = s.regs := rfl
@[simp] theorem State.refuseEnable_time (s : State) (k : PageKind) (i code detail info : Nat) : (s.refuseEnable k i code detail info).time = s.time := rfl
@[simp] theorem State.refuseEnable_node (s : State) (k : PageKind) (i code detail info : Nat) : (s.refuseEnable k i code detail info).node = s.node := rfl
@[simp] theorem State.refuseEnable_slate (s : State) (k : PageKind) (i code detail info : Nat) : (s.refuseEnable k i code detail info).slate = s.slate := rfl
@[simp] theorem State.refuseEnable_ports (s : State) (k : PageKind) (i code detail info : Nat) : (s.refuseEnable k i code detail info).ports = s.ports := rfl
@[simp] theorem State.refuseEnable_groups (s : State) (k : PageKind) (i code detail info : Nat) : (s.refuseEnable k i code detail info).groups = s.groups := rfl
@[simp] theorem State.refuseEnable_stream (s : State) (k : PageKind) (i code detail info : Nat) : (s.refuseEnable k i code detail info).stream = s.stream := rfl
@[simp] theorem State.refuseEnable_evt (s : State) (k : PageKind) (i code detail info : Nat) : (s.refuseEnable k i code detail info).evt = s.evt := rfl
@[simp] theorem State.refuseEnable_hubIn (s : State) (k : PageKind) (i code detail info : Nat) : (s.refuseEnable k i code detail info).hubIn = s.hubIn := rfl
@[simp] theorem State.refuseEnable_mem (s : State) (k : PageKind) (i code detail info : Nat) : (s.refuseEnable k i code detail info).mem = s.mem := rfl
@[simp] theorem State.refuseEnable_poison (s : State) (k : PageKind) (i code detail info : Nat) : (s.refuseEnable k i code detail info).poison = s.poison := rfl
@[simp] theorem State.refuseEnable_errs (s : State) (k : PageKind) (i code detail info : Nat) : (s.refuseEnable k i code detail info).errs = s.errs := rfl
@[simp] theorem State.refuseEnable_resv (s : State) (k : PageKind) (i code detail info : Nat) : (s.refuseEnable k i code detail info).resv = s.resv := rfl
@[simp] theorem State.refuseEnable_scrubs (s : State) (k : PageKind) (i code detail info : Nat) : (s.refuseEnable k i code detail info).scrubs = s.scrubs := rfl
@[simp] theorem State.refuseEnable_sq (s : State) (k : PageKind) (i code detail info : Nat) : (s.refuseEnable k i code detail info).sq = s.sq := rfl
@[simp] theorem State.refuseEnable_cq (s : State) (k : PageKind) (i code detail info : Nat) : (s.refuseEnable k i code detail info).cq = s.cq := rfl
@[simp] theorem State.refuseEnable_xfer (s : State) (k : PageKind) (i code detail info : Nat) : (s.refuseEnable k i code detail info).xfer = s.xfer := rfl
@[simp] theorem State.refuseEnable_lz (s : State) (k : PageKind) (i code detail info : Nat) : (s.refuseEnable k i code detail info).lz = s.lz := rfl
@[simp] theorem State.refuseEnable_core (s : State) (k : PageKind) (i code detail info : Nat) : (s.refuseEnable k i code detail info).core = s.core := rfl
@[simp] theorem State.refuseEnable_scratch (s : State) (k : PageKind) (i code detail info : Nat) : (s.refuseEnable k i code detail info).scratch = s.scratch := rfl
@[simp] theorem State.refuseEnable_cnt (s : State) (k : PageKind) (i code detail info : Nat) : (s.refuseEnable k i code detail info).cnt = s.cnt := rfl
@[simp] theorem State.refuseEnable_trace (s : State) (k : PageKind) (i code detail info : Nat) : (s.refuseEnable k i code detail info).trace = s.trace := rfl
@[simp] theorem State.refuseEnable_alarm (s : State) (k : PageKind) (i code detail info : Nat) : (s.refuseEnable k i code detail info).alarm = s.alarm := rfl
@[simp] theorem State.refuseEnable_fault (s : State) (k : PageKind) (i code detail info : Nat) : (s.refuseEnable k i code detail info).fault = s.fault := rfl
@[simp] theorem State.refuseEnable_mover (s : State) (k : PageKind) (i code detail info : Nat) : (s.refuseEnable k i code detail info).mover = s.mover := rfl
@[simp] theorem State.refuseEnable_test (s : State) (k : PageKind) (i code detail info : Nat) : (s.refuseEnable k i code detail info).test = s.test := rfl
@[simp] theorem State.refuseEnable_mgmt (s : State) (k : PageKind) (i code detail info : Nat) : (s.refuseEnable k i code detail info).mgmt = s.mgmt := rfl
@[simp] theorem State.refuseEnable_sec (s : State) (k : PageKind) (i code detail info : Nat) : (s.refuseEnable k i code detail info).sec = s.sec := rfl
@[simp] theorem State.refuseEnable_ddr (s : State) (k : PageKind) (i code detail info : Nat) : (s.refuseEnable k i code detail info).ddr = s.ddr := rfl
@[simp] theorem State.refuseEnable_pwr (s : State) (k : PageKind) (i code detail info : Nat) : (s.refuseEnable k i code detail info).pwr = s.pwr := rfl
@[simp] theorem State.refuseEnable_outs (s : State) (k : PageKind) (i code detail info : Nat) : (s.refuseEnable k i code detail info).outs = s.outs := rfl

/-! State.refuseOwned -/

@[simp] theorem State.refuseOwned_pending (s : State) (k : PageKind) (i resource holder : Nat) : (s.refuseOwned k i resource holder).pending = s.pending := rfl
@[simp] theorem State.refuseOwned_freeCount (s : State) (k : PageKind) (i resource holder : Nat) : (s.refuseOwned k i resource holder).freeCount = s.freeCount := rfl
@[simp] theorem State.refuseOwned_featAcc (s : State) (k : PageKind) (i resource holder : Nat) : (s.refuseOwned k i resource holder).featAcc = s.featAcc := rfl
@[simp] theorem State.refuseOwned_featLock (s : State) (k : PageKind) (i resource holder : Nat) : (s.refuseOwned k i resource holder).featLock = s.featLock := rfl
@[simp] theorem State.refuseOwned_featOk (s : State) (k : PageKind) (i resource holder : Nat) : (s.refuseOwned k i resource holder).featOk = s.featOk := rfl
@[simp] theorem State.refuseOwned_instDraw (s : State) (k : PageKind) (i resource holder : Nat) : (s.refuseOwned k i resource holder).instDraw = s.instDraw := rfl
@[simp] theorem State.refuseOwned_regs (s : State) (k : PageKind) (i resource holder : Nat) : (s.refuseOwned k i resource holder).regs = s.regs := rfl
@[simp] theorem State.refuseOwned_time (s : State) (k : PageKind) (i resource holder : Nat) : (s.refuseOwned k i resource holder).time = s.time := rfl
@[simp] theorem State.refuseOwned_node (s : State) (k : PageKind) (i resource holder : Nat) : (s.refuseOwned k i resource holder).node = s.node := rfl
@[simp] theorem State.refuseOwned_slate (s : State) (k : PageKind) (i resource holder : Nat) : (s.refuseOwned k i resource holder).slate = s.slate := rfl
@[simp] theorem State.refuseOwned_ports (s : State) (k : PageKind) (i resource holder : Nat) : (s.refuseOwned k i resource holder).ports = s.ports := rfl
@[simp] theorem State.refuseOwned_groups (s : State) (k : PageKind) (i resource holder : Nat) : (s.refuseOwned k i resource holder).groups = s.groups := rfl
@[simp] theorem State.refuseOwned_stream (s : State) (k : PageKind) (i resource holder : Nat) : (s.refuseOwned k i resource holder).stream = s.stream := rfl
@[simp] theorem State.refuseOwned_evt (s : State) (k : PageKind) (i resource holder : Nat) : (s.refuseOwned k i resource holder).evt = s.evt := rfl
@[simp] theorem State.refuseOwned_hubIn (s : State) (k : PageKind) (i resource holder : Nat) : (s.refuseOwned k i resource holder).hubIn = s.hubIn := rfl
@[simp] theorem State.refuseOwned_mem (s : State) (k : PageKind) (i resource holder : Nat) : (s.refuseOwned k i resource holder).mem = s.mem := rfl
@[simp] theorem State.refuseOwned_poison (s : State) (k : PageKind) (i resource holder : Nat) : (s.refuseOwned k i resource holder).poison = s.poison := rfl
@[simp] theorem State.refuseOwned_errs (s : State) (k : PageKind) (i resource holder : Nat) : (s.refuseOwned k i resource holder).errs = s.errs := rfl
@[simp] theorem State.refuseOwned_resv (s : State) (k : PageKind) (i resource holder : Nat) : (s.refuseOwned k i resource holder).resv = s.resv := rfl
@[simp] theorem State.refuseOwned_scrubs (s : State) (k : PageKind) (i resource holder : Nat) : (s.refuseOwned k i resource holder).scrubs = s.scrubs := rfl
@[simp] theorem State.refuseOwned_sq (s : State) (k : PageKind) (i resource holder : Nat) : (s.refuseOwned k i resource holder).sq = s.sq := rfl
@[simp] theorem State.refuseOwned_cq (s : State) (k : PageKind) (i resource holder : Nat) : (s.refuseOwned k i resource holder).cq = s.cq := rfl
@[simp] theorem State.refuseOwned_xfer (s : State) (k : PageKind) (i resource holder : Nat) : (s.refuseOwned k i resource holder).xfer = s.xfer := rfl
@[simp] theorem State.refuseOwned_lz (s : State) (k : PageKind) (i resource holder : Nat) : (s.refuseOwned k i resource holder).lz = s.lz := rfl
@[simp] theorem State.refuseOwned_core (s : State) (k : PageKind) (i resource holder : Nat) : (s.refuseOwned k i resource holder).core = s.core := rfl
@[simp] theorem State.refuseOwned_scratch (s : State) (k : PageKind) (i resource holder : Nat) : (s.refuseOwned k i resource holder).scratch = s.scratch := rfl
@[simp] theorem State.refuseOwned_cnt (s : State) (k : PageKind) (i resource holder : Nat) : (s.refuseOwned k i resource holder).cnt = s.cnt := rfl
@[simp] theorem State.refuseOwned_trace (s : State) (k : PageKind) (i resource holder : Nat) : (s.refuseOwned k i resource holder).trace = s.trace := rfl
@[simp] theorem State.refuseOwned_alarm (s : State) (k : PageKind) (i resource holder : Nat) : (s.refuseOwned k i resource holder).alarm = s.alarm := rfl
@[simp] theorem State.refuseOwned_fault (s : State) (k : PageKind) (i resource holder : Nat) : (s.refuseOwned k i resource holder).fault = s.fault := rfl
@[simp] theorem State.refuseOwned_mover (s : State) (k : PageKind) (i resource holder : Nat) : (s.refuseOwned k i resource holder).mover = s.mover := rfl
@[simp] theorem State.refuseOwned_test (s : State) (k : PageKind) (i resource holder : Nat) : (s.refuseOwned k i resource holder).test = s.test := rfl
@[simp] theorem State.refuseOwned_mgmt (s : State) (k : PageKind) (i resource holder : Nat) : (s.refuseOwned k i resource holder).mgmt = s.mgmt := rfl
@[simp] theorem State.refuseOwned_sec (s : State) (k : PageKind) (i resource holder : Nat) : (s.refuseOwned k i resource holder).sec = s.sec := rfl
@[simp] theorem State.refuseOwned_ddr (s : State) (k : PageKind) (i resource holder : Nat) : (s.refuseOwned k i resource holder).ddr = s.ddr := rfl
@[simp] theorem State.refuseOwned_pwr (s : State) (k : PageKind) (i resource holder : Nat) : (s.refuseOwned k i resource holder).pwr = s.pwr := rfl
@[simp] theorem State.refuseOwned_outs (s : State) (k : PageKind) (i resource holder : Nat) : (s.refuseOwned k i resource holder).outs = s.outs := rfl

/-! State.setReg -/

@[simp] theorem State.setReg_pending (s : State) (k : PageKind) (i po : Nat) (v : Word) : (s.setReg k i po v).pending = s.pending := rfl
@[simp] theorem State.setReg_freeCount (s : State) (k : PageKind) (i po : Nat) (v : Word) : (s.setReg k i po v).freeCount = s.freeCount := rfl
@[simp] theorem State.setReg_featAcc (s : State) (k : PageKind) (i po : Nat) (v : Word) : (s.setReg k i po v).featAcc = s.featAcc := rfl
@[simp] theorem State.setReg_featLock (s : State) (k : PageKind) (i po : Nat) (v : Word) : (s.setReg k i po v).featLock = s.featLock := rfl
@[simp] theorem State.setReg_featOk (s : State) (k : PageKind) (i po : Nat) (v : Word) : (s.setReg k i po v).featOk = s.featOk := rfl
@[simp] theorem State.setReg_instDraw (s : State) (k : PageKind) (i po : Nat) (v : Word) : (s.setReg k i po v).instDraw = s.instDraw := rfl
@[simp] theorem State.setReg_pages (s : State) (k : PageKind) (i po : Nat) (v : Word) : (s.setReg k i po v).pages = s.pages := rfl
@[simp] theorem State.setReg_time (s : State) (k : PageKind) (i po : Nat) (v : Word) : (s.setReg k i po v).time = s.time := rfl
@[simp] theorem State.setReg_node (s : State) (k : PageKind) (i po : Nat) (v : Word) : (s.setReg k i po v).node = s.node := rfl
@[simp] theorem State.setReg_slate (s : State) (k : PageKind) (i po : Nat) (v : Word) : (s.setReg k i po v).slate = s.slate := rfl
@[simp] theorem State.setReg_ports (s : State) (k : PageKind) (i po : Nat) (v : Word) : (s.setReg k i po v).ports = s.ports := rfl
@[simp] theorem State.setReg_groups (s : State) (k : PageKind) (i po : Nat) (v : Word) : (s.setReg k i po v).groups = s.groups := rfl
@[simp] theorem State.setReg_stream (s : State) (k : PageKind) (i po : Nat) (v : Word) : (s.setReg k i po v).stream = s.stream := rfl
@[simp] theorem State.setReg_evt (s : State) (k : PageKind) (i po : Nat) (v : Word) : (s.setReg k i po v).evt = s.evt := rfl
@[simp] theorem State.setReg_hubIn (s : State) (k : PageKind) (i po : Nat) (v : Word) : (s.setReg k i po v).hubIn = s.hubIn := rfl
@[simp] theorem State.setReg_mem (s : State) (k : PageKind) (i po : Nat) (v : Word) : (s.setReg k i po v).mem = s.mem := rfl
@[simp] theorem State.setReg_poison (s : State) (k : PageKind) (i po : Nat) (v : Word) : (s.setReg k i po v).poison = s.poison := rfl
@[simp] theorem State.setReg_errs (s : State) (k : PageKind) (i po : Nat) (v : Word) : (s.setReg k i po v).errs = s.errs := rfl
@[simp] theorem State.setReg_resv (s : State) (k : PageKind) (i po : Nat) (v : Word) : (s.setReg k i po v).resv = s.resv := rfl
@[simp] theorem State.setReg_scrubs (s : State) (k : PageKind) (i po : Nat) (v : Word) : (s.setReg k i po v).scrubs = s.scrubs := rfl
@[simp] theorem State.setReg_sq (s : State) (k : PageKind) (i po : Nat) (v : Word) : (s.setReg k i po v).sq = s.sq := rfl
@[simp] theorem State.setReg_cq (s : State) (k : PageKind) (i po : Nat) (v : Word) : (s.setReg k i po v).cq = s.cq := rfl
@[simp] theorem State.setReg_xfer (s : State) (k : PageKind) (i po : Nat) (v : Word) : (s.setReg k i po v).xfer = s.xfer := rfl
@[simp] theorem State.setReg_lz (s : State) (k : PageKind) (i po : Nat) (v : Word) : (s.setReg k i po v).lz = s.lz := rfl
@[simp] theorem State.setReg_core (s : State) (k : PageKind) (i po : Nat) (v : Word) : (s.setReg k i po v).core = s.core := rfl
@[simp] theorem State.setReg_scratch (s : State) (k : PageKind) (i po : Nat) (v : Word) : (s.setReg k i po v).scratch = s.scratch := rfl
@[simp] theorem State.setReg_cnt (s : State) (k : PageKind) (i po : Nat) (v : Word) : (s.setReg k i po v).cnt = s.cnt := rfl
@[simp] theorem State.setReg_trace (s : State) (k : PageKind) (i po : Nat) (v : Word) : (s.setReg k i po v).trace = s.trace := rfl
@[simp] theorem State.setReg_alarm (s : State) (k : PageKind) (i po : Nat) (v : Word) : (s.setReg k i po v).alarm = s.alarm := rfl
@[simp] theorem State.setReg_fault (s : State) (k : PageKind) (i po : Nat) (v : Word) : (s.setReg k i po v).fault = s.fault := rfl
@[simp] theorem State.setReg_mover (s : State) (k : PageKind) (i po : Nat) (v : Word) : (s.setReg k i po v).mover = s.mover := rfl
@[simp] theorem State.setReg_test (s : State) (k : PageKind) (i po : Nat) (v : Word) : (s.setReg k i po v).test = s.test := rfl
@[simp] theorem State.setReg_mgmt (s : State) (k : PageKind) (i po : Nat) (v : Word) : (s.setReg k i po v).mgmt = s.mgmt := rfl
@[simp] theorem State.setReg_sec (s : State) (k : PageKind) (i po : Nat) (v : Word) : (s.setReg k i po v).sec = s.sec := rfl
@[simp] theorem State.setReg_ddr (s : State) (k : PageKind) (i po : Nat) (v : Word) : (s.setReg k i po v).ddr = s.ddr := rfl
@[simp] theorem State.setReg_pwr (s : State) (k : PageKind) (i po : Nat) (v : Word) : (s.setReg k i po v).pwr = s.pwr := rfl
@[simp] theorem State.setReg_outs (s : State) (k : PageKind) (i po : Nat) (v : Word) : (s.setReg k i po v).outs = s.outs := rfl

/-! State.out -/

@[simp] theorem State.out_pending (s : State) (o : Out) : (s.out o).pending = s.pending := rfl
@[simp] theorem State.out_freeCount (s : State) (o : Out) : (s.out o).freeCount = s.freeCount := rfl
@[simp] theorem State.out_featAcc (s : State) (o : Out) : (s.out o).featAcc = s.featAcc := rfl
@[simp] theorem State.out_featLock (s : State) (o : Out) : (s.out o).featLock = s.featLock := rfl
@[simp] theorem State.out_featOk (s : State) (o : Out) : (s.out o).featOk = s.featOk := rfl
@[simp] theorem State.out_instDraw (s : State) (o : Out) : (s.out o).instDraw = s.instDraw := rfl
@[simp] theorem State.out_pages (s : State) (o : Out) : (s.out o).pages = s.pages := rfl
@[simp] theorem State.out_regs (s : State) (o : Out) : (s.out o).regs = s.regs := rfl
@[simp] theorem State.out_time (s : State) (o : Out) : (s.out o).time = s.time := rfl
@[simp] theorem State.out_node (s : State) (o : Out) : (s.out o).node = s.node := rfl
@[simp] theorem State.out_slate (s : State) (o : Out) : (s.out o).slate = s.slate := rfl
@[simp] theorem State.out_ports (s : State) (o : Out) : (s.out o).ports = s.ports := rfl
@[simp] theorem State.out_groups (s : State) (o : Out) : (s.out o).groups = s.groups := rfl
@[simp] theorem State.out_stream (s : State) (o : Out) : (s.out o).stream = s.stream := rfl
@[simp] theorem State.out_evt (s : State) (o : Out) : (s.out o).evt = s.evt := rfl
@[simp] theorem State.out_hubIn (s : State) (o : Out) : (s.out o).hubIn = s.hubIn := rfl
@[simp] theorem State.out_mem (s : State) (o : Out) : (s.out o).mem = s.mem := rfl
@[simp] theorem State.out_poison (s : State) (o : Out) : (s.out o).poison = s.poison := rfl
@[simp] theorem State.out_errs (s : State) (o : Out) : (s.out o).errs = s.errs := rfl
@[simp] theorem State.out_resv (s : State) (o : Out) : (s.out o).resv = s.resv := rfl
@[simp] theorem State.out_scrubs (s : State) (o : Out) : (s.out o).scrubs = s.scrubs := rfl
@[simp] theorem State.out_sq (s : State) (o : Out) : (s.out o).sq = s.sq := rfl
@[simp] theorem State.out_cq (s : State) (o : Out) : (s.out o).cq = s.cq := rfl
@[simp] theorem State.out_xfer (s : State) (o : Out) : (s.out o).xfer = s.xfer := rfl
@[simp] theorem State.out_lz (s : State) (o : Out) : (s.out o).lz = s.lz := rfl
@[simp] theorem State.out_core (s : State) (o : Out) : (s.out o).core = s.core := rfl
@[simp] theorem State.out_scratch (s : State) (o : Out) : (s.out o).scratch = s.scratch := rfl
@[simp] theorem State.out_cnt (s : State) (o : Out) : (s.out o).cnt = s.cnt := rfl
@[simp] theorem State.out_trace (s : State) (o : Out) : (s.out o).trace = s.trace := rfl
@[simp] theorem State.out_alarm (s : State) (o : Out) : (s.out o).alarm = s.alarm := rfl
@[simp] theorem State.out_fault (s : State) (o : Out) : (s.out o).fault = s.fault := rfl
@[simp] theorem State.out_mover (s : State) (o : Out) : (s.out o).mover = s.mover := rfl
@[simp] theorem State.out_test (s : State) (o : Out) : (s.out o).test = s.test := rfl
@[simp] theorem State.out_mgmt (s : State) (o : Out) : (s.out o).mgmt = s.mgmt := rfl
@[simp] theorem State.out_sec (s : State) (o : Out) : (s.out o).sec = s.sec := rfl
@[simp] theorem State.out_ddr (s : State) (o : Out) : (s.out o).ddr = s.ddr := rfl
@[simp] theorem State.out_pwr (s : State) (o : Out) : (s.out o).pwr = s.pwr := rfl

/-! State.atLeast -/

@[simp] theorem State.atLeast_pending (s : State) (w : Nat) : (s.atLeast w).pending = s.pending := rfl
@[simp] theorem State.atLeast_freeCount (s : State) (w : Nat) : (s.atLeast w).freeCount = s.freeCount := rfl
@[simp] theorem State.atLeast_featAcc (s : State) (w : Nat) : (s.atLeast w).featAcc = s.featAcc := rfl
@[simp] theorem State.atLeast_featLock (s : State) (w : Nat) : (s.atLeast w).featLock = s.featLock := rfl
@[simp] theorem State.atLeast_featOk (s : State) (w : Nat) : (s.atLeast w).featOk = s.featOk := rfl
@[simp] theorem State.atLeast_instDraw (s : State) (w : Nat) : (s.atLeast w).instDraw = s.instDraw := rfl
@[simp] theorem State.atLeast_pages (s : State) (w : Nat) : (s.atLeast w).pages = s.pages := rfl
@[simp] theorem State.atLeast_regs (s : State) (w : Nat) : (s.atLeast w).regs = s.regs := rfl
@[simp] theorem State.atLeast_node (s : State) (w : Nat) : (s.atLeast w).node = s.node := rfl
@[simp] theorem State.atLeast_slate (s : State) (w : Nat) : (s.atLeast w).slate = s.slate := rfl
@[simp] theorem State.atLeast_ports (s : State) (w : Nat) : (s.atLeast w).ports = s.ports := rfl
@[simp] theorem State.atLeast_groups (s : State) (w : Nat) : (s.atLeast w).groups = s.groups := rfl
@[simp] theorem State.atLeast_stream (s : State) (w : Nat) : (s.atLeast w).stream = s.stream := rfl
@[simp] theorem State.atLeast_evt (s : State) (w : Nat) : (s.atLeast w).evt = s.evt := rfl
@[simp] theorem State.atLeast_hubIn (s : State) (w : Nat) : (s.atLeast w).hubIn = s.hubIn := rfl
@[simp] theorem State.atLeast_mem (s : State) (w : Nat) : (s.atLeast w).mem = s.mem := rfl
@[simp] theorem State.atLeast_poison (s : State) (w : Nat) : (s.atLeast w).poison = s.poison := rfl
@[simp] theorem State.atLeast_errs (s : State) (w : Nat) : (s.atLeast w).errs = s.errs := rfl
@[simp] theorem State.atLeast_resv (s : State) (w : Nat) : (s.atLeast w).resv = s.resv := rfl
@[simp] theorem State.atLeast_scrubs (s : State) (w : Nat) : (s.atLeast w).scrubs = s.scrubs := rfl
@[simp] theorem State.atLeast_sq (s : State) (w : Nat) : (s.atLeast w).sq = s.sq := rfl
@[simp] theorem State.atLeast_cq (s : State) (w : Nat) : (s.atLeast w).cq = s.cq := rfl
@[simp] theorem State.atLeast_xfer (s : State) (w : Nat) : (s.atLeast w).xfer = s.xfer := rfl
@[simp] theorem State.atLeast_lz (s : State) (w : Nat) : (s.atLeast w).lz = s.lz := rfl
@[simp] theorem State.atLeast_core (s : State) (w : Nat) : (s.atLeast w).core = s.core := rfl
@[simp] theorem State.atLeast_scratch (s : State) (w : Nat) : (s.atLeast w).scratch = s.scratch := rfl
@[simp] theorem State.atLeast_cnt (s : State) (w : Nat) : (s.atLeast w).cnt = s.cnt := rfl
@[simp] theorem State.atLeast_trace (s : State) (w : Nat) : (s.atLeast w).trace = s.trace := rfl
@[simp] theorem State.atLeast_alarm (s : State) (w : Nat) : (s.atLeast w).alarm = s.alarm := rfl
@[simp] theorem State.atLeast_fault (s : State) (w : Nat) : (s.atLeast w).fault = s.fault := rfl
@[simp] theorem State.atLeast_mover (s : State) (w : Nat) : (s.atLeast w).mover = s.mover := rfl
@[simp] theorem State.atLeast_test (s : State) (w : Nat) : (s.atLeast w).test = s.test := rfl
@[simp] theorem State.atLeast_mgmt (s : State) (w : Nat) : (s.atLeast w).mgmt = s.mgmt := rfl
@[simp] theorem State.atLeast_sec (s : State) (w : Nat) : (s.atLeast w).sec = s.sec := rfl
@[simp] theorem State.atLeast_ddr (s : State) (w : Nat) : (s.atLeast w).ddr = s.ddr := rfl
@[simp] theorem State.atLeast_pwr (s : State) (w : Nat) : (s.atLeast w).pwr = s.pwr := rfl
@[simp] theorem State.atLeast_outs (s : State) (w : Nat) : (s.atLeast w).outs = s.outs := rfl

/-! State.modPort -/

@[simp] theorem State.modPort_pending (s : State) (p : Nat) (f : PortSt → PortSt) : (s.modPort p f).pending = s.pending := rfl
@[simp] theorem State.modPort_freeCount (s : State) (p : Nat) (f : PortSt → PortSt) : (s.modPort p f).freeCount = s.freeCount := rfl
@[simp] theorem State.modPort_featAcc (s : State) (p : Nat) (f : PortSt → PortSt) : (s.modPort p f).featAcc = s.featAcc := rfl
@[simp] theorem State.modPort_featLock (s : State) (p : Nat) (f : PortSt → PortSt) : (s.modPort p f).featLock = s.featLock := rfl
@[simp] theorem State.modPort_featOk (s : State) (p : Nat) (f : PortSt → PortSt) : (s.modPort p f).featOk = s.featOk := rfl
@[simp] theorem State.modPort_instDraw (s : State) (p : Nat) (f : PortSt → PortSt) : (s.modPort p f).instDraw = s.instDraw := rfl
@[simp] theorem State.modPort_pages (s : State) (p : Nat) (f : PortSt → PortSt) : (s.modPort p f).pages = s.pages := rfl
@[simp] theorem State.modPort_regs (s : State) (p : Nat) (f : PortSt → PortSt) : (s.modPort p f).regs = s.regs := rfl
@[simp] theorem State.modPort_time (s : State) (p : Nat) (f : PortSt → PortSt) : (s.modPort p f).time = s.time := rfl
@[simp] theorem State.modPort_node (s : State) (p : Nat) (f : PortSt → PortSt) : (s.modPort p f).node = s.node := rfl
@[simp] theorem State.modPort_slate (s : State) (p : Nat) (f : PortSt → PortSt) : (s.modPort p f).slate = s.slate := rfl
@[simp] theorem State.modPort_groups (s : State) (p : Nat) (f : PortSt → PortSt) : (s.modPort p f).groups = s.groups := rfl
@[simp] theorem State.modPort_stream (s : State) (p : Nat) (f : PortSt → PortSt) : (s.modPort p f).stream = s.stream := rfl
@[simp] theorem State.modPort_evt (s : State) (p : Nat) (f : PortSt → PortSt) : (s.modPort p f).evt = s.evt := rfl
@[simp] theorem State.modPort_hubIn (s : State) (p : Nat) (f : PortSt → PortSt) : (s.modPort p f).hubIn = s.hubIn := rfl
@[simp] theorem State.modPort_mem (s : State) (p : Nat) (f : PortSt → PortSt) : (s.modPort p f).mem = s.mem := rfl
@[simp] theorem State.modPort_poison (s : State) (p : Nat) (f : PortSt → PortSt) : (s.modPort p f).poison = s.poison := rfl
@[simp] theorem State.modPort_errs (s : State) (p : Nat) (f : PortSt → PortSt) : (s.modPort p f).errs = s.errs := rfl
@[simp] theorem State.modPort_resv (s : State) (p : Nat) (f : PortSt → PortSt) : (s.modPort p f).resv = s.resv := rfl
@[simp] theorem State.modPort_scrubs (s : State) (p : Nat) (f : PortSt → PortSt) : (s.modPort p f).scrubs = s.scrubs := rfl
@[simp] theorem State.modPort_sq (s : State) (p : Nat) (f : PortSt → PortSt) : (s.modPort p f).sq = s.sq := rfl
@[simp] theorem State.modPort_cq (s : State) (p : Nat) (f : PortSt → PortSt) : (s.modPort p f).cq = s.cq := rfl
@[simp] theorem State.modPort_xfer (s : State) (p : Nat) (f : PortSt → PortSt) : (s.modPort p f).xfer = s.xfer := rfl
@[simp] theorem State.modPort_lz (s : State) (p : Nat) (f : PortSt → PortSt) : (s.modPort p f).lz = s.lz := rfl
@[simp] theorem State.modPort_core (s : State) (p : Nat) (f : PortSt → PortSt) : (s.modPort p f).core = s.core := rfl
@[simp] theorem State.modPort_scratch (s : State) (p : Nat) (f : PortSt → PortSt) : (s.modPort p f).scratch = s.scratch := rfl
@[simp] theorem State.modPort_cnt (s : State) (p : Nat) (f : PortSt → PortSt) : (s.modPort p f).cnt = s.cnt := rfl
@[simp] theorem State.modPort_trace (s : State) (p : Nat) (f : PortSt → PortSt) : (s.modPort p f).trace = s.trace := rfl
@[simp] theorem State.modPort_alarm (s : State) (p : Nat) (f : PortSt → PortSt) : (s.modPort p f).alarm = s.alarm := rfl
@[simp] theorem State.modPort_fault (s : State) (p : Nat) (f : PortSt → PortSt) : (s.modPort p f).fault = s.fault := rfl
@[simp] theorem State.modPort_mover (s : State) (p : Nat) (f : PortSt → PortSt) : (s.modPort p f).mover = s.mover := rfl
@[simp] theorem State.modPort_test (s : State) (p : Nat) (f : PortSt → PortSt) : (s.modPort p f).test = s.test := rfl
@[simp] theorem State.modPort_mgmt (s : State) (p : Nat) (f : PortSt → PortSt) : (s.modPort p f).mgmt = s.mgmt := rfl
@[simp] theorem State.modPort_sec (s : State) (p : Nat) (f : PortSt → PortSt) : (s.modPort p f).sec = s.sec := rfl
@[simp] theorem State.modPort_ddr (s : State) (p : Nat) (f : PortSt → PortSt) : (s.modPort p f).ddr = s.ddr := rfl
@[simp] theorem State.modPort_pwr (s : State) (p : Nat) (f : PortSt → PortSt) : (s.modPort p f).pwr = s.pwr := rfl
@[simp] theorem State.modPort_outs (s : State) (p : Nat) (f : PortSt → PortSt) : (s.modPort p f).outs = s.outs := rfl

/-! State.modLink -/

@[simp] theorem State.modLink_pending (s : State) (p : Nat) (f : LinkSt → LinkSt) : (s.modLink p f).pending = s.pending := rfl
@[simp] theorem State.modLink_freeCount (s : State) (p : Nat) (f : LinkSt → LinkSt) : (s.modLink p f).freeCount = s.freeCount := rfl
@[simp] theorem State.modLink_featAcc (s : State) (p : Nat) (f : LinkSt → LinkSt) : (s.modLink p f).featAcc = s.featAcc := rfl
@[simp] theorem State.modLink_featLock (s : State) (p : Nat) (f : LinkSt → LinkSt) : (s.modLink p f).featLock = s.featLock := rfl
@[simp] theorem State.modLink_featOk (s : State) (p : Nat) (f : LinkSt → LinkSt) : (s.modLink p f).featOk = s.featOk := rfl
@[simp] theorem State.modLink_instDraw (s : State) (p : Nat) (f : LinkSt → LinkSt) : (s.modLink p f).instDraw = s.instDraw := rfl
@[simp] theorem State.modLink_pages (s : State) (p : Nat) (f : LinkSt → LinkSt) : (s.modLink p f).pages = s.pages := rfl
@[simp] theorem State.modLink_regs (s : State) (p : Nat) (f : LinkSt → LinkSt) : (s.modLink p f).regs = s.regs := rfl
@[simp] theorem State.modLink_time (s : State) (p : Nat) (f : LinkSt → LinkSt) : (s.modLink p f).time = s.time := rfl
@[simp] theorem State.modLink_node (s : State) (p : Nat) (f : LinkSt → LinkSt) : (s.modLink p f).node = s.node := rfl
@[simp] theorem State.modLink_slate (s : State) (p : Nat) (f : LinkSt → LinkSt) : (s.modLink p f).slate = s.slate := rfl
@[simp] theorem State.modLink_groups (s : State) (p : Nat) (f : LinkSt → LinkSt) : (s.modLink p f).groups = s.groups := rfl
@[simp] theorem State.modLink_stream (s : State) (p : Nat) (f : LinkSt → LinkSt) : (s.modLink p f).stream = s.stream := rfl
@[simp] theorem State.modLink_evt (s : State) (p : Nat) (f : LinkSt → LinkSt) : (s.modLink p f).evt = s.evt := rfl
@[simp] theorem State.modLink_hubIn (s : State) (p : Nat) (f : LinkSt → LinkSt) : (s.modLink p f).hubIn = s.hubIn := rfl
@[simp] theorem State.modLink_mem (s : State) (p : Nat) (f : LinkSt → LinkSt) : (s.modLink p f).mem = s.mem := rfl
@[simp] theorem State.modLink_poison (s : State) (p : Nat) (f : LinkSt → LinkSt) : (s.modLink p f).poison = s.poison := rfl
@[simp] theorem State.modLink_errs (s : State) (p : Nat) (f : LinkSt → LinkSt) : (s.modLink p f).errs = s.errs := rfl
@[simp] theorem State.modLink_resv (s : State) (p : Nat) (f : LinkSt → LinkSt) : (s.modLink p f).resv = s.resv := rfl
@[simp] theorem State.modLink_scrubs (s : State) (p : Nat) (f : LinkSt → LinkSt) : (s.modLink p f).scrubs = s.scrubs := rfl
@[simp] theorem State.modLink_sq (s : State) (p : Nat) (f : LinkSt → LinkSt) : (s.modLink p f).sq = s.sq := rfl
@[simp] theorem State.modLink_cq (s : State) (p : Nat) (f : LinkSt → LinkSt) : (s.modLink p f).cq = s.cq := rfl
@[simp] theorem State.modLink_xfer (s : State) (p : Nat) (f : LinkSt → LinkSt) : (s.modLink p f).xfer = s.xfer := rfl
@[simp] theorem State.modLink_lz (s : State) (p : Nat) (f : LinkSt → LinkSt) : (s.modLink p f).lz = s.lz := rfl
@[simp] theorem State.modLink_core (s : State) (p : Nat) (f : LinkSt → LinkSt) : (s.modLink p f).core = s.core := rfl
@[simp] theorem State.modLink_scratch (s : State) (p : Nat) (f : LinkSt → LinkSt) : (s.modLink p f).scratch = s.scratch := rfl
@[simp] theorem State.modLink_cnt (s : State) (p : Nat) (f : LinkSt → LinkSt) : (s.modLink p f).cnt = s.cnt := rfl
@[simp] theorem State.modLink_trace (s : State) (p : Nat) (f : LinkSt → LinkSt) : (s.modLink p f).trace = s.trace := rfl
@[simp] theorem State.modLink_alarm (s : State) (p : Nat) (f : LinkSt → LinkSt) : (s.modLink p f).alarm = s.alarm := rfl
@[simp] theorem State.modLink_fault (s : State) (p : Nat) (f : LinkSt → LinkSt) : (s.modLink p f).fault = s.fault := rfl
@[simp] theorem State.modLink_mover (s : State) (p : Nat) (f : LinkSt → LinkSt) : (s.modLink p f).mover = s.mover := rfl
@[simp] theorem State.modLink_test (s : State) (p : Nat) (f : LinkSt → LinkSt) : (s.modLink p f).test = s.test := rfl
@[simp] theorem State.modLink_mgmt (s : State) (p : Nat) (f : LinkSt → LinkSt) : (s.modLink p f).mgmt = s.mgmt := rfl
@[simp] theorem State.modLink_sec (s : State) (p : Nat) (f : LinkSt → LinkSt) : (s.modLink p f).sec = s.sec := rfl
@[simp] theorem State.modLink_ddr (s : State) (p : Nat) (f : LinkSt → LinkSt) : (s.modLink p f).ddr = s.ddr := rfl
@[simp] theorem State.modLink_pwr (s : State) (p : Nat) (f : LinkSt → LinkSt) : (s.modLink p f).pwr = s.pwr := rfl
@[simp] theorem State.modLink_outs (s : State) (p : Nat) (f : LinkSt → LinkSt) : (s.modLink p f).outs = s.outs := rfl

/-! State.writeMem -/

@[simp] theorem State.writeMem_pending (s : State) (a : Nat) (bs : List Byte) : (s.writeMem a bs).pending = s.pending := rfl
@[simp] theorem State.writeMem_freeCount (s : State) (a : Nat) (bs : List Byte) : (s.writeMem a bs).freeCount = s.freeCount := rfl
@[simp] theorem State.writeMem_featAcc (s : State) (a : Nat) (bs : List Byte) : (s.writeMem a bs).featAcc = s.featAcc := rfl
@[simp] theorem State.writeMem_featLock (s : State) (a : Nat) (bs : List Byte) : (s.writeMem a bs).featLock = s.featLock := rfl
@[simp] theorem State.writeMem_featOk (s : State) (a : Nat) (bs : List Byte) : (s.writeMem a bs).featOk = s.featOk := rfl
@[simp] theorem State.writeMem_instDraw (s : State) (a : Nat) (bs : List Byte) : (s.writeMem a bs).instDraw = s.instDraw := rfl
@[simp] theorem State.writeMem_pages (s : State) (a : Nat) (bs : List Byte) : (s.writeMem a bs).pages = s.pages := rfl
@[simp] theorem State.writeMem_regs (s : State) (a : Nat) (bs : List Byte) : (s.writeMem a bs).regs = s.regs := rfl
@[simp] theorem State.writeMem_time (s : State) (a : Nat) (bs : List Byte) : (s.writeMem a bs).time = s.time := rfl
@[simp] theorem State.writeMem_node (s : State) (a : Nat) (bs : List Byte) : (s.writeMem a bs).node = s.node := rfl
@[simp] theorem State.writeMem_slate (s : State) (a : Nat) (bs : List Byte) : (s.writeMem a bs).slate = s.slate := rfl
@[simp] theorem State.writeMem_ports (s : State) (a : Nat) (bs : List Byte) : (s.writeMem a bs).ports = s.ports := rfl
@[simp] theorem State.writeMem_groups (s : State) (a : Nat) (bs : List Byte) : (s.writeMem a bs).groups = s.groups := rfl
@[simp] theorem State.writeMem_stream (s : State) (a : Nat) (bs : List Byte) : (s.writeMem a bs).stream = s.stream := rfl
@[simp] theorem State.writeMem_evt (s : State) (a : Nat) (bs : List Byte) : (s.writeMem a bs).evt = s.evt := rfl
@[simp] theorem State.writeMem_hubIn (s : State) (a : Nat) (bs : List Byte) : (s.writeMem a bs).hubIn = s.hubIn := rfl
@[simp] theorem State.writeMem_scrubs (s : State) (a : Nat) (bs : List Byte) : (s.writeMem a bs).scrubs = s.scrubs := rfl
@[simp] theorem State.writeMem_sq (s : State) (a : Nat) (bs : List Byte) : (s.writeMem a bs).sq = s.sq := rfl
@[simp] theorem State.writeMem_cq (s : State) (a : Nat) (bs : List Byte) : (s.writeMem a bs).cq = s.cq := rfl
@[simp] theorem State.writeMem_xfer (s : State) (a : Nat) (bs : List Byte) : (s.writeMem a bs).xfer = s.xfer := rfl
@[simp] theorem State.writeMem_lz (s : State) (a : Nat) (bs : List Byte) : (s.writeMem a bs).lz = s.lz := rfl
@[simp] theorem State.writeMem_core (s : State) (a : Nat) (bs : List Byte) : (s.writeMem a bs).core = s.core := rfl
@[simp] theorem State.writeMem_scratch (s : State) (a : Nat) (bs : List Byte) : (s.writeMem a bs).scratch = s.scratch := rfl
@[simp] theorem State.writeMem_cnt (s : State) (a : Nat) (bs : List Byte) : (s.writeMem a bs).cnt = s.cnt := rfl
@[simp] theorem State.writeMem_trace (s : State) (a : Nat) (bs : List Byte) : (s.writeMem a bs).trace = s.trace := rfl
@[simp] theorem State.writeMem_alarm (s : State) (a : Nat) (bs : List Byte) : (s.writeMem a bs).alarm = s.alarm := rfl
@[simp] theorem State.writeMem_fault (s : State) (a : Nat) (bs : List Byte) : (s.writeMem a bs).fault = s.fault := rfl
@[simp] theorem State.writeMem_mover (s : State) (a : Nat) (bs : List Byte) : (s.writeMem a bs).mover = s.mover := rfl
@[simp] theorem State.writeMem_test (s : State) (a : Nat) (bs : List Byte) : (s.writeMem a bs).test = s.test := rfl
@[simp] theorem State.writeMem_mgmt (s : State) (a : Nat) (bs : List Byte) : (s.writeMem a bs).mgmt = s.mgmt := rfl
@[simp] theorem State.writeMem_sec (s : State) (a : Nat) (bs : List Byte) : (s.writeMem a bs).sec = s.sec := rfl
@[simp] theorem State.writeMem_ddr (s : State) (a : Nat) (bs : List Byte) : (s.writeMem a bs).ddr = s.ddr := rfl
@[simp] theorem State.writeMem_pwr (s : State) (a : Nat) (bs : List Byte) : (s.writeMem a bs).pwr = s.pwr := rfl
@[simp] theorem State.writeMem_outs (s : State) (a : Nat) (bs : List Byte) : (s.writeMem a bs).outs = s.outs := rfl

/-! State.arise -/

@[simp] theorem State.arise_pending (s : State) (e : EccList) : (s.arise e).pending = s.pending := rfl
@[simp] theorem State.arise_freeCount (s : State) (e : EccList) : (s.arise e).freeCount = s.freeCount := rfl
@[simp] theorem State.arise_featAcc (s : State) (e : EccList) : (s.arise e).featAcc = s.featAcc := rfl
@[simp] theorem State.arise_featLock (s : State) (e : EccList) : (s.arise e).featLock = s.featLock := rfl
@[simp] theorem State.arise_featOk (s : State) (e : EccList) : (s.arise e).featOk = s.featOk := rfl
@[simp] theorem State.arise_instDraw (s : State) (e : EccList) : (s.arise e).instDraw = s.instDraw := rfl
@[simp] theorem State.arise_pages (s : State) (e : EccList) : (s.arise e).pages = s.pages := rfl
@[simp] theorem State.arise_regs (s : State) (e : EccList) : (s.arise e).regs = s.regs := rfl
@[simp] theorem State.arise_time (s : State) (e : EccList) : (s.arise e).time = s.time := rfl
@[simp] theorem State.arise_node (s : State) (e : EccList) : (s.arise e).node = s.node := rfl
@[simp] theorem State.arise_slate (s : State) (e : EccList) : (s.arise e).slate = s.slate := rfl
@[simp] theorem State.arise_ports (s : State) (e : EccList) : (s.arise e).ports = s.ports := rfl
@[simp] theorem State.arise_groups (s : State) (e : EccList) : (s.arise e).groups = s.groups := rfl
@[simp] theorem State.arise_stream (s : State) (e : EccList) : (s.arise e).stream = s.stream := rfl
@[simp] theorem State.arise_evt (s : State) (e : EccList) : (s.arise e).evt = s.evt := rfl
@[simp] theorem State.arise_hubIn (s : State) (e : EccList) : (s.arise e).hubIn = s.hubIn := rfl
@[simp] theorem State.arise_mem (s : State) (e : EccList) : (s.arise e).mem = s.mem := rfl
@[simp] theorem State.arise_poison (s : State) (e : EccList) : (s.arise e).poison = s.poison := rfl
@[simp] theorem State.arise_resv (s : State) (e : EccList) : (s.arise e).resv = s.resv := rfl
@[simp] theorem State.arise_scrubs (s : State) (e : EccList) : (s.arise e).scrubs = s.scrubs := rfl
@[simp] theorem State.arise_sq (s : State) (e : EccList) : (s.arise e).sq = s.sq := rfl
@[simp] theorem State.arise_cq (s : State) (e : EccList) : (s.arise e).cq = s.cq := rfl
@[simp] theorem State.arise_xfer (s : State) (e : EccList) : (s.arise e).xfer = s.xfer := rfl
@[simp] theorem State.arise_lz (s : State) (e : EccList) : (s.arise e).lz = s.lz := rfl
@[simp] theorem State.arise_core (s : State) (e : EccList) : (s.arise e).core = s.core := rfl
@[simp] theorem State.arise_scratch (s : State) (e : EccList) : (s.arise e).scratch = s.scratch := rfl
@[simp] theorem State.arise_cnt (s : State) (e : EccList) : (s.arise e).cnt = s.cnt := rfl
@[simp] theorem State.arise_trace (s : State) (e : EccList) : (s.arise e).trace = s.trace := rfl
@[simp] theorem State.arise_alarm (s : State) (e : EccList) : (s.arise e).alarm = s.alarm := rfl
@[simp] theorem State.arise_fault (s : State) (e : EccList) : (s.arise e).fault = s.fault := rfl
@[simp] theorem State.arise_mover (s : State) (e : EccList) : (s.arise e).mover = s.mover := rfl
@[simp] theorem State.arise_test (s : State) (e : EccList) : (s.arise e).test = s.test := rfl
@[simp] theorem State.arise_mgmt (s : State) (e : EccList) : (s.arise e).mgmt = s.mgmt := rfl
@[simp] theorem State.arise_sec (s : State) (e : EccList) : (s.arise e).sec = s.sec := rfl
@[simp] theorem State.arise_ddr (s : State) (e : EccList) : (s.arise e).ddr = s.ddr := rfl
@[simp] theorem State.arise_pwr (s : State) (e : EccList) : (s.arise e).pwr = s.pwr := rfl
@[simp] theorem State.arise_outs (s : State) (e : EccList) : (s.arise e).outs = s.outs := rfl

/-! State.raise -/

@[simp] theorem State.raise_pending (s : State) (cls source detail : Nat) : (s.raise cls source detail).pending = s.pending := rfl
@[simp] theorem State.raise_freeCount (s : State) (cls source detail : Nat) : (s.raise cls source detail).freeCount = s.freeCount := rfl
@[simp] theorem State.raise_featAcc (s : State) (cls source detail : Nat) : (s.raise cls source detail).featAcc = s.featAcc := rfl
@[simp] theorem State.raise_featLock (s : State) (cls source detail : Nat) : (s.raise cls source detail).featLock = s.featLock := rfl
@[simp] theorem State.raise_featOk (s : State) (cls source detail : Nat) : (s.raise cls source detail).featOk = s.featOk := rfl
@[simp] theorem State.raise_instDraw (s : State) (cls source detail : Nat) : (s.raise cls source detail).instDraw = s.instDraw := rfl
@[simp] theorem State.raise_pages (s : State) (cls source detail : Nat) : (s.raise cls source detail).pages = s.pages := rfl
@[simp] theorem State.raise_regs (s : State) (cls source detail : Nat) : (s.raise cls source detail).regs = s.regs := rfl
@[simp] theorem State.raise_time (s : State) (cls source detail : Nat) : (s.raise cls source detail).time = s.time := rfl
@[simp] theorem State.raise_node (s : State) (cls source detail : Nat) : (s.raise cls source detail).node = s.node := rfl
@[simp] theorem State.raise_slate (s : State) (cls source detail : Nat) : (s.raise cls source detail).slate = s.slate := rfl
@[simp] theorem State.raise_ports (s : State) (cls source detail : Nat) : (s.raise cls source detail).ports = s.ports := rfl
@[simp] theorem State.raise_groups (s : State) (cls source detail : Nat) : (s.raise cls source detail).groups = s.groups := rfl
@[simp] theorem State.raise_stream (s : State) (cls source detail : Nat) : (s.raise cls source detail).stream = s.stream := rfl
@[simp] theorem State.raise_evt (s : State) (cls source detail : Nat) : (s.raise cls source detail).evt = s.evt := rfl
@[simp] theorem State.raise_hubIn (s : State) (cls source detail : Nat) : (s.raise cls source detail).hubIn = s.hubIn := rfl
@[simp] theorem State.raise_mem (s : State) (cls source detail : Nat) : (s.raise cls source detail).mem = s.mem := rfl
@[simp] theorem State.raise_poison (s : State) (cls source detail : Nat) : (s.raise cls source detail).poison = s.poison := rfl
@[simp] theorem State.raise_errs (s : State) (cls source detail : Nat) : (s.raise cls source detail).errs = s.errs := rfl
@[simp] theorem State.raise_resv (s : State) (cls source detail : Nat) : (s.raise cls source detail).resv = s.resv := rfl
@[simp] theorem State.raise_scrubs (s : State) (cls source detail : Nat) : (s.raise cls source detail).scrubs = s.scrubs := rfl
@[simp] theorem State.raise_sq (s : State) (cls source detail : Nat) : (s.raise cls source detail).sq = s.sq := rfl
@[simp] theorem State.raise_cq (s : State) (cls source detail : Nat) : (s.raise cls source detail).cq = s.cq := rfl
@[simp] theorem State.raise_xfer (s : State) (cls source detail : Nat) : (s.raise cls source detail).xfer = s.xfer := rfl
@[simp] theorem State.raise_lz (s : State) (cls source detail : Nat) : (s.raise cls source detail).lz = s.lz := rfl
@[simp] theorem State.raise_core (s : State) (cls source detail : Nat) : (s.raise cls source detail).core = s.core := rfl
@[simp] theorem State.raise_scratch (s : State) (cls source detail : Nat) : (s.raise cls source detail).scratch = s.scratch := rfl
@[simp] theorem State.raise_cnt (s : State) (cls source detail : Nat) : (s.raise cls source detail).cnt = s.cnt := rfl
@[simp] theorem State.raise_trace (s : State) (cls source detail : Nat) : (s.raise cls source detail).trace = s.trace := rfl
@[simp] theorem State.raise_fault (s : State) (cls source detail : Nat) : (s.raise cls source detail).fault = s.fault := rfl
@[simp] theorem State.raise_mover (s : State) (cls source detail : Nat) : (s.raise cls source detail).mover = s.mover := rfl
@[simp] theorem State.raise_test (s : State) (cls source detail : Nat) : (s.raise cls source detail).test = s.test := rfl
@[simp] theorem State.raise_mgmt (s : State) (cls source detail : Nat) : (s.raise cls source detail).mgmt = s.mgmt := rfl
@[simp] theorem State.raise_sec (s : State) (cls source detail : Nat) : (s.raise cls source detail).sec = s.sec := rfl
@[simp] theorem State.raise_ddr (s : State) (cls source detail : Nat) : (s.raise cls source detail).ddr = s.ddr := rfl
@[simp] theorem State.raise_pwr (s : State) (cls source detail : Nat) : (s.raise cls source detail).pwr = s.pwr := rfl
@[simp] theorem State.raise_outs (s : State) (cls source detail : Nat) : (s.raise cls source detail).outs = s.outs := rfl

/-! State.modTime -/

@[simp] theorem State.modTime_pending (s : State) (f : TimeSt → TimeSt) : (s.modTime f).pending = s.pending := rfl
@[simp] theorem State.modTime_freeCount (s : State) (f : TimeSt → TimeSt) : (s.modTime f).freeCount = s.freeCount := rfl
@[simp] theorem State.modTime_featAcc (s : State) (f : TimeSt → TimeSt) : (s.modTime f).featAcc = s.featAcc := rfl
@[simp] theorem State.modTime_featLock (s : State) (f : TimeSt → TimeSt) : (s.modTime f).featLock = s.featLock := rfl
@[simp] theorem State.modTime_featOk (s : State) (f : TimeSt → TimeSt) : (s.modTime f).featOk = s.featOk := rfl
@[simp] theorem State.modTime_instDraw (s : State) (f : TimeSt → TimeSt) : (s.modTime f).instDraw = s.instDraw := rfl
@[simp] theorem State.modTime_pages (s : State) (f : TimeSt → TimeSt) : (s.modTime f).pages = s.pages := rfl
@[simp] theorem State.modTime_regs (s : State) (f : TimeSt → TimeSt) : (s.modTime f).regs = s.regs := rfl
@[simp] theorem State.modTime_node (s : State) (f : TimeSt → TimeSt) : (s.modTime f).node = s.node := rfl
@[simp] theorem State.modTime_slate (s : State) (f : TimeSt → TimeSt) : (s.modTime f).slate = s.slate := rfl
@[simp] theorem State.modTime_ports (s : State) (f : TimeSt → TimeSt) : (s.modTime f).ports = s.ports := rfl
@[simp] theorem State.modTime_groups (s : State) (f : TimeSt → TimeSt) : (s.modTime f).groups = s.groups := rfl
@[simp] theorem State.modTime_stream (s : State) (f : TimeSt → TimeSt) : (s.modTime f).stream = s.stream := rfl
@[simp] theorem State.modTime_evt (s : State) (f : TimeSt → TimeSt) : (s.modTime f).evt = s.evt := rfl
@[simp] theorem State.modTime_hubIn (s : State) (f : TimeSt → TimeSt) : (s.modTime f).hubIn = s.hubIn := rfl
@[simp] theorem State.modTime_mem (s : State) (f : TimeSt → TimeSt) : (s.modTime f).mem = s.mem := rfl
@[simp] theorem State.modTime_poison (s : State) (f : TimeSt → TimeSt) : (s.modTime f).poison = s.poison := rfl
@[simp] theorem State.modTime_errs (s : State) (f : TimeSt → TimeSt) : (s.modTime f).errs = s.errs := rfl
@[simp] theorem State.modTime_resv (s : State) (f : TimeSt → TimeSt) : (s.modTime f).resv = s.resv := rfl
@[simp] theorem State.modTime_scrubs (s : State) (f : TimeSt → TimeSt) : (s.modTime f).scrubs = s.scrubs := rfl
@[simp] theorem State.modTime_sq (s : State) (f : TimeSt → TimeSt) : (s.modTime f).sq = s.sq := rfl
@[simp] theorem State.modTime_cq (s : State) (f : TimeSt → TimeSt) : (s.modTime f).cq = s.cq := rfl
@[simp] theorem State.modTime_xfer (s : State) (f : TimeSt → TimeSt) : (s.modTime f).xfer = s.xfer := rfl
@[simp] theorem State.modTime_lz (s : State) (f : TimeSt → TimeSt) : (s.modTime f).lz = s.lz := rfl
@[simp] theorem State.modTime_core (s : State) (f : TimeSt → TimeSt) : (s.modTime f).core = s.core := rfl
@[simp] theorem State.modTime_scratch (s : State) (f : TimeSt → TimeSt) : (s.modTime f).scratch = s.scratch := rfl
@[simp] theorem State.modTime_cnt (s : State) (f : TimeSt → TimeSt) : (s.modTime f).cnt = s.cnt := rfl
@[simp] theorem State.modTime_trace (s : State) (f : TimeSt → TimeSt) : (s.modTime f).trace = s.trace := rfl
@[simp] theorem State.modTime_alarm (s : State) (f : TimeSt → TimeSt) : (s.modTime f).alarm = s.alarm := rfl
@[simp] theorem State.modTime_fault (s : State) (f : TimeSt → TimeSt) : (s.modTime f).fault = s.fault := rfl
@[simp] theorem State.modTime_mover (s : State) (f : TimeSt → TimeSt) : (s.modTime f).mover = s.mover := rfl
@[simp] theorem State.modTime_test (s : State) (f : TimeSt → TimeSt) : (s.modTime f).test = s.test := rfl
@[simp] theorem State.modTime_mgmt (s : State) (f : TimeSt → TimeSt) : (s.modTime f).mgmt = s.mgmt := rfl
@[simp] theorem State.modTime_sec (s : State) (f : TimeSt → TimeSt) : (s.modTime f).sec = s.sec := rfl
@[simp] theorem State.modTime_ddr (s : State) (f : TimeSt → TimeSt) : (s.modTime f).ddr = s.ddr := rfl
@[simp] theorem State.modTime_pwr (s : State) (f : TimeSt → TimeSt) : (s.modTime f).pwr = s.pwr := rfl
@[simp] theorem State.modTime_outs (s : State) (f : TimeSt → TimeSt) : (s.modTime f).outs = s.outs := rfl

/-! State.modNode -/

@[simp] theorem State.modNode_pending (s : State) (f : NodeSt → NodeSt) : (s.modNode f).pending = s.pending := rfl
@[simp] theorem State.modNode_freeCount (s : State) (f : NodeSt → NodeSt) : (s.modNode f).freeCount = s.freeCount := rfl
@[simp] theorem State.modNode_featAcc (s : State) (f : NodeSt → NodeSt) : (s.modNode f).featAcc = s.featAcc := rfl
@[simp] theorem State.modNode_featLock (s : State) (f : NodeSt → NodeSt) : (s.modNode f).featLock = s.featLock := rfl
@[simp] theorem State.modNode_featOk (s : State) (f : NodeSt → NodeSt) : (s.modNode f).featOk = s.featOk := rfl
@[simp] theorem State.modNode_instDraw (s : State) (f : NodeSt → NodeSt) : (s.modNode f).instDraw = s.instDraw := rfl
@[simp] theorem State.modNode_pages (s : State) (f : NodeSt → NodeSt) : (s.modNode f).pages = s.pages := rfl
@[simp] theorem State.modNode_regs (s : State) (f : NodeSt → NodeSt) : (s.modNode f).regs = s.regs := rfl
@[simp] theorem State.modNode_time (s : State) (f : NodeSt → NodeSt) : (s.modNode f).time = s.time := rfl
@[simp] theorem State.modNode_slate (s : State) (f : NodeSt → NodeSt) : (s.modNode f).slate = s.slate := rfl
@[simp] theorem State.modNode_ports (s : State) (f : NodeSt → NodeSt) : (s.modNode f).ports = s.ports := rfl
@[simp] theorem State.modNode_groups (s : State) (f : NodeSt → NodeSt) : (s.modNode f).groups = s.groups := rfl
@[simp] theorem State.modNode_stream (s : State) (f : NodeSt → NodeSt) : (s.modNode f).stream = s.stream := rfl
@[simp] theorem State.modNode_evt (s : State) (f : NodeSt → NodeSt) : (s.modNode f).evt = s.evt := rfl
@[simp] theorem State.modNode_hubIn (s : State) (f : NodeSt → NodeSt) : (s.modNode f).hubIn = s.hubIn := rfl
@[simp] theorem State.modNode_mem (s : State) (f : NodeSt → NodeSt) : (s.modNode f).mem = s.mem := rfl
@[simp] theorem State.modNode_poison (s : State) (f : NodeSt → NodeSt) : (s.modNode f).poison = s.poison := rfl
@[simp] theorem State.modNode_errs (s : State) (f : NodeSt → NodeSt) : (s.modNode f).errs = s.errs := rfl
@[simp] theorem State.modNode_resv (s : State) (f : NodeSt → NodeSt) : (s.modNode f).resv = s.resv := rfl
@[simp] theorem State.modNode_scrubs (s : State) (f : NodeSt → NodeSt) : (s.modNode f).scrubs = s.scrubs := rfl
@[simp] theorem State.modNode_sq (s : State) (f : NodeSt → NodeSt) : (s.modNode f).sq = s.sq := rfl
@[simp] theorem State.modNode_cq (s : State) (f : NodeSt → NodeSt) : (s.modNode f).cq = s.cq := rfl
@[simp] theorem State.modNode_xfer (s : State) (f : NodeSt → NodeSt) : (s.modNode f).xfer = s.xfer := rfl
@[simp] theorem State.modNode_lz (s : State) (f : NodeSt → NodeSt) : (s.modNode f).lz = s.lz := rfl
@[simp] theorem State.modNode_core (s : State) (f : NodeSt → NodeSt) : (s.modNode f).core = s.core := rfl
@[simp] theorem State.modNode_scratch (s : State) (f : NodeSt → NodeSt) : (s.modNode f).scratch = s.scratch := rfl
@[simp] theorem State.modNode_cnt (s : State) (f : NodeSt → NodeSt) : (s.modNode f).cnt = s.cnt := rfl
@[simp] theorem State.modNode_trace (s : State) (f : NodeSt → NodeSt) : (s.modNode f).trace = s.trace := rfl
@[simp] theorem State.modNode_alarm (s : State) (f : NodeSt → NodeSt) : (s.modNode f).alarm = s.alarm := rfl
@[simp] theorem State.modNode_fault (s : State) (f : NodeSt → NodeSt) : (s.modNode f).fault = s.fault := rfl
@[simp] theorem State.modNode_mover (s : State) (f : NodeSt → NodeSt) : (s.modNode f).mover = s.mover := rfl
@[simp] theorem State.modNode_test (s : State) (f : NodeSt → NodeSt) : (s.modNode f).test = s.test := rfl
@[simp] theorem State.modNode_mgmt (s : State) (f : NodeSt → NodeSt) : (s.modNode f).mgmt = s.mgmt := rfl
@[simp] theorem State.modNode_sec (s : State) (f : NodeSt → NodeSt) : (s.modNode f).sec = s.sec := rfl
@[simp] theorem State.modNode_ddr (s : State) (f : NodeSt → NodeSt) : (s.modNode f).ddr = s.ddr := rfl
@[simp] theorem State.modNode_pwr (s : State) (f : NodeSt → NodeSt) : (s.modNode f).pwr = s.pwr := rfl
@[simp] theorem State.modNode_outs (s : State) (f : NodeSt → NodeSt) : (s.modNode f).outs = s.outs := rfl

/-! State.modSlate -/

@[simp] theorem State.modSlate_pending (s : State) (f : SlateSt → SlateSt) : (s.modSlate f).pending = s.pending := rfl
@[simp] theorem State.modSlate_freeCount (s : State) (f : SlateSt → SlateSt) : (s.modSlate f).freeCount = s.freeCount := rfl
@[simp] theorem State.modSlate_featAcc (s : State) (f : SlateSt → SlateSt) : (s.modSlate f).featAcc = s.featAcc := rfl
@[simp] theorem State.modSlate_featLock (s : State) (f : SlateSt → SlateSt) : (s.modSlate f).featLock = s.featLock := rfl
@[simp] theorem State.modSlate_featOk (s : State) (f : SlateSt → SlateSt) : (s.modSlate f).featOk = s.featOk := rfl
@[simp] theorem State.modSlate_instDraw (s : State) (f : SlateSt → SlateSt) : (s.modSlate f).instDraw = s.instDraw := rfl
@[simp] theorem State.modSlate_pages (s : State) (f : SlateSt → SlateSt) : (s.modSlate f).pages = s.pages := rfl
@[simp] theorem State.modSlate_regs (s : State) (f : SlateSt → SlateSt) : (s.modSlate f).regs = s.regs := rfl
@[simp] theorem State.modSlate_time (s : State) (f : SlateSt → SlateSt) : (s.modSlate f).time = s.time := rfl
@[simp] theorem State.modSlate_node (s : State) (f : SlateSt → SlateSt) : (s.modSlate f).node = s.node := rfl
@[simp] theorem State.modSlate_ports (s : State) (f : SlateSt → SlateSt) : (s.modSlate f).ports = s.ports := rfl
@[simp] theorem State.modSlate_groups (s : State) (f : SlateSt → SlateSt) : (s.modSlate f).groups = s.groups := rfl
@[simp] theorem State.modSlate_stream (s : State) (f : SlateSt → SlateSt) : (s.modSlate f).stream = s.stream := rfl
@[simp] theorem State.modSlate_evt (s : State) (f : SlateSt → SlateSt) : (s.modSlate f).evt = s.evt := rfl
@[simp] theorem State.modSlate_hubIn (s : State) (f : SlateSt → SlateSt) : (s.modSlate f).hubIn = s.hubIn := rfl
@[simp] theorem State.modSlate_mem (s : State) (f : SlateSt → SlateSt) : (s.modSlate f).mem = s.mem := rfl
@[simp] theorem State.modSlate_poison (s : State) (f : SlateSt → SlateSt) : (s.modSlate f).poison = s.poison := rfl
@[simp] theorem State.modSlate_errs (s : State) (f : SlateSt → SlateSt) : (s.modSlate f).errs = s.errs := rfl
@[simp] theorem State.modSlate_resv (s : State) (f : SlateSt → SlateSt) : (s.modSlate f).resv = s.resv := rfl
@[simp] theorem State.modSlate_scrubs (s : State) (f : SlateSt → SlateSt) : (s.modSlate f).scrubs = s.scrubs := rfl
@[simp] theorem State.modSlate_sq (s : State) (f : SlateSt → SlateSt) : (s.modSlate f).sq = s.sq := rfl
@[simp] theorem State.modSlate_cq (s : State) (f : SlateSt → SlateSt) : (s.modSlate f).cq = s.cq := rfl
@[simp] theorem State.modSlate_xfer (s : State) (f : SlateSt → SlateSt) : (s.modSlate f).xfer = s.xfer := rfl
@[simp] theorem State.modSlate_lz (s : State) (f : SlateSt → SlateSt) : (s.modSlate f).lz = s.lz := rfl
@[simp] theorem State.modSlate_core (s : State) (f : SlateSt → SlateSt) : (s.modSlate f).core = s.core := rfl
@[simp] theorem State.modSlate_scratch (s : State) (f : SlateSt → SlateSt) : (s.modSlate f).scratch = s.scratch := rfl
@[simp] theorem State.modSlate_cnt (s : State) (f : SlateSt → SlateSt) : (s.modSlate f).cnt = s.cnt := rfl
@[simp] theorem State.modSlate_trace (s : State) (f : SlateSt → SlateSt) : (s.modSlate f).trace = s.trace := rfl
@[simp] theorem State.modSlate_alarm (s : State) (f : SlateSt → SlateSt) : (s.modSlate f).alarm = s.alarm := rfl
@[simp] theorem State.modSlate_fault (s : State) (f : SlateSt → SlateSt) : (s.modSlate f).fault = s.fault := rfl
@[simp] theorem State.modSlate_mover (s : State) (f : SlateSt → SlateSt) : (s.modSlate f).mover = s.mover := rfl
@[simp] theorem State.modSlate_test (s : State) (f : SlateSt → SlateSt) : (s.modSlate f).test = s.test := rfl
@[simp] theorem State.modSlate_mgmt (s : State) (f : SlateSt → SlateSt) : (s.modSlate f).mgmt = s.mgmt := rfl
@[simp] theorem State.modSlate_sec (s : State) (f : SlateSt → SlateSt) : (s.modSlate f).sec = s.sec := rfl
@[simp] theorem State.modSlate_ddr (s : State) (f : SlateSt → SlateSt) : (s.modSlate f).ddr = s.ddr := rfl
@[simp] theorem State.modSlate_pwr (s : State) (f : SlateSt → SlateSt) : (s.modSlate f).pwr = s.pwr := rfl
@[simp] theorem State.modSlate_outs (s : State) (f : SlateSt → SlateSt) : (s.modSlate f).outs = s.outs := rfl

/-! State.modTrace -/

@[simp] theorem State.modTrace_pending (s : State) (f : TraceSt → TraceSt) : (s.modTrace f).pending = s.pending := rfl
@[simp] theorem State.modTrace_freeCount (s : State) (f : TraceSt → TraceSt) : (s.modTrace f).freeCount = s.freeCount := rfl
@[simp] theorem State.modTrace_featAcc (s : State) (f : TraceSt → TraceSt) : (s.modTrace f).featAcc = s.featAcc := rfl
@[simp] theorem State.modTrace_featLock (s : State) (f : TraceSt → TraceSt) : (s.modTrace f).featLock = s.featLock := rfl
@[simp] theorem State.modTrace_featOk (s : State) (f : TraceSt → TraceSt) : (s.modTrace f).featOk = s.featOk := rfl
@[simp] theorem State.modTrace_instDraw (s : State) (f : TraceSt → TraceSt) : (s.modTrace f).instDraw = s.instDraw := rfl
@[simp] theorem State.modTrace_pages (s : State) (f : TraceSt → TraceSt) : (s.modTrace f).pages = s.pages := rfl
@[simp] theorem State.modTrace_regs (s : State) (f : TraceSt → TraceSt) : (s.modTrace f).regs = s.regs := rfl
@[simp] theorem State.modTrace_time (s : State) (f : TraceSt → TraceSt) : (s.modTrace f).time = s.time := rfl
@[simp] theorem State.modTrace_node (s : State) (f : TraceSt → TraceSt) : (s.modTrace f).node = s.node := rfl
@[simp] theorem State.modTrace_slate (s : State) (f : TraceSt → TraceSt) : (s.modTrace f).slate = s.slate := rfl
@[simp] theorem State.modTrace_ports (s : State) (f : TraceSt → TraceSt) : (s.modTrace f).ports = s.ports := rfl
@[simp] theorem State.modTrace_groups (s : State) (f : TraceSt → TraceSt) : (s.modTrace f).groups = s.groups := rfl
@[simp] theorem State.modTrace_stream (s : State) (f : TraceSt → TraceSt) : (s.modTrace f).stream = s.stream := rfl
@[simp] theorem State.modTrace_evt (s : State) (f : TraceSt → TraceSt) : (s.modTrace f).evt = s.evt := rfl
@[simp] theorem State.modTrace_hubIn (s : State) (f : TraceSt → TraceSt) : (s.modTrace f).hubIn = s.hubIn := rfl
@[simp] theorem State.modTrace_mem (s : State) (f : TraceSt → TraceSt) : (s.modTrace f).mem = s.mem := rfl
@[simp] theorem State.modTrace_poison (s : State) (f : TraceSt → TraceSt) : (s.modTrace f).poison = s.poison := rfl
@[simp] theorem State.modTrace_errs (s : State) (f : TraceSt → TraceSt) : (s.modTrace f).errs = s.errs := rfl
@[simp] theorem State.modTrace_resv (s : State) (f : TraceSt → TraceSt) : (s.modTrace f).resv = s.resv := rfl
@[simp] theorem State.modTrace_scrubs (s : State) (f : TraceSt → TraceSt) : (s.modTrace f).scrubs = s.scrubs := rfl
@[simp] theorem State.modTrace_sq (s : State) (f : TraceSt → TraceSt) : (s.modTrace f).sq = s.sq := rfl
@[simp] theorem State.modTrace_cq (s : State) (f : TraceSt → TraceSt) : (s.modTrace f).cq = s.cq := rfl
@[simp] theorem State.modTrace_xfer (s : State) (f : TraceSt → TraceSt) : (s.modTrace f).xfer = s.xfer := rfl
@[simp] theorem State.modTrace_lz (s : State) (f : TraceSt → TraceSt) : (s.modTrace f).lz = s.lz := rfl
@[simp] theorem State.modTrace_core (s : State) (f : TraceSt → TraceSt) : (s.modTrace f).core = s.core := rfl
@[simp] theorem State.modTrace_scratch (s : State) (f : TraceSt → TraceSt) : (s.modTrace f).scratch = s.scratch := rfl
@[simp] theorem State.modTrace_cnt (s : State) (f : TraceSt → TraceSt) : (s.modTrace f).cnt = s.cnt := rfl
@[simp] theorem State.modTrace_alarm (s : State) (f : TraceSt → TraceSt) : (s.modTrace f).alarm = s.alarm := rfl
@[simp] theorem State.modTrace_fault (s : State) (f : TraceSt → TraceSt) : (s.modTrace f).fault = s.fault := rfl
@[simp] theorem State.modTrace_mover (s : State) (f : TraceSt → TraceSt) : (s.modTrace f).mover = s.mover := rfl
@[simp] theorem State.modTrace_test (s : State) (f : TraceSt → TraceSt) : (s.modTrace f).test = s.test := rfl
@[simp] theorem State.modTrace_mgmt (s : State) (f : TraceSt → TraceSt) : (s.modTrace f).mgmt = s.mgmt := rfl
@[simp] theorem State.modTrace_sec (s : State) (f : TraceSt → TraceSt) : (s.modTrace f).sec = s.sec := rfl
@[simp] theorem State.modTrace_ddr (s : State) (f : TraceSt → TraceSt) : (s.modTrace f).ddr = s.ddr := rfl
@[simp] theorem State.modTrace_pwr (s : State) (f : TraceSt → TraceSt) : (s.modTrace f).pwr = s.pwr := rfl
@[simp] theorem State.modTrace_outs (s : State) (f : TraceSt → TraceSt) : (s.modTrace f).outs = s.outs := rfl

/-! State.modAlarm -/

@[simp] theorem State.modAlarm_pending (s : State) (f : AlarmSt → AlarmSt) : (s.modAlarm f).pending = s.pending := rfl
@[simp] theorem State.modAlarm_freeCount (s : State) (f : AlarmSt → AlarmSt) : (s.modAlarm f).freeCount = s.freeCount := rfl
@[simp] theorem State.modAlarm_featAcc (s : State) (f : AlarmSt → AlarmSt) : (s.modAlarm f).featAcc = s.featAcc := rfl
@[simp] theorem State.modAlarm_featLock (s : State) (f : AlarmSt → AlarmSt) : (s.modAlarm f).featLock = s.featLock := rfl
@[simp] theorem State.modAlarm_featOk (s : State) (f : AlarmSt → AlarmSt) : (s.modAlarm f).featOk = s.featOk := rfl
@[simp] theorem State.modAlarm_instDraw (s : State) (f : AlarmSt → AlarmSt) : (s.modAlarm f).instDraw = s.instDraw := rfl
@[simp] theorem State.modAlarm_pages (s : State) (f : AlarmSt → AlarmSt) : (s.modAlarm f).pages = s.pages := rfl
@[simp] theorem State.modAlarm_regs (s : State) (f : AlarmSt → AlarmSt) : (s.modAlarm f).regs = s.regs := rfl
@[simp] theorem State.modAlarm_time (s : State) (f : AlarmSt → AlarmSt) : (s.modAlarm f).time = s.time := rfl
@[simp] theorem State.modAlarm_node (s : State) (f : AlarmSt → AlarmSt) : (s.modAlarm f).node = s.node := rfl
@[simp] theorem State.modAlarm_slate (s : State) (f : AlarmSt → AlarmSt) : (s.modAlarm f).slate = s.slate := rfl
@[simp] theorem State.modAlarm_ports (s : State) (f : AlarmSt → AlarmSt) : (s.modAlarm f).ports = s.ports := rfl
@[simp] theorem State.modAlarm_groups (s : State) (f : AlarmSt → AlarmSt) : (s.modAlarm f).groups = s.groups := rfl
@[simp] theorem State.modAlarm_stream (s : State) (f : AlarmSt → AlarmSt) : (s.modAlarm f).stream = s.stream := rfl
@[simp] theorem State.modAlarm_evt (s : State) (f : AlarmSt → AlarmSt) : (s.modAlarm f).evt = s.evt := rfl
@[simp] theorem State.modAlarm_hubIn (s : State) (f : AlarmSt → AlarmSt) : (s.modAlarm f).hubIn = s.hubIn := rfl
@[simp] theorem State.modAlarm_mem (s : State) (f : AlarmSt → AlarmSt) : (s.modAlarm f).mem = s.mem := rfl
@[simp] theorem State.modAlarm_poison (s : State) (f : AlarmSt → AlarmSt) : (s.modAlarm f).poison = s.poison := rfl
@[simp] theorem State.modAlarm_errs (s : State) (f : AlarmSt → AlarmSt) : (s.modAlarm f).errs = s.errs := rfl
@[simp] theorem State.modAlarm_resv (s : State) (f : AlarmSt → AlarmSt) : (s.modAlarm f).resv = s.resv := rfl
@[simp] theorem State.modAlarm_scrubs (s : State) (f : AlarmSt → AlarmSt) : (s.modAlarm f).scrubs = s.scrubs := rfl
@[simp] theorem State.modAlarm_sq (s : State) (f : AlarmSt → AlarmSt) : (s.modAlarm f).sq = s.sq := rfl
@[simp] theorem State.modAlarm_cq (s : State) (f : AlarmSt → AlarmSt) : (s.modAlarm f).cq = s.cq := rfl
@[simp] theorem State.modAlarm_xfer (s : State) (f : AlarmSt → AlarmSt) : (s.modAlarm f).xfer = s.xfer := rfl
@[simp] theorem State.modAlarm_lz (s : State) (f : AlarmSt → AlarmSt) : (s.modAlarm f).lz = s.lz := rfl
@[simp] theorem State.modAlarm_core (s : State) (f : AlarmSt → AlarmSt) : (s.modAlarm f).core = s.core := rfl
@[simp] theorem State.modAlarm_scratch (s : State) (f : AlarmSt → AlarmSt) : (s.modAlarm f).scratch = s.scratch := rfl
@[simp] theorem State.modAlarm_cnt (s : State) (f : AlarmSt → AlarmSt) : (s.modAlarm f).cnt = s.cnt := rfl
@[simp] theorem State.modAlarm_trace (s : State) (f : AlarmSt → AlarmSt) : (s.modAlarm f).trace = s.trace := rfl
@[simp] theorem State.modAlarm_fault (s : State) (f : AlarmSt → AlarmSt) : (s.modAlarm f).fault = s.fault := rfl
@[simp] theorem State.modAlarm_mover (s : State) (f : AlarmSt → AlarmSt) : (s.modAlarm f).mover = s.mover := rfl
@[simp] theorem State.modAlarm_test (s : State) (f : AlarmSt → AlarmSt) : (s.modAlarm f).test = s.test := rfl
@[simp] theorem State.modAlarm_mgmt (s : State) (f : AlarmSt → AlarmSt) : (s.modAlarm f).mgmt = s.mgmt := rfl
@[simp] theorem State.modAlarm_sec (s : State) (f : AlarmSt → AlarmSt) : (s.modAlarm f).sec = s.sec := rfl
@[simp] theorem State.modAlarm_ddr (s : State) (f : AlarmSt → AlarmSt) : (s.modAlarm f).ddr = s.ddr := rfl
@[simp] theorem State.modAlarm_pwr (s : State) (f : AlarmSt → AlarmSt) : (s.modAlarm f).pwr = s.pwr := rfl
@[simp] theorem State.modAlarm_outs (s : State) (f : AlarmSt → AlarmSt) : (s.modAlarm f).outs = s.outs := rfl

/-! State.modFault -/

@[simp] theorem State.modFault_pending (s : State) (f : FaultSt → FaultSt) : (s.modFault f).pending = s.pending := rfl
@[simp] theorem State.modFault_freeCount (s : State) (f : FaultSt → FaultSt) : (s.modFault f).freeCount = s.freeCount := rfl
@[simp] theorem State.modFault_featAcc (s : State) (f : FaultSt → FaultSt) : (s.modFault f).featAcc = s.featAcc := rfl
@[simp] theorem State.modFault_featLock (s : State) (f : FaultSt → FaultSt) : (s.modFault f).featLock = s.featLock := rfl
@[simp] theorem State.modFault_featOk (s : State) (f : FaultSt → FaultSt) : (s.modFault f).featOk = s.featOk := rfl
@[simp] theorem State.modFault_instDraw (s : State) (f : FaultSt → FaultSt) : (s.modFault f).instDraw = s.instDraw := rfl
@[simp] theorem State.modFault_pages (s : State) (f : FaultSt → FaultSt) : (s.modFault f).pages = s.pages := rfl
@[simp] theorem State.modFault_regs (s : State) (f : FaultSt → FaultSt) : (s.modFault f).regs = s.regs := rfl
@[simp] theorem State.modFault_time (s : State) (f : FaultSt → FaultSt) : (s.modFault f).time = s.time := rfl
@[simp] theorem State.modFault_node (s : State) (f : FaultSt → FaultSt) : (s.modFault f).node = s.node := rfl
@[simp] theorem State.modFault_slate (s : State) (f : FaultSt → FaultSt) : (s.modFault f).slate = s.slate := rfl
@[simp] theorem State.modFault_ports (s : State) (f : FaultSt → FaultSt) : (s.modFault f).ports = s.ports := rfl
@[simp] theorem State.modFault_groups (s : State) (f : FaultSt → FaultSt) : (s.modFault f).groups = s.groups := rfl
@[simp] theorem State.modFault_stream (s : State) (f : FaultSt → FaultSt) : (s.modFault f).stream = s.stream := rfl
@[simp] theorem State.modFault_evt (s : State) (f : FaultSt → FaultSt) : (s.modFault f).evt = s.evt := rfl
@[simp] theorem State.modFault_hubIn (s : State) (f : FaultSt → FaultSt) : (s.modFault f).hubIn = s.hubIn := rfl
@[simp] theorem State.modFault_mem (s : State) (f : FaultSt → FaultSt) : (s.modFault f).mem = s.mem := rfl
@[simp] theorem State.modFault_poison (s : State) (f : FaultSt → FaultSt) : (s.modFault f).poison = s.poison := rfl
@[simp] theorem State.modFault_errs (s : State) (f : FaultSt → FaultSt) : (s.modFault f).errs = s.errs := rfl
@[simp] theorem State.modFault_resv (s : State) (f : FaultSt → FaultSt) : (s.modFault f).resv = s.resv := rfl
@[simp] theorem State.modFault_scrubs (s : State) (f : FaultSt → FaultSt) : (s.modFault f).scrubs = s.scrubs := rfl
@[simp] theorem State.modFault_sq (s : State) (f : FaultSt → FaultSt) : (s.modFault f).sq = s.sq := rfl
@[simp] theorem State.modFault_cq (s : State) (f : FaultSt → FaultSt) : (s.modFault f).cq = s.cq := rfl
@[simp] theorem State.modFault_xfer (s : State) (f : FaultSt → FaultSt) : (s.modFault f).xfer = s.xfer := rfl
@[simp] theorem State.modFault_lz (s : State) (f : FaultSt → FaultSt) : (s.modFault f).lz = s.lz := rfl
@[simp] theorem State.modFault_core (s : State) (f : FaultSt → FaultSt) : (s.modFault f).core = s.core := rfl
@[simp] theorem State.modFault_scratch (s : State) (f : FaultSt → FaultSt) : (s.modFault f).scratch = s.scratch := rfl
@[simp] theorem State.modFault_cnt (s : State) (f : FaultSt → FaultSt) : (s.modFault f).cnt = s.cnt := rfl
@[simp] theorem State.modFault_trace (s : State) (f : FaultSt → FaultSt) : (s.modFault f).trace = s.trace := rfl
@[simp] theorem State.modFault_alarm (s : State) (f : FaultSt → FaultSt) : (s.modFault f).alarm = s.alarm := rfl
@[simp] theorem State.modFault_mover (s : State) (f : FaultSt → FaultSt) : (s.modFault f).mover = s.mover := rfl
@[simp] theorem State.modFault_test (s : State) (f : FaultSt → FaultSt) : (s.modFault f).test = s.test := rfl
@[simp] theorem State.modFault_mgmt (s : State) (f : FaultSt → FaultSt) : (s.modFault f).mgmt = s.mgmt := rfl
@[simp] theorem State.modFault_sec (s : State) (f : FaultSt → FaultSt) : (s.modFault f).sec = s.sec := rfl
@[simp] theorem State.modFault_ddr (s : State) (f : FaultSt → FaultSt) : (s.modFault f).ddr = s.ddr := rfl
@[simp] theorem State.modFault_pwr (s : State) (f : FaultSt → FaultSt) : (s.modFault f).pwr = s.pwr := rfl
@[simp] theorem State.modFault_outs (s : State) (f : FaultSt → FaultSt) : (s.modFault f).outs = s.outs := rfl

/-! State.modPwr -/

@[simp] theorem State.modPwr_pending (s : State) (f : PwrSt → PwrSt) : (s.modPwr f).pending = s.pending := rfl
@[simp] theorem State.modPwr_freeCount (s : State) (f : PwrSt → PwrSt) : (s.modPwr f).freeCount = s.freeCount := rfl
@[simp] theorem State.modPwr_featAcc (s : State) (f : PwrSt → PwrSt) : (s.modPwr f).featAcc = s.featAcc := rfl
@[simp] theorem State.modPwr_featLock (s : State) (f : PwrSt → PwrSt) : (s.modPwr f).featLock = s.featLock := rfl
@[simp] theorem State.modPwr_featOk (s : State) (f : PwrSt → PwrSt) : (s.modPwr f).featOk = s.featOk := rfl
@[simp] theorem State.modPwr_instDraw (s : State) (f : PwrSt → PwrSt) : (s.modPwr f).instDraw = s.instDraw := rfl
@[simp] theorem State.modPwr_pages (s : State) (f : PwrSt → PwrSt) : (s.modPwr f).pages = s.pages := rfl
@[simp] theorem State.modPwr_regs (s : State) (f : PwrSt → PwrSt) : (s.modPwr f).regs = s.regs := rfl
@[simp] theorem State.modPwr_time (s : State) (f : PwrSt → PwrSt) : (s.modPwr f).time = s.time := rfl
@[simp] theorem State.modPwr_node (s : State) (f : PwrSt → PwrSt) : (s.modPwr f).node = s.node := rfl
@[simp] theorem State.modPwr_slate (s : State) (f : PwrSt → PwrSt) : (s.modPwr f).slate = s.slate := rfl
@[simp] theorem State.modPwr_ports (s : State) (f : PwrSt → PwrSt) : (s.modPwr f).ports = s.ports := rfl
@[simp] theorem State.modPwr_groups (s : State) (f : PwrSt → PwrSt) : (s.modPwr f).groups = s.groups := rfl
@[simp] theorem State.modPwr_stream (s : State) (f : PwrSt → PwrSt) : (s.modPwr f).stream = s.stream := rfl
@[simp] theorem State.modPwr_evt (s : State) (f : PwrSt → PwrSt) : (s.modPwr f).evt = s.evt := rfl
@[simp] theorem State.modPwr_hubIn (s : State) (f : PwrSt → PwrSt) : (s.modPwr f).hubIn = s.hubIn := rfl
@[simp] theorem State.modPwr_mem (s : State) (f : PwrSt → PwrSt) : (s.modPwr f).mem = s.mem := rfl
@[simp] theorem State.modPwr_poison (s : State) (f : PwrSt → PwrSt) : (s.modPwr f).poison = s.poison := rfl
@[simp] theorem State.modPwr_errs (s : State) (f : PwrSt → PwrSt) : (s.modPwr f).errs = s.errs := rfl
@[simp] theorem State.modPwr_resv (s : State) (f : PwrSt → PwrSt) : (s.modPwr f).resv = s.resv := rfl
@[simp] theorem State.modPwr_scrubs (s : State) (f : PwrSt → PwrSt) : (s.modPwr f).scrubs = s.scrubs := rfl
@[simp] theorem State.modPwr_sq (s : State) (f : PwrSt → PwrSt) : (s.modPwr f).sq = s.sq := rfl
@[simp] theorem State.modPwr_cq (s : State) (f : PwrSt → PwrSt) : (s.modPwr f).cq = s.cq := rfl
@[simp] theorem State.modPwr_xfer (s : State) (f : PwrSt → PwrSt) : (s.modPwr f).xfer = s.xfer := rfl
@[simp] theorem State.modPwr_lz (s : State) (f : PwrSt → PwrSt) : (s.modPwr f).lz = s.lz := rfl
@[simp] theorem State.modPwr_core (s : State) (f : PwrSt → PwrSt) : (s.modPwr f).core = s.core := rfl
@[simp] theorem State.modPwr_scratch (s : State) (f : PwrSt → PwrSt) : (s.modPwr f).scratch = s.scratch := rfl
@[simp] theorem State.modPwr_cnt (s : State) (f : PwrSt → PwrSt) : (s.modPwr f).cnt = s.cnt := rfl
@[simp] theorem State.modPwr_trace (s : State) (f : PwrSt → PwrSt) : (s.modPwr f).trace = s.trace := rfl
@[simp] theorem State.modPwr_alarm (s : State) (f : PwrSt → PwrSt) : (s.modPwr f).alarm = s.alarm := rfl
@[simp] theorem State.modPwr_fault (s : State) (f : PwrSt → PwrSt) : (s.modPwr f).fault = s.fault := rfl
@[simp] theorem State.modPwr_mover (s : State) (f : PwrSt → PwrSt) : (s.modPwr f).mover = s.mover := rfl
@[simp] theorem State.modPwr_test (s : State) (f : PwrSt → PwrSt) : (s.modPwr f).test = s.test := rfl
@[simp] theorem State.modPwr_mgmt (s : State) (f : PwrSt → PwrSt) : (s.modPwr f).mgmt = s.mgmt := rfl
@[simp] theorem State.modPwr_sec (s : State) (f : PwrSt → PwrSt) : (s.modPwr f).sec = s.sec := rfl
@[simp] theorem State.modPwr_ddr (s : State) (f : PwrSt → PwrSt) : (s.modPwr f).ddr = s.ddr := rfl
@[simp] theorem State.modPwr_outs (s : State) (f : PwrSt → PwrSt) : (s.modPwr f).outs = s.outs := rfl

/-! State.modSec -/

@[simp] theorem State.modSec_pending (s : State) (f : SecSt → SecSt) : (s.modSec f).pending = s.pending := rfl
@[simp] theorem State.modSec_freeCount (s : State) (f : SecSt → SecSt) : (s.modSec f).freeCount = s.freeCount := rfl
@[simp] theorem State.modSec_featAcc (s : State) (f : SecSt → SecSt) : (s.modSec f).featAcc = s.featAcc := rfl
@[simp] theorem State.modSec_featLock (s : State) (f : SecSt → SecSt) : (s.modSec f).featLock = s.featLock := rfl
@[simp] theorem State.modSec_featOk (s : State) (f : SecSt → SecSt) : (s.modSec f).featOk = s.featOk := rfl
@[simp] theorem State.modSec_instDraw (s : State) (f : SecSt → SecSt) : (s.modSec f).instDraw = s.instDraw := rfl
@[simp] theorem State.modSec_pages (s : State) (f : SecSt → SecSt) : (s.modSec f).pages = s.pages := rfl
@[simp] theorem State.modSec_regs (s : State) (f : SecSt → SecSt) : (s.modSec f).regs = s.regs := rfl
@[simp] theorem State.modSec_time (s : State) (f : SecSt → SecSt) : (s.modSec f).time = s.time := rfl
@[simp] theorem State.modSec_node (s : State) (f : SecSt → SecSt) : (s.modSec f).node = s.node := rfl
@[simp] theorem State.modSec_slate (s : State) (f : SecSt → SecSt) : (s.modSec f).slate = s.slate := rfl
@[simp] theorem State.modSec_ports (s : State) (f : SecSt → SecSt) : (s.modSec f).ports = s.ports := rfl
@[simp] theorem State.modSec_groups (s : State) (f : SecSt → SecSt) : (s.modSec f).groups = s.groups := rfl
@[simp] theorem State.modSec_stream (s : State) (f : SecSt → SecSt) : (s.modSec f).stream = s.stream := rfl
@[simp] theorem State.modSec_evt (s : State) (f : SecSt → SecSt) : (s.modSec f).evt = s.evt := rfl
@[simp] theorem State.modSec_hubIn (s : State) (f : SecSt → SecSt) : (s.modSec f).hubIn = s.hubIn := rfl
@[simp] theorem State.modSec_mem (s : State) (f : SecSt → SecSt) : (s.modSec f).mem = s.mem := rfl
@[simp] theorem State.modSec_poison (s : State) (f : SecSt → SecSt) : (s.modSec f).poison = s.poison := rfl
@[simp] theorem State.modSec_errs (s : State) (f : SecSt → SecSt) : (s.modSec f).errs = s.errs := rfl
@[simp] theorem State.modSec_resv (s : State) (f : SecSt → SecSt) : (s.modSec f).resv = s.resv := rfl
@[simp] theorem State.modSec_scrubs (s : State) (f : SecSt → SecSt) : (s.modSec f).scrubs = s.scrubs := rfl
@[simp] theorem State.modSec_sq (s : State) (f : SecSt → SecSt) : (s.modSec f).sq = s.sq := rfl
@[simp] theorem State.modSec_cq (s : State) (f : SecSt → SecSt) : (s.modSec f).cq = s.cq := rfl
@[simp] theorem State.modSec_xfer (s : State) (f : SecSt → SecSt) : (s.modSec f).xfer = s.xfer := rfl
@[simp] theorem State.modSec_lz (s : State) (f : SecSt → SecSt) : (s.modSec f).lz = s.lz := rfl
@[simp] theorem State.modSec_core (s : State) (f : SecSt → SecSt) : (s.modSec f).core = s.core := rfl
@[simp] theorem State.modSec_scratch (s : State) (f : SecSt → SecSt) : (s.modSec f).scratch = s.scratch := rfl
@[simp] theorem State.modSec_cnt (s : State) (f : SecSt → SecSt) : (s.modSec f).cnt = s.cnt := rfl
@[simp] theorem State.modSec_trace (s : State) (f : SecSt → SecSt) : (s.modSec f).trace = s.trace := rfl
@[simp] theorem State.modSec_alarm (s : State) (f : SecSt → SecSt) : (s.modSec f).alarm = s.alarm := rfl
@[simp] theorem State.modSec_fault (s : State) (f : SecSt → SecSt) : (s.modSec f).fault = s.fault := rfl
@[simp] theorem State.modSec_mover (s : State) (f : SecSt → SecSt) : (s.modSec f).mover = s.mover := rfl
@[simp] theorem State.modSec_test (s : State) (f : SecSt → SecSt) : (s.modSec f).test = s.test := rfl
@[simp] theorem State.modSec_mgmt (s : State) (f : SecSt → SecSt) : (s.modSec f).mgmt = s.mgmt := rfl
@[simp] theorem State.modSec_ddr (s : State) (f : SecSt → SecSt) : (s.modSec f).ddr = s.ddr := rfl
@[simp] theorem State.modSec_pwr (s : State) (f : SecSt → SecSt) : (s.modSec f).pwr = s.pwr := rfl
@[simp] theorem State.modSec_outs (s : State) (f : SecSt → SecSt) : (s.modSec f).outs = s.outs := rfl

/-! State.modMgmt -/

@[simp] theorem State.modMgmt_pending (s : State) (f : MgmtSt → MgmtSt) : (s.modMgmt f).pending = s.pending := rfl
@[simp] theorem State.modMgmt_freeCount (s : State) (f : MgmtSt → MgmtSt) : (s.modMgmt f).freeCount = s.freeCount := rfl
@[simp] theorem State.modMgmt_featAcc (s : State) (f : MgmtSt → MgmtSt) : (s.modMgmt f).featAcc = s.featAcc := rfl
@[simp] theorem State.modMgmt_featLock (s : State) (f : MgmtSt → MgmtSt) : (s.modMgmt f).featLock = s.featLock := rfl
@[simp] theorem State.modMgmt_featOk (s : State) (f : MgmtSt → MgmtSt) : (s.modMgmt f).featOk = s.featOk := rfl
@[simp] theorem State.modMgmt_instDraw (s : State) (f : MgmtSt → MgmtSt) : (s.modMgmt f).instDraw = s.instDraw := rfl
@[simp] theorem State.modMgmt_pages (s : State) (f : MgmtSt → MgmtSt) : (s.modMgmt f).pages = s.pages := rfl
@[simp] theorem State.modMgmt_regs (s : State) (f : MgmtSt → MgmtSt) : (s.modMgmt f).regs = s.regs := rfl
@[simp] theorem State.modMgmt_time (s : State) (f : MgmtSt → MgmtSt) : (s.modMgmt f).time = s.time := rfl
@[simp] theorem State.modMgmt_node (s : State) (f : MgmtSt → MgmtSt) : (s.modMgmt f).node = s.node := rfl
@[simp] theorem State.modMgmt_slate (s : State) (f : MgmtSt → MgmtSt) : (s.modMgmt f).slate = s.slate := rfl
@[simp] theorem State.modMgmt_ports (s : State) (f : MgmtSt → MgmtSt) : (s.modMgmt f).ports = s.ports := rfl
@[simp] theorem State.modMgmt_groups (s : State) (f : MgmtSt → MgmtSt) : (s.modMgmt f).groups = s.groups := rfl
@[simp] theorem State.modMgmt_stream (s : State) (f : MgmtSt → MgmtSt) : (s.modMgmt f).stream = s.stream := rfl
@[simp] theorem State.modMgmt_evt (s : State) (f : MgmtSt → MgmtSt) : (s.modMgmt f).evt = s.evt := rfl
@[simp] theorem State.modMgmt_hubIn (s : State) (f : MgmtSt → MgmtSt) : (s.modMgmt f).hubIn = s.hubIn := rfl
@[simp] theorem State.modMgmt_mem (s : State) (f : MgmtSt → MgmtSt) : (s.modMgmt f).mem = s.mem := rfl
@[simp] theorem State.modMgmt_poison (s : State) (f : MgmtSt → MgmtSt) : (s.modMgmt f).poison = s.poison := rfl
@[simp] theorem State.modMgmt_errs (s : State) (f : MgmtSt → MgmtSt) : (s.modMgmt f).errs = s.errs := rfl
@[simp] theorem State.modMgmt_resv (s : State) (f : MgmtSt → MgmtSt) : (s.modMgmt f).resv = s.resv := rfl
@[simp] theorem State.modMgmt_scrubs (s : State) (f : MgmtSt → MgmtSt) : (s.modMgmt f).scrubs = s.scrubs := rfl
@[simp] theorem State.modMgmt_sq (s : State) (f : MgmtSt → MgmtSt) : (s.modMgmt f).sq = s.sq := rfl
@[simp] theorem State.modMgmt_cq (s : State) (f : MgmtSt → MgmtSt) : (s.modMgmt f).cq = s.cq := rfl
@[simp] theorem State.modMgmt_xfer (s : State) (f : MgmtSt → MgmtSt) : (s.modMgmt f).xfer = s.xfer := rfl
@[simp] theorem State.modMgmt_lz (s : State) (f : MgmtSt → MgmtSt) : (s.modMgmt f).lz = s.lz := rfl
@[simp] theorem State.modMgmt_core (s : State) (f : MgmtSt → MgmtSt) : (s.modMgmt f).core = s.core := rfl
@[simp] theorem State.modMgmt_scratch (s : State) (f : MgmtSt → MgmtSt) : (s.modMgmt f).scratch = s.scratch := rfl
@[simp] theorem State.modMgmt_cnt (s : State) (f : MgmtSt → MgmtSt) : (s.modMgmt f).cnt = s.cnt := rfl
@[simp] theorem State.modMgmt_trace (s : State) (f : MgmtSt → MgmtSt) : (s.modMgmt f).trace = s.trace := rfl
@[simp] theorem State.modMgmt_alarm (s : State) (f : MgmtSt → MgmtSt) : (s.modMgmt f).alarm = s.alarm := rfl
@[simp] theorem State.modMgmt_fault (s : State) (f : MgmtSt → MgmtSt) : (s.modMgmt f).fault = s.fault := rfl
@[simp] theorem State.modMgmt_mover (s : State) (f : MgmtSt → MgmtSt) : (s.modMgmt f).mover = s.mover := rfl
@[simp] theorem State.modMgmt_test (s : State) (f : MgmtSt → MgmtSt) : (s.modMgmt f).test = s.test := rfl
@[simp] theorem State.modMgmt_sec (s : State) (f : MgmtSt → MgmtSt) : (s.modMgmt f).sec = s.sec := rfl
@[simp] theorem State.modMgmt_ddr (s : State) (f : MgmtSt → MgmtSt) : (s.modMgmt f).ddr = s.ddr := rfl
@[simp] theorem State.modMgmt_pwr (s : State) (f : MgmtSt → MgmtSt) : (s.modMgmt f).pwr = s.pwr := rfl
@[simp] theorem State.modMgmt_outs (s : State) (f : MgmtSt → MgmtSt) : (s.modMgmt f).outs = s.outs := rfl

/-! State.modCnt -/

@[simp] theorem State.modCnt_pending (s : State) (f : CntSt → CntSt) : (s.modCnt f).pending = s.pending := rfl
@[simp] theorem State.modCnt_freeCount (s : State) (f : CntSt → CntSt) : (s.modCnt f).freeCount = s.freeCount := rfl
@[simp] theorem State.modCnt_featAcc (s : State) (f : CntSt → CntSt) : (s.modCnt f).featAcc = s.featAcc := rfl
@[simp] theorem State.modCnt_featLock (s : State) (f : CntSt → CntSt) : (s.modCnt f).featLock = s.featLock := rfl
@[simp] theorem State.modCnt_featOk (s : State) (f : CntSt → CntSt) : (s.modCnt f).featOk = s.featOk := rfl
@[simp] theorem State.modCnt_instDraw (s : State) (f : CntSt → CntSt) : (s.modCnt f).instDraw = s.instDraw := rfl
@[simp] theorem State.modCnt_pages (s : State) (f : CntSt → CntSt) : (s.modCnt f).pages = s.pages := rfl
@[simp] theorem State.modCnt_regs (s : State) (f : CntSt → CntSt) : (s.modCnt f).regs = s.regs := rfl
@[simp] theorem State.modCnt_time (s : State) (f : CntSt → CntSt) : (s.modCnt f).time = s.time := rfl
@[simp] theorem State.modCnt_node (s : State) (f : CntSt → CntSt) : (s.modCnt f).node = s.node := rfl
@[simp] theorem State.modCnt_slate (s : State) (f : CntSt → CntSt) : (s.modCnt f).slate = s.slate := rfl
@[simp] theorem State.modCnt_ports (s : State) (f : CntSt → CntSt) : (s.modCnt f).ports = s.ports := rfl
@[simp] theorem State.modCnt_groups (s : State) (f : CntSt → CntSt) : (s.modCnt f).groups = s.groups := rfl
@[simp] theorem State.modCnt_stream (s : State) (f : CntSt → CntSt) : (s.modCnt f).stream = s.stream := rfl
@[simp] theorem State.modCnt_evt (s : State) (f : CntSt → CntSt) : (s.modCnt f).evt = s.evt := rfl
@[simp] theorem State.modCnt_hubIn (s : State) (f : CntSt → CntSt) : (s.modCnt f).hubIn = s.hubIn := rfl
@[simp] theorem State.modCnt_mem (s : State) (f : CntSt → CntSt) : (s.modCnt f).mem = s.mem := rfl
@[simp] theorem State.modCnt_poison (s : State) (f : CntSt → CntSt) : (s.modCnt f).poison = s.poison := rfl
@[simp] theorem State.modCnt_errs (s : State) (f : CntSt → CntSt) : (s.modCnt f).errs = s.errs := rfl
@[simp] theorem State.modCnt_resv (s : State) (f : CntSt → CntSt) : (s.modCnt f).resv = s.resv := rfl
@[simp] theorem State.modCnt_scrubs (s : State) (f : CntSt → CntSt) : (s.modCnt f).scrubs = s.scrubs := rfl
@[simp] theorem State.modCnt_sq (s : State) (f : CntSt → CntSt) : (s.modCnt f).sq = s.sq := rfl
@[simp] theorem State.modCnt_cq (s : State) (f : CntSt → CntSt) : (s.modCnt f).cq = s.cq := rfl
@[simp] theorem State.modCnt_xfer (s : State) (f : CntSt → CntSt) : (s.modCnt f).xfer = s.xfer := rfl
@[simp] theorem State.modCnt_lz (s : State) (f : CntSt → CntSt) : (s.modCnt f).lz = s.lz := rfl
@[simp] theorem State.modCnt_core (s : State) (f : CntSt → CntSt) : (s.modCnt f).core = s.core := rfl
@[simp] theorem State.modCnt_scratch (s : State) (f : CntSt → CntSt) : (s.modCnt f).scratch = s.scratch := rfl
@[simp] theorem State.modCnt_trace (s : State) (f : CntSt → CntSt) : (s.modCnt f).trace = s.trace := rfl
@[simp] theorem State.modCnt_alarm (s : State) (f : CntSt → CntSt) : (s.modCnt f).alarm = s.alarm := rfl
@[simp] theorem State.modCnt_fault (s : State) (f : CntSt → CntSt) : (s.modCnt f).fault = s.fault := rfl
@[simp] theorem State.modCnt_mover (s : State) (f : CntSt → CntSt) : (s.modCnt f).mover = s.mover := rfl
@[simp] theorem State.modCnt_test (s : State) (f : CntSt → CntSt) : (s.modCnt f).test = s.test := rfl
@[simp] theorem State.modCnt_mgmt (s : State) (f : CntSt → CntSt) : (s.modCnt f).mgmt = s.mgmt := rfl
@[simp] theorem State.modCnt_sec (s : State) (f : CntSt → CntSt) : (s.modCnt f).sec = s.sec := rfl
@[simp] theorem State.modCnt_ddr (s : State) (f : CntSt → CntSt) : (s.modCnt f).ddr = s.ddr := rfl
@[simp] theorem State.modCnt_pwr (s : State) (f : CntSt → CntSt) : (s.modCnt f).pwr = s.pwr := rfl
@[simp] theorem State.modCnt_outs (s : State) (f : CntSt → CntSt) : (s.modCnt f).outs = s.outs := rfl

/-! State.modRing -/

@[simp] theorem State.modRing_pending (s : State) (c : Nat) (f : CqSt → CqSt) : (s.modRing c f).pending = s.pending := rfl
@[simp] theorem State.modRing_freeCount (s : State) (c : Nat) (f : CqSt → CqSt) : (s.modRing c f).freeCount = s.freeCount := rfl
@[simp] theorem State.modRing_featAcc (s : State) (c : Nat) (f : CqSt → CqSt) : (s.modRing c f).featAcc = s.featAcc := rfl
@[simp] theorem State.modRing_featLock (s : State) (c : Nat) (f : CqSt → CqSt) : (s.modRing c f).featLock = s.featLock := rfl
@[simp] theorem State.modRing_featOk (s : State) (c : Nat) (f : CqSt → CqSt) : (s.modRing c f).featOk = s.featOk := rfl
@[simp] theorem State.modRing_instDraw (s : State) (c : Nat) (f : CqSt → CqSt) : (s.modRing c f).instDraw = s.instDraw := rfl
@[simp] theorem State.modRing_pages (s : State) (c : Nat) (f : CqSt → CqSt) : (s.modRing c f).pages = s.pages := rfl
@[simp] theorem State.modRing_regs (s : State) (c : Nat) (f : CqSt → CqSt) : (s.modRing c f).regs = s.regs := rfl
@[simp] theorem State.modRing_time (s : State) (c : Nat) (f : CqSt → CqSt) : (s.modRing c f).time = s.time := rfl
@[simp] theorem State.modRing_node (s : State) (c : Nat) (f : CqSt → CqSt) : (s.modRing c f).node = s.node := rfl
@[simp] theorem State.modRing_slate (s : State) (c : Nat) (f : CqSt → CqSt) : (s.modRing c f).slate = s.slate := rfl
@[simp] theorem State.modRing_ports (s : State) (c : Nat) (f : CqSt → CqSt) : (s.modRing c f).ports = s.ports := rfl
@[simp] theorem State.modRing_groups (s : State) (c : Nat) (f : CqSt → CqSt) : (s.modRing c f).groups = s.groups := rfl
@[simp] theorem State.modRing_stream (s : State) (c : Nat) (f : CqSt → CqSt) : (s.modRing c f).stream = s.stream := rfl
@[simp] theorem State.modRing_evt (s : State) (c : Nat) (f : CqSt → CqSt) : (s.modRing c f).evt = s.evt := rfl
@[simp] theorem State.modRing_hubIn (s : State) (c : Nat) (f : CqSt → CqSt) : (s.modRing c f).hubIn = s.hubIn := rfl
@[simp] theorem State.modRing_mem (s : State) (c : Nat) (f : CqSt → CqSt) : (s.modRing c f).mem = s.mem := rfl
@[simp] theorem State.modRing_poison (s : State) (c : Nat) (f : CqSt → CqSt) : (s.modRing c f).poison = s.poison := rfl
@[simp] theorem State.modRing_errs (s : State) (c : Nat) (f : CqSt → CqSt) : (s.modRing c f).errs = s.errs := rfl
@[simp] theorem State.modRing_resv (s : State) (c : Nat) (f : CqSt → CqSt) : (s.modRing c f).resv = s.resv := rfl
@[simp] theorem State.modRing_scrubs (s : State) (c : Nat) (f : CqSt → CqSt) : (s.modRing c f).scrubs = s.scrubs := rfl
@[simp] theorem State.modRing_sq (s : State) (c : Nat) (f : CqSt → CqSt) : (s.modRing c f).sq = s.sq := rfl
@[simp] theorem State.modRing_xfer (s : State) (c : Nat) (f : CqSt → CqSt) : (s.modRing c f).xfer = s.xfer := rfl
@[simp] theorem State.modRing_lz (s : State) (c : Nat) (f : CqSt → CqSt) : (s.modRing c f).lz = s.lz := rfl
@[simp] theorem State.modRing_core (s : State) (c : Nat) (f : CqSt → CqSt) : (s.modRing c f).core = s.core := rfl
@[simp] theorem State.modRing_scratch (s : State) (c : Nat) (f : CqSt → CqSt) : (s.modRing c f).scratch = s.scratch := rfl
@[simp] theorem State.modRing_cnt (s : State) (c : Nat) (f : CqSt → CqSt) : (s.modRing c f).cnt = s.cnt := rfl
@[simp] theorem State.modRing_trace (s : State) (c : Nat) (f : CqSt → CqSt) : (s.modRing c f).trace = s.trace := rfl
@[simp] theorem State.modRing_alarm (s : State) (c : Nat) (f : CqSt → CqSt) : (s.modRing c f).alarm = s.alarm := rfl
@[simp] theorem State.modRing_fault (s : State) (c : Nat) (f : CqSt → CqSt) : (s.modRing c f).fault = s.fault := rfl
@[simp] theorem State.modRing_mover (s : State) (c : Nat) (f : CqSt → CqSt) : (s.modRing c f).mover = s.mover := rfl
@[simp] theorem State.modRing_test (s : State) (c : Nat) (f : CqSt → CqSt) : (s.modRing c f).test = s.test := rfl
@[simp] theorem State.modRing_mgmt (s : State) (c : Nat) (f : CqSt → CqSt) : (s.modRing c f).mgmt = s.mgmt := rfl
@[simp] theorem State.modRing_sec (s : State) (c : Nat) (f : CqSt → CqSt) : (s.modRing c f).sec = s.sec := rfl
@[simp] theorem State.modRing_ddr (s : State) (c : Nat) (f : CqSt → CqSt) : (s.modRing c f).ddr = s.ddr := rfl
@[simp] theorem State.modRing_pwr (s : State) (c : Nat) (f : CqSt → CqSt) : (s.modRing c f).pwr = s.pwr := rfl
@[simp] theorem State.modRing_outs (s : State) (c : Nat) (f : CqSt → CqSt) : (s.modRing c f).outs = s.outs := rfl

/-! State.modQueue -/

@[simp] theorem State.modQueue_pending (s : State) (q : Nat) (f : SqSt → SqSt) : (s.modQueue q f).pending = s.pending := rfl
@[simp] theorem State.modQueue_freeCount (s : State) (q : Nat) (f : SqSt → SqSt) : (s.modQueue q f).freeCount = s.freeCount := rfl
@[simp] theorem State.modQueue_featAcc (s : State) (q : Nat) (f : SqSt → SqSt) : (s.modQueue q f).featAcc = s.featAcc := rfl
@[simp] theorem State.modQueue_featLock (s : State) (q : Nat) (f : SqSt → SqSt) : (s.modQueue q f).featLock = s.featLock := rfl
@[simp] theorem State.modQueue_featOk (s : State) (q : Nat) (f : SqSt → SqSt) : (s.modQueue q f).featOk = s.featOk := rfl
@[simp] theorem State.modQueue_instDraw (s : State) (q : Nat) (f : SqSt → SqSt) : (s.modQueue q f).instDraw = s.instDraw := rfl
@[simp] theorem State.modQueue_pages (s : State) (q : Nat) (f : SqSt → SqSt) : (s.modQueue q f).pages = s.pages := rfl
@[simp] theorem State.modQueue_regs (s : State) (q : Nat) (f : SqSt → SqSt) : (s.modQueue q f).regs = s.regs := rfl
@[simp] theorem State.modQueue_time (s : State) (q : Nat) (f : SqSt → SqSt) : (s.modQueue q f).time = s.time := rfl
@[simp] theorem State.modQueue_node (s : State) (q : Nat) (f : SqSt → SqSt) : (s.modQueue q f).node = s.node := rfl
@[simp] theorem State.modQueue_slate (s : State) (q : Nat) (f : SqSt → SqSt) : (s.modQueue q f).slate = s.slate := rfl
@[simp] theorem State.modQueue_ports (s : State) (q : Nat) (f : SqSt → SqSt) : (s.modQueue q f).ports = s.ports := rfl
@[simp] theorem State.modQueue_groups (s : State) (q : Nat) (f : SqSt → SqSt) : (s.modQueue q f).groups = s.groups := rfl
@[simp] theorem State.modQueue_stream (s : State) (q : Nat) (f : SqSt → SqSt) : (s.modQueue q f).stream = s.stream := rfl
@[simp] theorem State.modQueue_evt (s : State) (q : Nat) (f : SqSt → SqSt) : (s.modQueue q f).evt = s.evt := rfl
@[simp] theorem State.modQueue_hubIn (s : State) (q : Nat) (f : SqSt → SqSt) : (s.modQueue q f).hubIn = s.hubIn := rfl
@[simp] theorem State.modQueue_mem (s : State) (q : Nat) (f : SqSt → SqSt) : (s.modQueue q f).mem = s.mem := rfl
@[simp] theorem State.modQueue_poison (s : State) (q : Nat) (f : SqSt → SqSt) : (s.modQueue q f).poison = s.poison := rfl
@[simp] theorem State.modQueue_errs (s : State) (q : Nat) (f : SqSt → SqSt) : (s.modQueue q f).errs = s.errs := rfl
@[simp] theorem State.modQueue_resv (s : State) (q : Nat) (f : SqSt → SqSt) : (s.modQueue q f).resv = s.resv := rfl
@[simp] theorem State.modQueue_scrubs (s : State) (q : Nat) (f : SqSt → SqSt) : (s.modQueue q f).scrubs = s.scrubs := rfl
@[simp] theorem State.modQueue_cq (s : State) (q : Nat) (f : SqSt → SqSt) : (s.modQueue q f).cq = s.cq := rfl
@[simp] theorem State.modQueue_xfer (s : State) (q : Nat) (f : SqSt → SqSt) : (s.modQueue q f).xfer = s.xfer := rfl
@[simp] theorem State.modQueue_lz (s : State) (q : Nat) (f : SqSt → SqSt) : (s.modQueue q f).lz = s.lz := rfl
@[simp] theorem State.modQueue_core (s : State) (q : Nat) (f : SqSt → SqSt) : (s.modQueue q f).core = s.core := rfl
@[simp] theorem State.modQueue_scratch (s : State) (q : Nat) (f : SqSt → SqSt) : (s.modQueue q f).scratch = s.scratch := rfl
@[simp] theorem State.modQueue_cnt (s : State) (q : Nat) (f : SqSt → SqSt) : (s.modQueue q f).cnt = s.cnt := rfl
@[simp] theorem State.modQueue_trace (s : State) (q : Nat) (f : SqSt → SqSt) : (s.modQueue q f).trace = s.trace := rfl
@[simp] theorem State.modQueue_alarm (s : State) (q : Nat) (f : SqSt → SqSt) : (s.modQueue q f).alarm = s.alarm := rfl
@[simp] theorem State.modQueue_fault (s : State) (q : Nat) (f : SqSt → SqSt) : (s.modQueue q f).fault = s.fault := rfl
@[simp] theorem State.modQueue_mover (s : State) (q : Nat) (f : SqSt → SqSt) : (s.modQueue q f).mover = s.mover := rfl
@[simp] theorem State.modQueue_test (s : State) (q : Nat) (f : SqSt → SqSt) : (s.modQueue q f).test = s.test := rfl
@[simp] theorem State.modQueue_mgmt (s : State) (q : Nat) (f : SqSt → SqSt) : (s.modQueue q f).mgmt = s.mgmt := rfl
@[simp] theorem State.modQueue_sec (s : State) (q : Nat) (f : SqSt → SqSt) : (s.modQueue q f).sec = s.sec := rfl
@[simp] theorem State.modQueue_ddr (s : State) (q : Nat) (f : SqSt → SqSt) : (s.modQueue q f).ddr = s.ddr := rfl
@[simp] theorem State.modQueue_pwr (s : State) (q : Nat) (f : SqSt → SqSt) : (s.modQueue q f).pwr = s.pwr := rfl
@[simp] theorem State.modQueue_outs (s : State) (q : Nat) (f : SqSt → SqSt) : (s.modQueue q f).outs = s.outs := rfl

/-! State.modZone -/

@[simp] theorem State.modZone_pending (s : State) (z : Nat) (f : ZoneSt → ZoneSt) : (s.modZone z f).pending = s.pending := rfl
@[simp] theorem State.modZone_freeCount (s : State) (z : Nat) (f : ZoneSt → ZoneSt) : (s.modZone z f).freeCount = s.freeCount := rfl
@[simp] theorem State.modZone_featAcc (s : State) (z : Nat) (f : ZoneSt → ZoneSt) : (s.modZone z f).featAcc = s.featAcc := rfl
@[simp] theorem State.modZone_featLock (s : State) (z : Nat) (f : ZoneSt → ZoneSt) : (s.modZone z f).featLock = s.featLock := rfl
@[simp] theorem State.modZone_featOk (s : State) (z : Nat) (f : ZoneSt → ZoneSt) : (s.modZone z f).featOk = s.featOk := rfl
@[simp] theorem State.modZone_instDraw (s : State) (z : Nat) (f : ZoneSt → ZoneSt) : (s.modZone z f).instDraw = s.instDraw := rfl
@[simp] theorem State.modZone_pages (s : State) (z : Nat) (f : ZoneSt → ZoneSt) : (s.modZone z f).pages = s.pages := rfl
@[simp] theorem State.modZone_regs (s : State) (z : Nat) (f : ZoneSt → ZoneSt) : (s.modZone z f).regs = s.regs := rfl
@[simp] theorem State.modZone_time (s : State) (z : Nat) (f : ZoneSt → ZoneSt) : (s.modZone z f).time = s.time := rfl
@[simp] theorem State.modZone_node (s : State) (z : Nat) (f : ZoneSt → ZoneSt) : (s.modZone z f).node = s.node := rfl
@[simp] theorem State.modZone_slate (s : State) (z : Nat) (f : ZoneSt → ZoneSt) : (s.modZone z f).slate = s.slate := rfl
@[simp] theorem State.modZone_ports (s : State) (z : Nat) (f : ZoneSt → ZoneSt) : (s.modZone z f).ports = s.ports := rfl
@[simp] theorem State.modZone_groups (s : State) (z : Nat) (f : ZoneSt → ZoneSt) : (s.modZone z f).groups = s.groups := rfl
@[simp] theorem State.modZone_stream (s : State) (z : Nat) (f : ZoneSt → ZoneSt) : (s.modZone z f).stream = s.stream := rfl
@[simp] theorem State.modZone_evt (s : State) (z : Nat) (f : ZoneSt → ZoneSt) : (s.modZone z f).evt = s.evt := rfl
@[simp] theorem State.modZone_hubIn (s : State) (z : Nat) (f : ZoneSt → ZoneSt) : (s.modZone z f).hubIn = s.hubIn := rfl
@[simp] theorem State.modZone_mem (s : State) (z : Nat) (f : ZoneSt → ZoneSt) : (s.modZone z f).mem = s.mem := rfl
@[simp] theorem State.modZone_poison (s : State) (z : Nat) (f : ZoneSt → ZoneSt) : (s.modZone z f).poison = s.poison := rfl
@[simp] theorem State.modZone_errs (s : State) (z : Nat) (f : ZoneSt → ZoneSt) : (s.modZone z f).errs = s.errs := rfl
@[simp] theorem State.modZone_resv (s : State) (z : Nat) (f : ZoneSt → ZoneSt) : (s.modZone z f).resv = s.resv := rfl
@[simp] theorem State.modZone_scrubs (s : State) (z : Nat) (f : ZoneSt → ZoneSt) : (s.modZone z f).scrubs = s.scrubs := rfl
@[simp] theorem State.modZone_sq (s : State) (z : Nat) (f : ZoneSt → ZoneSt) : (s.modZone z f).sq = s.sq := rfl
@[simp] theorem State.modZone_cq (s : State) (z : Nat) (f : ZoneSt → ZoneSt) : (s.modZone z f).cq = s.cq := rfl
@[simp] theorem State.modZone_xfer (s : State) (z : Nat) (f : ZoneSt → ZoneSt) : (s.modZone z f).xfer = s.xfer := rfl
@[simp] theorem State.modZone_core (s : State) (z : Nat) (f : ZoneSt → ZoneSt) : (s.modZone z f).core = s.core := rfl
@[simp] theorem State.modZone_scratch (s : State) (z : Nat) (f : ZoneSt → ZoneSt) : (s.modZone z f).scratch = s.scratch := rfl
@[simp] theorem State.modZone_cnt (s : State) (z : Nat) (f : ZoneSt → ZoneSt) : (s.modZone z f).cnt = s.cnt := rfl
@[simp] theorem State.modZone_trace (s : State) (z : Nat) (f : ZoneSt → ZoneSt) : (s.modZone z f).trace = s.trace := rfl
@[simp] theorem State.modZone_alarm (s : State) (z : Nat) (f : ZoneSt → ZoneSt) : (s.modZone z f).alarm = s.alarm := rfl
@[simp] theorem State.modZone_fault (s : State) (z : Nat) (f : ZoneSt → ZoneSt) : (s.modZone z f).fault = s.fault := rfl
@[simp] theorem State.modZone_mover (s : State) (z : Nat) (f : ZoneSt → ZoneSt) : (s.modZone z f).mover = s.mover := rfl
@[simp] theorem State.modZone_test (s : State) (z : Nat) (f : ZoneSt → ZoneSt) : (s.modZone z f).test = s.test := rfl
@[simp] theorem State.modZone_mgmt (s : State) (z : Nat) (f : ZoneSt → ZoneSt) : (s.modZone z f).mgmt = s.mgmt := rfl
@[simp] theorem State.modZone_sec (s : State) (z : Nat) (f : ZoneSt → ZoneSt) : (s.modZone z f).sec = s.sec := rfl
@[simp] theorem State.modZone_ddr (s : State) (z : Nat) (f : ZoneSt → ZoneSt) : (s.modZone z f).ddr = s.ddr := rfl
@[simp] theorem State.modZone_pwr (s : State) (z : Nat) (f : ZoneSt → ZoneSt) : (s.modZone z f).pwr = s.pwr := rfl
@[simp] theorem State.modZone_outs (s : State) (z : Nat) (f : ZoneSt → ZoneSt) : (s.modZone z f).outs = s.outs := rfl

/-! State.modRc -/

@[simp] theorem State.modRc_pending (s : State) (r : Nat) (f : RcvySt → RcvySt) : (s.modRc r f).pending = s.pending := rfl
@[simp] theorem State.modRc_freeCount (s : State) (r : Nat) (f : RcvySt → RcvySt) : (s.modRc r f).freeCount = s.freeCount := rfl
@[simp] theorem State.modRc_featAcc (s : State) (r : Nat) (f : RcvySt → RcvySt) : (s.modRc r f).featAcc = s.featAcc := rfl
@[simp] theorem State.modRc_featLock (s : State) (r : Nat) (f : RcvySt → RcvySt) : (s.modRc r f).featLock = s.featLock := rfl
@[simp] theorem State.modRc_featOk (s : State) (r : Nat) (f : RcvySt → RcvySt) : (s.modRc r f).featOk = s.featOk := rfl
@[simp] theorem State.modRc_instDraw (s : State) (r : Nat) (f : RcvySt → RcvySt) : (s.modRc r f).instDraw = s.instDraw := rfl
@[simp] theorem State.modRc_pages (s : State) (r : Nat) (f : RcvySt → RcvySt) : (s.modRc r f).pages = s.pages := rfl
@[simp] theorem State.modRc_regs (s : State) (r : Nat) (f : RcvySt → RcvySt) : (s.modRc r f).regs = s.regs := rfl
@[simp] theorem State.modRc_time (s : State) (r : Nat) (f : RcvySt → RcvySt) : (s.modRc r f).time = s.time := rfl
@[simp] theorem State.modRc_node (s : State) (r : Nat) (f : RcvySt → RcvySt) : (s.modRc r f).node = s.node := rfl
@[simp] theorem State.modRc_slate (s : State) (r : Nat) (f : RcvySt → RcvySt) : (s.modRc r f).slate = s.slate := rfl
@[simp] theorem State.modRc_ports (s : State) (r : Nat) (f : RcvySt → RcvySt) : (s.modRc r f).ports = s.ports := rfl
@[simp] theorem State.modRc_groups (s : State) (r : Nat) (f : RcvySt → RcvySt) : (s.modRc r f).groups = s.groups := rfl
@[simp] theorem State.modRc_evt (s : State) (r : Nat) (f : RcvySt → RcvySt) : (s.modRc r f).evt = s.evt := rfl
@[simp] theorem State.modRc_hubIn (s : State) (r : Nat) (f : RcvySt → RcvySt) : (s.modRc r f).hubIn = s.hubIn := rfl
@[simp] theorem State.modRc_mem (s : State) (r : Nat) (f : RcvySt → RcvySt) : (s.modRc r f).mem = s.mem := rfl
@[simp] theorem State.modRc_poison (s : State) (r : Nat) (f : RcvySt → RcvySt) : (s.modRc r f).poison = s.poison := rfl
@[simp] theorem State.modRc_errs (s : State) (r : Nat) (f : RcvySt → RcvySt) : (s.modRc r f).errs = s.errs := rfl
@[simp] theorem State.modRc_resv (s : State) (r : Nat) (f : RcvySt → RcvySt) : (s.modRc r f).resv = s.resv := rfl
@[simp] theorem State.modRc_scrubs (s : State) (r : Nat) (f : RcvySt → RcvySt) : (s.modRc r f).scrubs = s.scrubs := rfl
@[simp] theorem State.modRc_sq (s : State) (r : Nat) (f : RcvySt → RcvySt) : (s.modRc r f).sq = s.sq := rfl
@[simp] theorem State.modRc_cq (s : State) (r : Nat) (f : RcvySt → RcvySt) : (s.modRc r f).cq = s.cq := rfl
@[simp] theorem State.modRc_xfer (s : State) (r : Nat) (f : RcvySt → RcvySt) : (s.modRc r f).xfer = s.xfer := rfl
@[simp] theorem State.modRc_lz (s : State) (r : Nat) (f : RcvySt → RcvySt) : (s.modRc r f).lz = s.lz := rfl
@[simp] theorem State.modRc_core (s : State) (r : Nat) (f : RcvySt → RcvySt) : (s.modRc r f).core = s.core := rfl
@[simp] theorem State.modRc_scratch (s : State) (r : Nat) (f : RcvySt → RcvySt) : (s.modRc r f).scratch = s.scratch := rfl
@[simp] theorem State.modRc_cnt (s : State) (r : Nat) (f : RcvySt → RcvySt) : (s.modRc r f).cnt = s.cnt := rfl
@[simp] theorem State.modRc_trace (s : State) (r : Nat) (f : RcvySt → RcvySt) : (s.modRc r f).trace = s.trace := rfl
@[simp] theorem State.modRc_alarm (s : State) (r : Nat) (f : RcvySt → RcvySt) : (s.modRc r f).alarm = s.alarm := rfl
@[simp] theorem State.modRc_fault (s : State) (r : Nat) (f : RcvySt → RcvySt) : (s.modRc r f).fault = s.fault := rfl
@[simp] theorem State.modRc_mover (s : State) (r : Nat) (f : RcvySt → RcvySt) : (s.modRc r f).mover = s.mover := rfl
@[simp] theorem State.modRc_test (s : State) (r : Nat) (f : RcvySt → RcvySt) : (s.modRc r f).test = s.test := rfl
@[simp] theorem State.modRc_mgmt (s : State) (r : Nat) (f : RcvySt → RcvySt) : (s.modRc r f).mgmt = s.mgmt := rfl
@[simp] theorem State.modRc_sec (s : State) (r : Nat) (f : RcvySt → RcvySt) : (s.modRc r f).sec = s.sec := rfl
@[simp] theorem State.modRc_ddr (s : State) (r : Nat) (f : RcvySt → RcvySt) : (s.modRc r f).ddr = s.ddr := rfl
@[simp] theorem State.modRc_pwr (s : State) (r : Nat) (f : RcvySt → RcvySt) : (s.modRc r f).pwr = s.pwr := rfl
@[simp] theorem State.modRc_outs (s : State) (r : Nat) (f : RcvySt → RcvySt) : (s.modRc r f).outs = s.outs := rfl

/-! State.modPin -/

@[simp] theorem State.modPin_pending (s : State) (n : Nat) (f : PinSt → PinSt) : (s.modPin n f).pending = s.pending := rfl
@[simp] theorem State.modPin_freeCount (s : State) (n : Nat) (f : PinSt → PinSt) : (s.modPin n f).freeCount = s.freeCount := rfl
@[simp] theorem State.modPin_featAcc (s : State) (n : Nat) (f : PinSt → PinSt) : (s.modPin n f).featAcc = s.featAcc := rfl
@[simp] theorem State.modPin_featLock (s : State) (n : Nat) (f : PinSt → PinSt) : (s.modPin n f).featLock = s.featLock := rfl
@[simp] theorem State.modPin_featOk (s : State) (n : Nat) (f : PinSt → PinSt) : (s.modPin n f).featOk = s.featOk := rfl
@[simp] theorem State.modPin_instDraw (s : State) (n : Nat) (f : PinSt → PinSt) : (s.modPin n f).instDraw = s.instDraw := rfl
@[simp] theorem State.modPin_pages (s : State) (n : Nat) (f : PinSt → PinSt) : (s.modPin n f).pages = s.pages := rfl
@[simp] theorem State.modPin_regs (s : State) (n : Nat) (f : PinSt → PinSt) : (s.modPin n f).regs = s.regs := rfl
@[simp] theorem State.modPin_time (s : State) (n : Nat) (f : PinSt → PinSt) : (s.modPin n f).time = s.time := rfl
@[simp] theorem State.modPin_node (s : State) (n : Nat) (f : PinSt → PinSt) : (s.modPin n f).node = s.node := rfl
@[simp] theorem State.modPin_slate (s : State) (n : Nat) (f : PinSt → PinSt) : (s.modPin n f).slate = s.slate := rfl
@[simp] theorem State.modPin_ports (s : State) (n : Nat) (f : PinSt → PinSt) : (s.modPin n f).ports = s.ports := rfl
@[simp] theorem State.modPin_groups (s : State) (n : Nat) (f : PinSt → PinSt) : (s.modPin n f).groups = s.groups := rfl
@[simp] theorem State.modPin_stream (s : State) (n : Nat) (f : PinSt → PinSt) : (s.modPin n f).stream = s.stream := rfl
@[simp] theorem State.modPin_hubIn (s : State) (n : Nat) (f : PinSt → PinSt) : (s.modPin n f).hubIn = s.hubIn := rfl
@[simp] theorem State.modPin_mem (s : State) (n : Nat) (f : PinSt → PinSt) : (s.modPin n f).mem = s.mem := rfl
@[simp] theorem State.modPin_poison (s : State) (n : Nat) (f : PinSt → PinSt) : (s.modPin n f).poison = s.poison := rfl
@[simp] theorem State.modPin_errs (s : State) (n : Nat) (f : PinSt → PinSt) : (s.modPin n f).errs = s.errs := rfl
@[simp] theorem State.modPin_resv (s : State) (n : Nat) (f : PinSt → PinSt) : (s.modPin n f).resv = s.resv := rfl
@[simp] theorem State.modPin_scrubs (s : State) (n : Nat) (f : PinSt → PinSt) : (s.modPin n f).scrubs = s.scrubs := rfl
@[simp] theorem State.modPin_sq (s : State) (n : Nat) (f : PinSt → PinSt) : (s.modPin n f).sq = s.sq := rfl
@[simp] theorem State.modPin_cq (s : State) (n : Nat) (f : PinSt → PinSt) : (s.modPin n f).cq = s.cq := rfl
@[simp] theorem State.modPin_xfer (s : State) (n : Nat) (f : PinSt → PinSt) : (s.modPin n f).xfer = s.xfer := rfl
@[simp] theorem State.modPin_lz (s : State) (n : Nat) (f : PinSt → PinSt) : (s.modPin n f).lz = s.lz := rfl
@[simp] theorem State.modPin_core (s : State) (n : Nat) (f : PinSt → PinSt) : (s.modPin n f).core = s.core := rfl
@[simp] theorem State.modPin_scratch (s : State) (n : Nat) (f : PinSt → PinSt) : (s.modPin n f).scratch = s.scratch := rfl
@[simp] theorem State.modPin_cnt (s : State) (n : Nat) (f : PinSt → PinSt) : (s.modPin n f).cnt = s.cnt := rfl
@[simp] theorem State.modPin_trace (s : State) (n : Nat) (f : PinSt → PinSt) : (s.modPin n f).trace = s.trace := rfl
@[simp] theorem State.modPin_alarm (s : State) (n : Nat) (f : PinSt → PinSt) : (s.modPin n f).alarm = s.alarm := rfl
@[simp] theorem State.modPin_fault (s : State) (n : Nat) (f : PinSt → PinSt) : (s.modPin n f).fault = s.fault := rfl
@[simp] theorem State.modPin_mover (s : State) (n : Nat) (f : PinSt → PinSt) : (s.modPin n f).mover = s.mover := rfl
@[simp] theorem State.modPin_test (s : State) (n : Nat) (f : PinSt → PinSt) : (s.modPin n f).test = s.test := rfl
@[simp] theorem State.modPin_mgmt (s : State) (n : Nat) (f : PinSt → PinSt) : (s.modPin n f).mgmt = s.mgmt := rfl
@[simp] theorem State.modPin_sec (s : State) (n : Nat) (f : PinSt → PinSt) : (s.modPin n f).sec = s.sec := rfl
@[simp] theorem State.modPin_ddr (s : State) (n : Nat) (f : PinSt → PinSt) : (s.modPin n f).ddr = s.ddr := rfl
@[simp] theorem State.modPin_pwr (s : State) (n : Nat) (f : PinSt → PinSt) : (s.modPin n f).pwr = s.pwr := rfl
@[simp] theorem State.modPin_outs (s : State) (n : Nat) (f : PinSt → PinSt) : (s.modPin n f).outs = s.outs := rfl

/-! State.modChan -/

@[simp] theorem State.modChan_pending (s : State) (c : Nat) (f : MvCh → MvCh) : (s.modChan c f).pending = s.pending := rfl
@[simp] theorem State.modChan_freeCount (s : State) (c : Nat) (f : MvCh → MvCh) : (s.modChan c f).freeCount = s.freeCount := rfl
@[simp] theorem State.modChan_featAcc (s : State) (c : Nat) (f : MvCh → MvCh) : (s.modChan c f).featAcc = s.featAcc := rfl
@[simp] theorem State.modChan_featLock (s : State) (c : Nat) (f : MvCh → MvCh) : (s.modChan c f).featLock = s.featLock := rfl
@[simp] theorem State.modChan_featOk (s : State) (c : Nat) (f : MvCh → MvCh) : (s.modChan c f).featOk = s.featOk := rfl
@[simp] theorem State.modChan_instDraw (s : State) (c : Nat) (f : MvCh → MvCh) : (s.modChan c f).instDraw = s.instDraw := rfl
@[simp] theorem State.modChan_pages (s : State) (c : Nat) (f : MvCh → MvCh) : (s.modChan c f).pages = s.pages := rfl
@[simp] theorem State.modChan_regs (s : State) (c : Nat) (f : MvCh → MvCh) : (s.modChan c f).regs = s.regs := rfl
@[simp] theorem State.modChan_time (s : State) (c : Nat) (f : MvCh → MvCh) : (s.modChan c f).time = s.time := rfl
@[simp] theorem State.modChan_node (s : State) (c : Nat) (f : MvCh → MvCh) : (s.modChan c f).node = s.node := rfl
@[simp] theorem State.modChan_slate (s : State) (c : Nat) (f : MvCh → MvCh) : (s.modChan c f).slate = s.slate := rfl
@[simp] theorem State.modChan_ports (s : State) (c : Nat) (f : MvCh → MvCh) : (s.modChan c f).ports = s.ports := rfl
@[simp] theorem State.modChan_groups (s : State) (c : Nat) (f : MvCh → MvCh) : (s.modChan c f).groups = s.groups := rfl
@[simp] theorem State.modChan_stream (s : State) (c : Nat) (f : MvCh → MvCh) : (s.modChan c f).stream = s.stream := rfl
@[simp] theorem State.modChan_evt (s : State) (c : Nat) (f : MvCh → MvCh) : (s.modChan c f).evt = s.evt := rfl
@[simp] theorem State.modChan_hubIn (s : State) (c : Nat) (f : MvCh → MvCh) : (s.modChan c f).hubIn = s.hubIn := rfl
@[simp] theorem State.modChan_mem (s : State) (c : Nat) (f : MvCh → MvCh) : (s.modChan c f).mem = s.mem := rfl
@[simp] theorem State.modChan_poison (s : State) (c : Nat) (f : MvCh → MvCh) : (s.modChan c f).poison = s.poison := rfl
@[simp] theorem State.modChan_errs (s : State) (c : Nat) (f : MvCh → MvCh) : (s.modChan c f).errs = s.errs := rfl
@[simp] theorem State.modChan_resv (s : State) (c : Nat) (f : MvCh → MvCh) : (s.modChan c f).resv = s.resv := rfl
@[simp] theorem State.modChan_scrubs (s : State) (c : Nat) (f : MvCh → MvCh) : (s.modChan c f).scrubs = s.scrubs := rfl
@[simp] theorem State.modChan_sq (s : State) (c : Nat) (f : MvCh → MvCh) : (s.modChan c f).sq = s.sq := rfl
@[simp] theorem State.modChan_cq (s : State) (c : Nat) (f : MvCh → MvCh) : (s.modChan c f).cq = s.cq := rfl
@[simp] theorem State.modChan_xfer (s : State) (c : Nat) (f : MvCh → MvCh) : (s.modChan c f).xfer = s.xfer := rfl
@[simp] theorem State.modChan_lz (s : State) (c : Nat) (f : MvCh → MvCh) : (s.modChan c f).lz = s.lz := rfl
@[simp] theorem State.modChan_core (s : State) (c : Nat) (f : MvCh → MvCh) : (s.modChan c f).core = s.core := rfl
@[simp] theorem State.modChan_scratch (s : State) (c : Nat) (f : MvCh → MvCh) : (s.modChan c f).scratch = s.scratch := rfl
@[simp] theorem State.modChan_cnt (s : State) (c : Nat) (f : MvCh → MvCh) : (s.modChan c f).cnt = s.cnt := rfl
@[simp] theorem State.modChan_trace (s : State) (c : Nat) (f : MvCh → MvCh) : (s.modChan c f).trace = s.trace := rfl
@[simp] theorem State.modChan_alarm (s : State) (c : Nat) (f : MvCh → MvCh) : (s.modChan c f).alarm = s.alarm := rfl
@[simp] theorem State.modChan_fault (s : State) (c : Nat) (f : MvCh → MvCh) : (s.modChan c f).fault = s.fault := rfl
@[simp] theorem State.modChan_test (s : State) (c : Nat) (f : MvCh → MvCh) : (s.modChan c f).test = s.test := rfl
@[simp] theorem State.modChan_mgmt (s : State) (c : Nat) (f : MvCh → MvCh) : (s.modChan c f).mgmt = s.mgmt := rfl
@[simp] theorem State.modChan_sec (s : State) (c : Nat) (f : MvCh → MvCh) : (s.modChan c f).sec = s.sec := rfl
@[simp] theorem State.modChan_ddr (s : State) (c : Nat) (f : MvCh → MvCh) : (s.modChan c f).ddr = s.ddr := rfl
@[simp] theorem State.modChan_pwr (s : State) (c : Nat) (f : MvCh → MvCh) : (s.modChan c f).pwr = s.pwr := rfl
@[simp] theorem State.modChan_outs (s : State) (c : Nat) (f : MvCh → MvCh) : (s.modChan c f).outs = s.outs := rfl

/-! State.count: the counter, and on a wrap the note of it and its cause. -/

@[simp] theorem State.countN_pending (s : State) (k : PageKind) (i po n : Nat) : (s.countN k i po n).pending = s.pending := by
  unfold State.countN State.wrap; split <;> [rfl; (dsimp only; split <;> rfl)]
@[simp] theorem State.countN_freeCount (s : State) (k : PageKind) (i po n : Nat) : (s.countN k i po n).freeCount = s.freeCount := by
  unfold State.countN State.wrap; split <;> [rfl; (dsimp only; split <;> rfl)]
@[simp] theorem State.countN_featAcc (s : State) (k : PageKind) (i po n : Nat) : (s.countN k i po n).featAcc = s.featAcc := by
  unfold State.countN State.wrap; split <;> [rfl; (dsimp only; split <;> rfl)]
@[simp] theorem State.countN_featLock (s : State) (k : PageKind) (i po n : Nat) : (s.countN k i po n).featLock = s.featLock := by
  unfold State.countN State.wrap; split <;> [rfl; (dsimp only; split <;> rfl)]
@[simp] theorem State.countN_featOk (s : State) (k : PageKind) (i po n : Nat) : (s.countN k i po n).featOk = s.featOk := by
  unfold State.countN State.wrap; split <;> [rfl; (dsimp only; split <;> rfl)]
@[simp] theorem State.countN_instDraw (s : State) (k : PageKind) (i po n : Nat) : (s.countN k i po n).instDraw = s.instDraw := by
  unfold State.countN State.wrap; split <;> [rfl; (dsimp only; split <;> rfl)]
@[simp] theorem State.countN_time (s : State) (k : PageKind) (i po n : Nat) : (s.countN k i po n).time = s.time := by
  unfold State.countN State.wrap; split <;> [rfl; (dsimp only; split <;> rfl)]
@[simp] theorem State.countN_node (s : State) (k : PageKind) (i po n : Nat) : (s.countN k i po n).node = s.node := by
  unfold State.countN State.wrap; split <;> [rfl; (dsimp only; split <;> rfl)]
@[simp] theorem State.countN_slate (s : State) (k : PageKind) (i po n : Nat) : (s.countN k i po n).slate = s.slate := by
  unfold State.countN State.wrap; split <;> [rfl; (dsimp only; split <;> rfl)]
@[simp] theorem State.countN_ports (s : State) (k : PageKind) (i po n : Nat) : (s.countN k i po n).ports = s.ports := by
  unfold State.countN State.wrap; split <;> [rfl; (dsimp only; split <;> rfl)]
@[simp] theorem State.countN_groups (s : State) (k : PageKind) (i po n : Nat) : (s.countN k i po n).groups = s.groups := by
  unfold State.countN State.wrap; split <;> [rfl; (dsimp only; split <;> rfl)]
@[simp] theorem State.countN_stream (s : State) (k : PageKind) (i po n : Nat) : (s.countN k i po n).stream = s.stream := by
  unfold State.countN State.wrap; split <;> [rfl; (dsimp only; split <;> rfl)]
@[simp] theorem State.countN_evt (s : State) (k : PageKind) (i po n : Nat) : (s.countN k i po n).evt = s.evt := by
  unfold State.countN State.wrap; split <;> [rfl; (dsimp only; split <;> rfl)]
@[simp] theorem State.countN_hubIn (s : State) (k : PageKind) (i po n : Nat) : (s.countN k i po n).hubIn = s.hubIn := by
  unfold State.countN State.wrap; split <;> [rfl; (dsimp only; split <;> rfl)]
@[simp] theorem State.countN_mem (s : State) (k : PageKind) (i po n : Nat) : (s.countN k i po n).mem = s.mem := by
  unfold State.countN State.wrap; split <;> [rfl; (dsimp only; split <;> rfl)]
@[simp] theorem State.countN_poison (s : State) (k : PageKind) (i po n : Nat) : (s.countN k i po n).poison = s.poison := by
  unfold State.countN State.wrap; split <;> [rfl; (dsimp only; split <;> rfl)]
@[simp] theorem State.countN_errs (s : State) (k : PageKind) (i po n : Nat) : (s.countN k i po n).errs = s.errs := by
  unfold State.countN State.wrap; split <;> [rfl; (dsimp only; split <;> rfl)]
@[simp] theorem State.countN_resv (s : State) (k : PageKind) (i po n : Nat) : (s.countN k i po n).resv = s.resv := by
  unfold State.countN State.wrap; split <;> [rfl; (dsimp only; split <;> rfl)]
@[simp] theorem State.countN_scrubs (s : State) (k : PageKind) (i po n : Nat) : (s.countN k i po n).scrubs = s.scrubs := by
  unfold State.countN State.wrap; split <;> [rfl; (dsimp only; split <;> rfl)]
@[simp] theorem State.countN_sq (s : State) (k : PageKind) (i po n : Nat) : (s.countN k i po n).sq = s.sq := by
  unfold State.countN State.wrap; split <;> [rfl; (dsimp only; split <;> rfl)]
@[simp] theorem State.countN_cq (s : State) (k : PageKind) (i po n : Nat) : (s.countN k i po n).cq = s.cq := by
  unfold State.countN State.wrap; split <;> [rfl; (dsimp only; split <;> rfl)]
@[simp] theorem State.countN_xfer (s : State) (k : PageKind) (i po n : Nat) : (s.countN k i po n).xfer = s.xfer := by
  unfold State.countN State.wrap; split <;> [rfl; (dsimp only; split <;> rfl)]
@[simp] theorem State.countN_lz (s : State) (k : PageKind) (i po n : Nat) : (s.countN k i po n).lz = s.lz := by
  unfold State.countN State.wrap; split <;> [rfl; (dsimp only; split <;> rfl)]
@[simp] theorem State.countN_core (s : State) (k : PageKind) (i po n : Nat) : (s.countN k i po n).core = s.core := by
  unfold State.countN State.wrap; split <;> [rfl; (dsimp only; split <;> rfl)]
@[simp] theorem State.countN_scratch (s : State) (k : PageKind) (i po n : Nat) : (s.countN k i po n).scratch = s.scratch := by
  unfold State.countN State.wrap; split <;> [rfl; (dsimp only; split <;> rfl)]
@[simp] theorem State.countN_trace (s : State) (k : PageKind) (i po n : Nat) : (s.countN k i po n).trace = s.trace := by
  unfold State.countN State.wrap; split <;> [rfl; (dsimp only; split <;> rfl)]
@[simp] theorem State.countN_alarm (s : State) (k : PageKind) (i po n : Nat) : (s.countN k i po n).alarm = s.alarm := by
  unfold State.countN State.wrap; split <;> [rfl; (dsimp only; split <;> rfl)]
@[simp] theorem State.countN_fault (s : State) (k : PageKind) (i po n : Nat) : (s.countN k i po n).fault = s.fault := by
  unfold State.countN State.wrap; split <;> [rfl; (dsimp only; split <;> rfl)]
@[simp] theorem State.countN_mover (s : State) (k : PageKind) (i po n : Nat) : (s.countN k i po n).mover = s.mover := by
  unfold State.countN State.wrap; split <;> [rfl; (dsimp only; split <;> rfl)]
@[simp] theorem State.countN_test (s : State) (k : PageKind) (i po n : Nat) : (s.countN k i po n).test = s.test := by
  unfold State.countN State.wrap; split <;> [rfl; (dsimp only; split <;> rfl)]
@[simp] theorem State.countN_mgmt (s : State) (k : PageKind) (i po n : Nat) : (s.countN k i po n).mgmt = s.mgmt := by
  unfold State.countN State.wrap; split <;> [rfl; (dsimp only; split <;> rfl)]
@[simp] theorem State.countN_sec (s : State) (k : PageKind) (i po n : Nat) : (s.countN k i po n).sec = s.sec := by
  unfold State.countN State.wrap; split <;> [rfl; (dsimp only; split <;> rfl)]
@[simp] theorem State.countN_ddr (s : State) (k : PageKind) (i po n : Nat) : (s.countN k i po n).ddr = s.ddr := by
  unfold State.countN State.wrap; split <;> [rfl; (dsimp only; split <;> rfl)]
@[simp] theorem State.countN_pwr (s : State) (k : PageKind) (i po n : Nat) : (s.countN k i po n).pwr = s.pwr := by
  unfold State.countN State.wrap; split <;> [rfl; (dsimp only; split <;> rfl)]
@[simp] theorem State.countN_outs (s : State) (k : PageKind) (i po n : Nat) : (s.countN k i po n).outs = s.outs := by
  unfold State.countN State.wrap; split <;> [rfl; (dsimp only; split <;> rfl)]

@[simp] theorem State.count_pending (s : State) (k : PageKind) (i po : Nat) : (s.count k i po).pending = s.pending := State.countN_pending ..
@[simp] theorem State.count_freeCount (s : State) (k : PageKind) (i po : Nat) : (s.count k i po).freeCount = s.freeCount := State.countN_freeCount ..
@[simp] theorem State.count_featAcc (s : State) (k : PageKind) (i po : Nat) : (s.count k i po).featAcc = s.featAcc := State.countN_featAcc ..
@[simp] theorem State.count_featLock (s : State) (k : PageKind) (i po : Nat) : (s.count k i po).featLock = s.featLock := State.countN_featLock ..
@[simp] theorem State.count_featOk (s : State) (k : PageKind) (i po : Nat) : (s.count k i po).featOk = s.featOk := State.countN_featOk ..
@[simp] theorem State.count_instDraw (s : State) (k : PageKind) (i po : Nat) : (s.count k i po).instDraw = s.instDraw := State.countN_instDraw ..
@[simp] theorem State.count_time (s : State) (k : PageKind) (i po : Nat) : (s.count k i po).time = s.time := State.countN_time ..
@[simp] theorem State.count_node (s : State) (k : PageKind) (i po : Nat) : (s.count k i po).node = s.node := State.countN_node ..
@[simp] theorem State.count_slate (s : State) (k : PageKind) (i po : Nat) : (s.count k i po).slate = s.slate := State.countN_slate ..
@[simp] theorem State.count_ports (s : State) (k : PageKind) (i po : Nat) : (s.count k i po).ports = s.ports := State.countN_ports ..
@[simp] theorem State.count_groups (s : State) (k : PageKind) (i po : Nat) : (s.count k i po).groups = s.groups := State.countN_groups ..
@[simp] theorem State.count_stream (s : State) (k : PageKind) (i po : Nat) : (s.count k i po).stream = s.stream := State.countN_stream ..
@[simp] theorem State.count_evt (s : State) (k : PageKind) (i po : Nat) : (s.count k i po).evt = s.evt := State.countN_evt ..
@[simp] theorem State.count_hubIn (s : State) (k : PageKind) (i po : Nat) : (s.count k i po).hubIn = s.hubIn := State.countN_hubIn ..
@[simp] theorem State.count_mem (s : State) (k : PageKind) (i po : Nat) : (s.count k i po).mem = s.mem := State.countN_mem ..
@[simp] theorem State.count_poison (s : State) (k : PageKind) (i po : Nat) : (s.count k i po).poison = s.poison := State.countN_poison ..
@[simp] theorem State.count_errs (s : State) (k : PageKind) (i po : Nat) : (s.count k i po).errs = s.errs := State.countN_errs ..
@[simp] theorem State.count_resv (s : State) (k : PageKind) (i po : Nat) : (s.count k i po).resv = s.resv := State.countN_resv ..
@[simp] theorem State.count_scrubs (s : State) (k : PageKind) (i po : Nat) : (s.count k i po).scrubs = s.scrubs := State.countN_scrubs ..
@[simp] theorem State.count_sq (s : State) (k : PageKind) (i po : Nat) : (s.count k i po).sq = s.sq := State.countN_sq ..
@[simp] theorem State.count_cq (s : State) (k : PageKind) (i po : Nat) : (s.count k i po).cq = s.cq := State.countN_cq ..
@[simp] theorem State.count_xfer (s : State) (k : PageKind) (i po : Nat) : (s.count k i po).xfer = s.xfer := State.countN_xfer ..
@[simp] theorem State.count_lz (s : State) (k : PageKind) (i po : Nat) : (s.count k i po).lz = s.lz := State.countN_lz ..
@[simp] theorem State.count_core (s : State) (k : PageKind) (i po : Nat) : (s.count k i po).core = s.core := State.countN_core ..
@[simp] theorem State.count_scratch (s : State) (k : PageKind) (i po : Nat) : (s.count k i po).scratch = s.scratch := State.countN_scratch ..
@[simp] theorem State.count_trace (s : State) (k : PageKind) (i po : Nat) : (s.count k i po).trace = s.trace := State.countN_trace ..
@[simp] theorem State.count_alarm (s : State) (k : PageKind) (i po : Nat) : (s.count k i po).alarm = s.alarm := State.countN_alarm ..
@[simp] theorem State.count_fault (s : State) (k : PageKind) (i po : Nat) : (s.count k i po).fault = s.fault := State.countN_fault ..
@[simp] theorem State.count_mover (s : State) (k : PageKind) (i po : Nat) : (s.count k i po).mover = s.mover := State.countN_mover ..
@[simp] theorem State.count_test (s : State) (k : PageKind) (i po : Nat) : (s.count k i po).test = s.test := State.countN_test ..
@[simp] theorem State.count_mgmt (s : State) (k : PageKind) (i po : Nat) : (s.count k i po).mgmt = s.mgmt := State.countN_mgmt ..
@[simp] theorem State.count_sec (s : State) (k : PageKind) (i po : Nat) : (s.count k i po).sec = s.sec := State.countN_sec ..
@[simp] theorem State.count_ddr (s : State) (k : PageKind) (i po : Nat) : (s.count k i po).ddr = s.ddr := State.countN_ddr ..
@[simp] theorem State.count_pwr (s : State) (k : PageKind) (i po : Nat) : (s.count k i po).pwr = s.pwr := State.countN_pwr ..
@[simp] theorem State.count_outs (s : State) (k : PageKind) (i po : Nat) : (s.count k i po).outs = s.outs := State.countN_outs ..
@[simp] theorem State.countP_pending (s : State) (p po : Nat) : (s.countP p po).pending = s.pending := State.countN_pending ..
@[simp] theorem State.countP_freeCount (s : State) (p po : Nat) : (s.countP p po).freeCount = s.freeCount := State.countN_freeCount ..
@[simp] theorem State.countP_featAcc (s : State) (p po : Nat) : (s.countP p po).featAcc = s.featAcc := State.countN_featAcc ..
@[simp] theorem State.countP_featLock (s : State) (p po : Nat) : (s.countP p po).featLock = s.featLock := State.countN_featLock ..
@[simp] theorem State.countP_featOk (s : State) (p po : Nat) : (s.countP p po).featOk = s.featOk := State.countN_featOk ..
@[simp] theorem State.countP_instDraw (s : State) (p po : Nat) : (s.countP p po).instDraw = s.instDraw := State.countN_instDraw ..
@[simp] theorem State.countP_time (s : State) (p po : Nat) : (s.countP p po).time = s.time := State.countN_time ..
@[simp] theorem State.countP_node (s : State) (p po : Nat) : (s.countP p po).node = s.node := State.countN_node ..
@[simp] theorem State.countP_slate (s : State) (p po : Nat) : (s.countP p po).slate = s.slate := State.countN_slate ..
@[simp] theorem State.countP_ports (s : State) (p po : Nat) : (s.countP p po).ports = s.ports := State.countN_ports ..
@[simp] theorem State.countP_groups (s : State) (p po : Nat) : (s.countP p po).groups = s.groups := State.countN_groups ..
@[simp] theorem State.countP_stream (s : State) (p po : Nat) : (s.countP p po).stream = s.stream := State.countN_stream ..
@[simp] theorem State.countP_evt (s : State) (p po : Nat) : (s.countP p po).evt = s.evt := State.countN_evt ..
@[simp] theorem State.countP_hubIn (s : State) (p po : Nat) : (s.countP p po).hubIn = s.hubIn := State.countN_hubIn ..
@[simp] theorem State.countP_mem (s : State) (p po : Nat) : (s.countP p po).mem = s.mem := State.countN_mem ..
@[simp] theorem State.countP_poison (s : State) (p po : Nat) : (s.countP p po).poison = s.poison := State.countN_poison ..
@[simp] theorem State.countP_errs (s : State) (p po : Nat) : (s.countP p po).errs = s.errs := State.countN_errs ..
@[simp] theorem State.countP_resv (s : State) (p po : Nat) : (s.countP p po).resv = s.resv := State.countN_resv ..
@[simp] theorem State.countP_scrubs (s : State) (p po : Nat) : (s.countP p po).scrubs = s.scrubs := State.countN_scrubs ..
@[simp] theorem State.countP_sq (s : State) (p po : Nat) : (s.countP p po).sq = s.sq := State.countN_sq ..
@[simp] theorem State.countP_cq (s : State) (p po : Nat) : (s.countP p po).cq = s.cq := State.countN_cq ..
@[simp] theorem State.countP_xfer (s : State) (p po : Nat) : (s.countP p po).xfer = s.xfer := State.countN_xfer ..
@[simp] theorem State.countP_lz (s : State) (p po : Nat) : (s.countP p po).lz = s.lz := State.countN_lz ..
@[simp] theorem State.countP_core (s : State) (p po : Nat) : (s.countP p po).core = s.core := State.countN_core ..
@[simp] theorem State.countP_scratch (s : State) (p po : Nat) : (s.countP p po).scratch = s.scratch := State.countN_scratch ..
@[simp] theorem State.countP_trace (s : State) (p po : Nat) : (s.countP p po).trace = s.trace := State.countN_trace ..
@[simp] theorem State.countP_alarm (s : State) (p po : Nat) : (s.countP p po).alarm = s.alarm := State.countN_alarm ..
@[simp] theorem State.countP_fault (s : State) (p po : Nat) : (s.countP p po).fault = s.fault := State.countN_fault ..
@[simp] theorem State.countP_mover (s : State) (p po : Nat) : (s.countP p po).mover = s.mover := State.countN_mover ..
@[simp] theorem State.countP_test (s : State) (p po : Nat) : (s.countP p po).test = s.test := State.countN_test ..
@[simp] theorem State.countP_mgmt (s : State) (p po : Nat) : (s.countP p po).mgmt = s.mgmt := State.countN_mgmt ..
@[simp] theorem State.countP_sec (s : State) (p po : Nat) : (s.countP p po).sec = s.sec := State.countN_sec ..
@[simp] theorem State.countP_ddr (s : State) (p po : Nat) : (s.countP p po).ddr = s.ddr := State.countN_ddr ..
@[simp] theorem State.countP_pwr (s : State) (p po : Nat) : (s.countP p po).pwr = s.pwr := State.countN_pwr ..
@[simp] theorem State.countP_outs (s : State) (p po : Nat) : (s.countP p po).outs = s.outs := State.countN_outs ..

end Sys2Proof.Machine
end

