-- ==== Sys2Proof/Laws/Pages.lean ====
section
/-! SUPPORT. Page headers, registers held as words, error records, counters and the common checks: what each shared operation does. -/

namespace Sys2Proof.Machine

open Sys2Proof

/-! Headers. -/

@[simp] theorem State.hdr_modHdr (s : State) (k : PageKind) (i : Nat) (f : PageHdr → PageHdr) :
    (s.modHdr k i f).hdr k i = f (s.hdr k i) := by
  simp [State.hdr, State.modHdr]

theorem State.pages_modHdr_other (s : State) (k : PageKind) (i n : Nat) (f : PageHdr → PageHdr) (h : n ≠ pageBase k i / 0x1000) :
    smGet (s.modHdr k i f).pages n {} = smGet s.pages n {} := by
  simp [State.modHdr, smGet_smMod_other _ _ _ _ _ _ h]

@[simp] theorem State.hdr_cause (s : State) (k : PageKind) (i b : Nat) :
    (s.cause k i b).hdr k i = { s.hdr k i with intCause := (s.hdr k i).intCause ||| BitVec.ofNat 32 (2 ^ b) } := by
  simp [State.cause]

theorem State.pages_cause_other (s : State) (k : PageKind) (i b n : Nat) (h : n ≠ pageBase k i / 0x1000) :
    smGet (s.cause k i b).pages n {} = smGet s.pages n {} :=
  State.pages_modHdr_other _ _ _ _ _ h

/-- The error record: the first error is held, a later one sets ERR_MORE; ERR is set (R31). -/
theorem State.hdr_err (s : State) (k : PageKind) (i code detail info : Nat) :
    (s.err k i code detail info).hdr k i =
      { s.hdr k i with
        intCause := (s.hdr k i).intCause ||| 1#32
        errCode := if (s.hdr k i).errCode = 0 then BitVec.ofNat 32 (code + detail % 2 ^ 16 * 2 ^ 16) else (s.hdr k i).errCode
        errInfo := if (s.hdr k i).errCode = 0 then BitVec.ofNat 32 info else (s.hdr k i).errInfo
        errMore := if (s.hdr k i).errCode = 0 then (s.hdr k i).errMore else true } := by
  unfold State.err
  rw [State.hdr_cause, State.hdr_modHdr]
  split <;> rfl

theorem State.pages_err_other (s : State) (k : PageKind) (i code detail info n : Nat) (h : n ≠ pageBase k i / 0x1000) :
    smGet (s.err k i code detail info).pages n {} = smGet s.pages n {} := by
  rw [State.err, State.pages_cause_other _ _ _ _ _ h, State.pages_modHdr_other _ _ _ _ _ h]

theorem State.modHdr_eq (s : State) (k : PageKind) (i : Nat) (f : PageHdr → PageHdr) :
    s.modHdr k i f = { s with pages := (s.modHdr k i f).pages } := rfl

theorem State.cause_eq (s : State) (k : PageKind) (i b : Nat) : s.cause k i b = { s with pages := (s.cause k i b).pages } := rfl

theorem State.err_eq (s : State) (k : PageKind) (i code detail info : Nat) :
    s.err k i code detail info = { s with pages := (s.err k i code detail info).pages } := rfl

/-! Registers held as words. -/

@[simp] theorem State.reg_setReg (s : State) (k : PageKind) (i po : Nat) (v : Word) : (s.setReg k i po v).reg k i po = v := by
  simp [State.reg, State.setReg]

theorem State.find_setReg_other (s : State) (k : PageKind) (i po a : Nat) (v : Word) (h : a ≠ pageBase k i + po) :
    smFind (s.setReg k i po v).regs a = smFind s.regs a :=
  smFind_smSet_other _ _ _ _ h

/-! The common checks. -/

/-- Once its checks pass, a guarded write acts. -/
theorem State.guarded_pass (s : State) (k : PageKind) (i po : Nat) (acc : Acc) (feat : Nat) (f : State → State)
    (h1 : s.pwr.held = false) (h2 : s.featOk = true ∨ earlyReg k po = true) (h3 : feat = 0 ∨ s.feat feat = true) :
    s.guarded k i po acc feat f = f s := by
  unfold State.guarded
  have e2 : (!s.featOk && !earlyReg k po) = false := by rcases h2 with h | h <;> simp [h]
  by_cases h0 : feat = 0
  · simp [h1, e2, h0]
  · have := h3.resolve_left h0
    simp [h1, e2, this]

/-- Before FEAT_OK a write that must wait for it is refused with NOT_READY (R32). -/
theorem State.guarded_notReady (s : State) (k : PageKind) (i po : Nat) (acc : Acc) (feat : Nat) (f : State → State)
    (h1 : s.pwr.held = false) (h2 : s.featOk = false) (h3 : earlyReg k po = false) (h4 : acc.held = true) :
    s.guarded k i po acc feat f = s.err .global 0 errNotReady 0 (pageBase k i + po) := by
  simp [State.guarded, h1, h2, h3, h4]

/-- Once its checks pass, a write to a register of the map acts. -/
theorem State.regWrite_pass (s : State) (k : PageKind) (i po : Nat) (f : State → State) (r : RegRow) (j : Nat)
    (hr : findRow k po = some (r, j)) (h1 : s.pwr.held = false) (h2 : s.featOk = true ∨ earlyReg k po = true)
    (h3 : r.feat = 0 ∨ s.feat r.feat = true) : s.regWrite k i po f = f s := by
  simp [State.regWrite, hr, State.guarded_pass _ _ _ _ _ _ _ h1 h2 h3]

/-- Once its checks pass, a write of a value to a register of the map acts on the bits of its fields. -/
theorem State.regWriteV_pass (s : State) (k : PageKind) (i po : Nat) (v : Word) (f : State → Word → State) (r : RegRow) (j : Nat)
    (hr : findRow k po = some (r, j)) (h1 : s.pwr.held = false) (h2 : s.featOk = true ∨ earlyReg k po = true)
    (h3 : r.feat = 0 ∨ s.feat r.feat = true) : s.regWriteV k i po v f = f s (v &&& wd r.mask) := by
  simp [State.regWriteV, hr, State.guarded_pass _ _ _ _ _ _ _ h1 h2 h3]

/-! Counters (R41, R42). -/

/-- The counter, and on a wrap the note of it and COUNTER_OVF. -/
theorem State.countN_eq (s : State) (k : PageKind) (i po n : Nat) (h : n ≠ 0) :
    s.countN k i po n =
      let t := { s with regs := smSet s.regs (pageBase k i + po) (ctrAdd (smGet s.regs (pageBase k i + po) 0) n) }
      if ctrWraps (smGet s.regs (pageBase k i + po) 0) n then (t.wrap (pageBase k i + po)).cause k i causeOvf else t := by
  simp [State.countN, h]

@[simp] theorem State.find_count (s : State) (k : PageKind) (i po n : Nat) (h : n ≠ 0) :
    smGet (s.countN k i po n).regs (pageBase k i + po) 0 = ctrAdd (smGet s.regs (pageBase k i + po) 0) n := by
  rw [State.countN_eq _ _ _ _ _ h]
  dsimp only
  split <;> simp [State.wrap]

theorem State.find_countN_other (s : State) (k : PageKind) (i po n a : Nat) (h : a ≠ pageBase k i + po) :
    smFind (s.countN k i po n).regs a = smFind s.regs a := by
  unfold State.countN
  split
  · rfl
  · dsimp only
    split <;> simp [State.wrap, smFind_smSet_other _ _ _ _ h]

end Sys2Proof.Machine
end

