-- ==== Sys2Proof/Laws/Cited.lean ====
section
/-! SUPPORT. Small laws of the shared operations, in the terms of the statements: guards that open, counters that count, ports, the
clock, trace records. -/

namespace Sys2Proof.Machine

open Sys2Proof

/-! Searches and bit fields. -/

theorem lowest_none {n : Nat} {p : Nat → Bool} (h : ∀ b, b < n → p b = false) : lowest n p = none := by
  unfold lowest
  rw [List.find?_eq_none]
  intro x hx
  simp [h x (List.mem_range.1 hx)]

theorem lowest_some {n b : Nat} {p : Nat → Bool} (hb : b < n) (h : p b = true) (hl : ∀ a, a < b → p a = false) : lowest n p = some b := by
  unfold lowest
  rw [List.find?_range_eq_some]
  exact ⟨h, List.mem_range.2 hb, fun j hj => by simp [hl j hj]⟩

theorem fld_wd {n : Nat} (h : n < 2 ^ 64) (hi lo : Nat) : fld (wd n) hi lo = n / 2 ^ lo % 2 ^ (hi + 1 - lo) := by
  unfold fld bitsOf wd
  rw [BitVec.toNat_ofNat, Nat.mod_eq_of_lt h]

theorem bit_wd {n : Nat} (h : n < 2 ^ 64) (i : Nat) : bit (wd n) i = n.testBit i := by
  simp only [bit, wd, BitVec.toNat_ofNat]
  rw [Nat.mod_eq_of_lt h]

theorem mem_insertBy' {α : Type} (key : α → Nat) (x y : α) (l : List α) : y ∈ sortBy.insertBy' key x l ↔ y = x ∨ y ∈ l := by
  induction l with
  | nil => simp [sortBy.insertBy']
  | cons a l ih => unfold sortBy.insertBy'; split <;> simp [ih]; tauto

/-- Sorting keeps the members. -/
theorem mem_sortBy {α : Type} (key : α → Nat) (l : List α) (y : α) : y ∈ sortBy key l ↔ y ∈ l := by
  unfold sortBy
  rw [← List.mem_reverse (as := l)]
  generalize l.reverse = m
  suffices ∀ acc, y ∈ m.foldl (fun acc x => sortBy.insertBy' key x acc) acc ↔ y ∈ m ∨ y ∈ acc by simp [this]
  induction m with
  | nil => simp
  | cons a m ih => intro acc; simp [ih, mem_insertBy']; tauto

/-! Guards that open. -/

theorem State.hdrGuard_opens {s : State} {k : PageKind} {i po : Nat} {f : State → State} (h : s.opens k po (hdrFeat k po)) :
    s.hdrGuard k i po f = f s := State.guarded_pass _ _ _ _ _ _ _ h.1 h.2.1 h.2.2

theorem State.regWrite_opens {s : State} {k : PageKind} {i po j : Nat} {f : State → State} {r : RegRow} (hr : findRow k po = some (r, j))
    (h : s.opens k po r.feat) : s.regWrite k i po f = f s := State.regWrite_pass _ _ _ _ _ _ _ hr h.1 h.2.1 h.2.2

theorem State.regWriteV_opens {s : State} {k : PageKind} {i po j : Nat} {v : Word} {f : State → Word → State} {r : RegRow}
    (hr : findRow k po = some (r, j)) (h : s.opens k po r.feat) : s.regWriteV k i po v f = f s (v &&& wd r.mask) :=
  State.regWriteV_pass _ _ _ _ _ _ _ _ hr h.1 h.2.1 h.2.2

/-! Ports. -/

theorem State.port_modPort_same (s : State) (p : Nat) (f : PortSt → PortSt) : (s.modPort p f).port p = f (s.port p) := by
  simp [State.port, State.modPort]

theorem State.port_modPort_other (s : State) (p q : Nat) (f : PortSt → PortSt) (h : q ≠ p) : (s.modPort p f).port q = s.port q := by
  simp [State.port, State.modPort, smGet_smMod_other _ _ _ _ _ _ h]

theorem State.port_countP (s : State) (p po q : Nat) : (s.countP p po).port q = s.port q := by simp [State.port]

/-! Counters. -/

theorem counted_count (k : PageKind) (i po : Nat) (s : State) : Counted k i po s (s.count k i po) :=
  State.find_count s k i po 1 (by decide)

theorem State.find_count_other (s : State) (k : PageKind) (i po a : Nat) (h : a ≠ pageBase k i + po) :
    smFind (s.count k i po).regs a = smFind s.regs a := State.find_countN_other _ _ _ _ _ _ h

theorem State.regF_count_other (s : State) (k k' : PageKind) (i po i' po' hi lo : Nat) (h : pageBase k' i' + po' ≠ pageBase k i + po) :
    (s.count k i po).regF k' i' po' hi lo = s.regF k' i' po' hi lo := by
  unfold State.regF State.reg smGet
  rw [State.find_count_other _ _ _ _ _ h]

/-! The clock. A proof that meets an instant such as n * wPulse rewrites by this law before it reduces anything. -/

theorem State.atLeast_time (s : State) (w : Nat) : (s.atLeast w).time = { s.time with now := max s.time.now w } := by
  unfold State.atLeast
  dsimp only
  have : (if s.time.now < w then w else s.time.now) = max s.time.now w := by split <;> omega
  rw [this]

/-! Trace records write no register but the counters of lost records. -/

theorem State.find_traceEv_other (s : State) (src ev : Nat) (cls port : Option Nat) (kind : Nat) (w1 w2 w3 : Word) (a : Nat)
    (hf : a ≠ pageBase .trace 0 + R.TRACE_LOST_FULL) (hr : a ≠ pageBase .trace 0 + R.TRACE_LOST_RATE) :
    smFind (s.traceEv src ev cls port kind w1 w2 w3).regs a = smFind s.regs a := by
  unfold State.traceEv State.traceAt State.passRec State.loseRec
  dsimp only
  repeat' split
  all_goals first | rfl | exact State.find_count_other _ _ _ _ _ hf | exact State.find_count_other _ _ _ _ _ hr

theorem State.find_traceState_other (s : State) (ev what new : Nat) (value : Word) (a : Nat)
    (hf : a ≠ pageBase .trace 0 + R.TRACE_LOST_FULL) (hr : a ≠ pageBase .trace 0 + R.TRACE_LOST_RATE) :
    smFind (s.traceState ev what new value).regs a = smFind s.regs a := State.find_traceEv_other s _ _ _ _ _ _ _ _ a hf hr

theorem State.traceState_node (s : State) (ev what new : Nat) (value : Word) : (s.traceState ev what new value).node = s.node := by
  refine (show Part.same .node _ _ from ?_); simp [Part.same_refl]

theorem State.traceState_time (s : State) (ev what new : Nat) (value : Word) : (s.traceState ev what new value).time = s.time := by
  refine (show Part.same .time _ _ from ?_); simp [Part.same_refl]

theorem State.traceState_slate (s : State) (ev what new : Nat) (value : Word) : (s.traceState ev what new value).slate = s.slate := by
  refine (show Part.same .slate _ _ from ?_); simp [Part.same_refl]

theorem State.traceState_ports (s : State) (ev what new : Nat) (value : Word) : (s.traceState ev what new value).ports = s.ports := by
  refine (show Part.same .ports _ _ from ?_); simp [Part.same_refl]

/-- The live slate decides CYCLE_TICKS. -/
theorem State.ticks_congr {s t : State} (h : t.slate = s.slate) : t.ticks = s.ticks := by
  unfold State.ticks State.live
  rw [h]

end Sys2Proof.Machine
end

