-- ==== Sys2Proof/Laws/Send.lean ====
section
/-! SUPPORT. What passing time does to a still endpoint, and how a port sends a frame that may start at once. -/

namespace Sys2Proof.Machine

open Sys2Proof

/-- A second value at an index replaces the first. -/
theorem smSet_smSet {α : Type} (m : SMap α) (k : Nat) (v w : α) : smSet (smSet m k v) k w = smSet m k w := by
  induction m with
  | nil => simp [smSet]
  | cons x m ih =>
    obtain ⟨i, u⟩ := x
    by_cases h1 : k < i
    · simp [smSet, h1]
    · by_cases h2 : k = i
      · simp [smSet, h2]
      · simp [smSet, h1, h2, ih]

theorem State.modPort_modPort (s : State) (p : Nat) (f g : PortSt → PortSt) :
    (s.modPort p f).modPort p g = s.modPort p fun q => g (f q) := by
  simp [State.modPort, smMod, smSet_smSet]

theorem mem_of_smFind {α : Type} {m : SMap α} {k : Nat} {v : α} (h : smFind m k = some v) : (k, v) ∈ m := by
  induction m with
  | nil => cases h
  | cons x m ih =>
    unfold smFind at h
    split at h
    · rename_i hk; cases h; subst hk; simp
    · exact List.mem_cons_of_mem _ (ih h)

/-- The channels that watch nothing take no sample. -/
theorem State.pace_of_still {s : State} (h : ∀ x ∈ s.mover.chans, x.2.enabled = false ∨ wKind x.2.live.watch = 0) : s.pace = s := by
  have one : ∀ c, s.paceOne c = s := by
    intro c
    have hc : (smGet s.mover.chans c ({} : MvCh)).enabled = false ∨ wKind (smGet s.mover.chans c ({} : MvCh)).live.watch = 0 := by
      unfold smGet
      cases hf : smFind s.mover.chans c with
      | none => exact .inl rfl
      | some m => exact h (c, m) (mem_of_smFind hf)
    unfold State.paceOne
    refine if_neg fun hn => ?_
    rw [Bool.and_eq_true, bne_iff_ne] at hn
    rcases hc with h | h
    · rw [h] at hn; cases hn.1
    · exact hn.2 h
  unfold State.pace
  generalize smKeys s.mover.chans = l
  induction l with
  | nil => rfl
  | cons c l ih => rw [List.foldl_cons, one, ih]

/-- No job finishes when none is gone. -/
theorem State.departs_of_still {s : State} (h : ∀ j ∈ s.xfer.jobs, j.gone s.time.now = false) : s.departs = s := by
  have e : s.xfer.jobs.filter (fun j => j.gone s.time.now) = [] := by
    rw [List.filter_eq_nil_iff]; intro j hj; simp [h j hj]
  unfold State.departs
  rw [e]; rfl

/-- No fragment ends on a port whose wire is idle. -/
theorem State.endWire_of_idle {s : State} {p : Nat} (h : (s.port p).wire = none) : s.endWire p = s := by
  unfold State.endWire; rw [h]

theorem State.atLeast_now (s : State) (w : Nat) : (s.atLeast w).time.now = max s.time.now w := by
  unfold State.atLeast; dsimp only; split <;> omega

/-- A still endpoint lets time pass and nothing else. -/
theorem State.runTo_of_still {s : State} {w : Nat} (h : s.still w) : s.runTo w = s.atLeast w := by
  obtain ⟨h1, h2, h3⟩ := h
  have key : ∀ (l : List Nat), l.foldl State.endWire (s.atLeast w) = s.atLeast w := by
    intro l
    induction l with
    | nil => rfl
    | cons p l ih => rw [List.foldl_cons, State.endWire_of_idle (s := s.atLeast w) (h1 p)]; exact ih
  unfold State.runTo
  dsimp only
  rw [key, State.departs_of_still (fun j hj => by rw [State.atLeast_now]; exact h2 j hj), State.pace_of_still (s := s.atLeast w) h3]

theorem State.atLeast_self (s : State) : s.atLeast s.time.now = s := by
  unfold State.atLeast; simp

/-- Whether a head is discarded does not depend on what the buffer holds. -/
theorem State.headDrop_txq (s : State) (p : Nat) (fr : TxFrame) (l : List TxFrame) :
    (s.modPort p fun q => { q with txq := l }).headDrop p fr = s.headDrop p fr := by
  have e := s.port_modPort_same p fun q => { q with txq := l }
  have e1 : (s.modPort p fun q => { q with txq := l }).preemptable p = s.preemptable p := by
    funext c; simp only [State.preemptable, e]; rfl
  have e2 : (s.modPort p fun q => { q with txq := l }).longest p fr.cls = s.longest p fr.cls := by
    simp only [State.longest, State.windows]
    have : (s.modPort p fun q => { q with txq := l }).classOpen p fr.cls false = s.classOpen p fr.cls false := by
      funext w; simp only [State.classOpen, State.holdsClaim, e, e1]; rfl
    rw [this]; rfl
  have e3 : ∀ n, (s.modPort p fun q => { q with txq := l }).occupancy p n = s.occupancy p n := by
    intro n; simp only [State.occupancy, State.bytesPerTick, e]
  have e4 : (s.modPort p fun q => { q with txq := l }).isUp p = s.isUp p := by simp only [State.isUp, e]
  simp only [State.headDrop, e1, e2, e3, e4, e]
  rfl

/-- A head that is not discarded is still there after the heads have been judged. -/
theorem State.purge_of_still {s : State} {p : Nat} {fr : TxFrame} (hq : (s.port p).txq = [fr]) (hd : s.headDrop p fr = none)
    (h2 : ∀ j ∈ s.xfer.jobs, j.gone s.time.now = false) (h3 : ∀ x ∈ s.mover.chans, x.2.enabled = false ∨ wKind x.2.live.watch = 0)
    (hl : smSet s.ports p (s.port p) = s.ports) : s.purge p = s := by
  have e : s.purgeHeads p = s := by
    unfold State.purgeHeads
    rw [hq]
    simp only [List.foldl_cons, List.foldl_nil, List.any_nil, Bool.false_eq_true, if_false]
    rw [State.headDrop_txq, hd]
    dsimp only
    rw [State.modPort_modPort]
    have : ({ s.port p with txq := [] ++ [fr] ++ [] } : PortSt) = s.port p := by
      rw [← hq]; simp
    show { s with ports := smSet s.ports p { s.port p with txq := [] ++ [fr] ++ [] } } = s
    rw [this, hl]
  unfold State.purge
  rw [e, State.departs_of_still h2, State.pace_of_still h3]

/-- The first element of a sorted list has the least key. -/
theorem head_sortBy {α : Type} (key : α → Nat) (l : List α) (a : α) (r : List α) (h : sortBy key l = a :: r) :
    ∀ y ∈ sortBy key l, key a ≤ key y := by
  have ins : ∀ (x : α) (m : List α), (∀ b t, m = b :: t → ∀ y ∈ m, key b ≤ key y) →
      ∀ b t, sortBy.insertBy' key x m = b :: t → ∀ y ∈ sortBy.insertBy' key x m, key b ≤ key y := by
    intro x m hm b t hb y hy
    cases m with
    | nil => simp [sortBy.insertBy'] at hb hy; rw [hy, hb.1]
    | cons c m =>
      have hc := hm c m rfl
      rw [mem_insertBy'] at hy
      unfold sortBy.insertBy' at hb
      split at hb
      · rename_i hx
        obtain ⟨rfl, -⟩ := List.cons.inj hb
        rcases hy with rfl | hy
        · exact Nat.le_refl _
        · exact Nat.le_trans hx (hc y hy)
      · obtain ⟨rfl, -⟩ := List.cons.inj hb
        rcases hy with rfl | hy
        · omega
        · exact hc y hy
  have key' : ∀ (xs acc : List α), (∀ b t, acc = b :: t → ∀ y ∈ acc, key b ≤ key y) →
      ∀ b t, xs.foldl (fun acc x => sortBy.insertBy' key x acc) acc = b :: t →
        ∀ y ∈ xs.foldl (fun acc x => sortBy.insertBy' key x acc) acc, key b ≤ key y := by
    intro xs
    induction xs with
    | nil => intro acc h; exact h
    | cons x xs ih => intro acc hacc; exact ih _ (ins x acc hacc)
  exact key' l.reverse [] (by intro b t h; cases h) a r h

/-- The first instant at which the only frame of a port may leave is now, when now is one of them. -/
theorem State.chances_head {s : State} {p c : Nat}
    (h : if s.inNet then s.nextTick s.time.now = s.time.now ∧ s.time.now < s.tickAt s.ticks else s.time.now < s.ungatedEnd) :
    ∃ rest, s.chances p c = s.time.now :: rest := by
  have hmem : s.time.now ∈ s.chances p c := by
    unfold State.chances
    dsimp only
    rw [mem_sortBy, List.mem_filter, List.mem_filter, List.mem_map]
    split at h
    · rename_i hn
      simp only [hn, if_true]
      exact ⟨⟨⟨_, by simp, h.1⟩, by simp⟩, by simp [h.2]⟩
    · rename_i hn
      simp only [hn]
      exact ⟨⟨⟨_, by simp, rfl⟩, by simp⟩, by simp [h]⟩
  have hge : ∀ x ∈ s.chances p c, s.time.now ≤ x := by
    intro x hx
    unfold State.chances at hx
    dsimp only at hx
    rw [mem_sortBy, List.mem_filter, List.mem_filter] at hx
    simpa using hx.1.2
  cases hc : s.chances p c with
  | nil => rw [hc] at hmem; cases hmem
  | cons a r =>
    have h1 : a ≤ s.time.now := head_sortBy id _ a r hc s.time.now hmem
    have h2 := hge a (by rw [hc]; simp)
    exact ⟨r, by rw [Nat.le_antisymm h1 h2]⟩

/-- The one frame of a buffer is the head of its class and of no other. -/
theorem PortSt.head_single {q : PortSt} {fr : TxFrame} (h : q.txq = [fr]) (c : Nat) :
    q.head c = if fr.cls = c then some fr else none := by
  unfold PortSt.head; rw [h]
  by_cases e : fr.cls = c <;> simp [e]

/-- A frame that may start now is what the port picks. -/
theorem State.pick_single {s : State} {p : Nat} {fr : TxFrame} {close : Nat} (hq : (s.port p).txq = [fr]) (hc : fr.cls < 8)
    (hp : s.preemptable p fr.cls = false) (hg : s.headSays p fr = .go close) : s.pick p true = some (fr, close) := by
  have key : ∀ c, (if s.preemptable p c = true then none
      else match (s.port p).head c with
        | none => none
        | some fr => (match s.headSays p fr with
          | .go close => some (fr, close)
          | _ => none)) = if fr.cls = c then some (fr, close) else none := by
    intro c
    rw [PortSt.head_single hq]
    by_cases e : fr.cls = c
    · subst e; simp [hp, hg]
    · simp [e]
  have e : s.pick p true = classesDown.findSome? fun c => if fr.cls = c then some (fr, close) else none :=
    congrArg (fun f => classesDown.findSome? f) (funext key)
  rw [e]
  interval_cases h : fr.cls <;> simp [classesDown]

/-- A head that may start is counted as held back by nothing. -/
theorem State.countHeld_single {s : State} {p : Nat} {fr : TxFrame} {close : Nat} (hq : (s.port p).txq = [fr])
    (hg : s.headSays p fr = .go close) (c : Nat) : s.countHeld p c = s := by
  unfold State.countHeld
  rw [PortSt.head_single hq]
  split
  · rfl
  · rename_i f h
    split at h
    · cases h; rw [hg]
    · cases h

/-- The only frame of a port leaves its transmit buffer when it starts. -/
theorem State.startExpress_empties {s : State} {p tDep : Nat} {fr : TxFrame} (hq : (s.port p).txq = [fr])
    (hr : (s.port p).rest = none) :
    ((s.startExpress p fr tDep).port p).txq = [] ∧ ((s.startExpress p fr tDep).port p).rest = none := by
  have hc : (s.ownFrame p fr (s.depFor p fr tDep)).cls = fr.cls := by unfold State.ownFrame; split <;> rfl
  have hdrop : dropHead fr.cls [fr] = [] := by simp [dropHead]
  have hm : ∀ (t : State) (f : PortSt → PortSt), (t.port p).txq = [] ∧ (t.port p).rest = none →
      (∀ q, (f q).txq = q.txq ∧ (f q).rest = q.rest) → ((t.modPort p f).port p).txq = [] ∧ ((t.modPort p f).port p).rest = none := by
    intro t f h hf; rw [State.port_modPort_same, (hf _).1, (hf _).2]; exact h
  have hp : ∀ (t u : State), t.ports = u.ports → (u.port p).txq = [] ∧ (u.port p).rest = none →
      (t.port p).txq = [] ∧ (t.port p).rest = none := by
    intro t u h hu; unfold State.port at *; rw [h]; exact hu
  have h1 : ∀ w, ((s.modPort p fun q => { q with txq := dropHead fr.cls q.txq, laneFree := w }).port p).txq = [] ∧
      ((s.modPort p fun q => { q with txq := dropHead fr.cls q.txq, laneFree := w }).port p).rest = none := by
    intro w; rw [State.port_modPort_same]; dsimp only; rw [hq, hdrop]; exact ⟨rfl, hr⟩
  have hl : ∀ (t : State) (fr : TxFrame) (a b : Nat), (t.port p).txq = [] ∧ (t.port p).rest = none →
      ((t.leaves p fr a b).port p).txq = [] ∧ ((t.leaves p fr a b).port p).rest = none := by
    intro t fr a b h
    unfold State.leaves
    split
    · refine hp _ t ?_ h
      exact (show Part.same .ports t _ by simp [Part.same_refl])
    · exact hm _ _ h fun q => ⟨rfl, rfl⟩
    · rw [State.port_countP]; exact hm _ _ h fun q => ⟨rfl, rfl⟩
    · rw [State.port_countP]; exact h
    · rw [State.port_countP]; exact hm _ _ h fun q => ⟨rfl, rfl⟩
    · exact h
  unfold State.startExpress
  dsimp only
  rw [hc]
  split
  · unfold State.mpacketOut
    simp only [Bool.false_eq_true, if_false]
    rw [State.port_countP]
    exact hm _ (fun q => { q with verAt := _ }) (h1 _) fun q => ⟨rfl, rfl⟩
  · unfold State.mpacketOut
    simp only [if_true]
    rw [State.port_countP]
    exact h1 _
  · refine hl _ _ _ _ ?_
    refine hp _ (s.modPort p fun q => { q with txq := dropHead fr.cls q.txq, laneFree := s.time.now +
      (8 + frameLen (s.ownFrame p fr (s.depFor p fr tDep)).frame) * s.wByte p + 12 * s.wByte p }) ?_ (h1 _)
    exact (show Part.same .ports _ _ by simp [Part.same_refl])

/-- A frame that may start now is sent at once: the port does with it what it does with an express frame that starts. -/
theorem State.sendOwn_of_startsNow {s : State} {p tDep : Nat} {fr : TxFrame} (h : s.startsNow p fr) :
    s.sendOwn p fr tDep = (s.loaded p fr).startExpress p fr tDep := by
  obtain ⟨⟨h1, h2, h3⟩, hq, hr, hl, hc, hp, hd, ⟨close, hg⟩, hn⟩ := h
  have e : (s.loaded p fr).port p = { s.port p with txq := [fr] } := s.port_modPort_same p _
  have hw : ∀ q, ((s.loaded p fr).port q).wire = none := by
    intro q
    by_cases hq' : q = p
    · subst hq'; rw [e]; exact h1 q
    · rw [State.port_modPort_other _ _ _ _ hq']; exact h1 q
  have hx : ((s.loaded p fr).port p).txq = [fr] := by rw [e]
  have hf : (fun q : PortSt => { q with txq := addOwn fr q.txq }) (s.port p) = { s.port p with txq := [fr] } := by
    have : addOwn fr [] = [fr] := by unfold addOwn; split <;> rfl
    simp [hq, this]
  have e0 : (s.modPort p fun q => { q with txq := addOwn fr q.txq }) = s.loaded p fr := by
    simp only [State.loaded, State.modPort, smMod]
    exact congrArg (fun v => ({ s with ports := smSet s.ports p v } : State)) hf
  have h2' : ∀ j ∈ s.xfer.jobs, j.gone s.time.now = false := fun j hj => by simpa using h2 j hj
  have hs : smSet (s.loaded p fr).ports p ((s.loaded p fr).port p) = (s.loaded p fr).ports := by
    rw [e]; exact smSet_smSet _ _ _ _
  have eW := State.endWire_of_idle (hw p)
  have eP : (s.loaded p fr).purge p = s.loaded p fr := State.purge_of_still hx hd h2' h3 hs
  have eH : ∀ c, (s.loaded p fr).countHeld p c = s.loaded p fr := State.countHeld_single hx hg
  have eR : (s.loaded p fr).countRest p = s.loaded p fr := by
    unfold State.countRest; rw [e]; simp only [hr]
  have eT : (s.loaded p fr).runTo s.time.now = s.loaded p fr := by
    rw [State.runTo_of_still ⟨hw, h2, h3⟩]; exact State.atLeast_self _
  have can : (s.loaded p fr).canStartAt p fr.cls s.time.now = true := by
    unfold State.canStartAt
    have : (s.loaded p fr).atLeast s.time.now = s.loaded p fr := State.atLeast_self _
    dsimp only
    rw [this, eW, PortSt.head_single hx]
    simp [hp, hg, e, hl, h1 p]
  obtain ⟨rest, hch⟩ := State.chances_head (s := s.loaded p fr) (p := p) (c := fr.cls) hn
  have eM : ((s.loaded p fr).startExpress p fr tDep).mover = s.mover := by
    refine (show Part.same .mover (s.loaded p fr) _ from ?_)
    simp [Part.same_refl]
  have eA : ((s.loaded p fr).startExpress p fr tDep).pace = (s.loaded p fr).startExpress p fr tDep :=
    State.pace_of_still (by rw [eM]; exact h3)
  have eS : (s.loaded p fr).txStep p tDep = ((s.loaded p fr).startExpress p fr tDep).pace := by
    unfold State.txStep
    rw [eW, eP]
    have : classesDown.foldl (fun t c => t.countHeld p c) (s.loaded p fr) = s.loaded p fr := by
      simp only [classesDown, List.foldl_cons, List.foldl_nil, eH]
    dsimp only
    rw [this, eR, State.pick_single hx hc hp hg]
    have hl' : ¬ (s.loaded p fr).time.now < ((s.loaded p fr).port p).laneFree := by rw [e]; exact Nat.not_lt.2 hl
    simp only [hw p, Option.isSome_none, Bool.false_eq_true, if_false]
    exact if_neg hl'
  obtain ⟨eQ, eR'⟩ := State.startExpress_empties (s := s.loaded p fr) (p := p) (fr := fr) (tDep := tDep) hx (by rw [e]; exact hr)
  unfold State.sendOwn State.push
  rw [e0]
  dsimp only
  rw [eW, PortSt.head_single hx]
  have eI : ((s.loaded p fr).port p).wire.isSome = false := by rw [hw p]; rfl
  simp only [eI, Bool.and_false, Bool.false_eq_true, if_false]
  rw [hch]
  have ef : List.find? (fun w => (s.loaded p fr).canStartAt p fr.cls w) ((s.loaded p fr).time.now :: rest) = some s.time.now := by
    exact List.find?_cons_of_pos can
  rw [ef]
  dsimp only
  rw [eT, eS, eA]
  have eC : ((s.loaded p fr).startExpress p fr tDep).countEaten p = (s.loaded p fr).startExpress p fr tDep := by
    have h0 : ∀ c, ((s.loaded p fr).startExpress p fr tDep).countEatenHead p c = (s.loaded p fr).startExpress p fr tDep := by
      intro c; unfold State.countEatenHead PortSt.head; rw [eQ]; rfl
    unfold State.countEaten
    simp only [classesDown, List.foldl_cons, List.foldl_nil, h0]
    unfold State.countEatenRest; rw [eR']
  rw [eC, eA]

/-! What a frame that starts leaves behind. -/

/-- The start of a frame writes no register of a port page. -/
theorem State.find_started_other (s : State) (p cls tDep : Nat) (fr : Option TxFrame) (a : Nat) (hp : p < 1024) (ha : 0x200000 ≤ a) :
    smFind (s.started p cls tDep fr).regs a = smFind s.regs a := by
  have hc : ∀ (u : State) (k : PageKind) (i po : Nat), pageBase k i + po < 0x200000 → smFind (u.count k i po).regs a = smFind u.regs a :=
    fun u k i po h => State.find_count_other _ _ _ _ _ (by omega)
  have hs : (s.sample (p / 16) 1 cls
      (((tDep * wFrac : Int) - s.time.fabOff - (8 * s.wByte p : Nat) - ((s.time.now : Int) - s.gateToWire p)) / wTick).toNat).regs = s.regs := by
    unfold State.sample; dsimp only; repeat' split
    all_goals rfl
  have ht : ∀ (u : State) (f : TxFrame), smFind (u.traceTx p f 0).regs a = smFind u.regs a := by
    intro u f
    unfold State.traceTx
    exact State.find_traceEv_other _ _ _ _ _ _ _ _ _ _ (by simp [pageBase, R.TRACE_LOST_FULL]; omega) (by simp [pageBase, R.TRACE_LOST_RATE]; omega)
  have hf : ∀ (u : State) (id : Nat), (u.freeTs id).regs = u.regs := by
    intro u id; unfold State.freeTs; repeat' split
    all_goals rfl
  have hcap : ∀ (u : State) (id st : Nat) (b : Bool), smFind (u.captureTs id p st b).regs a = smFind u.regs a := by
    intro u id st b
    unfold State.captureTs
    split
    · split
      · rw [hc _ _ _ _ (by simp [pageBase, R.PGRP_TS_CAPTURED]; omega)]
        show smFind (u.freeTs id).regs a = _
        rw [hf]
      · rfl
    · rfl
  have hd : ∀ u : State, smFind (u.count .time 0 R.TIME_DIAG_TS_LOST).regs a = smFind u.regs a := fun u =>
    hc _ _ _ _ (by simp [pageBase, R.TIME_DIAG_TS_LOST])
  unfold State.started
  dsimp only
  repeat' split
  all_goals simp only [hcap, ht, hd, hs]

/-- A frame that is sent at once: what has happened when its sender's own bookkeeping (`State.leaves`) begins. -/
theorem State.startExpress_sent (s : State) (p tDep : Nat) (fr : TxFrame) (hp : p < 1024) (hv : fr.origin ≠ .verify)
    (hr : fr.origin ≠ .respond) :
    ∃ (u : State) (fin : Nat), s.startExpress p fr tDep = u.leaves p (s.ownFrame p fr (s.depFor p fr tDep)) (s.depFor p fr tDep) fin ∧
      u.outs = s.outs ++ [.frame p (s.ownFrame p fr (s.depFor p fr tDep)).frame true] ∧
      (∃ w, u.port p = { s.port p with txq := dropHead (s.ownFrame p fr (s.depFor p fr tDep)).cls (s.port p).txq, laneFree := w }) ∧
      (∀ q, q ≠ p → u.port q = s.port q) ∧ u.time = s.time ∧ u.node = s.node ∧
      (∀ a, 0x200000 ≤ a → smFind u.regs a = smFind s.regs a) := by
  have ho : (s.ownFrame p fr (s.depFor p fr tDep)).origin = fr.origin := by unfold State.ownFrame; split <;> rfl
  obtain ⟨dep, hd⟩ : ∃ dep : Nat, s.depFor p fr tDep = dep := ⟨_, rfl⟩
  rw [hd] at ho ⊢
  obtain ⟨f, hf⟩ : ∃ f : TxFrame, s.ownFrame p fr dep = f := ⟨_, rfl⟩
  rw [hf] at ho ⊢
  refine ⟨((s.modPort p fun q => { q with txq := dropHead f.cls q.txq, laneFree := s.time.now + (8 + frameLen f.frame) * s.wByte p + 12 * s.wByte p }).out
    (.frame p f.frame true)).started p f.cls dep (some f), s.time.now + (8 + frameLen f.frame) * s.wByte p, ?_, ?_, ?_, ?_, ?_, ?_, ?_⟩
  · unfold State.startExpress
    rw [hd]; dsimp only; rw [hf]
    split
    · rename_i h; exact absurd (ho.symm.trans h) hv
    · rename_i h; exact absurd (ho.symm.trans h) hr
    · rfl
  · refine (show Part.same .outs ((s.modPort p fun q => { q with txq := dropHead f.cls q.txq, laneFree := s.time.now + (8 + frameLen f.frame) * s.wByte p + 12 * s.wByte p }).out
      (.frame p f.frame true)) _ from ?_)
    simp [Part.same_refl]
  · refine ⟨s.time.now + (8 + frameLen f.frame) * s.wByte p + 12 * s.wByte p, ?_⟩
    have e : ∀ t u : State, t.ports = u.ports → t.port p = u.port p := fun t u h => by unfold State.port; rw [h]
    refine (e _ ((s.modPort p fun q => { q with txq := dropHead f.cls q.txq, laneFree := s.time.now + (8 + frameLen f.frame) * s.wByte p + 12 * s.wByte p })) ?_).trans
      (State.port_modPort_same _ _ _)
    exact (show Part.same .ports _ _ by simp [Part.same_refl])
  · intro q hq
    have e : ∀ t u : State, t.ports = u.ports → t.port q = u.port q := fun t u h => by unfold State.port; rw [h]
    refine (e _ ((s.modPort p fun q => { q with txq := dropHead f.cls q.txq, laneFree := s.time.now + (8 + frameLen f.frame) * s.wByte p + 12 * s.wByte p })) ?_).trans
      (State.port_modPort_other _ _ _ _ hq)
    exact (show Part.same .ports _ _ by simp [Part.same_refl])
  · exact State.started_same (pt := .time) (s₀ := s) p f.cls dep (some f) (by decide) (by decide) (by decide) (by decide) (by decide) (by decide) rfl
  · exact State.started_same (pt := .node) (s₀ := s) p f.cls dep (some f) (by decide) (by decide) (by decide) (by decide) (by decide) (by decide) rfl
  · intro a ha
    rw [State.find_started_other _ _ _ _ _ _ hp ha]; rfl

end Sys2Proof.Machine
end

