-- ==== Sys2Proof/WellFormed.lean ====
section
/-! DEFINITION. Well-formed commands: the bounds that the spec puts on what a command carries. -/

namespace Sys2Proof

/-- Instances of a block type (R25). -/
def PageKind.pages : PageKind → Nat
  | .pgrp => 64
  | .port => 1024
  | .mch => 16
  | _ => 1

/-- A page of the block base table (R25). -/
def PageRef.wf (r : PageRef) : Bool := r.inst < r.kind.pages

/-- An access of one of the sixteen cores to the 256 MiB register region (R3, R26, R27). -/
def Access.wf (a : Access) : Bool :=
  a.core < 16 && a.off < 2 ^ 28 && (a.width == 1 || a.width == 2 || a.width == 4 || a.width == 8)

/-- A core's access: an atomic one is of 4 or 8 bytes and aligned (R321). -/
def CoreAccess.wf : CoreAccess → Bool
  | .reg a => a.wf
  | .mem core addr width op => core < 16 && addr < 2 ^ 48 && (match op with
    | .load | .store _ => width == 1 || width == 2 || width == 4 || width == 8
    | _ => (width == 4 || width == 8) && addr % width == 0)

/-- An 802.1Q tag. -/
def VlanTag.wf (t : VlanTag) : Bool := t.pcp < 8 && t.vid < 4096

/-- A frame whose tag, if it has one, is a tag. -/
def Frame.wf (f : Frame) : Bool := match f.tag with
  | some t => t.wf
  | none => true

/-- A clapper whose fields fit their widths (R49). -/
def Clapper.wf (c : Clapper) : Bool :=
  c.hdrCycle < 2 ^ 16 && c.cycle < 2 ^ 48 && c.origin < 2 ^ 80 && -(2 ^ 63) ≤ c.correction && c.correction < 2 ^ 63
    && c.tbRank < 256 && c.tbNode < 2 ^ 16 && c.steps < 256 && c.ticks < 2 ^ 24 && c.flags < 256

/-- A HELLO whose fields fit their widths (R133). -/
def Hello.wf (h : Hello) : Bool :=
  h.node < 2 ^ 16 && h.port < 1024 && h.tag < 2 ^ 16 && h.etherType < 2 ^ 16

/-- A received codeword: symbols of ten bits (R122, R124). -/
def Codeword.wf : Codeword → Bool
  | .std _ _ => true
  | .rs symbols => symbols.length == 544 && symbols.all (fun s => s < 1024)
  | .ll symbols => symbols.length == 272 && symbols.all (fun s => s < 1024)
  | .lockLost => true

/-- A PAUSE or priority flow control frame (R138). -/
def PauseFrame.wf (f : PauseFrame) : Bool :=
  f.enabled < 2 ^ 16 && f.quanta.length == (if f.pfc then 8 else 1) && f.quanta.all (fun q => q < 2 ^ 16)

/-- A preemptable mPacket: counters of two bits, at least one byte (R151). -/
def Mpacket.wf (m : Mpacket) : Bool := m.frameNo < 4 && m.fragNo < 4 && !m.data.isEmpty

/-- Errors found in staging memory (R204) or on the link of LPDDR (R207). -/
def eccWf (e : EccList) : Bool :=
  e.all fun x => x.1 < 2 ^ 29 || (0x1000000000 ≤ x.1 && decide (x.1 < 0x2000000000))

/-- The bounds on what a command carries. A command whose operands are bounded by their types is well formed. -/
def Instr.wf : Instr → Bool
  | .registerWrite a => a.wf
  | .blockEnable p _ => p.wf
  | .blockReset p _ => p.wf
  | .intCauseClear p _ _ => p.wf
  | .shadowCommit p => p.wf
  | .shadowDiscard p => p.wf
  | .commitApplied p => p.wf
  | .snapTake p => p.wf
  | .snapshotCapture p => p.wf
  | .counterWrite p off _ _ => p.wf && off < 0x1000
  | .clapperRx _ c _ => c.wf
  | .frameReceive r => r.frame.wf
  | .slateTableWrite off _ => off < 2 ^ 28
  | .helloRx _ h => h.wf
  | .codewordRx _ cw _ => cw.wf
  | .pauseRx _ f => f.wf
  | .fragmentRx _ m => m.wf
  | .hubReceive e => eccWf e
  | .scrub _ e => eccWf e
  | .sqPoll _ e => eccWf e
  | .entryCopied _ e => eccWf e
  | .frameBuild _ e => eccWf e
  | .codecTestDone e => eccWf e
  | .descriptorHandover _ e => eccWf e
  | .burstDataReturn e _ => eccWf e
  | .thermalSample ts => ts.length == 16
  | .telemetryRefresh t => t.rails.length == 10
  | _ => true

end Sys2Proof
end

