-- ==== Sys2Proof/Tests/Slice0.lean ====
section
/-! SUPPORT. The model's own tests. Each theorem about a statement shows states and operands that meet the hypotheses of its clauses, and
what the command leaves there; expected values are worked out by hand from the rules. -/

namespace Sys2Proof.Tests

open Sys2Proof Sys2Proof.Machine

-- one theorem after the other: each evaluation in the kernel would else hold a thread of its own
set_option Elab.async false

/-- The state a command leaves. -/
def after (c : Instr) (s : State) : State :=
  match exec c s with
  | .next t => t
  | _ => s

/-- The first error code and detail held in a page. -/
def errOf (s : State) (k : PageKind) (i : Nat) : Nat × Nat :=
  ((s.hdr k i).errCode.toNat % 2 ^ 16, (s.hdr k i).errCode.toNat / 2 ^ 16)

/-- A counter of a page. -/
def ctr (s : State) (k : PageKind) (i po : Nat) : Nat := (smGet s.regs (pageBase k i + po) 0).toNat

/-- The endpoint with every feature accepted. -/
def up : State := { featAcc := 0x3FFFFFF, featLock := true, featOk := true }

/-- The endpoint held in internal reset. -/
def held : State := { up with pwr := { up.pwr with held := true } }

/-- A frame that a port is to send starts at once, as a test decides it. -/
def startsB (s : State) (p : Nat) (fr : TxFrame) : Bool :=
  s.ports.all (fun x => x.2.wire.isNone) && s.xfer.jobs.all (fun j => !j.gone s.time.now) && s.mover.chans.isEmpty
    && (s.port p).txq.isEmpty && (s.port p).rest.isNone && decide ((s.port p).laneFree ≤ s.time.now) && decide (fr.cls < 8)
    && !(s.loaded p fr).preemptable p fr.cls && ((s.loaded p fr).headDrop p fr).isNone
    && (match (s.loaded p fr).headSays p fr with | .go _ => true | _ => false)
    && (if s.inNet then decide (s.nextTick s.time.now = s.time.now) && decide (s.time.now < s.tickAt s.ticks)
        else decide (s.time.now < s.ungatedEnd))

theorem startsNow_of {s : State} {p : Nat} {fr : TxFrame} (h : startsB s p fr = true) : s.startsNow p fr := by
  unfold startsB at h
  simp only [Bool.and_eq_true, List.all_eq_true, List.isEmpty_iff, Option.isNone_iff_eq_none, Bool.not_eq_true', decide_eq_true_eq] at h
  obtain ⟨⟨⟨⟨⟨⟨⟨⟨⟨⟨h1, h2⟩, h3⟩, h4⟩, h5⟩, h6⟩, h7⟩, h8⟩, h9⟩, h10⟩, h11⟩ := h
  refine ⟨⟨?_, ?_, ?_⟩, h4, h5, h6, h7, h8, h9, ?_, ?_⟩
  · intro q
    unfold State.port smGet
    cases hf : smFind s.ports q with
    | none => rfl
    | some x => exact h1 (q, x) (mem_of_smFind hf)
  · intro j hj
    rw [Nat.max_self]
    exact h2 j hj
  · rw [h3]; intro x hx; cases hx
  · split at h10
    · rename_i close hc; exact ⟨close, hc⟩
    · cases h10
  · split at h11 <;> rename_i hn
    · simp only [Bool.and_eq_true, decide_eq_true_eq] at h11
      rw [if_pos hn]; exact h11
    · rw [if_neg hn]; exact of_decide_eq_true h11

/-! The machine as a whole. -/

theorem test_witness_step :
    step { up with pending := [.take, .emit] } = exec .take { up with pending := [.emit] } ∧ up.pending = [] :=
  ⟨rfl, by decide +kernel⟩

theorem test_witness_features_fixed :
    up.pwr.held = false ∧ up.featLock = true ∧ up.featOk = true ∧ (after .featLock up).featAcc = up.featAcc ∧
    (after .deviceReset up).pwr.held = true := by decide +kernel

theorem test_witness_feature_lock :
    (let s := { State.reset with featAcc := 0x3FFFFFF }
     s.pwr.held = false ∧ s.featLock = false ∧ bit s.featAcc 0 = true ∧ (after .featLock s).featLock = true) ∧
    (after .featLockAccepted { State.reset with featLock := true }).featOk = true ∧
    (let s := { State.reset with featAcc := 0xC000001 }
     bit s.featAcc 26 = true ∧ (∀ a, a < 26 → bit s.featAcc a = true → a < 26) ∧ errOf (after .featLock s) .global 0 = (3, 26) ∧
     (after .featLock s).featLock = false) ∧
    (let s := { State.reset with featAcc := 2 }
     bit s.featAcc 0 = false ∧ errOf (after .featLock s) .global 0 = (4, 0)) := by decide +kernel

theorem test_witness_causes_and_errors :
    (let s := up.err .mem 0 5 7 9
     (up.hdr .mem 0).errCode = 0 ∧ (s.hdr .mem 0).errCode ≠ 0 ∧ errOf s .mem 0 = (5, 7) ∧ ((s.err .mem 0 6 0 0).hdr .mem 0).errMore = true ∧
     s.pwr.held = false ∧ hdrFeat .mem 0x020 = 0 ∧ (1#32).getLsbD 0 = true ∧
     ((after (.intCauseClear ⟨.mem, 0⟩ 1 16) s).hdr .mem 0).errCode = 0 ∧
     ((after (.intCauseClear ⟨.mem, 0⟩ 1 16) s).hdr .mem 0).intCause = 16#32 &&& causeMask .mem) ∧
    (let s := up.err .mover 0 5 7 9
     hdrFeat .mover 0x020 = 18 ∧ s.feat 18 = true ∧ ((after (.intCauseClear ⟨.mover, 0⟩ 1 0) s).hdr .mover 0).errCode = 0) ∧
    State.reset.featOk = false := by decide +kernel

theorem test_witness_enable_and_reset :
    up.opens .mem 0x018 0 ∧ plainPage .mem ∧ 0 < instances .mem ∧ resettable .mem R.MEM_SCRUB_CFG = true ∧
    resettable .mem R.MEM_SCRUB_LINES = false ∧
    ((after (.blockEnable ⟨.mem, 0⟩ true) up).hdr .mem 0).enable = true ∧
    (let s := (up.setReg .mem 0 R.MEM_SCRUB_CFG 5).count .mem 0 R.MEM_SCRUB_LINES
     let t := after (.blockReset ⟨.mem, 0⟩ true) s
     (t.hdr .mem 0).enable = true ∧ t.reg .mem 0 R.MEM_SCRUB_CFG = resetOf .mem R.MEM_SCRUB_CFG ∧
     ctr t .mem 0 R.MEM_SCRUB_LINES = 1) := by decide +kernel

theorem test_witness_commit :
    up.opens .evt 0x038 (hdrFeat .evt 0x038) ∧
    (let s := after (.shadowCommit ⟨.evt, 0⟩) up
     (s.hdr .evt 0).pending = true ∧ (s.hdr .evt 0).commitSeq = 1 ∧
     ((after (.shadowDiscard ⟨.evt, 0⟩) s).hdr .evt 0).pending = false ∧
     ((after (.commitApplied ⟨.evt, 0⟩) s).hdr .evt 0).appliedSeq = 1 ∧
     ((after (.commitApplied ⟨.evt, 0⟩) s).hdr .evt 0).intCause = 8#32) := by decide +kernel

theorem test_witness_snapshot :
    up.opens .mem 0x040 (hdrFeat .mem 0x040) ∧
    (let s := after (.snapTake ⟨.mem, 0⟩) (up.count .mem 0 R.MEM_SCRUB_LINES)
     (s.hdr .mem 0).snapBusy = true ∧ s.time.cycle < 2 ^ 48 ∧ R.MEM_SCRUB_LINES ∈ counterOffs .mem ∧
     (let h := (after (.snapshotCapture ⟨.mem, 0⟩) s).hdr .mem 0
      h.snapBusy = false ∧ h.snapSeq = 1 ∧ bit h.snapCycle 63 = true ∧ smGet h.snapRegs (R.MEM_SCRUB_LINES + 0x400) 0 = 1#64 ∧
      h.intCause = 4#32)) := by decide +kernel

theorem test_witness_counters :
    (let s := up.setReg .mem 0 R.MEM_SCRUB_LINES 0xFFFFFFFFFFFF#64
     smGet (s.count .mem 0 R.MEM_SCRUB_LINES).regs (pageBase .mem 0 + R.MEM_SCRUB_LINES) 0 = 0x8000000000000000#64) ∧
    (findRow .mem R.MEM_SCRUB_LINES).any (fun x => x.1.acc == .ctr && x.1.feat == 0) = true ∧ up.opens .mem R.MEM_SCRUB_LINES 0 ∧
    ctr (after (.counterWrite ⟨.mem, 0⟩ R.MEM_SCRUB_LINES 0xFFFFFFFFFFFE#64 3) up) .mem 0 R.MEM_SCRUB_LINES = 0x8000000000000001 := by
  decide +kernel

theorem test_witness_register_accesses :
    up.pwr.held = false ∧ 1023 < instances .port ∧
    (after (.registerWrite (.reg ⟨0, pageBase .port 1023, 4, none⟩)) up).outs = [.readData 0 0x2103FF#64] ∧
    outsideTable 0x12000 ∧ (0x12000 : Nat) < 2 ^ 28 ∧
    errOf (after (.registerWrite (.reg ⟨3, 0x12000, 4, some 1⟩)) up) .global 0 = (6, 0) ∧
    (after (.registerWrite (.reg ⟨3, 0x12000, 4, none⟩)) up).outs = [.readData 3 0] ∧
    errOf (after (.registerWrite (.reg ⟨0, pageBase .mch 15, 8, none⟩)) up) .mch 15 = (5, 0) ∧
    errOf (after (.registerWrite (.reg ⟨0, pageBase .mem 0 + R.MEM_SCRUB_CFG, 4, some 5⟩)) State.reset) .global 0 = (11, 0) ∧
    (after (.registerWrite (.reg ⟨0, pageBase .mem 0 + R.MEM_SCRUB_CFG, 4, some 0x12345⟩)) up).reg .mem 0 R.MEM_SCRUB_CFG = 0x2345#64 := by
  decide +kernel

theorem test_witness_memory_accesses :
    (let s := { up with mem := [(0x100, 5), (0x103, 1)] }
     s.inMap 0x100 4 = true ∧ s.errs = [] ∧ s.poisoned 0x100 4 = false ∧ s.memSafe ∧
     (after (.registerWrite (.mem 2 0x100 4 .load)) s).outs = [.readData 2 0x01000005] ∧
     (after (.registerWrite (.mem 2 0x101 1 (.store 7))) s).mem = [(0x100, 5), (0x101, 7), (0x103, 1)] ∧
     (let t := after (.registerWrite (.mem 2 0x100 4 (.amo .add 3))) s
      t.readByte 0x100 = 8 ∧ t.outs = [.readData 2 0x01000005]) ∧
     inStaging 0x100 4 = true ∧ (after (.registerWrite (.mem 2 0x100 4 .lr)) s).outs = [.accessFault 2]) ∧
    up.inMap 0x40000000 4 = false ∧ inRegs 0x40000000 4 = false ∧ inBootRom 0x40000000 4 = false ∧
    (after (.registerWrite (.mem 2 0x40000000 4 .load)) up).outs = [.accessFault 2] := by decide +kernel

theorem test_witness_frame_of_parts :
    Part.memory ∉ mayTouch .chReset ∧ (after .chReset up).mem = up.mem ∧ up.memSafe := by decide +kernel

/-! Fabric time and civil time. -/

theorem test_witness_pulse :
    up.pwr.held = false ∧
    (let t := after (.timeDistributionPulse 1 [9] [(5, 5)]) up
     t.time.now = wPulse ∧ t.replica 9 = { missed := 1 } ∧ (t.replica 3).missed = 1 ∧ (t.replica 3).valid = false ∧
     (t.replica 5).diff = 5 ∧ (t.replica 5).agreed = 1 ∧ (t.replica 5).valid = false ∧ (t.replica 69).missed = 0) ∧
    (let s := { up with time := { up.time with rateNext := 5, ratePrev := 3, rateAt := wPulse } }
     hubEdge wPulse ≤ s.time.rateAt ∧ (after (.timeDistributionPulse 0 [] []) s).time.rateNow = 3 ∧
     (after (.timeDistributionPulse 0 [] []) { s with time := { s.time with rateAt := 0 } }).time.rateNow = 5) := by decide +kernel

/-- A port that is up and agreed the delay exchange, in a JOINED node. -/
def portUp (p : Nat) (s : State) : State :=
  { s with ports := smSet s.ports p { link := { state := .up, used := 0x7F }, timeCfg := 0x82, txActive := false } }

/-- A JOINED node with a cycle. -/
def joined : State :=
  { portUp 0 up with time := { up.time with hasCycle := true, cycle := 8 }
                     node := { up.node with state := .joined, followed := some (1, 9) } }

/-- A node in OFF whose port 0 is up. -/
def lone : State := portUp 0 up

theorem test_witness_delay_sends :
    lone.startsNow 0 (lone.linkFrame 0 7 tDelayReq .delayReq) ∧
    (lone.seenAt 0 50).startsNow 0 ((lone.seenAt 0 50).linkFrame 0 7 tDelayResp (.delayResp 3 ((lone.seenAt 0 50).toHub 0 50))) ∧
    lone.delayOn 0 = true ∧ lone.time.hasCycle = false ∧ lone.runTo (lone.nextReq 0) = lone ∧ lone.dropReq 0 = lone ∧
    (let t := after (.delayReqTx 0 0) lone
     (t.port 0).req = some (1, 0, 0) ∧ (t.port 0).reqAt = some 0 ∧ t.outs.length = 1 ∧ t.nextReq 0 = 15625 * wTick ∧
     ctr t .port 0 R.PORT_DELAY_REQ_TX = 1) ∧
    ctr (after (.delayReqRx 0 3 9 50 80) lone) .port 0 R.PORT_DELAY_RESP_TX = 1 := by
  refine ⟨startsNow_of (by decide +kernel), startsNow_of (by decide +kernel), ?_⟩
  decide +kernel

/-- Port 0 of a JOINED node with a request that waits and measurements that it holds. -/
def asking (ok : Bool) (meas : List Int) : State :=
  { joined with ports := smSet joined.ports 0 { joined.port 0 with req := some (1, 100, 8), delayOk := ok, meas, rejRun := 3 } }

theorem test_witness_delay_answers :
    (let s := asking false [20, 20, 20]
     s.delayOn 0 = true ∧ ((s.seenAt 0 200).port 0).req = some (1, 100, 8) ∧
     (let t := after (.delayRespRx 0 1 true 10 200) s
      (t.port 0).req = none ∧ (t.port 0).meas = [20, 20, 20, 90] ∧ (t.port 0).delayOk = true ∧ t.linkDelay 0 = 150 * wFrac / 8) ∧
     ctr (after (.delayRespRx 0 2 true 10 200) s) .port 0 R.PORT_DELAY_REJECTED = 1 ∧
     ctr (after (.delayRespRx 0 1 true (20480 * 65536 + 1) 200) s) .port 0 R.PORT_DELAY_REJECTED = 1 ∧
     ((after (.delayRespRx 0 1 false (2048 * 65536) 200) s).port 0).req = none) ∧
    (let s := asking true [20, 20, 20, 20]
     ((after (.delayRespRx 0 1 true 80 (200 + 262144)) s).port 0).meas = [20, 20, 20, 20, 262164] ∧
     ((after (.delayRespRx 0 1 true 80 (200 + 262145)) s).port 0).meas = [] ∧
     ((after (.delayRespRx 0 1 true 80 (200 + 262145)) s).port 0).delayOk = false) ∧
    (let s := asking false []
     (after (.delayTimeout 0) s).ports = s.ports ∧
     (let u := { s with time := { s.time with cycle := 12 } }
      4 ≤ cycDiff u.time.cycle 8 ∧ ctr (after (.delayTimeout 0) u) .port 0 R.PORT_DELAY_TIMEOUT = 1) ∧
     (let u := { s with time := { s.time with cycle := 9 } }
      1 ≤ cycDiff u.time.cycle 8 ∧ u.delayDue 0 = true ∧ ctr (after (.delayTimeout 0) u) .port 0 R.PORT_DELAY_TIMEOUT = 1) ∧
     (let u := { s with time := { s.time with hasCycle := false } }
      ((u.runTo (u.nextReq 0)).port 0).req.isSome = true ∧ ((after (.delayTimeout 0) u).port 0).req = none)) := by decide +kernel

/-- A clapper of the followed timebase. -/
def clap : Clapper :=
  { hdrCycle := 8, cycle := 8, origin := 1000000, correction := 0, tbRank := 1, tbNode := 9, steps := 1, ticks := 15625, flags := 0 }

/-- A JOINED node whose parent is port 0. -/
def follower : State :=
  { joined with
    ports := smSet joined.ports 0 { link := { state := .up }, timeCfg := 0x80, delayOk := true, meas := [0, 0, 0, 0] }
    time := { joined.time with parent := some 0, f := 5 } }

theorem test_witness_servo :
    follower.isUp 0 = true ∧ follower.node.state = .joined ∧
    (let u := follower.seenAt 0 1000100
     u.node.bellwether = false ∧ u.node.join = none ∧
     u.clapperValid clap = true ∧ bitsOf (u.port 0).timeCfg 1 0 = 0 ∧ clap.tbNode ≠ u.nodeId ∧
     u.node.followed = some (clap.tbRank, clap.tbNode) ∧ (u.port 0).delayOk = true ∧ u.time.parent = some 0 ∧
     u.time.holdover = false ∧ clap.ticks = u.ticks ∧
     (let off := u.clapperOffset 0 clap (u.toHub (0 / 16) 1000100)
      off = 12500 ∧ off.natAbs ≤ u.limHoldOff * wTick ∧ off.natAbs ≤ u.limLeave * wTick)) ∧
    (let t := after (.clapperRx 0 clap 1000100) follower
     t.time.offset = 12500 ∧ t.time.parentSteps = 1 ∧ t.time.rateNext = t.time.f + t.time.p ∧ t.time.f < 5 ∧ t.time.p < 0) ∧
    follower.clapperValid { clap with hdrCycle := 7 } = false ∧
    ctr (after (.clapperRx 0 { clap with hdrCycle := 7 } 0) follower) .port 0 R.PORT_CLAP_RX_INVALID = 1 ∧
    after (.clapperRx 0 clap 0) { follower with node := { follower.node with state := .halted } } =
      { follower with node := { follower.node with state := .halted } } := by decide +kernel

theorem test_witness_civil :
    up.opens .time R.TIME_CIVIL_CTRL 23 ∧ up.opens .time R.TIME_CIVIL_RATE 23 ∧ up.time.civValid = false ∧
    (let s := up.setReg .time 0 R.TIME_CIVIL_SET_SEC 77
     let t := after .civilStep s
     t.time.civSec = 77 ∧ t.time.civValid = true ∧ errOf (after .civilStep t) .time 0 = (0x0100, 0) ∧
     (after .civilInvalidate t).time.civValid = false ∧
     (let u := { t.setReg .mgmt 0 R.MGMT_PPS_OUT_CTRL 1 with time := { t.time with ppsOut := true } }
      (after .civilInvalidate u).outs = [.ppsOut false])) ∧
    (BitVec.ofInt 32 (-500000)).toInt.natAbs ≤ 500000 ∧ (after (.civilRateWrite (BitVec.ofInt 32 (-500000))) up).civilRate = -500000 ∧
    500000 < (500001#32).toInt.natAbs ∧ errOf (after (.civilRateWrite 500001) up) .time 0 = (0x0101, 0) ∧
    up.opens .time R.TIME_CIVIL_SET_NS 23 ∧ up.featOk = true ∧ 1000000000 ≤ fld (1000000000#64) 29 0 ∧
    errOf (after (.registerWrite (.reg ⟨0, pageBase .time 0 + R.TIME_CIVIL_SET_NS, 4, some 1000000000⟩)) up) .time 0 = (7, 0) ∧
    (after (.registerWrite (.reg ⟨0, pageBase .time 0 + R.TIME_CIVIL_SET_NS, 4, some 999999999⟩)) up).reg .time 0 R.TIME_CIVIL_SET_NS =
      999999999 := by decide +kernel

theorem test_witness_time_reads :
    (let s := { up with time := { up.time with now := 1000 * wNs + wNs / 2, cycle := 6, civSec := 3, pairCycle := 9, pairFab := 4 } }
     (after .nowNsRead s).outs = [.readData 0 1000] ∧ (after .nowNsRead s).time.fracLatch = 32768 ∧
     (after .nowNsRead s).time.cycLatch = 6 ∧ (after .civilSecRead s).outs = [.readData 0 3] ∧
     (after .civilSecRead s).time.civNsLatch = 1000 ∧ (after .pairCycleRead s).outs = [.readData 0 9] ∧
     (after .pairCycleRead s).time.pairFabL = 4) ∧
    (let s := { up.setReg .time 0 R.TIME_DIAG_TS_CTRL 0x00110001 with groups := [(1, { diag := [5, 6] })] }
     s.regF .time 0 R.TIME_DIAG_TS_CTRL 0 0 = 1 ∧ (after .diagTsPop s).outs = [.readData 0 5] ∧
     (smGet (after .diagTsPop s).groups 1 {}).diag = [6]) ∧
    (let s := { up.setReg .mgmt 0 R.MGMT_PPS_IN_CTRL 1 with time := { up.time with now := 40 * wNs } }
     s.feat 23 = true ∧ (after (.ppsInEdge true) s).time.ppsInNs = 40 ∧ (after (.ppsInEdge false) s).time.ppsInSeq = 0) ∧
    (let s := (up.setReg .mgmt 0 R.MGMT_PPS_OUT_CTRL 0x22).setReg .mgmt 0 R.MGMT_PPS_OUT_PERIOD 1000
     s.regF .mgmt 0 R.MGMT_PPS_OUT_CTRL 1 0 = 2 ∧ s.time.ppsOut = false ∧ (after .ppsOutEdge s).time.ppsOut = true ∧
     (after .ppsOutEdge s).time.now % (1000 * wNs) = 0 ∧
     (after .ppsOutWidthEnd (after .ppsOutEdge s)).outs = [.ppsOut true, .ppsOut false]) ∧
    (let s := { up.setReg .mgmt 0 R.MGMT_PPS_OUT_CTRL 1 with time := { up.time with civValid := true } }
     s.regF .mgmt 0 R.MGMT_PPS_OUT_CTRL 1 0 = 1 ∧ (after .ppsOutEdge s).outs = [.ppsOut true]) := by decide +kernel

theorem test_witness_diagnostic_capture :
    up.opens .time R.TIME_DIAG_TS_CTRL 0 ∧ bit (up.reg .time 0 R.TIME_DIAG_TS_CTRL) 0 = false ∧ up.ownerOf (resTsq 1) = 0 ∧
    (let t := after (.diagTsEnable 0x00110001) up
     t.ownerOf (resTsq 1) = ownerDiag 1 ∧ (after (.diagTsEnable 0x00110000) t).ownerOf (resTsq 1) = 0) ∧
    (let s := up.setOwner (resTsq 1) ownerXfer
     s.ownerOf (resTsq 1) ≠ 0 ∧ s.ownerOf (resTsq 1) ≠ ownerDiag 1 ∧
     errOf (after (.diagTsEnable 0x00110001) s) .time 0 = (1, resTsq 1)) := by decide +kernel

/-! The node. -/

theorem test_witness_node_commands :
    up.opens .cycle R.CYCLE_NODE_CTRL 0 ∧ up.node.state = .off ∧ (after .nodeStart up).node.state = .listen ∧
    (after .nodeStart up).node.listenEnd = (3 + up.rank) * 15625 * wTick ∧
    errOf (after .nodeStart joined) .cycle 0 = (0x0140, 5) ∧ joined.finalWindow = false ∧
    (after .nodeStop joined).node.state = .off ∧
    (let s := { joined with slate := { joined.slate with cut := .committed, x := 9 }
                            time := { joined.time with now := 15624 * wTick } }
     s.finalWindow = true ∧ (after .nodeStop s).slate.deferred = [.stop]) ∧
    (let s := { up with node := { up.node with state := .halted } }
     errOf (after .nodeStop s) .cycle 0 = (0x0140, 15) ∧ (after .clearHalt s).node.state = .off) ∧
    errOf (after .clearHalt joined) .cycle 0 = (0x0140, 5) := by decide +kernel

/-- A node with the cycle and the port of `joined`, in some state of its own. -/
def noded (n : NodeSt) : State := { joined with node := n }

/-- What `clap` does to a node. -/
def clapped (n : NodeSt) (c : Clapper) : State := after (.clapperRx 0 c 0) (noded n)

theorem test_witness_clappers_move_the_node :
    joined.isUp 0 = true ∧ (joined.seenAt 0 0).clapperValid clap = true ∧ bitsOf ((joined.seenAt 0 0).port 0).timeCfg 1 0 ≠ 3 ∧
    (let own := { clap with tbNode := 0, steps := 0 }
     let n : NodeSt := { state := .joined, followed := some (1, 0) }
     ((noded n).seenAt 0 0).duplicate own = true ∧ ((noded n).seenAt 0 0).finalWindow = false ∧ (clapped n own).node.state = .halted ∧
     (let s := { noded n with slate := { joined.slate with cut := .committed, x := 9 }, time := { joined.time with now := 15624 * wTick } }
      (s.seenAt 0 0).finalWindow = true ∧ (after (.clapperRx 0 own 0) s).slate.deferred = [.halt 0 8])) ∧
    (joined.seenAt 0 0).duplicate clap = false ∧ tbBetter (1, 9) (2, 3) = true ∧ tbBetter (2, 3) (1, 9) = false ∧
    (let t := clapped { state := .holdOff, followed := some (2, 3) } clap
     t.node.state = .yield ∧ t.node.looked = some (1, 9) ∧ ctr t .cycle 0 R.CYCLE_YIELDS = 1) ∧
    (clapped { state := .candidate, followed := some (2, 3) } clap).node.yieldCycle = 8 ∧
    (let t := clapped { state := .stepped, followed := some (2, 3) } clap
     t.node.state = .stepped ∧ ctr t .cycle 0 R.CYCLE_YIELDS = 1) ∧
    tbBetter (0, 3) (1, 9) = true ∧
    ctr (clapped { state := .joined, followed := some (0, 3) } clap) .cycle 0 R.CYCLE_TB_WORSE_SEEN = 1 ∧
    (clapped { state := .yield, looked := some (0, 3) } clap).node.looked = some (0, 3) ∧
    (clapped { state := .yield, looked := some (2, 3) } clap).node.looked = some (1, 9) ∧
    (clapped { state := .yield } clap).node.looked = some (1, 9) ∧
    ((joined.seenAt 0 0).port 0).lastClap = none ∧
    (let t := clapped { state := .listen } clap
     t.node.looked = some (1, 9) ∧ t.node.heard = [(1, 9, 0)] ∧ t.node.listenEnd = (3 + t.rank) * 15625 * wTick) := by
  decide +kernel

/-- A node of rank 7 in LISTEN. -/
def listening : State :=
  { up.setReg .cycle 0 R.CYCLE_NODE_CFG 0x00070003 with node := { up.node with state := .listen, listenEnd := 1000 * wTick + 1 } }

theorem test_witness_listen_timer :
    listening.node.state = .listen ∧ listening.rank = 7 ∧
    (let t := after .listenTimerExpiry listening
     t.node.state = .candidate ∧ t.node.followed = some (7, 3) ∧ t.node.zeroAt = some (4201 * wTick) ∧
     (let u := after .candidateCycleZero t
      u.time.hasCycle = true ∧ u.time.cycStart = 4201 * wTick ∧ u.node.zeroAt = none)) ∧
    (let s := listening.setReg .cycle 0 R.CYCLE_NODE_CFG 0x00FF0003
     s.rank = 255 ∧ (after .listenTimerExpiry s).node.listenEnd = 1000 * wTick + 1 + (258 * 15625 + 48) * wTick) := by decide +kernel

/-- The clapper of cycle 7 that a node in LISTEN heard on port 0. -/
def first : ClapRec :=
  { cycle := 7, origin := 1000000, correction := 0, tRx := 1000000, rank := 1, node := 9, steps := 0, ticks := 15625, delayOk := true,
    counts := true }

/-- A node in LISTEN that looks for the timebase of `clap`. -/
def detecting (a : ClapRec) : State :=
  { noded { state := .listen, looked := some (1, 9) } with
    ports := smSet joined.ports 0 { link := { state := .up }, timeCfg := 0x80, delayOk := true, meas := [0, 0, 0, 0], lastClap := some a } }

theorem test_witness_join_detection :
    (let a := { first with origin := 0 }
     let c := { clap with origin := 15625 * wTick / wFrac }
     let at_ := 1000000 + 15625 * wTick / wFrac
     let u := (detecting a).seenAt 0 at_
     let b : ClapRec := { a with cycle := 8, origin := c.origin, tRx := at_, steps := 1 }
     (detecting a).isUp 0 = true ∧ u.clapperValid c = true ∧ bitsOf (u.port 0).timeCfg 1 0 < 2 ∧ u.duplicate c = false ∧
     u.node.followed = none ∧ (u.port 0).lastClap = some a ∧ cycDiff b.cycle a.cycle = 1 ∧ u.pairOk 0 a b = true ∧ b.ticks = u.ticks ∧
     u.regF .cycle 0 R.CYCLE_NODE_CFG 31 24 ≤ 1 ∧ (∀ x ∈ u.ports, x.2.qual ≠ some a.cycle) ∧
     (let t := after (.clapperRx 0 c at_) (detecting a)
      t.node.state = .stepped ∧ t.node.followed = some (1, 9) ∧ t.time.parent = some 0 ∧ t.time.parentSteps = 1 ∧
      (t.node.join.any fun j => j.n == 7 && j.delta == ((c.origin : Int) - at_) * wFrac) = true) ∧
     (let odd := { detecting a with slate := { joined.slate with a := { ticks := 2000 } } }
      b.ticks ≠ (odd.seenAt 0 at_).ticks ∧ (odd.seenAt 0 at_).pairOk 0 a b = true ∧
      ctr (after (.clapperRx 0 c at_) odd) .cycle 0 R.CYCLE_JOIN_MISMATCH = 1) ∧
     (let late := { a with counts := false }
      u.pairOk 0 late b = false ∧ (after (.clapperRx 0 c at_) (detecting late)).node.state = .listen)) := by decide +kernel

theorem test_witness_join_step :
    (let s := { up with node := { up.node with state := .stepped, join := some ⟨4, 2, 900 * wTick, 100 * wTick, false, false⟩ } }
     let t := after .joinStep s
     t.time.fabOff = 100 * wTick ∧ t.time.cycle = 6 ∧ t.time.cycStart = 800 * wTick ∧ t.node.joinPort = 2 ∧
     t.fab t.time.cycStart = 900 * wTick) ∧
    (let s := { listening with node := { listening.node with looked := some (1, 9), heard := [(1, 9, 5), (2, 8, 6)] } }
     (s.node.heard.find? fun x => x.1 == 1 && x.2.1 == 9) = some (1, 9, 5) ∧
     (after .joinDetectorDrop s).node.looked = some (2, 8) ∧ (after .joinDetectorDrop s).time.now = 5 + 31250 * wTick) := by
  decide +kernel

theorem test_witness_cycle_start :
    joined.time.hasCycle = true ∧ (after (.cycleStart []) joined).time.cycle = 9 ∧
    (after (.cycleStart []) joined).time.cycStart = 15625 * wTick ∧ up.time.hasCycle = false ∧
    (after (.cycleStart []) up) = up := by decide +kernel

/-- The state in which a cycle start moves the node. -/
def starting (s : State) : State := s.endCycle.nextCycle.cutBehind.cutCycleStart.flushDeferred

/-- A node whose offset against its parent is so many ticks. -/
def offBy (n : NodeSt) (ticks : Int) : State := { noded n with time := { joined.time with offset := ticks * wTick } }

theorem test_witness_cycle_start_moves_the_node :
    (let s := { noded { state := .candidate, followed := some (0, 0) } with time := { joined.time with cycle := 2 } }
     let v := starting s
     v.node.state = .candidate ∧ v.node.zeroAt = none ∧ 0 ≤ cycDiff v.time.cycle 3 ∧ (after (.cycleStart []) s).node.bellwether = true) ∧
    (let s (ok : Bool) := noded { state := .stepped, followed := some (1, 9), join := some ⟨6, 2, 0, 0, true, ok⟩ }
     (starting (s true)).node.state = .stepped ∧ (starting (s true)).node.join = some ⟨6, 2, 0, 0, true, true⟩ ∧
     0 ≤ cycDiff (starting (s true)).time.cycle (6 + 3) ∧ (after (.cycleStart []) (s true)).node.state = .joined ∧
     (starting (s false)).node.join = some ⟨6, 2, 0, 0, true, false⟩ ∧
     ctr (after (.cycleStart []) (s false)) .cycle 0 R.CYCLE_JOIN_ABORTS = 1) ∧
    (let s := noded { state := .yield, yieldCycle := 7, looked := some (1, 9) }
     (starting s).node.state = .yield ∧ 0 ≤ cycDiff (starting s).time.cycle (7 + 2) ∧ (after (.cycleStart []) s).node.state = .listen) ∧
    (let s := offBy joined.node 1564
     let v := starting s
     v.inNet = true ∧ v.node.bellwether = false ∧ v.offsetAbove v.limLeave = true ∧ v.finalWindow = false ∧
     v.time.hasCycle = true ∧ ctr (after (.cycleStart []) s) .cycle 0 R.CYCLE_LEAVES = 1) ∧
    (let s := offBy joined.node 101
     let v := starting s
     v.offsetAbove v.limLeave = false ∧ v.offsetAbove v.limHoldOff = true ∧ (after (.cycleStart []) s).node.state = .holdOff) ∧
    (let s (n : Nat) := offBy { joined.node with state := .holdOff, resume := n } 0
     (starting (s 7)).node.state = .holdOff ∧ (starting (s 7)).offsetAbove (starting (s 7)).limLeave = false ∧
     (after (.cycleStart []) (s 7)).node.state = .joined ∧ (after (.cycleStart []) (s 6)).node.resume = 7) := by decide +kernel

/-- A JOINED node whose port 0 sends clappers. -/
def leading : State :=
  { joined with ports := smSet joined.ports 0 { joined.port 0 with timeCfg := 0 }, time := { joined.time with replicas := [(0, { valid := true })] } }

theorem test_witness_clapper_sent :
    (let w := (starting leading).nodeStartOfCycle
     (w.portCycle 0).clapperDue 0 = true ∧ (w.port 0).wire = none ∧ (w.port 0).laneFree ≤ w.time.cycStart ∧
     (after (.cycleStart []) leading).outs.length = 1 ∧ ctr (after (.cycleStart []) leading) .port 0 R.PORT_CLAP_TX = 1) := by decide +kernel

/-- A JOINED node with a valid replica, whose live slate has on port 0 one spare entry of owner 5 that opens every class and pulses line 3, and one
spare receive slot of owner 5. -/
def claimer : State :=
  { joined.setReg .cycle 0 R.CYCLE_CLAIM_OWNERS0 5 with
    time := { joined.time with replicas := [(0, { valid := true })] }
    slate := { joined.slate with a := { joined.slate.a with
      tbl := [(offGcl 0 0, wd (0xFF + 0x3D09 * 2 ^ 32)), (offGcl 0 1, wd (0xFF + 2 ^ 9 + 5 * 2 ^ 16 + 0x10 * 2 ^ 32 + 3 * 2 ^ 56 + 2 ^ 63)),
              (offSlot 0 0, wd (2 ^ 56)), (offSlot 0 0 + 8, 5), (offCtl 0, wd (2 + 2 ^ 16))] } } }

/-- Port 0 of `claimer` with a claim of its own for owner 5. -/
def claiming (m : MyClaim) (cycle : Nat) : State :=
  { claimer with time := { claimer.time with cycle }, ports := smSet claimer.ports 0 { claimer.port 0 with mine := [m] } }

/-- The claim for owner 5 that was sent in cycle 8. -/
def mine0 : MyClaim := { owner := 5, sent := 8, tries := 1, phase := .waiting }

/-- The CLAIM that a port is about to send. -/
def claimFr (s : State) : TxFrame := s.linkFrame 0 6 tClaim (.claim 5)

theorem test_witness_claims_start :
    (claiming mine0 8).startsNow 0 (claimFr (claiming mine0 8)) ∧
    (claiming { mine0 with sent := 16, tries := 2 } 16).startsNow 0 (claimFr (claiming { mine0 with sent := 16, tries := 2 } 16)) ∧
    (claiming { mine0 with phase := .acked 10, sent := 40 } 40).startsNow 0 (claimFr (claiming { mine0 with phase := .acked 10, sent := 40 } 40)) :=
  ⟨startsNow_of (by decide +kernel), startsNow_of (by decide +kernel), startsNow_of (by decide +kernel)⟩

theorem test_witness_claimant :
    claimer.claimReady 0 5 = true ∧ claimer.mineOf 0 5 = none ∧
    claimer.modPort 0 (fun q => { q with mine := q.mine ++ [mine0] }) = claiming mine0 8 ∧
    (let s := after (.claimTx 0 5) claimer
     s.mineOf 0 5 = some mine0 ∧ s.outs.length = 1 ∧ ctr s .port 0 R.PORT_CLAIM_TX = 1) ∧
    (let u := claiming mine0 16
     8 ≤ cycDiff u.time.cycle 8 ∧ 1 < u.regF .cycle 0 R.CYCLE_CLAIM_CFG 19 16 ∧ u.claimReady 0 5 = true ∧
     u.modMine 0 5 (fun m => { m with sent := 16, tries := 2 }) = claiming { mine0 with sent := 16, tries := 2 } 16 ∧
     (after (.claimRetry 0 5) u).mineOf 0 5 = some { owner := 5, sent := 16, tries := 2, phase := .waiting } ∧
     (let v := u.setReg .cycle 0 R.CYCLE_CLAIM_CFG 0x10100
      v.regF .cycle 0 R.CYCLE_CLAIM_CFG 19 16 ≤ 1 ∧ ((v.port 0).waits fun o => o == .claim 5) = false ∧
      (after (.claimRetry 0 5) v).mineOf 0 5 = some { mine0 with phase := .noAnswer } ∧
      (after (.claimRetry 0 5) v).alarm.pend = [⟨82, 0x00C, 0, 5, 1, 0⟩])) ∧
    (let u := (claiming { mine0 with phase := .acked 10 } 40).setReg .cycle 0 R.CYCLE_CLAIM_CFG 0x10020
     (u.regF .cycle 0 R.CYCLE_CLAIM_CFG 15 0 : Int) ≤ cycDiff u.time.cycle 8 ∧ u.claimReady 0 5 = true ∧
     ((after (.claimRefresh 0 5) u).mineOf 0 5).any (fun m => m.sent == 40) = true) ∧
    (let s := claiming mine0 8
     s.isUp 0 = true ∧ (after (.claimAckRx 0 5 77) s).mineOf 0 5 = some { mine0 with phase := .acked 10 } ∧
     (after (.claimAckRx 0 5 77) (claiming mine0 20)).mineOf 0 5 = some { mine0 with phase := .acked 21 } ∧
     (after (.claimRefusedRx 0 5 4) s).mineOf 0 5 = some { mine0 with phase := .refused } ∧
     (after (.claimRefusedRx 0 5 4) s).alarm.pend = [⟨82, 0x00D, 0, 5 + 4 * 2 ^ 16, 1, 0⟩]) ∧
    ctr (after (.claimAckRx 0 6 0) claimer) .port 0 R.PORT_CLAIM_ANSWER_STRAY = 1 ∧
    (let s := { claimer with ports := [(0, { link := { state := .hello } })] }
     s.delineates 0 = true ∧ ctr (after (.claimAckRx 0 5 0) s) .port 0 R.PORT_RX_NOT_UP = 1 ∧
     ctr (after (.claimRefusedRx 0 5 1) s) .port 0 R.PORT_RX_NOT_UP = 1) := by decide +kernel

/-- Node 12 has claimed owner 5 on port 1, in the present cycle or before. -/
def rival (cycle : Nat) (held : Bool) : State :=
  { claimer with ports := smSet claimer.ports 1 { link := { state := .up }, claims := [(3, ⟨5, 12, 10, held, cycle, 7, 8⟩)] } }

theorem test_witness_partner :
    (let s := { claimer with node := { claimer.node with state := .holdOff } }
     ctr (after (.claimRx 0 9 5 8) s) .port 0 R.PORT_CLAIM_DROPPED = 1) ∧
    claimer.live.marksSlot 0 6 = false ∧
    (let s := { claimer with ports := smSet claimer.ports 0 { claimer.port 0 with laneFree := 9 } }
     ctr (after (.claimRx 0 9 6 8) s) .port 0 R.PORT_CLAIM_REFUSED_TX = 1 ∧ (s.port 0).txq = [] ∧
     ((after (.claimRx 0 9 6 8) s).port 0).txq.length = 1) ∧
    claimer.node.state ≠ .holdOff ∧ claimer.feat 12 = true ∧ claimer.live.marksSlot 0 5 = true ∧ claimer.claimOthers 5 9 = [] ∧
    smFind (claimer.port 0).claims 0 = none ∧
    (let s := after (.claimRx 0 9 5 7) claimer
     smFind (s.port 0).claims 0 = some ⟨5, 9, 10, false, 8, 7, 8⟩ ∧ ctr s .port 0 R.PORT_CLAIM_ACK_TX = 1 ∧ s.claimOthers 5 9 = [] ∧
     (let u := { s with time := { s.time with cycle := 9 } }
      ((after (.claimRx 0 9 5 9) u).port 0).claims = [(0, ⟨5, 9, 10, false, 8, 7, 9⟩)]) ∧
     (let u := { s with time := { s.time with cycle := 8 + 4 * s.regF .cycle 0 R.CYCLE_CLAIM_CFG 15 0 } }
      ((after (.claimExpired 0 0) u).port 0).claims = [])) ∧
    (let e : ClaimEnt := ⟨5, 12, 10, true, 8, 7, 8⟩
     (rival 8 true).claimOthers 5 9 = [(1, 3, e)] ∧ (rival 8 true).givesWay 9 e = false ∧
     ctr (after (.claimRx 0 9 5 7) (rival 8 true)) .port 0 R.PORT_CLAIM_REFUSED_TX = 1) ∧
    (rival 7 false).givesWay 9 ⟨5, 12, 10, false, 7, 7, 8⟩ = false ∧ (rival 8 false).givesWay 13 ⟨5, 12, 10, false, 8, 7, 8⟩ = false ∧
    (rival 8 false).givesWay 9 ⟨5, 12, 10, false, 8, 7, 8⟩ = true ∧ (rival 8 false).claimOthers 5 9 = [(1, 3, ⟨5, 12, 10, false, 8, 7, 8⟩)] ∧
    ((after (.claimRx 0 9 5 7) (rival 8 false)).port 1).claims = [] := by decide +kernel

/-! Slates and cuts. -/

theorem test_witness_staged_slate :
    up.running ∧ up.cutBusy = false ∧ (0x4800008 : Nat) % 8 = 0 ∧ offMapped (0x4800008 % 0x800000) = true ∧
    errOf (after (.slateTableWrite 0x4000008 1) up) .cycle 0 = (8, 0) ∧
    (let s := { up with slate := { up.slate with cut := .armed } }
     s.cutBusy = true ∧ errOf (after (.slateTableWrite 0x4800008 1) s) .cycle 0 = (9, 0) ∧
     errOf (after .slateCheck s) .cycle 0 = (0x0151, 1)) ∧
    (after (.slateTableWrite 0x4800008 1) up).staged.tbl = [(8, 1)] ∧
    (after (.slateTableWrite (pageBase .cycle 0 + R.CYCLE_CYCLE_TICKS) 2000) up).staged.ticks = 2000 ∧
    (after .slateCheck up).slate.check = .running ∧
    after .slateCheck (after .slateCheck up) = after .slateCheck up := by decide +kernel

theorem test_witness_validation :
    (let s := after .slateCheck (after (.slateTableWrite (pageBase .cycle 0 + R.CYCLE_CYCLE_TICKS) 5) up)
     s.slate.check = .running ∧ (firstFinding s.findings).isSome = true) := by decide +kernel

theorem test_witness_validation_passes :
    firstFinding up.findings = none := by decide +kernel

theorem test_witness_refused_tables :
    (0x4608000 : Nat) % 8 = 0 ∧ offMapped (0x4608000 % 0x800000) = false ∧ errOf (after (.slateTableWrite 0x4608000 1) up) .cycle 0 = (6, 0) ∧
    errOf (after (.registerWrite (.reg ⟨0, 0x4608004, 4, none⟩)) up) .cycle 0 = (6, 0) := by decide +kernel

/-- A slate whose one entry of port 0 pulses line 3. -/
def pulsing : Bank := { tbl := [(0, wd (0xC0 + 0x3D09 * 2 ^ 32 + 3 * 2 ^ 56 + 2 ^ 63))] }

theorem test_witness_adopt :
    up.opens .cycle R.CYCLE_NODE_CTRL 0 ∧ errOf (after .adopt joined) .cycle 0 = (0x0140, 5) ∧
    (after .adopt up).slate.adopt = true ∧ (after .adopt up).slate.check = .running ∧
    (let s := { up with slate := { up.slate with check := .pass, adopt := true, adoptGo := true, b := { ticks := 2000 } } }
     s.claimBlocked = none ∧ (after .adoptSwitch s).live.ticks = 2000) ∧
    (let s := { up.setOwner (resLine 3) ownerXfer with slate := { up.slate with adopt := true, adoptGo := true, b := pulsing } }
     s.claimBlocked = some (0x4800000, 8) ∧ errOf (after .adoptSwitch s) .cycle 0 = (0x0141, 8)) ∧
    up.slate.adoptGo = false ∧ after .adoptSwitch up = up := by decide +kernel

theorem test_witness_cuts :
    joined.opens .cycle R.CYCLE_CUT_CYCLE 0 ∧ up.inNet = false ∧ errOf (after (.cutArm 20) up) .cycle 0 = (0x0153, 0) ∧
    joined.inNet = true ∧ joined.cutBusy = false ∧ cycDiff 10 (8 + 3) < 0 ∧ 0 ≤ cycDiff 11 (8 + 3) ∧
    errOf (after (.cutArm 10) joined) .cycle 0 = (0x0150, 0) ∧
    (let s := after (.cutArm 11) joined
     s.slate.cut = .armed ∧ s.slate.check = .running ∧ errOf (after (.cutArm 12) s) .cycle 0 = (0x0151, 1) ∧
     (after .cutCancel s).slate.cut = .cancelled ∧
     (let u := { s with time := { s.time with cycle := 10 } }
      0 ≤ cycDiff (u.time.cycle + 1) u.slate.x ∧ u.cutCycleStart.slate.cut = .refused ∧ u.cutCycleStart.slate.reason = 3 ∧
      { u with slate := { u.slate with check := .fail } }.cutCycleStart.slate.reason = 1 ∧
      (let v := { u with slate := { u.slate with check := .pass, b := pulsing } }
       v.claimBlocked = none ∧ v.cutCycleStart.slate.cut = .committed))) ∧
    (let w := { joined with slate := { joined.slate with cut := .committed, x := 8, b := pulsing } }
     0 ≤ cycDiff w.time.cycle w.slate.x ∧ errOf (after .cutCancel w) .cycle 0 = (0x0152, 0) ∧ w.cutCycleStart.live = w.staged) ∧
    (let w := { joined with slate := { joined.slate with cut := .committed, x := 9, b := pulsing } }
     let v := w.endCycle.nextCycle.cutBehind
     0 ≤ cycDiff v.time.cycle 9 ∧ (after (.cycleStart []) w).live = w.staged ∧ (after (.cycleStart []) w).slate.cutHere = some 9) ∧
    (let w (c : CheckState) := { joined with node := { joined.node with bellwether := true }
                                             slate := { joined.slate with cut := .armed, x := 10, b := pulsing, check := c } }
     let v := (w .pass).endCycle.nextCycle.cutBehind
     0 ≤ cycDiff (v.time.cycle + 1) 10 ∧ v.claimBlocked = none ∧ v.node.state = .joined ∧ v.node.bellwether = true ∧
     (after (.cycleStart []) (w .pass)).slate.cut = .committed ∧ (after (.cycleStart []) (w .fail)).slate.reason = 1) ∧
    errOf (after .cutCancel joined) .cycle 0 = (0x0151, 0) := by decide +kernel

/-! Gates and the frame paths. -/

/-- A SEND_ON_EVENT job of queue 2 that waits for line 3. -/
def waitJob : Job :=
  { id := 1, queue := 2, order := 0, cq := 0, kind := .sendOnEvent, tag := 0, tsReq := false, tagged := false, src := 0, count := 4,
    felems := 4, codec := 0, elem := 0, cls := 6, handle := 7, key := 0, op := 1, line := 3, limit := 2, dst := 9, target := 0, zone := 0,
    mode := 0, bytes := 4, c0 := 0, fetchAt := 0 }

/-- A node in JOINED with a job that waits for line 3, which entry 1 of port 0 pulses. -/
def gated : State :=
  { claimer with xfer := { claimer.xfer with jobs := [waitJob], nextPlace := 4 }
                 ports := smSet claimer.ports 0 { claimer.port 0 with gateAt := some (8, 0) } }

theorem test_witness_gates :
    (gclSpans gated.live 0)[1]? = some (0x3D09, gated.live.gcl 0 1) ∧ gated.tickAt 0x3D09 = 15625 * wTick ∧
    gEvent (gated.live.gcl 0 1) = true ∧ gLine (gated.live.gcl 0 1) = 3 ∧ gated.inNet = true ∧ gated.evt.seen = [] ∧
    (after (.gateEntryStart 0) gated).xfer.jobs = [{ waitJob with pulsed := true, place := 4 }] ∧
    ((after (.gateEntryStart 0) gated).port 0).gateAt = some (8, 1) ∧
    (after (.gateEntryStart 0) gated).time.now = 15625 * wTick ∧
    (let t := after (.gateEntryStart 0) { gated with evt := { gated.evt with seen := [(3, hubEdge (15625 * wTick))] } }
     t.xfer.jobs = [waitJob] ∧ (t.port 0).gateAt = some (8, 1)) ∧
    (after (.gateEntryStart 0) { gated with ports := smSet gated.ports 0 { gated.port 0 with gateAt := none } }).xfer = gated.xfer := by
  decide +kernel

/-- An EVENT for line 3 pends for a tick of a cycle, and the receiver owns the line. -/
def pends (cycle : Nat) : State :=
  { gated.setOwner (resLine 3) ownerEvRx with evt := { (gated.setOwner (resLine 3) ownerEvRx).evt with pend := [⟨cycle, 100, 3⟩] } }

theorem test_witness_pending_events :
    (100 : Nat) < (pends 8).ticks ∧ (pends 8).time.cycle = 8 ∧ (pends 8).ownerOf (resLine 3) = ownerEvRx ∧
    (after .eventPendingFire (pends 8)).xfer.jobs = [{ waitJob with pulsed := true, place := 4 }] ∧
    (after .eventPendingFire (pends 8)).time.now = 100 * wTick ∧ ceilHub (100 * wTick) = 100 * wTick ∧
    (after .eventPendingFire ((pends 8).setOwner (resLine 3) 0)).xfer = (pends 8).xfer ∧
    0 < cycDiff 9 8 ∧ (after .eventPendingFire (pends 9)).evt.pend.length = 1 ∧
    cycDiff 7 8 < 0 ∧ ctr (after .eventPendingFire (pends 7)) .evt 0 R.EVT_EVENT_RX_LATE = 1 := by decide +kernel

/-- A frame of 64 bytes in class 6 with its head loaded or not. -/
def small (head : Bool) : TxFrame :=
  { cls := 6, typ := 0, origin := .own, frame := ⟨1, 2, none, 0x1234, List.replicate 46 0⟩, head }

/-- Port 0 of a JOINED node holds one frame. -/
def sending (fr : TxFrame) (s : State) : State := { s with ports := smSet s.ports 0 { s.port 0 with txq := [fr] } }

/-- Port 0 of `claimer` takes preemptable frames of class 6, and its gate list has no pause for them. -/
def preempting : State :=
  { claimer with slate := { claimer.slate with a := { claimer.slate.a with tbl := claimer.slate.a.tbl ++ [(offMap 0, wd (2 ^ 46))] } }
                 ports := smSet claimer.ports 0 { claimer.port 0 with txActive := true } }

theorem test_witness_still :
    (sending (small true) claimer).still 0 ∧ (sending (small true) preempting).still 0 ∧ (sending (small true) joined).still 0 := by
  have h : ∀ s : State, s.ports.all (fun x => x.2.wire.isNone) = true → s.xfer.jobs = [] → s.mover.chans = [] → s.still 0 := by
    intro s h1 h2 h3
    refine ⟨?_, by rw [h2]; exact fun _ h => absurd h (List.not_mem_nil), by rw [h3]; exact fun _ h => absurd h (List.not_mem_nil)⟩
    intro q
    unfold State.port smGet
    cases hf : smFind s.ports q with
    | none => rfl
    | some x => exact Option.isNone_iff_eq_none.1 (List.all_eq_true.1 h1 (q, x) (mem_of_smFind hf))
  exact ⟨h _ (by decide +kernel) (by decide +kernel) (by decide +kernel), h _ (by decide +kernel) (by decide +kernel) (by decide +kernel),
    h _ (by decide +kernel) (by decide +kernel) (by decide +kernel)⟩

theorem test_witness_frames_start :
    (after (.headLoad 0 0) (sending (small false) claimer)).port 0 = { claimer.port 0 with txq := [small true] } ∧
    (let s := sending (small true) claimer
     s.atLeast (s.tickAt 0) = s ∧ s.headDrop 0 (small true) = none ∧ s.headSays 0 (small true) = .go (15625 * wTick) ∧
     s.preemptable 0 6 = false ∧
     (after (.frameTxStart 0 0 0) s).outs = [.frame 0 (small true).frame true] ∧
     ((after (.frameTxStart 0 0 0) s).port 0).laneFree = 84 * s.wByte 0) ∧
    (let s := sending (small true) preempting
     s.atLeast (s.tickAt 0) = s ∧ s.headDrop 0 (small true) = none ∧ s.headSays 0 (small true) = .go (15625 * wTick) ∧
     s.preemptable 0 6 = true ∧
     (after (.frameTxStart 0 0 0) s).outs = [] ∧ ((after (.frameTxStart 0 0 0) s).port 0).frameNo = 1 ∧
     (((after (.frameTxStart 0 0 0) s).port 0).wire.any fun x => x.sent == 0 && x.fr == small true) = true) ∧
    (let s := sending { small true with cls := 5 } { joined with time := { joined.time with replicas := [(0, { valid := true })] } }
     s.isUp 0 = true ∧ (s.replica 0).valid = true ∧ s.preemptable 0 5 = false ∧ s.longest 0 5 < s.occupancy 0 64 ∧
     ctr (after (.frameTxStart 0 0 0) s) .port 0 R.PORT_TX_NO_FIT = 1) ∧
    (let s := sending (small true) (portUp 0 up)
     s.headDrop 0 (small true) = some .nodeLeft ∧ ctr (after (.frameTxStart 0 0 0) s) .port 0 R.PORT_TX_NODE_DISCARD = 1) ∧
    (let s := sending (small true) claimer
     let u := s.atLeast (s.tickAt 15624)
     u.headDrop 0 (small true) = none ∧ u.headSays 0 (small true) = .tooLong ∧
     ctr (after (.frameTxStart 0 15624 0) s) .port 0 R.PORT_TX_DEFERRED = 1) := by decide +kernel

/-- An Itpitos frame with a header and a payload. -/
def itp (h : Hdr) (payload : List Byte) : Frame := ⟨1, 2, none, 0x88B5, itpBody false { h with plen := payload.length } payload⟩

/-- A DATA frame of one element of 4 bytes for node 0. -/
def dataFrame (dst target : Nat) : Frame :=
  itp { typ := tData, dst, src := 9, handle := 1, op := 1, elem := 1, count := 1, target, key := 7 } [1, 2, 3, 4]

/-- The DATA frame as port 0 receives it. -/
def rx0 : RxFrame := ⟨0, dataFrame 0 0x40, true, true, 0, 5, []⟩

theorem test_witness_receive :
    (let u := joined.seenAt 0 0
     joined.isUp 0 = true ∧ u.isItp 0 rx0.frame = true ∧ failed12 true true 64 = none ∧ frameLen rx0.frame = 64 ∧
     rx0.frame.etherType ≠ 0x8808 ∧ u.stage3 0 true rx0.frame 0 = none ∧
     u.bound true rx0.frame = false ∧ u.stage5 0 rx0.frame = none ∧ linkLocal (typOf rx0.frame) = false ∧
     (after (.frameReceive rx0) joined).hubIn.map (fun x => x.edge) = [max 5 (hubEdge (u.lastBit 0 0 64))] ∧
     ctr (after (.frameReceive rx0) joined) .port 0 R.PORT_RX_ITPITOS = 1) ∧
    failed12 true false 64 = some (2, R.PORT_RX_FCS_ERR) ∧
    ctr (after (.frameReceive { rx0 with fcsOk := false }) joined) .port 0 R.PORT_RX_FCS_ERR = 1 ∧
    (let bad := { rx0 with frame := itp { version := 2, typ := tHello, src := 9 } (List.replicate 32 0) }
     (joined.seenAt 0 0).stage3 0 true bad.frame 0 = none ∧ (joined.seenAt 0 0).bound true bad.frame = false ∧
     (joined.seenAt 0 0).stage5 0 bad.frame = some R.PORT_RX_HDR_VERSION ∧
     ctr (after (.frameReceive bad) joined) .port 0 R.PORT_RX_HDR_VERSION = 1) ∧
    (let s := { joined with ports := [(0, { link := { state := .hello } })] }
     s.delineates 0 = true ∧ typOf rx0.frame ≠ tHello ∧ ctr (after (.frameReceive rx0) s) .port 0 R.PORT_RX_NOT_UP = 1) := by decide +kernel

/-- A JOINED node that relays handle 1 in class 3 to a port, which is up. -/
def relaying (q : Nat) : State :=
  { portUp 1 joined with
    time := { joined.time with replicas := [(0, { valid := true })] }
    slate := { joined.slate with a := { joined.slate.a with tbl :=
      [(offGcl 1 0, wd (0xFF + 0x3D09 * 2 ^ 32)), (offCtl 1, 1), (offStream 1, wd (1 + 2 ^ 6 + 3 * 2 ^ 23)), (offGen 1, wd (1 + q * 2 ^ 4))] } } }

/-- A frame for node 7 on port 0, begun on some ports. -/
def through (ok : Bool) (begun : List (Fin 1024)) : RxFrame := { rx0 with frame := dataFrame 7 0x40, fcsOk := ok, begun }

theorem test_witness_relay :
    (let s := relaying 1
     let f := dataFrame 7 0x40
     let fr : TxFrame := { cls := 3, typ := tData, origin := .relay 0, frame := f }
     let u := s.seenAt 0 0
     s.isUp 0 = true ∧ u.stage3 0 true f 0 = none ∧ u.bound true f = true ∧ u.relayCheck f = none ∧ u.routeOf true f = some (3, [1]) ∧
     (u.port 1).txq = [] ∧ (u.loaded 1 fr).headDrop 1 fr = none ∧
     ((after (.frameReceive (through true [])) s).port 1).txq = [fr] ∧
     ctr (after (.frameReceive (through true [])) s) .port 0 R.PORT_RELAY_RX = 1 ∧
     u.cutsThrough 0 fr 1 = true ∧ failed12 true false 64 = some (2, R.PORT_RX_FCS_ERR) ∧
     (after (.frameReceive (through false [1])) s).outs = [.frame 1 f false] ∧
     ctr (after (.frameReceive (through false [1])) s) .port 1 R.PORT_TX_STOMPED = 1 ∧
     (after (.frameReceive (through false [])) s).outs = []) ∧
    (relaying 0).routeOf true (dataFrame 7 0x40) = some (3, [0]) ∧
    ctr (after (.frameReceive (through true [])) (relaying 0)) .port 0 R.PORT_RELAY_HAIRPIN = 1 ∧
    joined.routeOf true (dataFrame 7 0x40) = none ∧ ctr (after (.frameReceive (through true [])) joined) .port 0 R.PORT_RX_NO_ROUTE = 1 := by
  decide +kernel

/-- A frame at the hub. -/
def arriving (f : Frame) (s : State) : State := { s with hubIn := [{ edge := 9, port := 0, cls := 0, frame := f, last := 0 }] }

/-- An EVENT frame for line 3: timed, of a cycle and a tick, or not. -/
def eventFrame (timed : Bool) (cycle tick : Nat) : Frame :=
  itp { typ := tEvent, dst := 0, src := 9, handle := 1 }
    [BitVec.ofNat 8 (3 + 0x80 * b2n timed), 0, BitVec.ofNat 8 (cycle / 256), BitVec.ofNat 8 cycle, BitVec.ofNat 8 (tick / 65536),
     BitVec.ofNat 8 (tick / 256), BitVec.ofNat 8 tick, 0]

theorem test_witness_events_at_the_hub :
    (let s := arriving (eventFrame true 9 5) gated
     s.nextHub.isSome = true ∧ typOf (eventFrame true 9 5) = tEvent ∧ s.live.identify 1 = none ∧
     ctr (after (.hubReceive []) s) .evt 0 R.EVT_EVENT_RX_REFUSED = 1 ∧
     (let u := s.setReg .evt 0 R.EVT_EVENT_RX_LINES 8
      (after (.hubReceive []) u).evt.pend = [⟨9, 5, 3⟩] ∧ ctr (after (.hubReceive []) u) .evt 0 R.EVT_EVENT_RX = 1)) ∧
    (let s := (arriving (eventFrame true 8 100) gated).setReg .evt 0 R.EVT_EVENT_RX_LINES 8
     (s.atLeast (9 * wHub)).tick < 100 ∧ (after (.hubReceive []) s).evt.pend = [⟨8, 100, 3⟩]) ∧
    (let s := (arriving (eventFrame false 0 0) gated).setReg .evt 0 R.EVT_EVENT_RX_LINES 8
     (after (.hubReceive []) s).xfer.jobs = [{ waitJob with pulsed := true, place := 4 }]) := by decide +kernel

/-- A zone of staging memory from 0x40 to 0x7F that takes writes with key 7, and a DATA frame on its way to the hub. -/
def landing : State :=
  { joined with
    hubIn := [{ edge := 9, port := 0, cls := 0, frame := dataFrame 0 0x44, last := 0 }]
    slate := { joined.slate with a := { joined.slate.a with tbl :=
      [(offZone 5, wd (5 + 7 * 2 ^ 32)), (offZone 5 + 8, wd (1 + 2 ^ 32))] } } }

theorem test_witness_landing :
    landing.nextHub.isSome = true ∧ landing.live.identify 1 = none ∧
    landing.live.stage7 (hdrOf (dataFrame 0 0x44).body) = .ok 5 ∧
    stage8 (hdrOf (dataFrame 0 0x44).body) (payloadOf (dataFrame 0 0x44).body) = .ok [0x01020304] ∧ landing.memSafe ∧
    (after (.hubReceive []) landing).readMem 0x44 4 = [4, 3, 2, 1] ∧ (after (.hubReceive []) landing).readMem 0x40 4 = [0, 0, 0, 0] ∧
    ((after (.hubReceive []) landing).zone 5).landed = 4 ∧ (after (.hubReceive []) landing).hubIn = [] ∧
    (after (.hubReceive []) landing).time.now = 9 * wHub ∧ ctr (after (.hubReceive []) landing) .lz 0 R.LZ_LANDED_FRAMES = 1 ∧
    (let s := { landing with hubIn := [{ edge := 9, port := 0, cls := 0, frame := dataFrame 0 0x80, last := 0 }]
                             featAcc := 0x3BFFFFF }
     s.live.stage7 (hdrOf (dataFrame 0 0x80).body) = .error (1, 0xFFFF) ∧ s.feat 22 = false ∧ (after (.hubReceive []) s).mem = []) := by
  decide +kernel

/-- The frame of `landing`, to be combined with what memory holds. -/
def combining : State :=
  arriving (itp { typ := tAccum, dst := 0, src := 9, handle := 1, op := 2, elem := 5, count := 1, target := 0x44, key := 7 } [1, 2, 3, 4])
    { landing with mem := [(0x44, 5)]
                   slate := { landing.slate with a := { landing.slate.a with tbl :=
                     [(offZone 5, wd (13 + 7 * 2 ^ 32)), (offZone 5 + 8, wd (1 + 2 ^ 32))] } } }

theorem test_witness_accumulation :
    (let h := hdrOf (combining.nextHub.elim [] (fun x => x.frame.body))
     h.typ = tAccum ∧ combining.live.stage7 h = .ok 5 ∧ combining.memSafe ∧ combining.poisoned 0x44 (coverOf h) = false) ∧
    (after (.hubReceive []) combining).readMem 0x44 4 = [9, 3, 2, 1] ∧
    ctr (after (.hubReceive []) combining) .codec 0 R.CODEC_ACC_FRAMES = 1 ∧
    (let s := { combining with poison := [0x40] }
     s.poisoned 0x44 4 = true ∧ (after (.hubReceive []) s).mem = s.mem ∧ ((after (.hubReceive []) s).zone 5).poisoned = true ∧
     ctr (after (.hubReceive []) s) .mem 0 R.MEM_LAND_POISONED = 1) := by decide +kernel

/-! Ports and links. -/

/-- Port 0 with a link state. -/
def linked (l : LinkSt) (s : State) : State := { s with ports := smSet s.ports 0 { s.port 0 with link := l } }

theorem test_witness_link_comes_up :
    ((after (.signalDetect 0) (linked { state := .detect } up)).link 0).state = .training ∧
    ((after (.trainingReady 0 [1, -2]) (linked { state := .training, failRun := 2 } up)).link 0).failRun = 0 ∧
    (let t := after (.trainingReady 0 [1, -2]) (linked { state := .waking, coeffs := some [0] } up)
     (t.link 0).fast = true ∧ (t.link 0).eq = [1, -2]) ∧
    ((after (.codewordLock 0) (linked { state := .lock } up)).link 0).locked = true ∧
    ((after (.observationWindowEnd 0) (linked { state := .lock, locked := true } up)).link 0).state = .hello ∧
    (after (.observationWindowEnd 0) (linked { state := .lock, locked := true } up)).time.now = wMs ∧
    (after (.observationWindowEnd 0) (linked { state := .lock, locked := true, fast := true } up)).time.now = 50 * wUs ∧
    (let t := after (.trainTimeout 0) (linked { state := .training, failRun := 1 } up)
     (t.link 0).state = .detect ∧ (t.link 0).failRun = 2 ∧ t.time.now = 250 * wMs ∧ t.alarm = {} ∧
     ctr t .port 0 R.PORT_TRAIN_FAILS = 1) ∧
    (after (.trainTimeout 0) (linked { state := .training, failRun := 2, failsUp := 4 } up)).alarm.pend =
      [⟨82, 0x010, 0, 5, 1, 250000000⟩] ∧
    ((after (.wakeTrainTimeout 0) (linked { state := .waking } up)).link 0).state = .training ∧
    (after (.lockTimeout 0) (linked { state := .lock } up)).time.now = wMs := by decide +kernel

/-- A HELLO of node 9, port 4. -/
def hel : Hello := { node := 9, port := 4, tag := 77, word := 0x7F, etherType := 0x88B5, ack := true, switch := false, sleep := false }

/-- Port 0 in HELLO, in UP and in SWITCH, with nothing to send but its HELLO. -/
def helloing (kept : Option Hello) : State := linked { state := .hello, offer := 0x7D, kept } up
def upHello : State := linked { state := .up, used := 0x7D, helloCfg := 0x0A0003E8 } up
def switching : State := linked { state := .switch, offer := 0x7F } up

theorem test_witness_hello_sends :
    (helloing (some hel)).startsNow 0 ((helloing (some hel)).linkFrame 0 6 tHello (.hello false false)) ∧
    upHello.startsNow 0 (upHello.linkFrame 0 6 tHello (.hello false false)) ∧
    switching.startsNow 0 (switching.linkFrame 0 6 tHello (.hello true false)) ∧
    (helloing (some hel)).runTo 0 = helloing (some hel) ∧ upHello.runTo 0 = upHello ∧ bit (upHello.link 0).used 1 = false ∧
    (let t := after (.helloTx 0) (helloing (some hel))
     t.outs.length = 1 ∧ (t.link 0).sentAck = some ((8 + 82) * t.wByte 0)) ∧
    ((after (.helloTx 0) upHello).link 0).helloDue = 1000 * wUs ∧
    (let t := after (.helloTx 0) switching
     (t.link 0).switched = true ∧ t.outs.length = 1 ∧ (after (.helloTx 0) t).outs.length = 1) := by
  refine ⟨startsNow_of (by decide +kernel), startsNow_of (by decide +kernel), startsNow_of (by decide +kernel), ?_⟩
  decide +kernel

/-- What a HELLO does to a port in HELLO that has sent one with ACK. -/
def hears (h : Hello) (offer : Word) : LinkSt :=
  (after (.helloRx 0 h) (linked { state := .hello, offer, sentAck := some 0 } up)).link 0

theorem test_witness_hello :
    (after (.helloRx 0 hel) (helloing none)).ports = [(0, { link := { state := .hello, offer := 0x7D, kept := some hel, gotAck := true } })] ∧
    (after (.helloTimeout 0) (helloing none)).time.now = 10 * wMs ∧ ((after (.helloTimeout 0) (helloing none)).link 0).state = .detect ∧
    (let x := (after (.helloRx 0 { hel with ack := false }) (linked { state := .lock, locked := true, gotAck := true } up)).link 0
     x.kept.isSome = true ∧ x.gotAck = false) ∧
    (let s := { linked { state := .up, partner := some (9, 4, 77), partnerW := 0x7F } up with time := { up.time with now := 5 } }
     s.helloDiffers 0 hel = false ∧ ((after (.helloRx 0 hel) s).link 0).heardAt = 5) ∧
    (hears hel 0x7D).state = .up ∧ (hears hel 0x7D).used = 0x7D ∧ (hears hel 0x7D).partner = some (9, 4, 77) ∧
    (hears { hel with word := 0x7E } 0x7D).helloFail = 1 ∧ (hears { hel with etherType := 0x1234 } 0x7D).helloFail = 2 ∧
    up.nodeId = 0 ∧ hel.node ≠ up.nodeId ∧
    (hears hel 0x7F).state = .switch := by decide +kernel

theorem test_witness_low_latency_switch :
    (let s := linked { state := .switch, switched := true, swSeen := true, swCw := 7, cwCount := 263 } up
     s.pwr.mfg = false ∧ (after (.llSwitchBoundary 0 false) s).outs.map (fun o => match o with | .llStart 0 l => l.length | _ => 0) = [272] ∧
     (after (.llSwitchBoundary 0 false) s).time.now = 256 * s.wCodeword 0 ∧
     ((after (.llSwitchBoundary 0 true) s).link 0).rxLL = true ∧
     ((after (.llSwitchBoundary 0 true) (linked { state := .switch, swSeen := true, swCw := 7, cwCount := 262 } up)).link 0).rxLL = false ∧
     (let t := after (.llSwitchTimeout 0) s
      t.link 0 = { s.link 0 with fallback := true, squelched := true, downReason := 10, since := 500 * wUs } ∧
      t.outs = [.squelch 0] ∧ ctr t .port 0 R.PORT_LL_SWITCH_FAILS = 1 ∧ t.alarm.pend = [⟨82, 0x011, 0, 0, 1, 500000⟩] ∧
      ((after (.squelchEnd 0) t).link 0).state = .detect ∧ (after (.squelchEnd 0) t).time.now = 510 * wUs)) := by decide +kernel

theorem test_witness_link_goes_down :
    joined.isUp 0 = true ∧ joined.opens .port R.PORT_LINK_CTRL 0 ∧
    ((after (.signalLoss 0) joined).link 0).downReason = 1 ∧ ((after (.codewordRx 0 .lockLost true) joined).link 0).downReason = 2 ∧
    ((after (.codewordRx 0 .lockLost false) joined).link 0).downReason = 1 ∧
    ((after (.keepaliveTimeout 0) joined).link 0).downReason = 4 ∧ (after (.keepaliveTimeout 0) joined).time.now = 4000 * wUs ∧
    (let s := linked { state := .up, partner := some (8, 4, 77) } joined
     s.helloDiffers 0 hel = true ∧ ((after (.helloRx 0 hel) s).link 0).downReason = 5) ∧
    ((after (.linkRetrain 0) joined).link 0).downReason = 6 ∧
    (joined.link 0).rxLL = false ∧ (joined.link 0).uncorr.length ≤ 8 ∧
    ctr (after (.codewordRx 0 (.std 3 false) true) joined) .port 0 R.PORT_FEC_CW_CORRECTED = 1 ∧
    (let s := linked { state := .up, cwCount := 20, uncorr := [1, 2, 3, 4, 5, 6, 7, 8] } joined
     (s.link 0).uncorr.length = 8 ∧ (∀ n ∈ (s.link 0).uncorr, (s.link 0).cwCount < n + 8192) ∧
     ((after (.codewordRx 0 (.std 0 true) true) s).link 0).downReason = 3) ∧
    stdDecode (List.replicate 40 1) = none ∧ (stdDecode [0]).isSome = true ∧
    ((after (.signalLoss 0) (linked { state := .hello, downReason := 4 } up)).link 0).downReason = 4 := by decide +kernel

/-- Port 0 in UP with SLEEP agreed, about to send its SLEEP HELLO. -/
def sleepy : State :=
  ((linked { state := .up, used := 0x7F } up).modLink 0 fun l => { l with sleeping := true }).modPort 0 PortSt.dropOwn

theorem test_witness_sleep_starts : sleepy.startsNow 0 (sleepy.linkFrame 0 6 tHello (.hello false true)) := startsNow_of (by decide +kernel)

theorem test_witness_sleep :
    errOf (after (.linkSleep 0) (linked { state := .detect } up)) .port 0 = (0x0161, 1) ∧
    errOf (after (.linkSleep 0) (linked { state := .up } up)) .port 0 = (0x0160, 0) ∧
    (let s := linked { state := .up, used := 0x7F } up
     s.linkBit 0 4 = true ∧ (s.link 0).sleeping = false ∧ ((after (.linkSleep 0) s).link 0).slept = true ∧
     (after (.linkSleep 0) s).outs.length = 1) ∧
    errOf (after (.linkWake 0) joined) .port 0 = (0x0161, 6) ∧
    (let s := linked { state := .sleep } up
     s.wakeTarget 0 = none ∧ errOf (after (.linkWake 0) s) .port 0 = (0x0162, 0)) ∧
    (let s := linked { state := .sleep, partner := some (9, 4, 77) } up
     s.wakeTarget 0 = some 9 ∧ s.pwr.mfg = false ∧ (after (.linkWake 0) s).outs = [.wakeBurst 0 (wakeWord 9 0)]) ∧
    (let t := after (.sleepSquelch 0) (linked { state := .up, slept := true } joined)
     (t.link 0).state = .sleep ∧ (t.link 0).downReason = 7 ∧ t.outs = [.squelch 0] ∧ t.time.now = wUs) ∧
    (let s := linked { state := .waking, wakeAt := some 5 } up
     let t := after (.wakeLate 0) s
     s.isUp 0 = false ∧ (t.link 0).wakeAt = none ∧ t.time.now = 5 + 2 * wMs ∧ ctr t .port 0 R.PORT_WAKE_LATE = 1) := by decide +kernel

theorem test_witness_rooster :
    (let s := linked { state := .sleep } up
     let b : WakeBurst := ⟨4096, [wakeWord 0 9, wakeWord 0 9, wakeWord 0 9], 0⟩
     s.burstOk 0 b = true ∧ ((after (.wakeBurstRx 0 b) s).link 0).state = .waking ∧
     s.burstOk 0 ⟨4096, [], 0⟩ = false ∧ ctr (after (.wakeBurstRx 0 ⟨4096, [], 0⟩) s) .port 0 R.PORT_ROOSTER_REJECTED = 1) := by
  decide +kernel

theorem test_witness_pauses :
    ctr (after (.macControlRx 0 1 63) joined) .port 0 R.PORT_RX_UNDERSIZE = 1 ∧
    ctr (after (.macControlRx 0 1 9217) joined) .port 0 R.PORT_RX_OVERSIZE = 1 ∧
    ctr (after (.macControlRx 0 2 64) joined) .port 0 R.PORT_RX_MAC_CTRL_OTHER = 1 ∧
    after (.macControlRx 0 0x0101 64) joined = joined ∧
    (let s := joined.setReg .port 0 R.PORT_PAUSE_CFG 0x301
     joined.feat 4 = true ∧ joined.linkBit 0 3 = true ∧
     ((after (.pauseRx 0 ⟨false, 0, [10], 5⟩) s).port 0).pauseEff = [⟨255 * wTick, false, [(0, 40 * wTick), (1, 40 * wTick)]⟩]) ∧
    (let s := linked { state := .up } joined
     s.linkBit 0 3 = false ∧ ctr (after (.pauseRx 0 ⟨false, 0, [10], 5⟩) s) .port 0 R.PORT_RX_PAUSE_IGNORED = 1) ∧
    (let s := { joined with ports := [(0, { joined.port 0 with pauseEff := [⟨100, true, [(3, 50)]⟩] })] }
     let t := after (.pauseEffect 0) s
     t.time.now = 100 ∧ (t.port 0).pauseEff = [] ∧ (t.port 0).paused 3 149 = true ∧ (t.port 0).paused 3 150 = false ∧
     (after (.pauseExpiry 0 3) t).time.now = 150) := by decide +kernel

/-! Frame preemption. -/

/-- A node in OFF whose port 0 has a verify exchange. -/
def verifying (q : PortSt) : State :=
  { up with ports := [(0, { q with link := { state := .up, preCfg := 0x0A01 }, verify := .verifying })] }

theorem test_witness_verify_sends :
    (verifying {}).startsNow 0 ((verifying {}).linkFrame 0 7 0 .respond) ∧
    (let u := (verifying { verTries := 2 }).runTo (10 * wMs)
     let v := u.modPort 0 fun q => { q with verify := .verifying, verTries := q.verTries + 1, verAt := u.time.now }
     v.startsNow 0 (v.linkFrame 0 7 0 .verify)) :=
  ⟨startsNow_of (by decide +kernel), startsNow_of (by decide +kernel)⟩

theorem test_witness_verify :
    (let s := verifying {}
     s.isUp 0 = true ∧ nbit (s.link 0).preCfg 0 = true ∧ (after (.verifyRx 0 true) s).outs = [.respond 0] ∧
     ctr (after (.verifyRx 0 true) s) .port 0 R.PORT_RESPOND_TX = 1 ∧
     ctr (after (.verifyRx 0 false) s) .port 0 R.PORT_RX_REASM_CRC_ERR = 1 ∧
     ((after (.respondRx 0 true) s).port 0).verify = .succeeded) ∧
    (let s := verifying { verTries := 2 }
     ((s.port 0).waits fun o => o == .verify) = false ∧ (after (.verifyTimeout 0) s).outs = [.verify 0] ∧
     (after (.verifyTimeout 0) s).time.now = 10 * wMs ∧ ((after (.verifyTimeout 0) s).port 0).verTries = 3) ∧
    (let t := after (.verifyTimeout 0) (verifying { verTries := 3 })
     (t.port 0).verify = .failed ∧ t.alarm.pend = [⟨82, 0x017, 0, 0, 1, 10000000⟩]) ∧
    (let s := linked { state := .up, preWatch := true } joined
     ((s.runTo (100 * wMs)).port 0).txActive = false ∧ (after (.preemptInactive 0) s).time.now = 100 * wMs ∧
     (after (.preemptInactive 0) s).alarm.pend = [⟨82, 0x016, 0, 0, 1, 100000000⟩]) := by decide +kernel

/-- Port 0 of a JOINED node that takes preemptable fragments. -/
def merging (r : Option Reasm) : State :=
  { linked { state := .up, used := 0x7F, preCfg := 3, partnerW := 0x7F } joined with
    ports := [(0, { joined.port 0 with link := { state := .up, used := 0x7F, preCfg := 3, partnerW := 0x7F }, reasm := r })] }

/-- A fragment of 60 bytes. -/
def frag (start final : Bool) (no : Nat) : Mpacket :=
  { start, frameNo := 1, fragNo := no, final, fecOk := true, crcOk := true, data := List.replicate 60 0, tRx := 0, edge := 3 }

theorem test_witness_fragments :
    (let s := linked { state := .up } joined
     s.rxActive 0 = false ∧ ctr (after (.fragmentRx 0 (frag true false 0)) s) .port 0 R.PORT_RX_NOT_AGREED = 1) ∧
    (let s := merging none
     s.isUp 0 = true ∧ s.rxActive 0 = true ∧
     (s.seenAt 0 0).stage3 0 (s.isItp 0 (parseFrame (frag true false 0).data)) (parseFrame (frag true false 0).data) 0 = none ∧
     ((after (.fragmentRx 0 (frag true false 0)) s).port 0).reasm = some ⟨1, 0, List.replicate 60 0, 0, 3, 0⟩ ∧
     (s.port 0).dropNo = none ∧ ctr (after (.fragmentRx 0 (frag false false 0)) s) .port 0 R.PORT_RX_REASM_ORPHAN = 1) ∧
    (let s := merging (some ⟨1, 0, List.replicate 60 0, 0, 3, 0⟩)
     ((after (.fragmentRx 0 (frag false false 0)) s).port 0).reasm = some ⟨1, 1, List.replicate 120 0, 0, 3, 0⟩ ∧
     ((after (.fragmentRx 0 (frag false false 2)) s).port 0).reasm = none ∧
     ((after (.fragmentRx 0 (frag false false 2)) s).port 0).dropNo = some 1 ∧
     ctr (after (.fragmentRx 0 { frag false false 0 with fecOk := false }) s) .port 0 R.PORT_RX_FEC_DISCARD = 1) ∧
    (let s := merging none
     let u := { s with ports := smSet s.ports 0 { s.port 0 with dropNo := some 1 } }
     after (.fragmentRx 0 (frag false false 0)) u = (u.seenAt 0 0).pace) ∧
    (let s := merging (some ⟨1, 0, [], 0, 3, 2⟩)
     (s.port 0).reasmTo ≤ 2 ∧ ctr (after (.reasmTimeout 0) s) .port 0 R.PORT_RX_REASM_ABORTED = 1) := by decide +kernel

/-! Streams and event lines. -/

/-- A JOINED node whose live slate has the recovery entry 0 with MATCH, and the generation entry 7 toward port 0. -/
def streams (lo hi : Word) : State :=
  { claimer with slate := { claimer.slate with a := { claimer.slate.a with
      tbl := smSet (smSet (smSet claimer.slate.a.tbl (offRcvy 0) lo) (offRcvy 0 + 8) hi) (offGen 7) 1 } }
                 ports := smSet claimer.ports 0 { claimer.port 0 with link := { state := .up, used := 0x7F } } }

theorem test_witness_recovery :
    rcMatch 3 = true ∧ (up.rcMain 0 5 9 3).2 = true ∧ ((up.rcMain 0 5 9 3).1.rcMain 0 5 9 3).2 = false ∧
    1 ≤ rcLen 0x81 ∧ (up.rcMain 0 5 9 0x81).2 = true ∧ ((up.rcMain 0 5 9 0x81).1.rcMain 0 5 9 0x81).2 = false ∧
    (((up.rcMain 0 5 9 0x81).1.rcMain 0 6 9 0x81).1.rcMain 0 5 9 0x81).2 = false ∧
    (up.rc 0).takeAny = true ∧ ((up.rcMain 0 5 9 3).1.rc 0).rseq = 5 ∧
    rcMatch 0x81 = false ∧ rcLen 0x81 = 8 ∧
    (let s := { up with stream := { up.stream with rcvy := [(0, { takeAny := false, rseq := 7, hist := 0x85 })] } }
     nbit (s.rc 0).hist ((7 + 2 ^ 16 - 5) % 2 ^ 16) = true ∧ (s.rcMain 0 5 9 0x81).2 = false ∧ (s.rcMain 0 6 9 0x81).2 = true ∧
     ((s.rcMain 0 6 9 0x81).1.rc 0).hist = 0x87 ∧ ((s.rcMain 0 9 9 0x81).1.rc 0).hist = 0x15) ∧
    3 ∉ rcPorts ((streams 3 0).live.word (offRcvy 0)) ((streams 3 0).live.word (offRcvy 0 + 8)) ∧
    ((streams 3 0).recover 0 3 5 8 9).2 = false := by decide +kernel

/-- A DATA frame of handle 1 at the hub of a node whose stream entry 1 sends it through recovery entry 0, of port 0. -/
def recovering (e : RcvySt) : State :=
  { arriving (itp { typ := tData, dst := 0, src := 9, handle := 1, seq := 5 } [1, 2, 3, 4]) joined with
    stream := { joined.stream with rcvy := [(0, e)] }
    slate := { joined.slate with a := { joined.slate.a with tbl := [(offStream 1, wd (1 + 2 ^ 7)), (offRcvy 0, 3)] } } }

theorem test_witness_recovery_at_the_hub :
    (let s := recovering { takeAny := false, rseq := 5 }
     let h := hdrOf ((s.nextHub.elim [] fun x => x.frame.body))
     h.seq = 5 ∧ s.live.identify h.handle = some 1 ∧ stRcvy (s.live.word (offStream 1)) = true ∧
     ((rcPorts (s.live.word (offRcvy 0)) (s.live.word (offRcvy 0 + 8))).findIdx? fun p => p == 0) = some 0 ∧
     rcIndiv (s.live.word (offRcvy 0)) = false ∧ (s.rc 0).guard = false ∧ (s.rcMain 0 5 9 3).2 = false ∧
     (after (.hubReceive []) s).mem = s.mem) ∧
    ((after (.hubReceive []) (recovering {})).rc 0).rseq = 5 := by decide +kernel

/-- The recovery entry 0 with what it counted. -/
def counted (e : RcvySt) (s : State) : State := { s with stream := { s.stream with rcvy := [(0, e)] } }

theorem test_witness_streams :
    (let s := counted { takeAny := false, timer := 4, rseq := 9 } (streams (1 + 4 * 2 ^ 12) 0)
     s.time.hasCycle = true ∧ (s.rc 0).takeAny = false ∧ bit (s.live.word (offRcvy 0)) 0 = true ∧
     rcTimeout (s.live.word (offRcvy 0)) ≤ (s.rc 0).timer ∧ ((after (.rcvyTimeoutReset 0) s).rc 0).takeAny = true ∧
     ctr (after (.rcvyTimeoutReset 0) s) .stream 0 R.STREAM_RCVY_RESETS = 1) ∧
    (let s := counted { takeAny := false, testAny := false, testP := 5, testD := 1 } (streams 1 (wd (2 ^ 10 + 2 ^ 12 + 3 * 2 ^ 16 + 8 * 2 ^ 32)))
     rcLatent (s.live.word (offRcvy 0 + 8)) = true ∧ s.time.cycle % rcPeriod (s.live.word (offRcvy 0 + 8)) = 0 ∧
     rcDiff (s.live.word (offRcvy 0 + 8)) < 4 ∧ s.feat 22 = true) ∧
    (let s := counted { takeAny := false, testAny := false, testP := 5, testD := 1 } (streams 1 (wd (2 ^ 10 + 2 ^ 12 + 3 * 2 ^ 16 + 8 * 2 ^ 32)))
     let u := { s with featAcc := 0x3BFFFFF }
     u.feat 22 = false ∧ ctr (after (.latentTest 0) u) .stream 0 R.STREAM_LATENT_ERRORS = 1 ∧
     (after (.latentTest 0) u).alarm.pend = [⟨alarmUnit 0x018 0, 0x018, 0, 4, 1, 0⟩] ∧ ((after (.latentTest 0) u).rc 0).testP = 0) ∧
    (let s := counted { takeAny := false, testAny := false, testP := 5, testD := 2 } (streams 1 (wd (2 ^ 10 + 2 ^ 12 + 3 * 2 ^ 16 + 8 * 2 ^ 32)))
     (after (.latentTest 0) s).alarm.pend = [] ∧ ((after (.latentTest 0) s).rc 0).testP = 0) ∧
    (let s := counted { takeAny := false, ctrs := List.replicate 17 3 } up
     s.opens .stream R.STREAM_RCVY_CTRL 6 ∧ ((after .rcvyResetState s).rc 0).takeAny = true ∧
     ((after .clearCounters s).rc 0).ctrs = List.replicate 17 0 ∧ ((after .clearCounters s).rc 0).takeAny = false) ∧
    up.opens .stream R.STREAM_GEN_CTRL 0 ∧ (after (.setSeq 77) up).nextSeq 0 = 77 ∧
    up.opens .stream R.STREAM_RCVY_SEL 6 ∧ (after (.rcvySel 0x8003) up).regF .stream 0 R.STREAM_RCVY_SEL 14 0 = 3 ∧
    up.opens .stream R.STREAM_GEN_SEL 0 ∧ (after (.genSel 5) (after (.setSeq 77) up)).stream.genView = 0 ∧
    (after (.genSel 0) (after (.setSeq 77) up)).stream.genView = 77 := by decide +kernel

theorem test_witness_event_lines :
    up.opens .evt R.EVT_EVENT_RX_LINES 24 ∧ (after (.eventRxLines 0x8) up).ownerOf (resLine 3) = ownerEvRx ∧
    (let s := up.setOwner (resLine 3) ownerXfer
     s.ownerOf (resLine 3) ≠ 0 ∧ s.ownerOf (resLine 3) ≠ ownerEvRx ∧
     errOf (after (.eventRxLines 0x8) s) .evt 0 = (1, resLine 3)) ∧
    up.opens .evt (R.EVT_PIN_CFG + 4 * 2) 0 ∧
    (let t := after (.pinCfg 2 0x20305) up
     t.ownerOf (resPin 2) = ownerPin 2 ∧ t.outs = [.evtPin 2 true] ∧ pinMode (t.pinCfg 2) = 1 ∧
     (let u := { t with evt := { t.evt with pins := [(2, { level := false, until_ := 900 })] } }
      (after (.evtPinPulseEnd 2) u).outs = [.evtPin 2 true, .evtPin 2 true] ∧ (after (.evtPinPulseEnd 2) u).time.now = 900)) ∧
    (let s := { after (.pinCfg 2 0x10002) up with time := { up.time with now := 5 * wNs } }
     pinMode (s.pinCfg 2) = 2 ∧ (s.pin 2).level = false ∧ (s.pin 2).change + 4 * wNs ≤ s.time.now ∧
     ((after (.evtPinEdge 2 true 0) s).pin 2).stamp = 5 ∧ ctr (after (.evtPinEdge 2 true 0) s) .evt 0 R.EVT_PIN_EDGES = 1 ∧
     ((after (.evtPinEdge 2 true (7 * wNs)) s).pin 2).stamp = 7) ∧
    (let s := { up with evt := { up.evt with gens := [(4, ⟨8, 9, 10⟩)] } }
     s.live.genPorts (fld (s.genWord 4) 27 8) = none ∧ (after (.eventGenBuild 4) s).evt.gens = [] ∧
     ctr (after (.eventGenBuild 4) s) .evt 0 R.EVT_EVENT_GEN_NO_ENTRY = 1) ∧
    (let s := { (streams 0 0).setReg .evt 0 (R.EVT_EVENT_GEN0 + 64) (wd (7 * 2 ^ 8 + 6 * 2 ^ 28 + 2 ^ 32)) with
                evt := { up.evt with gens := [(4, ⟨8, 9, 10⟩)] } }
     let w := s.genWord 4
     s.live.genPorts (fld w 27 8) = some [0] ∧ bit w 54 = false ∧ s.linkBit 0 6 = true ∧ s.node.state = .joined ∧ s.isUp 0 = true ∧
     (s.port 0).txq = [] ∧ s.occupancy 0 70 ≤ s.longest 0 (fld w 30 28) ∧
     ((after (.eventGenBuild 4) s).port 0).txq.map (fun f => (f.cls, f.typ)) = [(6, tEvent)]) := by decide +kernel

theorem test_witness_scrub_and_zones :
    (let s := { up.setReg .mem 0 R.MEM_SCRUB_CFG 100 with scrubs := [(2, (129, 5))] }
     let w := 0x10288
     lineAddr 2 129 ≤ w ∧ w < lineAddr 2 129 + 64 ∧ memStaging w = true ∧ s.regF .mem 0 R.MEM_SCRUB_CFG 15 0 ≠ 0 ∧
     (after (.scrub 2 []) s).scrubs = [(2, (130, 5 + 100 * wHub))] ∧ (after (.scrub 2 []) s).time.now = 5 + 100 * wHub ∧
     ctr (after (.scrub 2 []) s) .mem 0 R.MEM_SCRUB_LINES = 1 ∧
     ctr (after (.scrub 2 [(w, .single)]) s) .mch 2 R.MCH_ECC_CORRECTED = 1 ∧
     (after (.scrub 2 [(w, .uncorrectable)]) s).poison = [w] ∧
     ctr (after (.scrub 2 [(w, .uncorrectable)]) s) .mch 2 R.MCH_ECC_UNCORR = 1 ∧
     (after (.scrub 2 [(w, .uncorrectable)]) s).alarm.pend.map (fun o => (o.cls, o.source, o.detail)) = [(0x019, 2, w)]) ∧
    (let s := up.setReg .mem 0 R.MEM_SCRUB_CFG 0
     s.regF .mem 0 R.MEM_SCRUB_CFG 15 0 = 0 ∧ ctr (after (.scrub 2 []) s) .mem 0 R.MEM_SCRUB_LINES = 0) ∧
    up.opens .lz R.LZ_EDIT_CTRL 0 ∧
    (let s := { up with slate := { up.slate with cut := .committed, x := 9 } }
     errOf (after (.lzEditApply 5) s) .lz 0 = (0x0152, 5)) ∧
    (let s := (up.setReg .lz 0 R.LZ_EDIT_WORD0 0x20F).setReg .lz 0 R.LZ_EDIT_WORD1 (wd (1 + 2 * 2 ^ 32))
     s.zoneBad s.live 5 0x20F (wd (1 + 2 * 2 ^ 32)) = false ∧ (after (.lzEditApply 5) s).live.word (offZone 5) = 0x20F ∧
     (after (.lzEditApply 5) s).ownerOf (resSlice 2) = ownerLz) ∧
    up.opens .lz R.LZ_REJECT_CTRL 0 ∧ up.opens .lz R.LZ_ZONE_SEL 0 ∧
    (after (.zoneSel 5) { up with lz := { up.lz with zones := [(5, ⟨9, true⟩)] } }).lz.view = wd (9 + 2 ^ 63) := by decide +kernel

/-! Queues, jobs and rings. -/

/-- Queue 2 enabled with 16 units at 0x1000, bound to ring 1, which is enabled with 16 entries at 0x2000. -/
def queued (x : SqSt) : State :=
  { streams 0 0 with sq := [(2, { x with base := 0x1000, log2 := 4, cq := 1, enabled := true })]
                     cq := [(1, { base := 0x2000, log2 := 4, enabled := true })] }

/-- A queue with its TAIL at position 3. -/
def three : State := queued { tail := 3 }

theorem test_witness_doorbells :
    (let s := three
     s.running ∧ ((after (.doorbell 2 5) s).queue 2).tail = 5 ∧ ctr (after (.doorbell 2 5) s) .xfer 0 R.XFER_DOORBELLS = 1 ∧
     posDiff 16 5 3 = 2 ∧ posDiff 16 0x10001 3 = 14 ∧ (16 - (s.queue 2).out = 13) ∧
     ((after (.doorbell 2 0x10001) s).queue 2).stopCode = 1 ∧ ((after (.doorbell 2 0x10000) s).queue 2).tail = 0x10000 ∧
     ((after (.doorbell 2 16) s).queue 2).stopCode = 1 ∧
     errOf (after (.doorbell 9 5) s) .xfer 0 = (0x0186, 9)) ∧
    (let s := three
     s.feat 13 = true ∧ ctr (after (.inlineStore 2 1 0) s) .xfer 0 R.XFER_INLINE_ABORTED = 1 ∧
     ((after (.inlineStore 2 0 1) s).queue 2).inl = [1] ∧
     (let t := after (.inlineStore 2 3 4) (after (.inlineStore 2 2 3) (after (.inlineStore 2 1 2) (after (.inlineStore 2 0 1) s)))
      (t.queue 2).front = some (3, wordBytes [1, 2, 3, 4]) ∧ (t.queue 2).tail = 4 ∧ (t.queue 2).inl = [])) ∧
    (let s := queued { poll := 1 }
     (s.queue 2).polls = true ∧ s.poisoned 0x1000 32 = false ∧ posAdd 16 0 0 = 0 ∧ unitPhase (s.unitAt 2 0) ≠ phaseAt 0 ∧
     (after (.sqPoll 2 []) s).queue 2 = { s.queue 2 with pollAt := wPoll } ∧ (after (.sqPoll 2 []) s).time.now = wPoll ∧
     (let u := { s with mem := [(0x1000, 1)] }
      unitPhase (u.unitAt 2 0) = phaseAt 0 ∧ unitLen (u.unitAt 2 0) = 1 ∧ ((after (.sqPoll 2 []) u).queue 2).tail = 1 ∧
      ctr (after (.sqPoll 2 []) u) .xfer 0 R.XFER_POLL_HITS = 1)) := by decide +kernel

/-- A POST of one unit for queue 2 with key 7 from node 9. -/
def posting (key : Nat) (x : SqSt) : State :=
  { arriving (itp { typ := tPost, dst := 0, src := 9, handle := 1, key } ([0, 2, 1, 0, 0, 0, 0, 0] ++ List.replicate 32 0)) (queued x) with
    sq := [(2, { x with base := 0x1000, log2 := 4, cq := 1, enabled := true, remote := true, producer := 9, key := 7 })] }

theorem test_witness_posts :
    (let s := posting 7 { tail := 3 }
     s.nextHub.isSome = true ∧ s.live.identify 1 = none ∧ s.postCheck 2 1 9 7 (List.replicate 32 0) = none ∧ s.memSafe ∧
     posAdd 16 3 0 = 3 ∧ ((after (.hubReceive []) s).queue 2).tail = 4 ∧ (after (.hubReceive []) s).mem = [(0x1060, 1)] ∧
     ctr (after (.hubReceive []) s) .xfer 0 R.XFER_POST_DEPOSITED = 1) ∧
    (let s := posting 8 { tail := 3 }
     s.postCheck 2 1 9 8 (List.replicate 32 0) = some 3 ∧ ctr (after (.hubReceive []) s) .xfer 0 R.XFER_POST_KEY = 1 ∧
     (after (.hubReceive []) s).alarm.pend.map (fun o => (o.cls, o.source, o.detail)) = [(0x01D, 2 + 3 * 0x1000, 9)]) ∧
    (posting 7 { tail := 16 }).postCheck 2 1 9 7 (List.replicate 32 0) = some 5 := by decide +kernel

theorem test_witness_queues :
    (let s := { three with sq := [(2, { base := 0x1000, cq := 3, tail := 7 })] }
     s.running ∧ s.feat 15 = true ∧ s.sqBad { base := 0x1000, log2 := 4, cq := 1 } = none ∧
     ((after (.sqEnable 2 0x121) s).queue 2).enabled = true ∧ ((after (.sqEnable 2 0x121) s).queue 2).tail = 0 ∧
     s.sqBad { base := 0x1000, log2 := 3, cq := 1 } = some 8 ∧ errOf (after (.sqEnable 2 0x119) s) .xfer 0 = (0x0185, 2)) ∧
    (let s := three
     (0x120#32).getLsbD 1 = false ∧ s.xfer.jobs = [] ∧ ((after (.sqDisable 2 0x120) s).queue 2).enabled = false) ∧
    (let s := { queued { tail := 1 } with mem := [(0x1000, 1)] }
     s.arbitrate.2 = some 2 ∧ s.arbitrate.1.eligible 2 = true ∧ s.arbitrate.1.nextEntry 2 = some (1, 0, false) ∧
     ((after .entryFetch s).queue 2).copying = [(1, false)]) ∧
    (let s := { queued { tail := 1, copying := [(1, false)] } with mem := [(0x1000, 1)] }
     s.poison = [] ∧ unitPhase (s.unitAt 2 (posAdd 16 0 0)) = phaseAt (posAdd 16 0 0) ∧
     ((after (.entryCopied 2 []) s).queue 2).head = 1 ∧ (after (.entryCopied 2 []) s).xfer.nextId = 1 ∧
     ((after (.entryCopied 2 []) { s with mem := [] }).queue 2).stopCode = 2) := by decide +kernel

/-- A SEND job of queue 2 that builds its one frame of four bytes from address 0x3000. -/
def sendJob : Job := { waitJob with kind := .send, cq := 1, src := 0x3000, started := true }

theorem test_witness_jobs :
    (let s := { three with xfer := { three.xfer with jobs := [sendJob] }, mem := [(0x3001, 5)] }
     s.buildTurn = some 2 ∧ s.builder 2 = some sendJob ∧ s.poison = [] ∧ s.errs = [] ∧ s.live.genPorts 7 = some [0] ∧ s.isUp 0 = true ∧ (s.port 0).txq = [] ∧
     s.occupancy 0 (itpLen false 4) ≤ s.longest 0 6 ∧ (after (.frameBuild 2 []) s).nextSeq 7 = 1 ∧
     ((after (.frameBuild 2 []) s).port 0).txq.map (fun f => (f.cls, f.typ, f.frame.body.drop 32 |>.take 4)) = [(6, tData, [0, 5, 0, 0])]) ∧
    (let s := { three with xfer := { three.xfer with jobs := [{ sendJob with handle := 8 }] } }
     s.live.genPorts 8 = none ∧ ctr (after (.frameBuild 2 []) s) .stream 0 R.STREAM_GEN_NO_ENTRY = 1 ∧
     (after (.frameBuild 2 []) s).xfer.jobs = []) ∧
    three.buildTurn = none ∧ (after (.frameBuild 2 []) three).ports = three.ports ∧
    (let s := { three with xfer := { three.xfer with jobs := [{ waitJob with pulsed := true }] } }
     (after (.sendOnEventStart 2) s).xfer.jobs = [{ waitJob with pulsed := true, started := true }]) ∧
    (let s := { three with xfer := { three.xfer with jobs := [{ waitJob with waited := 2, cq := 1 }, { waitJob with id := 3, waited := 1 }] } }
     (after (.eventTimeout 2) s).xfer.jobs = [{ waitJob with id := 3, waited := 1 }]) ∧
    (let s := { three with xfer := { three.xfer with jobs := [{ waitJob with kind := .expect, waited := 2, cq := 1 }] } }
     (after (.expectTimeout 2) s).xfer.jobs = []) ∧
    (let s := { three with xfer := { three.xfer with jobs := [{ waitJob with kind := .fence, cq := 1 }] } }
     (after (.fenceFinish 2) s).xfer.jobs = []) := by decide +kernel

theorem test_witness_rings :
    (let s := { three with cq := [(1, { base := 0x2000, log2 := 4, enabled := true, tail := 3 })] }
     s.running ∧ posDiff 16 2 0 ≤ (s.ring 1).out ∧ ((after (.cqHeadWrite 1 2) s).ring 1).head = 2 ∧
     (s.ring 1).out < posDiff 16 4 0 ∧ errOf (after (.cqHeadWrite 1 4) s) .xfer 0 = (0x0188, 1)) ∧
    (let s := { three with xfer := { three.xfer with held := [⟨1, 2, 7, 8⟩] } }
     s.heldOf 1 = [⟨1, 2, 7, 8⟩] ∧ (s.ring 1).full = false ∧ s.memSafe ∧ (after (.heldEntryWrite 1) s).xfer.held = [] ∧
     (after (.heldEntryWrite 1) s).mem = [(0x2000, 7), (0x2008, 8), (0x200F, 0x80)] ∧ ((after (.heldEntryWrite 1) s).ring 1).tail = 1) ∧
    (let s := { three with cq := [(1, { log2 := 4, enabled := true, notify := wd (5 + 2 ^ 15 + 2 * 2 ^ 24), oldest := some 100, written := 3 })]
                           core := { three.core with routes := [(5, 0x83)] } }
     s.routed 5 = true ∧ (after (.cqNotifyDelay 1) s).time.now = 100 + 2 * wPulse ∧ (after (.cqNotifyDelay 1) s).outs = [.irq 3 0 5] ∧
     ((after (.cqNotify 1 0x10005) s).ring 1).oldest = none ∧ errOf (after (.cqNotify 1 5) s) .xfer 0 = (7, 16)) ∧
    (let s := { three with cq := [(1, { base := 0x2000, tail := 5 })] }
     s.cqBad { base := 0x2000, log2 := 4, tail := 5 } = none ∧ ((after (.cqEnable 1 0x21) s).ring 1).enabled = true ∧
     ((after (.cqEnable 1 0x21) s).ring 1).tail = 0) ∧
    three.cqUsed 1 = true ∧ errOf (after (.cqDisable 1 0x20) three) .xfer 0 = (0x0189, 1) ∧
    (let s := { three with sq := [] }
     s.cqUsed 1 = false ∧ ((after (.cqDisable 1 0x20) s).ring 1).enabled = false) ∧
    up.opens .pgrp R.PGRP_TSQ_CTRL 17 ∧ (after (.xferEn 3 true) up).ownerOf (resTsq 3) = ownerXfer ∧
    (after (.xferEn 3 false) (after (.xferEn 3 true) up)).ownerOf (resTsq 3) = 0 ∧
    errOf (after (.xferEn 3 true) (up.setOwner (resTsq 3) ownerLz)) .pgrp 3 = (1, resTsq 3) := by decide +kernel

/-! The block mover. -/

/-- The endpoint with one page enabled. -/
def on (k : PageKind) (s : State) : State := s.modHdr k 0 fun h => { h with enable := true }

/-- Channel 0 of the mover, its page enabled. -/
def chan0 (m : MvCh) : State := { on .mover up with mover := { up.mover with chans := [(0, { m with ringBase := 0x4000 })] } }

theorem test_witness_mover_start :
    up.opens .mover R.MOVER_CH_SEL 0 ∧ (after (.chSel 0x105) up).chSel = 5 ∧ up.opens .mover R.MOVER_CH_CTRL 18 ∧
    (let s := chan0 { live := { event := 0x83 } }
     s.chSel = 0 ∧ (∀ x ∈ s.mover.chans, wKind x.2.live.watch = 0) ∧ s.chBad (s.chan 0) = none ∧
     ((after .chEnable s).chan 0).enabled = true ∧ (after .chEnable s).ownerOf (resLine 3) = ownerCh 0 ∧
     (let t := after .chDisable (after .chEnable s)
      (t.chan 0).needsReset = true ∧ t.ownerOf (resLine 3) = 0 ∧ ((after .chReset t).chan 0).needsReset = false) ∧
     errOf (after .chReset (after .chEnable s)) .mover 0 = (0x01A2, 0) ∧
     errOf (after .chEnable (s.setOwner (resLine 3) ownerXfer)) .mover 0 = (1, resLine 3)) ∧
    (chan0 { needsReset := true }).chBad { ringBase := 0x4000, needsReset := true } = some (0x01A1, R.MOVER_CH_CTRL) ∧
    errOf (after .chEnable (chan0 { needsReset := true })) .mover 0 = (0x01A1, 0) ∧
    (let s := chan0 { enabled := true, desc := some (descOf 0 (List.replicate 64 0)) }
     s.memSafe ∧ ctr (after .chDisable s) .mover 0 R.MOVER_DISABLES_DROPPED = 1) ∧
    (let s := chan0 { enabled := true, barrier := true, held := some (descOf 0 (List.replicate 64 0)) }
     (s.chan 0).desc = none ∧ ctr (after .chDisable s) .mover 0 R.MOVER_DISABLES_DROPPED = 1) ∧
    (let s := { chan0 { enabled := true, ringCfg := 0x10004, readAt := 7 } with mem := [(0x4000, 1)], time := { up.time with now := 9 } }
     (s.chan 0).rereads = true ∧ s.poisoned ((s.chan 0).descAddr 0) 64 = false ∧
     ((after .chKick s).chan 0).ahead = some (some (s.readMem 0x4000 64)) ∧ ((after .chKick s).chan 0).readAt = 9 ∧
     ((after (.chIdlePoll 0) s).chan 0).readAt = 7 + 1024 * wNs ∧
     ((after .chKick { s with mem := [] }).chan 0).ahead = none ∧
     ((after .chKick { s with poison := [0x4038] }).chan 0).ahead = some none) ∧
    (up.chan 0).rereads = false ∧ bitsOf (up.chan 0).ringCfg 31 16 = 0 ∧ after .chKick up = up := by decide +kernel

theorem test_witness_mover_commit :
    up.opens .mover 0x038 18 ∧
    (let s := chan0 { shadow := { watch := 1, low := 5, high := 5 } }
     (setBad { watch := 1, low := 5, high := 5 }).isSome = true ∧ errOf (after .moverShadowCommit s) .mover 0 = (0x01A3, 0)) ∧
    (let s := chan0 { enabled := true, shadow := { event := 0x83 } }
     s.lineClash s.newLines = none ∧ (s.setOwner (resLine 3) ownerXfer).lineClash (s.setOwner (resLine 3) ownerXfer).newLines = some (resLine 3, ownerXfer) ∧
     errOf (after .moverShadowCommit (s.setOwner (resLine 3) ownerXfer)) .mover 0 = (1, resLine 3)) ∧
    (let s := { chan0 { shadow := { prio := 3 } } with time := { up.time with now := 10 * wHub } }
     let t := after .moverShadowCommit s
     setBad { prio := 3 } = none ∧ s.newLines = [] ∧ (t.hdr .mover 0).pending = true ∧ (t.hdr .mover 0).commitSeq = 1 ∧
     t.mover.commitAt = 10 ∧ (t.chan 0).pend = some { prio := 3 } ∧ (t.chan 255).pend = some {}) := by decide +kernel

/-- The mover with a set that channel 0 has not taken yet, committed in hub period 10. -/
def committed (m : MvCh) : State :=
  (chan0 { m with pend := some { prio := 3 } }).modHdr .mover 0 fun h => { h with pending := true, commitSeq := 1 }

theorem test_witness_mover_commit_applies :
    (let s := { committed { index := 2 } with mover := { (committed { index := 2 }).mover with commitAt := 10 } }
     let t := after (.commitApplied ⟨.mover, 0⟩) s
     (s.chan 0).atBoundary = true ∧ t.time.now = 11 * wHub ∧ (t.chan 0).live = { prio := 3 } ∧ (t.chan 0).hoSeq = 1 ∧
     (t.chan 0).hoFirst = 2 ∧ (t.chan 0).hoSame = false ∧ (t.hdr .mover 0).pending = false ∧ (t.hdr .mover 0).appliedSeq = 1) ∧
    (let s := committed { enabled := true, desc := some (descOf 0 (List.replicate 64 0)) }
     let t := after (.commitApplied ⟨.mover, 0⟩) s
     (s.chan 0).atBoundary = false ∧ (t.hdr .mover 0).pending = true ∧ (t.chan 0).live = {} ∧ (t.chan 0).pend = some { prio := 3 }) := by
  decide +kernel

/-- A descriptor that moves 64 bytes from 0x10000 to 0x20000, in memory at 0x4000 with the OWN bit. -/
def descMem : List Host.Cell :=
  [(0x4000, 1), (0x400A, 1), (0x4010, 64), (0x4014, 64), (0x4018, 1), (0x4022, 2), (0x4028, 64), (0x402C, 64), (0x4030, 1)]

/-- The same descriptor as the channel holds it. -/
def desc0 : MvDesc :=
  { idx := 0, word0 := 1, src := 0x10000, srcLen := 64, srcStride := 64, srcCount := 1, dst := 0x20000, dstLen := 64, dstStride := 64,
    dstCount := 1, ungranted := 64, left := 64 }

theorem test_witness_mover_descriptors :
    (let b := ({ up with mem := descMem } : State).readMem 0x4000 64
     let s := chan0 { enabled := true, ahead := some (some b) }
     (s.chan 0).atBoundary = true ∧ s.descBad (descOf 0 b) = none ∧ ((after (.descriptorHandover 0 []) s).chan 0).desc = some desc0 ∧
     ((after (.descriptorHandover 0 []) s).chan 0).index = 1 ∧ ((after (.descriptorHandover 0 []) s).chan 0).ahead = none) ∧
    ((after (.descriptorHandover 0 []) (chan0 { enabled := true })).chan 0).desc = none ∧
    (let b := ({ up with mem := [(0x4000, 1)] } : State).readMem 0x4000 64
     let s := chan0 { enabled := true, ahead := some (some b) }
     s.descBad (descOf 0 b) = some 2 ∧ ((after (.descriptorHandover 0 []) s).chan 0).errCode = 2 ∧
     ((after (.descriptorHandover 0 []) s).chan 0).halted = true) ∧
    (let t := after (.descriptorHandover 0 []) (chan0 { enabled := true, ahead := some none })
     (t.chan 0).errCode = 8 ∧ (t.chan 0).index = 0 ∧ ctr t .mover 0 R.MOVER_HALTS = 1) ∧
    (let t := after (.descriptorHandover 0 []) (chan0 { enabled := true, haltNext := true })
     (t.chan 0).halted = true ∧ (t.chan 0).haltNext = false) := by
  decide +kernel

theorem test_witness_mover_bursts :
    (let s := chan0 { enabled := true, desc := some desc0 }
     s.pickChan = some 0 ∧ desc0.burst = 64 ∧ s.outstanding = 0 ∧
     (∀ x ∈ s.mover.chans, wKind x.2.live.watch = 0) ∧ desc0.ungranted ≤ desc0.burst ∧ s.poisoned ((s.chan 0).descAddr 0) 64 = false ∧
     (after .burstGrant s).mover.bursts = [⟨0, 0, 0x10000, 0x20000, 64⟩] ∧ (after .burstGrant s).mover.readFree = 1 ∧
     ((after .burstGrant { s with mem := descMem }).chan 0).ahead = some (some (({ up with mem := descMem } : State).readMem 0x4000 64))) ∧
    (let w : MvCh := { enabled := true, live := { watch := 3 + 5 * 2 ^ 8, low := 100, high := 200 }, paceRun := true }
     let s := { chan0 { w with desc := some desc0 } with lz := { up.lz with zones := [(5, ⟨0, false⟩)] } }
     wKind w.live.watch ≠ 0 ∧ s.mover.chans.length = 1 ∧ ((after .burstGrant (chan0 w)).chan 0).level = (chan0 w).level w) ∧
    (let m : MvCh := { enabled := true, live := { watch := 2, low := 0, high := 1 }, paceRun := true, desc := some desc0 }
     let s := { chan0 m with sq := [(0, { log2 := 4, tail := 5 })] }
     wKind m.live.watch ≠ 0 ∧ m.live.lo < s.level m ∧ m.live.hi ≤ s.level m ∧ ((after .burstGrant s).chan 0).paceRun = false ∧
     ctr (after .burstGrant s) .mover 0 R.MOVER_PACE_STOPS = 1) ∧
    (let s := chan0 { enabled := true, desc := some { desc0 with ungranted := 0 } }
     let u : State := { s with mover := { s.mover with bursts := [⟨0, 0, 0x10000, 0x20000, 64⟩] }, mem := [(0x10003, 9)] }
     u.memSafe ∧ u.poison = [] ∧ u.othersWords 0 = [] ∧ desc0.srcExt = 64 ∧ (after (.burstDataReturn [] false) u).readByte 0x20003 = 9 ∧
     ((after (.burstDataReturn [] false) u).chan 0).done = [⟨0, 1, false⟩] ∧
     (let v := { u with poison := [0x10008] }
      v.poisoned 0x10000 64 = true ∧ ((after (.burstDataReturn [] false) v).chan 0).errCode = 6) ∧
     (let w := u.modChan 0 fun m => { m with desc := some { desc0 with word0 := 5 } }
      ((after (.burstDataReturn [] false) w).chan 0).barrier = true) ∧
     (let w := u.modChan 0 fun m => { m with desc := some { desc0 with left := 128 } }
      (((after (.burstDataReturn [] false) w).chan 0).desc.any fun d => d.left == 64) = true)) := by
  decide +kernel

theorem test_witness_mover_answers :
    (let s := { chan0 { enabled := true, unans := [(0x20000, 0)], done := [⟨0, 1, false⟩] } with mem := descMem }
     s.memSafe ∧ (after (.writesAnswered 0 []) s).readByte 0x4000 = 0 ∧
     ctr (after (.writesAnswered 0 []) s) .mover 0 R.MOVER_DESC_DONE = 1) ∧
    (let s := { chan0 { enabled := true, unans := [(0x20000, 0)], done := [⟨0, 5, false⟩], barrier := true } with mem := descMem }
     bit (5 : Word) 1 = false ∧ bit (5 : Word) 2 = true ∧ ((after (.writesAnswered 0 []) s).chan 0).barrier = false) ∧
    (let w := 0x1000000000
     let s := chan0 { enabled := true, unans := [(w, 0)], done := [⟨0, 1, false⟩] }
     let t := after (.writesAnswered 0 [(w, .uncorrectable)]) s
     w % 8 = 0 ∧ memLpddr w = true ∧ (t.chan 0).errCode = 7 ∧ (t.chan 0).late = true ∧ t.mem = [] ∧
     ctr t .mover 0 R.MOVER_LATE_ERRORS = 1 ∧ ctr t .mch (mchOf w) R.MCH_ECC_UNCORR = 1 ∧
     (let u := { chan0 { enabled := true, desc := some { desc0 with idx := 1 }, unans := [(w, 1)], done := [⟨0, 1, false⟩] } with mem := descMem }
      let v := after (.writesAnswered 0 [(w, .uncorrectable)]) u
      (v.chan 0).errCode = 7 ∧ (v.chan 0).errIndex = 1 ∧ (v.chan 0).late = false ∧ v.readByte 0x4000 = 0)) ∧
    (let w := 0x1000000000
     let s := chan0 { enabled := true, desc := some { desc0 with ungranted := 0, src := w } }
     let u : State := { s with mover := { s.mover with bursts := [⟨0, 0, w, 0x20000, 64⟩] } }
     memLpddr w = true ∧ ((after (.burstDataReturn [] true) u).chan 0).errCode = 6 ∧
     ctr (after (.burstDataReturn [] true) u) .mch (mchOf w) R.MCH_ECC_UNCORR = 1) ∧
    (chan0 { draining := true }).mover.chans.length = 1 ∧ ((after (.drainDone 0) (chan0 { draining := true })).chan 0).draining = false := by
  decide +kernel

/-! Codec, dailies, reel, alarms and faults. -/

/-- A test of four signed bytes from 0x1000 with slice 2. -/
def testing : State :=
  (((up.setReg .codec 0 R.CODEC_TEST_CFG 0x00042100).setReg .codec 0 R.CODEC_TEST_SRC 0x1000).setReg .codec 0 R.CODEC_TEST_ENC 0x2000).setReg
    .codec 0 R.CODEC_TEST_DST 0x3000

theorem test_witness_codec_test :
    testing.opens .codec R.CODEC_TEST_CTRL 0 ∧ testing.testBad = none ∧ testNeeds testing.testCfg = [] ∧
    (let t := after .codecTestStart testing
     t.test.busy = true ∧ t.ownerOf (resSlice 2) = ownerTest ∧ errOf (after .codecTestStart t) .codec 0 = (0x0190, 0) ∧
     (let u := { t with mem := [(0x1001, 7)] }
      (decode 0 0 4 (encode 0 0 (elemsOfMem 0 (u.readMem 0x1000 4))).bytes).toOption = some [0, 7, 0, 0] ∧
      (after (.codecTestDone []) u).mem = [(0x1001, 7), (0x2001, 7), (0x3001, 7)] ∧
      (after (.codecTestDone []) u).ownerOf (resSlice 2) = 0 ∧
      ctr (after (.codecTestDone []) u) .codec 0 R.CODEC_TEST_RUNS = 1) ∧
     (let u := { t with poison := [0x1000] }
      u.poisoned 0x1000 4 = true ∧ (after (.codecTestDone []) u).test.poisoned = true)) ∧
    errOf (after .codecTestStart (testing.setOwner (resSlice 2) ownerLz)) .codec 0 = (1, resSlice 2) ∧
    (testing.setReg .codec 0 R.CODEC_TEST_CFG 0x00002100).testBad = some R.CODEC_TEST_CFG ∧
    (let s := { testing.setReg .codec 0 R.CODEC_TEST_CFG 0x00042212 with featAcc := 0x3FFFEFF }
     s.testBad = none ∧ testNeeds s.testCfg = [8, 10] ∧ s.feat 8 = false ∧ errOf (after .codecTestStart s) .codec 0 = (2, 8)) ∧
    up.test.busy = false := by decide +kernel

/-- The dailies enabled, LPDDR trained, at a cycle start. -/
def daily : State :=
  { on .cnt joined with ddr := { up.ddr with trained := true }, cnt := { up.cnt with take := true } }

theorem test_witness_dailies :
    daily.captureDue = true ∧ daily.dumpsHeld = 0 ∧ daily.dumpSlots = 4 ∧ (after .dailiesCapture daily).cnt.seq = 1 ∧
    (after .dailiesCapture daily).cnt.busy.isSome = true ∧
    (let s := { (after .dailiesCapture daily) with cnt := { (after .dailiesCapture daily).cnt with take := true } }
     s.captureDue = true ∧ ctr (after .dailiesCapture s) .cnt 0 R.CNT_DUMPS_SKIPPED_BUSY = 1) ∧
    (let s := daily.setReg .cnt 0 R.CNT_RING_TAIL 4
     s.dumpsHeld = s.dumpSlots ∧ ctr (after .dailiesCapture s) .cnt 0 R.CNT_DUMPS_SKIPPED_FULL = 1) ∧
    up.captureDue = false ∧ up.opens .cnt R.CNT_DAILIES_CTRL 19 ∧ (after .take (on .cnt up)).cnt.take = true ∧
    (let s := after .dumpWritten (after .dailiesCapture daily)
     s.cnt.busy = none ∧ s.regF .cnt 0 R.CNT_RING_TAIL 31 0 = 1) := by decide +kernel

theorem test_witness_dailies_rings_and_histograms :
    up.opens .cnt R.CNT_RING_HEAD 19 ∧
    (let s := up.setReg .cnt 0 R.CNT_RING_TAIL 2
     (after (.dailiesRingHead 2) s).dumpsHeld = 0 ∧ errOf (after (.dailiesRingHead 3) s) .cnt 0 = (0x01B1, 0)) ∧
    up.opens .pgrp R.PGRP_HIST_CTRL 20 ∧ up.opens .cnt R.CNT_OTHER_CTRL 20 ∧ up.opens .pgrp (originOff 1) 20 ∧
    (let s := { up with cnt := { up.cnt with hists := [(32, {}), (48, {})] } }
     (after (.clearAll 1) s).cnt.hists = [(48, {})] ∧ (after (.histOriginWrite 1 1 5) s).cnt.hists = [(48, {})] ∧
     (after (.histOriginWrite 1 2 5) s).cnt.hists = [(32, {}), (48, {})] ∧
     (after (.histOriginWrite 2 0 5) s).cnt.hists = [(32, {})]) ∧
    (let t := after (.coreCounterOverflow 3 2 (.wraps false 9)) up
     t.outs = [.overflowIrq 3] ∧ t.core.ovf = [(3, 2)] ∧ smGet t.core.ovfPc 3 0 = 9 ∧
     (after (.coreCounterOverflow 3 2 (.wraps false 9)) t).outs = t.outs ∧ (after (.coreCounterOverflow 3 2 .cleared) t).core.ovf = []) ∧
    (let t := after (.coreCounterOverflow 3 2 (.wraps true 9)) up
     t.outs = [] ∧ t.core.ovfHeld = [3] ∧ (after (.coreCounterOverflow 3 2 (.unmasked 8)) t).outs = [.overflowIrq 3]) ∧
    up.core.ovfHeld = [] := by decide +kernel

/-- The reel enabled with its ring at 0x1000000000. -/
def reel (t : TraceSt) : State :=
  { (on .trace up).setReg .trace 0 R.TRACE_RING_BASE 0x1000000000 with ddr := { up.ddr with trained := true }, trace := t }

/-- A record. -/
def rec0 : TraceRec := { time := 5, source := 68, suspect := false, kind := 7, w1 := 1, w2 := 2, w3 := 3 }

theorem test_witness_reel :
    (let s := reel { alarms := [rec0] }
     0 < s.reelFree ∧ s.memSafe ∧ (after .reelWrite s).trace.alarms = [] ∧ (after .reelWrite s).readByte 0x1000000008 = 1) ∧
    (let s := (reel { alarms := [rec0] }).setReg .trace 0 R.TRACE_RING_TAIL 1024
     s.reelFree = 0 ∧ ctr (after .reelWrite s) .trace 0 R.TRACE_ALARM_RECORDS_LOST = 1) ∧
    (let s := reel { srcs := [(3, { lostRate := 2 })], fifo := [rec0] }
     s.gaps = [3] ∧ s.regF .trace 0 R.TRACE_RING_CFG 31 16 < s.reelFree ∧ (after .reelWrite s).readByte 0x1000000008 = 2 ∧
     (after .reelWrite s).trace.fifo = [rec0]) ∧
    (let s := reel { fifo := [rec0] }
     s.gaps = [] ∧ (after .reelWrite s).trace.fifo = [] ∧
     (let u := s.setReg .trace 0 R.TRACE_RING_TAIL 1000
      u.reelFree ≤ u.regF .trace 0 R.TRACE_RING_CFG 31 16 ∧ ((after .reelWrite u).src 68).lostSpace = 1)) ∧
    up.opens .trace R.TRACE_SW_CTRL 21 ∧
    (let s := (reel { srcs := [(68, { tokens := 2 })] }).setReg .trace 0 (R.TRACE_SRC_FILTER + 16 * 68) 1
     s.passesFilter 68 none none none = true ∧ (after .emit s).trace.fifo.length = 1 ∧ ((after .emit s).src 68).tokens = 1) ∧
    up.passesFilter 68 none none none = false ∧ up.opens .trace R.TRACE_RING_HEAD 21 ∧
    errOf (after (.traceRingHead 1) up) .trace 0 = (0x01C6, 0) ∧ (after (.traceRingHead 0) up).regF .trace 0 R.TRACE_RING_HEAD 31 0 = 0 ∧
    up.opens .trace 0x018 21 ∧ up.reelCfgOk = false ∧ errOf (after .traceEnable up) .trace 0 = (0x01C7, 0) ∧
    (let s := up.setReg .trace 0 R.TRACE_RING_BASE 0x1000000000
     s.reelCfgOk = true ∧ ((after .traceEnable s).hdr .trace 0).enable = true) ∧
    (let s := reel { fifo := [rec0] }
     let t := after (.blockEnable ⟨.trace, 0⟩ false) s
     s.reserve + s.gaps.length < s.reelFree ∧ t.trace.fifo = [] ∧ ctr t .trace 0 R.TRACE_RECORDS_WRITTEN = 1 ∧
     (let u := s.setReg .trace 0 R.TRACE_RING_TAIL 1000
      u.reelFree ≤ u.reserve + u.gaps.length ∧ ctr (after (.blockEnable ⟨.trace, 0⟩ false) u) .trace 0 R.TRACE_LOST_FULL = 1)) := by
  decide +kernel

/-- An occurrence of class 0x019, and a key that holds it. -/
def occ0 : Occ := ⟨1106, 0x019, 0, 0x1080, 1, 77⟩
def key0 : AlarmKey :=
  { cls := 0x019, source := 0, sev := 2, count := 4, firstNs := 5, lastNs := 6, firstDetail := 7, lastDetail := 8, notified := false,
    notifyNs := none }

theorem test_witness_alarm_table :
    (let s := { up with alarm := { up.alarm with pend := [occ0] } }
     s.alarmKey 0x019 0 = none ∧ ((lowest 1023 fun j => (smFind s.alarm.keys j).isNone) = some 0) ∧
     nbit (fld (s.reg .alarm 0 R.ALARM_CFG) 27 24) (severity 0x019) = true ∧
     ctr (after .alarmApply s) .alarm 0 R.ALARM_NOTIFICATIONS = 1 ∧
     ((smFind (after .alarmApply s).alarm.keys 0).any fun k => k.count == 1 && k.lastDetail == 0x1080) = true) ∧
    (let s := { up with alarm := { up.alarm with pend := [occ0], keys := [(4, key0)] } }
     s.alarmKey 0x019 0 = some 4 ∧
     ((smFind (after .alarmApply s).alarm.keys 4).any fun k => k.count == 5 && k.firstNs == 5 && k.lastNs == 77) = true) ∧
    State.reset.featOk = false ∧ up.opens .alarm R.ALARM_KEY_SEL 0 ∧ up.opens .alarm R.ALARM_KEY_CTRL 0 ∧
    (let s := { up.setReg .alarm 0 R.ALARM_KEY_SEL 4 with alarm := { up.alarm with keys := [(4, key0)] } }
     (after .alarmRelease s).alarm.keys = [] ∧ (after (.keySel 4) s).alarm.view = alarmView (some key0) ∧
     errOf (after .alarmRelease { s with alarm := { s.alarm with changed := true } }) .alarm 0 = (0x01C0, 4)) ∧
    errOf (after .alarmRelease up) .alarm 0 = (0x01C1, 0) := by decide +kernel

/-- A report of node 9 about port 3 of node 8, and the entry of its key. -/
def rep (resolved : Bool) : FaultReport := ⟨9, b2n resolved, 8, 3, 5, 1, 2, 4⟩
def ent0 : FaultEntry :=
  { node := 8, port := 3, code := 5, reports := 1, active := 1, raises := 1, firstRep := 6, firstCycle := 1, lastRep := 6, lastCycle := 1,
    firstDetail := 0, lastDetail := 0, stale := false }

/-- The fault block enabled and ready, its bitmaps at 0x2000000. -/
def faulty (f : FaultSt) : State :=
  { (on .fault joined).setReg .fault 0 R.FAULT_REPORTER_BASE 0x2000000 with fault := { f with ready := true } }

theorem test_witness_faults :
    (let s := faulty { slots := [⟨8, 3, 5, 1, 2, 0, 0, 4⟩] }
     s.nodeId = 0 ∧ (let u := { s with time := { s.time with cycle := s.faultRepeat } }
       (u.faultRepeat : Int) ≤ cycDiff u.time.cycle 0 ∧
       (after .faultResolvedSend u).fault.queue = [⟨0, 1, 8, 3, 5, 1, 2, 4⟩] ∧ (after .faultResolvedSend u).fault.slots = []) ∧
     cycDiff s.time.cycle 0 < s.faultRepeat ∧ (after .faultResolvedSend s) = s) ∧
    (let s := (faulty {}).setReg .fault 0 R.FAULT_SW_FAULT0 (wd (8 + 3 * 2 ^ 16 + 0x8001 * 2 ^ 32))
     s.opens .fault R.FAULT_SW_CTRL 22 ∧ fld (s.reg .fault 0 R.FAULT_TX_CFG) 15 0 = s.nodeId ∧
     (after .faultSwSend s).fault.queue = [⟨0, 0, 8, 3, 0x8001, 8, 0, 0⟩] ∧
     (let u := s.setReg .fault 0 R.FAULT_TX_CFG 9
      fld (u.reg .fault 0 R.FAULT_TX_CFG) 15 0 ≠ u.nodeId ∧ ctr (after .faultSwSend u) .fault 0 R.FAULT_TX_FAILED = 1 ∧
      (let v := { u with node := { u.node with state := .halted } }
       after .faultSwSend v = v))) ∧
    (let s := faulty { queue := [rep false] }
     s.faultKey (rep false) = none ∧ s.memSafe ∧ s.repBit 0 9 = false ∧ (after .faultAggregate s).repBit 0 9 = true ∧
     ((smFind (after .faultAggregate s).fault.entries 0).any fun x => x.active == 1 && x.reports == 1) = true ∧
     (let u := { (after .faultAggregate s) with fault := { (after .faultAggregate s).fault with queue := [rep true] } }
      u.faultKey (rep true) = some 0 ∧ (after .faultAggregate u).repBit 0 9 = false ∧
      ((smFind (after .faultAggregate u).fault.entries 0).any fun x => x.active == 0 && x.reports == 2) = true)) ∧
    (let s := faulty { queue := [rep false], entries := [(7, ent0)] }
     s.faultKey (rep false) = some 7 ∧ s.repBit 7 9 = false ∧
     ((smFind (after .faultAggregate s).fault.entries 7).any fun x => x.active == 2 && x.lastRep == 9) = true) ∧
    ctr (after .faultAggregate (faulty { queue := [rep true] })) .fault 0 R.FAULT_RX_RESOLVED_UNKNOWN = 1 ∧
    (let s := (faulty { entries := [(7, ent0)] }).setReg .fault 0 R.FAULT_AGG_CFG 4
     (4 : Int) ≤ cycDiff s.time.cycle 1 ∧ (after .faultStale s).fault.entries = [(7, { ent0 with active := 0, stale := true })] ∧
     cycDiff s.time.cycle 1 < 8 ∧ (let u := s.setReg .fault 0 R.FAULT_AGG_CFG 8
      after .faultStale u = u)) ∧
    up.opens .fault R.FAULT_ENTRY_SEL 0 ∧ up.opens .fault R.FAULT_ENTRY_CTRL 22 ∧
    (let s := after (.entrySel 7) (faulty { entries := [(7, ent0)] })
     s.fault.view = faultView (some ent0) ∧ (after .faultRelease s).fault.entries = [] ∧
     errOf (after .faultRelease { s with fault := { s.fault with changed := true } }) .fault 0 = (0x01C2, 7)) ∧
    errOf (after .faultRelease up) .fault 0 = (0x01C3, 0) := by decide +kernel

/-- A FAULT of node 9 about port 3 of node 8 at the hub. -/
def faultIn (f : FaultSt) : State :=
  arriving (itp { typ := tFault, dst := 0, src := 9, handle := 1 } (faultBytes (rep false))) { on .fault joined with fault := f }

theorem test_witness_faults_at_the_hub :
    (faultIn { ready := true }).nextHub.isSome = true ∧ joined.live.identify 1 = none ∧
    (after (.hubReceive []) (faultIn { ready := true })).fault.queue = [rep false] ∧
    ctr (after (.hubReceive []) (faultIn {})) .fault 0 R.FAULT_RX_NOT_READY = 1 ∧
    (let s := faultIn { ready := true, queue := List.replicate 2048 (rep false) }
     ctr (after (.hubReceive []) s) .fault 0 R.FAULT_AGG_QUEUE_FULL = 1 ∧ (after (.hubReceive []) s).alarm.pend.length = 1) := by decide +kernel

theorem test_witness_fault_enable :
    up.opens .fault 0x018 22 ∧ (up.hdr .fault 0).enable = false ∧ up.repAreaOk = true ∧
    ((after .faultEnable up).hdr .fault 0).enable = true ∧ (after .faultReady (after .faultEnable up)).fault.ready = true ∧
    (let s := up.setReg .fault 0 R.FAULT_REPORTER_BASE 0x1000
     s.repAreaOk = false ∧ errOf (after .faultEnable s) .fault 0 = (0x01C4, 0)) := by decide +kernel

/-! Harts, management port, boot, power and PMBus. -/

theorem test_witness_cores :
    up.opens .global R.GLOBAL_HART_CTRL 0 ∧ (0x6#16) ≠ 0 ∧ up.hartEntry = 0 ∧ entryOk 0 = true ∧
    (after (.hartStart 0x6) up).outs = [.release 1 0, .release 2 0] ∧ (after (.hartStart 0x6) up).core.released = 7 ∧
    nbit up.core.released 0 = true ∧ errOf (after (.hartStart 0x3) up) .global 0 = (0x01D0, 0) ∧
    (let s := up.setReg .global 0 R.GLOBAL_HART_ENTRY 2
     entryOk s.hartEntry = false ∧ errOf (after (.hartStart 0x2) s) .global 0 = (0x01D1, 0)) ∧
    (let s := { (up.setReg .global 0 (R.GLOBAL_IRQ_SRC + 4 * 66) 5).modHdr .pgrp 2 fun h =>
                  { h with intCause := 1, intEnable := 1 } with core := { up.core with routes := [(5, 0x93)] } }
     s.srcLevel 66 = true ∧ s.srcId 66 = 5 ∧ s.routed 5 = true ∧
     (let t := after (.irqSignal 66) s
      t.outs = [.irq 3 1 5] ∧ t.core.disarmed = [66] ∧ t.core.pendIrq = [(3, 1, 5)] ∧ after (.irqSignal 66) t = t ∧
      (after (.irqRearm 66) t).core.disarmed = [] ∧ (after (.irqRearm 0x80000000) t).core.disarmed = [])) ∧
    up.opens .global R.GLOBAL_IRQ_REARM 0 ∧ up.srcLevel 66 = false ∧
    (let s := up.setReg .global 0 R.GLOBAL_MTIMECMP 7
     nbit s.core.released 0 = true ∧ (after (.machineTimerInterrupt 0) s).time.now = 70 * wNs ∧
     (after (.machineTimerInterrupt 0) s).outs = [.timerIrq 0 false] ∧
     (after (.supervisorTimerInterrupt 0) { s with core := { s.core with stimecmp := [(0, 9)] } }).time.now = 90 * wNs) ∧
    nbit up.core.released 1 = false := by decide +kernel

/-- The management port enabled, its transmit ring at 0x5000 and its receive ring at 0x6000. -/
def managed : State :=
  ((on .mgmt up).setReg .mgmt 0 R.MGMT_TX_RING_BASE 0x5000).setReg .mgmt 0 R.MGMT_RX_RING_BASE 0x6000

/-- A broadcast frame. -/
def bcast (n : Nat) : MgmtFrame := { bytes := List.replicate 6 0xFF ++ List.replicate (n - 6) 0, fcsOk := true }

theorem test_witness_management :
    managed.opens .mgmt R.MGMT_TX_CTRL 0 ∧ managed.mgmtOn = true ∧
    (let s := { managed with mem := [(0x5001, 0x70), (0x5006, 64), (0x5007, 0x80), (0x7003, 9)] }
     s.txDesc = 0x5000 ∧ s.mgOwned 0x5000 = true ∧ (after .mgmtTxKick s).mgmt.txReady = true ∧
     (let t := after .mgmtTxKick s
      t.memSafe ∧ t.mgStatus (t.mgWord 0x5000 0) 14 1518 = 0 ∧
      (after .mgmtTxDescriptor t).outs = [.mgmtFrame ([0, 0, 0, 9] ++ List.replicate 60 0) true] ∧
      (after .mgmtTxDescriptor t).mgmt.txIndex = 1)) ∧
    (let s := { managed with mem := [(0x5007, 0x80)], mgmt := { managed.mgmt with txReady := true } }
     s.mgStatus (s.mgWord 0x5000 0) 14 1518 = 2 ∧ (after .mgmtTxDescriptor s).readByte 0x500B = 2) ∧
    managed.opens .mgmt R.MGMT_RX_CTRL 0 ∧ managed.rxDesc = 0x6000 ∧
    (let s := { managed with mem := [(0x6001, 0x78), (0x6007, 0x86)], mgmt := { managed.mgmt with rxBuf := [[1, 2, 3]] } }
     s.mgOwned 0x6000 = true ∧ s.mgStatus (s.mgWord 0x6000 0) 1536 (2 ^ 14) = 0 ∧ s.memSafe ∧
     fld (s.mgWord 0x6000 0) 47 0 = 0x7800 ∧ (after .mgmtRxKick s).readMem 0x7800 3 = [1, 2, 3] ∧
     (after .mgmtRxKick s).mgmt.rxIndex = 1) ∧
    managed.mgmt.rxBuf = [] ∧ (after .mgmtIdlePoll managed).mgmt.txReady = false ∧
    managed.mgAccepts (beAt (bcast 60).bytes 0 6) = true ∧ managed.mgAccepts (beAt (List.replicate 6 (1 : Byte)) 0 6) = false ∧
    ctr (after (.mgmtRxFrame { bytes := List.replicate 60 1, fcsOk := true }) managed) .mgmt 0 R.MGMT_RX_FILTERED = 1 ∧
    ctr (after (.mgmtRxFrame { bcast 60 with fcsOk := false }) managed) .mgmt 0 R.MGMT_RX_FCS_ERR = 1 ∧
    (bcast 1519).bytes.length = 1519 ∧ ctr (after (.mgmtRxFrame (bcast 1519)) managed) .mgmt 0 R.MGMT_RX_TOO_LONG = 1 ∧
    managed.mgOwned managed.rxDesc = false ∧ (after (.mgmtRxFrame (bcast 60)) managed).mgmt.rxBuf.length = 1 ∧
    (let s := { managed with mgmt := { managed.mgmt with rxBuf := List.replicate 11 (List.replicate 1518 0) } }
     16384 < (s.mgmt.rxBuf.map List.length).sum + 60 ∧ ctr (after (.mgmtRxFrame (bcast 60)) s) .mgmt 0 R.MGMT_RX_NO_DESC = 1) ∧
    (after (.mgmtLinkChange true 6 true) managed).mgmt.speed = 2 := by decide +kernel

/-- A header that passes the checks before the signature: 64 bytes of body at 0. -/
def goodHdr : List Byte :=
  [0x5A, 0x54, 0x58, 0x49, 1] ++ List.replicate 27 0 ++ [64] ++ List.replicate 95 0 ++ [4] ++ List.replicate 383 0

theorem test_witness_boot :
    (let x : SecSt := {}
     x.slotCode ⟨false, [], []⟩ = 1 ∧ goodHdr.length = 512 ∧ magicOk goodHdr = true ∧ headerOk goodHdr = true ∧ x.badKey goodHdr = false ∧
     hdrBodyLen goodHdr = 64 ∧ magicOk (List.replicate 512 0) = false ∧ x.slotCode ⟨true, List.replicate 512 0, []⟩ = 2 ∧
     headerOk ([0x5A, 0x54, 0x58, 0x49] ++ List.replicate 508 0) = false ∧
     x.slotCode ⟨true, [0x5A, 0x54, 0x58, 0x49] ++ List.replicate 508 0, []⟩ = 3 ∧
     { x with prov := true }.badKey goodHdr = true ∧ { x with prov := true }.slotCode ⟨true, goodHdr, []⟩ = 4) ∧
    (let s := { up with pwr := { up.pwr with core0 := true } }
     s.pwr.held = false ∧ s.sec.done = false ∧ s.sec.code1 = 0 ∧ s.memSafe ∧
     (let t := after (.boot ⟨false, [], []⟩ ⟨true, List.replicate 512 0, []⟩) s
      t.sec.code0 = 1 ∧ t.sec.code1 = 2 ∧ t.outs = [.alertN false] ∧ t.pwr.alert = true ∧ t.sec.unprov = true)) := by decide +kernel

theorem test_witness_fuses :
    up.opens .sec R.SEC_FUSE_CTRL 0 ∧ up.sec.op = none ∧ up.sec.lock = false ∧ nth up.sec.keys 1 none = none ∧
    (let s := after .fuseOpDone (after (.programKey 1) (up.setReg .sec 0 R.SEC_KEY_STAGE 7))
     nth s.sec.keys 1 none = some [7, 0, 0, 0, 0, 0] ∧ s.sec.usable 1 = true ∧
     errOf (after (.programKey 1) s) .sec 0 = (0x01F0, 1) ∧ (after (.revoke 0) s).sec.op.isSome = true ∧
     errOf (after (.revoke 1) s) .sec 0 = (0x01F1, 2) ∧ (after .fuseOpDone (after .setProvisioned s)).sec.prov = true ∧
     (after .fuseOpDone (after (.revoke 0) s)).sec.revoked = [true, false, false, false]) ∧
    (let s := { up with sec := { up.sec with lock := true, counter := 5 } }
     errOf (after (.programKey 0) s) .sec 0 = (0x01F4, 1) ∧ errOf (after .setProvisioned s) .sec 0 = (0x01F4, 4) ∧
     errOf (after (.setCounter 4) s) .sec 0 = (0x01F2, 3) ∧ errOf (after (.setCounter 65) s) .sec 0 = (0x01F2, 3) ∧
     (after .fuseOpDone (after (.setCounter 64) s)).sec.counter = 64) ∧
    errOf (after .setProvisioned up) .sec 0 = (0x01F1, 4) := by decide +kernel

/-- The endpoint with the sequencer in a state. -/
def seqAt (q : SeqState) (rails : Nat) : State := { up with pwr := { up.pwr with seq := q, rails, held := true, pgood := false } }

theorem test_witness_power_up :
    (let t := after (.uvloRise true 0) (seqAt .off 0)
     t.pwr.seq = .rail 0 ∧ t.pwr.cause = 1) ∧ (after (.uvloRise false 10000) (seqAt .off 0)).pwr.seq = .rail 0 ∧
    after (.uvloRise false 9999) (seqAt .off 0) = seqAt .off 0 ∧
    (let t := after (.railInRegulation 0 true) (seqAt (.rail 0) 0)
     t.pwr.seq = .crystal ∧ t.pwr.osc = (if up.pwr.oscSet then up.pwr.osc else true) ∧ t.pwr.oscSet = true) ∧
    (after (.railInRegulation 4 true) (seqAt (.rail 4) 15)).pwr.seq = .rail 5 ∧
    (let t := after (.railInRegulation 9 false) (seqAt (.rail 9) 0x1FF)
     t.outs = [.pgood true] ∧ t.pwr.relAt = 1000000) ∧
    (let t := after (.railTimeout 4) (seqAt (.rail 4) 15)
     t.pwr.stopRail = 5 ∧ t.pwr.seq = .stopped ∧ nth t.pwr.stVout 4 0 = 4 ∧
     t.outs = [.railOff 4, .railOff 3, .railOff 2, .railOff 1, .railOff 0, .alertN false]) ∧
    (after .crystalStable (seqAt .crystal 1)).pwr.seq = .rail 1 := by decide +kernel

theorem test_witness_power_faults :
    nbit up.pwr.rails 6 = true ∧
    (let t := after (.railCurrentLimit 6) up
     t.pwr.stopRail = 7 ∧ nth t.pwr.stIout 6 0 = 0x80 ∧ nth t.pwr.stVout 6 0 = 0x10) ∧
    up.pwr.seq ≠ .off ∧ (after .uvloFall up).pwr.cause = 17 ∧ (after .uvloFall up).pwr.held = true ∧
    (after .uvloFall up).outs.take 2 = [.railOff 9, .pgood false] ∧ (after (.vinOvervoltage 5801) up).pwr.alert = true := by decide +kernel

theorem test_witness_reset :
    (let t := after .deviceReset { up with mem := [(8, 1)], sec := { up.sec with counter := 3, lock := true } }
     t.pwr.held = true ∧ t.pwr.cause = 5 ∧ t.featAcc = 0 ∧ t.sec.counter = 3 ∧ t.sec.lock = false ∧ t.readByte 8 = 1 ∧
     t.pwr.pgood = true ∧ t.pwr.relAt = t.pwr.ao + 10000 ∧ (after (.resetRelease (some 3) false 5) t).pwr.addr = 5 ∧
     (after (.resetRelease (some 3) false 5) t).pwr.ao = t.pwr.relAt ∧ (after (.resetRelease none false 5) t).pwr.held = true) ∧
    (let t := after .rstNAssert up
     t.pwr.cause = 3 ∧ t.pwr.rstN = false ∧ (after (.resetRelease (some 3) false 5) t).pwr.ao = t.pwr.ao + 1000003) ∧
    up.pwr.pll = false ∧ (after .pllLock { up with mem := [(8, 1)] }).readByte 8 = 0 ∧
    (let s := { up with pwr := { up.pwr with pll := true } }
     s.pwr.core0 = false ∧ s.pwr.mfg = false ∧ (after .core0Release s).outs = [.release 0 0x00FF00000000] ∧
     (after .core0Release s).time.now = s.core.mtime0 + 100 * wUs) ∧
    (after .core0Release up).outs = [] := by decide +kernel

theorem test_witness_training_and_temperature :
    up.opens .ddr R.DDR_TRAIN_CTRL 0 ∧ (after .ddrTrainStart up).ddr.busy = true ∧
    errOf (after .ddrTrainStart (after .ddrTrainStart up)) .ddr 0 = (0x0200, 0) ∧
    (let t := after (.ddrTrainDone 255) (after .ddrTrainStart up)
     t.ddr.trained = true ∧ errOf (after .ddrTrainStart t) .ddr 0 = (0x0201, 0)) ∧
    (after (.ddrTrainDone 254) (after .ddrTrainStart up)).ddr.failed = 1 ∧
    (nextStage 0 1679, nextStage 0 1680, nextStage 0 1840, nextStage 1 1600, nextStage 1 1601, nextStage 2 1760, nextStage 2 1761) =
      (0, 1, 2, 0, 1, 1, 2) ∧
    nbit up.pwr.rails 0 = true ∧
    (let t := after (.thermalSample ([0, 1700] ++ List.replicate 14 5)) up
     t.pwr.hottest = 1 ∧ t.pwr.stage = 1 ∧ ctr t .pwr 0 R.PWR_THROTTLE_ENTRIES = 1) ∧
    (after .thermalShutdown up).pwr.rails = 1 ∧ (after .thermalShutdown up).pwr.cause = 9 := by decide +kernel

/-- The slave's address, the straps being 0, from a master without PEC. -/
def bus : Smb := ⟨0x40, none⟩
/-- The same from a master that uses PEC, with the byte it ends a write with. -/
def pec (b : Byte) : Smb := ⟨0x40, some b⟩

theorem test_witness_pmbus_writes :
    (let s := { up with pwr := { up.pwr with rails := 0 } }
     nbit s.pwr.rails 0 = false ∧ after (.clearFaults bus) s = s) ∧ after (.clearFaults ⟨0x41, none⟩) up = up ∧
    nbit up.pwr.rails 0 = true ∧ bus.addr.toNat = 0x40 + up.pwr.addr ∧
    (after (.page bus 3) up).pwr.page = 3 ∧ (after (.page bus 10) up).outs = [.pmbusNack] ∧
    pecOf (smbSent bus 0x00 [3]) = 0x2 ∧ (after (.page (pec 0x2) 3) up).pwr.page = 3 ∧
    (let t := after (.page (pec 0) 3) up
     t.pwr.stCml = 0x20 ∧ t.outs = [.pmbusNack]) ∧
    (let s := after (.page bus 0xFF) up
     s.pwr.page = 0xFF ∧ (after (.operationOff bus) s).pwr.seq = .off ∧ (after (.operationOn bus) s).outs = [.pmbus [], .pmbusNack]) ∧
    (let s := { up with pwr := { up.pwr with page := 0xFF, seq := .thermal } }
     s.pwr.hot = false ∧ (after (.operationOn bus) s).pwr.seq = .crystal) ∧
    up.pwr.vinOv = false ∧ up.pwr.overTemp = false ∧
    (after (.clearFaults bus) { up with pwr := { up.pwr with stCml := 0x80 } }).pwr.stCml = 0 := by decide +kernel

theorem test_witness_pmbus_reads :
    (let s := { up with pwr := { up.pwr with page := 0xFF, vinTlm := 5000 } }
     (after (.readVin bus) s).outs = [.pmbus [0x80, 0xCA]] ∧ (after (.voutMode bus) s).outs = [.pmbusNack]) ∧
    (after (.readVin bus) up).outs = [.pmbusNack] ∧ up.pwr.page < 10 ∧ (after (.voutMode bus) up).outs = [.pmbus [0x14]] ∧
    (after (.pmbusRevision bus) up).outs = [.pmbus [0x33]] ∧
    (after (.pmbusRevision (pec 0)) up).outs = [.pmbus [0x33, 0xf3]] ∧
    0x42 ∉ pmbListed ∧ (after (.pmbusUnknownCommand bus 0x42) up).pwr.stCml = 0x80 ∧ lin11 false 5000 1000 = 0xCA80 ∧
    lin16 1000 = 4096 ∧
    (let t := after (.telemetryRefresh { vinMv := 5000, iin := 1, pin := 2, rails := List.replicate 10 (1, 2, 3) }) up
     t.pwr.vinTlm = 5000 ∧ t.pwr.vinMv = 5000) ∧
    (after (.telemetryRefresh { vinMv := 5000, iin := 1, pin := 2, rails := List.replicate 10 (1, 2, 3) }) held).pwr.vinMv = 0 := by
  decide +kernel

/-! Bounds on what a command carries: an ill-formed operand of every kind is refused. -/

theorem test_wf_refuses_pages_and_accesses :
    (Instr.blockEnable ⟨.pgrp, 64⟩ true).wf = false ∧ (Instr.shadowCommit ⟨.port, 1024⟩).wf = false ∧ (Instr.snapTake ⟨.mch, 16⟩).wf = false ∧
    (Instr.blockReset ⟨.time, 1⟩ true).wf = false ∧ (Instr.blockEnable ⟨.pgrp, 63⟩ true).wf = true := by decide +kernel

theorem test_wf_refuses_register_accesses :
    (Instr.registerWrite (.reg ⟨16, 0, 4, some 1⟩)).wf = false ∧ (Instr.registerWrite (.reg ⟨0, 2 ^ 28, 4, some 1⟩)).wf = false ∧
    (Instr.registerWrite (.reg ⟨0, 0, 3, some 1⟩)).wf = false ∧ (Instr.registerWrite (.reg ⟨15, 2 ^ 28 - 1, 8, none⟩)).wf = true ∧
    (Instr.counterWrite ⟨.port, 3⟩ 0x1000 1 0).wf = false ∧ (Instr.slateTableWrite (2 ^ 28) 0).wf = false ∧
    (Instr.registerWrite (.mem 16 0 4 .load)).wf = false ∧ (Instr.registerWrite (.mem 0 (2 ^ 48) 4 .load)).wf = false ∧
    (Instr.registerWrite (.mem 0 2 2 .lr)).wf = false ∧ (Instr.registerWrite (.mem 0 6 4 .lr)).wf = false ∧
    (Instr.registerWrite (.mem 0 7 2 .load)).wf = true := by decide +kernel

theorem test_wf_refuses_frames :
    (Instr.frameReceive ⟨0, ⟨1, 2, some ⟨8, false, 0⟩, 0, []⟩, true, true, 0, 0, []⟩).wf = false ∧
    (Instr.frameReceive ⟨0, ⟨1, 2, some ⟨7, false, 4096⟩, 0, []⟩, true, true, 0, 0, []⟩).wf = false ∧
    (Instr.frameReceive ⟨0, ⟨1, 2, some ⟨7, false, 4095⟩, 0, []⟩, true, true, 0, 0, []⟩).wf = true ∧
    (Instr.fragmentRx 0 { frag true false 0 with frameNo := 4 }).wf = false ∧ (Instr.fragmentRx 0 (frag true false 4)).wf = false ∧
    (Instr.fragmentRx 0 { frag true false 0 with data := [] }).wf = false ∧
    (Instr.pauseRx 0 ⟨false, 0, [], 0⟩).wf = false ∧ (Instr.pauseRx 0 ⟨true, 0, [1], 0⟩).wf = false ∧
    (Instr.pauseRx 0 ⟨false, 0, [2 ^ 16], 0⟩).wf = false ∧ (Instr.pauseRx 0 ⟨false, 2 ^ 16, [0], 0⟩).wf = false := by decide +kernel

theorem test_wf_refuses_clappers :
    clap.wf = true ∧ { clap with hdrCycle := 2 ^ 16 }.wf = false ∧ { clap with cycle := 2 ^ 48 }.wf = false ∧
    { clap with origin := 2 ^ 80 }.wf = false ∧ { clap with correction := 2 ^ 63 }.wf = false ∧
    { clap with correction := -(2 ^ 63) - 1 }.wf = false ∧ { clap with tbRank := 256 }.wf = false ∧
    { clap with tbNode := 2 ^ 16 }.wf = false ∧ { clap with steps := 256 }.wf = false ∧ { clap with ticks := 2 ^ 24 }.wf = false ∧
    { clap with flags := 256 }.wf = false ∧ (Instr.clapperRx 0 { clap with flags := 256 } 0).wf = false := by decide +kernel

theorem test_wf_refuses_hellos_and_codewords :
    hel.wf = true ∧ { hel with node := 2 ^ 16 }.wf = false ∧ { hel with port := 1024 }.wf = false ∧ { hel with tag := 2 ^ 16 }.wf = false ∧
    { hel with etherType := 2 ^ 16 }.wf = false ∧ (Instr.helloRx 0 { hel with port := 1024 }).wf = false ∧
    (Instr.codewordRx 0 (.ll []) true).wf = false ∧ (Instr.codewordRx 0 (.ll (List.replicate 272 1024)) true).wf = false ∧
    (Instr.codewordRx 0 (.ll (List.replicate 272 1023)) true).wf = true ∧ (Instr.codewordRx 0 (.rs [0]) true).wf = false := by decide +kernel

theorem test_wf_refuses_memory_errors_and_readings :
    (Instr.hubReceive [(2 ^ 29, .single)]).wf = false ∧ (Instr.scrub 0 [(0x2000000000, .single)]).wf = false ∧
    (Instr.burstDataReturn [(0x1FFFFFFFF8, .uncorrectable), (8, .single)] false).wf = true ∧
    (Instr.thermalSample []).wf = false ∧ (Instr.telemetryRefresh ⟨0, 0, 0, []⟩).wf = false := by decide +kernel

theorem test_reset_is_idle :
    State.reset.pending = [] ∧ State.reset.node.state = .off ∧ State.reset.featLock = false ∧ State.reset.memSafe ∧
    (State.reset.link 5).state = .disabled ∧ State.reset.pwr.cause = 1 ∧ step State.reset = .next State.reset := by
  refine ⟨?_, ?_, ?_, ?_, ?_, ?_, rfl⟩ <;> decide +kernel
end Sys2Proof.Tests
end

section
/-! SUPPORT. A time-distribution pulse: what it does to the replica of each island, and what it leaves of fabric time (R11, R14, R62,
R359). -/

namespace Sys2Proof.Machine

open Sys2Proof

theorem State.runTo_time (s : State) (w : Nat) : (s.runTo w).time = { s.time with now := max s.time.now w } := by
  rw [← State.atLeast_time]
  have hw : Part.same .time (s.atLeast w) ((s.atLeast w).listedPorts.foldl State.endWire (s.atLeast w)) :=
    Part.same_foldl _ _ (Part.same_refl _ _) fun u p hu => by simp [hu]
  refine (show Part.same .time (s.atLeast w) _ from ?_)
  unfold State.runTo
  simp [hw]

theorem State.replica_congr {s t : State} (h : t.time = s.time) (n : Nat) : t.replica n = s.replica n := by
  simp only [State.replica, h]

theorem State.refAbsent_congr {s t : State} (h : t.pwr = s.pwr) (i : Nat) : t.refAbsent i = s.refAbsent i := by
  simp only [State.refAbsent, h]

/-- A replica after a pulse: `gone` where the island's reference clock is absent, `missed` where the island misses the pulse, `d` the
difference measured. -/
def Replica.afterPulse (r : Replica) (gone missed : Bool) (d : Int) : Replica :=
  let new := r.pulse (if gone || missed then none else some d)
  if gone then { new with valid := false } else new

theorem Replica.afterPulse_untaken (r : Replica) (gone missed : Bool) (d : Int) (h : gone = true ∨ missed = true) :
    r.afterPulse gone missed d =
      { r with missed := r.missed + 1, agreed := 0, valid := r.valid && decide (r.missed = 0) && !gone } := by
  have hu : (gone || missed) = true := by simpa using h
  cases gone <;> simp [Replica.afterPulse, hu, Replica.pulse]

theorem Replica.afterPulse_taken (r : Replica) (d : Int) :
    r.afterPulse false false d =
      (let a := if d.natAbs * wFrac ≤ wTick then r.agreed + 1 else 0
       { diff := d, missed := 0, agreed := a, valid := decide (d.natAbs * wFrac ≤ 2 * wTick) && (r.valid || decide (8 ≤ a)) }) := rfl

/-! One island. -/

/-- An island's pulse changes its replica and nothing else of fabric time: the alarm and the hold of its ports touch no time. -/
theorem State.pulseIsland_time (s : State) (missed : List (Fin 70)) (diffs : List (Fin 70 × Int)) (i : Fin 70) :
    (s.pulseIsland missed diffs i).time = { s.time with
      replicas := smSet s.time.replicas i ((s.replica i).afterPulse (s.refAbsent i) (missed.contains i) (measured diffs i)) } := by
  refine (show Part.same .time (s.modTime fun t => { t with
    replicas := smSet t.replicas i ((s.replica i).afterPulse (s.refAbsent i) (missed.contains i) (measured diffs i)) }) _ from ?_)
  unfold State.pulseIsland
  refine Part.same_ite (Part.same_ite ?hold ?slip) (Part.same_refl _ _)
  all_goals simp [Part.same_refl, Replica.afterPulse, measured]

theorem State.pulseIsland_pwr (s : State) (missed : List (Fin 70)) (diffs : List (Fin 70 × Int)) (i : Fin 70) :
    (s.pulseIsland missed diffs i).pwr = s.pwr := by
  refine (show Part.same .pwr s _ from ?_); simp [Part.same_refl]

theorem State.replica_pulseIsland_same (s : State) (missed : List (Fin 70)) (diffs : List (Fin 70 × Int)) (i : Fin 70) :
    (s.pulseIsland missed diffs i).replica i =
      (s.replica i).afterPulse (s.refAbsent i) (missed.contains i) (measured diffs i) := by
  simp [State.replica, State.pulseIsland_time]

theorem State.replica_pulseIsland_other (s : State) (missed : List (Fin 70)) (diffs : List (Fin 70 × Int)) (i : Fin 70) (n : Nat)
    (h : n ≠ i) : (s.pulseIsland missed diffs i).replica n = s.replica n := by
  simp [State.replica, State.pulseIsland_time, smGet_smSet_other _ _ _ _ _ h]

/-! Several islands, one after the other. -/

/-- A pulse reaches some islands in turn. -/
def State.pulseIslands (s : State) (missed : List (Fin 70)) (diffs : List (Fin 70 × Int)) (l : List (Fin 70)) : State :=
  l.foldl (fun t i => t.pulseIsland missed diffs i) s

theorem State.pulseIslands_time (missed : List (Fin 70)) (diffs : List (Fin 70 × Int)) (l : List (Fin 70)) (s : State) :
    (s.pulseIslands missed diffs l).time = { s.time with replicas := (s.pulseIslands missed diffs l).time.replicas } := by
  induction l generalizing s with
  | nil => rfl
  | cons i l ih =>
    have h := ih (s.pulseIsland missed diffs i)
    rw [State.pulseIsland_time] at h
    exact h

theorem State.replica_pulseIslands_other (missed : List (Fin 70)) (diffs : List (Fin 70 × Int)) (l : List (Fin 70)) (s : State)
    (i : Fin 70) (h : i ∉ l) : (s.pulseIslands missed diffs l).replica i = s.replica i := by
  induction l generalizing s with
  | nil => rfl
  | cons j l ih =>
    obtain ⟨hj, hl⟩ : i ≠ j ∧ i ∉ l := by simpa using h
    exact (ih (s.pulseIsland missed diffs j) hl).trans
      (s.replica_pulseIsland_other missed diffs j i fun e => hj (Fin.ext e))

/-- An island that is reached once has its replica pulsed once. -/
theorem State.replica_pulseIslands (missed : List (Fin 70)) (diffs : List (Fin 70 × Int)) (l : List (Fin 70)) (hl : l.Nodup)
    (s : State) (i : Fin 70) (h : i ∈ l) :
    (s.pulseIslands missed diffs l).replica i =
      (s.replica i).afterPulse (s.refAbsent i) (missed.contains i) (measured diffs i) := by
  induction l generalizing s with
  | nil => cases h
  | cons j l ih =>
    obtain ⟨hj, hl⟩ := List.nodup_cons.1 hl
    show ((s.pulseIsland missed diffs j).pulseIslands missed diffs l).replica i = _
    by_cases e : i = j
    · subst e
      rw [State.replica_pulseIslands_other _ _ _ _ _ hj, State.replica_pulseIsland_same]
    · rw [ih hl _ ((List.mem_cons.1 h).resolve_left e), State.refAbsent_congr (State.pulseIsland_pwr _ _ _ _),
        State.replica_pulseIsland_other _ _ _ _ _ fun c => e (Fin.ext c)]

/-! The command. -/

/-- The hub has sent a pulse: its instant and the new rate are in force, and the reference clocks that are absent are known. -/
def State.pulseSent (s : State) (absent : BitVec 16) : State :=
  let s1 := s.runTo (s.time.lastPulse + wPulse)
  ({ s1 with pwr := { s1.pwr with noRef := absent.toNat } }).modTime fun t =>
    { t with lastPulse := t.now, rateNow := if hubEdge t.now ≤ t.rateAt then t.ratePrev else t.rateNext }

theorem State.pulseSent_time (s : State) (absent : BitVec 16) : (s.pulseSent absent).time =
    (let now := max s.time.now (s.time.lastPulse + wPulse)
     { s.time with now, lastPulse := now, rateNow := if hubEdge now ≤ s.time.rateAt then s.time.ratePrev else s.time.rateNext }) := by
  simp only [State.pulseSent, State.modTime, State.runTo_time]

theorem State.replica_pulseSent (s : State) (absent : BitVec 16) (n : Nat) : (s.pulseSent absent).replica n = s.replica n := by
  simp only [State.replica, State.pulseSent_time]

theorem State.departs_refill_time (s : State) : s.departs.refill.time = s.time := by
  refine (show Part.same .time s _ from ?_); simp [Part.same_refl]

theorem exec_timeDistributionPulse (absent : BitVec 16) (missed : List (Fin 70)) (diffs : List (Fin 70 × Int)) (s : State)
    (h : s.pwr.held = false) : exec (.timeDistributionPulse absent missed diffs) s =
      .next (((s.pulseSent absent).pulseIslands missed diffs (List.finRange 70)).departs.refill) := by
  show Host.Outcome.next (if s.pwr.held then s else _) = _
  rw [h]; rfl

/-- Settles O15: the pulse reaches every island once, and each island's replica goes by `Replica.afterPulse`. -/
theorem pulseCorrectsTheReplicas : Obligations.PulseCorrectsTheReplicas := by
  intro s absent missed diffs hheld gone
  refine ⟨_, exec_timeDistributionPulse absent missed diffs s hheld, ?_⟩
  have hlast := State.departs_refill_time ((s.pulseSent absent).pulseIslands missed diffs (List.finRange 70))
  have htime := hlast.trans (State.pulseIslands_time missed diffs (List.finRange 70) (s.pulseSent absent))
  rw [State.pulseSent_time] at htime
  have hrep : ∀ i : Fin 70,
      ((s.pulseSent absent).pulseIslands missed diffs (List.finRange 70)).departs.refill.replica i =
        (s.replica i).afterPulse (gone i) (missed.contains i) (measured diffs i) := fun i => by
    rw [State.replica_congr hlast, State.replica_pulseIslands _ _ _ (List.nodup_finRange 70) _ _ (List.mem_finRange i),
      State.replica_pulseSent]
    rfl
  refine ⟨by rw [htime], by rw [htime], by rw [htime], fun i hi => ?untaken, fun i hi hm => ?taken, by rw [htime], by rw [htime],
    by rw [htime]⟩
  case untaken => rw [hrep, Replica.afterPulse_untaken _ _ _ _ (hi.imp_right fun h => by simpa using h)]
  case taken =>
    have hm' : missed.contains i = false := by simpa using hm
    rw [hrep, hi, hm', Replica.afterPulse_taken]

end Sys2Proof.Machine
end

section
/-! SUPPORT. The registers that passing time, discards and traces leave alone: each operation counts in registers of its own, and no
job that finishes writes a register of a port page. -/

namespace Sys2Proof.Machine

open Sys2Proof

/-! Operations that count in one or two registers. -/

/-- What every step of a fold keeps, the fold keeps. -/
theorem State.foldl_keeps {α β : Type} (g : State → β) (l : List α) (f : State → α → State) (hf : ∀ u x, g (f u x) = g u) (s : State) :
    g (l.foldl f s) = g s := by
  induction l generalizing s with
  | nil => rfl
  | cons x l ih => exact (ih (f s x)).trans (hf s x)

theorem State.find_foldl_other {α : Type} {a : Nat} (l : List α) (f : State → α → State)
    (hf : ∀ u x, smFind (f u x).regs a = smFind u.regs a) (s : State) : smFind (l.foldl f s).regs a = smFind s.regs a :=
  State.foldl_keeps (fun u => smFind u.regs a) l f hf s

/-- A register that a later operation leaves alone has still taken its increment. -/
theorem counted_of_find {k : PageKind} {i po : Nat} {s t u : State} (h : Counted k i po s t)
    (ht : smFind u.regs (pageBase k i + po) = smFind t.regs (pageBase k i + po)) : Counted k i po s u := by
  unfold Counted smGet at *
  rw [ht]; exact h

/-- An increment counts from any state that holds the register as it was. -/
theorem counted_from {k : PageKind} {i po : Nat} {s t u : State} (h : Counted k i po t u)
    (hs : smFind t.regs (pageBase k i + po) = smFind s.regs (pageBase k i + po)) : Counted k i po s u := by
  unfold Counted smGet at *
  rw [← hs]; exact h

theorem State.find_traceAt_other (s : State) (src : Nat) (ev cls port : Option Nat) (frac kind : Nat) (w1 w2 w3 : Word) (a : Nat)
    (hf : a ≠ pageBase .trace 0 + R.TRACE_LOST_FULL) (hr : a ≠ pageBase .trace 0 + R.TRACE_LOST_RATE) :
    smFind (s.traceAt src ev cls port frac kind w1 w2 w3).regs a = smFind s.regs a := by
  have lose : ∀ (u : State) (src : Nat) (space : Bool), smFind (u.loseRec src space).regs a = smFind u.regs a := by
    intro u src space
    unfold State.loseRec
    cases space
    · exact State.find_count_other _ _ _ _ _ hr
    · exact State.find_count_other _ _ _ _ _ hf
  unfold State.traceAt State.passRec
  dsimp only
  repeat' split
  · exact lose _ _ _
  · exact lose _ _ _
  · exact lose _ _ _
  · rfl
  · rfl

/-! The channels of the mover sample their levels and touch nothing else but a counter of theirs (R277, R278). -/

theorem State.pace_ports (s : State) : s.pace.ports = s.ports := by
  refine (show Part.same .ports s _ from ?_); simp [Part.same_refl]

theorem State.pace_hubIn (s : State) : s.pace.hubIn = s.hubIn := by
  refine (show Part.same .hubIn s _ from ?_); simp [Part.same_refl]

theorem State.pace_outs (s : State) : s.pace.outs = s.outs := by
  refine (show Part.same .outs s _ from ?_); simp [Part.same_refl]

theorem State.pace_evt (s : State) : s.pace.evt = s.evt := by
  refine (show Part.same .evt s _ from ?_); simp [Part.same_refl]

theorem State.pace_xfer (s : State) : s.pace.xfer = s.xfer := by
  refine (show Part.same .xfer s _ from ?_); simp [Part.same_refl]

theorem State.find_pace_other (s : State) (a : Nat) (h : a ≠ pageBase .mover 0 + R.MOVER_PACE_STOPS) :
    smFind s.pace.regs a = smFind s.regs a := by
  refine State.find_foldl_other _ _ (fun u c => ?_) s
  unfold State.paceOne
  dsimp only
  repeat' split
  · exact State.find_count_other _ _ _ _ _ h
  · rfl
  · rfl

/-! Windows lost to a pause (R140). -/

theorem State.find_windowLost_other (s : State) (p c close a : Nat) (h : a ≠ pageBase .port p + R.PORT_PAUSE_WINDOW_LOST) :
    smFind (s.windowLost p c close).regs a = smFind s.regs a := by
  unfold State.windowLost
  split
  · rfl
  · exact State.find_countN_other _ _ _ _ _ _ h

theorem State.find_countEaten_other (s : State) (p a : Nat) (h : a ≠ pageBase .port p + R.PORT_PAUSE_WINDOW_LOST) :
    smFind (s.countEaten p).regs a = smFind s.regs a := by
  have head : ∀ (u : State) (c : Nat), smFind (u.countEatenHead p c).regs a = smFind u.regs a := by
    intro u c
    unfold State.countEatenHead
    repeat' split
    · exact State.find_windowLost_other _ _ _ _ _ h
    · rfl
    · rfl
  have rest : ∀ u : State, smFind (u.countEatenRest p).regs a = smFind u.regs a := by
    intro u
    unfold State.countEatenRest
    repeat' split
    · exact State.find_windowLost_other _ _ _ _ _ h
    · rfl
    · rfl
  exact (rest _).trans (State.find_foldl_other _ _ head s)

/-! The finish of a job (R226, R238): it counts in XFER, GLOBAL, TRACE and the memory channels, and in no port page. -/

/-- A register of a port page. -/
def InPortPage (a : Nat) : Prop := 0x200000 ≤ a ∧ a < 0x800000

theorem inPortPage_reg (p : Fin 1024) {po : Nat} (h : po < 0x1000) : InPortPage (pageBase .port p + po) := by
  have := p.isLt
  simp only [InPortPage, pageBase]
  omega

/-- The registers of two ports' pages lie apart. -/
theorem portReg_ne {p q po po' : Nat} (hpq : q ≠ p) (h : po < 0x1000) (h' : po' < 0x1000) :
    pageBase .port q + po' ≠ pageBase .port p + po := by
  simp only [pageBase]
  omega

theorem State.find_eccTake_port (s : State) (found : Nat × EccKind → Bool) {a : Nat} (h : InPortPage a) :
    smFind (s.eccTake found).regs a = smFind s.regs a := by
  have hm : ∀ (u : State) (w po : Nat), smFind (u.count .mch (mchOf w) po).regs a = smFind u.regs a := fun u w po =>
    State.find_count_other _ _ _ _ _ (by have := h.2; simp only [pageBase]; omega)
  refine State.find_foldl_other _ _ (fun u e => ?_) _
  unfold State.eccOne State.linkErr
  dsimp only
  repeat' split
  · rfl
  · exact hm _ _ _
  · exact hm _ _ _
  · rfl
  · exact hm _ _ _

theorem State.blur_regs (s : State) (lost : List Nat) (a : Nat) (bs : List Byte) : (s.blur lost a bs).1.regs = s.regs := by
  unfold State.blur; split <;> rfl

theorem State.find_store_port (s : State) (w : Nat) (bs : List Byte) {a : Nat} (h : InPortPage a) :
    smFind (s.store w bs).regs a = smFind s.regs a := by
  unfold State.store
  rw [State.writeMem_regs, State.blur_regs]
  exact State.find_eccTake_port _ _ h

/-- A count in a page below the port pages. -/
theorem State.find_count_port (s : State) (k : PageKind) (i po : Nat) {a : Nat} (h : InPortPage a)
    (hk : pageBase k i + po < 0x200000) : smFind (s.count k i po).regs a = smFind s.regs a :=
  State.find_count_other _ _ _ _ _ (by have := h.1; omega)

theorem State.find_notifyId_port (s : State) (i : Nat) {a : Nat} (h : InPortPage a) :
    smFind (s.notifyId i).regs a = smFind s.regs a := by
  unfold State.notifyId State.signal
  split
  · exact State.find_count_port _ _ _ _ h (by decide)
  · exact State.find_count_port _ _ _ _ h (by decide)

theorem State.find_episode_port (s : State) (c later : Nat) (sent : Bool) {a : Nat} (h : InPortPage a) :
    smFind (s.episode c later sent).regs a = smFind s.regs a := by
  have full : ∀ u : State, smFind ((u.count .xfer 0 R.XFER_CQ_FULL_EPISODES).raise 0x01E c 0).regs a = smFind u.regs a :=
    fun u => State.find_count_port u _ _ _ h (by decide)
  unfold State.episode
  dsimp only
  repeat' split
  · exact (State.find_notifyId_port _ _ h).trans (full _)
  · exact full _
  · rfl
  · rfl

theorem State.find_complete_port (s : State) (c queue : Nat) (lo hi : Word) {a : Nat} (h : InPortPage a) :
    smFind (s.complete c queue lo hi).regs a = smFind s.regs a := by
  unfold State.complete
  split
  · rfl
  · unfold State.putEntry
    dsimp only
    rw [State.find_episode_port _ _ _ _ h]
    have put : ∀ (w : Nat) (bs : List Byte),
        smFind ((s.store w bs).count .xfer 0 R.XFER_COMPLETIONS).regs a = smFind s.regs a := fun w bs =>
      (State.find_count_port _ _ _ _ h (by decide)).trans (State.find_store_port _ _ _ h)
    split
    · exact (State.find_notifyId_port _ _ h).trans (put _ _)
    · exact put _ _

theorem State.sample_regs (s : State) (g k c v : Nat) : (s.sample g k c v).regs = s.regs := by
  unfold State.sample
  dsimp only
  repeat' split
  all_goals rfl

theorem State.sampleOther_regs (s : State) (v : Nat) : (s.sampleOther v).regs = s.regs := by
  unfold State.sampleOther
  dsimp only
  repeat' split
  all_goals rfl

theorem State.find_traceAt_port (s : State) (src : Nat) (ev cls port : Option Nat) (frac kind : Nat) (w1 w2 w3 : Word) {a : Nat}
    (h : 0x200000 ≤ a) : smFind (s.traceAt src ev cls port frac kind w1 w2 w3).regs a = smFind s.regs a :=
  State.find_traceAt_other _ _ _ _ _ _ _ _ _ _ _ (by simp only [pageBase, R.TRACE_LOST_FULL]; omega)
    (by simp only [pageBase, R.TRACE_LOST_RATE]; omega)

theorem State.find_finishAt_port (s : State) (at_ : Nat) (j : Job) (status : Nat) {a : Nat} (h : InPortPage a) :
    smFind (s.finishAt at_ j status).regs a = smFind s.regs a := by
  have lost : ∀ u : State, smFind (if j.tsLost then u.count .xfer 0 R.XFER_TS_LOST_JOBS else u).regs a = smFind u.regs a := by
    intro u
    split
    · exact State.find_count_port _ _ _ _ h (by decide)
    · rfl
  unfold State.finishAt
  dsimp only
  rw [State.find_complete_port _ _ _ _ _ h, State.find_traceAt_port _ _ _ _ _ _ _ _ _ _ h.1]
  cases j.frames with
  | nil =>
    dsimp only
    rw [State.sampleOther_regs]
    exact lost { s with xfer := _ }
  | cons f fs =>
    dsimp only
    cases f.reps with
    | nil =>
      dsimp only
      rw [State.sampleOther_regs]
      exact lost { s with xfer := _ }
    | cons r rs =>
      dsimp only
      rw [State.sample_regs]
      exact lost { s with xfer := _ }

theorem State.find_departs_port (s : State) {a : Nat} (h : InPortPage a) : smFind s.departs.regs a = smFind s.regs a :=
  State.find_foldl_other _ _ (fun _ _ => State.find_finishAt_port _ _ _ _ h) s

theorem State.find_pace_port (s : State) {a : Nat} (h : 0x200000 ≤ a) : smFind s.pace.regs a = smFind s.regs a :=
  State.find_pace_other _ _ (by simp only [pageBase, R.MOVER_PACE_STOPS]; omega)

theorem State.find_traceRx_port (s : State) (p : Nat) (itp : Bool) (f : Frame) (outcome tick : Nat) {a : Nat} (h : 0x200000 ≤ a) :
    smFind (s.traceRx p itp f outcome tick).regs a = smFind s.regs a :=
  State.find_traceAt_port _ _ _ _ _ _ _ _ _ _ h

theorem portReg_ge (p po : Nat) : 0x200000 ≤ pageBase .port p + po := by
  simp only [pageBase]
  omega

end Sys2Proof.Machine
end

section
/-! SUPPORT. Event lines and gate entries: what a pulse changes and what it leaves alone, what happens to an EVENT frame at the hub, and
what the windows lost to a pause change (R102, R105, R140, R195 to R199, R227). -/

namespace Sys2Proof.Machine

open Sys2Proof

/-! Parts of the state and what is read from them. -/

theorem State.port_congr {s t : State} (h : t.ports = s.ports) (p : Nat) : t.port p = s.port p := by
  simp only [State.port, h]

theorem State.live_congr {s t : State} (h : t.slate = s.slate) : t.live = s.live := by
  simp only [State.live, h]

theorem otherPorts_of_ports {s t : State} (h : t.ports = s.ports) (p : Nat) : OtherPorts p s t := fun _ _ => State.port_congr h _

theorem OtherPorts.trans {p : Nat} {s t u : State} (h : OtherPorts p s t) (h' : OtherPorts p t u) : OtherPorts p s u :=
  fun q hq => (h' q hq).trans (h q hq)

theorem otherPorts_modPort (s : State) (p : Nat) (f : PortSt → PortSt) : OtherPorts p s (s.modPort p f) :=
  fun _ hq => State.port_modPort_other _ _ _ _ hq

theorem State.reg_of_find {s t : State} {k : PageKind} {i po : Nat}
    (h : smFind t.regs (pageBase k i + po) = smFind s.regs (pageBase k i + po)) : t.reg k i po = s.reg k i po := by
  simp only [State.reg, smGet, h]

/-! Windows lost to a pause (R140). -/

/-- Nothing of the ports differs but the lost windows of one that have been counted. -/
def OnlyLostWindows (p : Nat) (s t : State) : Prop := (∃ l, t.port p = { s.port p with lostWin := l }) ∧ OtherPorts p s t

theorem onlyLostWindows_refl (p : Nat) (s : State) : OnlyLostWindows p s s := ⟨⟨_, rfl⟩, fun _ _ => rfl⟩

theorem OnlyLostWindows.trans {p : Nat} {s t u : State} (h : OnlyLostWindows p s t) (h' : OnlyLostWindows p t u) :
    OnlyLostWindows p s u := by
  obtain ⟨⟨l, hl⟩, ho⟩ := h
  obtain ⟨⟨l', hl'⟩, ho'⟩ := h'
  exact ⟨⟨l', by rw [hl', hl]⟩, ho.trans ho'⟩

theorem State.onlyLostWindows_windowLost (s : State) (p c close : Nat) : OnlyLostWindows p s (s.windowLost p c close) := by
  unfold State.windowLost
  split
  · exact onlyLostWindows_refl p s
  · exact ⟨⟨_, (State.port_countP _ _ _ _).trans (State.port_modPort_same _ _ _)⟩,
      fun q hq => (State.port_countP _ _ _ _).trans (State.port_modPort_other _ _ _ _ hq)⟩

theorem State.onlyLostWindows_countEatenHead (s : State) (p c : Nat) : OnlyLostWindows p s (s.countEatenHead p c) := by
  unfold State.countEatenHead
  repeat' split
  · exact State.onlyLostWindows_windowLost _ _ _ _
  · exact onlyLostWindows_refl p s
  · exact onlyLostWindows_refl p s

theorem State.onlyLostWindows_countEatenRest (s : State) (p : Nat) : OnlyLostWindows p s (s.countEatenRest p) := by
  unfold State.countEatenRest
  repeat' split
  · exact State.onlyLostWindows_windowLost _ _ _ _
  · exact onlyLostWindows_refl p s
  · exact onlyLostWindows_refl p s

theorem State.onlyLostWindows_countEaten (s : State) (p : Nat) : OnlyLostWindows p s (s.countEaten p) := by
  have heads : ∀ (l : List Nat) (u : State), OnlyLostWindows p u (l.foldl (fun t c => t.countEatenHead p c) u) := by
    intro l
    induction l with
    | nil => exact onlyLostWindows_refl p
    | cons c l ih => exact fun u => (u.onlyLostWindows_countEatenHead p c).trans (ih _)
  exact (heads _ s).trans (State.onlyLostWindows_countEatenRest _ p)

/-! A pulse of an event line (R105, R198, R227). -/

/-- A SEND_ON_EVENT job that waits for the line, fetched on an earlier hub edge than the pulse's, is reached and takes a place in the
building order; any other job stays as it is. -/
def Job.afterPulse (line at_ place : Nat) (j : Job) : Job :=
  if j.kind = .sendOnEvent ∧ j.line = line ∧ j.pulsed = false ∧ j.started = false ∧ hubEdge j.fetchAt < hubEdge at_ then
    { j with pulsed := true, place }
  else j

/-- Pins and generators hear a pulse before the jobs do. -/
def State.pinsAndGensHear (s : State) (line at_ : Nat) : State :=
  (List.range 16).foldl (fun t g => t.pulseGen line at_ g) ((List.range 32).foldl (fun t n => t.pulsePin line at_ n) s)

theorem State.pinsAndGensHear_xfer (s : State) (line at_ : Nat) : (s.pinsAndGensHear line at_).xfer = s.xfer := by
  refine (show Part.same .xfer s _ from ?_)
  exact Part.same_foldl _ _ (Part.same_foldl _ _ (Part.same_refl _ _) fun u n hu => by simp [hu]) fun u g hu => by simp [hu]

theorem State.heardPulse_eq (s : State) (line at_ : Nat) : s.heardPulse line at_ =
    (let u := s.pinsAndGensHear line at_
     { u with xfer := { u.xfer with
        jobs := s.xfer.jobs.map (Job.afterPulse line at_ s.xfer.nextPlace), nextPlace := s.xfer.nextPlace + 1 } }) := by
  rw [← State.pinsAndGensHear_xfer s line at_]
  have hj : Job.afterPulse line at_ (s.pinsAndGensHear line at_).xfer.nextPlace = fun j : Job =>
      if j.kind = .sendOnEvent ∧ j.line = line ∧ !j.pulsed ∧ !j.started ∧ hubEdge j.fetchAt < hubEdge at_ then
        { j with pulsed := true, place := (s.pinsAndGensHear line at_).xfer.nextPlace } else j := by
    funext j
    simp only [Job.afterPulse, Bool.not_eq_true']
  rw [hj]
  rfl

/-- A pulse on a line that has none yet in the period reaches the jobs that wait for it. -/
theorem State.jobs_pulse {s : State} {line at_ : Nat} (h : (line, hubEdge at_) ∉ s.evt.seen) :
    (s.pulse line at_).xfer.jobs = s.xfer.jobs.map (Job.afterPulse line at_ s.xfer.nextPlace) := by
  unfold State.pulse
  rw [if_neg (by simpa using h), State.heardPulse_eq]

/-- A pulse on a line that already has one in the period merges into it. -/
theorem State.pulse_merged {s : State} {line at_ : Nat} (h : (line, hubEdge at_) ∈ s.evt.seen) : s.pulse line at_ = s := by
  unfold State.pulse
  rw [if_pos (by simpa using h)]

/-- A pulse leaves the pending store alone. -/
theorem State.pulse_pend (s : State) (line at_ : Nat) : (s.pulse line at_).evt.pend = s.evt.pend := by
  have pin : ∀ (u : State) (n : Nat), (u.pulsePin line at_ n).evt.pend = u.evt.pend := by
    intro u n
    unfold State.pulsePin
    dsimp only
    split
    · rw [State.out_evt, State.count_evt]; rfl
    · rfl
  have gen : ∀ (u : State) (g : Nat), (u.pulseGen line at_ g).evt.pend = u.evt.pend := by
    intro u g
    unfold State.pulseGen
    dsimp only
    repeat' split
    · rw [State.count_evt]
    · rfl
    · rfl
  unfold State.pulse
  split
  · rfl
  · rw [State.heardPulse_eq]
    exact (State.foldl_keeps (fun u => u.evt.pend) _ _ gen _).trans (State.foldl_keeps (fun u => u.evt.pend) _ _ pin _)

/-- A pulse writes the counters of the pins and of the generators, and no other register. -/
theorem State.find_pulse_other (s : State) (line at_ a : Nat) (hp : a ≠ pageBase .evt 0 + R.EVT_PIN_PULSES)
    (hg : a ≠ pageBase .evt 0 + R.EVT_EVENT_GEN_MERGED) : smFind (s.pulse line at_).regs a = smFind s.regs a := by
  have pin : ∀ (u : State) (n : Nat), smFind (u.pulsePin line at_ n).regs a = smFind u.regs a := by
    intro u n
    unfold State.pulsePin
    dsimp only
    split
    · exact State.find_count_other _ _ _ _ _ hp
    · rfl
  have gen : ∀ (u : State) (g : Nat), smFind (u.pulseGen line at_ g).regs a = smFind u.regs a := by
    intro u g
    unfold State.pulseGen
    dsimp only
    repeat' split
    · exact State.find_count_other _ _ _ _ _ hg
    · rfl
    · rfl
  unfold State.pulse
  split
  · rfl
  · rw [State.heardPulse_eq]
    exact (State.find_foldl_other _ _ gen _).trans (State.find_foldl_other _ _ pin _)

theorem State.pulse_ports (s : State) (line at_ : Nat) : (s.pulse line at_).ports = s.ports := by
  refine (show Part.same .ports s _ from ?_); simp [Part.same_refl]

theorem State.pulse_time (s : State) (line at_ : Nat) : (s.pulse line at_).time = s.time := by
  refine (show Part.same .time s _ from ?_); simp [Part.same_refl]

/-- The line of a timed EVENT that the receiver still owns pulses on the next hub edge and reaches the jobs that wait for it. -/
theorem State.jobs_fireLine {s : State} {line at_ : Nat} (h : s.ownerOf (resLine line) = ownerEvRx)
    (hs : (line, hubEdge (ceilHub at_)) ∉ s.evt.seen) :
    (s.fireLine line at_).xfer.jobs = s.xfer.jobs.map (Job.afterPulse line (ceilHub at_) s.xfer.nextPlace) := by
  unfold State.fireLine
  rw [if_pos h, State.jobs_pulse hs]

/-- The line of a timed EVENT stays silent where the receiver has released it, or it has pulsed in the period. -/
theorem State.fireLine_silent {s : State} {line at_ : Nat}
    (h : s.ownerOf (resLine line) ≠ ownerEvRx ∨ (line, hubEdge (ceilHub at_)) ∈ s.evt.seen) : s.fireLine line at_ = s := by
  unfold State.fireLine
  split
  · rename_i ho
    exact State.pulse_merged (h.resolve_left fun hn => hn ho)
  · rfl

theorem State.fireLine_pend (s : State) (line at_ : Nat) : (s.fireLine line at_).evt.pend = s.evt.pend := by
  unfold State.fireLine
  split
  · exact State.pulse_pend _ _ _
  · rfl

theorem State.fireLine_time (s : State) (line at_ : Nat) : (s.fireLine line at_).time = s.time := by
  refine (show Part.same .time s _ from ?_); simp [Part.same_refl]

theorem State.find_fireLine_other (s : State) (line at_ a : Nat) (hp : a ≠ pageBase .evt 0 + R.EVT_PIN_PULSES)
    (hg : a ≠ pageBase .evt 0 + R.EVT_EVENT_GEN_MERGED) : smFind (s.fireLine line at_).regs a = smFind s.regs a := by
  unfold State.fireLine
  split
  · exact State.find_pulse_other _ _ _ _ hp hg
  · rfl

/-! Gate entries (R102, R105). -/

/-- The gate entry of a port that starts next: the one behind the last one run in this cycle, or the first. -/
def State.nextGate (s : State) (p : Nat) : Nat :=
  match (s.port p).gateAt with
  | some (c, j) => if c = s.time.cycle then j + 1 else 0
  | none => 0

/-- A gate entry has started and is the last one run; its event line has not pulsed yet. -/
def State.gateReached (s : State) (p i st : Nat) : State :=
  (s.runTo (s.tickAt st)).modPort p fun q => { q with gateAt := some (s.time.cycle, i) }

theorem State.gateReached_inNet (s : State) (p i st : Nat) : (s.gateReached p i st).inNet = s.inNet := by
  have h : (s.gateReached p i st).node = s.node := by
    refine (show Part.same .node s _ from ?_)
    unfold State.gateReached
    simp [Part.same_refl]
  simp only [State.inNet, h]

theorem State.gateReached_time (s : State) (p i st : Nat) :
    (s.gateReached p i st).time = { s.time with now := max s.time.now (s.tickAt st) } := State.runTo_time s (s.tickAt st)

theorem State.gateReached_evt (s : State) (p i st : Nat) : (s.gateReached p i st).evt = s.evt := by
  refine (show Part.same .evt s _ from ?_)
  unfold State.gateReached
  simp [Part.same_refl]

theorem State.gateReached_listeners (s : State) (p i st : Nat) : let u := s.runTo (s.tickAt st)
    (s.gateReached p i st).xfer = u.xfer ∧ (s.gateReached p i st).evt = u.evt ∧ (s.gateReached p i st).outs = u.outs :=
  ⟨State.modPort_xfer _ _ _, State.modPort_evt _ _ _, State.modPort_outs _ _ _⟩

theorem exec_gateEntryStart {s : State} {p : Fin 1024} {st : Nat} {e : Word} (hc : s.time.hasCycle = true)
    (he : (gclSpans s.live p)[s.nextGate p]? = some (st, e)) :
    exec (.gateEntryStart p) s = .next
      ((if gEvent e ∧ s.inNet then (s.gateReached p (s.nextGate p) st).pulse (gLine e) (s.tickAt st)
        else s.gateReached p (s.nextGate p) st).countEaten p) := by
  have ht : (s.gateReached p (s.nextGate p) st).tickAt st = s.tickAt st := by
    simp only [State.tickAt, State.gateReached_time]
  have hn := s.gateReached_inNet p (s.nextGate p) st
  rw [← hn]
  conv_rhs => rw [← ht]
  show execGateEntryStart p s = _
  unfold execGateEntryStart
  rw [hc]
  show (match (gclSpans s.live p)[s.nextGate p]? with
    | none => _
    | some (st, e) => _) = _
  rw [he]
  rfl

/-! EVENT frames at the hub (R195). -/

/-- The hub has taken the frame of the earliest edge: the errors that arose stand, and its clock is at least at that edge. -/
def State.hubTaken (s : State) (ecc : EccList) (x : HubFrame) : State :=
  { s.arise ecc with hubIn := s.hubIn.erase x }.atLeast (x.edge * wHub)

theorem State.hubTaken_live (s : State) (ecc : EccList) (x : HubFrame) : (s.hubTaken ecc x).live = s.live :=
  State.live_congr (State.atLeast_slate _ _)

theorem exec_hubReceive {s : State} {x : HubFrame} (ecc : EccList) (h : s.nextHub = some x) :
    exec (.hubReceive ecc) s = .next
      (let r := (s.hubTaken ecc x).stage6 x
       if r.2 then (r.1.afterStage6 x).pace else r.1.traceHub x 6 none) := by
  show execHubReceive ecc s = _
  unfold execHubReceive
  rw [h]
  show (match (s.hubTaken ecc x).stage6 x with
    | (t, true) => _
    | (t, false) => _) = _
  rcases (s.hubTaken ecc x).stage6 x with ⟨t, _ | _⟩ <;> rfl

/-- A frame that no stream entry identifies is counted and passes stage 6. -/
theorem State.stage6_untracked {s : State} {x : HubFrame} (h : s.live.identify (hdrOf x.frame.body).handle = none) :
    s.stage6 x = (s.count .stream 0 R.STREAM_RX_UNTRACKED, true) := by
  unfold State.stage6
  dsimp only
  rw [h]

theorem State.afterStage6_event {s : State} {x : HubFrame} (ht : (hdrOf x.frame.body).typ = tEvent) :
    s.afterStage6 x = s.hubEvent x (payloadOf x.frame.body) := by
  unfold State.afterStage6
  dsimp only
  rw [ht, if_neg (by decide), if_pos rfl]

/-- The hub has taken a frame that no stream entry identifies, and stage 6 has counted it. -/
def State.eventTracked (s : State) (ecc : EccList) (x : HubFrame) : State :=
  (s.hubTaken ecc x).count .stream 0 R.STREAM_RX_UNTRACKED

theorem exec_hubReceive_event {s : State} {x : HubFrame} (ecc : EccList) (h : s.nextHub = some x)
    (ht : (hdrOf x.frame.body).typ = tEvent) (hi : s.live.identify (hdrOf x.frame.body).handle = none) :
    exec (.hubReceive ecc) s = .next
      (((s.eventTracked ecc x).hubEvent x (payloadOf x.frame.body)).pace) := by
  rw [exec_hubReceive ecc h, State.stage6_untracked (by rw [State.hubTaken_live]; exact hi)]
  dsimp only
  rw [if_pos rfl, State.afterStage6_event ht, State.eventTracked]

theorem State.eventRx_refused {s : State} {b : List Byte}
    (h : bit (s.reg .evt 0 R.EVT_EVENT_RX_LINES) (beAt b 0 1 % 64) = false) :
    s.eventRx b = s.count .evt 0 R.EVT_EVENT_RX_REFUSED := by
  unfold State.eventRx
  dsimp only
  rw [h]
  rfl

/-- An untimed EVENT pulses its line at once. -/
theorem State.eventRx_untimed {s : State} {b : List Byte}
    (h : bit (s.reg .evt 0 R.EVT_EVENT_RX_LINES) (beAt b 0 1 % 64) = true) (hu : nbit (beAt b 0 1) 7 = false) :
    s.eventRx b = (s.count .evt 0 R.EVT_EVENT_RX).pulseNow (beAt b 0 1 % 64) := by
  unfold State.eventRx
  dsimp only
  rw [h, hu]
  rfl

/-- A timed EVENT of a later instant enters the pending store, where it has room. -/
theorem State.eventRx_pends {s : State} {b : List Byte}
    (h : bit (s.reg .evt 0 R.EVT_EVENT_RX_LINES) (beAt b 0 1 % 64) = true) (ht : nbit (beAt b 0 1) 7 = true)
    (hc : s.time.hasCycle = true)
    (hd : let d := sext 16 (toField 16 ((beAt b 2 2 : Int) - s.time.cycle)); 0 < d ∨ d = 0 ∧ s.tick < beAt b 4 3)
    (hroom : s.evt.pend.length < 64) :
    s.eventRx b = ({ s with evt := { s.evt with pend := s.evt.pend ++
      [{ cycle := cycMod (s.time.cycle + (sext 16 (toField 16 ((beAt b 2 2 : Int) - s.time.cycle))).toNat),
         tick := beAt b 4 3, line := beAt b 0 1 % 64 }] } } : State).count .evt 0 R.EVT_EVENT_RX := by
  have later : ¬ (sext 16 (toField 16 ((beAt b 2 2 : Int) - s.time.cycle)) < 0 ∨
      sext 16 (toField 16 ((beAt b 2 2 : Int) - s.time.cycle)) = 0 ∧ beAt b 4 3 ≤ s.tick) := by
    dsimp only at hd
    omega
  unfold State.eventRx
  dsimp only
  rw [h, ht, hc, if_neg (by decide), if_neg (by decide), if_neg later, if_neg (by omega)]

end Sys2Proof.Machine
end

section
/-! SUPPORT. Gate entries, pending EVENTs and EVENT frames at the hub: the proof of O30 (R17, R102, R105, R195, R196, R227). -/

namespace Sys2Proof.Machine

open Sys2Proof

/-! Gate entries. -/

/-- Whatever its event line has done, a gate entry that has started is the last one run, its port's windows aside. -/
theorem State.countEaten_from_gateReached {s t : State} {p i st : Nat} (hp : t.ports = (s.gateReached p i st).ports)
    (ht : t.time = (s.gateReached p i st).time) :
    ((t.countEaten p).port p).gateAt = some (s.time.cycle, i) ∧ (t.countEaten p).time.now = max s.time.now (s.tickAt st) ∧
    OtherPorts p (s.runTo (s.tickAt st)) (t.countEaten p) := by
  obtain ⟨⟨l, hl⟩, ho⟩ := t.onlyLostWindows_countEaten p
  have htime : (t.countEaten p).time = t.time := by
    refine (show Part.same .time t _ from ?_); simp [Part.same_refl]
  refine ⟨?_, ?_, ?_⟩
  · rw [hl, State.port_congr hp, State.gateReached, State.port_modPort_same]
  · rw [htime, ht, State.gateReached_time]
  · exact ((otherPorts_modPort _ _ _).trans (otherPorts_of_ports hp p)).trans ho

theorem State.countEaten_xfer (s : State) (p : Nat) : (s.countEaten p).xfer = s.xfer := by
  refine (show Part.same .xfer s _ from ?_); simp [Part.same_refl]

theorem State.countEaten_evt (s : State) (p : Nat) : (s.countEaten p).evt = s.evt := by
  refine (show Part.same .evt s _ from ?_); simp [Part.same_refl]

theorem State.countEaten_outs (s : State) (p : Nat) : (s.countEaten p).outs = s.outs := by
  refine (show Part.same .outs s _ from ?_); simp [Part.same_refl]

theorem gateEntryStart_runs (s : State) (p : Fin 1024) (st : Nat) (e : Word) (hc : s.time.hasCycle = true)
    (he : (gclSpans s.live p)[s.nextGate p]? = some (st, e)) :
    Answers (.gateEntryStart p) s fun t =>
      (t.port p).gateAt = some (s.time.cycle, s.nextGate p) ∧ t.time.now = max s.time.now (s.tickAt st) ∧
      OtherPorts p (s.runTo (s.tickAt st)) t ∧
      (gEvent e = true → s.inNet = true → (gLine e, hubEdge (s.tickAt st)) ∉ s.evt.seen →
        t.xfer.jobs = (s.runTo (s.tickAt st)).xfer.jobs.map
          (Job.afterPulse (gLine e) (s.tickAt st) (s.runTo (s.tickAt st)).xfer.nextPlace)) ∧
      (gEvent e = false ∨ s.inNet = false ∨ (gLine e, hubEdge (s.tickAt st)) ∈ s.evt.seen →
        t.xfer = (s.runTo (s.tickAt st)).xfer ∧ t.evt = (s.runTo (s.tickAt st)).evt ∧ t.outs = (s.runTo (s.tickAt st)).outs) := by
  refine ⟨_, exec_gateEntryStart hc he, ?_⟩
  have hevt := s.gateReached_evt p (s.nextGate p) st
  by_cases hp : gEvent e = true ∧ s.inNet = true
  · rw [if_pos hp]
    obtain ⟨hgate, hnow, hother⟩ := State.countEaten_from_gateReached (State.pulse_ports _ (gLine e) (s.tickAt st))
      (State.pulse_time _ (gLine e) (s.tickAt st))
    refine ⟨hgate, hnow, hother, fun _ _ hs => ?_, fun hno => ?_⟩
    · rw [State.countEaten_xfer, State.jobs_pulse (by rw [hevt]; exact hs), (s.gateReached_listeners p (s.nextGate p) st).1]
    · obtain ⟨he1, hn1⟩ := hp
      have hs : (gLine e, hubEdge (s.tickAt st)) ∈ s.evt.seen := by simpa [he1, hn1] using hno
      rw [State.pulse_merged (by rw [hevt]; exact hs), State.countEaten_xfer, State.countEaten_evt, State.countEaten_outs]
      exact s.gateReached_listeners p (s.nextGate p) st
  · rw [if_neg hp]
    obtain ⟨hgate, hnow, hother⟩ := State.countEaten_from_gateReached (s := s) (p := p) (i := s.nextGate p) (st := st) rfl rfl
    refine ⟨hgate, hnow, hother, fun he1 hn1 => absurd ⟨he1, hn1⟩ hp, fun _ => ?_⟩
    rw [State.countEaten_xfer, State.countEaten_evt, State.countEaten_outs]
    exact s.gateReached_listeners p (s.nextGate p) st

/-! Pending EVENTs. -/

theorem cycDiff_self (c : Nat) : cycDiff c c = 0 := by
  simp [cycDiff, toField, sext]

theorem sortBy_singleton {α : Type} (key : α → Nat) (x : α) : sortBy key [x] = [x] := rfl

/-- The instant of the only pending EVENT has come: the store is empty, and the hub's clock is at least at the edge of the EVENT's tick. -/
def State.eventDue (s : State) (e : PendEvt) : State :=
  ({ s with evt := { s.evt with pend := [] } } : State).atLeast (ceilHub (s.tickAt e.tick))

theorem State.eventDue_evt (s : State) (e : PendEvt) : (s.eventDue e).evt = { s.evt with pend := [] } := by
  rw [State.eventDue, State.atLeast_evt]

theorem State.eventDue_xfer (s : State) (e : PendEvt) : (s.eventDue e).xfer = s.xfer := by
  rw [State.eventDue, State.atLeast_xfer]

theorem State.eventDue_outs (s : State) (e : PendEvt) : (s.eventDue e).outs = s.outs := by
  rw [State.eventDue, State.atLeast_outs]

theorem State.eventDue_now (s : State) (e : PendEvt) : (s.eventDue e).time.now = max s.time.now (ceilHub (s.tickAt e.tick)) := by
  rw [State.eventDue, State.atLeast_now]

theorem State.eventDue_ownerOf (s : State) (e : PendEvt) (r : Nat) : (s.eventDue e).ownerOf r = s.ownerOf r := by
  have hg : (s.eventDue e).groups = s.groups := by rw [State.eventDue, State.atLeast_groups]
  have hs : (s.eventDue e).scratch = s.scratch := by rw [State.eventDue, State.atLeast_scratch]
  unfold State.ownerOf
  rw [State.eventDue_evt, hg, hs]

/-- The only pending EVENT, its instant in the current cycle, fires there. -/
theorem exec_eventPendingFire_due {s : State} {e : PendEvt} (hp : s.evt.pend = [e]) (hc : e.cycle = s.time.cycle)
    (ht : e.tick < s.ticks) : exec .eventPendingFire s = .next ((s.eventDue e).fireLine e.line (s.tickAt e.tick)) := by
  show execEventPendingFire s = _
  unfold execEventPendingFire
  rw [hp, sortBy_singleton]
  dsimp only
  rw [hc, cycDiff_self, if_neg (by decide), if_pos ⟨rfl, ht⟩, List.erase_cons_head, State.eventDue]

theorem exec_eventPendingFire_early {s : State} {e : PendEvt} (hp : s.evt.pend = [e]) (hd : 0 < cycDiff e.cycle s.time.cycle) :
    exec .eventPendingFire s = .next s := by
  show execEventPendingFire s = _
  unfold execEventPendingFire
  rw [hp, sortBy_singleton]
  dsimp only
  rw [if_neg (by omega), if_neg (by omega)]

/-- The only pending EVENT, its cycle over, fires at once and is late. -/
theorem exec_eventPendingFire_late {s : State} {e : PendEvt} (hp : s.evt.pend = [e]) (hd : cycDiff e.cycle s.time.cycle < 0) :
    exec .eventPendingFire s = .next
      (((({ s with evt := { s.evt with pend := [] } } : State)).fireLine e.line s.time.cycStart).count .evt 0 R.EVT_EVENT_RX_LATE) := by
  show execEventPendingFire s = _
  unfold execEventPendingFire
  rw [hp, sortBy_singleton]
  dsimp only
  rw [if_pos hd, List.erase_cons_head]

theorem eventPendingFire_due (s : State) (e : PendEvt) (hp : s.evt.pend = [e]) (hc : e.cycle = s.time.cycle) (ht : e.tick < s.ticks) :
    Answers .eventPendingFire s fun t =>
      t.evt.pend = [] ∧ t.time.now = max s.time.now (ceilHub (s.tickAt e.tick)) ∧
      (s.ownerOf (resLine e.line) = ownerEvRx → (e.line, hubEdge (ceilHub (s.tickAt e.tick))) ∉ s.evt.seen →
        t.xfer.jobs = s.xfer.jobs.map (Job.afterPulse e.line (ceilHub (s.tickAt e.tick)) s.xfer.nextPlace)) ∧
      (s.ownerOf (resLine e.line) ≠ ownerEvRx ∨ (e.line, hubEdge (ceilHub (s.tickAt e.tick))) ∈ s.evt.seen →
        t.xfer = s.xfer ∧ t.outs = s.outs) := by
  refine ⟨_, exec_eventPendingFire_due hp hc ht, ?_, ?_, fun ho hs => ?_, fun hno => ?_⟩
  · rw [State.fireLine_pend, State.eventDue_evt]
  · rw [State.fireLine_time, State.eventDue_now]
  · rw [State.jobs_fireLine (by rw [State.eventDue_ownerOf]; exact ho) (by rw [State.eventDue_evt]; exact hs), State.eventDue_xfer]
  · rw [State.fireLine_silent (by rw [State.eventDue_ownerOf, State.eventDue_evt]; exact hno)]
    exact ⟨s.eventDue_xfer e, s.eventDue_outs e⟩

theorem eventPendingFire_late (s : State) (e : PendEvt) (hp : s.evt.pend = [e]) (hd : cycDiff e.cycle s.time.cycle < 0) :
    Answers .eventPendingFire s fun t => t.evt.pend = [] ∧ Counted .evt 0 R.EVT_EVENT_RX_LATE s t := by
  refine ⟨_, exec_eventPendingFire_late hp hd, ?_, ?_⟩
  · rw [State.count_evt, State.fireLine_pend]
  · exact counted_from (counted_count _ _ _ _) (State.find_fireLine_other _ _ _ _ (by decide) (by decide))

/-! Heads. -/

theorem headLoad_marks (s : State) (p : Fin 1024) (i : Nat) : Answers (.headLoad p i) s fun t =>
    OtherPorts p s t ∧ (∀ j, j ≠ i → (t.port p).txq[j]? = (s.port p).txq[j]?) ∧
    (t.port p).txq[i]? = ((s.port p).txq[i]?).map fun f => { f with head := true } := by
  refine ⟨_, rfl, otherPorts_modPort _ _ _, fun j hj => ?_, ?_⟩
  · rw [State.port_modPort_same]
    dsimp only
    rw [List.getElem?_modify_ne _ _ (Ne.symm hj)]
  · rw [State.port_modPort_same]
    dsimp only
    rw [List.getElem?_modify_eq, Option.map_eq_map]

/-! EVENT frames at the hub. -/

theorem State.eventTracked_evt (s : State) (ecc : EccList) (x : HubFrame) : (s.eventTracked ecc x).evt = s.evt := by
  rw [State.eventTracked, State.count_evt, State.hubTaken, State.atLeast_evt]
  rfl

theorem State.eventTracked_xfer (s : State) (ecc : EccList) (x : HubFrame) : (s.eventTracked ecc x).xfer = s.xfer := by
  rw [State.eventTracked, State.count_xfer, State.hubTaken, State.atLeast_xfer]
  rfl

theorem State.eventTracked_time (s : State) (ecc : EccList) (x : HubFrame) :
    (s.eventTracked ecc x).time = (s.atLeast (x.edge * wHub)).time := by
  rw [State.eventTracked, State.count_time, State.hubTaken, State.atLeast_time, State.atLeast_time]
  rfl

theorem State.find_eventTracked (s : State) (ecc : EccList) (x : HubFrame) {a : Nat}
    (h : a ≠ pageBase .stream 0 + R.STREAM_RX_UNTRACKED) : smFind (s.eventTracked ecc x).regs a = smFind s.regs a := by
  rw [State.eventTracked, State.find_count_other _ _ _ _ _ h, State.hubTaken, State.atLeast_regs]
  rfl

theorem State.eventTracked_rxLines (s : State) (ecc : EccList) (x : HubFrame) :
    (s.eventTracked ecc x).reg .evt 0 R.EVT_EVENT_RX_LINES = s.reg .evt 0 R.EVT_EVENT_RX_LINES :=
  State.reg_of_find (s.find_eventTracked ecc x (by decide))

theorem State.hubEvent_refused {s : State} {x : HubFrame} {b : List Byte}
    (h : bit (s.reg .evt 0 R.EVT_EVENT_RX_LINES) (beAt b 0 1 % 64) = false) :
    s.hubEvent x b = (s.count .evt 0 R.EVT_EVENT_RX_REFUSED).traceHub x 7 none := by
  unfold State.hubEvent
  dsimp only
  rw [State.eventRx_refused h, h]
  rfl

theorem State.hubEvent_taken {s : State} {x : HubFrame} {b : List Byte}
    (h : bit (s.reg .evt 0 R.EVT_EVENT_RX_LINES) (beAt b 0 1 % 64) = true) : s.hubEvent x b = s.eventRx b := by
  unfold State.hubEvent
  dsimp only
  rw [h]
  rfl

theorem State.traceHub_evt (s : State) (x : HubFrame) (outcome : Nat) (zone : Option Nat) :
    (s.traceHub x outcome zone).evt = s.evt := by
  refine (show Part.same .evt s _ from ?_); simp [Part.same_refl]

theorem State.traceHub_xfer (s : State) (x : HubFrame) (outcome : Nat) (zone : Option Nat) :
    (s.traceHub x outcome zone).xfer = s.xfer := by
  refine (show Part.same .xfer s _ from ?_); simp [Part.same_refl]

/-- An EVENT counter of the EVT page that has taken its increment is not touched by what follows at the hub. -/
theorem counted_event {s t : State} {ecc : EccList} {x : HubFrame} {po : Nat} (h : Counted .evt 0 po (s.eventTracked ecc x) t)
    (hs : pageBase .evt 0 + po ≠ pageBase .stream 0 + R.STREAM_RX_UNTRACKED)
    (hm : pageBase .evt 0 + po ≠ pageBase .mover 0 + R.MOVER_PACE_STOPS) : Counted .evt 0 po s t.pace :=
  counted_of_find (counted_from h (s.find_eventTracked ecc x hs)) (State.find_pace_other _ _ hm)

section EventAtHub

variable {s : State} {x : HubFrame} (ecc : EccList) (hx : s.nextHub = some x) (htyp : (hdrOf x.frame.body).typ = tEvent)
  (hid : s.live.identify (hdrOf x.frame.body).handle = none)

include hx htyp hid

theorem hubReceive_refuses_event
    (hl : bit (s.reg .evt 0 R.EVT_EVENT_RX_LINES) (beAt (payloadOf x.frame.body) 0 1 % 64) = false) :
    Answers (.hubReceive ecc) s fun t => t.evt = s.evt ∧ t.xfer = s.xfer ∧ Counted .evt 0 R.EVT_EVENT_RX_REFUSED s t := by
  refine ⟨_, exec_hubReceive_event ecc hx htyp hid, ?_⟩
  rw [State.hubEvent_refused (by rw [State.eventTracked_rxLines]; exact hl)]
  refine ⟨?_, ?_, ?_⟩
  · rw [State.pace_evt, State.traceHub_evt, State.count_evt, State.eventTracked_evt]
  · rw [State.pace_xfer, State.traceHub_xfer, State.count_xfer, State.eventTracked_xfer]
  · exact counted_event (counted_of_find (counted_count _ _ _ _)
      (State.find_traceEv_other _ _ _ _ _ _ _ _ _ _ (by decide) (by decide))) (by decide) (by decide)

theorem hubReceive_pends_event
    (hl : bit (s.reg .evt 0 R.EVT_EVENT_RX_LINES) (beAt (payloadOf x.frame.body) 0 1 % 64) = true)
    (ht : nbit (beAt (payloadOf x.frame.body) 0 1) 7 = true) (hc : s.time.hasCycle = true)
    (hd : let d := sext 16 (toField 16 ((beAt (payloadOf x.frame.body) 2 2 : Int) - s.time.cycle))
      0 < d ∨ d = 0 ∧ (s.atLeast (x.edge * wHub)).tick < beAt (payloadOf x.frame.body) 4 3)
    (hroom : s.evt.pend.length < 64) :
    Answers (.hubReceive ecc) s fun t =>
      t.evt.pend = s.evt.pend ++ [{
        cycle := cycMod (s.time.cycle + (sext 16 (toField 16 ((beAt (payloadOf x.frame.body) 2 2 : Int) - s.time.cycle))).toNat),
        tick := beAt (payloadOf x.frame.body) 4 3, line := beAt (payloadOf x.frame.body) 0 1 % 64 }] ∧
      t.xfer = s.xfer ∧ Counted .evt 0 R.EVT_EVENT_RX s t := by
  have hevt := s.eventTracked_evt ecc x
  have htime := s.eventTracked_time ecc x
  have hcyc : (s.eventTracked ecc x).time.cycle = s.time.cycle := by rw [htime, State.atLeast_time]
  have hlater : (s.eventTracked ecc x).tick = (s.atLeast (x.edge * wHub)).tick := by simp only [State.tick, htime]
  have hlines := s.eventTracked_rxLines ecc x
  have hev := State.eventRx_pends (s := s.eventTracked ecc x) (b := payloadOf x.frame.body) (by rw [hlines]; exact hl) ht
    (by rw [htime, State.atLeast_time]; exact hc) (by rw [hcyc, hlater]; exact hd) (by rw [hevt]; exact hroom)
  refine ⟨_, exec_hubReceive_event ecc hx htyp hid, ?_⟩
  rw [State.hubEvent_taken (by rw [hlines]; exact hl), hev]
  refine ⟨?_, ?_, ?_⟩
  · rw [State.pace_evt, State.count_evt, hevt, hcyc]
  · rw [State.pace_xfer, State.count_xfer]
    exact s.eventTracked_xfer ecc x
  · exact counted_event (counted_count .evt 0 R.EVT_EVENT_RX _) (by decide) (by decide)

theorem hubReceive_pulses_event
    (hl : bit (s.reg .evt 0 R.EVT_EVENT_RX_LINES) (beAt (payloadOf x.frame.body) 0 1 % 64) = true)
    (ht : nbit (beAt (payloadOf x.frame.body) 0 1) 7 = false)
    (hs : (beAt (payloadOf x.frame.body) 0 1 % 64, hubEdge (s.atLeast (x.edge * wHub)).time.now) ∉ s.evt.seen) :
    Answers (.hubReceive ecc) s fun t =>
      t.evt.pend = s.evt.pend ∧ Counted .evt 0 R.EVT_EVENT_RX s t ∧
      t.xfer.jobs = s.xfer.jobs.map (Job.afterPulse (beAt (payloadOf x.frame.body) 0 1 % 64)
        (s.atLeast (x.edge * wHub)).time.now s.xfer.nextPlace) := by
  have hlines := s.eventTracked_rxLines ecc x
  have htime := s.eventTracked_time ecc x
  refine ⟨_, exec_hubReceive_event ecc hx htyp hid, ?_⟩
  rw [State.hubEvent_taken (by rw [hlines]; exact hl), State.eventRx_untimed (by rw [hlines]; exact hl) ht, State.pulseNow,
    State.count_time, htime]
  refine ⟨?_, ?_, ?_⟩
  · rw [State.pace_evt, State.pulse_pend, State.count_evt, State.eventTracked_evt]
  · exact counted_event (counted_of_find (counted_count _ _ _ _) (State.find_pulse_other _ _ _ _ (by decide) (by decide)))
      (by decide) (by decide)
  · rw [State.pace_xfer, State.jobs_pulse (by rw [State.count_evt, State.eventTracked_evt]; exact hs), State.count_xfer,
      State.eventTracked_xfer]

end EventAtHub

/-- Settles O30: each command's effect is a pulse of the line, which reaches the jobs by `State.jobs_pulse`, or leaves them alone. -/
theorem gateEntriesAndEventsPulseTheirLines : Obligations.GateEntriesAndEventsPulseTheirLines := by
  refine ⟨?gates, ?due, ?early, ?late, ?heads, ?hub⟩
  case gates =>
    intro s p i st e hc hi he
    have hn : s.nextGate p = i := hi
    subst hn
    exact gateEntryStart_runs s p st e hc he
  case due => exact eventPendingFire_due
  case early => exact fun s e hp hd => exec_eventPendingFire_early hp hd
  case late => exact eventPendingFire_late
  case heads => exact headLoad_marks
  case hub =>
    intro s x ecc h b line u hx htyp hid
    exact ⟨hubReceive_refuses_event ecc hx htyp hid, fun hl ht hc hd hroom => hubReceive_pends_event ecc hx htyp hid hl ht hc hd hroom,
      hubReceive_pulses_event ecc hx htyp hid⟩

end Sys2Proof.Machine
end

section
/-! SUPPORT. What counts, traces and samples leave of the state, and what a receive path reads of it (R18, R169, R369). -/

namespace Sys2Proof.Machine

open Sys2Proof

/-! Records: what is counted and traced of an event, and nothing of its effect. -/

/-- The state with other page headers, registers, notes of wrapped counters and trace. -/
def State.withRecords (s : State) (pages : SMap PageHdr) (regs : SMap Word) (cnt : CntSt) (trace : TraceSt) : State :=
  { s with pages, regs, cnt, trace }

/-- Nothing differs but what is counted and traced. -/
def OnlyRecords (s t : State) : Prop := t = s.withRecords t.pages t.regs t.cnt t.trace

theorem OnlyRecords.trans {s t u : State} (h : OnlyRecords s t) (h' : OnlyRecords t u) : OnlyRecords s u := by
  unfold OnlyRecords at *
  rw [h', h]
  rfl

theorem State.onlyRecords_countN (s : State) (k : PageKind) (i po n : Nat) : OnlyRecords s (s.countN k i po n) := by
  unfold State.countN
  dsimp only
  repeat' split
  all_goals rfl

theorem State.onlyRecords_modSrc (s : State) (src : Nat) (f : TraceSrc → TraceSrc) : OnlyRecords s (s.modSrc src f) := rfl

theorem State.onlyRecords_loseRec (s : State) (src : Nat) (space : Bool) : OnlyRecords s (s.loseRec src space) :=
  (s.onlyRecords_modSrc src _).trans (State.onlyRecords_countN (s.modSrc src _) .trace 0 _ 1)

theorem State.onlyRecords_passRec (s : State) (r : TraceRec) : OnlyRecords s (s.passRec r) := by
  unfold State.passRec
  dsimp only
  repeat' split
  · exact s.onlyRecords_loseRec _ _
  · exact s.onlyRecords_loseRec _ _
  · exact (s.onlyRecords_modSrc _ _).trans (State.onlyRecords_loseRec _ _ _)
  · rfl

theorem State.onlyRecords_traceAt (s : State) (src : Nat) (ev : Option Nat) (cls port : Option Nat) (frac kind : Nat) (w1 w2 w3 : Word) :
    OnlyRecords s (s.traceAt src ev cls port frac kind w1 w2 w3) := by
  unfold State.traceAt
  split
  · exact s.onlyRecords_passRec _
  · rfl

/-! What the receive path reads. -/

theorem OnlyRecords.stage3 {s t : State} (h : OnlyRecords s t) (p : Nat) (itp : Bool) (f : Frame) (tRx : Nat) :
    t.stage3 p itp f tRx = s.stage3 p itp f tRx := by
  rw [h]; rfl

theorem OnlyRecords.cutsThrough {s t : State} (h : OnlyRecords s t) (p : Nat) (fr : TxFrame) (q : Nat) :
    t.cutsThrough p fr q = s.cutsThrough p fr q := by
  rw [h]; rfl

theorem OnlyRecords.headDrop {s t : State} (h : OnlyRecords s t) (p : Nat) (fr : TxFrame) : t.headDrop p fr = s.headDrop p fr := by
  rw [h]; rfl

theorem OnlyRecords.routeOf {s t : State} (h : OnlyRecords s t) (itp : Bool) (f : Frame) : t.routeOf itp f = s.routeOf itp f := by
  rw [h]; rfl

theorem OnlyRecords.wByte {s t : State} (h : OnlyRecords s t) (p : Nat) : t.wByte p = s.wByte p := by
  rw [h]; rfl

theorem OnlyRecords.ports {s t : State} (h : OnlyRecords s t) : t.ports = s.ports := by
  rw [h]; rfl

theorem OnlyRecords.time {s t : State} (h : OnlyRecords s t) : t.time = s.time := by
  rw [h]; rfl

theorem OnlyRecords.outs {s t : State} (h : OnlyRecords s t) : t.outs = s.outs := by
  rw [h]; rfl

theorem OnlyRecords.hubIn {s t : State} (h : OnlyRecords s t) : t.hubIn = s.hubIn := by
  rw [h]; rfl

/-! A received frame that is counted and traced. -/

/-- A received frame has been counted and traced. -/
def State.noted (s : State) (p ctr : Nat) (itp : Bool) (f : Frame) (outcome tick : Nat) : State :=
  (s.countP p ctr).traceRx p itp f outcome tick

section Noted

variable (s : State) (p ctr : Nat) (itp : Bool) (f : Frame) (outcome tick : Nat)

theorem State.onlyRecords_noted : OnlyRecords s (s.noted p ctr itp f outcome tick) :=
  (s.onlyRecords_countN .port p ctr 1).trans (State.onlyRecords_traceAt _ _ _ _ _ _ _ _ _ _)

/-- A frame that is counted out leaves the ports, the hub's path and the outputs as they were. -/
theorem State.noted_pace_leaves : let t := (s.noted p ctr itp f outcome tick).pace
    t.ports = s.ports ∧ t.hubIn = s.hubIn ∧ t.outs = s.outs := by
  have h := s.onlyRecords_noted p ctr itp f outcome tick
  exact ⟨(State.pace_ports _).trans h.ports, (State.pace_hubIn _).trans h.hubIn, (State.pace_outs _).trans h.outs⟩

theorem counted_noted : Counted .port p ctr s (s.noted p ctr itp f outcome tick) :=
  counted_of_find (counted_count .port p ctr s) (State.find_traceRx_port _ _ _ _ _ _ (portReg_ge p ctr))

theorem counted_noted_pace : Counted .port p ctr s (s.noted p ctr itp f outcome tick).pace :=
  counted_of_find (counted_noted s p ctr itp f outcome tick) (State.find_pace_port _ (portReg_ge p ctr))

theorem State.find_noted_other {a : Nat} (ha : a ≠ pageBase .port p + ctr) (hl : a ≠ pageBase .trace 0 + R.TRACE_LOST_FULL)
    (hr : a ≠ pageBase .trace 0 + R.TRACE_LOST_RATE) : smFind (s.noted p ctr itp f outcome tick).regs a = smFind s.regs a :=
  (State.find_traceAt_other _ _ _ _ _ _ _ _ _ _ _ hl hr).trans (State.find_countN_other _ _ _ _ _ _ ha)

theorem State.noted_nodeId : (s.noted p ctr itp f outcome tick).nodeId = s.nodeId := by
  have h : pageBase .cycle 0 + R.CYCLE_NODE_CFG ≠ pageBase .port p + ctr := by
    simp only [pageBase, R.CYCLE_NODE_CFG]
    omega
  simp only [State.nodeId, State.regF,
    State.reg_of_find (State.find_noted_other s p ctr itp f outcome tick h (by decide) (by decide))]

end Noted

theorem State.bound_congr {s t : State} (h : t.nodeId = s.nodeId) (itp : Bool) (f : Frame) : t.bound itp f = s.bound itp f := by
  simp only [State.bound, h]

theorem State.relayCheck_congr {s t : State} (h : t.nodeId = s.nodeId) (f : Frame) : t.relayCheck f = s.relayCheck f := by
  simp only [State.relayCheck, h]

/-- Stages 1 and 2 count in the low half of a port page. -/
theorem failed12_ctr_lt {fecOk fcsOk : Bool} {len stage ctr : Nat} (h : failed12 fecOk fcsOk len = some (stage, ctr)) : ctr < 0x1000 := by
  unfold failed12 at h
  split at h
  · cases h; decide
  · split at h
    · cases h; decide
    · split at h
      · cases h; decide
      · split at h
        · cases h; decide
        · cases h

/-! A relayed frame that an output port ends (R369). -/

section Stomp

variable {s : State} {p cls q : Nat} {itp : Bool} {f : Frame}

theorem State.stomp_uncut
    (h : s.cutsThrough p { cls, typ := if itp then typOf f else 0, origin := .relay p, frame := f } q = false) :
    s.stomp p cls itp f q = s := by
  unfold State.stomp
  dsimp only
  rw [h]
  rfl

/-- What the start of a frame leaves of the ports, the hub's path and the outputs. -/
theorem State.started_leaves (s : State) (p cls tDep : Nat) (fr : Option TxFrame) :
    (s.started p cls tDep fr).ports = s.ports ∧ (s.started p cls tDep fr).hubIn = s.hubIn ∧
    (s.started p cls tDep fr).outs = s.outs := by
  refine ⟨(show Part.same .ports s _ from ?_), (show Part.same .hubIn s _ from ?_), (show Part.same .outs s _ from ?_)⟩
  all_goals simp [Part.same_refl]

/-- The port that has begun the frame ends it with a wrong FCS: its lane is busy for one more gap. -/
theorem State.stomp_cuts
    (h : s.cutsThrough p { cls, typ := if itp then typOf f else 0, origin := .relay p, frame := f } q = true) :
    (s.stomp p cls itp f q).outs = s.outs ++ [.frame q f false] ∧
    (s.stomp p cls itp f q).ports = (s.modPort q fun x => { x with laneFree := s.time.now + 12 * s.wByte q }).ports ∧
    (s.stomp p cls itp f q).hubIn = s.hubIn := by
  unfold State.stomp
  dsimp only
  rw [if_pos h]
  refine ⟨?_, ?_, ?_⟩
  · rw [State.countP_outs, (State.started_leaves _ _ _ _ _).2.2, State.out, State.modPort_outs]
  · rw [State.countP_ports, (State.started_leaves _ _ _ _ _).1, State.out_ports]
  · rw [State.countP_hubIn, (State.started_leaves _ _ _ _ _).2.1, State.out_hubIn, State.modPort_hubIn]

/-- Of the registers of the port pages, the end of the frame writes one: TX_STOMPED of the output port counts it. -/
theorem State.stomp_counts (hq : q < 1024)
    (h : s.cutsThrough p { cls, typ := if itp then typOf f else 0, origin := .relay p, frame := f } q = true) :
    Counted .port q R.PORT_TX_STOMPED s (s.stomp p cls itp f q) ∧
    ∀ a, 0x200000 ≤ a → a ≠ pageBase .port q + R.PORT_TX_STOMPED → smFind (s.stomp p cls itp f q).regs a = smFind s.regs a := by
  unfold State.stomp
  dsimp only
  rw [if_pos h]
  refine ⟨counted_from (counted_count .port q _ _) ?_, fun a ha hne => ?_⟩
  · rw [State.find_started_other _ _ _ _ _ _ hq (portReg_ge _ _), State.out_regs, State.modPort_regs]
  · rw [State.countP, State.find_countN_other _ _ _ _ _ _ hne, State.find_started_other _ _ _ _ _ _ hq ha, State.out_regs,
      State.modPort_regs]

end Stomp

/-! A frame that enters an empty transmit buffer (R104, R169). -/

theorem State.enqueue_empty {s : State} {q : Nat} (fr : TxFrame) (h : (s.port q).txq = []) : s.enqueue q fr = s.loaded q fr := by
  simp only [State.enqueue, State.loaded, State.modPort, smMod]
  have e : (smGet s.ports q {}).txq = [] := h
  rw [e]
  rfl

theorem State.purgeHeads_loaded {s : State} {q : Nat} {fr : TxFrame} (h : (s.loaded q fr).headDrop q fr = none) :
    (s.loaded q fr).purgeHeads q = s.loaded q fr := by
  have hq : ((s.loaded q fr).port q).txq = [fr] := by rw [State.loaded, State.port_modPort_same]
  unfold State.purgeHeads
  rw [hq]
  simp only [List.foldl_cons, List.foldl_nil, List.any_nil, Bool.false_eq_true, if_false]
  rw [State.headDrop_txq, h]
  simp only [State.loaded, State.modPort_modPort]
  rfl

theorem State.departs_ports (s : State) : s.departs.ports = s.ports := by
  refine (show Part.same .ports s _ from ?_); simp [Part.same_refl]

theorem State.departs_hubIn (s : State) : s.departs.hubIn = s.hubIn := by
  refine (show Part.same .hubIn s _ from ?_); simp [Part.same_refl]

theorem State.countEaten_hubIn (s : State) (p : Nat) : (s.countEaten p).hubIn = s.hubIn := by
  refine (show Part.same .hubIn s _ from ?_); simp [Part.same_refl]

section Arrived

variable {s : State} {q : Nat} {fr : TxFrame} (h : (s.loaded q fr).headDrop q fr = none)

include h

theorem State.arrived_loaded : (s.loaded q fr).arrived q = (s.loaded q fr).departs.pace.countEaten q := by
  rw [State.arrived, State.purge, State.purgeHeads_loaded h]

/-- The only frame of a port, which nothing discards, is still there once it has been judged. -/
theorem State.ports_arrived_loaded : (((s.loaded q fr).arrived q).port q).txq = [fr] ∧ OtherPorts q s ((s.loaded q fr).arrived q) := by
  have hp : (s.loaded q fr).departs.pace.ports = (s.loaded q fr).ports := by rw [State.pace_ports, State.departs_ports]
  obtain ⟨⟨l, hl⟩, ho⟩ := (s.loaded q fr).departs.pace.onlyLostWindows_countEaten q
  rw [State.arrived_loaded h]
  refine ⟨?_, ((otherPorts_modPort s q _).trans (otherPorts_of_ports hp q)).trans ho⟩
  rw [hl, State.port_congr hp, State.loaded, State.port_modPort_same]

theorem State.hubIn_arrived_loaded : ((s.loaded q fr).arrived q).hubIn = s.hubIn := by
  rw [State.arrived_loaded h, State.countEaten_hubIn, State.pace_hubIn, State.departs_hubIn, State.loaded, State.modPort_hubIn]

/-- The arrival of the frame writes no register of another port's page. -/
theorem State.find_arrived_loaded {a : Nat} (ha : InPortPage a) (hne : a ≠ pageBase .port q + R.PORT_PAUSE_WINDOW_LOST) :
    smFind ((s.loaded q fr).arrived q).regs a = smFind s.regs a := by
  rw [State.arrived_loaded h, State.find_countEaten_other _ _ _ hne, State.find_pace_port _ ha.1, State.find_departs_port _ ha,
    State.loaded, State.modPort_regs]

end Arrived

end Sys2Proof.Machine
end

section
/-! SUPPORT. Receive stages 1 to 5 and the hub's choice: the proof of O32 (R18, R20, R126, R136, R165, R169, R189, R190, R267, R369,
R372). -/

namespace Sys2Proof.Machine

open Sys2Proof

/-! What FRAME_RECEIVE does, stage by stage. -/

theorem exec_frameReceive_up {s : State} {r : RxFrame} (h : s.isUp r.port = true) :
    exec (.frameReceive r) s = .next ((s.seenAt r.port r.tRx).rxUp r).pace := by
  show execFrameReceive r s = _
  unfold execFrameReceive
  dsimp only
  rw [if_pos h]

/-- A port that delineates frames before UP is not in UP. -/
theorem State.isUp_of_delineates {s : State} {p : Nat} (h : s.delineates p = true) : s.isUp p = false := by
  unfold State.isUp
  by_contra hn
  have hup : (s.port p).link.state = .up := by simpa using hn
  simp [State.delineates, hup] at h

theorem exec_frameReceive_notUp {s : State} {r : RxFrame} (h : s.delineates r.port = true) (ht : typOf r.frame ≠ tHello) :
    exec (.frameReceive r) s = .next (s.countP r.port R.PORT_RX_NOT_UP) := by
  have hnot : s.rxNotUp r = s.countP r.port R.PORT_RX_NOT_UP := by
    unfold State.rxNotUp
    exact if_neg (by simp [ht])
  show execFrameReceive r s = _
  unfold execFrameReceive
  dsimp only
  rw [State.isUp_of_delineates h, if_neg (by decide), if_pos h, hnot]

section Stages

variable {s : State} {r : RxFrame}

theorem State.rxUp_failed {stage ctr : Nat} (h : failed12 r.fecOk r.fcsOk (frameLen r.frame) = some (stage, ctr)) :
    s.rxUp r = (s.noted r.port ctr (s.isItp r.port r.frame) r.frame stage (s.arrival r.tRx)).stompAll r.port
      (s.isItp r.port r.frame) r.frame r.tRx r.begun := by
  unfold State.rxUp
  dsimp only
  rw [h]
  rfl

/-- A frame that is no MAC control frame and passes stages 1 to 3. -/
theorem State.rxUp_passes (h : failed12 r.fecOk r.fcsOk (frameLen r.frame) = none) (he : r.frame.etherType ≠ 0x8808)
    (h3 : s.stage3 r.port (s.isItp r.port r.frame) r.frame r.tRx = none) :
    s.rxUp r = s.fromStage5 r.port (s.isItp r.port r.frame) r.frame r.tRx (s.lastBit r.port r.tRx (frameLen r.frame)) r.edge := by
  unfold State.rxUp
  dsimp only
  rw [h]
  dsimp only
  rw [if_neg he, State.fromStage3, h3]

end Stages

section FromStage5

variable {s : State} {p : Nat} {itp : Bool} {f : Frame} (tRx last edge : Nat)

section Bound

variable (hb : s.bound itp f = true) (hr : itp = true → s.relayCheck f = none)

include hr in
theorem State.relayCheck_passed : (if itp then s.relayCheck f else none) = none := by
  split
  · exact hr ‹_›
  · rfl

include hb hr

/-- A frame for another node goes to the ports of its relay entry. -/
theorem State.fromStage5_relayed {cls : Nat} {ports : List Nat} (hroute : s.routeOf itp f = some (cls, ports)) :
    s.fromStage5 p itp f tRx last edge = (s.traceRx p itp f 0 (s.arrival tRx)).relay p itp f cls ports := by
  unfold State.fromStage5
  dsimp only
  rw [if_pos hb, State.relayCheck_passed hr, hroute]

theorem State.fromStage5_noRoute (hroute : s.routeOf itp f = none) :
    s.fromStage5 p itp f tRx last edge = s.noted p R.PORT_RX_NO_ROUTE itp f 5 (s.arrival tRx) := by
  unfold State.fromStage5
  dsimp only
  rw [if_pos hb, State.relayCheck_passed hr, hroute]
  rfl

end Bound

theorem State.fromStage5_fails {ctr : Nat} (hb : s.bound itp f = false) (h5 : s.stage5 p f = some ctr) :
    s.fromStage5 p itp f tRx last edge = s.noted p ctr itp f 5 (s.arrival tRx) := by
  unfold State.fromStage5
  dsimp only
  rw [hb, if_neg (by decide), h5]
  rfl

/-- A frame enters the path into the hub: its edge is the last that its port has given. -/
def State.toHubPath (s : State) (x : HubFrame) : State :=
  { s.modPort x.port fun q => { q with hubLast := x.edge } with hubIn := s.hubIn ++ [x] }

/-- A frame for this node that passes stage 5 and that no port consumes goes to the hub (R20, R267). -/
theorem State.fromStage5_toHub (hb : s.bound itp f = false) (h5 : s.stage5 p f = none) (hl : linkLocal (typOf f) = false) :
    let v := s.noted p R.PORT_RX_ITPITOS itp f 0 (s.arrival tRx)
    let e := max edge (max (v.port p).hubLast (hubEdge last))
    s.fromStage5 p itp f tRx last edge =
      v.toHubPath { edge := e, port := p, cls := s.rxClass p itp f, frame := f, last } := by
  unfold State.fromStage5
  dsimp only
  rw [hb, if_neg (by decide), h5]
  dsimp only
  rw [hl, if_neg (by decide)]
  rfl

end FromStage5

theorem State.toHubPath_ports (s : State) (x : HubFrame) :
    (s.toHubPath x).ports = (s.modPort x.port fun q => { q with hubLast := x.edge }).ports := rfl

theorem State.port_toHubPath (s : State) (x : HubFrame) : (s.toHubPath x).port x.port = { s.port x.port with hubLast := x.edge } := by
  rw [State.port_congr (s.toHubPath_ports x), State.port_modPort_same]

theorem State.otherPorts_toHubPath (s : State) (x : HubFrame) {p : Nat} (h : x.port = p) : OtherPorts p s (s.toHubPath x) := by
  subst h
  exact (otherPorts_modPort s x.port _).trans (otherPorts_of_ports (s.toHubPath_ports x) x.port)

/-! Frames that fail stage 1 or 2 (R126, R136, R369). -/

theorem State.stompAll_unbegun (s : State) (p : Nat) (itp : Bool) (f : Frame) (tRx : Nat) : s.stompAll p itp f tRx [] = s := by
  have h : ∀ ports : List Nat, (ports.filter fun q => ([] : List (Fin 1024)).any fun b => b.val == q) = [] := by simp
  unfold State.stompAll
  split
  · split
    · rw [h]; rfl
    · rfl
  · rfl

section StompAll

variable {s : State} {p cls q : Nat} {itp : Bool} {f : Frame} {tRx : Nat} (begun : List (Fin 1024))
  (hb : s.bound itp f = true) (h3 : s.stage3 p itp f tRx = none) (hr : itp = true → s.relayCheck f = none)
  (hroute : s.routeOf itp f = some (cls, [q]))

include hb h3 hr hroute

/-- A frame bound for one port: that port ends it where it has begun it. -/
theorem State.stompAll_single :
    s.stompAll p itp f tRx begun = if begun.any (fun b => b.val == q) then s.stomp p cls itp f q else s := by
  have hc : s.bound itp f = true ∧ (s.stage3 p itp f tRx).isNone = true ∧ ((!itp) = true ∨ (s.relayCheck f).isNone = true) := by
    refine ⟨hb, by rw [h3]; rfl, ?_⟩
    cases itp with
    | false => exact .inl rfl
    | true => exact .inr (by rw [hr rfl]; rfl)
  unfold State.stompAll
  rw [if_pos hc, hroute]
  dsimp only
  rw [List.filter_cons, List.filter_nil]
  split <;> rfl

theorem OnlyRecords.stompAll_single {t : State} (h : OnlyRecords s t) (hid : t.nodeId = s.nodeId) :
    t.stompAll p itp f tRx begun = if begun.any (fun b => b.val == q) then t.stomp p cls itp f q else t :=
  State.stompAll_single begun ((State.bound_congr hid _ _).trans hb) ((h.stage3 _ _ _ _).trans h3)
    (fun hi => (State.relayCheck_congr hid _).trans (hr hi)) ((h.routeOf _ _).trans hroute)

end StompAll

section FailedFrames

variable {s : State} {r : RxFrame} {stage ctr : Nat} (hup : s.isUp r.port = true)
  (h12 : failed12 r.fecOk r.fcsOk (frameLen r.frame) = some (stage, ctr))

include hup h12

/-- A frame that fails stage 1 or 2 and that no port ends is discarded and counted. -/
theorem frameReceive_discards (hst : ∀ v, OnlyRecords (s.seenAt r.port r.tRx) v → v.nodeId = (s.seenAt r.port r.tRx).nodeId →
      v.stompAll r.port ((s.seenAt r.port r.tRx).isItp r.port r.frame) r.frame r.tRx r.begun = v) :
    let u := s.seenAt r.port r.tRx
    Answers (.frameReceive r) s fun t =>
      t.hubIn = u.hubIn ∧ t.ports = u.ports ∧ t.outs = u.outs ∧ Counted .port r.port ctr u t := by
  intro u
  have hrec := u.onlyRecords_noted r.port ctr (u.isItp r.port r.frame) r.frame stage (u.arrival r.tRx)
  have hid := u.noted_nodeId r.port ctr (u.isItp r.port r.frame) r.frame stage (u.arrival r.tRx)
  refine ⟨_, exec_frameReceive_up hup, ?_⟩
  rw [State.rxUp_failed h12, hst _ hrec hid]
  obtain ⟨hp, hh, ho⟩ := u.noted_pace_leaves r.port ctr (u.isItp r.port r.frame) r.frame stage (u.arrival r.tRx)
  exact ⟨hh, hp, ho, counted_noted_pace _ _ _ _ _ _ _⟩

section OnePort

variable {cls q : Nat} (hb : (s.seenAt r.port r.tRx).bound ((s.seenAt r.port r.tRx).isItp r.port r.frame) r.frame = true)
  (h3 : (s.seenAt r.port r.tRx).stage3 r.port ((s.seenAt r.port r.tRx).isItp r.port r.frame) r.frame r.tRx = none)
  (hr : (s.seenAt r.port r.tRx).isItp r.port r.frame = true → (s.seenAt r.port r.tRx).relayCheck r.frame = none)
  (hroute : (s.seenAt r.port r.tRx).routeOf ((s.seenAt r.port r.tRx).isItp r.port r.frame) r.frame = some (cls, [q]))

include hb h3 hr hroute

theorem frameReceive_unbegun (hno : (∀ b ∈ r.begun, b.val ≠ q) ∨ (s.seenAt r.port r.tRx).cutsThrough r.port
      { cls, typ := if (s.seenAt r.port r.tRx).isItp r.port r.frame then typOf r.frame else 0, origin := .relay r.port,
        frame := r.frame } q = false) :
    let u := s.seenAt r.port r.tRx
    Answers (.frameReceive r) s fun t =>
      t.outs = u.outs ∧ t.ports = u.ports ∧ t.hubIn = u.hubIn ∧ Counted .port r.port ctr u t := by
  have hst : ∀ v, OnlyRecords (s.seenAt r.port r.tRx) v → v.nodeId = (s.seenAt r.port r.tRx).nodeId →
      v.stompAll r.port ((s.seenAt r.port r.tRx).isItp r.port r.frame) r.frame r.tRx r.begun = v := by
    intro v hv hid
    rw [hv.stompAll_single r.begun hb h3 hr hroute hid]
    split
    · rename_i hbegun
      have hcut := hno.resolve_left fun hall => by
        obtain ⟨b, hb, he⟩ := List.any_eq_true.1 hbegun
        exact hall b hb (by simpa using he)
      exact State.stomp_uncut ((hv.cutsThrough _ _ _).trans hcut)
    · rfl
  obtain ⟨t, ht, hh, hp, ho, hc⟩ := frameReceive_discards hup h12 hst
  exact ⟨t, ht, ho, hp, hh, hc⟩

/-- The output port that had begun to relay the frame ends it with a wrong FCS. -/
theorem frameReceive_stomps (hbegun : ∃ b ∈ r.begun, b.val = q) (hcut : (s.seenAt r.port r.tRx).cutsThrough r.port
      { cls, typ := if (s.seenAt r.port r.tRx).isItp r.port r.frame then typOf r.frame else 0, origin := .relay r.port,
        frame := r.frame } q = true) :
    let u := s.seenAt r.port r.tRx
    Answers (.frameReceive r) s fun t =>
      t.outs = u.outs ++ [.frame q r.frame false] ∧ (t.port q).laneFree = u.time.now + 12 * u.wByte q ∧ OtherPorts q u t ∧
      t.hubIn = u.hubIn ∧ Counted .port q R.PORT_TX_STOMPED u t ∧ Counted .port r.port ctr u t := by
  intro u
  obtain ⟨b, hbm, hbq⟩ := hbegun
  have hq : q < 1024 := by have := b.isLt; omega
  have hqp : q ≠ r.port := by
    rintro rfl
    simp [State.cutsThrough] at hcut
  have hctr := failed12_ctr_lt h12
  obtain ⟨v, hv⟩ : ∃ v, v = u.noted r.port ctr (u.isItp r.port r.frame) r.frame stage (u.arrival r.tRx) := ⟨_, rfl⟩
  have hrec : OnlyRecords u v := by rw [hv]; exact State.onlyRecords_noted _ _ _ _ _ _ _
  have hid : v.nodeId = u.nodeId := by rw [hv]; exact State.noted_nodeId _ _ _ _ _ _ _
  have hany : r.begun.any (fun b => b.val == q) = true := List.any_eq_true.2 ⟨b, hbm, by simpa using hbq⟩
  have hcut' := (hrec.cutsThrough r.port _ q).trans hcut
  obtain ⟨houts, hports, hhub⟩ := State.stomp_cuts hcut'
  obtain ⟨hcount, hother⟩ := State.stomp_counts hq hcut'
  refine ⟨_, exec_frameReceive_up hup, ?_⟩
  rw [State.rxUp_failed h12, ← hv, hrec.stompAll_single r.begun hb h3 hr hroute hid, if_pos hany]
  have hlane : ((v.stomp r.port cls (u.isItp r.port r.frame) r.frame q).pace.port q).laneFree = v.time.now + 12 * v.wByte q := by
    rw [State.port_congr (State.pace_ports _), State.port_congr hports, State.port_modPort_same]
  refine ⟨?_, ?_, ?_, ?_, ?_, ?_⟩
  · rw [State.pace_outs, houts, hrec.outs]
  · rw [hlane, hrec.time, hrec.wByte]
  · exact (((otherPorts_of_ports hrec.ports q).trans (otherPorts_modPort v q _)).trans (otherPorts_of_ports hports q)).trans
      (otherPorts_of_ports (State.pace_ports _) q)
  · rw [State.pace_hubIn, hhub, hrec.hubIn]
  · refine counted_of_find (counted_from hcount ?_) (State.find_pace_port _ (portReg_ge _ _))
    rw [hv]
    exact State.find_noted_other _ _ _ _ _ _ _ (portReg_ne hqp hctr (by decide))
      (by simp only [pageBase, R.TRACE_LOST_FULL]; omega) (by simp only [pageBase, R.TRACE_LOST_RATE]; omega)
  · refine counted_of_find (t := v) (by rw [hv]; exact counted_noted _ _ _ _ _ _ _) ?_
    rw [State.find_pace_port _ (portReg_ge _ _)]
    exact hother _ (portReg_ge _ _) (portReg_ne (Ne.symm hqp) (by decide) hctr)

end OnePort

end FailedFrames

/-! Frames for another node (R165, R169, R190). -/

/-- A relayed frame has been traced and counted in RELAY_RX. -/
def State.relayCounted (s : State) (p : Nat) (itp : Bool) (f : Frame) (tick : Nat) : State :=
  (s.traceRx p itp f 0 tick).countP p R.PORT_RELAY_RX

theorem State.onlyRecords_relayCounted (s : State) (p : Nat) (itp : Bool) (f : Frame) (tick : Nat) :
    OnlyRecords s (s.relayCounted p itp f tick) :=
  (s.onlyRecords_traceAt _ _ _ _ _ _ _ _ _).trans (State.onlyRecords_countN (s.traceRx p itp f 0 tick) .port p R.PORT_RELAY_RX 1)

theorem counted_relayCounted (s : State) (p : Nat) (itp : Bool) (f : Frame) (tick : Nat) :
    Counted .port p R.PORT_RELAY_RX s (s.relayCounted p itp f tick) :=
  counted_from (counted_count .port p R.PORT_RELAY_RX _) (State.find_traceRx_port _ _ _ _ _ _ (portReg_ge _ _))

section RelayedFrames

variable {s : State} {r : RxFrame} (hup : s.isUp r.port = true) (h12 : failed12 r.fecOk r.fcsOk (frameLen r.frame) = none)
  (he : r.frame.etherType ≠ 0x8808)
  (h3 : (s.seenAt r.port r.tRx).stage3 r.port ((s.seenAt r.port r.tRx).isItp r.port r.frame) r.frame r.tRx = none)
  (hb : (s.seenAt r.port r.tRx).bound ((s.seenAt r.port r.tRx).isItp r.port r.frame) r.frame = true)
  (hr : (s.seenAt r.port r.tRx).isItp r.port r.frame = true → (s.seenAt r.port r.tRx).relayCheck r.frame = none)

include hup h12 he h3 hb hr

theorem frameReceive_noRoute
    (hroute : (s.seenAt r.port r.tRx).routeOf ((s.seenAt r.port r.tRx).isItp r.port r.frame) r.frame = none) :
    let u := s.seenAt r.port r.tRx
    Answers (.frameReceive r) s fun t => t.ports = u.ports ∧ t.hubIn = u.hubIn ∧ Counted .port r.port R.PORT_RX_NO_ROUTE u t := by
  intro u
  refine ⟨_, exec_frameReceive_up hup, ?_⟩
  rw [State.rxUp_passes h12 he h3, State.fromStage5_noRoute _ _ _ hb hr hroute]
  obtain ⟨hp, hh, -⟩ := u.noted_pace_leaves r.port R.PORT_RX_NO_ROUTE (u.isItp r.port r.frame) r.frame 5 (u.arrival r.tRx)
  exact ⟨hp, hh, counted_noted_pace _ _ _ _ _ _ _⟩

theorem exec_frameReceive_relays {cls q : Nat}
    (hroute : (s.seenAt r.port r.tRx).routeOf ((s.seenAt r.port r.tRx).isItp r.port r.frame) r.frame = some (cls, [q])) :
    let u := s.seenAt r.port r.tRx
    exec (.frameReceive r) s = .next ((u.relayCounted r.port (u.isItp r.port r.frame) r.frame (u.arrival r.tRx)).relayTo r.port cls
      (u.isItp r.port r.frame) r.frame q).pace := by
  rw [exec_frameReceive_up hup, State.rxUp_passes h12 he h3, State.fromStage5_relayed _ _ _ hb hr hroute]
  rfl

/-- A frame does not go back to its own port. -/
theorem frameReceive_hairpin {cls : Nat}
    (hroute : (s.seenAt r.port r.tRx).routeOf ((s.seenAt r.port r.tRx).isItp r.port r.frame) r.frame = some (cls, [r.port.val])) :
    let u := s.seenAt r.port r.tRx
    Answers (.frameReceive r) s fun t =>
      t.ports = u.ports ∧ t.hubIn = u.hubIn ∧ Counted .port r.port R.PORT_RELAY_RX u t ∧
      Counted .port r.port R.PORT_RELAY_HAIRPIN u t := by
  intro u
  refine ⟨_, exec_frameReceive_relays hup h12 he h3 hb hr hroute, ?_⟩
  obtain ⟨v, hv⟩ : ∃ v, v = u.relayCounted r.port (u.isItp r.port r.frame) r.frame (u.arrival r.tRx) := ⟨_, rfl⟩
  have hrec : OnlyRecords u v := by rw [hv]; exact State.onlyRecords_relayCounted _ _ _ _ _
  have hcount : Counted .port r.port R.PORT_RELAY_RX u v := by rw [hv]; exact counted_relayCounted _ _ _ _ _
  have hne : pageBase .port r.port + R.PORT_RELAY_HAIRPIN ≠ pageBase .port r.port + R.PORT_RELAY_RX := by
    simp only [R.PORT_RELAY_HAIRPIN, R.PORT_RELAY_RX]
    omega
  have hkeep : smFind v.regs (pageBase .port r.port + R.PORT_RELAY_HAIRPIN) =
      smFind u.regs (pageBase .port r.port + R.PORT_RELAY_HAIRPIN) := by
    rw [hv]
    exact (State.find_countN_other _ _ _ _ _ _ hne).trans (State.find_traceRx_port _ _ _ _ _ _ (portReg_ge _ _))
  have hto : v.relayTo r.port cls (u.isItp r.port r.frame) r.frame r.port = v.countP r.port R.PORT_RELAY_HAIRPIN := if_pos rfl
  rw [← hv, hto]
  refine ⟨?_, ?_, ?_, ?_⟩
  · rw [State.pace_ports, State.countP_ports, hrec.ports]
  · rw [State.pace_hubIn, State.countP_hubIn, hrec.hubIn]
  · refine counted_of_find hcount ?_
    rw [State.find_pace_port _ (portReg_ge _ _)]
    exact State.find_countN_other _ _ _ _ _ _ (Ne.symm hne)
  · exact counted_of_find (counted_from (counted_count .port r.port R.PORT_RELAY_HAIRPIN v) hkeep)
      (State.find_pace_port _ (portReg_ge _ _))

/-- A frame enters the empty transmit buffer of its output port. -/
theorem frameReceive_relays {cls q : Nat}
    (hroute : (s.seenAt r.port r.tRx).routeOf ((s.seenAt r.port r.tRx).isItp r.port r.frame) r.frame = some (cls, [q]))
    (hqp : q ≠ r.port) (hev : (s.seenAt r.port r.tRx).isItp r.port r.frame = true → typOf r.frame ≠ tEvent)
    (hempty : ((s.seenAt r.port r.tRx).port q).txq = []) :
    let u := s.seenAt r.port r.tRx
    let fr : TxFrame := { cls, typ := if u.isItp r.port r.frame then typOf r.frame else 0, origin := .relay r.port, frame := r.frame }
    (u.loaded q fr).headDrop q fr = none → Answers (.frameReceive r) s fun t =>
      (t.port q).txq = [fr] ∧ OtherPorts q u t ∧ t.hubIn = u.hubIn ∧ Counted .port r.port R.PORT_RELAY_RX u t := by
  intro u fr hd
  refine ⟨_, exec_frameReceive_relays hup h12 he h3 hb hr hroute, ?_⟩
  obtain ⟨v, hv⟩ : ∃ v, v = u.relayCounted r.port (u.isItp r.port r.frame) r.frame (u.arrival r.tRx) := ⟨_, rfl⟩
  have hrec : OnlyRecords u v := by rw [hv]; exact State.onlyRecords_relayCounted _ _ _ _ _
  have hcount : Counted .port r.port R.PORT_RELAY_RX u v := by rw [hv]; exact counted_relayCounted _ _ _ _ _
  have hd' : (v.loaded q fr).headDrop q fr = none := by
    rw [State.loaded, State.headDrop_txq] at hd ⊢
    rw [hrec.headDrop, hd]
  have htyp : ¬ (fr.typ = tEvent ∧ (!v.linkBit q 6) = true) := by
    rintro ⟨ht, -⟩
    cases hi : u.isItp r.port r.frame with
    | true => exact hev hi (by simpa [fr, hi] using ht)
    | false => simp [fr, hi, tEvent] at ht
  have hto : v.relayTo r.port cls (u.isItp r.port r.frame) r.frame q = (v.loaded q fr).arrived q := by
    unfold State.relayTo
    dsimp only
    rw [if_neg hqp, if_neg htyp, State.enqueue_empty _ ((congrArg PortSt.txq (State.port_congr hrec.ports q)).trans hempty)]
  obtain ⟨htxq, hother⟩ := State.ports_arrived_loaded hd'
  rw [← hv, hto]
  refine ⟨?_, ?_, ?_, ?_⟩
  · rw [State.port_congr (State.pace_ports _), htxq]
  · exact ((otherPorts_of_ports hrec.ports q).trans hother).trans (otherPorts_of_ports (State.pace_ports _) q)
  · rw [State.pace_hubIn, State.hubIn_arrived_loaded hd', hrec.hubIn]
  · refine counted_of_find hcount ?_
    rw [State.find_pace_port _ (portReg_ge _ _)]
    exact State.find_arrived_loaded hd' (inPortPage_reg r.port (by decide)) (portReg_ne (Ne.symm hqp) (by decide) (by decide))

end RelayedFrames

/-! Frames for this node (R18, R20, R189, R267). -/

section OwnFrames

variable {s : State} {r : RxFrame} (hup : s.isUp r.port = true) (h12 : failed12 r.fecOk r.fcsOk (frameLen r.frame) = none)
  (he : r.frame.etherType ≠ 0x8808) (hitp : (s.seenAt r.port r.tRx).isItp r.port r.frame = true)
  (h3 : (s.seenAt r.port r.tRx).stage3 r.port true r.frame r.tRx = none)
  (hb : (s.seenAt r.port r.tRx).bound true r.frame = false)

include hup h12 he hitp h3 hb

theorem frameReceive_toHub (h5 : (s.seenAt r.port r.tRx).stage5 r.port r.frame = none) (hl : linkLocal (typOf r.frame) = false) :
    let u := s.seenAt r.port r.tRx
    let last := u.lastBit r.port r.tRx (frameLen r.frame)
    let e := max r.edge (max (u.port r.port).hubLast (hubEdge last))
    Answers (.frameReceive r) s fun t =>
      t.hubIn = u.hubIn ++ [{ edge := e, port := r.port, cls := u.rxClass r.port true r.frame, frame := r.frame, last }] ∧
      t.port r.port = { u.port r.port with hubLast := e } ∧ OtherPorts r.port u t ∧ t.outs = u.outs ∧
      Counted .port r.port R.PORT_RX_ITPITOS u t := by
  intro u last e
  refine ⟨_, exec_frameReceive_up hup, ?_⟩
  rw [State.rxUp_passes h12 he (by rw [hitp]; exact h3), hitp, State.fromStage5_toHub _ _ _ hb h5 hl]
  obtain ⟨v, hv⟩ : ∃ v, v = u.noted r.port R.PORT_RX_ITPITOS true r.frame 0 (u.arrival r.tRx) := ⟨_, rfl⟩
  have hrec : OnlyRecords u v := by rw [hv]; exact State.onlyRecords_noted _ _ _ _ _ _ _
  have hcount : Counted .port r.port R.PORT_RX_ITPITOS u v := by rw [hv]; exact counted_noted _ _ _ _ _ _ _
  dsimp only
  rw [← hv, State.port_congr hrec.ports]
  refine ⟨?_, ?_, ?_, ?_, ?_⟩
  · rw [State.pace_hubIn, State.toHubPath, hrec.hubIn]
  · rw [State.port_congr (State.pace_ports _), State.port_toHubPath, State.port_congr hrec.ports]
  · exact ((otherPorts_of_ports hrec.ports r.port).trans (State.otherPorts_toHubPath v _ rfl)).trans
      (otherPorts_of_ports (State.pace_ports _) r.port)
  · rw [State.pace_outs, State.toHubPath, State.modPort_outs, hrec.outs]
  · refine counted_of_find hcount ((State.find_pace_port _ (portReg_ge _ _)).trans ?_)
    rw [State.toHubPath, State.modPort_regs]

theorem frameReceive_failsHeader {ctr : Nat} (h5 : (s.seenAt r.port r.tRx).stage5 r.port r.frame = some ctr) :
    let u := s.seenAt r.port r.tRx
    Answers (.frameReceive r) s fun t =>
      t.hubIn = u.hubIn ∧ t.ports = u.ports ∧ t.outs = u.outs ∧ Counted .port r.port ctr u t := by
  intro u
  refine ⟨_, exec_frameReceive_up hup, ?_⟩
  rw [State.rxUp_passes h12 he (by rw [hitp]; exact h3), hitp, State.fromStage5_fails _ _ _ hb h5]
  obtain ⟨hp, hh, ho⟩ := u.noted_pace_leaves r.port ctr true r.frame 5 (u.arrival r.tRx)
  exact ⟨hh, hp, ho, counted_noted_pace _ _ _ _ _ _ _⟩

end OwnFrames

/-! Before UP, and at the hub (R20, R372). -/

theorem frameReceive_beforeUp (s : State) (r : RxFrame) (h : s.delineates r.port = true) (ht : typOf r.frame ≠ tHello) :
    Answers (.frameReceive r) s fun t =>
      t.hubIn = s.hubIn ∧ t.ports = s.ports ∧ t.outs = s.outs ∧ Counted .port r.port R.PORT_RX_NOT_UP s t :=
  ⟨_, exec_frameReceive_notUp h ht, State.countP_hubIn _ _ _, State.countP_ports _ _ _, State.countP_outs _ _ _,
    counted_count .port r.port R.PORT_RX_NOT_UP s⟩

/-- From stage 6 on, a frame neither enters the hub's path nor moves the clock. -/
theorem State.hub_leaves (s : State) (x : HubFrame) {pt : Part} (hpt : pt = .hubIn ∨ pt = .time) :
    pt.same s (if (s.stage6 x).2 then ((s.stage6 x).1.afterStage6 x).pace else (s.stage6 x).1.traceHub x 6 none) := by
  have h6 : pt.same s (s.stage6 x).1 := by rcases hpt with rfl | rfl <;> simp [Part.same_refl]
  refine Part.same_ite ?_ ?_
  · rcases hpt with rfl | rfl <;> simp [h6]
  · rcases hpt with rfl | rfl <;> simp [h6]

theorem hubReceive_takes (s : State) (x : HubFrame) (ecc : EccList) (h : s.nextHub = some x) :
    Answers (.hubReceive ecc) s fun t => t.hubIn = s.hubIn.erase x ∧ t.time.now = max s.time.now (x.edge * wHub) := by
  refine ⟨_, exec_hubReceive ecc h, ?_, ?_⟩
  · refine (State.hub_leaves (s.hubTaken ecc x) x (pt := .hubIn) (.inl rfl)).trans ?_
    rw [State.hubTaken, State.atLeast_hubIn]
  · have ht : _ = (s.hubTaken ecc x).time := State.hub_leaves (s.hubTaken ecc x) x (pt := .time) (.inr rfl)
    refine (congrArg TimeSt.now ht).trans ?_
    rw [State.hubTaken, State.atLeast_now]
    rfl

/-- Settles O32: each clause is what the stages do to the frame, one lemma for each outcome. -/
theorem receivedFramesPassTheStages : Obligations.ReceivedFramesPassTheStages := by
  refine ⟨?failed, ?relayed, ?own, frameReceive_beforeUp, hubReceive_takes⟩
  case failed =>
    intro s r stage ctr u itp hup h12
    refine ⟨fun hbegun => frameReceive_discards hup h12 fun v _ _ => ?_, fun cls q hb h3 hr hroute => ⟨?_, ?_⟩⟩
    · rw [hbegun, State.stompAll_unbegun]
    · exact frameReceive_stomps hup h12 hb h3 hr hroute
    · exact frameReceive_unbegun hup h12 hb h3 hr hroute
  case relayed =>
    intro s r u itp hup h12 he h3 hb hr
    exact ⟨frameReceive_noRoute hup h12 he h3 hb hr, fun cls => frameReceive_hairpin hup h12 he h3 hb hr,
      fun cls q hroute hqp hev => frameReceive_relays hup h12 he h3 hb hr hroute hqp hev⟩
  case own =>
    intro s r u hup h12 he hitp h3 hb
    exact ⟨frameReceive_toHub hup h12 he hitp h3 hb, fun ctr => frameReceive_failsHeader hup h12 he hitp h3 hb⟩

end Sys2Proof.Machine
end

section
/-! SUPPORT. The common page header: the feature lock, the error record and the causes, shadow and commit, snapshots and counter writes
(R29, R31, R33, R36, R40 to R42). -/

namespace Sys2Proof.Machine

open Sys2Proof

/-! What changes the header of one page only. -/

theorem onlyHeader_modHdr (s : State) (k : PageKind) (i : Nat) (f : PageHdr → PageHdr) : OnlyHeader k i s (s.modHdr k i f) :=
  ⟨rfl, fun n hn => State.pages_modHdr_other s k i n f hn⟩

theorem onlyHeader_cause (s : State) (k : PageKind) (i b : Nat) : OnlyHeader k i s (s.cause k i b) := onlyHeader_modHdr s k i _

theorem OnlyHeader.trans {k : PageKind} {i : Nat} {s t u : State} (h : OnlyHeader k i s t) (g : OnlyHeader k i t u) :
    OnlyHeader k i s u := by
  obtain ⟨hst, hpages⟩ := h
  obtain ⟨htu, gpages⟩ := g
  exact ⟨htu.trans (by rw [hst]), fun n hn => (gpages n hn).trans (hpages n hn)⟩

theorem onlyHeader_err (s : State) (k : PageKind) (i code detail info : Nat) : OnlyHeader k i s (s.err k i code detail info) :=
  (onlyHeader_modHdr s k i _).trans (onlyHeader_cause _ k i causeErr)

/-! The feature lock (R33). -/

theorem bit_lt {w : Word} {b : Nat} (h : bit w b = true) : b < 64 := BitVec.lt_of_getLsbD (x := w) h

/-- This stepping offers the features 0 to 25 (R35). -/
theorem bit_featOffered (b : Nat) : bit featOffered b = decide (b < 26) := Nat.testBit_two_pow_sub_one 26 b

theorem State.lockFeatures_offered {s : State} (hl : s.featLock = false) (h : ∀ b, bit s.featAcc b = true → b < 26) :
    s.lockFeatures = if bit s.featAcc 0 then { s with featLock := true } else s.err .global 0 errFeatBase 0 0 := by
  have hnone : lowest 64 (fun b => bit s.featAcc b && !bit featOffered b) = none := by
    refine lowest_none fun b _ => ?_
    cases hb : bit s.featAcc b
    · rfl
    · simp [bit_featOffered, h b hb]
  simp [State.lockFeatures, hl, hnone]

theorem State.lockFeatures_notOffered {s : State} {b : Nat} (hl : s.featLock = false) (hb : bit s.featAcc b = true) (h26 : 26 ≤ b)
    (hlow : ∀ a, a < b → bit s.featAcc a = true → a < 26) : s.lockFeatures = s.err .global 0 errFeatOffered b 0 := by
  have hsome : lowest 64 (fun b => bit s.featAcc b && !bit featOffered b) = some b := by
    refine lowest_some (bit_lt hb) (by simp [hb, bit_featOffered, h26]) fun a ha => ?_
    cases hacc : bit s.featAcc a
    · rfl
    · simp [bit_featOffered, hlow a ha hacc]
  simp [State.lockFeatures, hl, hsome]

/-- FEAT_LOCK is written before FEAT_OK: GLOBAL.CTRL does not wait for it. -/
theorem exec_featLock {s : State} (h : s.pwr.held = false) : exec .featLock s = .next s.lockFeatures :=
  congrArg Host.Outcome.next (State.hdrGuard_opens (k := .global) (po := 0x018) ⟨h, .inr rfl, .inl rfl⟩)

/-- Settles O7: the lowest accepted bit that is not offered decides, then bit 0. -/
theorem featureLockChecksTheAcceptedWord : Obligations.FeatureLockChecksTheAcceptedWord := by
  refine ⟨fun s hh hl ho hb => ?taken, fun s hh hl => ?accepted, fun s b hh hl hb h26 hlow => ?notOffered,
    fun s hh hl ho hb => ?noBase, fun s code detail info => ⟨rfl, onlyHeader_err s .global 0 code detail info⟩⟩
  case taken => rw [exec_featLock hh, State.lockFeatures_offered hl ho, if_pos hb]
  case accepted => simp [exec, execFeatLockAccepted, hh, hl]
  case notOffered => rw [exec_featLock hh, State.lockFeatures_notOffered hl hb h26 hlow]; rfl
  case noBase => rw [exec_featLock hh, State.lockFeatures_offered hl ho, hb]; rfl

/-! Causes and the error record (R29, R31). -/

/-- An error raised while no record is held is the one that ERR_CODE and ERR_INFO hold. -/
theorem State.err_first {s : State} {k : PageKind} {i code detail info : Nat} (h0 : (s.hdr k i).errCode = 0) (hc : code < 2 ^ 16)
    (hd : detail < 2 ^ 16) (hi : info < 2 ^ 32) : let h := (s.err k i code detail info).hdr k i
    h.errCode.toNat = code + detail * 2 ^ 16 ∧ h.errInfo.toNat = info ∧ h.errMore = (s.hdr k i).errMore := by
  have hcode : code + detail % 2 ^ 16 * 2 ^ 16 = code + detail * 2 ^ 16 := by rw [Nat.mod_eq_of_lt hd]
  simp only [State.hdr_err, h0, if_true, BitVec.toNat_ofNat, hcode, Nat.mod_eq_of_lt hi, and_self, and_true]
  exact Nat.mod_eq_of_lt (by omega)

/-- An error raised while a record is held only sets ERR_MORE. -/
theorem State.err_later {s : State} {k : PageKind} {i code detail info : Nat} (h0 : (s.hdr k i).errCode ≠ 0) :
    let h := (s.err k i code detail info).hdr k i
    h.errCode = (s.hdr k i).errCode ∧ h.errInfo = (s.hdr k i).errInfo ∧ h.errMore = true := by
  simp only [State.hdr_err, if_neg h0, and_self]

/-- Every error sets the cause ERR and keeps the others. -/
theorem State.err_cause (s : State) (k : PageKind) (i code detail info b : Nat) :
    ((s.err k i code detail info).hdr k i).intCause.getLsbD b = ((s.hdr k i).intCause.getLsbD b || decide (b = 0)) := by
  simp [State.hdr_err, BitVec.getLsbD_one]

/-- The causes left by a clear: those not cleared, and those raised on its edge but ERR. -/
def causesLeft (k : PageKind) (c mask raised : BitVec 32) : BitVec 32 := (c &&& ~~~mask) ||| (raised &&& causeMask k &&& ~~~1#32)

theorem causesLeft_err (k : PageKind) (c mask raised : BitVec 32) :
    (causesLeft k c mask raised).getLsbD 0 = (c.getLsbD 0 && !mask.getLsbD 0) := by
  simp [causesLeft]

theorem causesLeft_getLsbD (k : PageKind) (c mask raised : BitVec 32) {b : Nat} (h0 : 0 < b) (h32 : b < 32) :
    (causesLeft k c mask raised).getLsbD b = ((c.getLsbD b && !mask.getLsbD b) || (raised.getLsbD b && (causeMask k).getLsbD b)) := by
  simp only [causesLeft, BitVec.getLsbD_or, BitVec.getLsbD_and, BitVec.getLsbD_not, BitVec.getLsbD_one, h32, Nat.ne_of_gt h0, decide_true,
    decide_false, Bool.true_and, Bool.and_false, Bool.not_false, Bool.and_true]

theorem State.hdr_clearCause (s : State) (k : PageKind) (i : Nat) (mask raised : BitVec 32) :
    (s.clearCause k i mask raised).hdr k i =
      if mask.getLsbD 0 then
        { s.hdr k i with
          intCause := causesLeft k (s.hdr k i).intCause mask raised, errCode := 0, errInfo := 0, errMore := false }
      else { s.hdr k i with intCause := causesLeft k (s.hdr k i).intCause mask raised } :=
  State.hdr_modHdr s k i _

/-- A write of INT_CAUSE acts on a page whose feature was accepted, and before FEAT_OK on every page. -/
theorem exec_intCauseClear {s : State} {k : PageKind} {i : Nat} (mask raised : BitVec 32) (hh : s.pwr.held = false)
    (hf : hdrFeat k 0x020 = 0 ∨ s.featOk = false ∨ s.feat (hdrFeat k 0x020) = true) :
    exec (.intCauseClear ⟨k, i⟩ mask raised) s = .next (s.clearCause k i mask raised) := by
  have hopen : (s.featOk && hdrFeat k 0x020 ≠ 0 && !s.feat (hdrFeat k 0x020)) = false := by
    rcases hf with h | h | h <;> simp [h]
  simp only [exec, execIntCauseClear, State.causeGuard, hh, hopen, Bool.false_eq_true, if_false]

/-- Settles O8: an error record by `State.err_first` and `State.err_later`, a clear by `State.hdr_clearCause`. -/
theorem causesAndErrorsHoldUntilCleared : Obligations.CausesAndErrorsHoldUntilCleared := by
  refine ⟨fun s k i code detail info hc hd hi => ⟨?_, fun h0 => State.err_first h0 hc hd hi, fun h0 => State.err_later h0⟩,
    fun s k i mask raised hh hf hm => ⟨_, exec_intCauseClear mask raised hh hf, ?cleared⟩,
    fun s k i mask raised hh hf => ⟨_, exec_intCauseClear mask raised hh hf, ?kept⟩⟩
  · rw [State.err_cause]; simp
  case cleared =>
    have h := State.hdr_clearCause s k i mask raised
    rw [if_pos hm] at h
    refine ⟨by rw [h], by rw [h], by rw [h], onlyHeader_modHdr _ _ _ _, fun code detail info hc hd hi => ?_⟩
    obtain ⟨hcode, hinfo, hmore⟩ := State.err_first (s := s.clearCause k i mask raised) (by rw [h]) hc hd hi
    exact ⟨hcode, hinfo, hmore.trans (by rw [h])⟩
  case kept =>
    have hcause : ((s.clearCause k i mask raised).hdr k i).intCause = causesLeft k (s.hdr k i).intCause mask raised := by
      rw [State.hdr_clearCause]; split <;> rfl
    refine ⟨fun b h0 h32 => ?_, ?_, ?_, onlyHeader_modHdr _ _ _ _⟩
    · rw [hcause, causesLeft_getLsbD k _ mask raised h0 h32]
    · rw [hcause, causesLeft_err]
    · rw [State.hdr_clearCause]; split <;> rfl

/-! Shadow and commit (R36). -/

theorem exec_commitApplied {s : State} {k : PageKind} {i : Nat} (hm : k ≠ .mover) (hx : k ≠ .xfer) (hp : (s.hdr k i).pending = true) :
    exec (.commitApplied ⟨k, i⟩) s =
      .next ((s.modHdr k i fun h => { h with pending := false, appliedSeq := h.commitSeq }).cause k i causeCommit) := by
  have happly : exec (.commitApplied ⟨k, i⟩) s = .next (s.applyPage k i) := by
    cases k <;> first | rfl | contradiction
  rw [happly, State.applyPage, if_pos hp]

theorem State.commitPage_plain (s : State) {k : PageKind} (i : Nat) (hm : k ≠ .mover) (hx : k ≠ .xfer) :
    s.commitPage k i = s.setPending k i := by
  cases k <;> first | rfl | contradiction

theorem State.discardPage_plain (s : State) {k : PageKind} (i : Nat) (hm : k ≠ .mover) (hx : k ≠ .xfer) :
    s.discardPage k i = s.modHdr k i fun h => { h with pending := false } := by
  cases k <;> first | rfl | contradiction

theorem exec_shadowCommit {s : State} {k : PageKind} (i : Nat) (ho : s.opens k 0x038 (hdrFeat k 0x038)) :
    exec (.shadowCommit ⟨k, i⟩) s = .next (s.commitPage k i) := congrArg Host.Outcome.next (State.hdrGuard_opens ho)

theorem exec_shadowDiscard {s : State} {k : PageKind} (i : Nat) (ho : s.opens k 0x038 (hdrFeat k 0x038)) :
    exec (.shadowDiscard ⟨k, i⟩) s = .next (s.discardPage k i) := congrArg Host.Outcome.next (State.hdrGuard_opens ho)

/-- Settles O10: each of the three commands changes the header of its page, and nothing else. -/
theorem commitTakesEffectAtTheBoundary : Obligations.CommitTakesEffectAtTheBoundary := by
  intro s k i hm hx
  refine ⟨fun ho => ⟨_, exec_shadowCommit i ho, ?commit⟩, fun ho => ⟨_, exec_shadowDiscard i ho, ?discard⟩,
    fun hp => ⟨_, exec_commitApplied hm hx hp, ?applied⟩⟩
  case commit =>
    rw [State.commitPage_plain s i hm hx]
    exact ⟨State.hdr_modHdr _ _ _ _, onlyHeader_modHdr _ _ _ _⟩
  case discard =>
    rw [State.discardPage_plain s i hm hx]
    exact ⟨State.hdr_modHdr _ _ _ _, onlyHeader_modHdr _ _ _ _⟩
  case applied =>
    refine ⟨?_, ?_, ?_, (onlyHeader_modHdr _ _ _ _).trans (onlyHeader_cause _ _ _ _)⟩ <;> simp [causeCommit]

/-! Words of a count and a flag (R41, R42). -/

/-- A word of a count of 48 bits and a flag in bit 63. -/
theorem fields_countWord {m : Nat} (hm : m < 2 ^ 48) (f : Bool) : let w := wd (m + b2n f * 2 ^ 63)
    fld w 47 0 = m ∧ fld w 62 48 = 0 ∧ bit w 63 = f := by
  have hf : b2n f < 2 := by cases f <;> decide
  have hw : m + b2n f * 2 ^ 63 < 2 ^ 64 := by omega
  refine ⟨?_, ?_, ?_⟩
  · rw [fld_wd hw]; omega
  · rw [fld_wd hw]; omega
  · have hdiv : (m + b2n f * 2 ^ 63) / 2 ^ 63 % 2 = b2n f := by omega
    rw [bit_wd hw, Nat.testBit_eq_decide_div_mod_eq, hdiv]
    cases f <;> rfl

/-! Snapshots (R40). -/

/-- What an index reads as when every entry listed there holds one value. -/
theorem smFind_of_forall {α : Type} {m : SMap α} {k : Nat} {v : α} (hmem : (k, v) ∈ m) (h : ∀ x ∈ m, x.1 = k → x.2 = v) :
    smFind m k = some v := by
  induction m with
  | nil => simp at hmem
  | cons x m ih =>
    obtain ⟨j, w⟩ := x
    by_cases hj : j = k
    · have hw : w = v := h (j, w) (List.mem_cons_self ..) hj
      simp [smFind, hj, hw]
    · have hrest : (k, v) ∈ m := by
        rcases List.mem_cons.1 hmem with e | hm
        · exact absurd (congrArg Prod.fst e).symm hj
        · exact hm
      simp [smFind, hj, ih hrest fun y hy => h y (List.mem_cons_of_mem _ hy)]

/-- The copy of a counter stands 0x400 above the counter. -/
theorem State.smGet_snapCounters (s : State) (k : PageKind) (i : Nat) {po : Nat} (h : po ∈ counterOffs k) :
    smGet (s.snapCounters k i) (po + 0x400) 0 = s.reg k i po := by
  have hfind : smFind (s.snapCounters k i) (po + 0x400) = some (s.reg k i po) := by
    refine smFind_of_forall ?_ fun x hx hkey => ?_
    · exact (mem_sortBy _ _ _).2 (List.mem_map.2 ⟨po, h, rfl⟩)
    · obtain ⟨po', _, rfl⟩ := List.mem_map.1 ((mem_sortBy _ _ _).1 hx)
      rw [Nat.add_right_cancel hkey]
  simp [smGet, hfind]

/-- The header of a page after the capture edge of a snapshot. -/
def State.captured (s : State) (k : PageKind) (i : Nat) : PageHdr :=
  { s.hdr k i with
    snapBusy := false, snapValid := true, snapSeq := (s.hdr k i).snapSeq + 1
    snapStamp := wd (s.islandNs (islandOf k i))
    snapCycle := wd (s.time.cycle + b2n (!(s.replica (islandOf k i)).valid) * 2 ^ 63)
    snapStatus := BitVec.ofNat 32 (s.status k i), snapCause := (s.hdr k i).intCause, snapRegs := s.snapCounters k i
    intCause := (s.hdr k i).intCause ||| 4#32 }

theorem snapshotCapture_captures {s : State} {k : PageKind} {i : Nat} (h : (s.hdr k i).snapBusy = true) :
    Answers (.snapshotCapture ⟨k, i⟩) s fun t => t.hdr k i = s.captured k i ∧ OnlyHeader k i s t := by
  have hexec : exec (.snapshotCapture ⟨k, i⟩) s = .next ((s.modHdr k i fun h =>
      { h with
        snapBusy := false, snapValid := true, snapSeq := h.snapSeq + 1
        snapStamp := wd (s.islandNs (islandOf k i))
        snapCycle := wd (s.time.cycle + b2n (!(s.replica (islandOf k i)).valid) * 2 ^ 63)
        snapStatus := BitVec.ofNat 32 (s.status k i), snapCause := h.intCause
        snapRegs := s.snapCounters k i }).cause k i causeSnapDone) := by
    simp only [exec, execSnapshotCapture, h, Bool.not_true, Bool.false_eq_true, if_false]
  refine ⟨_, hexec, ?_, (onlyHeader_modHdr _ _ _ _).trans (onlyHeader_cause _ _ _ _)⟩
  rw [State.hdr_cause, State.hdr_modHdr]
  rfl

theorem exec_snapTake {s : State} {k : PageKind} (i : Nat) (ho : s.opens k 0x040 (hdrFeat k 0x040)) :
    exec (.snapTake ⟨k, i⟩) s = .next (s.takeSnap k i) := congrArg Host.Outcome.next (State.hdrGuard_opens ho)

/-- Settles O11: the captured words are those of `State.captured`. -/
theorem snapshotCapturesOneEdge : Obligations.SnapshotCapturesOneEdge := by
  refine ⟨fun s k i ho => ⟨_, exec_snapTake i ho, State.hdr_modHdr _ _ _ _, onlyHeader_modHdr _ _ _ _⟩,
    fun s k i hb hc => ?_⟩
  obtain ⟨t, hexec, hhdr, honly⟩ := snapshotCapture_captures hb
  obtain ⟨hcycle, _, hvalid⟩ := fields_countWord hc (!(s.replica (islandOf k i)).valid)
  refine ⟨t, hexec, ?_⟩
  simp only [hhdr]
  exact ⟨rfl, rfl, rfl, rfl, rfl, hcycle, hvalid, rfl, fun po hpo => s.smGet_snapCounters k i hpo, rfl, honly⟩

/-! Counters (R41, R42). -/

theorem fld_lt (w : Word) (hi lo : Nat) : fld w hi lo < 2 ^ (hi + 1 - lo) := Nat.mod_lt _ (Nat.two_pow_pos _)

theorem ctrAdd_eq (w : Word) (n : Nat) :
    ctrAdd w n = wd ((fld w 47 0 + n) % 2 ^ 48 + b2n (bit w 63 || decide (2 ^ 48 ≤ fld w 47 0 + n)) * 2 ^ 63) := by
  simp only [ctrAdd, b2n, Bool.or_eq_true, decide_eq_true_eq, or_comm (a := bit w 63 = true)]
  split <;> simp

/-- An increment carries into OVF from the last count only. -/
theorem ctrWraps_one (w : Word) : ctrWraps w 1 = decide (fld w 47 0 = 0xFFFFFFFFFFFF) := by
  have := fld_lt w 47 0
  simp only [ctrWraps, decide_eq_decide]
  omega

theorem State.count_hdr_pages (s : State) (k : PageKind) (i po : Nat) :
    (s.count k i po).pages =
      if ctrWraps (smGet s.regs (pageBase k i + po) 0) 1 then (s.cause k i causeOvf).pages else s.pages := by
  rw [State.count, State.countN_eq _ _ _ _ _ one_ne_zero]
  dsimp only
  split <;> rfl

theorem State.reg_writeCtr (s : State) (k : PageKind) (i po : Nat) (v : Word) (n : Nat) :
    (s.writeCtr k i po v n).reg k i po =
      wd ((fld v 47 0 + n) % 2 ^ 48 + b2n (bit v 63 || decide (2 ^ 48 ≤ fld v 47 0 + n)) * 2 ^ 63) := by
  have hset : (s.writeCtr k i po v n).reg k i po =
      wd ((fld v 47 0 + n) % 2 ^ 48 + (if bit v 63 ∨ 2 ^ 48 ≤ fld v 47 0 + n then 2 ^ 63 else 0)) := by
    unfold State.writeCtr
    dsimp only
    split <;> exact State.reg_setReg s k i po _
  rw [hset]
  simp only [b2n, Bool.or_eq_true, decide_eq_true_eq]
  split <;> simp

/-- A counter write leaves every other register, and all but registers, causes and the notes of wraps. -/
theorem State.writeCtr_leaves (s : State) (k : PageKind) (i po : Nat) (v : Word) (n : Nat) : let t := s.writeCtr k i po v n
    (∀ a, a ≠ pageBase k i + po → smFind t.regs a = smFind s.regs a) ∧ t = { s with regs := t.regs, pages := t.pages, cnt := t.cnt } := by
  unfold State.writeCtr
  dsimp only
  split <;> exact ⟨fun a ha => State.find_setReg_other s k i po a _ ha, rfl⟩

theorem exec_counterWrite {s : State} {k : PageKind} {i po : Nat} (n : Nat) (v : Word) {r : RegRow} {j : Nat}
    (hr : findRow k po = some (r, j)) (hacc : r.acc = .ctr) (ho : s.opens k po r.feat) :
    exec (.counterWrite ⟨k, i⟩ po v n) s = .next (s.writeCtr k i po v n) := by
  simp only [exec, execCounterWrite, hr, hacc, if_true, State.guarded_pass _ _ _ _ _ _ _ ho.1 ho.2.1 ho.2.2]

/-- Settles O12: a counter word is a count and a flag, and both operations write one. -/
theorem countersWrapAndTakeWrites : Obligations.CountersWrapAndTakeWrites := by
  refine ⟨fun s k i po => ?increment, fun s k i po n v r j hr hacc ho => ⟨_, exec_counterWrite n v hr hacc ho, ?write⟩⟩
  case increment =>
    have hu : smGet (s.count k i po).regs (pageBase k i + po) 0 = ctrAdd (smGet s.regs (pageBase k i + po) 0) 1 :=
      counted_count k i po s
    have hwraps := ctrWraps_one (smGet s.regs (pageBase k i + po) 0)
    have hpages := s.count_hdr_pages k i po
    generalize smGet s.regs (pageBase k i + po) 0 = w at *
    obtain ⟨hcount, hzero, hovf⟩ := fields_countWord (Nat.mod_lt (fld w 47 0 + 1) (Nat.two_pow_pos 48))
      (bit w 63 || decide (2 ^ 48 ≤ fld w 47 0 + 1))
    rw [← ctrAdd_eq, ← hu] at hcount hzero hovf
    refine ⟨hcount, hzero, hovf.trans (congrArg _ hwraps), fun hmax => ?_, fun hmax => ?_⟩
    · rw [hwraps, decide_eq_true hmax, if_pos rfl] at hpages
      exact (congrArg PageHdr.intCause (congrArg (smGet · _ _) hpages)).trans (by rw [← State.hdr, State.hdr_cause]; rfl)
    · rw [hwraps, decide_eq_false hmax, if_neg Bool.false_ne_true] at hpages
      exact hpages
  case write =>
    obtain ⟨hcount, hzero, hovf⟩ := fields_countWord (Nat.mod_lt (fld v 47 0 + n) (Nat.two_pow_pos 48))
      (bit v 63 || decide (2 ^ 48 ≤ fld v 47 0 + n))
    rw [← s.reg_writeCtr k i po] at hcount hzero hovf
    exact ⟨hcount, hovf, hzero, s.writeCtr_leaves k i po v n⟩

end Sys2Proof.Machine
end

section
/-! SUPPORT. What every command keeps: one lemma that says each of the 216 commands completes in a state that has the queue, memory in
canonical form and, once the features are locked and accepted, the features, unless it asserts internal reset (R32 to R34, R44). -/

namespace Sys2Proof.Machine

open Sys2Proof

/-- A command's outcome is a next state that has P. -/
def Completes (P : State → Prop) (o : Host.Outcome State Fault Refusal) : Prop := ∃ t, o = .next t ∧ P t

theorem Completes.next {P : State → Prop} {t : State} (h : P t) : Completes P (.next t) := ⟨t, rfl, h⟩

theorem Completes.ite {P : State → Prop} {c : Prop} [Decidable c] {a b : Host.Outcome State Fault Refusal} (ha : Completes P a)
    (hb : Completes P b) : Completes P (if c then a else b) := by
  split <;> assumption

theorem Completes.kept {s : State} {o : Host.Outcome State Fault Refusal} (h : Completes (Steady s) o) : Completes (Kept s) o := by
  obtain ⟨t, ho, ht⟩ := h
  exact ⟨t, ho, ht.kept⟩

/-! Laws of PMBus commands (R363). -/

@[simp] theorem State.onDevice_steady {s₀ s f : State} (hs : Steady s₀ s) (hf : Steady s₀ f) : Steady s₀ (s.onDevice f) :=
  .ite hf (State.nack_steady hs)

theorem State.pmbWrite_kept {s₀ s : State} (x : Smb) (code : Nat) (data : List Nat) (f : State → State) (hs : Kept s₀ s)
    (hf : Kept s₀ (f s)) : Kept s₀ (s.pmbWrite x code data f) :=
  .ite (.ite (hs.steady (State.nack_steady (State.modPwr_steady _ (Steady.refl s) fun _ => rfl))) hf) hs

/-! Commands whose outcome rests on an operation that answers a state and more. -/

theorem execHubReceive_steady (ecc : EccList) (s : State) : Completes (Steady s) (exec (.hubReceive ecc) s) := by
  cases h : s.nextHub with
  | none =>
    have hexec : exec (.hubReceive ecc) s = .next (s.arise ecc) := by simp only [exec, execHubReceive, h]
    exact hexec ▸ .next (State.arise_steady ecc (Steady.refl s))
  | some x =>
    have htaken : Steady s (s.hubTaken ecc x) := by simp [State.hubTaken, Steady.refl]
    have h6 : Steady s ((s.hubTaken ecc x).stage6 x).1 := State.stage6_steady x htaken
    exact exec_hubReceive ecc h ▸ .next (.ite (by simp [h6]) (by simp [h6]))

theorem execLatentTest_steady (r : Fin 32768) (s : State) : Completes (Steady s) (execLatentTest r s) := by
  have htest := State.rcLatentTest_steady r (Steady.refl s)
  unfold execLatentTest
  refine .ite ?_ (.next (Steady.refl s))
  split
  next t heq => rw [heq] at htest; exact .next htest
  next t d heq => rw [heq] at htest; exact .next (by simp [htest])

theorem execEntryFetch_steady (s : State) : Completes (Steady s) (execEntryFetch s) := by
  have harb := State.arbitrate_steady (Steady.refl s)
  unfold execEntryFetch
  split
  next t q heq => rw [heq] at harb; exact .next (State.pace_steady (State.grant_steady q (State.grantEdge_steady harb)))
  next t heq => rw [heq] at harb; exact .next harb

/-! Commands that reset, or that write the features. -/

theorem execRegisterWrite_kept (a : CoreAccess) (s : State) : Completes (Kept s) (execRegisterWrite a s) := by
  refine .next (.ite (Kept.refl s) ?_)
  cases a with
  | reg a => exact State.regAccess_kept a (Kept.refl s)
  | mem core addr n op => exact State.coreAccess_kept core addr n op (Kept.refl s)

theorem execFeatLockAccepted_kept (s : State) : Completes (Kept s) (execFeatLockAccepted s) :=
  .next (.ite (Kept.refl s) ⟨rfl, id, fun ⟨_, _, hok⟩ => .inr ⟨rfl, rfl, hok.symm, rfl⟩⟩)

theorem execUvloRise_kept (drained : Bool) (low : Nat) (s : State) : Completes (Kept s) (execUvloRise drained low s) :=
  .ite (.next ⟨rfl, id, fun _ => .inl rfl⟩) (.next (Kept.refl s))

/-- Releasing internal reset changes nothing where it is not held. -/
theorem execResetRelease_kept (rise : Option Nat) (mfg : Bool) (addr : BitVec 3) (s : State) :
    Completes (Kept s) (execResetRelease rise mfg addr s) := by
  unfold execResetRelease
  split
  · exact .next (Kept.refl s)
  · split
    next hheld =>
      refine .next ⟨rfl, id, fun hagreed => ?_⟩
      simp [hagreed.1] at hheld
    · exact .next (Kept.refl s)

theorem execPllLock_steady (s : State) : Completes (Steady s) (execPllLock s) :=
  .ite (.next (Steady.refl s)) (.next ⟨rfl, rfl, rfl, rfl, rfl, Memory.wf_filter _ _⟩)

theorem execRstNAssert_kept (s : State) : Completes (Kept s) (execRstNAssert s) :=
  .next ((Kept.ite (Kept.refl s) (State.resetFor_kept 1 (Kept.refl s))).steady (State.modPwr_steady _ (Steady.refl _) fun _ => rfl))

/-- A change of the always-on registers that leaves internal reset as it is. -/
theorem State.modPwr_kept (s : State) (f : PwrSt → PwrSt) (hf : ∀ p, (f p).held = p.held) : Kept s (s.modPwr f) :=
  (State.modPwr_steady f (Steady.refl s) hf).kept

theorem execRailTimeout_kept (rail : Fin 10) (s : State) : Completes (Kept s) (execRailTimeout rail s) :=
  .next (.ite (State.railFail_kept _ (s.modPwr_kept _ fun _ => rfl)) (Kept.refl s))

theorem execRailCurrentLimit_kept (rail : Fin 10) (s : State) : Completes (Kept s) (execRailCurrentLimit rail s) :=
  .next (.ite (State.railFail_kept _ (s.modPwr_kept _ fun _ => rfl)) (Kept.refl s))

theorem execUvloFall_kept (s : State) : Completes (Kept s) (execUvloFall s) :=
  .ite (.next (Kept.refl s)) (.next (State.turnOff_kept (s.modPwr_kept _ fun _ => rfl)))

theorem execVinOvervoltage_kept (mv : Nat) (s : State) : Completes (Kept s) (execVinOvervoltage mv s) :=
  .ite (.next (Kept.refl s)) (.next (State.alertOn_kept (State.turnOff_kept (Steady.kept
    (State.cause_steady _ _ _ (State.raise_steady _ _ _ (State.modPwr_steady _ (Steady.refl s) fun _ => rfl)))))))

theorem execThermalShutdown_kept (s : State) : Completes (Kept s) (execThermalShutdown s) :=
  .ite (.next (Kept.refl s)) (.next (State.alertOn_kept (State.railsOff_kept _ _ (s.modPwr_kept _ fun _ => rfl))))

theorem execOperationOff_kept (x : Smb) (s : State) : Completes (Kept s) (execOperationOff x s) :=
  .next (State.pmbWrite_kept x _ _ _ (Kept.refl s) (.ite (State.turnOff_kept (State.accept_steady (Steady.refl s)).kept)
    (State.nack_steady (Steady.refl s)).kept))

/-! Every command. -/

/-- Every command completes, in a state of which `Kept` holds. The cases go by the form of a command's meaning; every operation that an
outcome is built from has its law among those of `Steady` and `Kept`. -/
theorem exec_kept (c : Instr) (s : State) : Completes (Kept s) (exec c s) := by
  cases c
  -- the resets, and the writes that can cause one or reach the features
  case registerWrite a => exact execRegisterWrite_kept a s
  case blockReset page enable =>
    exact .next (State.guarded_kept _ _ _ _ _ _ (Kept.refl s) fun u hu => State.writeCtrl_kept _ _ _ hu)
  case featLock => exact .next (State.guarded_kept _ _ _ _ _ _ (Kept.refl s) fun u hu => State.lockFeatures_kept hu)
  case featLockAccepted => exact execFeatLockAccepted_kept s
  case deviceReset => exact .next (State.deviceReset_kept (Kept.refl s))
  case uvloRise drained low => exact execUvloRise_kept drained low s
  case resetRelease rise mfg addr => exact execResetRelease_kept rise mfg addr s
  case pllLock => exact (execPllLock_steady s).kept
  case rstNAssert => exact execRstNAssert_kept s
  case railTimeout rail => exact execRailTimeout_kept rail s
  case railCurrentLimit rail => exact execRailCurrentLimit_kept rail s
  case uvloFall => exact execUvloFall_kept s
  case vinOvervoltage mv => exact execVinOvervoltage_kept mv s
  case thermalShutdown => exact execThermalShutdown_kept s
  case operationOff x => exact execOperationOff_kept x s
  -- the outcome rests on a pair
  case hubReceive ecc => exact (execHubReceive_steady ecc s).kept
  case latentTest r => exact (execLatentTest_steady r s).kept
  case entryFetch => exact (execEntryFetch_steady s).kept
  -- conditions choose the outcome
  case snapshotCapture | cycleStart | clapperRx | delayReqTx | delayReqRx | delayRespRx | ppsInEdge | ppsOutEdge | ppsOutWidthEnd |
      listenTimerExpiry | claimTx | claimRx | claimAckRx | claimRefusedRx | frameReceive | validationEnd | sleepSquelch | wakeBurstRx |
      signalDetect | trainingReady | trainTimeout | wakeTrainTimeout | codewordLock | lockTimeout | observationWindowEnd | helloTimeout |
      llSwitchBoundary | llSwitchTimeout | squelchEnd | keepaliveTimeout | macControlRx | pauseRx | preemptInactive | verifyRx | respondRx
      | verifyTimeout | fragmentRx | rcvyTimeoutReset | evtPinEdge | evtPinPulseEnd | sqPoll | codecTestDone | drainDone | dailiesCapture
      | alarmApply | faultReady | boot | core0Release | ddrTrainDone | thermalSample | railInRegulation =>
    refine Completes.kept ?_
    dsimp -zeta only [exec, execSnapshotCapture, execCycleStart, execClapperRx, execDelayReqTx, execDelayReqRx, execDelayRespRx,
      execPpsInEdge, execPpsOutEdge, execPpsOutWidthEnd, execListenTimerExpiry, execClaimTx, execClaimRx, execClaimAckRx,
      execClaimRefusedRx, execFrameReceive, execValidationEnd, execSleepSquelch, execWakeBurstRx, execSignalDetect, execTrainingReady,
      execTrainTimeout, execWakeTrainTimeout, execCodewordLock, execLockTimeout, execObservationWindowEnd, execHelloTimeout,
      execLlSwitchBoundary, execLlSwitchTimeout, execSquelchEnd, execKeepaliveTimeout, execMacControlRx, execPauseRx, execPreemptInactive,
      execVerifyRx, execRespondRx, execVerifyTimeout, execFragmentRx, execRcvyTimeoutReset, execEvtPinEdge, execEvtPinPulseEnd,
      execSqPoll, execCodecTestDone, execDrainDone, execDailiesCapture, execAlarmApply, execFaultReady, execBoot, execCore0Release,
      execDdrTrainDone, execThermalSample, execRailInRegulation]
    repeat' refine Completes.ite ?_ ?_
    all_goals exact .next (by simp +contextual (maxDischargeDepth := 30) [Steady.refl, PwrSt.sampleOsc])
  -- what the command looks up chooses the outcome
  case commitApplied | counterWrite | delayTimeout | candidateCycleZero | joinStep | claimRetry | claimRefresh | claimExpired |
      gateEntryStart | eventPendingFire | slateTableWrite | wakeLate | helloTx | codewordRx | signalLoss | pauseEffect | reasmTimeout |
      eventGenBuild | entryCopied | frameBuild | fenceFinish | cqNotifyDelay | burstGrant | burstDataReturn | dumpWritten |
      coreCounterOverflow | reelWrite | faultAggregate | fuseOpDone | joinDetectorDrop =>
    refine Completes.kept ?_
    dsimp only [exec, execCommitApplied, execCounterWrite, execDelayTimeout, execCandidateCycleZero, execJoinStep, execClaimRetry,
      execClaimRefresh, execClaimExpired, execGateEntryStart, execEventPendingFire, execSlateTableWrite, execWakeLate, execHelloTx,
      execCodewordRx, execSignalLoss, execPauseEffect, execReasmTimeout, execEventGenBuild, execEntryCopied, execFrameBuild,
      execFenceFinish, execCqNotifyDelay, execBurstGrant, execBurstDataReturn, execDumpWritten, execCoreCounterOverflow, execReelWrite,
      execFaultAggregate, execFuseOpDone, execJoinDetectorDrop]
    repeat' first | refine Completes.ite ?_ ?_ | split
    all_goals exact .next (by simp +contextual (maxDischargeDepth := 30) [Steady.refl])
  -- every other command has one outcome
  all_goals exact .next (Steady.kept (by simp +contextual (maxDischargeDepth := 30) [Steady.refl]))

/-- Settles O2: `exec_kept` gives the next state. -/
theorem everyCommandCompletes : Obligations.EveryCommandCompletes := by
  intro c s
  obtain ⟨t, hexec, -⟩ := exec_kept c s
  exact ⟨t, hexec⟩

/-- Settles O6: the features are accepted, so `exec_kept` keeps them or internal reset is asserted. -/
theorem acceptedFeaturesAreFixed : Obligations.AcceptedFeaturesAreFixed := by
  intro c s t hheld hlock hok hexec
  obtain ⟨u, hu, hkept⟩ := exec_kept c s
  obtain rfl : t = u := Host.Outcome.next.inj (hexec.symm.trans hu)
  refine (hkept.feats ⟨hheld, hlock, hok⟩).imp_right ?_
  rintro ⟨hacc, hlock', hok', hheld'⟩
  exact ⟨hacc, hlock'.trans hlock, hok'.trans hok, hheld'.trans hheld⟩

/-- Settles O5: every array is empty after reset, so each page, port, queue and ring reads as its record's reset values. -/
theorem resetLeavesTheEndpointIdle : Obligations.ResetLeavesTheEndpointIdle :=
  ⟨rfl, rfl, rfl, rfl, rfl, fun _ _ => ⟨rfl, rfl, rfl⟩, fun _ _ _ => rfl, rfl, rfl, rfl, rfl, fun _ => rfl, fun _ => rfl,
    fun _ => rfl, rfl⟩

end Sys2Proof.Machine
end

section
/-! SUPPORT. The staged slate: writes of its tables and registers, the start of a validation and its end (R38, R39, R81, R100, R110,
R111). -/

namespace Sys2Proof.Machine

open Sys2Proof

/-! Banks. -/

theorem State.staged_modStaged (s : State) (f : Bank → Bank) : (s.modStaged f).staged = f s.staged := by
  unfold State.modStaged
  split <;> simp_all [State.staged]

theorem State.live_modStaged (s : State) (f : Bank → Bank) : (s.modStaged f).live = s.live := by
  unfold State.modStaged
  split <;> simp_all [State.live]

theorem State.liveB_modStaged (s : State) (f : Bank → Bank) : (s.modStaged f).slate.liveB = s.slate.liveB := by
  unfold State.modStaged
  split <;> rfl

/-! An ADOPT that waits for a validation (R81). -/

theorem State.adoptFails_slate (s : State) (code off : Nat) :
    (s.adoptFails code off).slate = { s.slate with adopt := false, adoptGo := s.slate.adoptGo && !s.slate.adopt } := by
  unfold State.adoptFails
  cases h : s.slate.adopt
  · simp only [Bool.false_eq_true, if_false, Bool.not_false, Bool.and_true]
    rw [← h]
  · simp only [if_true, Bool.not_true, Bool.and_false]
    rfl

theorem State.adoptFails_regs (s : State) (code off : Nat) : (s.adoptFails code off).regs = s.regs := by
  refine (show Part.same .regs _ _ from ?_); simp [Part.same_refl]

/-- The error of a refused ADOPT keeps the causes that stand. -/
theorem State.adoptFails_cause {s : State} (code off : Nat) {b : Nat} (h : (s.hdr .cycle 0).intCause.getLsbD b = true) :
    ((s.adoptFails code off).hdr .cycle 0).intCause.getLsbD b = true := by
  unfold State.adoptFails
  split
  · rw [State.err_cause]
    exact Bool.or_eq_true_iff.2 (.inl h)
  · exact h

/-! Writes of the staged slate (R38, R39, R111). -/

/-- A write that reaches the staged slate returns CHECK to NONE; of the slates' state only a waiting ADOPT may change beside it. -/
theorem State.stagedWritten_slate (s : State) :
    ∃ adopt adoptGo, s.stagedWritten.slate = { s.slate with check := .none, adopt, adoptGo } := by
  unfold State.stagedWritten
  dsimp only
  split
  · exact ⟨_, _, State.adoptFails_slate _ 0 0⟩
  · exact ⟨_, _, rfl⟩

theorem State.staged_stagedWritten (s : State) : s.stagedWritten.staged = s.staged := by
  obtain ⟨adopt, adoptGo, h⟩ := s.stagedWritten_slate
  simp only [State.staged, h]

theorem State.live_stagedWritten (s : State) : s.stagedWritten.live = s.live := by
  obtain ⟨adopt, adoptGo, h⟩ := s.stagedWritten_slate
  simp only [State.live, h]

/-- A change of the staged slate reaches that slate alone, and its CHECK returns to NONE. -/
theorem State.write_staged (s : State) (f : Bank → Bank) : let t := (s.modStaged f).stagedWritten
    t.staged = f s.staged ∧ t.live = s.live ∧ t.slate.liveB = s.slate.liveB ∧ t.slate.check = .none := by
  obtain ⟨adopt, adoptGo, h⟩ := (s.modStaged f).stagedWritten_slate
  refine ⟨?_, ?_, ?_, ?_⟩
  · rw [State.staged_stagedWritten, State.staged_modStaged]
  · rw [State.live_stagedWritten, State.live_modStaged]
  · rw [h]; exact State.liveB_modStaged s f
  · rw [h]

/-! Tables (R38, R39, R100). -/

/-- The tables of slate A and of slate B start at multiples of their size. -/
theorem sub_slateBase {off : Nat} (h1 : 0x4000000 ≤ off) (h2 : off < 0x5000000) :
    off - slateBase (decide (0x4800000 ≤ off)) = off % 0x800000 := by
  by_cases h : 0x4800000 ≤ off <;> simp only [slateBase, h, decide_true, decide_false, if_true, Bool.false_eq_true, if_false] <;> omega

theorem exec_slateTableWrite {s : State} {off : Nat} (v : Word) (hrun : s.running) (h1 : 0x4000000 ≤ off) (h2 : off < 0x5000000)
    (h8 : off % 8 = 0) (hm : offMapped (off % 0x800000) = true) :
    exec (.slateTableWrite off v) s = .next
      (if decide (0x4800000 ≤ off) = s.slate.liveB then s.err .cycle 0 errLiveSlate 0 off
       else if s.cutBusy then s.err .cycle 0 errSlateArmed 0 off
       else (s.modStaged fun b => { b with tbl := smSet b.tbl (off % 0x800000) v }).stagedWritten) := by
  obtain ⟨hheld, hok⟩ := hrun
  have hwrite : exec (.slateTableWrite off v) s = .next (s.writeTable off v) := by
    simp [exec, execSlateTableWrite, h1, h2, h8, hm, hheld, hok]
  rw [hwrite]
  simp only [State.writeTable, sub_slateBase h1 h2, hm, Bool.not_true, Bool.false_eq_true, if_false]

theorem exec_slateTableWrite_unmapped {s : State} {off : Nat} (v : Word) (hheld : s.pwr.held = false) (h1 : 0x4000000 ≤ off)
    (h2 : off < 0x5000000) (hm : offMapped (off % 0x800000) = false) :
    exec (.slateTableWrite off v) s = .next (s.err .cycle 0 errUnmapped 0 off) := by
  simp [exec, execSlateTableWrite, h1, h2, hm, hheld]

/-! CYCLE_TICKS (R38, R39). -/

theorem fld_and_mask (v : Word) (n : Nat) (hn : n < 64) : fld (v &&& wd (2 ^ (n + 1) - 1)) n 0 = fld v n 0 := by
  have hmask : (wd (2 ^ (n + 1) - 1)).toNat = 2 ^ (n + 1) - 1 :=
    Nat.mod_eq_of_lt (by have := Nat.pow_le_pow_right (n := 2) two_pos (show n + 1 ≤ 64 by omega); omega)
  simp only [fld, bitsOf, BitVec.toNat_and, hmask, Nat.and_two_pow_sub_one_eq_mod, pow_zero, Nat.div_one, Nat.sub_zero, Nat.mod_mod]

theorem exec_slateTableWrite_ticks {s : State} (v : Word) (hrun : s.running) (hb : s.cutBusy = false) :
    exec (.slateTableWrite (pageBase .cycle 0 + R.CYCLE_CYCLE_TICKS) v) s =
      .next (s.modStaged fun b => { b with ticks := fld v 23 0 }).stagedWritten := by
  have hexec : exec (.slateTableWrite (pageBase .cycle 0 + R.CYCLE_CYCLE_TICKS) v) s =
      .next (s.regWriteV .cycle 0 R.CYCLE_CYCLE_TICKS v fun t w => t.writeRwc .cycle R.CYCLE_CYCLE_TICKS w) := rfl
  have hopens : s.opens .cycle R.CYCLE_CYCLE_TICKS 0 := ⟨hrun.1, .inl hrun.2, .inl rfl⟩
  rw [hexec, State.regWriteV_opens (r := ⟨.cycle, R.CYCLE_CYCLE_TICKS, 1, 0, 4, .rwc, 0xFFFFFF, 0⟩) (j := 0) rfl hopens]
  simp only [State.writeRwc, hb, Bool.false_eq_true, if_false, and_self, if_true]
  have hticks : fld (v &&& wd 0xFFFFFF) 23 0 = fld v 23 0 := fld_and_mask v 23 (by decide)
  rw [hticks]

/-! Validation (R110). -/

theorem exec_slateCheck {s : State} (h : s.opens .cycle R.CYCLE_SLATE_CTRL 0) : exec .slateCheck s = .next s.slateCheck :=
  congrArg Host.Outcome.next (State.regWrite_opens (r := ⟨.cycle, R.CYCLE_SLATE_CTRL, 1, 0, 4, .wo, 0x3, 0⟩) (j := 0) rfl h)

theorem startCheck_starts (s : State) :
    s.startCheck.slate = { s.slate with check := .running } ∧ Counted .cycle 0 R.CYCLE_CHECKS_RUN s s.startCheck :=
  ⟨State.count_slate _ _ _ _, counted_count .cycle 0 R.CYCLE_CHECKS_RUN (s.modSlate fun x => { x with check := .running })⟩

theorem exec_validationEnd {s : State} (h : s.slate.check = .running) : exec .validationEnd s = .next s.validationDone := by
  simp [exec, execValidationEnd, h]

theorem State.cause_getLsbD (s : State) (k : PageKind) (i b : Nat) (h : b < 32) : ((s.cause k i b).hdr k i).intCause.getLsbD b = true := by
  simp only [State.hdr_cause, BitVec.getLsbD_or, BitVec.getLsbD_ofNat, h, Nat.testBit_two_pow_self, decide_true, Bool.and_true, Bool.or_true]

theorem validationEnd_passes {s : State} (hrun : s.slate.check = .running) (hf : firstFinding s.findings = none) :
    Answers .validationEnd s fun t =>
      t.slate = { s.slate with check := .pass, adoptGo := s.slate.adopt } ∧ (t.hdr .cycle 0).intCause.getLsbD 17 = true := by
  refine ⟨_, exec_validationEnd hrun, ?_⟩
  simp only [State.validationDone, hf]
  exact ⟨rfl, State.cause_getLsbD _ .cycle 0 17 (by decide)⟩

theorem validationEnd_fails {s : State} {off code : Nat} (hrun : s.slate.check = .running)
    (hf : firstFinding s.findings = some (off, code)) :
    Answers .validationEnd s fun t =>
      t.slate = { s.slate with check := .fail, vcode := code, failOff := off, adopt := false,
                               adoptGo := s.slate.adoptGo && !s.slate.adopt } ∧
      (t.hdr .cycle 0).intCause.getLsbD 17 = true ∧ Counted .cycle 0 R.CYCLE_CHECKS_FAILED s t := by
  refine ⟨_, exec_validationEnd hrun, ?_⟩
  simp only [State.validationDone, hf]
  have hfail := counted_count .cycle 0 R.CYCLE_CHECKS_FAILED (s.modSlate fun x => { x with check := .fail, vcode := code, failOff := off })
  refine ⟨?_, State.adoptFails_cause code off (State.cause_getLsbD _ .cycle 0 17 (by decide)), ?_⟩
  · rw [State.adoptFails_slate, State.cause_slate, State.count_slate]; rfl
  · exact counted_of_find hfail (by rw [State.adoptFails_regs]; rfl)

/-- Settles O27: a write of the staged slate by `State.write_staged`, the end of a validation by what it found first. -/
theorem stagedSlateIsWrittenAndChecked : Obligations.StagedSlateIsWrittenAndChecked := by
  refine ⟨fun s off v hrun h1 h2 h8 hm => ?table, fun s off v hheld h1 h2 hm => exec_slateTableWrite_unmapped v hheld h1 h2 hm,
    fun s v hrun hb => ?ticks, fun s ho => ?check, fun s hrun hf => validationEnd_passes hrun hf,
    fun s off code hrun hf => validationEnd_fails hrun hf⟩
  case table =>
    have hexec := exec_slateTableWrite v hrun h1 h2 h8 hm
    refine ⟨fun hlive => ?_, fun hstaged hb => ?_, fun hstaged hb => ⟨_, hexec, ?_⟩⟩
    · rw [hexec, if_pos hlive]; rfl
    · rw [hexec, if_neg hstaged, if_pos hb]; rfl
    · rw [if_neg hstaged, hb, if_neg Bool.false_ne_true]
      obtain ⟨hs, hl, hb', hc⟩ := s.write_staged fun b => { b with tbl := smSet b.tbl (off % 0x800000) v }
      refine ⟨?_, fun o ho => ?_, hl, hb', hc⟩
      · rw [hs]; exact smFind_smSet_same _ _ _
      · rw [hs]; exact smFind_smSet_other _ _ _ _ ho
  case ticks =>
    obtain ⟨hs, hl, _, hc⟩ := s.write_staged fun b => { b with ticks := fld v 23 0 }
    exact ⟨_, exec_slateTableWrite_ticks v hrun hb, hs, hl, hc⟩
  case check =>
    rw [exec_slateCheck ho, State.slateCheck]
    refine ⟨fun hb => ?_, fun hb hrun => ?_, fun hb hrun => ⟨s.startCheck, ?_, startCheck_starts s⟩⟩
    · rw [if_pos hb]
    · rw [hb, if_neg Bool.false_ne_true, if_pos hrun]
    · rw [exec_slateCheck ho, State.slateCheck, hb, if_neg Bool.false_ne_true, if_neg hrun]

end Sys2Proof.Machine
end

section
/-! SUPPORT. The accesses of a core: the page and the register that a region offset names, what is refused, and the reads and writes of
memory in which no error stands (R25 to R28, R32, R202, R204, R321). -/

namespace Sys2Proof.Machine

open Sys2Proof

/-! The block base table (R25, R26). -/

/-- The page of a region offset, by the number of its 4 KiB. -/
theorem pageAt_mul (n : Nat) {po : Nat} (hpo : po < 0x1000) :
    pageAt (n * 0x1000 + po) =
      if n < 18 then (singlePages[n]?).map fun k => (⟨k, 0⟩, po)
      else if 0x100 ≤ n ∧ n < 0x140 then some (⟨.pgrp, n - 0x100⟩, po)
      else if 0x200 ≤ n ∧ n < 0x600 then some (⟨.port, n - 0x200⟩, po)
      else if 0x800 ≤ n ∧ n < 0x810 then some (⟨.mch, n - 0x800⟩, po)
      else none := by
  have hdiv : (n * 0x1000 + po) / 0x1000 = n := by omega
  have hmod : (n * 0x1000 + po) % 0x1000 = po := by omega
  simp only [pageAt, hdiv, hmod]

theorem pageAt_single {k : PageKind} {po : Nat} (hpo : po < 0x1000) (hbase : pageBase k 0 = pageNo k 0 * 0x1000)
    (hrow : singlePages[pageNo k 0]? = some k) : pageAt (pageBase k 0 + po) = some (⟨k, 0⟩, po) := by
  have hlt : pageNo k 0 < 18 := (List.getElem?_eq_some_iff.1 hrow).1
  rw [hbase, pageAt_mul _ hpo, if_pos hlt, hrow, Option.map_some]

theorem pageAt_pageBase {k : PageKind} {i po : Nat} (hi : i < instances k) (hpo : po < 0x1000) :
    pageAt (pageBase k i + po) = some (⟨k, i⟩, po) := by
  cases k
  case pgrp =>
    have hi : i < 64 := hi
    rw [show pageBase .pgrp i + po = (0x100 + i) * 0x1000 + po by simp only [pageBase]; omega, pageAt_mul _ hpo, if_neg (by omega),
      if_pos (by omega), Nat.add_sub_cancel_left]
  case port =>
    have hi : i < 1024 := hi
    rw [show pageBase .port i + po = (0x200 + i) * 0x1000 + po by simp only [pageBase]; omega, pageAt_mul _ hpo, if_neg (by omega),
      if_neg (by omega), if_pos (by omega), Nat.add_sub_cancel_left]
  case mch =>
    have hi : i < 16 := hi
    rw [show pageBase .mch i + po = (0x800 + i) * 0x1000 + po by simp only [pageBase]; omega, pageAt_mul _ hpo, if_neg (by omega),
      if_neg (by omega), if_neg (by omega), if_pos (by omega), Nat.add_sub_cancel_left]
  all_goals
    obtain rfl : i = 0 := Nat.lt_one_iff.1 hi
    exact pageAt_single hpo rfl rfl

/-- Every page lies below the windows. -/
theorem pageBase_lt {k : PageKind} {i : Nat} (hi : i < instances k) : pageBase k i + 0x1000 ≤ 0x810000 := by
  cases k <;> simp only [instances] at hi <;> simp only [pageBase] <;> omega

theorem State.access_page (s : State) {k : PageKind} {i po : Nat} (width : Nat) (data : Option Word) (hi : i < instances k)
    (hpo : po < 0x1000) : s.access (pageBase k i + po) width data = s.pageAccess k i po width data := by
  have hlt := pageBase_lt hi
  rw [State.access, if_neg (by omega), if_neg (by omega), if_neg (by omega), if_neg (by omega), pageAt_pageBase hi hpo]

theorem pageAt_outsideTable {off : Nat} (h : outsideTable off) : pageAt off = none := by
  unfold outsideTable at h
  rw [← Nat.div_add_mod' off 0x1000, pageAt_mul _ (Nat.mod_lt _ (by decide)), if_neg (by omega), if_neg (by omega), if_neg (by omega),
    if_neg (by omega)]

theorem State.access_outsideTable (s : State) {off : Nat} (width : Nat) (data : Option Word) (h : outsideTable off) :
    s.access off width data = (s.err .global 0 errUnmapped 0 off, 0) := by
  have hpage := pageAt_outsideTable h
  unfold outsideTable at h
  rw [State.access, if_neg (by omega), if_neg (by omega), if_neg (by omega), if_neg (by omega), hpage]

/-! Accesses to the register region (R26, R27). -/

theorem exec_regAccess {s : State} (a : Access) (h : s.pwr.held = false) :
    exec (.registerWrite (.reg a)) s = .next (s.regAccess a) := by
  simp only [exec, execRegisterWrite, h, Bool.false_eq_true, if_false]

/-- A read that answers 0 is put out; a write is not. -/
theorem State.regAccess_refused {s t : State} {a : Access} (h : s.access a.off a.width a.data = (t, 0)) :
    s.regAccess a = { t with outs := t.outs ++ if a.data = none then [.readData a.core 0] else [] } := by
  unfold State.regAccess
  rw [h]
  cases hd : a.data
  · rfl
  · exact (congrArg (fun l => { t with outs := l }) (List.append_nil t.outs)).symm

/-- The first error of a page, as ERR_CODE and ERR_INFO hold it, where it names no detail. -/
theorem State.err_record {s : State} {k : PageKind} {i code info : Nat} (h0 : (s.hdr k i).errCode = 0) :
    ((s.err k i code 0 info).hdr k i).errCode = BitVec.ofNat 32 code ∧ ((s.err k i code 0 info).hdr k i).errInfo = BitVec.ofNat 32 info := by
  simp only [State.hdr_err, if_pos h0, Nat.zero_mod, Nat.zero_mul, Nat.add_zero, and_self]

theorem registerAccess_pageId {s : State} (core : Nat) {k : PageKind} {i : Nat} (hh : s.pwr.held = false) (hi : i < instances k) :
    exec (.registerWrite (.reg ⟨core, pageBase k i, 4, none⟩)) s = .next (s.out (.readData core (wd (blockType k * 2 ^ 16 + i)))) := by
  have haccess : s.access (pageBase k i) 4 none = (s, wd (blockType k * 2 ^ 16 + i)) :=
    s.access_page 4 none hi (by decide : 0 < 0x1000)
  rw [exec_regAccess _ hh]
  simp only [State.regAccess, haccess]

theorem registerAccess_unmapped {s : State} (core : Nat) {off : Nat} (width : Nat) (data : Option Word) (hh : s.pwr.held = false)
    (hoff : off < 2 ^ 28) (h : outsideTable off) :
    Answers (.registerWrite (.reg ⟨core, off, width, data⟩)) s fun t =>
      t.regs = s.regs ∧ (∀ n, n ≠ 0 → smGet t.pages n {} = smGet s.pages n {}) ∧
      ((s.hdr .global 0).errCode = 0 → (t.hdr .global 0).errCode = 6#32 ∧ (t.hdr .global 0).errInfo.toNat = off) ∧
      t.outs = s.outs ++ (if data = none then [.readData core 0] else []) := by
  refine ⟨_, exec_regAccess _ hh, ?_⟩
  rw [State.regAccess_refused (s.access_outsideTable width data h)]
  refine ⟨rfl, fun n hn => State.pages_err_other s .global 0 errUnmapped 0 off n hn, fun h0 => ?_, rfl⟩
  obtain ⟨hcode, hinfo⟩ := State.err_record (s := s) (code := errUnmapped) (info := off) h0
  exact ⟨hcode, (congrArg BitVec.toNat hinfo).trans (Nat.mod_eq_of_lt (by omega))⟩

/-- An access of 8 bytes at PAGE_ID touches the 4 bytes of PAGE_ID. -/
theorem State.pageAccess_pageId_wide (s : State) (k : PageKind) (i : Nat) (data : Option Word) :
    s.pageAccess k i 0 8 data = (s.err k i errSize 0 0, 0) := by
  have hwidth : regWidth k 0 = some 4 := rfl
  have htouches : touches k 0 8 = true := List.any_eq_true.2 ⟨7, List.mem_range.2 (by decide), rfl⟩
  unfold State.pageAccess
  rw [hwidth, if_neg (by decide), if_pos htouches]

theorem registerAccess_wrongSize {s : State} (core : Nat) {k : PageKind} {i : Nat} (data : Option Word) (hh : s.pwr.held = false)
    (hi : i < instances k) :
    Answers (.registerWrite (.reg ⟨core, pageBase k i, 8, data⟩)) s fun t =>
      t.regs = s.regs ∧ ((s.hdr k i).errCode = 0 → (t.hdr k i).errCode = 5#32 ∧ (t.hdr k i).errInfo = 0) ∧
      t.outs = s.outs ++ (if data = none then [.readData core 0] else []) := by
  have haccess : s.access (pageBase k i) 8 data = (s.err k i errSize 0 0, 0) :=
    (s.access_page 8 data hi (by decide : 0 < 0x1000)).trans (s.pageAccess_pageId_wide k i data)
  refine ⟨_, exec_regAccess _ hh, ?_⟩
  rw [State.regAccess_refused haccess]
  exact ⟨rfl, fun h0 => State.err_record (s := s) (code := errSize) (info := 0) h0, rfl⟩

/-! MEM.SCRUB_CFG, a register that waits for FEAT_OK (R32). -/

/-- The row of MEM.SCRUB_CFG in the register map. -/
def scrubRow : RegRow := ⟨.mem, R.MEM_SCRUB_CFG, 1, 0, 4, .rw, 0xFFFF, 0⟩

theorem findRow_scrub : findRow .mem R.MEM_SCRUB_CFG = some (scrubRow, 0) := rfl

theorem exec_writeScrub {s : State} (core : Nat) (v : Word) (hh : s.pwr.held = false) :
    exec (.registerWrite (.reg ⟨core, pageBase .mem 0 + R.MEM_SCRUB_CFG, 4, some v⟩)) s =
      .next (s.regWriteV .mem 0 R.MEM_SCRUB_CFG v fun t w => t.setReg .mem 0 R.MEM_SCRUB_CFG w) := by
  have haccess : s.access (pageBase .mem 0 + R.MEM_SCRUB_CFG) 4 (some v) =
      (s.regWriteV .mem 0 R.MEM_SCRUB_CFG v fun t w => t.setReg .mem 0 R.MEM_SCRUB_CFG w, 0) :=
    s.access_page 4 (some v) (by decide : 0 < 1) (by decide)
  rw [exec_regAccess _ hh]
  simp only [State.regAccess, haccess]

theorem writeScrub_notReady {s : State} (core : Nat) (v : Word) (hh : s.pwr.held = false) (hok : s.featOk = false) :
    exec (.registerWrite (.reg ⟨core, pageBase .mem 0 + R.MEM_SCRUB_CFG, 4, some v⟩)) s =
      .next (s.err .global 0 errNotReady 0 (pageBase .mem 0 + R.MEM_SCRUB_CFG)) := by
  rw [exec_writeScrub core v hh, State.regWriteV, findRow_scrub]
  exact congrArg _ (State.guarded_notReady s .mem 0 R.MEM_SCRUB_CFG .rw 0 _ hh hok rfl rfl)

theorem writeScrub_sets {s : State} (core : Nat) (v : Word) (hh : s.pwr.held = false) (hok : s.featOk = true) :
    Answers (.registerWrite (.reg ⟨core, pageBase .mem 0 + R.MEM_SCRUB_CFG, 4, some v⟩)) s fun t =>
      t.reg .mem 0 R.MEM_SCRUB_CFG = v &&& 0xFFFF#64 ∧ OnlyReg .mem 0 R.MEM_SCRUB_CFG s t := by
  refine ⟨_, exec_writeScrub core v hh, ?_⟩
  rw [State.regWriteV_opens findRow_scrub ⟨hh, .inl hok, .inl rfl⟩]
  exact ⟨State.reg_setReg _ _ _ _ _, rfl, fun a ha => State.find_setReg_other _ _ _ _ _ _ ha⟩

/-! Memory in which no error stands (R202, R204). -/

theorem length_leBytes (n v : Nat) : (leBytes n v).length = n := by
  induction n generalizing v with
  | zero => rfl
  | succ n ih => simp [leBytes, ih]

section Sound

variable {s : State} (he : s.errs = [])

include he

theorem State.eccTake_sound (found : Nat × EccKind → Bool) : s.eccTake found = s := by
  simp only [State.eccTake, he, List.filter_nil, List.foldl_nil]
  rw [← he]

theorem State.store_sound (a : Nat) (bs : List Byte) : s.store a bs = s.writeMem a bs := by
  have hlost : s.linkLost a bs.length = [] := by rw [State.linkLost, he]; rfl
  simp only [State.store, State.linkTake, State.eccTake_sound he, hlost, State.blur, List.isEmpty_nil, if_true]

theorem State.writeMem_sound (a : Nat) (bs : List Byte) : let t := s.writeMem a bs
    t = { s with mem := t.mem, poison := t.poison, resv := t.resv } := by
  have herrs : (s.writeMem a bs).errs = s.errs := by rw [State.writeMem, he]; rfl
  exact (congrArg (fun l => { s.writeMem a bs with errs := l }) herrs)

theorem State.coreRead_sound {a n : Nat} (hp : s.poisoned a n = false) (core : Nat) (f : State → Nat → State) :
    s.coreRead core a n f = f s (ofLe (s.readMem a n)) := by
  have hfails : s.readFails a n = false := by rw [State.readFails, hp, he]; rfl
  simp only [State.coreRead, State.eccRead, State.eccTake_sound he, hfails, Bool.false_eq_true, if_false]

end Sound

theorem State.readMem_writeMem {s : State} (hm : s.memSafe) (a : Nat) (bs : List Byte) :
    (s.writeMem a bs).readMem a bs.length = bs := by
  refine List.ext_getElem (by simp [State.readMem]) fun i h1 h2 => ?_
  have hbyte : (s.writeMem a bs).readByte (a + i) = nth bs i 0 := memByte_memWriteBytes bs s.mem a i hm h2
  simp only [State.readMem, List.getElem_map, List.getElem_range, hbyte, nth, List.getElem?_eq_getElem h2, Option.getD_some]

/-- A store of n bytes writes them, and no others, and leaves all but memory and what memory ends with it. -/
theorem State.store_writes {s : State} (hm : s.memSafe) (he : s.errs = []) (a n v : Nat) : let t := s.store a (leBytes n v)
    t.readMem a n = leBytes n v ∧ (∀ b, b < a ∨ a + n ≤ b → t.readByte b = s.readByte b) ∧
    t = { s with mem := t.mem, poison := t.poison, resv := t.resv } := by
  have hlen := length_leBytes n v
  rw [State.store_sound he]
  refine ⟨?_, fun b hb => ?_, State.writeMem_sound he a _⟩
  · have hread := State.readMem_writeMem hm a (leBytes n v)
    rwa [hlen] at hread
  · exact memByte_memWriteBytes_other _ _ _ _ (by rwa [hlen])

theorem exec_coreAccess {s : State} (core a n : Nat) (op : MemOp) (hh : s.pwr.held = false) :
    exec (.registerWrite (.mem core a n op)) s = .next (s.coreAccess core a n op) := by
  simp only [exec, execRegisterWrite, hh, Bool.false_eq_true, if_false]

theorem exec_coreMem {s : State} (core : Nat) {a n : Nat} (op : MemOp) (hh : s.pwr.held = false) (hin : s.inMap a n = true) :
    exec (.registerWrite (.mem core a n op)) s = .next (s.coreMem core a n op) := by
  rw [exec_coreAccess core a n op hh]
  unfold State.coreAccess
  rw [if_pos hin]

theorem memStaging_of_inStaging {a n : Nat} (h : inStaging a n = true) (hn : 0 < n) : memStaging a = true := by
  simp only [inStaging, memStaging, decide_eq_true_eq] at *
  omega

/-- LR and SC of staging memory fault in the core (table of R321). -/
theorem exec_reserve_staging {s : State} (core : Nat) {a n : Nat} (v : Word) (hh : s.pwr.held = false) (hin : inStaging a n = true)
    (hn : 0 < n) :
    exec (.registerWrite (.mem core a n .lr)) s = .next (s.out (.accessFault core)) ∧
    exec (.registerWrite (.mem core a n (.sc v))) s = .next (s.out (.accessFault core)) := by
  have hmap : s.inMap a n = true := by rw [State.inMap, hin]; rfl
  have hst := memStaging_of_inStaging hin hn
  refine ⟨?_, ?_⟩
  · rw [exec_coreMem core .lr hh hmap]; simp only [State.coreMem, hst, if_true]; rfl
  · rw [exec_coreMem core (.sc v) hh hmap]; simp only [State.coreMem, hst, if_true]; rfl

/-- Settles O13: an access to the register region by the page that it finds, an access to memory by `State.store_writes`. -/
theorem registerAccessesDecodeAndWait : Obligations.RegisterAccessesDecodeAndWait := by
  refine ⟨fun s core k i hh hi => registerAccess_pageId core hh hi,
    fun s core off width data hh hoff h => registerAccess_unmapped core width data hh hoff h,
    fun s core k i data hh hi => registerAccess_wrongSize core data hh hi, fun s core v hh hok => writeScrub_notReady core v hh hok,
    fun s core v hh hok => writeScrub_sets core v hh hok, fun s core a n hh hin he hp => ?load, fun s core a n v hh hm hin he => ?store,
    fun s core a n op v hh hm hin he hp => ?amo, fun s core a n v hh hin hn => exec_reserve_staging core v hh hin hn,
    fun s core a n op hh hmap hregs hrom => ?outside⟩
  case load =>
    rw [exec_coreMem core .load hh hin]
    simp only [State.coreMem, State.coreRead_sound he hp]
  case store => exact ⟨_, exec_coreMem core (.store v) hh hin, State.store_writes hm he a n v.toNat⟩
  case amo =>
    intro old
    refine ⟨_, exec_coreMem core (.amo op v) hh hin, ?_⟩
    simp only [State.coreMem, State.coreRead_sound he hp]
    obtain ⟨hread, hother, heq⟩ := State.store_writes hm he a n (amoValue op n old v.toNat)
    exact ⟨hread, hother, congrArg (fun t : State => t.out (.readData core (wd old))) heq⟩
  case outside =>
    rw [exec_coreAccess core a n op hh]
    unfold State.coreAccess
    rw [hmap, hregs, hrom]
    rfl

end Sys2Proof.Machine
end

section
/-! SUPPORT. Civil time: STEP, INVALIDATE, the write of CIVIL_RATE and the refusals of their values (R67 to R69, R72). -/

namespace Sys2Proof.Machine

open Sys2Proof

/-! Words that a register of 32 bits takes. -/

theorem sext_toNat (w : BitVec 32) : sext 32 w.toNat = w.toInt := by
  have := w.isLt
  simp only [sext, BitVec.toInt_eq_toNat_cond]
  split <;> split <;> omega

theorem fld_wd32 (w : BitVec 32) : fld (wd w.toNat) 31 0 = w.toNat := by
  have := w.isLt
  rw [fld_wd (by omega)]
  omega

theorem fld_and_mask32 (w : BitVec 32) : fld (wd w.toNat &&& wd 0xFFFFFFFF) 31 0 = w.toNat :=
  (fld_and_mask (wd w.toNat) 31 (by decide)).trans (fld_wd32 w)

/-! PPS_OUT (R72). -/

/-- PPS_OUT reports a change of its level, and nothing where it stands there already. -/
theorem State.setPps_eq (s : State) (level : Bool) : s.setPps level =
    { s with time := { s.time with ppsOut := level }, outs := s.outs ++ if s.time.ppsOut = level then [] else [.ppsOut level] } := by
  unfold State.setPps
  split
  · next h => subst h; simp
  · next h => rfl

/-! STEP and INVALIDATE (R68). -/

theorem exec_civilStep {s : State} (h : s.opens .time R.TIME_CIVIL_CTRL 23) : exec .civilStep s = .next s.civilStep :=
  congrArg Host.Outcome.next (State.regWrite_opens (r := ⟨.time, R.TIME_CIVIL_CTRL, 1, 0, 4, .rw, 0x7, 23⟩) (j := 0) rfl h)

theorem exec_civilInvalidate {s : State} (h : s.opens .time R.TIME_CIVIL_CTRL 23) :
    exec .civilInvalidate s = .next s.civilInvalidate :=
  congrArg Host.Outcome.next (State.regWrite_opens (r := ⟨.time, R.TIME_CIVIL_CTRL, 1, 0, 4, .rw, 0x7, 23⟩) (j := 0) rfl h)

theorem State.civilStep_invalid {s : State} (h : s.time.civValid = false) : s.civilStep = { s with time := { s.time with
    civSec := fld (s.reg .time 0 R.TIME_CIVIL_SET_SEC) 47 0, civW := fld (s.reg .time 0 R.TIME_CIVIL_SET_NS) 29 0 * wNs,
    civAt := s.time.now, civValid := true, civBefore := s.civilStep.time.civBefore } } := by
  unfold State.civilStep
  rw [h, if_neg Bool.false_ne_true]
  rfl

theorem State.civilStep_valid {s : State} (h : s.time.civValid = true) :
    s.civilStep = s.err .time 0 0x0100 0 R.TIME_CIVIL_CTRL := if_pos h

/-- Once civil time is invalid, PPS_OUT is held low in modes 0 and 1 (R72). -/
theorem State.civilInvalidate_eq (s : State) : let m := s.regF .mgmt 0 R.MGMT_PPS_OUT_CTRL 1 0
    s.civilInvalidate = { s with
      time := { s.time with civValid := false, ppsOut := if m = 0 ∨ m = 1 then false else s.time.ppsOut }
      outs := s.outs ++ (if (m = 0 ∨ m = 1) ∧ s.time.ppsOut = true then [.ppsOut false] else []) } := by
  intro m
  have hold : s.civilInvalidate = if m = 0 ∨ m = 1 then (s.modTime fun t => { t with civValid := false }).setPps false
      else s.modTime fun t => { t with civValid := false } := by
    simp only [State.civilInvalidate, State.holdPps, State.modTime, Bool.not_false, and_true]
    rfl
  rw [hold]
  by_cases hm : m = 0 ∨ m = 1
  · rw [if_pos hm, State.setPps_eq]
    cases hp : s.time.ppsOut <;> simp [hm, hp, State.modTime]
  · simp [hm, State.modTime]

/-! CIVIL_SET_NS (R68). -/

theorem writeCivilSetNs_refused {s : State} (core : Nat) {v : Word} (ho : s.opens .time R.TIME_CIVIL_SET_NS 23)
    (hv : 1000000000 ≤ fld v 29 0) :
    exec (.registerWrite (.reg ⟨core, pageBase .time 0 + R.TIME_CIVIL_SET_NS, 4, some v⟩)) s =
      .next (s.err .time 0 0x0007 0 R.TIME_CIVIL_SET_NS) := by
  have haccess : s.access (pageBase .time 0 + R.TIME_CIVIL_SET_NS) 4 (some v) =
      (s.regWriteV .time 0 R.TIME_CIVIL_SET_NS v fun t w => t.writeBlock .time 0 R.TIME_CIVIL_SET_NS w, 0) :=
    s.access_page 4 (some v) (by decide : 0 < 1) (by decide)
  have hfld : fld (v &&& wd 0x3FFFFFFF) 29 0 = fld v 29 0 := fld_and_mask v 29 (by decide)
  have hwrite : s.writeBlock .time 0 R.TIME_CIVIL_SET_NS (v &&& wd 0x3FFFFFFF) = s.err .time 0 0x0007 0 R.TIME_CIVIL_SET_NS := by
    have hns : R.TIME_CIVIL_SET_NS = R.TIME_CIVIL_SET_NS ∧ 1000000000 ≤ fld (v &&& wd 0x3FFFFFFF) 29 0 := ⟨rfl, hfld.symm ▸ hv⟩
    exact if_pos hns
  rw [exec_regAccess _ ho.1]
  simp only [State.regAccess, haccess]
  rw [State.regWriteV_opens (r := ⟨.time, R.TIME_CIVIL_SET_NS, 1, 0, 4, .rw, 0x3FFFFFFF, 23⟩) (j := 0) rfl ho, hwrite]

/-! CIVIL_RATE (R69). -/

theorem exec_civilRateWrite {s : State} (rate : BitVec 32) (h : s.opens .time R.TIME_CIVIL_RATE 23) :
    exec (.civilRateWrite rate) s = .next (if 500000 < rate.toInt.natAbs then s.err .time 0 0x0101 0 R.TIME_CIVIL_RATE
      else s.keepCivil.rebaseCivil.setReg .time 0 R.TIME_CIVIL_RATE (wd rate.toNat)) := by
  have hwrite : exec (.civilRateWrite rate) s = .next (s.writeCivilRate (wd rate.toNat &&& wd 0xFFFFFFFF)) :=
    congrArg Host.Outcome.next
      (State.regWriteV_opens (r := ⟨.time, R.TIME_CIVIL_RATE, 1, 0, 4, .rw, 0xFFFFFFFF, 23⟩) (j := 0) rfl h)
  rw [hwrite]
  simp only [State.writeCivilRate, fld_and_mask32, sext_toNat]

theorem CivBase.civil_lt (b : CivBase) (at_ : Nat) : (b.civil at_).1 < 2 ^ 48 ∧ (b.civil at_).2 < wSec :=
  ⟨Nat.mod_lt _ (by decide), Nat.mod_lt _ (by decide)⟩

/-- At the instant of its base, civil time reads the base. -/
theorem CivBase.civil_base {b : CivBase} (hs : b.sec < 2 ^ 48) (hw : b.w < wSec) : b.civil b.at_ = (b.sec, b.w) := by
  simpa [CivBase.civil, Nat.div_eq_of_lt hw, Nat.mod_eq_of_lt hw] using hs

/-- Civil time runs on from where it stands, whatever its rate becomes. -/
theorem State.civil_rebase (s : State) (w : Word) : let t := s.keepCivil.rebaseCivil.setReg .time 0 R.TIME_CIVIL_RATE w
    t.civil t.time.now = s.civil s.time.now := by
  intro t
  obtain ⟨hs, hw⟩ := s.civBase.civil_lt s.time.now
  exact CivBase.civil_base (b := t.civBase) hs hw

theorem State.civilRate_setReg (s : State) (rate : BitVec 32) :
    (s.setReg .time 0 R.TIME_CIVIL_RATE (wd rate.toNat)).civilRate = rate.toInt := by
  simp only [State.civilRate, State.regF, State.reg_setReg, fld_wd32, sext_toNat]

/-- Settles O18: a write that its guard lets through acts as `State.civilStep`, `State.civilInvalidate` and `exec_civilRateWrite` say. -/
theorem civilTimeStepsAndSlews : Obligations.CivilTimeStepsAndSlews := by
  refine ⟨fun s ho hv => ⟨_, exec_civilStep ho, State.civilStep_invalid hv⟩, fun s core v ho _ hns => writeCivilSetNs_refused core ho hns,
    fun s ho hv => ?_, fun s ho => ?_, fun s rate ho hr => ⟨_, exec_civilRateWrite rate ho, ?_⟩, fun s rate ho hr => ?_⟩
  · rw [exec_civilStep ho, State.civilStep_valid hv]
  · rw [exec_civilInvalidate ho, State.civilInvalidate_eq]
  · rw [if_neg (Nat.not_lt.2 hr)]
    exact ⟨State.civilRate_setReg _ _, s.civil_rebase _, rfl, rfl, rfl, fun a ha => State.find_setReg_other _ _ _ _ _ _ ha⟩
  · rw [exec_civilRateWrite rate ho, if_pos hr]

end Sys2Proof.Machine
end

section
/-! SUPPORT. The reads of the TIME page that latch, the PPS pins, and diagnostic capture with the timestamp queue that it owns (R43, R44,
R71 to R73, R76). -/

namespace Sys2Proof.Machine

open Sys2Proof

/-! Reads that latch (R73, R76). -/

/-- A read of a register of no feature, or of an accepted one, acts. -/
theorem State.regRead_acts {s : State} {k : PageKind} {po j : Nat} {f : State → State} {r : RegRow} (hr : findRow k po = some (r, j))
    (hh : s.pwr.held = false) (hf : r.feat = 0 ∨ s.feat r.feat = true) : s.regRead k po f = f s := by
  have hfeat : (decide (r.feat ≠ 0) && !s.feat r.feat) = false := by rcases hf with h | h <;> simp [h]
  simp only [State.regRead, hr, hh, hfeat, Bool.false_eq_true, if_false]

theorem exec_nowNsRead {s : State} (hh : s.pwr.held = false) :
    exec .nowNsRead s = .next (s.readNow.1.out (.readData 0 s.readNow.2)) :=
  congrArg Host.Outcome.next (State.regRead_acts (r := ⟨.time, R.TIME_NOW_NS, 1, 0, 8, .ro, 0, 0⟩) (j := 0) rfl hh (.inl rfl))

theorem exec_civilSecRead {s : State} (hh : s.pwr.held = false) (hf : s.feat 23 = true) :
    exec .civilSecRead s = .next (s.readCivilSec.1.out (.readData 0 s.readCivilSec.2)) :=
  congrArg Host.Outcome.next (State.regRead_acts (r := ⟨.time, R.TIME_CIVIL_SEC, 1, 0, 8, .ro, 0, 23⟩) (j := 0) rfl hh (.inr hf))

theorem exec_pairCycleRead {s : State} (hh : s.pwr.held = false) (hf : s.feat 23 = true) :
    exec .pairCycleRead s = .next (s.readPairCycle.1.out (.readData 0 s.readPairCycle.2)) :=
  congrArg Host.Outcome.next (State.regRead_acts (r := ⟨.time, R.TIME_PAIR_CYCLE, 1, 0, 8, .ro, 0, 23⟩) (j := 0) rfl hh (.inr hf))

theorem exec_diagTsPop {s : State} (hh : s.pwr.held = false) :
    exec .diagTsPop s = .next (s.popDiag.1.out (.readData 0 s.popDiag.2)) :=
  congrArg Host.Outcome.next (State.regRead_acts (r := ⟨.time, R.TIME_DIAG_TS_POP, 1, 0, 8, .ro, 0, 0⟩) (j := 0) rfl hh (.inl rfl))

theorem State.popDiag_some {s : State} {w : Word} {rest : List Word} (hon : s.regF .time 0 R.TIME_DIAG_TS_CTRL 0 0 = 1)
    (hq : (smGet s.groups (s.regF .time 0 R.TIME_DIAG_TS_CTRL 25 16 / 16) {}).diag = w :: rest) :
    s.popDiag = ({ s with groups := smMod s.groups (s.regF .time 0 R.TIME_DIAG_TS_CTRL 25 16 / 16) {} fun x => { x with diag := rest } },
      w) := by
  unfold State.popDiag
  dsimp only
  rw [hon, if_neg (by decide), hq]

/-! PPS_IN (R71). -/

theorem exec_ppsInEdge {s : State} (rising : Bool) (hf : s.feat 23 = true) (hon : bit (s.reg .mgmt 0 R.MGMT_PPS_IN_CTRL) 0 = true) :
    exec (.ppsInEdge rising) s = .next (if rising = !bit (s.reg .mgmt 0 R.MGMT_PPS_IN_CTRL) 1 then { s with
      time := { s.time with ppsInNs := s.nowNs, ppsInSeq := (s.time.ppsInSeq + 1) % 2 ^ 32 } } else s) := by
  simp only [exec, execPpsInEdge, hf, hon, Bool.and_self, Bool.true_and, beq_iff_eq]
  split <;> rfl

/-! PPS_OUT (R72). -/

/-- The next period instant is a multiple of the period, at or after the instant it is sought from. -/
theorem State.nextPeriodFab_spec (s : State) (f : Nat) (hper : 0 < s.ppsPeriod) :
    s.nextPeriodFab f % s.ppsPeriod = 0 ∧ f ≤ s.nextPeriodFab f := by
  have hceil : f ≤ cdiv f s.ppsPeriod * s.ppsPeriod := by
    have := Nat.lt_div_mul_add (a := f + s.ppsPeriod - 1) hper
    simp only [cdiv]
    omega
  unfold State.nextPeriodFab
  dsimp only
  split
  · next l _ =>
    have hafter : l ≤ (l / s.ppsPeriod + 1) * s.ppsPeriod := by
      have := Nat.lt_div_mul_add (a := l) hper
      rw [Nat.add_mul]
      omega
    split
    · exact ⟨Nat.mul_mod_left _ _, by omega⟩
    · exact ⟨Nat.mul_mod_left _ _, hceil⟩
  · exact ⟨Nat.mul_mod_left _ _, hceil⟩

/-- A fabric instant at or after now is reached by letting the clock run to it. -/
theorem State.fab_unfab {s : State} {f : Nat} (hf : s.fab s.time.now ≤ f) : s.fab (max s.time.now (s.unfab f)) = f := by
  unfold State.fab State.unfab at *
  omega

theorem exec_ppsOutEdge_civil {s : State} (hf : s.feat 23 = true) (hm : s.regF .mgmt 0 R.MGMT_PPS_OUT_CTRL 1 0 = 1)
    (hv : s.time.civValid = true) :
    exec .ppsOutEdge s = .next (((s.atLeast s.nextSecond).modTime fun t => { t with ppsRise := t.now }).setPps true) := by
  simp only [exec, execPpsOutEdge, hf, hm, hv, Bool.not_true, Bool.false_eq_true, if_false, and_self, if_true]

theorem exec_ppsOutEdge_fabric {s : State} (hf : s.feat 23 = true) (hm : s.regF .mgmt 0 R.MGMT_PPS_OUT_CTRL 1 0 = 2) :
    exec .ppsOutEdge s = .next ((s.atLeast (s.unfab (s.nextPeriodFab (s.fab s.time.now)))).ppsRises
      (s.nextPeriodFab (s.fab s.time.now))) := by
  simp [exec, execPpsOutEdge, hf, hm]

/-- PPS_OUT rises at an instant: its level was low, and the instant is kept as that of the rise. -/
theorem State.setPps_rise {s : State} (w : Nat) {f : TimeSt → TimeSt} (hlow : s.time.ppsOut = false)
    (hf : ∀ t, (f t).ppsOut = t.ppsOut ∧ (f t).ppsRise = t.now ∧ (f t).now = t.now ∧ (f t).fabOff = t.fabOff) :
    let t := ((s.atLeast w).modTime f).setPps true
    t.time.ppsOut = true ∧ t.time.ppsRise = t.time.now ∧ t.time.now = max s.time.now w ∧ t.time.fabOff = s.time.fabOff ∧
    t.outs = s.outs ++ [.ppsOut true] := by
  obtain ⟨hout, hrise, hnow, hoff⟩ := hf (s.atLeast w).time
  have hlow' : (f (s.atLeast w).time).ppsOut = false := hout.trans hlow
  simp only [State.setPps_eq, State.modTime, hlow', hrise, hnow, hoff]
  exact ⟨trivial, trivial, State.atLeast_now s w, rfl, rfl⟩

theorem ppsOutEdge_rises (s : State) (hf : s.feat 23 = true) (hlow : s.time.ppsOut = false)
    (hmode : s.regF .mgmt 0 R.MGMT_PPS_OUT_CTRL 1 0 = 1 ∧ s.time.civValid = true ∨
      s.regF .mgmt 0 R.MGMT_PPS_OUT_CTRL 1 0 = 2 ∧ 0 < (s.reg .mgmt 0 R.MGMT_PPS_OUT_PERIOD).toNat) :
    Answers .ppsOutEdge s fun t => t.time.ppsOut = true ∧ t.time.ppsRise = t.time.now ∧ s.time.now ≤ t.time.now ∧
      t.outs = s.outs ++ [.ppsOut true] ∧
      (s.regF .mgmt 0 R.MGMT_PPS_OUT_CTRL 1 0 = 2 →
        t.fab t.time.now % ((s.reg .mgmt 0 R.MGMT_PPS_OUT_PERIOD).toNat * wNs) = 0) := by
  rcases hmode with ⟨hm, hv⟩ | ⟨hm, hper⟩
  · obtain ⟨hout, hrise, hnow, _, houts⟩ :=
      State.setPps_rise (f := fun t => { t with ppsRise := t.now }) s.nextSecond hlow fun _ => ⟨rfl, rfl, rfl, rfl⟩
    exact ⟨_, exec_ppsOutEdge_civil hf hm hv, hout, hrise, hnow ▸ Nat.le_max_left _ _, houts, fun h => by omega⟩
  · obtain ⟨hmul, hle⟩ := s.nextPeriodFab_spec (s.fab s.time.now) (Nat.mul_pos hper (by decide))
    obtain ⟨hout, hrise, hnow, hoff, houts⟩ := State.setPps_rise
      (f := fun t => { t with ppsRise := t.now, ppsLast := some (s.nextPeriodFab (s.fab s.time.now)) })
      (s.unfab (s.nextPeriodFab (s.fab s.time.now))) hlow fun _ => ⟨rfl, rfl, rfl, rfl⟩
    refine ⟨_, exec_ppsOutEdge_fabric hf hm, hout, hrise, hnow ▸ Nat.le_max_left _ _, houts, fun _ => ?_⟩
    rw [State.fab, State.ppsRises, hnow, hoff]
    exact (congrArg (· % s.ppsPeriod) (State.fab_unfab hle)).trans hmul

theorem State.atLeast_eq (s : State) (w : Nat) : s.atLeast w = { s with time := { s.time with now := max s.time.now w } } := by
  rw [← State.atLeast_time]
  rfl

theorem exec_ppsOutWidthEnd {s : State} (h : s.time.ppsOut = true) :
    exec .ppsOutWidthEnd s = .next { s with
      time := { s.time with
        now := max s.time.now (s.time.ppsRise + s.regF .mgmt 0 R.MGMT_PPS_OUT_CTRL 23 4 * wUs), ppsOut := false }
      outs := s.outs ++ [.ppsOut false] } := by
  simp only [exec, execPpsOutWidthEnd, h, if_true]
  generalize s.time.ppsRise + s.regF .mgmt 0 R.MGMT_PPS_OUT_CTRL 23 4 * wUs = w
  rw [State.setPps_eq, State.atLeast_eq, h]
  rfl

/-- Settles O19: each read by what it latches, the rise of PPS_OUT by `ppsOutEdge_rises`. -/
theorem timeReadsLatchAndPpsPulses : Obligations.TimeReadsLatchAndPpsPulses := by
  refine ⟨fun s hh => exec_nowNsRead hh, fun s hh hf => exec_civilSecRead hh hf, fun s hh hf => exec_pairCycleRead hh hf,
    fun s w rest hh hon => ?_, fun s rising hf hon => exec_ppsInEdge rising hf hon,
    fun s hf hlow hmode => ppsOutEdge_rises s hf hlow hmode, fun s h => exec_ppsOutWidthEnd h⟩
  intro g hq
  refine ⟨_, exec_diagTsPop hh, ?_⟩
  rw [State.popDiag_some hon hq]
  refine ⟨rfl, ?_, rfl⟩
  rw [State.out_groups, smGet_smMod_same]

/-! Diagnostic capture (R43, R44, R76). -/

theorem exec_diagTsEnable {s : State} (ctrl : BitVec 32) (ho : s.opens .time R.TIME_DIAG_TS_CTRL 0) :
    exec (.diagTsEnable ctrl) s = .next (s.writeDiag (wd ctrl.toNat &&& 0xFFFF0001#64)) :=
  congrArg Host.Outcome.next (State.regWriteV_opens (r := ⟨.time, R.TIME_DIAG_TS_CTRL, 1, 0, 4, .rw, 0xFFFF0001, 0⟩) (j := 0) rfl ho)

/-- The queue of a group names the group's owner. -/
theorem State.ownerOf_resTsq (s : State) {g : Nat} (hg : g < 0x1000) : s.ownerOf (resTsq g) = (smGet s.groups g {}).owner := by
  have hdiv : resTsq g / 0x1000 = 3 := by simp only [resTsq]; omega
  have hmod : resTsq g % 0x1000 = g := by simp only [resTsq]; omega
  simp only [State.ownerOf, hdiv, hmod]

theorem State.setOwner_resTsq (s : State) (o : Nat) {g : Nat} (hg : g < 0x1000) :
    s.setOwner (resTsq g) o = { s with groups := smMod s.groups g {} fun x => { x with owner := o } } := by
  have hdiv : resTsq g / 0x1000 = 3 := by simp only [resTsq]; omega
  have hmod : resTsq g % 0x1000 = g := by simp only [resTsq]; omega
  simp only [State.setOwner, hdiv, hmod]

/-- The bits of a written word that DIAG_TS_CTRL takes: ENABLE and PORT are among them. -/
def diagWord (ctrl : BitVec 32) : Word := wd ctrl.toNat &&& 0xFFFF0001#64

theorem bit_diagWord (ctrl : BitVec 32) : bit (diagWord ctrl) 0 = ctrl.getLsbD 0 := by
  have hlt := ctrl.isLt
  have hwd : (wd ctrl.toNat).toNat = ctrl.toNat := Nat.mod_eq_of_lt (by omega)
  simp only [bit, diagWord, BitVec.toNat_and, hwd, Nat.testBit_and]
  exact Bool.and_true _

theorem fld_diagWord (ctrl : BitVec 32) : fld (diagWord ctrl) 25 16 = fld (wd ctrl.toNat) 25 16 := by
  have hmask : (0xFFFF0001#64).toNat >>> 16 = 2 ^ 16 - 1 := by decide
  simp only [fld, bitsOf, diagWord, BitVec.toNat_and, ← Nat.shiftRight_eq_div_pow, Nat.shiftRight_and_distrib, hmask,
    Nat.and_two_pow_sub_one_eq_mod]
  omega

/-- ENABLE takes the queue of the port's group, free or held by diagnostic capture already. -/
theorem State.writeDiag_takes {s : State} {v : Word} (hoff : bit (s.reg .time 0 R.TIME_DIAG_TS_CTRL) 0 = false)
    (hon : bit v 0 = true) (hfree : s.ownerOf (resTsq (fld v 25 16 / 16)) = 0 ∨
      s.ownerOf (resTsq (fld v 25 16 / 16)) = ownerDiag (fld v 25 16 / 16)) :
    s.writeDiag v = (s.setOwner (resTsq (fld v 25 16 / 16)) (ownerDiag (fld v 25 16 / 16))).setReg .time 0 R.TIME_DIAG_TS_CTRL v := by
  have hblocked : s.blocked (ownerDiag (fld v 25 16 / 16)) [resTsq (fld v 25 16 / 16)] = none := by
    rcases hfree with h | h <;> simp [State.blocked, h]
  unfold State.writeDiag
  simp only [hoff, hon, hblocked, Bool.false_and, Bool.false_eq_true, if_false, Bool.not_false, Bool.true_and, if_true]
  rfl

/-- Another owner's queue refuses ENABLE (R44). -/
theorem State.writeDiag_refused {s : State} {v : Word} (hoff : bit (s.reg .time 0 R.TIME_DIAG_TS_CTRL) 0 = false)
    (hon : bit v 0 = true) (h0 : s.ownerOf (resTsq (fld v 25 16 / 16)) ≠ 0)
    (hd : s.ownerOf (resTsq (fld v 25 16 / 16)) ≠ ownerDiag (fld v 25 16 / 16)) :
    s.writeDiag v = (s.refuseOwned .time 0 (resTsq (fld v 25 16 / 16)) (s.ownerOf (resTsq (fld v 25 16 / 16)))).setReg .time 0
      R.TIME_DIAG_TS_CTRL (setBit v 0 false) := by
  have hblocked : s.blocked (ownerDiag (fld v 25 16 / 16)) [resTsq (fld v 25 16 / 16)] = some (resTsq (fld v 25 16 / 16)) := by
    simp [State.blocked, h0, hd]
  unfold State.writeDiag
  simp only [hoff, hon, hblocked, Bool.false_and, Bool.false_eq_true, if_false, Bool.not_false, Bool.true_and, if_true]

/-- The queue of a group with nothing in it. -/
def State.emptyQueue (s : State) (g : Nat) : State := { s with groups := smMod s.groups g {} fun x => { x with diag := [] } }

/-- A queue that its owner releases is free, and holds what it held. -/
theorem State.release_resTsq {s : State} {g o : Nat} (hg : g < 0x1000) (h : s.ownerOf (resTsq g) = o) :
    (s.release o [resTsq g]).ownerOf (resTsq g) = 0 ∧
    (smGet (s.release o [resTsq g]).groups g {}).diag = (smGet s.groups g {}).diag := by
  have hset : s.release o [resTsq g] = s.setOwner (resTsq g) 0 := if_pos h
  rw [hset, State.ownerOf_resTsq _ hg, State.setOwner_resTsq _ _ hg]
  simp only [smGet_smMod_same, and_self]

/-- Clearing ENABLE drops what the queue held and releases it. -/
theorem State.writeDiag_releases {s : State} {v : Word} (hon : bit (s.reg .time 0 R.TIME_DIAG_TS_CTRL) 0 = true)
    (hoff : bit v 0 = false) (hsame : fld v 31 16 = fld (s.reg .time 0 R.TIME_DIAG_TS_CTRL) 31 16) :
    s.writeDiag v = ((s.emptyQueue (fld v 25 16 / 16)).release (ownerDiag (fld v 25 16 / 16))
      [resTsq (fld v 25 16 / 16)]).setReg .time 0 R.TIME_DIAG_TS_CTRL v := by
  have hport : fld (s.reg .time 0 R.TIME_DIAG_TS_CTRL) 25 16 = fld v 25 16 := by simp only [fld, bitsOf] at *; omega
  have hmask : fld (s.reg .time 0 R.TIME_DIAG_TS_CTRL) 31 24 = fld v 31 24 := by simp only [fld, bitsOf] at *; omega
  unfold State.writeDiag
  simp [hon, hoff, hport, hmask, State.emptyQueue]

theorem fld_port_lt (w : Word) : fld w 25 16 / 16 < 0x1000 := by
  have := fld_lt w 25 16
  omega

/-- ERR_CODE, ERR_INFO and the causes of an enable that another owner refuses. -/
theorem State.refuseOwned_record (s : State) (k : PageKind) (i resource holder : Nat) :
    ((s.refuseOwned k i resource holder).hdr k i).intCause.getLsbD 1 = true ∧
    ((s.hdr k i).errCode = 0 → resource < 2 ^ 16 →
      ((s.refuseOwned k i resource holder).hdr k i).errCode.toNat = 1 + resource * 2 ^ 16 ∧
      ((s.refuseOwned k i resource holder).hdr k i).errInfo = BitVec.ofNat 32 holder) := by
  refine ⟨State.cause_getLsbD _ k i 1 (by decide), fun h0 hr => ?_⟩
  simp only [State.refuseOwned, State.hdr_cause, State.hdr_err, if_pos h0, BitVec.toNat_ofNat]
  exact ⟨by omega, trivial⟩

theorem bit_setBit_false (w : Word) : bit (setBit w 0 false) 0 = false := by
  have := w.isLt
  simp only [bit, setBit, setFld, wd, BitVec.toNat_ofNat, fld, bitsOf, b2n, Nat.testBit_zero]
  simp
  omega

/-- Settles O20: a write of DIAG_TS_CTRL by `State.writeDiag_takes`, `State.writeDiag_refused` and `State.writeDiag_releases`. -/
theorem diagnosticCaptureOwnsItsQueue : Obligations.DiagnosticCaptureOwnsItsQueue := by
  intro s ctrl ho v g old
  have hexec := exec_diagTsEnable ctrl ho
  have hv : fld v 25 16 / 16 = g := congrArg (· / 16) (fld_diagWord ctrl)
  have hg : g < 0x1000 := fld_port_lt _
  have hbit : bit v 0 = ctrl.getLsbD 0 := bit_diagWord ctrl
  refine ⟨fun hoff hon hfree => ⟨_, hexec, ?takes⟩, fun hoff hon h0 hd => ⟨_, hexec, ?refused⟩, fun hon hoff hsame hown => ⟨_, hexec, ?releases⟩⟩
  case takes =>
    rw [State.writeDiag_takes hoff (hbit.trans hon) (by rwa [hv]), hv]
    refine ⟨?_, State.reg_setReg _ _ _ _ _⟩
    rw [State.ownerOf_resTsq _ hg, State.setReg_groups, State.setOwner_resTsq _ _ hg, smGet_smMod_same]
  case refused =>
    rw [State.writeDiag_refused hoff (hbit.trans hon) (by rwa [hv]) (by rwa [hv]), hv]
    obtain ⟨hcause, herr⟩ := s.refuseOwned_record .time 0 (resTsq g) (s.ownerOf (resTsq g))
    refine ⟨rfl, ?_, hcause, fun h0 => herr h0 (by simp only [resTsq]; omega)⟩
    rw [State.reg_setReg]
    exact bit_setBit_false v
  case releases =>
    rw [State.writeDiag_releases hon (hbit.trans hoff) hsame, hv]
    have hheld : (s.emptyQueue g).ownerOf (resTsq g) = ownerDiag g := by
      rw [State.ownerOf_resTsq _ hg] at hown ⊢
      rw [State.emptyQueue, smGet_smMod_same, hown]
    obtain ⟨hfree, hdiag⟩ := State.release_resTsq hg hheld
    refine ⟨hfree, hdiag.trans ?_, State.reg_setReg _ _ _ _ _⟩
    rw [State.emptyQueue, smGet_smMod_same]

end Sys2Proof.Machine
end

section
/-! SUPPORT. The servo: a clapper of the parent, from its receipt to the rate it sets (R51, R52, R60, R61, R63). -/

namespace Sys2Proof.Machine

open Sys2Proof

/-! Registers of the CYCLE page. -/

/-- A register of the CYCLE page. -/
def InCyclePage (a : Nat) : Prop := 0x2000 ≤ a ∧ a < 0x3000

theorem inCyclePage_reg {po : Nat} (h : po < 0x1000) : InCyclePage (pageBase .cycle 0 + po) := by
  simp only [InCyclePage, pageBase]
  omega

/-- A count in another page. -/
theorem State.find_count_cycle (s : State) (k : PageKind) (i po : Nat) {a : Nat} (h : InCyclePage a)
    (hk : pageBase k i + po < 0x2000 ∨ 0x3000 ≤ pageBase k i + po) : smFind (s.count k i po).regs a = smFind s.regs a :=
  State.find_count_other _ _ _ _ _ (by have := h.1; have := h.2; omega)

theorem State.find_countP_cycle (s : State) (p po : Nat) {a : Nat} (h : InCyclePage a) :
    smFind (s.countP p po).regs a = smFind s.regs a :=
  State.find_count_cycle s .port p po h (.inr (by simp only [pageBase]; omega))

theorem State.find_traceAt_cycle (s : State) (src : Nat) (ev cls port : Option Nat) (frac kind : Nat) (w1 w2 w3 : Word) {a : Nat}
    (h : InCyclePage a) : smFind (s.traceAt src ev cls port frac kind w1 w2 w3).regs a = smFind s.regs a :=
  State.find_traceAt_other _ _ _ _ _ _ _ _ _ _ _ (by have := h.2; simp only [pageBase, R.TRACE_LOST_FULL]; omega)
    (by have := h.2; simp only [pageBase, R.TRACE_LOST_RATE]; omega)

theorem State.find_traceState_cycle (s : State) (ev what new : Nat) (value : Word) {a : Nat} (h : InCyclePage a) :
    smFind (s.traceState ev what new value).regs a = smFind s.regs a := State.find_traceAt_cycle _ _ _ _ _ _ _ _ _ _ h

/-- The registers of the CYCLE page are as they were: NODE_CFG, OFFSET_CFG and every counter of the page. -/
def SameCycleRegs (s t : State) : Prop := ∀ a, InCyclePage a → smFind t.regs a = smFind s.regs a

theorem SameCycleRegs.regF {s t : State} (h : SameCycleRegs s t) {po : Nat} (hpo : po < 0x1000) (hi lo : Nat) :
    t.regF .cycle 0 po hi lo = s.regF .cycle 0 po hi lo := by
  rw [State.regF, State.reg_of_find (h _ (inCyclePage_reg hpo)), State.regF]

theorem SameCycleRegs.nodeId {s t : State} (h : SameCycleRegs s t) : t.nodeId = s.nodeId := h.regF (by decide) _ _

/-! What the servo sets (R60, R61, R63). -/

theorem fst_shiftClamp (e : Int) (shift : Nat) (lim : Int) : (shiftClamp e shift lim).1 = clamped e shift lim := by
  simp only [shiftClamp, clamped, Nat.cast_pow, Nat.cast_ofNat]
  split
  · rfl
  · split <;> rfl

theorem State.setF_time (s : State) (f : Int) :
    (s.setF f).time = { s.time with f := clampInt (-(250000 * 65536)) (250000 * 65536) f } := by
  unfold State.setF
  dsimp only
  split <;> rfl

theorem State.setF_regs (s : State) (f : Int) : (s.setF f).regs = s.regs := by
  unfold State.setF
  dsimp only
  split <;> rfl

/-- LOCKED and its run are all that R63 sets. -/
theorem TimeSt.lock_keeps (t : TimeSt) (off : Int) : let u := t.lock off
    u.now = t.now ∧ u.f = t.f ∧ u.p = t.p ∧ u.rateNext = t.rateNext ∧ u.holdover = t.holdover := by
  intro u
  simp only [u, TimeSt.lock]
  split
  · exact ⟨rfl, rfl, rfl, rfl, rfl⟩
  · split <;> exact ⟨rfl, rfl, rfl, rfl, rfl⟩

/-- A count that some errors make changes nothing that the servo reads. -/
theorem State.countIf_keeps (s : State) (b : Bool) {po : Nat} (h : po < 0x1000) : let t := if b then s.count .time 0 po else s
    t.time = s.time ∧ t.ports = s.ports ∧ t.node = s.node ∧ t.slate = s.slate ∧ SameCycleRegs s t := by
  cases b
  · exact ⟨rfl, rfl, rfl, rfl, fun _ _ => rfl⟩
  · exact ⟨State.count_time .., State.count_ports .., State.count_node .., State.count_slate ..,
      fun a ha => State.find_count_cycle _ .time 0 po ha (.inl (by simp only [pageBase]; omega))⟩

/-- The servo's update, from the limited errors of p and f. -/
def State.servoUpdate (s : State) (steps : Nat) (off p df : Int) : State :=
  let s3 := ((s.setF (s.time.f - df)).setRate (-p)).count .time 0 R.TIME_SERVO_UPDATES
  ((s3.modTime fun t => { (t.lock off) with parentSteps := steps, offset := off, offsetAt := t.now }).traceState 3 4 0
    (wd (toField 64 (psOf off)))).modTime fun t => { t with diverged := none }

/-- The counts of the errors that were limited. -/
def State.countLimited (s : State) (pl fl : Bool) : State :=
  let s1 := if pl then s.count .time 0 R.TIME_SLEW_CLAMPED else s
  if fl then s1.count .time 0 R.TIME_FREQ_STEP_CLAMPED else s1

theorem State.countLimited_keeps (s : State) (pl fl : Bool) : let t := s.countLimited pl fl
    t.time = s.time ∧ t.ports = s.ports ∧ t.node = s.node ∧ t.slate = s.slate ∧ SameCycleRegs s t := by
  obtain ⟨htime, hports, hnode, hslate, hregs⟩ := s.countIf_keeps pl (po := R.TIME_SLEW_CLAMPED) (by decide)
  obtain ⟨htime', hports', hnode', hslate', hregs'⟩ := State.countIf_keeps
    (if pl then s.count .time 0 R.TIME_SLEW_CLAMPED else s) fl (po := R.TIME_FREQ_STEP_CLAMPED) (by decide)
  exact ⟨htime'.trans htime, hports'.trans hports, hnode'.trans hnode, hslate'.trans hslate, fun a ha => (hregs' a ha).trans (hregs a ha)⟩

theorem State.servoUpdate_keeps (s : State) (steps : Nat) (off p df : Int) : let t := s.servoUpdate steps off p df
    t.node = s.node ∧ t.ports = s.ports ∧ t.slate = s.slate ∧ SameCycleRegs s t := by
  have same : ∀ pt : Part, pt ≠ .pages → pt ≠ .regs → pt ≠ .time → pt ≠ .cnt → pt ≠ .trace → pt ≠ .alarm →
      pt.same s (s.servoUpdate steps off p df) := by
    intro pt h0 h1 h2 h3 h4 h5
    unfold State.servoUpdate
    simp +contextual (maxDischargeDepth := 30) [Part.same_refl, *]
  refine ⟨same .node (by decide) (by decide) (by decide) (by decide) (by decide) (by decide),
    same .ports (by decide) (by decide) (by decide) (by decide) (by decide) (by decide),
    same .slate (by decide) (by decide) (by decide) (by decide) (by decide) (by decide), fun a ha => ?_⟩
  refine (State.find_traceState_cycle _ _ _ _ _ ha).trans
    ((State.find_count_cycle _ .time 0 R.TIME_SERVO_UPDATES ha (.inl (by decide))).trans ?_)
  exact congrArg (smFind · a) (State.setF_regs _ _)

theorem State.servoUpdate_sets (s : State) (steps : Nat) (off p df : Int) : let t := s.servoUpdate steps off p df
    t.time.offset = off ∧ t.time.offsetAt = t.time.now ∧ t.time.parentSteps = steps ∧ t.time.holdover = s.time.holdover ∧
    t.time.p = -p ∧ t.time.f = clampInt (-(250000 * 65536)) (250000 * 65536) (s.time.f - df) ∧
    t.time.rateNext = t.time.f + t.time.p := by
  have hf := s.setF_time (s.time.f - df)
  obtain ⟨hnow, hlf, hlp, hrate, hhold⟩ := TimeSt.lock_keeps ((s.setF (s.time.f - df)).setRate (-p)).time off
  simp only [State.servoUpdate, State.modTime, State.traceState_time, State.count_time, hnow, hlf, hlp, hrate, hhold]
  simp only [State.setRate, State.modTime, hf, and_self]

/-- A clapper of the node's own CYCLE_TICKS: the errors are limited and counted, and the update is made. -/
theorem State.servo_eq (s : State) (p : Nat) (c : Clapper) (off : Int) (hticks : c.ticks = s.ticks) :
    let cfg := s.reg .time 0 R.TIME_SERVO_CFG
    let e := off * eFp / ((s.time.prevTicks * wTick : Nat) : Int)
    ∃ pl fl : Bool, s.servo p c off = (s.countLimited pl fl).servoUpdate c.steps off
      (clamped e (fld cfg 11 8) ((fld cfg 7 0 * 1000 * 65536 : Nat) : Int)) (clamped e (fld cfg 15 12) (100 * 65536)) := by
  intro cfg e
  refine ⟨(shiftClamp e (fld cfg 11 8) ((fld cfg 7 0 * 1000 * 65536 : Nat) : Int)).2, (shiftClamp e (fld cfg 15 12) (100 * 65536)).2, ?_⟩
  rw [← fst_shiftClamp, ← fst_shiftClamp]
  refine if_pos (hticks.trans (State.ticks_congr ?_).symm)
  obtain ⟨_, _, _, hslate, _⟩ := s.countLimited_keeps (shiftClamp e (fld cfg 11 8) ((fld cfg 7 0 * 1000 * 65536 : Nat) : Int)).2
    (shiftClamp e (fld cfg 15 12) (100 * 65536)).2
  obtain ⟨_, _, hslate', _⟩ := State.servoUpdate_keeps _ c.steps off _ _
  exact hslate'.trans hslate

theorem State.servo_follows (s : State) (p : Nat) (c : Clapper) (off : Int) (hticks : c.ticks = s.ticks) :
    let cfg := s.reg .time 0 R.TIME_SERVO_CFG
    let e := off * eFp / ((s.time.prevTicks * wTick : Nat) : Int)
    let t := s.servo p c off
    (t.node = s.node ∧ t.ports = s.ports ∧ SameCycleRegs s t ∧ t.time.holdover = s.time.holdover) ∧
    t.time.offset = off ∧ t.time.offsetAt = t.time.now ∧ t.time.parentSteps = c.steps ∧
    t.time.p = -clamped e (fld cfg 11 8) ((fld cfg 7 0 * 1000 * 65536 : Nat) : Int) ∧
    t.time.f = clampInt (-(250000 * 65536)) (250000 * 65536) (s.time.f - clamped e (fld cfg 15 12) (100 * 65536)) ∧
    t.time.rateNext = t.time.f + t.time.p := by
  intro cfg e t
  obtain ⟨pl, fl, heq⟩ := s.servo_eq p c off hticks
  obtain ⟨htime, hports, hnode, _, hregs⟩ := s.countLimited_keeps pl fl
  simp only [t, heq]
  obtain ⟨hnode', hports', _, hregs'⟩ := (s.countLimited pl fl).servoUpdate_keeps c.steps off
    (clamped e (fld cfg 11 8) ((fld cfg 7 0 * 1000 * 65536 : Nat) : Int)) (clamped e (fld cfg 15 12) (100 * 65536))
  obtain ⟨hoff, hat, hsteps, hhold, hp, hf, hrate⟩ := (s.countLimited pl fl).servoUpdate_sets c.steps off
    (clamped e (fld cfg 11 8) ((fld cfg 7 0 * 1000 * 65536 : Nat) : Int)) (clamped e (fld cfg 15 12) (100 * 65536))
  rw [htime] at hhold hf
  exact ⟨⟨hnode'.trans hnode, hports'.trans hports, fun a ha => (hregs' a ha).trans (hregs a ha), hhold⟩, hoff, hat, hsteps, hp, hf, hrate⟩

/-! A clapper of the parent, from its receipt to the servo (R51, R52, R78, R80, R86). -/

theorem exec_clapperRx {s : State} {p : Fin 1024} {c : Clapper} {tRx : Nat} (hup : s.isUp p = true) (hh : s.node.state ≠ .halted) :
    exec (.clapperRx p c tRx) s = .next (s.clapperIn p c tRx) := by
  simp only [exec, execClapperRx, hup, hh, if_true, if_false]

theorem exec_clapperRx_halted {s : State} {p : Fin 1024} {c : Clapper} {tRx : Nat} (hup : s.isUp p = true)
    (hh : s.node.state = .halted) : exec (.clapperRx p c tRx) s = .next s := by
  simp only [exec, execClapperRx, hup, hh, if_true]

theorem State.seenAt_node (s : State) (p t : Nat) : (s.seenAt p t).node = s.node := by
  refine (show Part.same .node s _ from ?_)
  simp [Part.same_refl]

/-- A valid clapper is counted, and CLAP_SEEN shows it. -/
def State.clapSeen (s : State) (p : Nat) (c : Clapper) : State :=
  (s.countP p R.PORT_CLAP_RX_VALID).modPort p fun q => { q with clapSeen := c.tbNode + c.tbRank * 2 ^ 16 + c.steps * 2 ^ 24 }

theorem State.find_clapSeen_other (s : State) (p : Nat) (c : Clapper) {a : Nat} (h : a ≠ pageBase .port p + R.PORT_CLAP_RX_VALID) :
    smFind (s.clapSeen p c).regs a = smFind s.regs a := State.find_countN_other _ _ _ _ _ _ h

theorem State.clapSeen_time (s : State) (p : Nat) (c : Clapper) : (s.clapSeen p c).time = s.time := State.countP_time ..
theorem State.clapSeen_node (s : State) (p : Nat) (c : Clapper) : (s.clapSeen p c).node = s.node := State.countP_node ..
theorem State.clapSeen_slate (s : State) (p : Nat) (c : Clapper) : (s.clapSeen p c).slate = s.slate := State.countP_slate ..

theorem State.clapSeen_port (s : State) (p : Nat) (c : Clapper) :
    (s.clapSeen p c).port p = { s.port p with clapSeen := c.tbNode + c.tbRank * 2 ^ 16 + c.steps * 2 ^ 24 } := by
  rw [State.clapSeen, State.port_modPort_same, State.port_countP]

theorem sameCycleRegs_clapSeen (s : State) (p : Nat) (c : Clapper) : SameCycleRegs s (s.clapSeen p c) := fun _ ha =>
  State.find_countP_cycle s p R.PORT_CLAP_RX_VALID ha

theorem State.linkDelay_congr {s t : State} {p : Nat} (hm : (t.port p).meas = (s.port p).meas)
    (hr : smFind t.regs (pageBase .port p + R.PORT_DELAY_ASYM) = smFind s.regs (pageBase .port p + R.PORT_DELAY_ASYM)) :
    t.linkDelay p = s.linkDelay p := by
  simp only [State.linkDelay, State.regF, hm, State.reg_of_find hr]

theorem State.toHub_congr {s t : State} (h : t.time = s.time) (i w : Nat) : t.toHub i w = s.toHub i w := by
  simp only [State.toHub, State.replica_congr h]

theorem State.clapperOffset_clapSeen (s : State) (p : Nat) (c : Clapper) (t : Int) :
    (s.clapSeen p c).clapperOffset p c t = s.clapperOffset p c t := by
  have hdelay : (s.clapSeen p c).linkDelay p = s.linkDelay p :=
    State.linkDelay_congr (by rw [State.clapSeen_port]) (s.find_clapSeen_other p c (by simp [pageBase, R.PORT_DELAY_ASYM, R.PORT_CLAP_RX_VALID]))
  simp only [State.clapperOffset, hdelay]

theorem tbBetter_self (a : Nat × Nat) : tbBetter a a = false := by
  simp [tbBetter]

/-- A JOINED node that hears the timebase it follows does nothing. -/
theorem State.timebase_followed {s : State} {tb : Nat × Nat} (hs : s.node.state = .joined) (hf : s.node.followed = some tb) :
    s.timebase tb = s := by
  simp only [State.timebase, hs, State.compareTb, hf, tbBetter_self, Bool.false_eq_true, if_false]

/-- A JOINED node keeps a clapper and makes no rate pair of it. -/
theorem State.keepClapper_joined {s : State} (p : Nat) (c : Clapper) (t : Int) (hs : s.node.state = .joined) :
    ∃ r, s.keepClapper p c t = s.modPort p fun q => { q with lastClap := some r, qual := none } := by
  refine ⟨{ cycle := c.cycle, origin := c.origin, correction := c.correction, tRx := t, rank := c.tbRank, node := c.tbNode,
            steps := c.steps, ticks := c.ticks, delayOk := (s.port p).delayOk, counts := s.node.state == .listen }, ?_⟩
  unfold State.keepClapper
  dsimp only
  split
  · rfl
  · refine if_neg fun h => ?_
    obtain ⟨_, _, _, hpair⟩ := h
    simp only [State.pairTb, State.modPort_node, hs] at hpair
    exact absurd hpair (by simp)

theorem State.duplicate_otherNode {s : State} {c : Clapper} (h : c.tbNode ≠ s.nodeId) : s.duplicate c = false := by
  simp [State.duplicate, h]

/-- What a node does with a clapper of a port that uses clappers or compares them, once it is seen and shows no duplicate. -/
def State.clapperUsed (s : State) (p : Nat) (c : Clapper) (tRx : Nat) : State :=
  let t := s.toHub (p / 16) tRx
  let uses := bitsOf (s.port p).timeCfg 1 0 = 0 ∨ bitsOf (s.port p).timeCfg 1 0 = 1
  let off := s.clapperOffset p c t
  let cand := uses ∧ s.node.followed = some (c.tbRank, c.tbNode) ∧ (s.port p).delayOk
  let s3 := (if cand then s.candidateClapper p c off else s).timebase (c.tbRank, c.tbNode)
  let s4 := if uses then s3.keepClapper p c t else s3
  if cand then (s4.joinCheck p c off).servoTakes p c off else s4

theorem State.clapperIn_used {s : State} {p : Nat} {c : Clapper} {tRx : Nat} (hv : (s.seenAt p tRx).clapperValid c = true)
    (hrole : bitsOf ((s.seenAt p tRx).port p).timeCfg 1 0 ≠ 3) (hid : c.tbNode ≠ (s.seenAt p tRx).nodeId) :
    s.clapperIn p c tRx = ((s.seenAt p tRx).clapSeen p c).clapperUsed p c tRx := by
  have hrole' : ¬ bitsOf (((s.seenAt p tRx).clapSeen p c).port p).timeCfg 1 0 = 3 := by rwa [State.clapSeen_port]
  have hdup : ¬ ((s.seenAt p tRx).clapSeen p c).duplicate c = true := by
    rw [State.duplicate_otherNode (by rwa [(sameCycleRegs_clapSeen _ p c).nodeId])]
    exact Bool.false_ne_true
  refine (if_neg (by rw [hv]; exact Bool.false_ne_true)).trans ((if_neg hrole').trans (if_neg hdup))

theorem State.joinCheck_none {s : State} (p : Nat) (c : Clapper) (off : Int) (h : s.node.join = none) : s.joinCheck p c off = s := by
  simp only [State.joinCheck, h]

theorem State.servoTakes_parent {s : State} {p : Nat} (c : Clapper) (off : Int) (hs : s.node.state = .joined)
    (hb : s.node.bellwether = false) (hpar : s.time.parent = some p) (hhold : s.time.holdover = false) :
    s.servoTakes p c off = (s.servo p c off).compareOffset := by
  simp [State.servoTakes, State.inNet, hs, hb, hpar, hhold]

/-- The state in which the servo applies a clapper of the parent: its offset and the clapper itself are kept. -/
def State.clapKept (s : State) (p : Nat) (c : Clapper) (off : Int) (r : ClapRec) : State :=
  (s.candidateClapper p c off).modPort p fun q => { q with lastClap := some r, qual := none }

/-- The parent's clapper in JOINED is recorded with its offset, kept, and applied. -/
theorem State.clapperUsed_parent {s : State} {p : Nat} {c : Clapper} {tRx : Nat} (hs : s.node.state = .joined)
    (hb : s.node.bellwether = false) (hj : s.node.join = none) (hrole : bitsOf (s.port p).timeCfg 1 0 = 0)
    (hf : s.node.followed = some (c.tbRank, c.tbNode)) (hd : (s.port p).delayOk = true) (hpar : s.time.parent = some p)
    (hhold : s.time.holdover = false) :
    let off := s.clapperOffset p c (s.toHub (p / 16) tRx)
    ∃ r, s.clapperUsed p c tRx = ((s.clapKept p c off r).servo p c off).compareOffset := by
  intro off
  obtain ⟨r, hr⟩ := (s.candidateClapper p c off).keepClapper_joined p c (s.toHub (p / 16) tRx) hs
  have htb : (s.candidateClapper p c off).timebase (c.tbRank, c.tbNode) = s.candidateClapper p c off :=
    State.timebase_followed hs hf
  have hused : s.clapperUsed p c tRx =
      ((((s.candidateClapper p c off).timebase (c.tbRank, c.tbNode)).keepClapper p c (s.toHub (p / 16) tRx)).joinCheck p c off).servoTakes
        p c off := by
    simp only [State.clapperUsed, hrole, hf, hd, true_or, and_self, if_true, off]
  refine ⟨r, ?_⟩
  rw [hused, htb, hr, State.joinCheck_none p c off (by exact hj)]
  exact State.servoTakes_parent c off hs hb hpar hhold

/-- An offset within both limits changes no state (R88, R90). -/
theorem State.compareOffset_within {s : State} (hh : s.time.holdover = false) (h1 : s.time.offset.natAbs ≤ s.limHoldOff * wTick)
    (h2 : s.time.offset.natAbs ≤ s.limLeave * wTick) : s.compareOffset = s := by
  have hbelow : ∀ lim, s.time.offset.natAbs ≤ lim * wTick → s.offsetAbove lim = false := by
    intro lim h
    unfold State.offsetAbove
    split
    · rfl
    · simp only [hh, Bool.false_eq_true, if_false, decide_eq_false_iff_not]
      omega
  simp [State.compareOffset, hbelow _ h1, hbelow _ h2]

theorem State.port_candidateClapper (s : State) (p : Nat) (c : Clapper) (off : Int) :
    (s.candidateClapper p c off).port p = { s.port p with clapOff := off } :=
  State.port_modPort_same s p fun q => { q with clapOff := off }

theorem otherPorts_candidateClapper (s : State) (p : Nat) (c : Clapper) (off : Int) : OtherPorts p s (s.candidateClapper p c off) :=
  otherPorts_modPort s p fun q => { q with clapOff := off }

theorem State.clapKept_keeps (s : State) (p : Nat) (c : Clapper) (off : Int) (r : ClapRec) : let t := s.clapKept p c off r
    t.time = { s.time with cands := s.time.cands ++ [⟨p, c.steps⟩] } ∧ t.node = s.node ∧ t.slate = s.slate ∧ t.regs = s.regs ∧
    (t.port p).clapOff = off ∧ OtherPorts p s t := by
  refine ⟨rfl, rfl, rfl, rfl, ?_, (otherPorts_candidateClapper s p c off).trans (otherPorts_modPort _ p _)⟩
  rw [State.clapKept, State.port_modPort_same, State.port_candidateClapper]

theorem otherPorts_clapSeen (s : State) (p : Nat) (c : Clapper) : OtherPorts p s (s.clapSeen p c) := fun q hq =>
  (State.port_modPort_other _ p q _ hq).trans (State.port_countP ..)

theorem clapperRx_invalid {s : State} {p : Fin 1024} {c : Clapper} {tRx : Nat} (hup : s.isUp p = true) (hh : s.node.state ≠ .halted)
    (hv : (s.seenAt p tRx).clapperValid c = false) :
    Answers (.clapperRx p c tRx) s fun t =>
      Counted .port p R.PORT_CLAP_RX_INVALID (s.seenAt p tRx) t ∧ t.ports = (s.seenAt p tRx).ports ∧ t.node = s.node ∧
      t.time = (s.seenAt p tRx).time := by
  have hin : s.clapperIn p c tRx = (s.seenAt p tRx).countP p R.PORT_CLAP_RX_INVALID := if_pos (by rw [hv]; rfl)
  refine ⟨_, exec_clapperRx hup hh, ?_⟩
  rw [hin]
  exact ⟨counted_count .port p R.PORT_CLAP_RX_INVALID _, State.countP_ports .., (State.countP_node ..).trans (s.seenAt_node p tRx),
    State.countP_time ..⟩

/-- Settles O17: the clapper of the parent reaches `State.servo`, whose update is `State.servo_follows`. -/
theorem servoFollowsItsParent : Obligations.ServoFollowsItsParent := by
  refine ⟨fun s p c tRx hup hh => clapperRx_invalid hup hh, fun s p c tRx hup hh => exec_clapperRx_halted hup hh, ?_⟩
  intro s p c tRx hup hs u hb hj hv hrole hid hf hd hpar hhold hticks off hoff hleave cfg e
  have hnode : u.node = s.node := s.seenAt_node p tRx
  have hvnode := u.clapSeen_node p c
  have hvtime := u.clapSeen_time p c
  have hvport := u.clapSeen_port p c
  have hvoff : (u.clapSeen p c).clapperOffset p c ((u.clapSeen p c).toHub (p / 16) tRx) = off := by
    rw [State.clapperOffset_clapSeen, State.toHub_congr hvtime]
  obtain ⟨r, hused⟩ := State.clapperUsed_parent (s := u.clapSeen p c) (p := p) (c := c) (tRx := tRx) (by rw [hvnode, hnode, hs])
    (by rw [hvnode, hb]) (by rw [hvnode, hj]) (by rw [hvport, hrole]) (by rw [hvnode, hf]) (by rw [hvport, hd]) (by rw [hvtime, hpar])
    (by rw [hvtime, hhold])
  rw [hvoff] at hused
  obtain ⟨w, hw⟩ : ∃ w, w = (u.clapSeen p c).clapKept p c off r := ⟨_, rfl⟩
  obtain ⟨hwtime, hwnode, hwslate, hwregs, hwoff, hwports⟩ := (u.clapSeen p c).clapKept_keeps p c off r
  rw [← hw] at hused hwtime hwnode hwslate hwregs hwoff hwports
  have hwcfg : w.reg .time 0 R.TIME_SERVO_CFG = cfg :=
    State.reg_of_find ((congrArg (smFind · _) hwregs).trans
      (u.find_clapSeen_other p c (by simp only [pageBase, R.TIME_SERVO_CFG, R.PORT_CLAP_RX_VALID]; omega)))
  obtain ⟨⟨htnode, htports, htregs, hthold⟩, htoff, htat, htsteps, htp, htf, htrate⟩ :=
    w.servo_follows p c off (hticks.trans (State.ticks_congr (hwslate.trans (u.clapSeen_slate p c))).symm)
  have hregs : SameCycleRegs u (w.servo p c off) := fun a ha =>
    (htregs a ha).trans ((congrArg (smFind · a) hwregs).trans (sameCycleRegs_clapSeen u p c a ha))
  rw [hvtime] at hwtime
  rw [hwcfg, hwtime] at htp htf
  have hin : s.clapperIn p c tRx = w.servo p c off := by
    rw [State.clapperIn_used hv (by rw [hrole]; decide) hid]
    refine hused.trans (State.compareOffset_within (by rw [hthold, hwtime, hhold]) ?_ ?_)
    · rw [htoff, State.limHoldOff, hregs.regF (by decide)]; exact hoff
    · rw [htoff, State.limLeave, hregs.regF (by decide)]; exact hleave
  refine ⟨_, exec_clapperRx hup (by rw [hs]; decide), ?_⟩
  rw [hin]
  refine ⟨by rw [htnode, hwnode, hvnode, hnode, hs], htoff, htat, htsteps, htp, htf, htrate, ?_, fun q hq => ?_⟩
  · rw [State.port_congr htports, hwoff]
  · rw [State.port_congr htports, hwports q hq, otherPorts_clapSeen u p c q hq]

end Sys2Proof.Machine
end

section
/-! SUPPORT. The delay exchange: requests and answers sent at once, responses measured or rejected, requests abandoned (R47, R53 to R56). -/

namespace Sys2Proof.Machine

open Sys2Proof

/-! A frame of the port itself that starts at once (R54). -/

theorem State.ownFrame_cls (s : State) (p : Nat) (fr : TxFrame) (dep : Nat) : (s.ownFrame p fr dep).cls = fr.cls := by
  unfold State.ownFrame
  split <;> rfl

/-- What has happened when the sender's own bookkeeping (`State.leaves`) begins: the frame is out, and the buffer is empty again. -/
theorem State.sendOwn_sent {s : State} {p tDep : Nat} {fr : TxFrame} (hp : p < 1024) (h : s.startsNow p fr) (hv : fr.origin ≠ .verify)
    (hr : fr.origin ≠ .respond) : let u := s.loaded p fr
    let dep := u.depFor p fr tDep
    ∃ (w : State) (fin lane : Nat), s.sendOwn p fr tDep = w.leaves p (u.ownFrame p fr dep) dep fin ∧
      w.outs = s.outs ++ [.frame p (u.ownFrame p fr dep).frame true] ∧ w.port p = { s.port p with laneFree := lane } ∧
      OtherPorts p s w ∧ w.time = s.time ∧ (∀ a, 0x200000 ≤ a → smFind w.regs a = smFind s.regs a) := by
  intro u dep
  obtain ⟨w, fin, hsend, houts, ⟨lane, hport⟩, hothers, htime, _, hregs⟩ := u.startExpress_sent p tDep fr hp hv hr
  have ⟨_, hempty, _⟩ := h
  have hloaded : u.port p = { s.port p with txq := [fr] } := State.port_modPort_same ..
  refine ⟨w, fin, lane, (State.sendOwn_of_startsNow h).trans hsend, houts, ?_, fun q hq => ?_, htime, hregs⟩
  · rw [hport, hloaded, State.ownFrame_cls]
    simp only [dropHead, if_true]
    rw [← hempty]
  · rw [hothers q hq, State.port_modPort_other _ _ _ _ hq]

/-- A frame of the link that the port sends carries its TYPE and payload. -/
theorem sent_llFrame {p typ : Nat} {payload : List Byte} {s t u : State} (h : t.outs = s.outs ++ [.frame p (u.llFrame p typ payload) true]) :
    Sent p typ payload s t := ⟨_, u.llHdr p typ payload.length, h, rfl, rfl⟩

/-- A departure near the nominal one is the same once the frame is in the buffer. -/
theorem State.depNear_loaded (s : State) (p : Nat) (fr : TxFrame) (t : Nat) : (s.loaded p fr).depNear p t = s.depNear p t := by
  have hlink : ((s.loaded p fr).port p).link = (s.port p).link := by rw [State.port_modPort_same]
  have hdep : (s.loaded p fr).nominalDep p = s.nominalDep p := by
    simp only [State.nominalDep, State.wByte, State.bytesPerTick, hlink]
    rfl
  simp only [State.depNear, hdep]

/-! Requests and answers (R53, R54). -/

theorem State.requestDelay_idle {s : State} {p t1 : Nat} (h : ((s.dropReq p).port p).txq = []) :
    s.requestDelay p t1 = (s.dropReq p).sendOwn p ((s.dropReq p).linkFrame p 7 tDelayReq .delayReq) t1 := by
  have hq : (s.port p).txq = [] := by
    rw [← h, State.dropReq]
    split
    · rw [State.port_countP, State.port_modPort_same]
    · rfl
  refine if_neg ?_
  rw [PortSt.waits, hq]
  exact Bool.false_ne_true

theorem exec_delayReqTx {s : State} {p : Fin 1024} (t1 : Nat) (hon : s.delayOn p = true) (hdue : s.time.hasCycle = true → s.delayDue p = true) :
    exec (.delayReqTx p t1) s = .next (State.requestDelay (if s.time.hasCycle then s else s.runTo (s.nextReq p)) p t1) := by
  simp only [exec, execDelayReqTx, hon, Bool.not_true, Bool.false_eq_true, if_false]
  cases hc : s.time.hasCycle
  · rfl
  · simp only [if_true, hdue hc]

/-- The request that starts carries the next REQ_ID; its departure, referred to the hub, is t1 of its measurement. -/
theorem delayReq_sent {v : State} {p : Fin 1024} (t1 : Nat) (h : v.startsNow p (v.linkFrame p 7 tDelayReq .delayReq)) :
    let t := v.sendOwn p (v.linkFrame p 7 tDelayReq .delayReq) t1
    let id := ((v.port p).reqId + 1) % 2 ^ 16
    (t.port p).reqId = id ∧ (t.port p).req = some (id, v.toHub (p / 16) (v.depNear p t1), v.time.cycle) ∧
    (t.port p).reqCyc = (if v.time.hasCycle then some v.time.cycle else none) ∧ (t.port p).reqAt = some v.time.now ∧
    (t.port p).meas = (v.port p).meas ∧ (t.port p).delayOk = (v.port p).delayOk ∧
    Sent p tDelayReq (delayBytes id false 0) v t ∧ OtherPorts p v t ∧ Counted .port p R.PORT_DELAY_REQ_TX v t := by
  intro t id
  obtain ⟨fr, hfr⟩ : ∃ fr, fr = v.linkFrame p 7 tDelayReq .delayReq := ⟨_, rfl⟩
  have horigin : fr.origin = .delayReq := by rw [hfr]; rfl
  obtain ⟨w, fin, lane, hsend, houts, hport, hothers, htime, hregs⟩ :=
    State.sendOwn_sent (tDep := t1) p.isLt (hfr ▸ h) (by rw [horigin]; exact Origin.noConfusion) (by rw [horigin]; exact Origin.noConfusion)
  have hdep : (v.loaded p fr).depFor p fr t1 = v.depNear p t1 := by
    simp only [State.depFor, horigin, State.depNear_loaded]
  have hframe : (v.loaded p fr).ownFrame p fr (v.depNear p t1) =
      { fr with frame := (v.loaded p fr).llFrame p tDelayReq (delayBytes id false 0) } := by
    simp only [State.ownFrame, horigin, State.port_modPort_same, id]
  rw [hdep, hframe] at hsend houts
  have ht : t = (w.modPort p fun q =>
      { q with reqId := (q.reqId + 1) % 2 ^ 16, req := some ((q.reqId + 1) % 2 ^ 16, w.toHub (p / 16) (v.depNear p t1), w.time.cycle),
               reqCyc := if w.time.hasCycle then some w.time.cycle else none, reqAt := some w.time.now }).countP p
      R.PORT_DELAY_REQ_TX := by
    refine (congrArg (fun f => v.sendOwn p f t1) hfr).symm.trans (hsend.trans ?_)
    simp only [State.leaves, horigin]
  rw [State.toHub_congr htime, htime] at ht
  have htport := (congrArg (fun u : State => u.port p) ht).trans ((State.port_countP ..).trans (State.port_modPort_same ..))
  rw [hport] at htport
  rw [htport]
  refine ⟨rfl, rfl, rfl, rfl, rfl, rfl, sent_llFrame (u := v.loaded p fr) ?_, fun q hq => ?_, ?_⟩
  · rw [ht, State.countP_outs, State.modPort_outs, houts]
  · rw [ht, State.port_countP, State.port_modPort_other _ _ _ _ hq, hothers q hq]
  · rw [ht]
    exact counted_from (counted_count ..) (hregs _ (portReg_ge _ _))

theorem State.isUp_of_delayOn {s : State} {p : Nat} (h : s.delayOn p = true) : s.isUp p = true := by
  simp only [State.delayOn, Bool.and_eq_true] at h
  obtain ⟨⟨hup, _⟩, _⟩ := h
  exact hup

theorem exec_delayReqRx {s : State} {p : Fin 1024} (id src : BitVec 16) (t2 t3 : Nat) (hon : s.delayOn p = true) :
    exec (.delayReqRx p id src t2 t3) s = .next ((s.seenAt p t2).answerDelay p id.toNat t2 t3) := by
  simp only [exec, execDelayReqRx, State.isUp_of_delayOn hon, hon, if_true]

/-- The answer that starts carries the time for which its request was held. -/
theorem delayResp_sent {v : State} {p : Fin 1024} (id t2 t3 : Nat)
    (h : v.startsNow p (v.linkFrame p 7 tDelayResp (.delayResp id (v.toHub (p / 16) t2)))) :
    let t := v.answerDelay p id t2 t3
    Sent p tDelayResp (delayBytes id v.inNet (v.toHub (p / 16) (v.depNear p t3) - v.toHub (p / 16) t2)) v t ∧
    (t.port p).req = (v.port p).req ∧ (t.port p).meas = (v.port p).meas ∧ OtherPorts p v t ∧
    Counted .port p R.PORT_DELAY_RESP_TX v t := by
  intro t
  obtain ⟨fr, hfr⟩ : ∃ fr, fr = v.linkFrame p 7 tDelayResp (.delayResp id (v.toHub (p / 16) t2)) := ⟨_, rfl⟩
  have horigin : fr.origin = .delayResp id (v.toHub (p / 16) t2) := by rw [hfr]; rfl
  obtain ⟨w, fin, lane, hsend, houts, hport, hothers, htime, hregs⟩ :=
    State.sendOwn_sent (tDep := t3) p.isLt (hfr ▸ h) (by rw [horigin]; exact Origin.noConfusion) (by rw [horigin]; exact Origin.noConfusion)
  have hdep : (v.loaded p fr).depFor p fr t3 = v.depNear p t3 := by
    simp only [State.depFor, horigin, State.depNear_loaded]
  have hframe : (v.loaded p fr).ownFrame p fr (v.depNear p t3) = { fr with
      frame := (v.loaded p fr).llFrame p tDelayResp
        (delayBytes id v.inNet (v.toHub (p / 16) (v.depNear p t3) - v.toHub (p / 16) t2)) } := by
    simp only [State.ownFrame, horigin]
    rfl
  rw [hdep, hframe] at hsend houts
  have ht : t = w.countP p R.PORT_DELAY_RESP_TX := by
    refine (congrArg (fun f => v.sendOwn p f t3) hfr).symm.trans (hsend.trans ?_)
    simp only [State.leaves, horigin]
  have htport : t.port p = { v.port p with laneFree := lane } := by rw [ht, State.port_countP, hport]
  refine ⟨sent_llFrame (u := v.loaded p fr) ?_, by rw [htport], by rw [htport], fun q hq => ?_, ?_⟩
  · rw [ht, State.countP_outs, houts]
  · rw [ht, State.port_countP, hothers q hq]
  · rw [ht]
    exact counted_from (counted_count ..) (hregs _ (portReg_ge _ _))

/-! Responses (R55, R56). -/

theorem exec_delayRespRx {s : State} {p : Fin 1024} (id : BitVec 16) (synt : Bool) (turn : Int) (t4 : Nat) (hon : s.delayOn p = true) :
    exec (.delayRespRx p id synt turn t4) s = .next ((s.seenAt p t4).delayResp p id.toNat synt turn t4) := by
  simp only [exec, execDelayRespRx, State.isUp_of_delayOn hon, hon, if_true]

theorem State.delayResp_measured {s : State} {p id c : Nat} {synt : Bool} {turn t1 : Int} (t4 : Nat)
    (hreq : (s.port p).req = some (id, t1, c)) (hturn : turn ≤ (if synt then 20480 else 2048) * 65536) :
    s.delayResp p id synt turn t4 = (s.modPort p fun q => { q with req := none }).measure p (s.toHub (p / 16) t4 - t1 - turn) := by
  simp only [State.delayResp, hreq, hturn, and_self, if_true]

theorem State.delayResp_rejected {s : State} {p id : Nat} {synt : Bool} {turn : Int} (t4 : Nat)
    (h : (∀ t1 c, (s.port p).req ≠ some (id, t1, c)) ∨ (if synt then 20480 else 2048) * 65536 < turn) :
    s.delayResp p id synt turn t4 = s.countP p R.PORT_DELAY_REJECTED := by
  unfold State.delayResp
  split
  · next id' t1 c hreq =>
    refine if_neg fun ⟨hid, hturn⟩ => ?_
    rcases h with hnone | hlate
    · exact hnone t1 c (hid ▸ hreq)
    · exact absurd hturn (Int.not_le.2 hlate)
  · rfl

/-- A measurement within 2 ns of the mean, or one made before LINK_DELAY is valid, enters the last eight. -/
theorem State.measure_accepts {s : State} {p : Nat} {d2 : Int} (h : (s.port p).delayOk = false ∨
      (d2 * (s.port p).meas.length - (s.port p).meas.sum).natAbs ≤ 4 * (s.port p).meas.length * 65536) :
    s.measure p d2 = (s.modPort p fun q =>
      { q with meas := (q.meas ++ [d2]).drop (q.meas.length - 7), rejRun := 0,
               delayOk := q.delayOk || decide (4 ≤ ((q.meas ++ [d2]).drop (q.meas.length - 7)).length) }).countP p
      R.PORT_DELAY_ACCEPTED := by
  refine if_neg ?_
  simp only [Bool.and_eq_true, decide_eq_true_eq, not_and, not_lt]
  intro hok
  rcases h with hno | hnear
  · rw [hno] at hok; exact absurd hok Bool.false_ne_true
  · omega

/-- A later measurement farther from the mean is rejected; the fourth in a row drops the history. -/
theorem State.measure_rejects {s : State} {p : Nat} {d2 : Int} (hok : (s.port p).delayOk = true)
    (hfar : 4 * (s.port p).meas.length * 65536 < (d2 * (s.port p).meas.length - (s.port p).meas.sum).natAbs) :
    s.measure p d2 = (s.countP p R.PORT_DELAY_REJECTED).modPort p fun q =>
      if 4 ≤ (s.port p).rejRun + 1 then q.dropDelay else { q with rejRun := q.rejRun + 1 } := by
  refine (if_pos ?_).trans ?_
  · simp only [hok, Bool.true_and, decide_eq_true_eq]
    omega
  · split <;> rfl

theorem State.linkDelay_of_meas {s : State} {p : Nat} (h : (s.port p).meas ≠ []) : s.linkDelay p =
    (s.port p).meas.sum * wFrac / (2 * (s.port p).meas.length) + sext 32 (s.regF .port p R.PORT_DELAY_ASYM 31 0) * 4096 := by
  simp only [State.linkDelay, if_neg h]

section Responses

variable {u : State} {p : Fin 1024} {id c : Nat} {synt : Bool} {turn t1 : Int} {t4 : Nat}
  (hreq : (u.port p).req = some (id, t1, c)) (hturn : turn ≤ (if synt then 20480 else 2048) * 65536)
include hreq hturn

theorem State.delayResp_accepts (h : (u.port p).delayOk = false ∨ ((u.toHub (p / 16) t4 - t1 - turn) * (u.port p).meas.length -
      (u.port p).meas.sum).natAbs ≤ 4 * (u.port p).meas.length * 65536) :
    let t := u.delayResp p id synt turn t4
    let m := ((u.port p).meas ++ [u.toHub (p / 16) t4 - t1 - turn]).drop ((u.port p).meas.length - 7)
    t.port p = { u.port p with req := none, meas := m, rejRun := 0, delayOk := (u.port p).delayOk || decide (4 ≤ m.length) } ∧
    OtherPorts p u t ∧
    t.linkDelay p = m.sum * wFrac / (2 * m.length) + sext 32 (u.regF .port p R.PORT_DELAY_ASYM 31 0) * 4096 ∧
    Counted .port p R.PORT_DELAY_ACCEPTED u t := by
  intro t m
  have hport : (u.modPort p fun q => { q with req := none }).port p = { u.port p with req := none } := State.port_modPort_same ..
  have ht : t = _ := (State.delayResp_measured t4 hreq hturn).trans (State.measure_accepts (by rw [hport]; exact h))
  have htport : t.port p = { u.port p with req := none, meas := m, rejRun := 0, delayOk := (u.port p).delayOk || decide (4 ≤ m.length) } := by
    rw [ht, State.port_countP, State.port_modPort_same, hport]
  refine ⟨htport, fun q hq => ?_, ?_, ?_⟩
  · rw [ht, State.port_countP, State.port_modPort_other _ _ _ _ hq, State.port_modPort_other _ _ _ _ hq]
  · have hm : m ≠ [] := by
      refine List.ne_nil_of_length_pos ?_
      simp only [m, List.length_drop, List.length_append, List.length_singleton]
      omega
    have hasym : t.regF .port p R.PORT_DELAY_ASYM 31 0 = u.regF .port p R.PORT_DELAY_ASYM 31 0 := by
      rw [ht]
      exact State.regF_count_other _ .port .port p _ p _ _ _ (by simp [pageBase, R.PORT_DELAY_ASYM, R.PORT_DELAY_ACCEPTED])
    rw [State.linkDelay_of_meas (by rw [htport]; exact hm), htport, hasym]
  · rw [ht]
    exact counted_count ..

theorem State.delayResp_rejects (hok : (u.port p).delayOk = true) (hfar : 4 * (u.port p).meas.length * 65536 <
      ((u.toHub (p / 16) t4 - t1 - turn) * (u.port p).meas.length - (u.port p).meas.sum).natAbs) :
    let t := u.delayResp p id synt turn t4
    t.port p = (if 4 ≤ (u.port p).rejRun + 1 then { u.port p with req := none, meas := [], rejRun := 0, delayOk := false }
                else { u.port p with req := none, rejRun := (u.port p).rejRun + 1 }) ∧
    OtherPorts p u t ∧ Counted .port p R.PORT_DELAY_REJECTED u t := by
  intro t
  have hport : (u.modPort p fun q => { q with req := none }).port p = { u.port p with req := none } := State.port_modPort_same ..
  have ht : t = _ := (State.delayResp_measured t4 hreq hturn).trans
    (State.measure_rejects (by rw [hport]; exact hok) (by rw [hport]; exact hfar))
  rw [hport] at ht
  refine ⟨?_, fun q hq => ?_, ?_⟩
  · rw [ht, State.port_modPort_same, State.port_countP, hport]
    rfl
  · rw [ht, State.port_modPort_other _ _ _ _ hq, State.port_countP, State.port_modPort_other _ _ _ _ hq]
  · rw [ht]
    exact counted_count .port p R.PORT_DELAY_REJECTED (u.modPort p fun q => { q with req := none })

end Responses

/-! Requests that are abandoned (R55). -/

theorem State.dropReq_drops {s : State} {p : Nat} (h : (s.port p).req.isSome = true) : let t := s.dropReq p
    t.port p = { s.port p with req := none } ∧ OtherPorts p s t ∧ Counted .port p R.PORT_DELAY_TIMEOUT s t := by
  have ht : s.dropReq p = (s.modPort p fun q => { q with req := none }).countP p R.PORT_DELAY_TIMEOUT := if_pos h
  simp only [ht]
  refine ⟨?_, fun q hq => ?_, counted_count .port p R.PORT_DELAY_TIMEOUT (s.modPort p fun q => { q with req := none })⟩
  · rw [State.port_countP, State.port_modPort_same]
  · rw [State.port_countP, State.port_modPort_other _ _ _ _ hq]

theorem exec_delayTimeout {s : State} {p : Fin 1024} {id c : Nat} {t1 : Int} (hcyc : s.time.hasCycle = true)
    (hreq : (s.port p).req = some (id, t1, c)) (hdue : 4 ≤ cycDiff s.time.cycle c ∨ 1 ≤ cycDiff s.time.cycle c ∧ s.delayDue p = true) :
    exec (.delayTimeout p) s = .next (s.dropReq p) := by
  simp [exec, execDelayTimeout, hreq, hcyc, hdue]

theorem exec_delayTimeout_noCycle {s : State} {p : Fin 1024} (hcyc : s.time.hasCycle = false) (hreq : (s.port p).req.isSome = true) :
    exec (.delayTimeout p) s = .next ((s.runTo (s.nextReq p)).dropReq p) := by
  obtain ⟨⟨id, t1, c⟩, hsome⟩ := Option.isSome_iff_exists.1 hreq
  simp [exec, execDelayTimeout, hsome, hcyc]

/-- Settles O16: requests and answers by what the port sends at once, responses by `State.delayResp_accepts`, `State.delayResp_rejects` and
`State.delayResp_rejected`, time-outs by `State.dropReq_drops`. -/
theorem delayExchangeMeasuresTheLink : Obligations.DelayExchangeMeasuresTheLink := by
  refine ⟨?request, ?answer, ?response, ?stray, ?dueTimeout, ?timeout⟩
  case request =>
    intro s p t1 hon hdue u v hstart
    have ⟨_, hempty, _⟩ := hstart
    have hsend : u.requestDelay p t1 = _ := State.requestDelay_idle hempty
    exact ⟨_, exec_delayReqTx t1 hon hdue, hsend ▸ delayReq_sent t1 hstart⟩
  case answer =>
    intro s p id src t2 t3 hon u hstart
    exact ⟨_, exec_delayReqRx id src t2 t3 hon, delayResp_sent id.toNat t2 t3 hstart⟩
  case response =>
    intro s p id synt turn t1 t4 c hon u q d2 hreq hturn
    exact ⟨fun hnear => ⟨_, exec_delayRespRx id synt turn t4 hon, State.delayResp_accepts hreq hturn hnear⟩,
      fun hok hfar => ⟨_, exec_delayRespRx id synt turn t4 hon, State.delayResp_rejects hreq hturn hok hfar⟩⟩
  case stray =>
    intro s p id synt turn t4 hon u hstray
    refine ⟨_, exec_delayRespRx id synt turn t4 hon, ?_⟩
    rw [State.delayResp_rejected t4 hstray]
    exact ⟨State.countP_ports .., counted_count ..⟩
  case dueTimeout =>
    intro s p id c t1 hcyc hreq hdue
    exact ⟨_, exec_delayTimeout hcyc hreq hdue, State.dropReq_drops (by rw [hreq]; rfl)⟩
  case timeout =>
    intro s p hcyc hreq u hpending
    exact ⟨_, exec_delayTimeout_noCycle hcyc hreq, State.dropReq_drops hpending⟩

end Sys2Proof.Machine
end

section
/-! SUPPORT. The clock at a cycle start: what advances the cycle, and what leaves its number and its start alone (R46, R370). -/

namespace Sys2Proof.Machine

open Sys2Proof

/-- The hub's clock, its offset to fabric time, the cycle number and the start of the cycle are the same, and so are the ticks of the
cycle before. -/
structure SameClock (s t : State) : Prop where
  now : t.time.now = s.time.now
  fabOff : t.time.fabOff = s.time.fabOff
  cycle : t.time.cycle = s.time.cycle
  cycStart : t.time.cycStart = s.time.cycStart
  prevTicks : t.time.prevTicks = s.time.prevTicks

theorem SameClock.refl (s : State) : SameClock s s := ⟨rfl, rfl, rfl, rfl, rfl⟩

theorem SameClock.trans {s t u : State} (h : SameClock s t) (h' : SameClock t u) : SameClock s u :=
  ⟨h'.now.trans h.now, h'.fabOff.trans h.fabOff, h'.cycle.trans h.cycle, h'.cycStart.trans h.cycStart, h'.prevTicks.trans h.prevTicks⟩

/-- An operation that leaves the time part of the state alone. -/
theorem sameClock_of_time {s t : State} (h : Part.same .time s t) : SameClock s t := by
  have htime : t.time = s.time := h
  exact ⟨by rw [htime], by rw [htime], by rw [htime], by rw [htime], by rw [htime]⟩

theorem SameClock.ite {s t u : State} {c : Prop} [Decidable c] (ht : SameClock s t) (hu : SameClock s u) :
    SameClock s (if c then t else u) := by
  split <;> assumption

theorem sameClock_foldl {α : Type} (l : List α) (f : State → α → State) (hf : ∀ u x, SameClock u (f u x)) (s : State) :
    SameClock s (l.foldl f s) := by
  induction l generalizing s with
  | nil => exact .refl s
  | cons x l ih => exact (hf s x).trans (ih _)

/-! The servo. -/

theorem sameClock_count (s : State) (k : PageKind) (i po : Nat) : SameClock s (s.count k i po) := sameClock_of_time (State.count_time ..)

theorem sameClock_dropServo (s : State) : SameClock s s.dropServo := ⟨rfl, rfl, rfl, rfl, rfl⟩

theorem sameClock_setParent (s : State) (c : Cand) : SameClock s (s.setParent c) := by
  refine SameClock.trans (t := s.modTime fun x => { x with parent := some c.port, parentSteps := c.steps, missed := 0, better := [] })
    ⟨rfl, rfl, rfl, rfl, rfl⟩ ?_
  unfold State.setParent
  exact SameClock.ite (.refl _) (sameClock_of_time (by simp (maxDischargeDepth := 30) [Part.same_refl]))

theorem sameClock_betterPorts (s : State) (l : List Cand) (cur : Cand) : SameClock s (s.betterPorts l cur) := by
  unfold State.betterPorts
  dsimp only
  split
  · exact sameClock_setParent _ _
  · exact ⟨rfl, rfl, rfl, rfl, rfl⟩

theorem sameClock_enterHoldover (s : State) : SameClock s s.enterHoldover :=
  SameClock.trans (t := s.modTime fun x => { x with holdover := true, locked := false, lockRun := 0 }) ⟨rfl, rfl, rfl, rfl, rfl⟩
    (sameClock_of_time (by simp (maxDischargeDepth := 30) [State.enterHoldover, Part.same_refl]))

/-- A cycle in which the parent sent nothing (R64). -/
theorem sameClock_parentMissed (s : State) (n : Nat) :
    SameClock s (((s.modTime fun x => { x with missed := n, better := [] }).setRate 0).count .time 0 R.TIME_PARENT_MISSED) :=
  SameClock.trans (t := (s.modTime fun x => { x with missed := n, better := [] }).setRate 0) ⟨rfl, rfl, rfl, rfl, rfl⟩
    (sameClock_of_time (by simp (maxDischargeDepth := 30) [Part.same_refl]))

/-- A parent that is lost gives way to the best candidate heard, or the node holds over (R64). -/
theorem sameClock_endServoCycle (s : State) : SameClock s s.endServoCycle := by
  have hraise : ∀ (u : State) (p n : Nat), SameClock u (u.raisePort 0x003 p n 0x0005) := fun u p n =>
    sameClock_of_time (by simp (maxDischargeDepth := 30) [Part.same_refl])
  unfold State.endServoCycle
  split
  · exact .refl s
  next p hp =>
    split
    · exact (sameClock_count s .time 0 R.TIME_HOLDOVER_CYCLES).trans (sameClock_count _ .time 0 R.TIME_PARENT_MISSED)
    dsimp only
    split
    · exact SameClock.trans (t := s.modTime fun t => { t with missed := 0 }) ⟨rfl, rfl, rfl, rfl, rfl⟩ (sameClock_betterPorts _ _ _)
    split
    · exact sameClock_parentMissed s _
    refine ((sameClock_parentMissed s (s.time.missed + 1)).trans (hraise _ p (s.time.missed + 1))).trans ?_
    split
    · exact sameClock_setParent _ _
    · exact sameClock_enterHoldover _

theorem sameClock_endCycle (s : State) : SameClock s s.endCycle := by
  have hburst : ∀ u : State, SameClock u (u.eachPort State.lateBurst) := fun u =>
    sameClock_foldl _ _ (fun _ _ => sameClock_of_time (by simp (maxDischargeDepth := 30) [Part.same_refl])) u
  have hservo : SameClock s (if s.inNet && !s.node.bellwether then s.endServoCycle else s) :=
    (sameClock_endServoCycle s).ite (.refl s)
  exact hservo.trans (((sameClock_count _ .cycle 0 R.CYCLE_HOLDOFF_CYCLES).ite (.refl _)).trans (hburst _))

/-! The moves of the node. -/

theorem sameClock_enter (s : State) (st : NodeState) : SameClock s (s.enter st) :=
  sameClock_of_time (by simp (maxDischargeDepth := 30) [Part.same_refl])

theorem sameClock_enterDrop (s : State) (st : NodeState) : SameClock s (s.enter st).dropServo :=
  (sameClock_enter s st).trans (sameClock_dropServo _)

theorem sameClock_refuseForNode (s : State) : SameClock s s.refuseForNode :=
  sameClock_of_time (by simp (maxDischargeDepth := 30) [Part.same_refl])

theorem sameClock_raise (s : State) (cls source detail : Nat) : SameClock s (s.raise cls source detail) := sameClock_of_time rfl

/-- The frames of a node that leaves the network (R83). -/
theorem sameClock_flushIf (s : State) (was : Bool) : SameClock s (if was then s.flushTx else s) :=
  (sameClock_of_time (by simp (maxDischargeDepth := 30) [Part.same_refl])).ite (.refl s)

theorem sameClock_toListen (s : State) (keep : Option (Nat × Nat)) : SameClock s (s.toListen keep) :=
  (sameClock_enterDrop s .listen).trans (SameClock.trans (t := ((s.enter .listen).dropServo).forgetQual)
    (sameClock_of_time (by simp (maxDischargeDepth := 30) [Part.same_refl])) ⟨rfl, rfl, rfl, rfl, rfl⟩)

theorem sameClock_toYield (s : State) (better : Option (Nat × Nat)) : SameClock s (s.toYield better) := by
  have left : ∀ (u : State) (was : Bool), SameClock u (if was then u.flushTx else u).refuseForNode := fun u was =>
    (sameClock_flushIf u was).trans (sameClock_refuseForNode _)
  refine (sameClock_enterDrop s .yield).trans (SameClock.trans (t := (((s.enter .yield).dropServo).modNode fun n =>
    { n with bellwether := false, followed := none, zeroAt := none, join := none, yieldCycle := s.time.cycle,
             looked := better }).modTime fun x => { x with pairs := [] }) ⟨rfl, rfl, rfl, rfl, rfl⟩ ?_)
  exact SameClock.ite ((left _ _).trans (sameClock_toListen _ better)) (left _ _)

theorem sameClock_yieldTo (s : State) (rank node : Nat) : SameClock s (s.yieldTo rank node) := by
  have hcount := (sameClock_toYield s (some (rank, node))).trans (sameClock_count _ .cycle 0 R.CYCLE_YIELDS)
  exact SameClock.ite hcount (hcount.trans (sameClock_raise _ _ _ _))

theorem sameClock_leave (s : State) : SameClock s s.leave :=
  (sameClock_count s .cycle 0 R.CYCLE_LEAVES).trans ((sameClock_raise _ _ _ _).trans (sameClock_toYield _ none))

/-- What a node that goes out of the network for good drops besides its frames: the EVENT frames and its cut. -/
theorem sameClock_dropsAll (s : State) (was : Bool) : SameClock s (if was then s.flushTx else s).dropEvents.refuseForNode :=
  (sameClock_flushIf s was).trans ((sameClock_of_time (by simp (maxDischargeDepth := 30) [Part.same_refl])).trans
    (sameClock_refuseForNode (State.dropEvents _)))

theorem sameClock_modSlate (s : State) (f : SlateSt → SlateSt) : SameClock s (s.modSlate f) := sameClock_of_time rfl

theorem sameClock_modNode (s : State) (f : NodeSt → NodeSt) : SameClock s (s.modNode f) := sameClock_of_time rfl

theorem sameClock_toOff (s : State) : SameClock s s.toOff :=
  (sameClock_enterDrop s .off).trans ((sameClock_modNode _ _).trans ((sameClock_dropsAll _ s.inNet).trans ⟨rfl, rfl, rfl, rfl, rfl⟩))

theorem sameClock_toHalted (s : State) (p detail : Nat) : SameClock s (s.toHalted p detail) := by
  have told : ∀ (u : State) (n : Nat),
      SameClock u (((u.err .cycle 0 0x0142 0 p).raise 0x00A p detail).report 0x0007 (some (n, 0x400)) p) := fun u n =>
    sameClock_of_time (by simp (maxDischargeDepth := 30) [Part.same_refl])
  exact (sameClock_enterDrop s .halted).trans ((sameClock_modNode _ _).trans ((sameClock_dropsAll _ s.inNet).trans (told _ _)))

theorem sameClock_runDeferred (s : State) (d : Deferred) : SameClock s (s.runDeferred d) := by
  cases d with
  | yield _ r n => exact (sameClock_yieldTo s r n).ite (.refl s)
  | leave => exact (sameClock_leave s).ite (.refl s)
  | stop => exact SameClock.ite (.refl s) (sameClock_toOff s)
  | halt p c => exact SameClock.ite (.refl s) (sameClock_toHalted s p c)

theorem sameClock_flushDeferred (s : State) : SameClock s s.flushDeferred := by
  have hrun : SameClock s (s.slate.deferred.foldl State.runDeferred (s.modSlate fun x => { x with deferred := [] })) :=
    (sameClock_modSlate _ _).trans (sameClock_foldl _ _ sameClock_runDeferred _)
  exact SameClock.ite (.refl s) hrun

theorem sameClock_cutCycleStart (s : State) : SameClock s s.cutCycleStart :=
  sameClock_of_time (by simp (maxDischargeDepth := 30) [Part.same_refl])

/-! The moves at a cycle start. -/

theorem sameClock_candidateStart (s : State) : SameClock s s.candidateStart :=
  SameClock.ite ((sameClock_enter s .joined).trans (sameClock_of_time rfl)) (.refl s)

theorem sameClock_abortJoin (s : State) (parent : Nat) : SameClock s (s.abortJoin parent) :=
  (sameClock_count s .cycle 0 R.CYCLE_JOIN_ABORTS).trans ((sameClock_raise _ 0x007 0 parent).trans
    ((sameClock_toListen _ none).trans (sameClock_refuseForNode _)))

theorem sameClock_steppedStart (s : State) : SameClock s s.steppedStart := by
  have hjoin : SameClock s (((s.enter .joined).count .cycle 0 R.CYCLE_JOINS).modNode fun n => { n with join := none }) :=
    (sameClock_enter s .joined).trans ((sameClock_count _ .cycle 0 R.CYCLE_JOINS).trans (sameClock_of_time rfl))
  unfold State.steppedStart
  split
  · exact SameClock.ite (SameClock.ite (SameClock.ite ((hjoin.trans (sameClock_dropServo _)).trans (sameClock_of_time rfl)) hjoin)
      (sameClock_abortJoin s _)) (.refl s)
  · exact .refl s

theorem sameClock_yieldStart (s : State) : SameClock s s.yieldStart := (sameClock_toListen s _).ite (.refl s)

theorem sameClock_compareOffset (s : State) : SameClock s s.compareOffset := by
  have hleave : SameClock s (s.orDefer .leave State.leave) := (sameClock_modSlate _ _).ite (sameClock_leave s)
  have hhold : SameClock s s.toHoldOff := sameClock_of_time (by simp (maxDischargeDepth := 30) [Part.same_refl])
  exact SameClock.ite (.refl s) (hleave.ite (hhold.ite (.refl s)))

theorem sameClock_holdOffStart (s : State) : SameClock s s.holdOffStart :=
  sameClock_of_time (by simp (maxDischargeDepth := 30) [Part.same_refl])

theorem sameClock_nodeStartOfCycle (s : State) : SameClock s s.nodeStartOfCycle := by
  unfold State.nodeStartOfCycle
  split
  · exact sameClock_candidateStart s
  · exact sameClock_steppedStart s
  · exact sameClock_yieldStart s
  · exact sameClock_compareOffset s
  · exact SameClock.ite ((sameClock_compareOffset s).trans (sameClock_holdOffStart _)) (sameClock_compareOffset s)
  · exact .refl s

/-! The pair of the cycle (R70) and the rest of the start. -/

theorem State.pairRing_time (s : State) (start : Nat) (civ : Nat × Nat) (valid : Bool) :
    ∃ wr, (s.pairRing start civ valid).time = { s.time with pairWr := wr } := by
  have hput : ∀ (w : Nat) (bs : List Byte), ((s.store w bs).count .time 0 R.TIME_PAIRS_WRITTEN).time = s.time := fun w bs =>
    (State.count_time ..).trans (show Part.same .time s (s.store w bs) by simp [Part.same_refl])
  unfold State.pairRing
  dsimp only
  split
  · exact ⟨_, rfl⟩
  split
  · exact ⟨s.time.pairWr, State.count_time ..⟩
  · exact ⟨_, congrArg (fun t : TimeSt => { t with pairWr := (t.pairWr + 1) % 2 ^ 32 }) (hput _ _)⟩

/-- Latching the pair of a cycle sets the pair alone. -/
theorem State.latchPair_time (s : State) : ∃ n v fab sec ns wr, s.latchPair.time =
    { s.time with pairCycle := n, pairValid := v, pairFab := fab, pairSec := sec, pairNs := ns, pairWr := wr } := by
  unfold State.latchPair
  dsimp only
  split
  · exact ⟨_, _, _, _, _, _, rfl⟩
  · obtain ⟨wr, hring⟩ := State.pairRing_time (s.modTime fun t =>
      { t with pairCycle := t.cycle, pairValid := s.latchBase.valid, pairFab := roundFrac (s.fab s.time.cycStart) / 2 ^ 16,
               pairSec := (s.latchBase.civil s.time.cycStart).1, pairNs := (s.latchBase.civil s.time.cycStart).2 / wNs })
      s.time.cycStart (s.latchBase.civil s.time.cycStart) s.latchBase.valid
    exact ⟨_, _, _, _, _, wr, hring⟩

/-- What the start of a cycle has done when the clappers are sent: the ports' share, the counts, the pair and the SYNC record. -/
def State.beforeClappers (s : State) : State := ((s.eachPort State.portCycle).countCycle.latchPair).syncRec

theorem State.cycleBegin_eq (s : State) (deps : List (Fin 1024 × Int)) : s.cycleBegin deps = s.beforeClappers.sendClappers deps := rfl

theorem State.portCycles_same (s : State) {pt : Part} (h : pt ≠ .ports) : pt.same s (s.eachPort State.portCycle) :=
  Part.same_foldl _ _ (Part.same_refl _ _) fun _ _ hu => State.portCycle_same _ h hu

/-- Before the clappers are sent, a cycle start changes no more of the time part than the latched pair. -/
theorem State.beforeClappers_time (s : State) : ∃ n v fab sec ns wr, s.beforeClappers.time =
    { s.time with pairCycle := n, pairValid := v, pairFab := fab, pairSec := sec, pairNs := ns, pairWr := wr } := by
  have hcount : (s.eachPort State.portCycle).countCycle.time = s.time :=
    State.countCycle_same (pt := .time) (by decide) (by decide) (by decide) (s.portCycles_same (by decide))
  have hsync : ∀ u : State, u.syncRec.time = u.time := fun u =>
    State.syncRec_same (pt := .time) (by decide) (by decide) (by decide) (by decide) (Part.same_refl _ u)
  obtain ⟨n, v, fab, sec, ns, wr, hpair⟩ := (s.eachPort State.portCycle).countCycle.latchPair_time
  exact ⟨n, v, fab, sec, ns, wr, by rw [State.beforeClappers, hsync, hpair, hcount]⟩

theorem sameClock_cycleBegin (s : State) (deps : List (Fin 1024 × Int)) : SameClock s (s.cycleBegin deps) := by
  obtain ⟨n, v, fab, sec, ns, wr, hbefore⟩ := s.beforeClappers_time
  have hpair : SameClock s s.beforeClappers := ⟨by rw [hbefore], by rw [hbefore], by rw [hbefore], by rw [hbefore], by rw [hbefore]⟩
  exact hpair.trans (sameClock_of_time (show Part.same .time s.beforeClappers (s.beforeClappers.sendClappers deps) by simp [Part.same_refl]))

/-! The start of a cycle as a whole (R46, R370). -/

/-- The state of a cycle start when the node moves: a cut has committed or switched, and what was deferred to it is done. -/
def State.afterCut (s : State) : State := s.endCycle.nextCycle.cutBehind.cutCycleStart.flushDeferred

theorem exec_cycleStart {s : State} (deps : List (Fin 1024 × Int)) (h : s.time.hasCycle = true) :
    exec (.cycleStart deps) s = .next (s.afterCut.nodeStartOfCycle.cycleBegin deps) := by
  simp only [exec, execCycleStart, h, Bool.not_true, Bool.false_eq_true, if_false, State.afterCut]

theorem exec_cycleStart_noCycle {s : State} (deps : List (Fin 1024 × Int)) (h : s.time.hasCycle = false) :
    exec (.cycleStart deps) s = .next s := by
  simp only [exec, execCycleStart, h, Bool.not_false, if_true]

/-- Nothing after the step of the cycle number changes the clock. -/
theorem sameClock_afterNext (s : State) (deps : List (Fin 1024 × Int)) :
    SameClock s.endCycle.nextCycle (s.afterCut.nodeStartOfCycle.cycleBegin deps) :=
  (sameClock_modSlate _ _).trans ((sameClock_cutCycleStart _).trans ((sameClock_flushDeferred _).trans
    ((sameClock_nodeStartOfCycle _).trans (sameClock_cycleBegin _ deps))))

theorem State.endCycle_ticks (s : State) : s.endCycle.ticks = s.ticks :=
  State.ticks_congr (show Part.same .slate s s.endCycle by simp [Part.same_refl])

theorem cycleStart_advances (s : State) (deps : List (Fin 1024 × Int)) : let t := s.afterCut.nodeStartOfCycle.cycleBegin deps
    t.time.cycle = cycMod (s.time.cycle + 1) ∧ t.time.cycStart = s.time.cycStart + s.ticks * wTick ∧
    t.time.prevTicks = s.ticks ∧ t.time.fabOff = s.time.fabOff ∧ s.time.cycStart + s.ticks * wTick ≤ t.time.now := by
  intro t
  have hclock := sameClock_afterNext s deps
  have hend := sameClock_endCycle s
  rw [hclock.cycle, hclock.cycStart, hclock.prevTicks, hclock.fabOff, hclock.now, ← hend.cycle, ← hend.cycStart, ← hend.fabOff,
    ← s.endCycle_ticks]
  simp only [State.nextCycle, State.modTime, State.runTo_time, true_and]
  omega

end Sys2Proof.Machine
end

section
/-! SUPPORT. The registers of the CYCLE page: what a node that leaves, holds off or begins a cycle does to its frames, its jobs, its servo
and its records changes none of them but the counter of the refused cut. -/

namespace Sys2Proof.Machine

open Sys2Proof

/-- What every step of a fold over states and something beside them keeps, the fold keeps. -/
theorem State.foldl_fst_keeps {α β γ : Type} (g : State → γ) (l : List α) (f : State × β → α → State × β)
    (hf : ∀ u x, g (f u x).1 = g u.1) (u : State × β) : g (l.foldl f u).1 = g u.1 := by
  induction l generalizing u with
  | nil => rfl
  | cons x l ih => exact (ih _).trans (hf u x)

section

variable (s : State) {a : Nat} (h : InCyclePage a)
include h

theorem State.find_eccTake_cycle (found : Nat × EccKind → Bool) : smFind (s.eccTake found).regs a = smFind s.regs a := by
  have hcount : ∀ (u : State) (w po : Nat), smFind (u.count .mch (mchOf w) po).regs a = smFind u.regs a := fun u w po =>
    u.find_count_cycle _ _ _ h (.inr (by simp only [pageBase]; omega))
  refine State.find_foldl_other _ _ (fun u e => ?_) _
  unfold State.eccOne State.linkErr
  dsimp only
  repeat' split
  all_goals simp [hcount, State.raise, State.alarmAt]

theorem State.find_store_cycle (w : Nat) (bs : List Byte) : smFind (s.store w bs).regs a = smFind s.regs a := by
  rw [State.store, State.writeMem_regs, State.blur_regs, State.linkTake, State.find_eccTake_cycle _ h]

theorem State.find_notifyId_cycle (i : Nat) : smFind (s.notifyId i).regs a = smFind s.regs a := by
  unfold State.notifyId State.signal
  split <;> exact State.find_count_cycle _ _ _ _ h (by decide)

theorem State.find_episode_cycle (c later : Nat) (sent : Bool) : smFind (s.episode c later sent).regs a = smFind s.regs a := by
  have hfull : ∀ u : State, smFind (u.count .xfer 0 R.XFER_CQ_FULL_EPISODES).regs a = smFind u.regs a := fun u =>
    u.find_count_cycle _ _ _ h (by decide)
  unfold State.episode State.notifyRing
  dsimp only
  repeat' split
  all_goals simp [State.find_notifyId_cycle _ h, hfull]

theorem State.find_complete_cycle (c queue : Nat) (lo hi : Word) : smFind (s.complete c queue lo hi).regs a = smFind s.regs a := by
  have hput : ∀ (u : State), smFind (u.count .xfer 0 R.XFER_COMPLETIONS).regs a = smFind u.regs a := fun u =>
    u.find_count_cycle _ _ _ h (by decide)
  unfold State.complete State.putEntry State.notifyRing
  dsimp only
  repeat' split
  all_goals simp [State.find_episode_cycle _ h, State.find_notifyId_cycle _ h, hput, State.find_store_cycle _ h]

theorem State.find_finishAt_cycle (at_ : Nat) (j : Job) (status : Nat) : smFind (s.finishAt at_ j status).regs a = smFind s.regs a := by
  have hlost : ∀ (u : State), smFind (u.count .xfer 0 R.XFER_TS_LOST_JOBS).regs a = smFind u.regs a := fun u =>
    u.find_count_cycle _ _ _ h (by decide)
  unfold State.finishAt
  dsimp only
  rw [State.find_complete_cycle _ h, State.find_traceAt_cycle _ _ _ _ _ _ _ _ _ _ h]
  repeat' split
  all_goals simp [State.sample_regs, State.sampleOther_regs, hlost]

theorem State.find_departs_cycle : smFind s.departs.regs a = smFind s.regs a :=
  State.find_foldl_other _ _ (fun _ _ => State.find_finishAt_cycle _ h _ _ _) s

theorem State.find_pace_cycle : smFind s.pace.regs a = smFind s.regs a :=
  s.find_pace_other _ (by have := h.2; simp only [pageBase, R.MOVER_PACE_STOPS]; omega)

/-! Frames that leave the transmit buffers of a port. -/

theorem State.find_traceTx_cycle (p : Nat) (fr : TxFrame) (outcome : Nat) : smFind (s.traceTx p fr outcome).regs a = smFind s.regs a :=
  s.find_traceAt_cycle _ _ _ _ _ _ _ _ _ h

omit h in
theorem State.freeTs_regs (id : Nat) : (s.freeTs id).regs = s.regs := by
  unfold State.freeTs
  repeat' split
  all_goals rfl

omit h in
theorem State.replicaDone_regs (id frame member outcome at_ : Nat) : (s.replicaDone id frame member outcome at_).regs = s.regs := by
  unfold State.replicaDone
  dsimp only
  repeat' split
  · exact State.freeTs_regs _ id
  all_goals rfl

theorem State.find_dropFrame_cycle (p : Nat) (fr : TxFrame) (d : Drop) : smFind (s.dropFrame p fr d).regs a = smFind s.regs a := by
  unfold State.dropFrame State.replicaLost
  dsimp only
  split <;> simp [State.replicaDone_regs, State.find_traceTx_cycle _ h, State.find_countP_cycle _ _ _ h]

theorem State.find_leaves_cycle (p : Nat) (fr : TxFrame) (dep fin : Nat) : smFind (s.leaves p fr dep fin).regs a = smFind s.regs a := by
  unfold State.leaves
  split <;> simp [State.replicaDone_regs, State.find_countP_cycle _ _ _ h]

theorem State.find_endFragment_cycle (p : Nat) (x : PTx) (d : Nat) (final : Bool) (reason : Option Nat) :
    smFind (s.endFragment p x d final reason).regs a = smFind s.regs a := by
  unfold State.endFragment
  dsimp only
  split <;> simp [State.find_leaves_cycle _ h, State.find_countP_cycle _ _ _ h]

theorem State.find_endWire_cycle (p : Nat) : smFind (s.endWire p).regs a = smFind s.regs a := by
  unfold State.endWire
  dsimp only
  repeat' split
  all_goals simp [State.find_endFragment_cycle _ h]

theorem State.find_cutWire_cycle (p at_ reason : Nat) : smFind (s.cutWire p at_ reason).regs a = smFind s.regs a := by
  unfold State.cutWire
  dsimp only
  repeat' split
  all_goals simp [State.find_endFragment_cycle _ h]

theorem State.find_finishWire_cycle (p : Nat) : smFind (s.finishWire p).regs a = smFind s.regs a := by
  unfold State.finishWire
  split <;> simp [State.find_endFragment_cycle _ h]

theorem State.find_abandon_cycle (p : Nat) : smFind (s.abandon p).regs a = smFind s.regs a := by
  unfold State.abandon
  dsimp only
  split <;> simp [State.find_dropFrame_cycle _ h]

theorem State.find_flushPort_cycle (p : Nat) : smFind (s.flushPort p).regs a = smFind s.regs a := by
  have hgone : ∀ (u : State) (l : List TxFrame), smFind (l.foldl (fun u f => u.dropFrame p f .nodeLeft) u).regs a = smFind u.regs a :=
    fun u l => State.find_foldl_other _ _ (fun v f => v.find_dropFrame_cycle h p f .nodeLeft) u
  have hlast : ∀ u : State, smFind (if (u.port p).rest.isSome then u.abandon p else u).regs a = smFind u.regs a := by
    intro u
    split
    · exact u.find_abandon_cycle h p
    · rfl
  unfold State.flushPort
  dsimp only
  rw [hlast]
  repeat' split
  all_goals simp [State.find_finishWire_cycle _ h, State.find_endWire_cycle _ h, hgone]

/-- A node that leaves drops its frames (R83). -/
theorem State.find_flushTx_cycle : smFind s.flushTx.regs a = smFind s.regs a := by
  rw [State.flushTx, State.find_pace_cycle _ h, State.find_departs_cycle _ h]
  exact State.find_foldl_other _ _ (fun u p => u.find_flushPort_cycle h p) s

theorem State.find_purgeHeads_cycle (p : Nat) : smFind (s.purgeHeads p).regs a = smFind s.regs a := by
  unfold State.purgeHeads
  dsimp only
  rw [State.modPort_regs]
  refine (State.foldl_fst_keeps (fun u => smFind u.regs a) _ _ (fun u fr => ?_) _).trans rfl
  split
  · rfl
  · split
    · exact State.find_dropFrame_cycle _ h p fr _
    · rfl

theorem State.find_holdPort_cycle (p : Nat) : smFind (s.holdPort p).regs a = smFind s.regs a := by
  rw [State.holdPort, State.find_purgeHeads_cycle _ h, State.find_cutWire_cycle _ h, State.find_endWire_cycle _ h]

/-- A node that holds off keeps its frames to itself (R88). -/
theorem State.find_holdOffTx_cycle : smFind s.holdOffTx.regs a = smFind s.regs a := by
  rw [State.holdOffTx, State.find_pace_cycle _ h, State.find_departs_cycle _ h]
  exact State.find_foldl_other _ _ (fun u p => u.find_holdPort_cycle h p) s

/-! The node's state, its cut and its servo. -/

omit h in
theorem State.adoptBusy_regs (code : Nat) : (s.adoptBusy code).regs = s.regs := by
  unfold State.adoptBusy
  split <;> rfl

theorem State.find_enter_cycle (st : NodeState) : smFind (s.enter st).regs a = smFind s.regs a := by
  unfold State.enter
  dsimp only
  split <;> simp [State.adoptBusy_regs, State.find_traceState_cycle _ _ _ _ _ h]

omit h in
theorem State.release_regs (o : Nat) (rs : List Nat) : (s.release o rs).regs = s.regs := by
  refine State.foldl_keeps (fun u => u.regs) rs _ (fun u r => ?_) s
  unfold State.setOwner
  dsimp only
  repeat' split
  all_goals rfl

/-- A cut that is refused because the node leaves is counted in the CYCLE page (R115). -/
theorem State.find_refuseForNode_cycle (hne : a ≠ pageBase .cycle 0 + R.CYCLE_CUTS_REFUSED) :
    smFind s.refuseForNode.regs a = smFind s.regs a := by
  unfold State.refuseForNode State.refuseCut State.setCut
  dsimp only
  split <;> simp [State.find_count_other _ _ _ _ _ hne, State.find_traceState_cycle _ _ _ _ _ h, State.release_regs]

theorem State.find_toListen_cycle (keep : Option (Nat × Nat)) : smFind (s.toListen keep).regs a = smFind s.regs a := by
  have hforgot : ∀ u : State, u.forgetQual.regs = u.regs := fun u =>
    State.foldl_keeps (fun v => v.regs) _ _ (fun v p => State.modPort_regs v p _) u
  unfold State.toListen State.startListen State.dropServo State.setRate
  simp [State.find_enter_cycle _ h, hforgot]

/-! The start of a cycle. -/

theorem State.find_pairRing_cycle (start : Nat) (civ : Nat × Nat) (valid : Bool) :
    smFind (s.pairRing start civ valid).regs a = smFind s.regs a := by
  have hskipped : ∀ u : State, smFind (u.count .time 0 R.TIME_PAIRS_SKIPPED).regs a = smFind u.regs a := fun u =>
    u.find_count_cycle _ _ _ h (by decide)
  have hwritten : ∀ u : State, smFind (u.count .time 0 R.TIME_PAIRS_WRITTEN).regs a = smFind u.regs a := fun u =>
    u.find_count_cycle _ _ _ h (by decide)
  unfold State.pairRing
  dsimp only
  repeat' split
  all_goals simp [hskipped, hwritten, State.find_store_cycle _ h]

theorem State.find_latchPair_cycle : smFind s.latchPair.regs a = smFind s.regs a := by
  unfold State.latchPair
  dsimp only
  split
  · rfl
  · rw [State.find_pairRing_cycle _ h, State.modTime_regs]

theorem State.find_beforeClappers_cycle : smFind s.beforeClappers.regs a = smFind s.regs a := by
  have hsync : ∀ u : State, smFind u.syncRec.regs a = smFind u.regs a := by
    intro u
    unfold State.syncRec
    dsimp only
    split
    · rfl
    · exact u.find_traceAt_cycle _ _ _ _ _ _ _ _ _ h
  have hcount : ∀ u : State, u.countCycle.regs = u.regs := fun u =>
    show Part.same .regs u u.countCycle from State.countCycle_same (by decide) (by decide) (by decide) (Part.same_refl _ u)
  have hports : (s.eachPort State.portCycle).regs = s.regs := State.foldl_keeps (fun u => u.regs) _ _ (fun u p => u.modPort_regs p _) s
  rw [State.beforeClappers, hsync, State.find_latchPair_cycle _ h, hcount, hports]

theorem State.find_started_cycle (p cls tDep : Nat) (fr : Option TxFrame) :
    smFind (s.started p cls tDep fr).regs a = smFind s.regs a := by
  have hlost : ∀ u : State, smFind (u.count .time 0 R.TIME_DIAG_TS_LOST).regs a = smFind u.regs a := fun u =>
    u.find_count_cycle _ _ _ h (by decide)
  have hcapture : ∀ (u : State) (id stamp : Nat) (sus : Bool), smFind (u.captureTs id p stamp sus).regs a = smFind u.regs a := by
    intro u id stamp sus
    have hcount : ∀ v : State, smFind (v.count .pgrp (p / 16) R.PGRP_TS_CAPTURED).regs a = smFind v.regs a := fun v =>
      v.find_count_cycle _ _ _ h (.inr (by simp only [pageBase]; omega))
    unfold State.captureTs
    repeat' split
    · exact (hcount _).trans (congrArg (smFind · a) (u.freeTs_regs id))
    all_goals rfl
  unfold State.started
  dsimp only
  repeat' split
  all_goals simp [hcapture, hlost, State.find_traceTx_cycle _ h, State.sample_regs]

theorem State.find_clapperOut_cycle (p : Nat) (f : Frame) (first tDep : Nat) :
    smFind (s.clapperOut p f first tDep).regs a = smFind s.regs a := by
  simp [State.clapperOut, State.find_started_cycle _ h]

/-- The clapper of one port at a cycle start (R48). -/
def State.portClapper (deps : List (Fin 1024 × Int)) (t : State) (p : Nat) : State :=
  if t.clapperDue p then
    let u := t.cutWire p t.time.cycStart R.PORT_TX_PREEMPT_EXPRESS
    u.sendClapper p (u.clapperCorr deps p)
  else t

omit h in
theorem State.sendClappers_eq (deps : List (Fin 1024 × Int)) : s.sendClappers deps = (smKeys s.ports).foldl (State.portClapper deps) s := rfl

theorem State.find_portClapper_cycle (deps : List (Fin 1024 × Int)) (p : Nat) :
    smFind (s.portClapper deps p).regs a = smFind s.regs a := by
  unfold State.portClapper State.sendClapper
  dsimp only
  split
  · rw [State.find_countP_cycle _ _ _ h, State.find_clapperOut_cycle _ h, State.find_cutWire_cycle _ h]
  · rfl

theorem State.find_cycleBegin_cycle (deps : List (Fin 1024 × Int)) : smFind (s.cycleBegin deps).regs a = smFind s.regs a := by
  rw [State.cycleBegin_eq, State.sendClappers_eq]
  exact (State.find_foldl_other _ _ (fun u p => u.find_portClapper_cycle h deps p) _).trans (s.find_beforeClappers_cycle h)

end

end Sys2Proof.Machine
end

section
/-! SUPPORT. The moves of the node at a cycle start (R78, R83, R86, R88 to R90): the node's state after each, and the counter of the CYCLE
page that it raises. -/

namespace Sys2Proof.Machine

open Sys2Proof

/-! What the shared operations set of the node. -/

theorem State.enter_node (s : State) (st : NodeState) : (s.enter st).node = { s.node with state := st, resume := 0 } := by
  have hbusy : ∀ u : State, (u.adoptBusy st.code).node = u.node := fun u =>
    show Part.same .node u (u.adoptBusy st.code) by simp [Part.same_refl]
  have htrace : ((s.modNode fun n => { n with state := st, resume := 0 }).traceState 0 1 st.code 0).node =
      { s.node with state := st, resume := 0 } := State.traceState_node ..
  unfold State.enter
  dsimp only
  split
  · exact htrace
  · exact (hbusy _).trans htrace

theorem State.refuseForNode_node (s : State) : s.refuseForNode.node = s.node :=
  show Part.same .node s s.refuseForNode by simp [Part.same_refl]

theorem State.dropServo_node (s : State) : s.dropServo.node = s.node := rfl

theorem State.dropServo_regs (s : State) : s.dropServo.regs = s.regs := rfl

theorem State.flushTx_node (s : State) : s.flushTx.node = s.node :=
  show Part.same .node s s.flushTx by simp [Part.same_refl]

theorem State.cycleBegin_node (s : State) (deps : List (Fin 1024 × Int)) : (s.cycleBegin deps).node = s.node :=
  show Part.same .node s (s.cycleBegin deps) by simp [Part.same_refl]

theorem State.toListen_node (s : State) (keep : Option (Nat × Nat)) : let n := (s.toListen keep).node
    n.state = .listen ∧ n.followed = none ∧ n.looked = keep := by
  have hforgot : (((s.enter .listen).dropServo).forgetQual).node.state = .listen := by
    rw [show ((s.enter .listen).dropServo).forgetQual.node = (s.enter .listen).node from
      State.foldl_keeps (fun u => u.node) _ _ (fun u p => u.modPort_node p _) _, State.enter_node]
  exact ⟨hforgot, rfl, rfl⟩

/-- The node of YIELD, before its frames and its cut are dropped. -/
def State.yields (s : State) (better : Option (Nat × Nat)) : State :=
  (((s.enter .yield).dropServo).modNode fun n =>
    { n with bellwether := false, followed := none, zeroAt := none, join := none, yieldCycle := s.time.cycle,
             looked := better }).modTime fun t => { t with pairs := [] }

/-- A node with a cycle that gives way is in YIELD; its frames and its cut are dropped. -/
theorem State.toYield_cycle {s : State} (better : Option (Nat × Nat)) (hcyc : s.time.hasCycle = true) (hcand : s.node.state ≠ .candidate) :
    s.toYield better = (if s.inNet then (s.yields better).flushTx else s.yields better).refuseForNode := by
  refine if_neg ?_
  simp [hcyc, hcand]

theorem State.toYield_node {s : State} (better : Option (Nat × Nat)) (hcyc : s.time.hasCycle = true) (hcand : s.node.state ≠ .candidate) :
    let n := (s.toYield better).node
    n.state = .yield ∧ n.looked = better := by
  have hnode : (s.toYield better).node = (s.yields better).node := by
    rw [State.toYield_cycle better hcyc hcand, State.refuseForNode_node]
    split
    · exact State.flushTx_node _
    · rfl
  rw [hnode]
  refine ⟨?_, rfl⟩
  simp only [State.yields, State.modTime, State.modNode, State.dropServo_node, State.enter_node]

theorem State.find_toYield_cycle {s : State} {a : Nat} (better : Option (Nat × Nat)) (hcyc : s.time.hasCycle = true)
    (hcand : s.node.state ≠ .candidate) (h : InCyclePage a) (hne : a ≠ pageBase .cycle 0 + R.CYCLE_CUTS_REFUSED) :
    smFind (s.toYield better).regs a = smFind s.regs a := by
  have hyields : smFind (s.yields better).regs a = smFind s.regs a := by
    simp only [State.yields, State.modTime_regs, State.modNode_regs, State.dropServo_regs, State.find_enter_cycle _ h]
  rw [State.toYield_cycle better hcyc hcand, State.find_refuseForNode_cycle _ h hne]
  split
  · rw [State.find_flushTx_cycle _ h, hyields]
  · exact hyields

/-! The counters of the moves. -/

/-- A counter of the CYCLE page that a move has raised is what it is when the cycle has begun. -/
theorem counted_cycleBegin {po : Nat} {v w : State} (deps : List (Fin 1024 × Int)) (hpo : po < 0x1000) (h : Counted .cycle 0 po v w) :
    Counted .cycle 0 po v (w.cycleBegin deps) :=
  counted_of_find h (w.find_cycleBegin_cycle (inCyclePage_reg hpo) deps)

/-! The moves. -/

theorem State.nodeStart_candidate {v : State} (hs : v.node.state = .candidate) (hz : v.node.zeroAt = none)
    (hc : 0 ≤ cycDiff v.time.cycle 3) : let n := v.nodeStartOfCycle.node
    n.state = .joined ∧ n.bellwether = true := by
  intro n
  have hmove : v.nodeStartOfCycle = (v.enter .joined).modNode fun n => { n with bellwether := true } := by
    simp [State.nodeStartOfCycle, hs, State.candidateStart, hz, hc]
  simp only [n, hmove, State.modNode, State.enter_node, and_self]

theorem State.nodeStart_joins {v : State} {j : Join} (hs : v.node.state = .stepped) (hj : v.node.join = some j)
    (hst : j.stepped = true) (hc : 0 ≤ cycDiff v.time.cycle (j.n + 3)) (hok : j.checked = true) : let w := v.nodeStartOfCycle
    w.node.state = .joined ∧ w.node.join = none ∧ Counted .cycle 0 R.CYCLE_JOINS v w := by
  intro w
  obtain ⟨u, hu⟩ : ∃ u, u = (v.enter .joined).count .cycle 0 R.CYCLE_JOINS := ⟨_, rfl⟩
  have hjoins : Counted .cycle 0 R.CYCLE_JOINS v u :=
    hu ▸ counted_from (counted_count .cycle 0 R.CYCLE_JOINS (v.enter .joined)) (v.find_enter_cycle (inCyclePage_reg (by decide)) .joined)
  have hstate : u.node.state = .joined := by rw [hu, State.count_node, State.enter_node]
  have hmove : w = (let s1 := u.modNode fun n => { n with join := none }
      if s1.node.followed = some s1.ownTb then s1.dropServo.modNode fun n => { n with bellwether := true } else s1) := by
    simp only [w, State.nodeStartOfCycle, hs, State.steppedStart, hj, hst, hc, hok, hu, and_self, if_true]
  rw [hmove]
  dsimp only
  split <;> exact ⟨hstate, rfl, hjoins⟩

theorem State.nodeStart_aborts {v : State} {j : Join} (hs : v.node.state = .stepped) (hj : v.node.join = some j)
    (hst : j.stepped = true) (hc : 0 ≤ cycDiff v.time.cycle (j.n + 3)) (hbad : j.checked = false) : let w := v.nodeStartOfCycle
    w.node.state = .listen ∧ w.node.followed = none ∧ Counted .cycle 0 R.CYCLE_JOIN_ABORTS v w := by
  intro w
  have hmove : w = v.abortJoin j.parent := by
    simp [w, State.nodeStartOfCycle, hs, State.steppedStart, hj, hst, hc, hbad]
  have hcycle : InCyclePage (pageBase .cycle 0 + R.CYCLE_JOIN_ABORTS) := inCyclePage_reg (by decide)
  obtain ⟨hstate, hfollowed, _⟩ := State.toListen_node ((v.count .cycle 0 R.CYCLE_JOIN_ABORTS).raise 0x007 0 j.parent) none
  rw [hmove, State.abortJoin, State.refuseForNode_node]
  refine ⟨hstate, hfollowed, counted_of_find (counted_count .cycle 0 R.CYCLE_JOIN_ABORTS v) ?_⟩
  rw [State.find_refuseForNode_cycle _ hcycle (by decide), State.find_toListen_cycle _ hcycle, State.raise_regs]

theorem State.nodeStart_yields {v : State} (hs : v.node.state = .yield) (hc : 0 ≤ cycDiff v.time.cycle (v.node.yieldCycle + 2)) :
    let n := v.nodeStartOfCycle.node
    n.state = .listen ∧ n.looked = v.node.looked := by
  have hmove : v.nodeStartOfCycle = v.toListen v.node.looked := by
    simp [State.nodeStartOfCycle, hs, State.yieldStart, hc]
  obtain ⟨hstate, _, hlooked⟩ := State.toListen_node v v.node.looked
  rw [hmove]
  exact ⟨hstate, hlooked⟩

theorem State.nodeStart_leaves {v : State} (hin : v.inNet = true) (hb : v.node.bellwether = false)
    (habove : v.offsetAbove v.limLeave = true) (hw : v.finalWindow = false) (hcyc : v.time.hasCycle = true) :
    let w := v.nodeStartOfCycle
    w.node.state = .yield ∧ w.node.looked = none ∧ Counted .cycle 0 R.CYCLE_LEAVES v w := by
  intro w
  obtain ⟨u, hu⟩ : ∃ u, u = (v.count .cycle 0 R.CYCLE_LEAVES).raise 0x009 0 (min v.estPs 0xFFFFFFFF) := ⟨_, rfl⟩
  have hleave : v.compareOffset = u.toYield none := by
    simp [State.compareOffset, hin, hb, habove, State.orDefer, hw, State.leave, hu]
  have hunode : u.node = v.node := by rw [hu]; exact State.count_node ..
  have hcand : u.node.state ≠ .candidate := by
    rw [hunode]
    intro hc
    simp [State.inNet, hc] at hin
  have hucyc : u.time.hasCycle = true := by rw [hu]; exact (congrArg TimeSt.hasCycle (State.count_time ..)).trans hcyc
  obtain ⟨hstate, hlooked⟩ := State.toYield_node none hucyc hcand
  have hmove : w = u.toYield none := by
    have hstates : v.node.state = .joined ∨ v.node.state = .holdOff := by simpa [State.inNet] using hin
    rcases hstates with hs | hs
    · simp only [w, State.nodeStartOfCycle, hs, hleave]
    · simp only [w, State.nodeStartOfCycle, hs, hleave, hstate]
      rfl
  rw [hmove]
  refine ⟨hstate, hlooked, counted_of_find (counted_count .cycle 0 R.CYCLE_LEAVES v) ?_⟩
  rw [State.find_toYield_cycle none hucyc hcand (inCyclePage_reg (by decide)) (by decide), hu, State.raise_regs]

theorem State.nodeStart_holdsOff {v : State} (hs : v.node.state = .joined) (hb : v.node.bellwether = false)
    (hleave : v.offsetAbove v.limLeave = false) (habove : v.offsetAbove v.limHoldOff = true) : let w := v.nodeStartOfCycle
    w.node.state = .holdOff ∧ Counted .cycle 0 R.CYCLE_HOLDOFF_ENTRIES v w := by
  intro w
  have hmove : w = v.toHoldOff := by
    simp [w, State.nodeStartOfCycle, hs, State.compareOffset, State.inNet, hb, hleave, habove]
  have hcycle : InCyclePage (pageBase .cycle 0 + R.CYCLE_HOLDOFF_ENTRIES) := inCyclePage_reg (by decide)
  have htx : ∀ u : State, u.holdOffTx.node = u.node := fun u =>
    show Part.same .node u u.holdOffTx by simp [Part.same_refl]
  have hcount := counted_from (counted_count .cycle 0 R.CYCLE_HOLDOFF_ENTRIES (v.enter .holdOff)) (v.find_enter_cycle hcycle .holdOff)
  rw [hmove, State.toHoldOff]
  refine ⟨?_, counted_of_find hcount (State.find_holdOffTx_cycle _ hcycle)⟩
  rw [htx, State.raise_node, State.count_node, State.enter_node]

theorem State.nodeStart_resumes {v : State} (hs : v.node.state = .holdOff) (hleave : v.offsetAbove v.limLeave = false) :
    let n := v.nodeStartOfCycle.node
    n.state = (if v.offsetBelow v.limResume ∧ 7 ≤ v.node.resume then .joined else .holdOff) ∧
    n.resume = (if v.offsetBelow v.limResume ∧ v.node.resume < 7 then v.node.resume + 1 else 0) := by
  have hsame : v.compareOffset = v := by
    simp [State.compareOffset, hleave, hs]
  have hmove : v.nodeStartOfCycle = v.holdOffStart := by
    simp only [State.nodeStartOfCycle, hs, hsame, if_true]
  rw [hmove, State.holdOffStart]
  dsimp only
  by_cases hbelow : v.offsetBelow v.limResume = true
  · by_cases hlast : 7 ≤ v.node.resume
    · simp [hbelow, hlast, State.enter_node]
    · simp [hbelow, hlast, hs, State.modNode]
  · simp [hbelow, hs, State.modNode]

end Sys2Proof.Machine
end

section
/-! SUPPORT. The clappers of a cycle start (R48, R49): each port sends its own, and what one port sends changes nothing that another's
clapper says. -/

namespace Sys2Proof.Machine

open Sys2Proof

/-! Ports that are listed. -/

theorem mem_smKeys_of_find {α : Type} {m : SMap α} {k : Nat} {v : α} (h : smFind m k = some v) : k ∈ smKeys m := by
  induction m with
  | nil => exact absurd h (by simp [smFind])
  | cons c m ih =>
    simp only [smFind] at h
    simp only [smKeys, List.map_cons, List.mem_cons]
    split at h
    · next hk => exact .inl hk.symm
    · exact .inr (ih h)

/-- A port that is in UP has a state of its own. -/
theorem State.isUp_listed {s : State} {p : Nat} (h : s.isUp p = true) : p ∈ smKeys s.ports := by
  cases hp : smFind s.ports p with
  | some q => exact mem_smKeys_of_find hp
  | none =>
    have hport : s.port p = {} := by simp only [State.port, smGet, hp, Option.getD_none]
    simp [State.isUp, hport] at h

theorem State.isUp_of_clapperDue {s : State} {p : Nat} (h : s.clapperDue p = true) : s.isUp p = true := by
  simp only [State.clapperDue, Bool.and_eq_true] at h
  obtain ⟨⟨⟨⟨hup, _⟩, _⟩, _⟩, _⟩ := h
  exact hup

/-! What the clapper of a port reads. -/

/-- Two states in which the clapper of a port reads the same. -/
structure SameClapper (p : Nat) (s t : State) : Prop where
  link : (t.port p).link = (s.port p).link
  timeCfg : (t.port p).timeCfg = (s.port p).timeCfg
  wire : (t.port p).wire = (s.port p).wire
  laneFree : (t.port p).laneFree = (s.port p).laneFree
  node : t.node = s.node
  slate : t.slate = s.slate
  pwr : t.pwr = s.pwr
  cycle : t.time.cycle = s.time.cycle
  cycStart : t.time.cycStart = s.time.cycStart
  fabOff : t.time.fabOff = s.time.fabOff
  parentSteps : t.time.parentSteps = s.time.parentSteps
  regs : SameCycleRegs s t

section

variable {p : Nat} {s t : State} (h : SameClapper p s t)
include h

theorem SameClapper.trans {u : State} (h' : SameClapper p t u) : SameClapper p s u where
  link := h'.link.trans h.link
  timeCfg := h'.timeCfg.trans h.timeCfg
  wire := h'.wire.trans h.wire
  laneFree := h'.laneFree.trans h.laneFree
  node := h'.node.trans h.node
  slate := h'.slate.trans h.slate
  pwr := h'.pwr.trans h.pwr
  cycle := h'.cycle.trans h.cycle
  cycStart := h'.cycStart.trans h.cycStart
  fabOff := h'.fabOff.trans h.fabOff
  parentSteps := h'.parentSteps.trans h.parentSteps
  regs := fun a ha => (h'.regs a ha).trans (h.regs a ha)

theorem SameClapper.clapperDue : t.clapperDue p = s.clapperDue p := by
  simp only [State.clapperDue, State.isUp, State.inNet, h.link, h.timeCfg, h.node, h.pwr]

theorem SameClapper.wByte : t.wByte p = s.wByte p := by
  simp only [State.wByte, State.bytesPerTick, h.link]

theorem SameClapper.clapperPayload (corr : Int) : t.clapperPayload corr = s.clapperPayload corr := by
  have hrank : t.rank = s.rank := h.regs.regF (by decide) _ _
  simp only [State.clapperPayload, State.ownTb, State.fab, hrank, h.regs.nodeId, State.ticks_congr h.slate, h.node, h.cycle, h.cycStart,
    h.fabOff, h.parentSteps]

end

/-! The clapper of one port. -/

theorem State.endFragment_other (s : State) (p q : Nat) (x : PTx) (d : Nat) (reason : Option Nat) (h : q ≠ p) :
    (s.endFragment p x d false reason).port q = s.port q := by
  simp only [State.endFragment, Bool.false_eq_true, if_false, State.port_countP]
  exact State.port_modPort_other _ _ _ _ h

theorem State.cutWire_other (s : State) (p q at_ reason : Nat) (h : q ≠ p) : (s.cutWire p at_ reason).port q = s.port q := by
  unfold State.cutWire
  dsimp only
  split
  · split
    · exact State.endFragment_other _ _ _ _ _ _ h
    · rfl
  · rfl

theorem State.cutWire_idle {s : State} {p : Nat} (at_ reason : Nat) (h : (s.port p).wire = none) : s.cutWire p at_ reason = s := by
  simp only [State.cutWire, h]

theorem State.started_port (s : State) (p cls tDep q : Nat) (fr : Option TxFrame) : (s.started p cls tDep fr).port q = s.port q :=
  State.port_congr (show Part.same .ports s (s.started p cls tDep fr) by simp [Part.same_refl]) q

theorem State.sendClapper_other (s : State) (p q : Nat) (corr : Int) (h : q ≠ p) : (s.sendClapper p corr).port q = s.port q := by
  simp only [State.sendClapper, State.clapperOut, State.port_countP, State.started_port]
  exact (State.port_congr (State.out_ports ..) q).trans (State.port_modPort_other _ _ _ _ h)

theorem State.portClapper_other (s : State) (deps : List (Fin 1024 × Int)) (q p : Nat) (h : p ≠ q) :
    (s.portClapper deps q).port p = s.port p := by
  unfold State.portClapper
  dsimp only
  split
  · rw [State.sendClapper_other _ _ _ _ h, State.cutWire_other _ _ _ _ _ h]
  · rfl

/-- The clapper of a port changes nothing outside the port's transmit side, its counters and its records. -/
theorem State.portClapper_same (s : State) (deps : List (Fin 1024 × Int)) (q : Nat) {pt : Part}
    (h0 : pt = .time ∨ pt = .node ∨ pt = .slate ∨ pt = .pwr) :
    pt.same s (s.portClapper deps q) := by
  unfold State.portClapper State.sendClapper
  rcases h0 with rfl | rfl | rfl | rfl <;> simp (maxDischargeDepth := 30) [Part.same_refl]

theorem sameClapper_portClapper (s : State) (deps : List (Fin 1024 × Int)) {p q : Nat} (h : p ≠ q) : SameClapper p s (s.portClapper deps q) := by
  have hport := s.portClapper_other deps q p h
  have htime : (s.portClapper deps q).time = s.time := s.portClapper_same deps q (pt := .time) (by decide)
  exact
    { link := by rw [hport]
      timeCfg := by rw [hport]
      wire := by rw [hport]
      laneFree := by rw [hport]
      node := s.portClapper_same deps q (pt := .node) (by decide)
      slate := s.portClapper_same deps q (pt := .slate) (by decide)
      pwr := s.portClapper_same deps q (pt := .pwr) (by decide)
      cycle := by rw [htime]
      cycStart := by rw [htime]
      fabOff := by rw [htime]
      parentSteps := by rw [htime]
      regs := fun a ha => s.find_portClapper_cycle ha deps q }

/-! What is put out. -/

theorem State.endFragment_outs (s : State) (p : Nat) (x : PTx) (d : Nat) (reason : Option Nat) :
    (s.endFragment p x d false reason).outs = s.outs ++
      [.fragment p (x.frags = 0) x.frameNo ((x.frags + 3) % 4) false (((frameBytes x.fr.frame).drop x.sent).take d)] := by
  simp only [State.endFragment, Bool.false_eq_true, if_false, State.countP_outs, State.modPort_outs]
  rfl

theorem State.cutWire_outs (s : State) (p at_ reason : Nat) : ∃ l, (s.cutWire p at_ reason).outs = s.outs ++ l := by
  have hkeep : ∃ l, s.outs = s.outs ++ l := ⟨[], (List.append_nil _).symm⟩
  unfold State.cutWire
  dsimp only
  split
  · split
    · exact ⟨_, s.endFragment_outs p _ _ (some reason)⟩
    · exact hkeep
  · exact hkeep

theorem State.sendClapper_outs (s : State) (p : Nat) (corr : Int) :
    (s.sendClapper p corr).outs = s.outs ++ [.frame p (s.llFrame p tClapper (s.clapperPayload corr)) true] := by
  have hstarted : ∀ (u : State) (dep : Nat) (fr : Option TxFrame), (u.started p 7 dep fr).outs = u.outs := fun u dep fr =>
    show Part.same .outs u (u.started p 7 dep fr) by simp [Part.same_refl]
  rw [State.sendClapper, State.countP_outs, State.clapperOut, hstarted]
  rfl

theorem State.portClapper_outs (s : State) (deps : List (Fin 1024 × Int)) (q : Nat) : ∃ l, (s.portClapper deps q).outs = s.outs ++ l := by
  unfold State.portClapper
  dsimp only
  split
  · obtain ⟨l, hl⟩ := s.cutWire_outs q s.time.cycStart R.PORT_TX_PREEMPT_EXPRESS
    exact ⟨_, (State.sendClapper_outs _ q _).trans ((congrArg (· ++ _) hl).trans (List.append_assoc ..))⟩
  · exact ⟨[], (List.append_nil _).symm⟩

/-- What is out stays out while other ports send. -/
theorem State.mem_outs_portClappers {o : Out} (deps : List (Fin 1024 × Int)) (l : List Nat) :
    ∀ s : State, o ∈ s.outs → o ∈ (l.foldl (State.portClapper deps) s).outs := by
  induction l with
  | nil => exact fun _ h => h
  | cons q l ih =>
    intro s h
    obtain ⟨m, hm⟩ := s.portClapper_outs deps q
    exact ih _ (hm ▸ List.mem_append_left m h)

theorem sameClapper_refl (p : Nat) (s : State) : SameClapper p s s := ⟨rfl, rfl, rfl, rfl, rfl, rfl, rfl, rfl, rfl, rfl, rfl, fun _ _ => rfl⟩

theorem sameClapper_portClappers {p : Nat} (deps : List (Fin 1024 × Int)) (l : List Nat) (hp : p ∉ l) :
    ∀ s : State, SameClapper p s (l.foldl (State.portClapper deps) s) := by
  induction l with
  | nil => exact sameClapper_refl p
  | cons q l ih =>
    intro s
    obtain ⟨hpq, hpl⟩ := not_or.1 (fun hc => hp (List.mem_cons.2 hc))
    exact (sameClapper_portClapper s deps hpq).trans (ih hpl _)

/-- A port with nothing on its lane starts its clapper at the cycle start, with the correction of the nominal departure (R48, R49). -/
theorem State.clapperCorr_idle {s : State} {p : Nat} {deps : List (Fin 1024 × Int)} (hlane : (s.port p).laneFree ≤ s.time.cycStart)
    (hdeps : (deps.find? fun d => d.1.val == p) = none) : s.clapperCorr deps p = ((8 * s.wByte p + 62) / wFrac : Nat) := by
  simp only [State.clapperCorr, hdeps, State.nominalCorr, State.clapperStart, Nat.max_eq_left hlane, Nat.sub_self, Nat.zero_add]

/-- The clapper of an idle port that sends one is among what is put out when every port has sent its own. -/
theorem State.sendClappers_sent {s : State} {p : Nat} {deps : List (Fin 1024 × Int)} (hdue : s.clapperDue p = true)
    (hwire : (s.port p).wire = none) (hlane : (s.port p).laneFree ≤ s.time.cycStart)
    (hdeps : (deps.find? fun d => d.1.val == p) = none) :
    ∃ u : State, .frame p (u.llFrame p tClapper (s.clapperPayload ((8 * s.wByte p + 62) / wFrac : Nat))) true ∈ (s.sendClappers deps).outs := by
  obtain ⟨before, after, hlist, hfirst⟩ := List.eq_append_cons_of_mem (State.isUp_listed (State.isUp_of_clapperDue hdue))
  obtain ⟨u, hu⟩ : ∃ u, u = before.foldl (State.portClapper deps) s := ⟨_, rfl⟩
  have hsame : SameClapper p s u := hu ▸ sameClapper_portClappers deps before hfirst s
  have hstep : u.portClapper deps p = u.sendClapper p (u.clapperCorr deps p) := by
    have hidle : u.cutWire p u.time.cycStart R.PORT_TX_PREEMPT_EXPRESS = u := State.cutWire_idle _ _ (hsame.wire.trans hwire)
    unfold State.portClapper
    dsimp only
    rw [if_pos (hsame.clapperDue.trans hdue), hidle]
  have hcorr : u.clapperCorr deps p = ((8 * s.wByte p + 62) / wFrac : Nat) := by
    rw [State.clapperCorr_idle (by rw [hsame.laneFree, hsame.cycStart]; exact hlane) hdeps, hsame.wByte]
  refine ⟨u, ?_⟩
  rw [State.sendClappers_eq, hlist, List.foldl_append, List.foldl_cons, ← hu, hstep, hcorr]
  refine State.mem_outs_portClappers deps after _ ?_
  rw [State.sendClapper_outs, hsame.clapperPayload]
  exact List.mem_append_right _ (List.mem_singleton_self _)

/-! Before the clappers are sent. -/

theorem State.portCycle_port (s : State) (p : Nat) : let q := (s.portCycle p).port p
    q.link = (s.port p).link ∧ q.wire = (s.port p).wire ∧ q.laneFree = (s.port p).laneFree ∧
    q.timeCfg = s.regF .port p R.PORT_TIME_CFG 7 0 := by
  intro q
  have hq : q = _ := State.port_modPort_same ..
  rw [hq]
  exact ⟨rfl, rfl, rfl, rfl⟩

theorem State.portCycle_other (s : State) {p q : Nat} (h : p ≠ q) : (s.portCycle q).port p = s.port p :=
  State.port_modPort_other _ _ _ _ h

/-- The cycle starts of the ports leave a port's link, its wire and its lane as they are, and its TIME_CFG is the register's once its own
cycle has started. -/
theorem State.portCycles_port {p : Nat} (l : List Nat) :
    ∀ s : State, let q := (l.foldl (fun t x => t.portCycle x) s).port p
      q.link = (s.port p).link ∧ q.wire = (s.port p).wire ∧ q.laneFree = (s.port p).laneFree ∧
      (p ∈ l ∨ (s.port p).timeCfg = s.regF .port p R.PORT_TIME_CFG 7 0 → q.timeCfg = s.regF .port p R.PORT_TIME_CFG 7 0) := by
  induction l with
  | nil => exact fun s => ⟨rfl, rfl, rfl, fun h => h.resolve_left (List.not_mem_nil)⟩
  | cons x l ih =>
    intro s
    obtain ⟨hlink, hwire, hlane, hcfg⟩ := ih (s.portCycle x)
    by_cases hpx : p = x
    · subst hpx
      obtain ⟨hlink', hwire', hlane', hcfg'⟩ := s.portCycle_port p
      exact ⟨hlink.trans hlink', hwire.trans hwire', hlane.trans hlane', fun _ => hcfg (.inr hcfg')⟩
    · rw [s.portCycle_other hpx] at hlink hwire hlane hcfg
      exact ⟨hlink, hwire, hlane, fun h => hcfg (h.imp_left fun hmem => (List.mem_cons.1 hmem).resolve_left hpx)⟩

theorem State.beforeClappers_ports (s : State) : s.beforeClappers.ports = (s.eachPort State.portCycle).ports := by
  have hrest : ∀ u : State, (u.countCycle.latchPair).syncRec.ports = u.ports := fun u =>
    show Part.same .ports u (u.countCycle.latchPair).syncRec by simp (maxDischargeDepth := 30) [Part.same_refl]
  exact hrest _

/-- When the clappers are sent, a listed port's clapper reads what it read when the port's cycle had started. -/
theorem sameClapper_beforeClappers {s : State} {p : Nat} (hp : p ∈ smKeys s.ports) :
    SameClapper p (s.portCycle p) s.beforeClappers := by
  obtain ⟨hlink, hwire, hlane, hcfg⟩ := State.portCycles_port (p := p) (smKeys s.ports) s
  obtain ⟨hlink', hwire', hlane', hcfg'⟩ := s.portCycle_port p
  have hport : s.beforeClappers.port p = ((smKeys s.ports).foldl (fun t x => t.portCycle x) s).port p :=
    State.port_congr s.beforeClappers_ports p
  obtain ⟨n, v, fab, sec, ns, wr, htime⟩ := s.beforeClappers_time
  have hsame : ∀ pt : Part, pt = .node ∨ pt = .slate ∨ pt = .pwr → pt.same s s.beforeClappers := by
    intro pt hpt
    unfold State.beforeClappers
    rcases hpt with rfl | rfl | rfl <;> simp (maxDischargeDepth := 30) [State.portCycles_same]
  exact
    { link := by rw [hport, hlink, hlink']
      timeCfg := by rw [hport, hcfg (.inl hp), hcfg']
      wire := by rw [hport, hwire, hwire']
      laneFree := by rw [hport, hlane, hlane']
      node := hsame .node (by decide)
      slate := hsame .slate (by decide)
      pwr := hsame .pwr (by decide)
      cycle := by rw [htime]; rfl
      cycStart := by rw [htime]; rfl
      fabOff := by rw [htime]; rfl
      parentSteps := by rw [htime]; rfl
      regs := fun a ha => s.find_beforeClappers_cycle ha }

theorem State.clapperPayload_eq (s : State) (corr : Int) : let x := s.node.followed.getD s.ownTb
    s.clapperPayload corr = clapperBytes s.time.cycle (roundFrac (s.fab s.time.cycStart)) corr x.1 x.2
      (if s.node.bellwether ∨ s.node.state = .candidate then 0 else s.time.parentSteps + 1) s.ticks
      (b2n (s.node.state = .candidate) + 2 * b2n (s.node.state = .holdOff)) := rfl

/-- The clapper that a port sends at the start of a cycle, by what the node is when the cycle begins (R48, R49). -/
theorem State.cycleBegin_sends {w : State} {p : Nat} {deps : List (Fin 1024 × Int)} (hdue : (w.portCycle p).clapperDue p = true)
    (hwire : (w.port p).wire = none) (hlane : (w.port p).laneFree ≤ w.time.cycStart)
    (hdeps : (deps.find? fun d => d.1.val == p) = none) :
    ∃ f h, .frame p f true ∈ (w.cycleBegin deps).outs ∧ h.typ = tClapper ∧
      f.body = itpBody f.tag.isSome h (w.clapperPayload ((8 * w.wByte p + 62) / wFrac : Nat)) := by
  obtain ⟨hlink', hwire', hlane', _⟩ := w.portCycle_port p
  have hlisted : p ∈ smKeys w.ports := by
    have hup := State.isUp_of_clapperDue hdue
    simp only [State.isUp, hlink'] at hup
    exact State.isUp_listed hup
  have hsame := sameClapper_beforeClappers hlisted
  have hbyte : w.beforeClappers.wByte p = w.wByte p := by
    rw [hsame.wByte, State.wByte, State.bytesPerTick, hlink']
    rfl
  have hpayload : ∀ corr, w.beforeClappers.clapperPayload corr = w.clapperPayload corr := fun corr => hsame.clapperPayload corr
  obtain ⟨u, hu⟩ := State.sendClappers_sent (deps := deps) (hsame.clapperDue.trans hdue) (by rw [hsame.wire, hwire', hwire])
    (by rw [hsame.laneFree, hlane', hsame.cycStart]; exact hlane) hdeps
  rw [hbyte, hpayload] at hu
  exact ⟨_, u.llHdr p tClapper _, hu, rfl, rfl⟩

/-- Settles O24: the clock by `cycleStart_advances`, the moves of the node by the `State.nodeStart_*` lemmas, and the clappers by
`State.cycleBegin_sends`. -/
theorem cycleStartAdvancesTheCycle : Obligations.CycleStartAdvancesTheCycle := by
  refine ⟨fun s deps hcyc => ⟨_, exec_cycleStart deps hcyc, cycleStart_advances s deps⟩,
    fun s deps hcyc => exec_cycleStart_noCycle deps hcyc, ?_⟩
  intro s deps hcyc v
  have answers : ∀ {post : State → Prop}, post (v.nodeStartOfCycle.cycleBegin deps) → Answers (.cycleStart deps) s post := fun h =>
    ⟨_, exec_cycleStart deps hcyc, h⟩
  have hnode := v.nodeStartOfCycle.cycleBegin_node deps
  refine ⟨?candidate, fun j hs hj hst hc => ⟨?joins, ?aborts⟩, ?yields, ?leaves, ?holdsOff, ?resumes, ?clapper⟩
  case candidate =>
    intro hs hz hc
    refine answers ?_
    rw [hnode]
    exact State.nodeStart_candidate hs hz hc
  case joins =>
    intro hok
    obtain ⟨hstate, hjoin, hcount⟩ := State.nodeStart_joins hs hj hst hc hok
    refine answers ?_
    rw [hnode]
    exact ⟨hstate, hjoin, counted_cycleBegin deps (by decide) hcount⟩
  case aborts =>
    intro hbad
    obtain ⟨hstate, hfollowed, hcount⟩ := State.nodeStart_aborts hs hj hst hc hbad
    refine answers ?_
    rw [hnode]
    exact ⟨hstate, hfollowed, counted_cycleBegin deps (by decide) hcount⟩
  case yields =>
    intro hs hc
    refine answers ?_
    rw [hnode]
    exact State.nodeStart_yields hs hc
  case leaves =>
    intro hin hb habove hw hvcyc
    obtain ⟨hstate, hlooked, hcount⟩ := State.nodeStart_leaves hin hb habove hw hvcyc
    refine answers ?_
    rw [hnode]
    exact ⟨hstate, hlooked, counted_cycleBegin deps (by decide) hcount⟩
  case holdsOff =>
    intro hs hb hleave habove
    obtain ⟨hstate, hcount⟩ := State.nodeStart_holdsOff hs hb hleave habove
    refine answers ?_
    rw [hnode]
    exact ⟨hstate, counted_cycleBegin deps (by decide) hcount⟩
  case resumes =>
    intro hs hleave
    refine answers ?_
    rw [hnode]
    exact State.nodeStart_resumes hs hleave
  case clapper =>
    intro p w at_ x hdue hwire hlane hdeps
    obtain ⟨f, h, hout, htyp, hbody⟩ := State.cycleBegin_sends hdue hwire hlane hdeps
    rw [State.clapperPayload_eq] at hbody
    exact answers ⟨f, h, hout, htyp, hbody⟩

end Sys2Proof.Machine
end

section
/-! SUPPORT. ADOPT and its switch: the proof of O28 (R81). -/

namespace Sys2Proof.Machine

open Sys2Proof

/-! ADOPT, a write of NODE_CTRL (R81, R98). -/

/-- NODE_CTRL takes a write. -/
theorem State.regWrite_nodeCtrl {s : State} (f : State → State) (h : s.opens .cycle R.CYCLE_NODE_CTRL 0) :
    s.regWrite .cycle 0 R.CYCLE_NODE_CTRL f = f s :=
  State.regWrite_opens (r := ⟨.cycle, R.CYCLE_NODE_CTRL, 1, 0, 4, .wo, 0xF, 0⟩) (j := 0) rfl h

theorem exec_adopt {s : State} (h : s.opens .cycle R.CYCLE_NODE_CTRL 0) : exec .adopt s = .next s.adopt :=
  congrArg Host.Outcome.next (State.regWrite_nodeCtrl State.adopt h)

theorem State.adopt_busy {s : State} (hoff : s.node.state ≠ .off) (hlisten : s.node.state ≠ .listen) :
    s.adopt = s.err .cycle 0 0x0140 s.node.state.code R.CYCLE_NODE_CTRL := if_pos ⟨hoff, hlisten⟩

/-- An accepted ADOPT waits for the validation, which it starts unless one runs or has passed. -/
theorem State.adopt_slate {s : State} (hs : s.node.state = .off ∨ s.node.state = .listen) (ha : s.slate.adopt = false) :
    s.adopt.slate = { s.slate with
      adopt := true, adoptGo := s.slate.check == .pass
      check := if s.slate.check = .none ∨ s.slate.check = .fail then .running else s.slate.check } := by
  have hfree : ¬ (s.node.state ≠ .off ∧ s.node.state ≠ .listen) := fun ⟨hoff, hlisten⟩ => hs.elim hoff hlisten
  unfold State.adopt
  rw [if_neg hfree, if_neg (by simp [ha])]
  dsimp only [State.modSlate]
  split
  · exact (startCheck_starts _).1
  · rfl

/-! The switch (R81). -/

theorem State.adoptSwitch_waits {s : State} (h : s.slate.adoptGo = false) : s.adoptSwitch = s := by
  simp [State.adoptSwitch, h]

/-- A line or a slice that another owner holds refuses the ADOPT. -/
theorem State.adoptSwitch_blocked {s : State} {off code : Nat} (hgo : s.slate.adoptGo = true) (ha : s.slate.adopt = true)
    (hb : s.claimBlocked = some (off, code)) : s.adoptSwitch =
      { s with slate := { s.slate with adopt := false, adoptGo := false } }.err .cycle 0 0x0141 code off := by
  simp only [State.adoptSwitch, hgo, Bool.not_true, Bool.false_eq_true, if_false, hb, State.adoptFails, ha, if_true]
  rfl

/-- Taking the lines and slices of the staged slate notes the lines that are new, and changes no slate. -/
theorem State.claimSlate_slate (s : State) : ∃ took, s.claimSlate.slate = { s.slate with took } := by
  have htake : ((s.takeAll ownerSched (s.staged.lines.map resLine)).takeAll ownerLz s.staged.slices).slate = s.slate := by
    refine (show Part.same .slate s _ from ?_)
    simp [Part.same_refl]
  refine ⟨s.staged.lines.filter fun n => s.ownerOf (resLine n) ≠ ownerSched, ?_⟩
  simp only [State.claimSlate, State.modSlate, htake]

/-- What the switch from a slate to another does to streams, zones, event lines and claims. -/
def State.switchEffects (s : State) (old new : Bank) (cut : Option Nat) : State :=
  let t := ((s.streamSwitch old new cut).zonesSwitch old new).release ownerSched
    (allLines.filter fun r => !(new.lines.map resLine).contains r)
  ((smKeys t.ports).foldl (fun u p => (u.claimsSwitch new p).restSwitch new p) t).departs

theorem State.switchEffects_slate (s : State) (old new : Bank) (cut : Option Nat) : (s.switchEffects old new cut).slate = s.slate := by
  refine (show Part.same .slate s _ from ?_)
  unfold State.switchEffects
  simp +contextual (maxDischargeDepth := 30) [Part.same_refl]

/-- The switch exchanges the slates, and CHECK returns to NONE. -/
theorem State.switchBanks_slate (s : State) (cut : Option Nat) :
    (s.switchBanks cut).slate = { s.slate with liveB := !s.slate.liveB, took := [], check := .none } := by
  obtain ⟨u, hu⟩ : ∃ u, u = (s.modSlate fun x => { x with liveB := !x.liveB, took := [] }).switchEffects s.live s.staged cut :=
    ⟨_, rfl⟩
  have hslate : u.slate = { s.slate with liveB := !s.slate.liveB, took := [] } := hu ▸ State.switchEffects_slate ..
  have hcause : (if u.slate.check = .running then u.cause .cycle 0 17 else u).slate = u.slate := by
    split <;> rfl
  have hbanks : s.switchBanks cut = (((if u.slate.check = .running then u.cause .cycle 0 17 else u).modSlate fun x =>
      { x with check := .none }).cause .cycle 0 causeSlate).cause .stream 0 causeSlate := by
    rw [hu, State.switchBanks, State.switchEffects]
  rw [hbanks, State.cause_slate, State.cause_slate, State.modSlate, hcause, hslate]

theorem State.adoptSwitch_switches {s : State} (hgo : s.slate.adoptGo = true) (hb : s.claimBlocked = none) :
    ∃ took, s.adoptSwitch.slate =
      { s.slate with liveB := !s.slate.liveB, took, check := .none, adopt := false, adoptGo := false } := by
  obtain ⟨took, htook⟩ := s.claimSlate_slate
  refine ⟨[], ?_⟩
  simp only [State.adoptSwitch, hgo, Bool.not_true, Bool.false_eq_true, if_false, hb, State.modSlate, State.switchBanks_slate, htook]

/-- Settles O28: ADOPT by `State.adopt_slate`, its switch by what stands in the way of it. -/
theorem adoptSwitchesAValidSlate : Obligations.AdoptSwitchesAValidSlate := by
  refine ⟨fun s ho => ⟨fun hoff hlisten => ?busy, fun hs ha => ⟨_, exec_adopt ho, State.adopt_slate hs ha⟩⟩,
    fun s hgo hb => ?switches, fun s off code hgo ha hb => congrArg Host.Outcome.next (State.adoptSwitch_blocked hgo ha hb),
    fun s hgo => congrArg Host.Outcome.next (State.adoptSwitch_waits hgo)⟩
  case busy => rw [exec_adopt ho, State.adopt_busy hoff hlisten]
  case switches =>
    obtain ⟨took, ht⟩ := State.adoptSwitch_switches hgo hb
    refine ⟨s.adoptSwitch, rfl, ?_⟩
    simp only [State.live, State.staged, ht, true_and]
    cases s.slate.liveB <;> simp

end Sys2Proof.Machine
end

section
/-! SUPPORT. The listen timer and the candidate's cycle 0: the proof of O22 (R78, R82). -/

namespace Sys2Proof.Machine

open Sys2Proof

/-! What a change of state and the start of a cycle leave of the time part. -/

theorem State.enter_time (s : State) (st : NodeState) : (s.enter st).time = s.time := by
  refine (show Part.same .time s _ from ?_)
  simp (maxDischargeDepth := 30) [Part.same_refl]

theorem State.cycleBegin_hasCycle (s : State) (deps : List (Fin 1024 × Int)) : (s.cycleBegin deps).time.hasCycle = s.time.hasCycle := by
  obtain ⟨n, v, fab, sec, ns, wr, hbefore⟩ := s.beforeClappers_time
  have hsend : (s.beforeClappers.sendClappers deps).time = s.beforeClappers.time :=
    show Part.same .time s.beforeClappers (s.beforeClappers.sendClappers deps) by simp [Part.same_refl]
  rw [State.cycleBegin_eq, hsend, hbefore]

theorem State.runTo_node (s : State) (w : Nat) : (s.runTo w).node = s.node := by
  refine (show Part.same .node s _ from ?_)
  simp [Part.same_refl]

/-! The instant of cycle 0 (R82). -/

/-- The multiple of a tick at or above an amount, and less than a tick above it. -/
theorem cdiv_wTick (n : Nat) : n ≤ cdiv n wTick * wTick ∧ cdiv n wTick * wTick < n + wTick := by
  simp only [cdiv, wTick]
  omega

/-- Cycle 0 begins at the first tick instant of fabric time that lies 3,200 ticks ahead. -/
theorem State.zeroInstant_tick {s : State} (h : 0 ≤ s.time.fabOff) : s.fab s.zeroInstant % wTick = 0 ∧
    s.time.now + 3200 * wTick ≤ s.zeroInstant ∧ s.zeroInstant < s.time.now + 3201 * wTick := by
  obtain ⟨n, hn⟩ : ∃ n, n = cdiv (s.fab s.time.now + 3200 * wTick) wTick := ⟨_, rfl⟩
  obtain ⟨hle, hlt⟩ := cdiv_wTick (s.fab s.time.now + 3200 * wTick)
  have hnow : (s.fab s.time.now : Int) = s.time.now + s.time.fabOff := by
    simp only [State.fab]
    omega
  have hzero : (s.zeroInstant : Int) = (n * wTick : Nat) - s.time.fabOff := by
    simp only [State.zeroInstant, State.unfab, ← hn] at hle ⊢
    omega
  have hfab : s.fab s.zeroInstant = n * wTick := by
    simp only [State.fab, hzero]
    omega
  rw [← hn] at hle hlt
  refine ⟨?_, ?_, ?_⟩
  · rw [hfab, Nat.mul_mod_left]
  · omega
  · omega

/-! The listen timer (R78, R82). -/

/-- A node that becomes a candidate, and its cycle 0 (R82). -/
def State.toCandidate (s : State) : State :=
  (((s.enter .candidate).count .cycle 0 R.CYCLE_CANDIDATE_ENTRIES).dropServo).modNode fun n =>
    { n with zeroAt := some s.zeroInstant, followed := some s.ownTb, looked := none, heard := [] }

theorem exec_listenTimerExpiry {s : State} (h : s.node.state = .listen) (hr : s.rank ≠ 255) :
    exec .listenTimerExpiry s = .next (s.atLeast s.node.listenEnd).toCandidate := by
  have hrank : ¬ (s.atLeast s.node.listenEnd).rank = 255 := hr
  simp only [exec, execListenTimerExpiry, h, ne_eq, not_true_eq_false, if_false, hrank, State.toCandidate]

theorem exec_listenTimerExpiry_lowest {s : State} (h : s.node.state = .listen) (hr : s.rank = 255) :
    exec .listenTimerExpiry s =
      .next ((((s.atLeast s.node.listenEnd).count .cycle 0 R.CYCLE_LISTEN_EXPIRED).raise 0x005 0 0).startListen) := by
  have hrank : (s.atLeast s.node.listenEnd).rank = 255 := hr
  simp only [exec, execListenTimerExpiry, h, ne_eq, not_true_eq_false, if_false, hrank, if_true]

theorem State.toCandidate_node (s : State) : let n := s.toCandidate.node
    n.state = .candidate ∧ n.followed = some s.ownTb ∧ n.zeroAt = some s.zeroInstant := by
  have hentered : ((s.enter .candidate).count .cycle 0 R.CYCLE_CANDIDATE_ENTRIES).dropServo.node.state = .candidate := by
    rw [State.dropServo_node, State.count_node, State.enter_node]
  simp only [State.toCandidate, State.modNode, hentered, and_self]

theorem State.dropServo_hasCycle (s : State) : s.dropServo.time.hasCycle = s.time.hasCycle := rfl

theorem State.toCandidate_time (s : State) : let t := s.toCandidate.time
    t.now = s.time.now ∧ t.fabOff = s.time.fabOff ∧ t.hasCycle = s.time.hasCycle := by
  have hcounted : ((s.enter .candidate).count .cycle 0 R.CYCLE_CANDIDATE_ENTRIES).time = s.time := by
    rw [State.count_time, State.enter_time]
  have hclock := sameClock_dropServo ((s.enter .candidate).count .cycle 0 R.CYCLE_CANDIDATE_ENTRIES)
  simp only [State.toCandidate, State.modNode_time, hclock.now, hclock.fabOff, State.dropServo_hasCycle, hcounted, and_self]

theorem counted_toCandidate (s : State) : Counted .cycle 0 R.CYCLE_CANDIDATE_ENTRIES s s.toCandidate := by
  have hcount := counted_from (counted_count .cycle 0 R.CYCLE_CANDIDATE_ENTRIES (s.enter .candidate))
    (s.find_enter_cycle (inCyclePage_reg (by decide)) .candidate)
  exact counted_of_find hcount (by rw [State.toCandidate, State.modNode_regs, State.dropServo_regs])

theorem State.modNode_node (s : State) (f : NodeSt → NodeSt) : (s.modNode f).node = f s.node := rfl

/-- The timer that starts ends after the listen time of R82. -/
theorem State.startListen_node (s : State) : s.startListen.node =
    { s.node with listenEnd := s.time.now + ((3 + s.rank) * s.ticks + s.nodeId * 16) * wTick } := State.modNode_node ..

theorem State.startListen_time (s : State) : s.startListen.time = s.time := State.modNode_time ..
theorem State.startListen_regs (s : State) : s.startListen.regs = s.regs := State.modNode_regs ..

/-! The candidate's cycle 0 (R82). -/

/-- A candidate at the start of its cycle 0. -/
def State.zeroReached (s : State) (z : Nat) : State :=
  ((s.runTo z).modTime fun t => { t with hasCycle := true, cycle := 0, cycStart := z, prevTicks := s.ticks, cands := [] }).modNode
    fun n => { n with zeroAt := none }

theorem exec_candidateCycleZero {s : State} {z : Nat} (h : s.node.state = .candidate) (hz : s.node.zeroAt = some z) :
    exec .candidateCycleZero s = .next ((s.zeroReached z).cycleBegin []) := by
  simp only [exec, execCandidateCycleZero, h, hz, State.zeroReached]

/-- Settles O22: the timer by `State.toCandidate` and `State.zeroInstant_tick`, or by the restart at rank 255; cycle 0 by what the start of
a cycle keeps of the clock. -/
theorem listenTimerMakesACandidate : Obligations.ListenTimerMakesACandidate := by
  refine ⟨fun s hs hr => ⟨_, exec_listenTimerExpiry hs hr, ?candidate⟩,
    fun s hs hr => ⟨_, exec_listenTimerExpiry_lowest hs hr, ?again⟩,
    fun s z hs hz => ⟨_, exec_candidateCycleZero hs hz, ?zero⟩⟩
  case candidate =>
    obtain ⟨u, hu⟩ : ∃ u, u = s.atLeast s.node.listenEnd := ⟨_, rfl⟩
    have htime : u.time = { s.time with now := max s.time.now s.node.listenEnd } := hu ▸ State.atLeast_time ..
    obtain ⟨hstate, hfollowed, hzero⟩ := u.toCandidate_node
    obtain ⟨hnow, hoff, hcyc⟩ := u.toCandidate_time
    have hcount : Counted .cycle 0 R.CYCLE_CANDIDATE_ENTRIES s u.toCandidate :=
      counted_from (counted_toCandidate u) (by rw [hu, State.atLeast_regs])
    have hfab : ∀ z, u.toCandidate.fab z = u.fab z := fun z => by simp only [State.fab, hoff]
    rw [← hu]
    refine ⟨hstate, ?_, by rw [hcyc, htime], by rw [hnow, htime], hcount, fun h => ⟨_, hzero, ?_⟩⟩
    · rw [hfollowed, hu]; rfl
    · rw [hfab, hnow]
      exact State.zeroInstant_tick (by rw [htime]; exact h)
  case again =>
    obtain ⟨u, hu⟩ : ∃ u, u = ((s.atLeast s.node.listenEnd).count .cycle 0 R.CYCLE_LISTEN_EXPIRED).raise 0x005 0 0 := ⟨_, rfl⟩
    have htime : u.time = { s.time with now := max s.time.now s.node.listenEnd } := by
      rw [hu, State.raise_time, State.count_time, State.atLeast_time]
    have hnode : u.node = s.node := by rw [hu, State.raise_node, State.count_node, State.atLeast_node]
    have hslate : u.slate = s.slate := by rw [hu, State.raise_slate, State.count_slate, State.atLeast_slate]
    have hcount : Counted .cycle 0 R.CYCLE_LISTEN_EXPIRED s u := hu ▸ counted_count .cycle 0 R.CYCLE_LISTEN_EXPIRED (s.atLeast _)
    have hother : ∀ a, a ≠ pageBase .cycle 0 + R.CYCLE_LISTEN_EXPIRED → smFind u.regs a = smFind s.regs a := fun a ha => by
      rw [hu, State.raise_regs, State.find_count_other _ _ _ _ _ ha, State.atLeast_regs]
    have hcfg : ∀ hi lo, u.regF .cycle 0 R.CYCLE_NODE_CFG hi lo = s.regF .cycle 0 R.CYCLE_NODE_CFG hi lo := fun hi lo => by
      rw [State.regF, State.reg_of_find (hother _ (by decide)), State.regF]
    have hrank : u.rank = 255 := (hcfg 23 16).trans hr
    have hid : u.nodeId = s.nodeId := hcfg 15 0
    rw [← hu]
    simp only [State.startListen_node, State.startListen_time, hnode, hs, hrank, hid, State.ticks_congr hslate, Nat.reduceAdd, true_and]
    exact ⟨by rw [htime], counted_of_find hcount (by rw [State.startListen_regs])⟩
  case zero =>
    obtain ⟨u, hu⟩ : ∃ u, u = s.zeroReached z := ⟨_, rfl⟩
    have htime : u.time = { s.time with
        now := max s.time.now z, hasCycle := true, cycle := 0, cycStart := z, prevTicks := s.ticks, cands := [] } := by
      simp only [hu, State.zeroReached, State.modNode, State.modTime, State.runTo_time]
    have hnode : u.node = { s.node with zeroAt := none } := by
      simp only [hu, State.zeroReached, State.modNode, State.modTime, State.runTo_node]
    have hclock := sameClock_cycleBegin u []
    rw [← hu, State.cycleBegin_hasCycle, State.cycleBegin_node, hclock.cycle, hclock.cycStart, hclock.fabOff, hclock.now, htime, hnode]
    exact ⟨rfl, rfl, rfl, rfl, Nat.le_max_right .., hs, rfl⟩

end Sys2Proof.Machine
end

section
/-! SUPPORT. The claimant: CLAIMs sent, repeated and refreshed, and the answers to them: the proof of O25 (R95, R97, R192, R372). -/

namespace Sys2Proof.Machine

open Sys2Proof

/-! This node's claims of a port. -/

/-- A change of a claim that keeps its owner is what is found of that owner afterwards. -/
theorem find_map_owner {l : List MyClaim} {x : Nat} {m : MyClaim} (f : MyClaim → MyClaim) (hf : ∀ c, (f c).owner = c.owner)
    (h : (l.find? fun c => c.owner == x) = some m) :
    ((l.map fun c => if c.owner = x then f c else c).find? fun c => c.owner == x) = some (f m) := by
  induction l with
  | nil => cases h
  | cons c l ih =>
    by_cases hc : c.owner = x
    · obtain rfl : c = m := by simpa [hc] using h
      simp [hc, hf]
    · exact (by simpa [hc] using ih (by simpa [hc] using h))

theorem State.mineOf_modMine {s : State} {p x : Nat} {m : MyClaim} (f : MyClaim → MyClaim) (hf : ∀ c, (f c).owner = c.owner)
    (h : s.mineOf p x = some m) : (s.modMine p x f).mineOf p x = some (f m) := by
  simp only [State.mineOf, State.modMine, State.port_modPort_same]
  exact find_map_owner f hf h

theorem otherPorts_modMine (s : State) (p x : Nat) (f : MyClaim → MyClaim) : OtherPorts p s (s.modMine p x f) := otherPorts_modPort s p _

theorem State.mineOf_congr {s t : State} {p : Nat} (h : (t.port p).mine = (s.port p).mine) (x : Nat) : t.mineOf p x = s.mineOf p x := by
  simp only [State.mineOf, h]

/-! A CLAIM that is sent at once (R95, R192). -/

/-- A frame about a claim carries its TYPE and payload. -/
theorem sent_claimFrame {p typ dst : Nat} {payload : List Byte} {s t u : State}
    (h : t.outs = s.outs ++ [.frame p (u.claimFrame p typ dst payload) true]) : Sent p typ payload s t :=
  ⟨_, { typ, dst, src := u.nodeId, cycle := u.cycField, plen := 16 }, h, rfl, rfl⟩

/-- The CLAIM that starts carries the owner and the cycle, and the claim's record notes the cycle. -/
theorem claim_sent {v : State} {p : Fin 1024} {x : Nat} {m : MyClaim} (hm : v.mineOf p x = some m)
    (h : v.startsNow p (v.linkFrame p 6 tClaim (.claim x))) : let t := v.sendClaim p x
    t.mineOf p x = some { m with sent := v.time.cycle } ∧ Sent p tClaim (claimBytes x v.time.cycle 0 0) v t ∧ OtherPorts p v t ∧
    Counted .port p R.PORT_CLAIM_TX v t := by
  intro t
  obtain ⟨fr, hfr⟩ : ∃ fr, fr = v.linkFrame p 6 tClaim (.claim x) := ⟨_, rfl⟩
  have horigin : fr.origin = .claim x := by rw [hfr]; rfl
  have ⟨_, hempty, _⟩ := h
  obtain ⟨w, fin, lane, hsend, houts, hport, hothers, htime, hregs⟩ := State.sendOwn_sent (tDep := v.nominalDep p) p.isLt (hfr ▸ h)
    (by rw [horigin]; exact Origin.noConfusion) (by rw [horigin]; exact Origin.noConfusion)
  have hframe : (v.loaded p fr).ownFrame p fr ((v.loaded p fr).depFor p fr (v.nominalDep p)) =
      { fr with frame := (v.loaded p fr).claimFrame p tClaim ((v.loaded p fr).llDst p) (claimBytes x v.time.cycle 0 0) } := by
    simp only [State.ownFrame, horigin]
    rfl
  rw [hframe] at hsend houts
  have ht : t = (w.modMine p x fun m => { m with sent := v.time.cycle }).countP p R.PORT_CLAIM_TX := by
    have hsends : t = v.sendOwn p fr (v.nominalDep p) := by
      rw [hfr]
      exact if_neg (by simp [PortSt.waits, hempty])
    rw [hsends, hsend]
    simp only [State.leaves, horigin, State.modMine, htime]
  have hmine : w.mineOf p x = some m := (State.mineOf_congr (by rw [hport]) x).trans hm
  refine ⟨?_, sent_claimFrame (dst := (v.loaded p fr).llDst p) (u := v.loaded p fr) ?_, fun q hq => ?_, ?_⟩
  · rw [ht]
    exact (State.mineOf_congr (by rw [State.port_countP]) x).trans
      (State.mineOf_modMine (fun m => { m with sent := v.time.cycle }) (fun _ => rfl) hmine)
  · rw [ht, State.countP_outs, State.modMine, State.modPort_outs, houts]
  · rw [ht, State.port_countP, otherPorts_modMine w p x _ q hq, hothers q hq]
  · rw [ht]
    exact counted_from (counted_count ..) (hregs _ (portReg_ge _ _))

/-- The same from the state before the claim's record was made or changed. -/
theorem claim_sent_from {s v : State} {p : Fin 1024} {x : Nat} {m : MyClaim} (hm : v.mineOf p x = some m)
    (h : v.startsNow p (v.linkFrame p 6 tClaim (.claim x))) (htime : v.time = s.time) (houts : v.outs = s.outs) (hregs : v.regs = s.regs)
    (hothers : OtherPorts p s v) : let t := v.sendClaim p x
    t.mineOf p x = some { m with sent := s.time.cycle } ∧ Sent p tClaim (claimBytes x s.time.cycle 0 0) s t ∧ OtherPorts p s t ∧
    Counted .port p R.PORT_CLAIM_TX s t := by
  obtain ⟨hmine, ⟨f, hd, hout, htyp, hbody⟩, hports, hcount⟩ := claim_sent hm h
  rw [htime] at hmine hbody
  rw [houts] at hout
  exact ⟨hmine, ⟨f, hd, hout, htyp, hbody⟩, hothers.trans hports, counted_from hcount (by rw [hregs])⟩

/-! CLAIM_TX, CLAIM_RETRY, CLAIM_REFRESH (R95, R97). -/

/-- A first claim is recorded behind those that the port has. -/
def State.newMine (s : State) (p x : Nat) : State :=
  s.modPort p fun q => { q with mine := q.mine ++ [{ owner := x, sent := s.time.cycle, tries := 1, phase := .waiting }] }

theorem exec_claimTx {s : State} {p : Fin 1024} {x : BitVec 16} (hr : s.claimReady p x.toNat = true) (hn : s.mineOf p x.toNat = none) :
    exec (.claimTx p x) s = .next ((s.newMine p x.toNat).sendClaim p x.toNat) := by
  simp only [exec, execClaimTx, hr, hn, Option.isNone_none, Bool.and_self, if_true, State.newMine]

theorem State.mineOf_newMine {s : State} {p x : Nat} (hn : s.mineOf p x = none) :
    (s.newMine p x).mineOf p x = some { owner := x, sent := s.time.cycle, tries := 1, phase := .waiting } := by
  have hnone : ((s.port p).mine.find? fun m => m.owner == x) = none := hn
  simp [State.mineOf, State.newMine, State.port_modPort_same, List.find?_append, hnone]

theorem exec_claimRetry_again {s : State} {p : Fin 1024} {x : BitVec 16} {m : MyClaim} (hm : s.mineOf p x.toNat = some m)
    (hw : m.phase = .waiting) (h8 : 8 ≤ cycDiff s.time.cycle m.sent) (hq : (s.port p).txq = [])
    (ht : m.tries < s.regF .cycle 0 R.CYCLE_CLAIM_CFG 19 16) (hr : s.claimReady p x.toNat = true) :
    exec (.claimRetry p x) s =
      .next ((s.modMine p x.toNat fun m => { m with sent := s.time.cycle, tries := m.tries + 1 }).sendClaim p x.toNat) := by
  simp [exec, execClaimRetry, hm, hw, Int.not_lt.2 h8, PortSt.waits, hq, Nat.not_le.2 ht, hr]

theorem exec_claimRetry_spent {s : State} {p : Fin 1024} {x : BitVec 16} {m : MyClaim} (hm : s.mineOf p x.toNat = some m)
    (hw : m.phase = .waiting) (h8 : 8 ≤ cycDiff s.time.cycle m.sent) (ht : s.regF .cycle 0 R.CYCLE_CLAIM_CFG 19 16 ≤ m.tries)
    (hq : ((s.port p).waits fun o => o == .claim x.toNat) = false) :
    exec (.claimRetry p x) s = .next ((s.modMine p x.toNat fun m => { m with phase := .noAnswer }).raise 0x00C p x.toNat) := by
  simp [exec, execClaimRetry, hm, hw, Int.not_lt.2 h8, hq, ht]

theorem exec_claimRefresh {s : State} {p : Fin 1024} {x : BitVec 16} {m : MyClaim} {e : Nat} (hm : s.mineOf p x.toNat = some m)
    (ha : m.phase = .acked e) (hd : (s.regF .cycle 0 R.CYCLE_CLAIM_CFG 15 0 : Int) ≤ cycDiff s.time.cycle m.sent)
    (hr : s.claimReady p x.toNat = true) :
    exec (.claimRefresh p x) s = .next ((s.modMine p x.toNat fun m => { m with sent := s.time.cycle }).sendClaim p x.toNat) := by
  simp only [exec, execClaimRefresh, hm, ha, hd, hr, decide_true, Bool.and_self, if_true]

/-- A claim that ends is recorded in its new phase, and its alarm is raised (R95, R97). -/
theorem State.endMine_sets {s : State} {p x : Nat} {m : MyClaim} (ph : ClaimPhase) {cls detail : Nat} (hm : s.mineOf p x = some m)
    (hc : cls = 0x00C ∨ cls = 0x00D) (hd : detail < 2 ^ 32) :
    let t := (s.modMine p x fun m => { m with phase := ph }).raise cls p detail
    t.mineOf p x = some { m with phase := ph } ∧ OtherPorts p s t ∧ t.outs = s.outs ∧
    t.alarm.pend = addOcc { unit := 82 + p, cls, source := p, detail, count := 1, ns := s.nowNs } s.alarm.pend := by
  intro t
  have hunit : alarmUnit cls p = 82 + p := by
    rcases hc with rfl | rfl <;> rfl
  refine ⟨State.mineOf_modMine _ (fun _ => rfl) hm, otherPorts_modMine s p x _, rfl, ?_⟩
  simp only [t, State.raise, State.alarmAt, hunit, Nat.mod_eq_of_lt hd]
  rfl

/-! Answers (R97, R192). -/

theorem exec_claimAckRx {s : State} {p : Fin 1024} (x : BitVec 16) (e : BitVec 48) (hup : s.isUp p = true) :
    exec (.claimAckRx p x e) s = .next (s.claimAck p x.toNat) := by
  simp only [exec, execClaimAckRx, hup, if_true]

theorem exec_claimRefusedRx {s : State} {p : Fin 1024} (x : BitVec 16) (reason : Nat) (hup : s.isUp p = true) :
    exec (.claimRefusedRx p x reason) s = .next (s.claimNo p x.toNat reason) := by
  simp only [exec, execClaimRefusedRx, hup, if_true]

theorem State.claimAck_waiting {s : State} {p x : Nat} {m : MyClaim} (hm : s.mineOf p x = some m) (hw : m.phase = .waiting) :
    s.claimAck p x = s.modMine p x fun c => { c with
      phase := .acked (if 0 ≤ cycDiff (cycMod (m.sent + 2)) (cycMod (s.time.cycle + 1)) then cycMod (m.sent + 2)
        else cycMod (s.time.cycle + 1)) } := by
  simp only [State.claimAck, hm, hw]

theorem State.claimAck_stray {s : State} {p x : Nat} (hm : s.mineOf p x = none) :
    s.claimAck p x = s.countP p R.PORT_CLAIM_ANSWER_STRAY := by
  simp only [State.claimAck, hm]

theorem State.claimNo_refuses {s : State} {p x reason : Nat} {m : MyClaim} (hm : s.mineOf p x = some m)
    (ha : m.phase = .waiting ∨ ∃ e, m.phase = .acked e) (h1 : 1 ≤ reason) (h4 : reason ≤ 4) :
    s.claimNo p x reason = (s.modMine p x fun m => { m with phase := .refused }).raise 0x00D p (x + reason * 2 ^ 16) := by
  simp only [State.claimNo, h1, h4, and_self, if_true, hm]
  rcases ha with hw | ⟨e, he⟩
  · rw [hw]
  · rw [he]

theorem notUp_counts {s : State} {p : Nat} (h : s.delineates p = true) : let t := s.notUp p
    Counted .port p R.PORT_RX_NOT_UP s t ∧ t.ports = s.ports := by
  simp only [State.notUp, h, if_true]
  exact ⟨counted_count .port p R.PORT_RX_NOT_UP s, State.countP_ports ..⟩

/-- Settles O25: a CLAIM that starts by `claim_sent`, a claim that ends by `State.endMine_sets`, answers by the phase of the claim. -/
theorem claimantAsksAndRefreshes : Obligations.ClaimantAsksAndRefreshes := by
  refine ⟨?asks, fun s p x m hm hw h8 => ⟨?repeats, ?givesUp⟩, ?refreshes, ?acked, ?stray, ?notUp, ?refused⟩
  case asks =>
    intro s p x hr hn v hstart
    exact ⟨_, exec_claimTx hr hn, claim_sent_from (State.mineOf_newMine hn) hstart rfl rfl rfl (otherPorts_modPort s p _)⟩
  case repeats =>
    intro ht hr hstart
    have ⟨_, hempty, _⟩ := hstart
    have hq : (s.port p).txq = [] := by
      rw [← hempty, State.modMine, State.port_modPort_same]
    have hmine := State.mineOf_modMine (fun m => { m with sent := s.time.cycle, tries := m.tries + 1 }) (fun _ => rfl) hm
    exact ⟨_, exec_claimRetry_again hm hw h8 hq ht hr, claim_sent_from hmine hstart rfl rfl rfl (otherPorts_modMine s p _ _)⟩
  case givesUp =>
    intro ht hq
    exact ⟨_, exec_claimRetry_spent hm hw h8 ht hq, State.endMine_sets .noAnswer hm (.inl rfl) (by omega)⟩
  case refreshes =>
    intro s p x m e hm ha hd hr v hstart
    have hmine := State.mineOf_modMine (fun m => { m with sent := s.time.cycle }) (fun _ => rfl) hm
    exact ⟨_, exec_claimRefresh hm ha hd hr,
      claim_sent_from (m := { m with sent := s.time.cycle }) hmine hstart rfl rfl rfl (otherPorts_modMine s p _ _)⟩
  case acked =>
    intro s p x e m hup hm hw a b
    refine ⟨_, exec_claimAckRx x e hup, ?_⟩
    rw [State.claimAck_waiting hm hw]
    exact ⟨State.mineOf_modMine _ (fun _ => rfl) hm, otherPorts_modMine s p _ _⟩
  case stray =>
    intro s p x e hup hm
    refine ⟨_, exec_claimAckRx x e hup, ?_⟩
    rw [State.claimAck_stray hm]
    exact ⟨counted_count .port p R.PORT_CLAIM_ANSWER_STRAY s, State.countP_ports ..⟩
  case notUp =>
    intro s p x e reason hd
    have hup := State.isUp_of_delineates hd
    exact ⟨⟨s.notUp p, by simp [exec, execClaimAckRx, hup], notUp_counts hd⟩,
      ⟨s.notUp p, by simp [exec, execClaimRefusedRx, hup], notUp_counts hd⟩⟩
  case refused =>
    intro s p x reason m hup hm ha h1 h4
    obtain ⟨hmine, hports, _, halarm⟩ := State.endMine_sets (detail := x.toNat + reason * 2 ^ 16) .refused hm (.inr rfl) (by omega)
    refine ⟨_, exec_claimRefusedRx x reason hup, ?_⟩
    rw [State.claimNo_refuses hm ha h1 h4]
    exact ⟨hmine, hports, halarm⟩

end Sys2Proof.Machine
end

section
/-! SUPPORT. START, STOP and CLEAR_HALT, and what a node drops in OFF, HALTED and YIELD (R78, R79, R91, R98, R119, R195, R370). -/

namespace Sys2Proof.Machine

open Sys2Proof

/-! NODE_CTRL (R98). -/

theorem exec_nodeStart {s : State} (h : s.opens .cycle R.CYCLE_NODE_CTRL 0) : exec .nodeStart s = .next s.nodeStart :=
  congrArg Host.Outcome.next (State.regWrite_nodeCtrl State.nodeStart h)

theorem exec_nodeStop {s : State} (h : s.opens .cycle R.CYCLE_NODE_CTRL 0) : exec .nodeStop s = .next s.nodeStop :=
  congrArg Host.Outcome.next (State.regWrite_nodeCtrl State.nodeStop h)

theorem exec_clearHalt {s : State} (h : s.opens .cycle R.CYCLE_NODE_CTRL 0) : exec .clearHalt s = .next s.clearHalt :=
  congrArg Host.Outcome.next (State.regWrite_nodeCtrl State.clearHalt h)

/-! Entry to LISTEN (R82, R83). -/

/-- Entry to OFF or LISTEN refuses no ADOPT. -/
theorem State.enter_slate {s : State} {st : NodeState} (h : st = .off ∨ st = .listen) : (s.enter st).slate = s.slate := by
  unfold State.enter
  rw [if_pos h, State.traceState_slate, State.modNode_slate]

/-- A node in LISTEN, before its timer starts. -/
def State.listens (s : State) (keep : Option (Nat × Nat)) : State :=
  ((((s.enter .listen).dropServo).forgetQual).modNode fun n =>
    { n with followed := none, bellwether := false, zeroAt := none, join := none, mismatch := false, looked := keep,
             heard := match keep with
               | some (r, m) => [(r, m, s.time.now)]
               | none => [] }).modTime fun t => { t with offset := 0, pairs := if keep.isSome then t.pairs else [] }

theorem State.dropServo_slate (s : State) : s.dropServo.slate = s.slate := rfl

theorem State.forgetQual_slate (s : State) : s.forgetQual.slate = s.slate :=
  State.foldl_keeps (fun u => u.slate) _ _ (fun u p => u.modPort_slate p _) s

theorem State.forgetQual_time (s : State) : s.forgetQual.time = s.time :=
  State.foldl_keeps (fun u => u.time) _ _ (fun u p => u.modPort_time p _) s

theorem State.listens_slate (s : State) (keep : Option (Nat × Nat)) : (s.listens keep).slate = s.slate := by
  have hforgot : (s.listens keep).slate = ((s.enter .listen).dropServo).forgetQual.slate := rfl
  rw [hforgot, State.forgetQual_slate, State.dropServo_slate, State.enter_slate (.inr rfl)]

theorem State.listens_now (s : State) (keep : Option (Nat × Nat)) : (s.listens keep).time.now = s.time.now := by
  have hforgot : (s.listens keep).time.now = ((s.enter .listen).dropServo).forgetQual.time.now := rfl
  rw [hforgot, State.forgetQual_time]
  exact (sameClock_enterDrop s .listen).now

/-- The listen timer of a node that enters LISTEN runs from its entry (R82). -/
theorem State.toListen_timer (s : State) (keep : Option (Nat × Nat)) : (s.toListen keep).node.listenEnd =
    s.time.now + ((3 + s.rank) * s.ticks + s.nodeId * 16) * wTick := by
  have htimer : s.toListen keep = (s.listens keep).startListen := rfl
  have hcfg : ∀ hi lo, (s.listens keep).regF .cycle 0 R.CYCLE_NODE_CFG hi lo = s.regF .cycle 0 R.CYCLE_NODE_CFG hi lo := fun hi lo => by
    have hfind := s.find_toListen_cycle (inCyclePage_reg (by decide : R.CYCLE_NODE_CFG < 0x1000)) keep
    rw [htimer, State.startListen_regs] at hfind
    rw [State.regF, State.reg_of_find hfind, State.regF]
  have hrank : (s.listens keep).rank = s.rank := hcfg 23 16
  have hid : (s.listens keep).nodeId = s.nodeId := hcfg 15 0
  simp only [htimer, State.startListen_node, hrank, hid, State.listens_now, State.ticks_congr (s.listens_slate keep)]

theorem State.toListen_forgets (s : State) : let n := (s.toListen none).node
    n.heard = [] ∧ n.bellwether = false := ⟨rfl, rfl⟩

theorem State.nodeStart_off {s : State} (h : s.node.state = .off) : s.nodeStart = s.toListen none := if_pos h

/-! What a node drops when it goes to OFF or HALTED: its frames, its pending events and its cut (R79, R91, R119, R195). -/

theorem State.setOwner_pend (s : State) (r o : Nat) : (s.setOwner r o).evt.pend = s.evt.pend := by
  unfold State.setOwner
  dsimp only
  split <;> rfl

theorem State.release_pend (s : State) (o : Nat) (rs : List Nat) : (s.release o rs).evt.pend = s.evt.pend := by
  refine State.foldl_keeps (fun u => u.evt.pend) rs _ (fun u r => ?_) s
  split
  · exact u.setOwner_pend r 0
  · rfl

theorem State.refuseForNode_pend (s : State) : s.refuseForNode.evt.pend = s.evt.pend := by
  have htrace : ∀ (u : State) (n : Nat) (w : Word), (u.traceState 2 3 n w).evt = u.evt := fun u n w =>
    show Part.same .evt u _ by simp [Part.same_refl]
  unfold State.refuseForNode State.refuseCut State.setCut
  split
  · simp only [State.raise_evt, State.cause_evt, State.count_evt, htrace, State.modSlate_evt, State.release_pend]
  · rfl

/-- A busy cut is refused for NODE_STATE. -/
theorem State.refuseForNode_cut {s : State} (h : s.cutBusy = true) :
    s.refuseForNode.slate.cut = .refused ∧ s.refuseForNode.slate.reason = 2 := by
  unfold State.refuseForNode State.refuseCut State.setCut
  simp only [h, if_true, State.raise_slate, State.cause_slate, State.count_slate, State.traceState_slate]
  exact ⟨rfl, rfl⟩

theorem State.dropEvents_pend (s : State) : s.dropEvents.evt.pend = [] := by
  rw [State.dropEvents, State.countN_evt]

theorem State.dropEvents_node (s : State) : s.dropEvents.node = s.node := State.countN_node ..
theorem State.dropEvents_slate (s : State) : s.dropEvents.slate = s.slate := State.countN_slate ..
theorem State.dropEvents_time (s : State) : s.dropEvents.time = s.time := State.countN_time ..
theorem State.refuseForNode_time (s : State) : s.refuseForNode.time = s.time := show Part.same .time s _ by simp [Part.same_refl]
theorem State.flushTx_time (s : State) : s.flushTx.time = s.time := show Part.same .time s _ by simp [Part.same_refl]
theorem State.flushTx_slate (s : State) : s.flushTx.slate = s.slate := show Part.same .slate s _ by simp [Part.same_refl]

/-- A node that has left its timebase for good, before it drops anything. -/
def State.gone (s : State) (st : NodeState) : State :=
  ((s.enter st).dropServo).modNode fun n =>
    { n with bellwether := false, followed := none, zeroAt := none, join := none, looked := none, heard := [] }

/-- What a node that goes to OFF or HALTED drops. -/
def State.dropsAll (s : State) (was : Bool) : State := (if was then s.flushTx else s).dropEvents.refuseForNode

theorem State.toOff_eq (s : State) :
    s.toOff = ((s.gone .off).dropsAll s.inNet).modTime fun t => { t with hasCycle := false, pairs := [] } := rfl

theorem State.toHalted_eq (s : State) (p detail : Nat) : let u := (s.gone .halted).dropsAll s.inNet
    s.toHalted p detail = ((u.err .cycle 0 0x0142 0 p).raise 0x00A p detail).report 0x0007 (some (s.nodeId, 0x400)) p := rfl

theorem State.gone_node (s : State) (st : NodeState) : let n := (s.gone st).node
    n.state = st ∧ n.followed = none ∧ n.bellwether = false := by
  refine ⟨?_, rfl, rfl⟩
  simp only [State.gone, State.modNode_node, State.dropServo_node, State.enter_node]

theorem State.gone_time (s : State) (st : NodeState) : let t := (s.gone st).time
    t.hasCycle = s.time.hasCycle ∧ t.parent = none := by
  have hcyc := (s.enter st).dropServo_hasCycle
  rw [State.enter_time] at hcyc
  exact ⟨hcyc, rfl⟩

theorem State.dropsAll_keeps (s : State) (was : Bool) : (s.dropsAll was).node = s.node ∧ (s.dropsAll was).time = s.time := by
  unfold State.dropsAll
  rw [State.refuseForNode_node, State.refuseForNode_time, State.dropEvents_node, State.dropEvents_time]
  split
  · exact ⟨State.flushTx_node s, State.flushTx_time s⟩
  · exact ⟨rfl, rfl⟩

theorem State.dropsAll_pend (s : State) (was : Bool) : (s.dropsAll was).evt.pend = [] := by
  rw [State.dropsAll, State.refuseForNode_pend, State.dropEvents_pend]

theorem State.dropsAll_cut {s : State} (was : Bool) (h : s.cutBusy = true) :
    (s.dropsAll was).slate.cut = .refused ∧ (s.dropsAll was).slate.reason = 2 := by
  refine State.refuseForNode_cut ?_
  have hslate : (if was then s.flushTx else s).slate = s.slate := by
    split
    · exact State.flushTx_slate s
    · rfl
  rwa [State.cutBusy, State.dropEvents_slate, hslate]

theorem State.toOff_sets (s : State) : let t := s.toOff
    t.node.state = .off ∧ t.time.hasCycle = false ∧ t.node.followed = none ∧ t.node.bellwether = false ∧ t.evt.pend = [] := by
  obtain ⟨hstate, hfollowed, hbell⟩ := s.gone_node .off
  have ⟨hnode, _⟩ := (s.gone .off).dropsAll_keeps s.inNet
  rw [← hnode] at hstate hfollowed hbell
  exact ⟨hstate, rfl, hfollowed, hbell, (s.gone .off).dropsAll_pend s.inNet⟩

theorem State.toOff_cut {s : State} (h : s.cutBusy = true) : s.toOff.slate.cut = .refused ∧ s.toOff.slate.reason = 2 := by
  have hslate : (s.gone .off).slate = s.slate := by
    rw [State.gone, State.modNode_slate, State.dropServo_slate, State.enter_slate (.inl rfl)]
  have hbusy : (s.gone .off).cutBusy = s.cutBusy := by rw [State.cutBusy, hslate, State.cutBusy]
  rw [State.toOff_eq, State.modTime_slate]
  exact State.dropsAll_cut s.inNet (hbusy.trans h)

theorem State.toHalted_sets (s : State) (p detail : Nat) : let t := s.toHalted p detail
    t.node.state = .halted ∧ t.node.followed = none ∧ t.node.bellwether = false ∧ t.evt.pend = [] ∧
    t.time.hasCycle = s.time.hasCycle ∧ t.time.parent = none := by
  obtain ⟨u, hu⟩ : ∃ u, u = (s.gone .halted).dropsAll s.inNet := ⟨_, rfl⟩
  obtain ⟨hstate, hfollowed, hbell⟩ := s.gone_node .halted
  obtain ⟨hcyc, hparent⟩ := s.gone_time .halted
  have ⟨hnode, htime⟩ := (s.gone .halted).dropsAll_keeps s.inNet
  have hpend := (s.gone .halted).dropsAll_pend s.inNet
  rw [← hu] at hnode htime hpend
  obtain ⟨w, hw⟩ : ∃ w, w = (u.err .cycle 0 0x0142 0 p).raise 0x00A p detail := ⟨_, rfl⟩
  have htold : s.toHalted p detail = w.report 0x0007 (some (s.nodeId, 0x400)) p := by
    rw [hw, hu]
    exact s.toHalted_eq p detail
  have hnode' : (s.toHalted p detail).node = u.node := by
    rw [htold, show (w.report 0x0007 (some (s.nodeId, 0x400)) p).node = w.node from
      show Part.same .node w _ by simp [Part.same_refl], hw, State.raise_node, State.err_node]
  have htime' : (s.toHalted p detail).time = u.time := by
    rw [htold, show (w.report 0x0007 (some (s.nodeId, 0x400)) p).time = w.time from
      show Part.same .time w _ by simp [Part.same_refl], hw, State.raise_time, State.err_time]
  have hevt : (s.toHalted p detail).evt = u.evt := by
    rw [htold, show (w.report 0x0007 (some (s.nodeId, 0x400)) p).evt = w.evt from
      show Part.same .evt w _ by simp [Part.same_refl], hw, State.raise_evt, State.err_evt]
  dsimp only
  rw [hnode', htime', hevt, hnode, htime]
  exact ⟨hstate, hfollowed, hbell, hpend, hcyc, hparent⟩

end Sys2Proof.Machine
end

section
/-! SUPPORT. Clappers that show a duplicate node ID or another timebase than the one followed: the proof of O21 (R78, R80, R83, R93). -/

namespace Sys2Proof.Machine

open Sys2Proof

/-! A clapper that is seen changes nothing by which it is judged. -/

theorem State.tick_congr {s t : State} (h : t.time = s.time) : t.tick = s.tick := by
  simp only [State.tick, h]

theorem State.finalWindow_congr {s t : State} (ht : t.time = s.time) (hs : t.slate = s.slate) : t.finalWindow = s.finalWindow := by
  simp only [State.finalWindow, ht, hs, State.ticks_congr hs, State.tick_congr ht]

theorem State.ticks_clapSeen (s : State) (p : Nat) (c : Clapper) : (s.clapSeen p c).ticks = s.ticks :=
  State.ticks_congr (s.clapSeen_slate p c)

theorem State.rank_clapSeen (s : State) (p : Nat) (c : Clapper) : (s.clapSeen p c).rank = s.rank :=
  (sameCycleRegs_clapSeen s p c).regF (by decide : R.CYCLE_NODE_CFG < 0x1000) 23 16

theorem State.duplicate_clapSeen (s : State) (p : Nat) (c d : Clapper) : (s.clapSeen p c).duplicate d = s.duplicate d := by
  have hregs := sameCycleRegs_clapSeen s p c
  have hleave : (s.clapSeen p c).limLeave = s.limLeave := hregs.regF (by decide : R.CYCLE_OFFSET_CFG < 0x1000) 31 16
  simp only [State.duplicate, hregs.nodeId, State.rank_clapSeen, hleave, State.ticks_clapSeen, State.fab, State.clapSeen_node,
    State.clapSeen_time]
  rfl

/-! A duplicate node ID (R93). -/

section Duplicate

variable {s : State} {p : Nat} {c : Clapper} {tRx : Nat} (hv : (s.seenAt p tRx).clapperValid c = true)
    (hrole : bitsOf ((s.seenAt p tRx).port p).timeCfg 1 0 ≠ 3)
include hv hrole

theorem State.clapperIn_duplicate (hd : (s.seenAt p tRx).duplicate c = true) :
    s.clapperIn p c tRx =
      ((s.seenAt p tRx).clapSeen p c).orDefer (.halt p (c.cycle % 2 ^ 32)) fun t => t.toHalted p (c.cycle % 2 ^ 32) := by
  have hrole' : ¬ bitsOf (((s.seenAt p tRx).clapSeen p c).port p).timeCfg 1 0 = 3 := by rwa [State.clapSeen_port]
  have hdup : ((s.seenAt p tRx).clapSeen p c).duplicate c = true := by rw [State.duplicate_clapSeen, hd]
  exact (if_neg (by rw [hv]; exact Bool.false_ne_true)).trans ((if_neg hrole').trans (if_pos hdup))

theorem State.clapperIn_single (hd : (s.seenAt p tRx).duplicate c = false) :
    s.clapperIn p c tRx = ((s.seenAt p tRx).clapSeen p c).clapperUsed p c tRx := by
  have hrole' : ¬ bitsOf (((s.seenAt p tRx).clapSeen p c).port p).timeCfg 1 0 = 3 := by rwa [State.clapSeen_port]
  have hdup : ¬ ((s.seenAt p tRx).clapSeen p c).duplicate c = true := by
    rw [State.duplicate_clapSeen, hd]
    exact Bool.false_ne_true
  exact (if_neg (by rw [hv]; exact Bool.false_ne_true)).trans ((if_neg hrole').trans (if_neg hdup))

end Duplicate

theorem State.orDefer_runs {s : State} (d : Deferred) (f : State → State) (h : s.finalWindow = false) : s.orDefer d f = f s :=
  if_neg (by rw [h]; exact Bool.false_ne_true)

theorem State.orDefer_waits {s : State} (d : Deferred) (f : State → State) (h : s.finalWindow = true) :
    s.orDefer d f = s.modSlate fun x => { x with deferred := x.deferred ++ [d] } := if_pos h

/-! A clapper of another timebase than the one followed (R80). -/

theorem State.addPair_keeps (s : State) (a b : ClapRec) : (s.addPair a b).node = s.node ∧ (s.addPair a b).regs = s.regs ∧
    (s.addPair a b).ports = s.ports ∧ (s.addPair a b).slate = s.slate ∧ (s.addPair a b).time.parent = s.time.parent := by
  unfold State.addPair
  dsimp only
  split <;> exact ⟨rfl, rfl, rfl, rfl, rfl⟩

/-- A kept clapper that feeds no detector changes its port and the pairs alone. -/
theorem State.keepClapper_keeps {s : State} (p : Nat) (c : Clapper) (t : Int)
    (h : s.node.state ≠ .listen ∨ (s.port p).lastClap = none) : let u := s.keepClapper p c t
    u.node = s.node ∧ u.regs = s.regs ∧ u.time.parent = s.time.parent := by
  have hpaired : ∀ (v : State) (a b : ClapRec), v.node = s.node → v.regs = s.regs → v.time.parent = s.time.parent →
      s.node.state ≠ .listen → let w := if (v.addPair a b).node.state = .listen then (v.addPair a b).detect p a b else v.addPair a b
      w.node = s.node ∧ w.regs = s.regs ∧ w.time.parent = s.time.parent := by
    intro v a b hnode hregs hparent hs
    obtain ⟨hnode', hregs', -, -, hparent'⟩ := v.addPair_keeps a b
    dsimp only
    rw [if_neg (by rwa [hnode', hnode])]
    exact ⟨hnode'.trans hnode, hregs'.trans hregs, hparent'.trans hparent⟩
  unfold State.keepClapper
  dsimp only
  split
  · exact ⟨rfl, rfl, rfl⟩
  next a ha =>
    have hs : s.node.state ≠ .listen := h.resolve_right (by rw [ha]; exact Option.some_ne_none a)
    split
    · exact hpaired _ _ _ rfl rfl rfl hs
    · exact ⟨rfl, rfl, rfl⟩

/-- What the comparison of the timebase leaves of the node, and of what is counted, the clapper leaves. -/
theorem State.clapperUsed_other {s : State} {p : Nat} {c : Clapper} (tRx : Nat) (hf : s.node.followed ≠ some (c.tbRank, c.tbNode)) :
    let v := s.timebase (c.tbRank, c.tbNode)
    (v.node.state ≠ .listen ∨ (v.port p).lastClap = none) → let t := s.clapperUsed p c tRx
    t.node = v.node ∧ t.regs = v.regs ∧ t.time.parent = v.time.parent := by
  intro v hkeep
  have hkept := State.keepClapper_keeps p c (s.toHub (p / 16) tRx) hkeep
  simp only [State.clapperUsed, hf, false_and, and_false, if_false]
  split
  · exact hkept
  · exact ⟨rfl, rfl, rfl⟩

theorem State.timebase_compares {s : State} (tb : Nat × Nat)
    (h : s.inNet = true ∨ s.node.state = .candidate ∨ s.node.state = .stepped) : s.timebase tb = s.compareTb tb := by
  unfold State.timebase
  unfold State.inNet at h
  cases hs : s.node.state <;> simp [hs] at h ⊢

theorem State.compareTb_worse {s : State} {tb f : Nat × Nat} (hf : s.node.followed = some f) (h : tbBetter f tb = true) :
    s.compareTb tb = s.count .cycle 0 R.CYCLE_TB_WORSE_SEEN := by
  simp only [State.compareTb, hf, h, if_true]

theorem State.compareTb_better {s : State} {tb f : Nat × Nat} (hf : s.node.followed = some f) (h : tbBetter tb f = true)
    (h' : tbBetter f tb = false) : s.compareTb tb =
      if s.node.state = .stepped then s.count .cycle 0 R.CYCLE_YIELDS
      else s.orDefer (.yield true tb.1 tb.2) fun t => t.yieldTo tb.1 tb.2 := by
  simp only [State.compareTb, hf, h, h', Bool.false_eq_true, if_true, if_false]

theorem tbBetter_ne {a b : Nat × Nat} (h : tbBetter a b = true) : a ≠ b := by
  rintro rfl
  rw [tbBetter_self] at h
  cases h

/-! Yielding (R78, R83). -/

section Yield

variable {s : State} (better : Option (Nat × Nat)) (hcyc : s.time.hasCycle = true)
    (hzero : s.node.state = .candidate → s.node.zeroAt = none)
include hcyc hzero

/-- A node whose cycle runs, a candidate's among them, gives way in YIELD. -/
theorem State.toYield_running : s.toYield better = (if s.inNet then (s.yields better).flushTx else s.yields better).refuseForNode := by
  have hruns : (!s.time.hasCycle || (s.node.state == .candidate && s.node.zeroAt.isSome)) = false := by
    by_cases hs : s.node.state = .candidate
    · simp [hcyc, hzero hs]
    · simp [hcyc, hs]
  exact if_neg (by rw [hruns]; exact Bool.false_ne_true)

theorem State.toYield_keeps : (s.toYield better).node = (s.yields better).node ∧ (s.toYield better).time = (s.yields better).time := by
  rw [State.toYield_running better hcyc hzero, State.refuseForNode_node, State.refuseForNode_time]
  split
  · exact ⟨State.flushTx_node _, State.flushTx_time _⟩
  · exact ⟨rfl, rfl⟩

theorem State.find_toYield_running {a : Nat} (h : InCyclePage a) (hne : a ≠ pageBase .cycle 0 + R.CYCLE_CUTS_REFUSED) :
    smFind (s.toYield better).regs a = smFind s.regs a := by
  have hyields : smFind (s.yields better).regs a = smFind s.regs a := by
    simp only [State.yields, State.modTime_regs, State.modNode_regs, State.dropServo_regs, State.find_enter_cycle _ h]
  rw [State.toYield_running better hcyc hzero, State.find_refuseForNode_cycle _ h hne]
  split
  · rw [State.find_flushTx_cycle _ h, hyields]
  · exact hyields

end Yield

theorem State.yields_node (s : State) (better : Option (Nat × Nat)) : let n := (s.yields better).node
    n.state = .yield ∧ n.looked = better ∧ n.yieldCycle = s.time.cycle ∧ n.followed = none := by
  refine ⟨?_, rfl, rfl, rfl⟩
  simp only [State.yields, State.modTime_node, State.modNode_node, State.dropServo_node, State.enter_node]

theorem State.yields_parent (s : State) (better : Option (Nat × Nat)) : (s.yields better).time.parent = none := rfl

theorem State.yieldTo_yields {s : State} (rank node : Nat) (hcyc : s.time.hasCycle = true)
    (hzero : s.node.state = .candidate → s.node.zeroAt = none) : let t := s.yieldTo rank node
    t.node = (s.yields (some (rank, node))).node ∧ t.time.parent = none ∧ Counted .cycle 0 R.CYCLE_YIELDS s t := by
  obtain ⟨u, hu⟩ : ∃ u, u = (s.toYield (some (rank, node))).count .cycle 0 R.CYCLE_YIELDS := ⟨_, rfl⟩
  obtain ⟨hnode, htime⟩ := State.toYield_keeps (some (rank, node)) hcyc hzero
  have hcount : Counted .cycle 0 R.CYCLE_YIELDS s u := hu ▸ counted_from (counted_count .cycle 0 R.CYCLE_YIELDS _)
    (State.find_toYield_running (some (rank, node)) hcyc hzero (inCyclePage_reg (by decide)) (by decide))
  have hcounted : u.node = (s.yields (some (rank, node))).node ∧ u.time.parent = none ∧ Counted .cycle 0 R.CYCLE_YIELDS s u := by
    refine ⟨?_, ?_, hcount⟩
    · rw [hu, State.count_node, hnode]
    · rw [hu, State.count_time, htime, State.yields_parent]
  have hto : s.yieldTo rank node = if s.node.state = .candidate then u else u.raise 0x006 0 (rank * 2 ^ 16 + node) := by
    rw [hu, State.yieldTo]
  dsimp only
  rw [hto]
  split <;> exact hcounted

/-! What LISTEN and YIELD note (R83, R84). -/

theorem State.look_node (s : State) (tb : Option (Nat × Nat)) : (s.look tb).node = { s.node with looked := tb } := by
  unfold State.look
  split
  next h => rw [← h]
  · rfl

theorem State.look_ports (s : State) (tb : Option (Nat × Nat)) : (s.look tb).ports = s.ports := by
  unfold State.look
  split <;> rfl

theorem State.look_regs (s : State) (tb : Option (Nat × Nat)) : (s.look tb).regs = s.regs := by
  unfold State.look
  split <;> rfl

theorem State.startListen_ports (s : State) : s.startListen.ports = s.ports := State.modNode_ports ..

/-- The better of the timebase looked for and one that is heard. -/
def bestOf (looked : Option (Nat × Nat)) (tb : Nat × Nat) : Option (Nat × Nat) :=
  match looked with
  | some b => if tbBetter tb b then some tb else some b
  | none => some tb

theorem State.timebase_yield {s : State} (tb : Nat × Nat) (hs : s.node.state = .yield) :
    (s.timebase tb).node = { s.node with looked := bestOf s.node.looked tb } := by
  have hlooks : s.timebase tb = s.look (bestOf s.node.looked tb) := by
    simp only [State.timebase, hs, State.yieldClapper, bestOf]
    cases hl : s.node.looked with
    | none => rfl
    | some b =>
      dsimp only
      split
      · rfl
      · exact (if_pos hl).symm
  rw [hlooks, State.look_node]

theorem State.timebase_listen {s : State} (tb : Nat × Nat) (hs : s.node.state = .listen) :
    (s.timebase tb).node = { s.node with
      heard := heardSet s.node.heard tb s.time.now
      listenEnd := s.time.now + ((3 + s.rank) * s.ticks + s.nodeId * 16) * wTick
      looked := bestOf s.node.looked tb } ∧ (s.timebase tb).ports = s.ports := by
  obtain ⟨u, hu⟩ : ∃ u, u = s.modNode fun n => { n with heard := heardSet n.heard tb s.time.now } := ⟨_, rfl⟩
  have hregs : u.regs = s.regs := hu ▸ s.modNode_regs _
  have hcfg : ∀ hi lo, u.regF .cycle 0 R.CYCLE_NODE_CFG hi lo = s.regF .cycle 0 R.CYCLE_NODE_CFG hi lo := fun hi lo => by
    rw [State.regF, State.reg_of_find (congrArg (smFind · _) hregs), State.regF]
  have hrank : u.rank = s.rank := hcfg 23 16
  have hid : u.nodeId = s.nodeId := hcfg 15 0
  have hticks : u.ticks = s.ticks := State.ticks_congr (hu ▸ s.modNode_slate _)
  have htime : u.time = s.time := hu ▸ s.modNode_time _
  obtain ⟨v, hv⟩ : ∃ v, v = u.startListen := ⟨_, rfl⟩
  have hnode : v.node = { s.node with
      heard := heardSet s.node.heard tb s.time.now
      listenEnd := s.time.now + ((3 + s.rank) * s.ticks + s.nodeId * 16) * wTick } := by
    rw [hv, State.startListen_node, hrank, hid, hticks, htime, hu, State.modNode_node]
  have hlooks : s.timebase tb = v.look (bestOf s.node.looked tb) := by
    simp only [State.timebase, hs, State.listenClapper, ← hu, ← hv, hnode, bestOf]
    cases s.node.looked with
    | none => rfl
    | some b =>
      dsimp only
      split <;> rfl
  refine ⟨by rw [hlooks, State.look_node, hnode], ?_⟩
  rw [hlooks, State.look_ports, hv, State.startListen_ports, hu, State.modNode_ports]

/-! What a used clapper does to the node, by its state (R78, R80, R83, R84). -/

section Used

variable {s : State} {p : Nat} {c : Clapper} (tRx : Nat)

theorem State.clapperUsed_yields {f : Nat × Nat} (hs : s.inNet = true ∨ s.node.state = .candidate ∧ s.node.zeroAt = none)
    (hcyc : s.time.hasCycle = true) (hw : s.finalWindow = false) (hf : s.node.followed = some f)
    (hbetter : tbBetter (c.tbRank, c.tbNode) f = true) (hworse : tbBetter f (c.tbRank, c.tbNode) = false) :
    let t := s.clapperUsed p c tRx
    t.node = (s.yields (some (c.tbRank, c.tbNode))).node ∧ t.time.parent = none ∧ Counted .cycle 0 R.CYCLE_YIELDS s t := by
  have hrunning : s.node.state ≠ .stepped ∧ (s.node.state = .candidate → s.node.zeroAt = none) := by
    unfold State.inNet at hs
    cases hst : s.node.state <;> simp [hst] at hs ⊢
    exact hs
  obtain ⟨hstep, hzero⟩ := hrunning
  have hmove : s.timebase (c.tbRank, c.tbNode) = s.yieldTo c.tbRank c.tbNode := by
    rw [State.timebase_compares _ (hs.imp_right fun h => .inl h.1), State.compareTb_better hf hbetter hworse, if_neg hstep,
      State.orDefer_runs _ _ hw]
  obtain ⟨hnode, hparent, hcount⟩ := State.yieldTo_yields c.tbRank c.tbNode hcyc hzero
  obtain ⟨hstate, -⟩ := s.yields_node (some (c.tbRank, c.tbNode))
  have hkeeps := State.clapperUsed_other (p := p) tRx (hf ▸ fun h => tbBetter_ne hbetter (Option.some.inj h).symm)
    (.inl (by rw [hmove, hnode, hstate]; decide))
  rw [hmove] at hkeeps
  obtain ⟨hnode', hregs, hparent'⟩ := hkeeps
  exact ⟨hnode'.trans hnode, hparent'.trans hparent, counted_of_find hcount (by rw [hregs])⟩

/-- A clapper of another timebase that is only counted. -/
theorem State.clapperUsed_counts {po : Nat} (hf : s.node.followed ≠ some (c.tbRank, c.tbNode)) (hs : s.node.state ≠ .listen)
    (hcounts : s.timebase (c.tbRank, c.tbNode) = s.count .cycle 0 po) : let t := s.clapperUsed p c tRx
    t.node = s.node ∧ Counted .cycle 0 po s t := by
  have hkeeps := State.clapperUsed_other (p := p) tRx hf (.inl (by rwa [hcounts, State.count_node]))
  rw [hcounts] at hkeeps
  obtain ⟨hnode, hregs, -⟩ := hkeeps
  exact ⟨hnode.trans (State.count_node ..), counted_of_find (counted_count .cycle 0 po s) (by rw [hregs])⟩

theorem State.clapperUsed_inYield (hf : s.node.followed = none) (hs : s.node.state = .yield) :
    (s.clapperUsed p c tRx).node = { s.node with looked := bestOf s.node.looked (c.tbRank, c.tbNode) } := by
  have htb := State.timebase_yield (c.tbRank, c.tbNode) hs
  have hstate : (s.timebase (c.tbRank, c.tbNode)).node.state = .yield := (congrArg NodeSt.state htb).trans hs
  obtain ⟨hnode, -⟩ := State.clapperUsed_other (p := p) tRx (hf ▸ Option.some_ne_none _).symm (.inl (by rw [hstate]; decide))
  exact hnode.trans htb

theorem State.clapperUsed_inListen (hf : s.node.followed = none) (hs : s.node.state = .listen) (hlast : (s.port p).lastClap = none) :
    (s.clapperUsed p c tRx).node = { s.node with
      heard := heardSet s.node.heard (c.tbRank, c.tbNode) s.time.now
      listenEnd := s.time.now + ((3 + s.rank) * s.ticks + s.nodeId * 16) * wTick
      looked := bestOf s.node.looked (c.tbRank, c.tbNode) } := by
  obtain ⟨htb, hports⟩ := State.timebase_listen (c.tbRank, c.tbNode) hs
  obtain ⟨hnode, -⟩ := State.clapperUsed_other (p := p) tRx (hf ▸ Option.some_ne_none _).symm
    (.inr (by rw [State.port_congr hports, hlast]))
  exact hnode.trans htb

end Used

/-- Settles O21: the commands by what `State.toListen` and `State.toOff` set; a clapper by `State.toHalted_sets`, `State.yieldTo_yields` or
what `State.timebase` notes, none of which the rest of its receipt changes. -/
theorem nodeCommandsMoveTheNode : Obligations.NodeCommandsMoveTheNode := by
  refine ⟨fun s ho => ⟨?start, ?startBusy, ?stop, ?stopWaits, ?stopBusy, ?clear, ?clearBusy⟩,
    ?clappers⟩
  case start =>
    intro hs
    obtain ⟨hstate, hfollowed, hlooked⟩ := s.toListen_node none
    obtain ⟨hheard, hbell⟩ := s.toListen_forgets
    refine ⟨_, exec_nodeStart ho, ?_⟩
    rw [State.nodeStart_off hs]
    exact ⟨hstate, hfollowed, hheard, hlooked, hbell, s.toListen_timer none, (sameClock_toListen s none).now⟩
  case startBusy =>
    intro hs
    rw [exec_nodeStart ho, State.nodeStart, if_neg hs, State.nodeBusy]
  case stop =>
    intro hs hw
    obtain ⟨hstate, hcyc, hfollowed, hbell, hpend⟩ := s.toOff_sets
    refine ⟨_, exec_nodeStop ho, ?_⟩
    rw [State.nodeStop, if_neg hs, State.orDefer_runs _ _ hw]
    exact ⟨hstate, hcyc, hfollowed, hbell, hpend, State.toOff_cut⟩
  case stopWaits =>
    intro hs hw
    rw [exec_nodeStop ho, State.nodeStop, if_neg hs, State.orDefer_waits _ _ hw, State.modSlate]
  case stopBusy =>
    intro hs
    rw [exec_nodeStop ho, State.nodeStop, if_pos hs, State.nodeBusy, hs]
    rfl
  case clear =>
    intro hs
    obtain ⟨hstate, hcyc, hfollowed, -, hpend⟩ := s.toOff_sets
    refine ⟨_, exec_clearHalt ho, ?_⟩
    rw [State.clearHalt, if_pos hs]
    exact ⟨hstate, hcyc, hfollowed, hpend⟩
  case clearBusy =>
    intro hs
    rw [exec_clearHalt ho, State.clearHalt, if_neg hs, State.nodeBusy]
  case clappers =>
    intro s p c tRx hup hh u tb hv hrole
    obtain ⟨v, hvseen⟩ : ∃ v, v = u.clapSeen p c := ⟨_, rfl⟩
    have hnode : v.node = u.node := hvseen ▸ u.clapSeen_node p c
    have htime : v.time = u.time := hvseen ▸ u.clapSeen_time p c
    have hslate : v.slate = u.slate := hvseen ▸ u.clapSeen_slate p c
    have hwindow : v.finalWindow = u.finalWindow := State.finalWindow_congr htime hslate
    have hnet : v.inNet = u.inNet := by rw [State.inNet, hnode, State.inNet]
    have hregs : ∀ {po}, po < 0x1000 → smFind v.regs (pageBase .cycle 0 + po) = smFind u.regs (pageBase .cycle 0 + po) :=
      fun hpo => hvseen ▸ sameCycleRegs_clapSeen u p c _ (inCyclePage_reg hpo)
    have hsingle : u.duplicate c = false → ∀ {P : State → Prop}, P (v.clapperUsed p c tRx) → Answers (.clapperRx p c tRx) s P :=
      fun hd P hP => ⟨_, exec_clapperRx hup hh, by rw [State.clapperIn_single hv hrole hd, ← hvseen]; exact hP⟩
    refine ⟨?halts, ?haltWaits, ?yields, ?steppedBetter, ?worse, ?yieldLooks, ?listenNotes⟩
    case halts =>
      intro hd hw
      obtain ⟨hstate, hfollowed, hbell, hpend, hcyc, hparent⟩ := v.toHalted_sets p (c.cycle % 2 ^ 32)
      refine ⟨_, exec_clapperRx hup hh, ?_⟩
      rw [State.clapperIn_duplicate hv hrole hd, ← hvseen, State.orDefer_runs _ _ (hwindow.trans hw)]
      exact ⟨hstate, hfollowed, hbell, hpend, by rw [hcyc, htime], hparent⟩
    case haltWaits =>
      intro hd hw
      refine ⟨_, exec_clapperRx hup hh, ?_⟩
      rw [State.clapperIn_duplicate hv hrole hd, ← hvseen, State.orDefer_waits _ _ (hwindow.trans hw)]
      exact ⟨hnode, by rw [State.modSlate, hslate]⟩
    case yields =>
      intro f hd hstate hcyc hw hf hbetter hworse
      have hstate' : v.inNet = true ∨ v.node.state = .candidate ∧ v.node.zeroAt = none := by rwa [hnet, hnode]
      obtain ⟨htnode, hparent, hcount⟩ := State.clapperUsed_yields (p := p) tRx hstate' (htime ▸ hcyc) (hwindow.trans hw)
        (hnode ▸ hf) hbetter hworse
      obtain ⟨hyield, hlooked, hcycle, hfollowed⟩ := v.yields_node (some tb)
      rw [← htnode] at hyield hlooked hcycle hfollowed
      exact hsingle hd ⟨hyield, hlooked, hcycle.trans (by rw [htime]), hfollowed, hparent, counted_from hcount (hregs (by decide))⟩
    case steppedBetter =>
      intro f hd hs hf hbetter hworse
      have hfv : v.node.followed = some f := hnode ▸ hf
      have hsv : v.node.state = .stepped := hnode ▸ hs
      have hcounts : v.timebase tb = v.count .cycle 0 R.CYCLE_YIELDS := by
        rw [State.timebase_compares tb (.inr (.inr hsv)), State.compareTb_better hfv hbetter hworse, if_pos hsv]
      obtain ⟨htnode, hcount⟩ := State.clapperUsed_counts (p := p) tRx (hfv ▸ fun h => tbBetter_ne hbetter (Option.some.inj h).symm)
        (by rw [hsv]; decide) hcounts
      exact hsingle hd ⟨htnode.trans hnode, counted_from hcount (hregs (by decide))⟩
    case worse =>
      intro f hd hstate hf hworse
      have hfv : v.node.followed = some f := hnode ▸ hf
      have hstate' : v.inNet = true ∨ v.node.state = .candidate ∨ v.node.state = .stepped := by rwa [hnet, hnode]
      have hlisten : v.node.state ≠ .listen := fun h => by simp [State.inNet, h] at hstate'
      have hcounts : v.timebase tb = v.count .cycle 0 R.CYCLE_TB_WORSE_SEEN := by
        rw [State.timebase_compares tb hstate', State.compareTb_worse hfv hworse]
      obtain ⟨htnode, hcount⟩ := State.clapperUsed_counts (p := p) tRx (hfv ▸ fun h => tbBetter_ne hworse (Option.some.inj h)) hlisten
        hcounts
      exact hsingle hd ⟨htnode.trans hnode, counted_from hcount (hregs (by decide))⟩
    case yieldLooks =>
      intro hd hs hf
      have htnode := State.clapperUsed_inYield (p := p) (c := c) tRx (hnode ▸ hf) (hnode ▸ hs)
      rw [hnode] at htnode
      exact hsingle hd htnode
    case listenNotes =>
      intro hd hs hf hlast
      have hlast' : (v.port p).lastClap = none := by rw [hvseen, State.clapSeen_port, hlast]
      have htnode := State.clapperUsed_inListen (c := c) tRx (hnode ▸ hf) (hnode ▸ hs) hlast'
      rw [hnode, htime, hvseen, State.rank_clapSeen, State.ticks_clapSeen, (sameCycleRegs_clapSeen u p c).nodeId, ← hvseen] at htnode
      exact hsingle hd htnode

end Sys2Proof.Machine
end

section
/-! SUPPORT. The join detector, the join step and the detector's drop: the proof of O23 (R84, R85). -/

namespace Sys2Proof.Machine

open Sys2Proof

/-! A clapper that feeds the detector (R84). -/

theorem State.look_slate (s : State) (tb : Option (Nat × Nat)) : (s.look tb).slate = s.slate := by
  unfold State.look
  split <;> rfl

theorem State.startListen_slate (s : State) : s.startListen.slate = s.slate := State.modNode_slate ..

/-- Noting a timebase in LISTEN changes no register and no slate. -/
theorem State.timebase_listen_keeps {s : State} (tb : Nat × Nat) (hs : s.node.state = .listen) :
    (s.timebase tb).regs = s.regs ∧ (s.timebase tb).slate = s.slate := by
  simp only [State.timebase, hs, State.listenClapper, State.look_regs, State.look_slate, State.startListen_regs,
    State.startListen_slate, State.modNode_regs, State.modNode_slate, and_self]

/-- The record that a port keeps of a clapper heard in LISTEN. -/
def State.clapRec (s : State) (p : Nat) (c : Clapper) (tRx : Nat) : ClapRec :=
  { cycle := c.cycle, origin := c.origin, correction := c.correction, tRx := s.toHub (p / 16) tRx, rank := c.tbRank, node := c.tbNode,
    steps := c.steps, ticks := c.ticks, delayOk := (s.port p).delayOk, counts := true }

theorem State.clapRec_clapSeen (s : State) (p : Nat) (c : Clapper) (tRx : Nat) :
    (s.clapSeen p c).clapRec p c tRx = s.clapRec p c tRx := by
  simp only [State.clapRec, State.toHub_congr (s.clapSeen_time p c), State.clapSeen_port]

/-- The second of two clappers of consecutive cycles of the timebase looked for is kept, makes a rate pair, and goes to the detector. -/
theorem State.keepClapper_detects {s : State} {p : Nat} {c : Clapper} {tRx : Int} {a b : ClapRec} (hs : s.node.state = .listen)
    (hb : b = { cycle := c.cycle, origin := c.origin, correction := c.correction, tRx, rank := c.tbRank, node := c.tbNode,
                steps := c.steps, ticks := c.ticks, delayOk := (s.port p).delayOk, counts := true })
    (hl : s.node.looked = some (b.rank, b.node)) (hlast : (s.port p).lastClap = some a) (hcyc : cycDiff b.cycle a.cycle = 1)
    (htb : (a.rank, a.node) = (b.rank, b.node)) : s.keepClapper p c tRx =
      ((s.modPort p fun q => { q with lastClap := some b, qual := none }).addPair a b).detect p a b := by
  obtain ⟨hrank, hnode⟩ := Prod.mk.inj htb
  obtain ⟨u, hu⟩ : ∃ u, u = s.modPort p fun q => { q with lastClap := some b, qual := none } := ⟨_, rfl⟩
  have hunode : u.node = s.node := hu ▸ State.modPort_node ..
  have hpair : u.pairTb = some (b.rank, b.node) := by simp only [State.pairTb, hunode, hs, hl]
  have ⟨hpaired, _⟩ := u.addPair_keeps a b
  have hstate : (u.addPair a b).node.state = .listen := by rw [hpaired, hunode, hs]
  subst hb
  have hlistening : (s.node.state == .listen) = true := by rw [hs]; rfl
  simp only [State.keepClapper, hlast, hlistening, ← hu]
  exact (if_pos ⟨hcyc, hrank, hnode, hpair⟩).trans (if_pos hstate)

/-- A clapper of the timebase looked for reaches the detector in a state that differs from the one before in what is noted of it. -/
theorem State.clapperUsed_detects {s : State} {p : Nat} {c : Clapper} {tRx : Nat} {a : ClapRec} (hs : s.node.state = .listen)
    (hrole : bitsOf (s.port p).timeCfg 1 0 < 2) (hf : s.node.followed = none) (hl : s.node.looked = some (c.tbRank, c.tbNode))
    (hlast : (s.port p).lastClap = some a) (hcyc : cycDiff c.cycle a.cycle = 1) (htb : (a.rank, a.node) = (c.tbRank, c.tbNode)) :
    let b := s.clapRec p c tRx
    ∃ z : State, s.clapperUsed p c tRx = z.detect p a b ∧ z.node.state = .listen ∧ z.node.looked = s.node.looked ∧
      z.node.join = s.node.join ∧ z.ports = smMod s.ports p {} (fun q => { q with lastClap := some b, qual := none }) ∧
      z.regs = s.regs ∧ z.slate = s.slate := by
  intro b
  obtain ⟨v, hv⟩ : ∃ v, v = s.timebase (c.tbRank, c.tbNode) := ⟨_, rfl⟩
  obtain ⟨hnode, hports⟩ := State.timebase_listen (c.tbRank, c.tbNode) hs
  obtain ⟨hregs, hslate⟩ := State.timebase_listen_keeps (c.tbRank, c.tbNode) hs
  rw [← hv] at hnode hports hregs hslate
  have hbest : bestOf s.node.looked (c.tbRank, c.tbNode) = s.node.looked := by simp [hl, bestOf, tbBetter_self]
  have hstate : v.node.state = .listen := (congrArg NodeSt.state hnode).trans hs
  have hlooked : v.node.looked = s.node.looked := (congrArg NodeSt.looked hnode).trans hbest
  have hport : v.port p = s.port p := State.port_congr hports p
  have huses : bitsOf (s.port p).timeCfg 1 0 = 0 ∨ bitsOf (s.port p).timeCfg 1 0 = 1 := by omega
  have hused : s.clapperUsed p c tRx = v.keepClapper p c (s.toHub (p / 16) tRx) := by
    simp only [State.clapperUsed, hf, reduceCtorEq, false_and, and_false, if_false, huses, if_true, hv]
  obtain ⟨w, hw⟩ : ∃ w, w = v.modPort p fun q => { q with lastClap := some b, qual := none } := ⟨_, rfl⟩
  have hdetect : v.keepClapper p c (s.toHub (p / 16) tRx) = (w.addPair a b).detect p a b :=
    hw ▸ State.keepClapper_detects hstate (by rw [hport]; rfl) (hlooked.trans hl) (by rw [hport, hlast]) hcyc htb
  obtain ⟨hpnode, hpregs, hpports, hpslate, -⟩ := w.addPair_keeps a b
  have hwnode : w.node = v.node := hw ▸ State.modPort_node ..
  refine ⟨w.addPair a b, hused.trans hdetect, ?_, ?_, ?_, ?_, ?_, ?_⟩
  · rw [hpnode, hwnode, hstate]
  · rw [hpnode, hwnode, hlooked]
  · rw [hpnode, hwnode, hnode]
  · rw [hpports, hw, State.modPort, hports]
  · rw [hpregs, hw, State.modPort_regs, hregs]
  · rw [hpslate, hw, State.modPort_slate, hslate]

/-! The detector (R84). -/

theorem State.pairOk_congr {s t : State} (h : t.slate = s.slate) (p : Nat) (a b : ClapRec) : t.pairOk p a b = s.pairOk p a b := by
  simp only [State.pairOk, State.rxTolW, State.live_congr h]
  rfl

theorem State.detect_fails {s : State} {p : Nat} {a b : ClapRec} (h : s.pairOk p a b = false) : s.detect p a b = s := by
  simp only [State.detect, h, Bool.not_false, if_true]

/-- Clappers that show other cycle ticks are a mismatch. -/
theorem State.detect_mismatch {s : State} {p : Nat} {a b : ClapRec} (hok : s.pairOk p a b = true) (ht : b.ticks ≠ s.ticks) :
    let t := s.detect p a b
    t.node.state = s.node.state ∧ t.node.mismatch = true ∧ Counted .cycle 0 R.CYCLE_JOIN_MISMATCH s t := by
  obtain ⟨u, hu⟩ : ∃ u, u = s.count .cycle 0 R.CYCLE_JOIN_MISMATCH := ⟨_, rfl⟩
  have hcount : Counted .cycle 0 R.CYCLE_JOIN_MISMATCH s u := hu ▸ counted_count ..
  have hnode : u.node = s.node := hu ▸ State.count_node ..
  have hdetect : s.detect p a b =
      if u.node.mismatch then u else (u.modNode fun n => { n with mismatch := true }).raise 0x00B p b.ticks := by
    simp only [State.detect, hok, ht, Bool.not_true, Bool.false_eq_true, if_false, ne_eq, not_false_eq_true, if_true, hu]
  dsimp only
  rw [hdetect, ← hnode]
  split
  next h => exact ⟨rfl, h, hcount⟩
  · exact ⟨rfl, rfl, hcount⟩

/-- Listing an entry that alone passes a test leaves that entry alone. -/
theorem filterMap_smSet {α β : Type} {m : SMap α} {k : Nat} {v : α} {g : Nat × α → Option β} {r : β}
    (hm : ∀ x ∈ m, g x = none) (hv : g (k, v) = some r) : (smSet m k v).filterMap g = [r] := by
  induction m with
  | nil => simp [smSet, hv]
  | cons x m ih =>
    obtain ⟨i, w⟩ := x
    have hx : g (i, w) = none := hm _ (List.mem_cons_self ..)
    have htail : ∀ y ∈ m, g y = none := fun y hy => hm y (List.mem_cons_of_mem _ hy)
    have hnil : m.filterMap g = [] := List.filterMap_eq_nil_iff.2 htail
    unfold smSet
    split
    · simp [hv, hx, hnil]
    split
    · simp [hv, hnil]
    · simp [hx, ih htail]

/-- A port that qualifies where no other has. -/
theorem State.qualified_single {s : State} {p n : Nat} {m : SMap PortSt} {q : PortSt} {b : ClapRec} (hports : s.ports = smSet m p q)
    (hm : ∀ x ∈ m, x.2.qual ≠ some n) (hq : q.qual = some n) (hlast : q.lastClap = some b)
    (hl : s.node.looked = some (b.rank, b.node)) : s.qualified n = [⟨p, b.steps⟩] := by
  rw [State.qualified, hports]
  refine filterMap_smSet (fun x hx => ?_) ?_
  · have hne := hm x hx
    split
    next k c hk hc =>
      refine if_neg fun h => hne ?_
      rw [hk, h.1]
    · rfl
  · simp only [hq, hlast, hl, and_self, if_true]

/-- A full valid cycle: the node is STEPPED, and its join is set (R78, R85). -/
theorem State.detected_sets {s : State} (n : Nat) {best : Cand} {b : ClapRec} (h : (s.port best.port).lastClap = some b) :
    let t := s.detected n best
    t.node.state = .stepped ∧ t.node.followed = some (b.rank, b.node) ∧ t.time.parent = some best.port ∧
    t.time.parentSteps = b.steps ∧ t.node.join = some (s.joinOf n best.port b) := by
  intro t
  have ht : t = ((s.enter .stepped).modNode fun x =>
      { x with join := some (s.joinOf n best.port b), followed := some (b.rank, b.node) }).modTime fun x =>
      { x with parent := some best.port, parentSteps := b.steps, missed := 0, better := [] } := by
    simp only [t, State.detected, h]
  have hstate : (s.enter .stepped).node.state = .stepped := by rw [State.enter_node]
  rw [ht]
  exact ⟨hstate, rfl, rfl, rfl, rfl⟩

/-- A port that alone qualifies, where one is enough, makes a full valid cycle. -/
theorem State.detect_full {s : State} {p : Nat} {a b : ClapRec} {m : SMap PortSt} {q : PortSt} (hok : s.pairOk p a b = true)
    (ht : b.ticks = s.ticks) (hquorum : s.regF .cycle 0 R.CYCLE_NODE_CFG 31 24 ≤ 1) (hports : s.ports = smSet m p q)
    (hm : ∀ x ∈ m, x.2.qual ≠ some a.cycle) (hlast : q.lastClap = some b) (hl : s.node.looked = some (b.rank, b.node)) :
    let t := s.detect p a b
    t.node.state = .stepped ∧ t.node.followed = some (b.rank, b.node) ∧ t.time.parent = some p ∧ t.time.parentSteps = b.steps ∧
    t.node.join = some (s.joinOf a.cycle p b) := by
  intro t
  obtain ⟨u, hu⟩ : ∃ u, u = s.modPort p fun x => { x with qual := some a.cycle } := ⟨_, rfl⟩
  have hport : s.port p = q := by rw [State.port, hports, smGet_smSet_same]
  have huport : u.port p = { q with qual := some a.cycle } := by rw [hu, State.port_modPort_same, hport]
  have huports : u.ports = smSet m p { q with qual := some a.cycle } := by
    rw [hu, State.modPort]
    simp only [smMod, hports, smSet_smSet, smGet_smSet_same]
  have hunode : u.node = s.node := hu ▸ State.modPort_node ..
  have huregs : u.regs = s.regs := hu ▸ State.modPort_regs ..
  have hqual : u.qualified a.cycle = [⟨p, b.steps⟩] := State.qualified_single huports hm rfl hlast (hunode ▸ hl)
  have hbest : u.bestCand [⟨p, b.steps⟩] = some ⟨p, b.steps⟩ := by rw [State.bestCand, sortBy_singleton]; rfl
  have hquorum' : ¬ [(⟨p, b.steps⟩ : Cand)].length < u.regF .cycle 0 R.CYCLE_NODE_CFG 31 24 := by
    rw [State.regF, State.reg_of_find (congrArg (smFind · _) huregs)]
    exact Nat.not_lt.2 hquorum
  have hfull : t = u.detected a.cycle ⟨p, b.steps⟩ := by
    simp only [t, State.detect, hok, ht, Bool.not_true, Bool.false_eq_true, if_false, ne_eq, not_true_eq_false, ← hu, hqual,
      hquorum', hbest]
  have hjoin : u.joinOf a.cycle p b = s.joinOf a.cycle p b := by
    have hdelay : u.linkDelay p = s.linkDelay p := State.linkDelay_congr (by rw [huport, hport]) (by rw [huregs])
    have hticks : u.ticks = s.ticks := State.ticks_congr (hu ▸ State.modPort_slate ..)
    simp only [State.joinOf, hdelay, hticks]
  obtain ⟨hstate, hfollowed, hparent, hsteps, hjoined⟩ := State.detected_sets (s := u) a.cycle (best := ⟨p, b.steps⟩) (b := b)
    (by rw [huport, hlast])
  rw [hfull]
  exact ⟨hstate, hfollowed, hparent, hsteps, hjoined.trans (congrArg some hjoin)⟩

/-! The join step (R85). -/

theorem State.eventsPassed_pend (s : State) (n : Nat) :
    (s.eventsPassed n).evt.pend = s.evt.pend.filter fun e => decide (0 ≤ cycDiff e.cycle n) :=
  State.foldl_keeps (fun u => u.evt.pend) _ (fun (u : State) (e : PendEvt) => u.fireLine e.line u.time.now)
    (fun u e => u.fireLine_pend e.line _) _

theorem State.eventsPassed_time (s : State) (n : Nat) : (s.eventsPassed n).time = s.time :=
  State.foldl_keeps (fun u => u.time) _ (fun (u : State) (e : PendEvt) => u.fireLine e.line u.time.now)
    (fun u e => u.fireLine_time e.line _) _

/-- A period instant that is passed over raises PPS_OUT, and changes nothing else of the time part. -/
theorem State.ppsPassed_time (s : State) (f0 f1 : Nat) : ∃ rise last out,
    (s.ppsPassed f0 f1).time = { s.time with ppsRise := rise, ppsLast := last, ppsOut := out } := by
  unfold State.ppsPassed
  split
  · rw [State.ppsRises, State.setPps_eq]
    exact ⟨_, _, _, rfl⟩
  · exact ⟨_, _, _, rfl⟩

/-- The clock of the join step, set to the join's instant. -/
def State.stepClock (s : State) (j : Join) : State :=
  (s.runTo (s.unfab (j.sInst - j.delta))).modTime fun t =>
    { t with fabOff := t.fabOff + j.delta, hasCycle := true, cycle := cycMod (j.n + 2), cycStart := s.unfab (j.sInst - j.delta),
             prevTicks := s.ticks, cands := [] }

/-- What the join step passes over. -/
def State.stepPasses (s : State) (j : Join) : State :=
  let u := s.stepClock j
  let s0 := s.runTo (s.unfab (j.sInst - j.delta))
  (u.eventsPassed (cycMod (j.n + 2))).ppsPassed (s0.fab s0.time.now) (u.fab u.time.now)

/-- The join step before the cycle begins: the join is noted, and no port remembers a clapper. -/
def State.stepJoins (s : State) (j : Join) : State :=
  ((s.stepPasses j).modNode fun n =>
    { n with join := some { j with stepped := true }, joinN := j.n, joinPort := j.parent, stepNs := roundEven j.delta wNs }).eachPort
    fun p t => t.modPort p fun q => { q with lastClap := none, qual := none }

theorem exec_joinStep {s : State} {j : Join} (hs : s.node.state = .stepped) (hj : s.node.join = some j) (h : j.stepped = false) :
    exec .joinStep s = .next ((s.stepJoins j).cycleBegin []) := by
  simp only [exec, execJoinStep, hs, hj, h, Bool.false_eq_true, if_false]
  rfl

theorem State.runTo_evt (s : State) (w : Nat) : (s.runTo w).evt = s.evt := by
  refine (show Part.same .evt s _ from ?_)
  simp [Part.same_refl]

theorem State.stepClock_keeps (s : State) (j : Join) : (s.stepClock j).node = s.node ∧ (s.stepClock j).evt = s.evt ∧
    (s.stepClock j).time = { s.time with
      now := max s.time.now (s.unfab (j.sInst - j.delta)), fabOff := s.time.fabOff + j.delta, hasCycle := true,
      cycle := cycMod (j.n + 2), cycStart := s.unfab (j.sInst - j.delta), prevTicks := s.ticks, cands := [] } := by
  refine ⟨?_, ?_, ?_⟩
  · rw [State.stepClock, State.modTime_node, State.runTo_node]
  · rw [State.stepClock, State.modTime_evt, State.runTo_evt]
  · simp only [State.stepClock, State.modTime, State.runTo_time]

theorem State.stepPasses_keeps (s : State) (j : Join) : let u := s.stepPasses j
    u.node = s.node ∧ u.evt.pend = (s.evt.pend.filter fun e => decide (0 ≤ cycDiff e.cycle (cycMod (j.n + 2)))) ∧
    u.time.fabOff = s.time.fabOff + j.delta ∧ u.time.hasCycle = true ∧ u.time.cycle = cycMod (j.n + 2) ∧
    u.time.cycStart = s.unfab (j.sInst - j.delta) := by
  obtain ⟨hnode, hevt, htime⟩ := s.stepClock_keeps j
  obtain ⟨v, hv⟩ : ∃ v, v = (s.stepClock j).eventsPassed (cycMod (j.n + 2)) := ⟨_, rfl⟩
  have hvnode : v.node = s.node := by
    rw [hv, ← hnode]
    exact show Part.same .node _ _ by simp [Part.same_refl]
  have hvpend : v.evt.pend = s.evt.pend.filter fun e => decide (0 ≤ cycDiff e.cycle (cycMod (j.n + 2))) := by
    rw [hv, State.eventsPassed_pend, hevt]
  have hpps : ∀ f0 f1, (v.ppsPassed f0 f1).node = v.node ∧ (v.ppsPassed f0 f1).evt = v.evt := fun f0 f1 =>
    ⟨show Part.same .node v _ by simp [Part.same_refl], show Part.same .evt v _ by simp [Part.same_refl]⟩
  have hpasses : ∃ f0 f1, s.stepPasses j = v.ppsPassed f0 f1 := ⟨_, _, by rw [hv]; rfl⟩
  obtain ⟨f0, f1, hpasses⟩ := hpasses
  obtain ⟨rise, last, out, hptime⟩ := v.ppsPassed_time f0 f1
  obtain ⟨hpnode, hpevt⟩ := hpps f0 f1
  dsimp only
  rw [hpasses, hpnode, hpevt, hptime, hvnode, hvpend, hv, State.eventsPassed_time, htime]
  exact ⟨rfl, rfl, rfl, rfl, rfl, rfl⟩

theorem State.stepJoins_keeps (s : State) (j : Join) : let u := s.stepJoins j
    u.node = { s.node with
      join := some { j with stepped := true }, joinN := j.n, joinPort := j.parent, stepNs := roundEven j.delta wNs } ∧
    u.evt = (s.stepPasses j).evt ∧ u.time = (s.stepPasses j).time := by
  obtain ⟨hnode, -⟩ := s.stepPasses_keeps j
  have hforgets : ∀ {α : Type} (g : State → α) (u : State), (∀ (v : State) p f, g (v.modPort p f) = g v) →
      g (u.eachPort fun p v => v.modPort p fun q => { q with lastClap := none, qual := none }) = g u :=
    fun g u hg => State.foldl_keeps g _ _ (fun v p => hg v p _) u
  dsimp only
  rw [State.stepJoins, hforgets (fun u => u.node) _ State.modPort_node, hforgets (fun u => u.evt) _ State.modPort_evt,
    hforgets (fun u => u.time) _ State.modPort_time, State.modNode_node, hnode]
  exact ⟨rfl, State.modNode_evt .., State.modNode_time ..⟩

/-! The timebase that is no longer heard (R84). -/

theorem State.look_now (s : State) (tb : Option (Nat × Nat)) : (s.look tb).time.now = s.time.now := by
  unfold State.look
  split <;> rfl

/-- A timebase of which no clapper has come for two cycles is no longer among those heard, nor is any heard before it. -/
def State.unheard (s : State) (rank node at_ : Nat) : State :=
  (s.atLeast (at_ + 2 * s.ticks * wTick)).modNode fun n =>
    { n with heard := n.heard.filter fun x => !(x.1 == rank && x.2.1 == node) && decide (at_ < x.2.2) }

theorem State.unheard_node (s : State) (rank node at_ : Nat) : (s.unheard rank node at_).node = { s.node with
    heard := s.node.heard.filter fun x => !(x.1 == rank && x.2.1 == node) && decide (at_ < x.2.2) } := by
  rw [State.unheard, State.modNode_node, State.atLeast_node]

theorem State.unheard_now (s : State) (rank node at_ : Nat) :
    (s.unheard rank node at_).time.now = max s.time.now (at_ + 2 * s.ticks * wTick) := by
  rw [State.unheard, State.modNode_time, State.atLeast_time]

theorem exec_joinDetectorDrop {s : State} {rank node at_ : Nat} (hs : s.node.state = .listen) (hl : s.node.looked = some (rank, node))
    (hfind : (s.node.heard.find? fun x => x.1 == rank && x.2.1 == node) = some (rank, node, at_)) :
    exec .joinDetectorDrop s =
      .next ((s.unheard rank node at_).look (bestHeard (s.unheard rank node at_).node.heard)) := by
  simp only [exec, execJoinDetectorDrop, hs, hl, hfind, State.unheard]

/-- Settles O23: a clapper that reaches the detector by `State.clapperUsed_detects`, the join step by `State.stepJoins_keeps`, the drop
by what the detector has heard since. -/
theorem joinStepSetsFabricTime : Obligations.JoinStepSetsFabricTime := by
  refine ⟨?detector, fun s j hs hj hstep => ⟨_, exec_joinStep hs hj hstep, ?step⟩, ?drop⟩
  case detector =>
    intro s p c tRx a hup hs u tb b hv hrole hd hf hl hlast hcyc htb
    obtain ⟨v, hvseen⟩ : ∃ v, v = u.clapSeen p c := ⟨_, rfl⟩
    have hnode : v.node = u.node := hvseen ▸ u.clapSeen_node p c
    have hslate : v.slate = u.slate := hvseen ▸ u.clapSeen_slate p c
    have hport : v.port p = { u.port p with clapSeen := c.tbNode + c.tbRank * 2 ^ 16 + c.steps * 2 ^ 24 } :=
      hvseen ▸ u.clapSeen_port p c
    have hrec : v.clapRec p c tRx = b := hvseen ▸ u.clapRec_clapSeen p c tRx
    have hstate : v.node.state = .listen := by rw [hnode, s.seenAt_node, hs]
    obtain ⟨z, hused, hzstate, hzlooked, hzjoin, hzports, hzregs, hzslate⟩ := State.clapperUsed_detects (c := c) (tRx := tRx) hstate
      (by rw [hport]; exact hrole) (by rw [hnode, hf]) (by rw [hnode, hl]) (by rw [hport]; exact hlast) hcyc htb
    rw [hrec] at hused hzports
    have hne : bitsOf (u.port p).timeCfg 1 0 ≠ 3 := by omega
    have hexec : exec (.clapperRx p c tRx) s = .next (z.detect p a b) := by
      rw [exec_clapperRx hup (by rw [hs]; decide), State.clapperIn_single hv hne hd, ← hvseen, hused]
    have hzu : z.slate = u.slate := hzslate.trans hslate
    have hpair : z.pairOk p a b = u.pairOk p a b := State.pairOk_congr hzu p a b
    have hticks : z.ticks = u.ticks := State.ticks_congr hzu
    have hlook : z.node.looked = some (b.rank, b.node) := by rw [hzlooked, hnode, hl]
    have hregs : SameCycleRegs u z := fun x hx =>
      (congrArg (smFind · x) hzregs).trans (hvseen ▸ sameCycleRegs_clapSeen u p c x hx)
    refine ⟨fun hok ht hq hnone => ⟨_, hexec, ?full⟩, fun hok ht => ⟨_, hexec, ?mismatch⟩, fun hbad => ⟨_, hexec, ?fails⟩⟩
    case full =>
      have hvports : v.ports = smSet u.ports p (v.port p) := by
        rw [hport, hvseen, State.clapSeen, State.modPort, smMod, State.countP_ports]
        rfl
      have hports : z.ports = smSet u.ports p { v.port p with lastClap := some b, qual := none } := by
        rw [hzports, hvports, smMod, smSet_smSet, smGet_smSet_same]
      have hdelay : z.linkDelay p = u.linkDelay p := by
        refine State.linkDelay_congr ?_ ?_
        · rw [State.port, hports, smGet_smSet_same, hport]
        · rw [hzregs, hvseen]
          exact u.find_clapSeen_other p c (by simp [pageBase, R.PORT_DELAY_ASYM, R.PORT_CLAP_RX_VALID])
      have hquorum : z.regF .cycle 0 R.CYCLE_NODE_CFG 31 24 ≤ 1 := by
        rw [hregs.regF (by decide)]
        exact hq
      obtain ⟨hst, hfollowed, hparent, hsteps, hjoin⟩ :=
        State.detect_full (hpair.trans hok) (ht.trans hticks.symm) hquorum hports hnone rfl hlook
      refine ⟨hst, hfollowed, hparent, hsteps, ?_⟩
      rw [hjoin, State.joinOf, hdelay, hticks, Int.sub_mul, sub_add_eq_add_sub]
    case mismatch =>
      obtain ⟨hst, hmis, hcount⟩ := State.detect_mismatch (hpair.trans hok) (hticks ▸ ht)
      exact ⟨hst.trans hzstate, hmis, counted_from hcount (hregs _ (inCyclePage_reg (by decide)))⟩
    case fails =>
      rw [State.detect_fails (hpair.trans hbad)]
      exact ⟨hzstate, hlook, by rw [hzjoin, hnode]⟩
  case step =>
    obtain ⟨-, hpend, hoff, hhas, hcycle, hstart⟩ := s.stepPasses_keeps j
    obtain ⟨hnode, hevt, htime⟩ := s.stepJoins_keeps j
    have hclock := sameClock_cycleBegin (s.stepJoins j) []
    have hbegin : ((s.stepJoins j).cycleBegin []).evt = (s.stepJoins j).evt := show Part.same .evt _ _ by simp [Part.same_refl]
    obtain ⟨t, ht⟩ : ∃ t, t = (s.stepJoins j).cycleBegin [] := ⟨_, rfl⟩
    have htoff : t.time.fabOff = s.time.fabOff + j.delta := by rw [ht, hclock.fabOff, htime, hoff]
    have htstart : t.time.cycStart = s.unfab (j.sInst - j.delta) := by rw [ht, hclock.cycStart, htime, hstart]
    rw [← ht] at hbegin ⊢
    refine ⟨htoff, ?_, ?_, htstart, fun h1 h2 => ?_, ?_, ?_⟩
    · rw [ht, State.cycleBegin_hasCycle, htime, hhas]
    · rw [ht, hclock.cycle, htime, hcycle]
    · rw [State.fab, htoff, htstart, State.unfab]
      omega
    · rw [ht, State.cycleBegin_node, hnode]
    · rw [hbegin, hevt, hpend]
  case drop =>
    intro s rank node at_ hs hl hfind
    obtain ⟨v, hv⟩ : ∃ v, v = s.unheard rank node at_ := ⟨_, rfl⟩
    have hnode : v.node = { s.node with
        heard := s.node.heard.filter fun x => !(x.1 == rank && x.2.1 == node) && decide (at_ < x.2.2) } :=
      hv ▸ s.unheard_node rank node at_
    have hlooks : (v.look (bestHeard v.node.heard)).node = { v.node with looked := bestHeard v.node.heard } := v.look_node _
    refine ⟨_, exec_joinDetectorDrop hs hl hfind, ?_, ?_, fun x => ?_⟩
    · rw [← hv, State.look_now, hv, State.unheard_now]
    · rw [← hv, hlooks]
    · rw [← hv, hlooks, hnode]
      simp [imp_iff_not_or]

end Sys2Proof.Machine
end

section
/-! SUPPORT. The answers to CLAIMs: what an answer that enters a transmit buffer leaves of the claim tables and of the counters of claims
(R88, R96). -/

namespace Sys2Proof.Machine

open Sys2Proof

/-! Counters of the frames that a port discards and of the windows that it loses. -/

/-- The counters that frames discarded at the head of a class and windows lost to a pause count in. -/
def dropRegs : List Nat :=
  [R.PORT_PAUSE_WINDOW_LOST, R.PORT_TX_NO_FIT, R.PORT_TX_LINK_DOWN, R.PORT_TX_HELD_DISCARD, R.PORT_TX_REMAINDER_ABANDONED,
    R.PORT_TX_NODE_DISCARD]

theorem dropCode_mem (d : Drop) : (dropCode d).1 ∈ dropRegs := by
  cases d <;> decide

/-- Another register of a port page, whatever port discards. -/
theorem dropRegs_ne {r po : Nat} (p : Nat) (hpo : po < 0x1000) (hd : po ∉ dropRegs) :
    ∀ x ∈ dropRegs, pageBase .port r + po ≠ pageBase .port p + x := by
  intro x hx heq
  have hlt : ∀ y ∈ dropRegs, y < 0x1000 := by decide
  by_cases hr : r = p
  · subst hr
    exact hd (Nat.add_left_cancel heq ▸ hx)
  · exact portReg_ne hr (hlt x hx) hpo heq

/-! A frame's arrival in a transmit buffer keeps the claims. -/

theorem State.claims_modTxq (s : State) (p q : Nat) (f : PortSt → List TxFrame) :
    ((s.modPort p fun x => { x with txq := f x }).port q).claims = (s.port q).claims := by
  by_cases hq : q = p
  · rw [hq, State.port_modPort_same]
  · rw [State.port_modPort_other _ _ _ _ hq]

theorem State.claims_dropFrame (s : State) (p q : Nat) (fr : TxFrame) (d : Drop) :
    ((s.dropFrame p fr d).port q).claims = (s.port q).claims := by
  have hports : (s.dropFrame p fr d).ports = s.ports := show Part.same .ports s _ by simp [Part.same_refl]
  rw [State.port_congr hports]

theorem State.claims_purgeHeads (s : State) (p q : Nat) : ((s.purgeHeads p).port q).claims = (s.port q).claims := by
  unfold State.purgeHeads
  dsimp only
  rw [State.claims_modTxq]
  refine (State.foldl_fst_keeps (fun u => (u.port q).claims) _ _ (fun u fr => ?_) _).trans (State.claims_modTxq s p q fun _ => [])
  split
  · rfl
  · split
    · exact u.1.claims_dropFrame p q fr _
    · rfl

theorem State.claims_arrived (s : State) (p q : Nat) : ((s.arrived p).port q).claims = (s.port q).claims := by
  obtain ⟨⟨l, hl⟩, hothers⟩ := (s.purge p).onlyLostWindows_countEaten p
  have heaten : ((s.arrived p).port q).claims = ((s.purge p).port q).claims := by
    by_cases hq : q = p
    · rw [hq, State.arrived, hl]
    · rw [State.arrived, hothers q hq]
  rw [heaten, State.purge, State.port_congr (State.pace_ports _), State.port_congr (State.departs_ports _), State.claims_purgeHeads]

section Registers

variable (s : State) (p : Nat) {a : Nat} (h : InPortPage a) (hne : ∀ x ∈ dropRegs, a ≠ pageBase .port p + x)
include h hne

theorem State.find_dropFrame_port (fr : TxFrame) (d : Drop) : smFind (s.dropFrame p fr d).regs a = smFind s.regs a := by
  have hcount : ∀ u : State, smFind (u.countP p (dropCode d).1).regs a = smFind u.regs a := fun u =>
    u.find_countN_other _ _ _ _ _ (hne _ (dropCode_mem d))
  have htrace : ∀ (u : State) (n : Nat), smFind (u.traceTx p fr n).regs a = smFind u.regs a := fun u n =>
    u.find_traceAt_port _ _ _ _ _ _ _ _ _ h.1
  unfold State.dropFrame State.replicaLost
  dsimp only
  split <;> simp [State.replicaDone_regs, hcount, htrace]

theorem State.find_purgeHeads_port : smFind (s.purgeHeads p).regs a = smFind s.regs a := by
  unfold State.purgeHeads
  dsimp only
  rw [State.modPort_regs]
  refine (State.foldl_fst_keeps (fun u => smFind u.regs a) _ _ (fun u fr => ?_) _).trans rfl
  split
  · rfl
  · split
    · exact State.find_dropFrame_port _ p h hne fr _
    · rfl

theorem State.find_arrived_port : smFind (s.arrived p).regs a = smFind s.regs a := by
  rw [State.arrived, State.find_countEaten_other _ _ _ (hne _ (by decide)), State.purge, State.find_pace_port _ h.1,
    State.find_departs_port _ h, State.find_purgeHeads_port s p h hne]

end Registers

/-! Answers (R96). -/

theorem State.claims_answer (s : State) (p typ dst ctr : Nat) (payload : List Byte) (q : Nat) :
    ((s.answer p typ dst ctr payload).port q).claims = (s.port q).claims := by
  rw [State.answer, State.claims_arrived, State.port_countP]
  exact State.claims_modTxq s p q _

/-- An answer writes no register of a port page but its counter and those of discards. -/
theorem State.find_answer_other (s : State) (p typ dst : Nat) {ctr po : Nat} {r : Fin 1024} (payload : List Byte) (hpo : po < 0x1000)
    (hd : po ∉ dropRegs) (hne : pageBase .port r + po ≠ pageBase .port p + ctr) :
    smFind (s.answer p typ dst ctr payload).regs (pageBase .port r + po) = smFind s.regs (pageBase .port r + po) := by
  rw [State.answer, State.find_arrived_port _ p (inPortPage_reg r hpo) (dropRegs_ne p hpo hd), State.countP,
    State.find_countN_other _ _ _ _ _ _ hne]
  exact congrArg (smFind · _) (State.modPort_regs ..)

theorem counted_answer (s : State) (p : Fin 1024) (typ dst : Nat) {ctr : Nat} (payload : List Byte) (hpo : ctr < 0x1000)
    (hd : ctr ∉ dropRegs) : Counted .port p ctr s (s.answer p typ dst ctr payload) :=
  counted_of_find (counted_from (counted_count .port p ctr _) (congrArg (smFind · _) (State.modPort_regs ..)))
    (State.find_arrived_port _ p (inPortPage_reg p hpo) (dropRegs_ne p hpo hd))

theorem State.claimFrame_countP (s : State) (p : Nat) {po : Nat} (hda : R.PORT_MAC_DA ≠ po)
    (hsa : R.PORT_MAC_SA ≠ po) (typ dst : Nat) (payload : List Byte) :
    (s.countP p po).claimFrame p typ dst payload = s.claimFrame p typ dst payload := by
  have hreg : ∀ x, x ≠ po → (s.countP p po).reg .port p x = s.reg .port p x := fun x hx =>
    State.reg_of_find (s.find_countN_other _ _ _ _ _ fun h => hx (Nat.add_left_cancel h))
  have hid : (s.countP p po).nodeId = s.nodeId := congrArg (fld · 15 0)
    (State.reg_of_find (s.find_countP_cycle p po (inCyclePage_reg (by decide))))
  simp only [State.claimFrame, State.mkFrame, State.regF, hreg _ hda, hreg _ hsa, hid, State.cycField, State.countP_time,
    State.port_countP]

/-- What is counted does not depend on the frames in a transmit buffer. -/
theorem State.countP_loaded (s : State) (p po : Nat) (fr : TxFrame) : (s.loaded p fr).countP p po = (s.countP p po).loaded p fr := by
  unfold State.countP State.countN State.loaded State.modPort
  dsimp only
  repeat' split
  all_goals rfl

theorem State.headDrop_countP (s : State) (p po : Nat) (fr : TxFrame) :
    ((s.countP p po).loaded p fr).headDrop p fr = (s.loaded p fr).headDrop p fr := by
  have hrecords : OnlyRecords (s.loaded p fr) ((s.loaded p fr).countP p po) := State.onlyRecords_countN _ .port p po 1
  rw [← State.countP_loaded, hrecords.headDrop]

/-- An answer that nothing discards is the only frame of a port that held none. -/
theorem State.answer_waits {s : State} {p typ dst ctr : Nat} {payload : List Byte} (hq : (s.port p).txq = []) :
    let fr : TxFrame := { cls := 6, typ, origin := .own, frame := s.claimFrame p typ dst payload }
    (s.loaded p fr).headDrop p fr = none → ((s.answer p typ dst ctr payload).port p).txq = [fr] := by
  intro fr hdrop
  have hanswer : s.answer p typ dst ctr payload = ((s.countP p ctr).loaded p fr).arrived p := by
    rw [State.answer, State.enqueue_empty _ hq, State.countP_loaded]
  rw [hanswer]
  exact (State.ports_arrived_loaded ((s.headDrop_countP p ctr fr).trans hdrop)).1

end Sys2Proof.Machine
end

section
/-! SUPPORT. A CLAIM at the partner, by the check that decides it: the proof of O26 (R88, R96, R97). -/

namespace Sys2Proof.Machine

open Sys2Proof

/-! The outcome of a CLAIM (R96). -/

theorem exec_claimRx {s : State} {p : Fin 1024} (src x : BitVec 16) (asked : BitVec 48) (hup : s.isUp p = true) :
    exec (.claimRx p src x asked) s = .next (s.claimIn p src.toNat x.toNat asked.toNat) := by
  simp only [exec, execClaimRx, hup, if_true]

section Outcome

variable {s : State} {p src x asked : Nat}

theorem State.claimIn_dropped (h : s.node.state = .holdOff) :
    s.claimIn p src x asked = (s.countP p R.PORT_CLAIM_RX).countP p R.PORT_CLAIM_DROPPED := by
  simp only [State.claimIn, h, if_true]

theorem State.claimIn_unmarked (h : s.node.state ≠ .holdOff) (hm : s.feat 12 = false ∨ s.live.marksSlot p x = false) :
    s.claimIn p src x asked = (s.countP p R.PORT_CLAIM_RX).refuseClaim p x src asked 1 0 := by
  have hnone : (!s.feat 12 || !s.live.marksSlot p x) = true := by
    rcases hm with hm | hm <;> simp [hm]
  simp only [State.claimIn, h, if_false, hnone, if_true]

variable (h : s.node.state ≠ .holdOff) (hf : s.feat 12 = true) (hm : s.live.marksSlot p x = true)
include h hf hm

theorem State.claimIn_refuses {e : Nat × Nat × ClaimEnt}
    (hfind : ((s.claimOthers x src).find? fun e => !s.givesWay src e.2.2) = some e) :
    s.claimIn p src x asked = (s.countP p R.PORT_CLAIM_RX).refuseClaim p x src asked 2 e.2.2.holder := by
  simp only [State.claimIn, h, if_false, hf, hm, Bool.not_true, Bool.or_false, Bool.false_eq_true, hfind]

theorem State.claimIn_accepts (hfind : ((s.claimOthers x src).find? fun e => !s.givesWay src e.2.2) = none) :
    s.claimIn p src x asked =
      ((s.claimOthers x src).foldl (fun t e => t.withdraw src e) (s.countP p R.PORT_CLAIM_RX)).acceptClaim p x src asked := by
  simp only [State.claimIn, h, if_false, hf, hm, Bool.not_true, Bool.or_false, Bool.false_eq_true, hfind]

/-- A foreign entry that does not give way refuses the CLAIM. -/
theorem State.claimIn_held {y : Nat × Nat × ClaimEnt} (hy : y ∈ s.claimOthers x src) (hg : s.givesWay src y.2.2 = false) :
    ∃ holder, s.claimIn p src x asked = (s.countP p R.PORT_CLAIM_RX).refuseClaim p x src asked 2 holder := by
  cases hfind : (s.claimOthers x src).find? fun e => !s.givesWay src e.2.2 with
  | none => exact absurd (List.find?_eq_none.1 hfind y hy) (by simp [hg])
  | some e => exact ⟨_, State.claimIn_refuses h hf hm hfind⟩

theorem State.claimIn_withdraws {y : Nat × Nat × ClaimEnt} (hy : s.claimOthers x src = [y]) (hg : s.givesWay src y.2.2 = true) :
    s.claimIn p src x asked = ((s.countP p R.PORT_CLAIM_RX).withdraw src y).acceptClaim p x src asked := by
  rw [State.claimIn_accepts h hf hm (by rw [hy]; simp [hg]), hy, List.foldl_cons, List.foldl_nil]

theorem State.claimIn_free (hy : s.claimOthers x src = []) :
    s.claimIn p src x asked = (s.countP p R.PORT_CLAIM_RX).acceptClaim p x src asked := by
  rw [State.claimIn_accepts h hf hm (by rw [hy, List.find?_nil]), hy, List.foldl_nil]

end Outcome

/-- A refusal is counted and keeps every claim table; the CLAIM is counted before. -/
theorem refuseClaim_counts (s : State) (p : Fin 1024) (x src asked reason holder : Nat) :
    let t := (s.countP p R.PORT_CLAIM_RX).refuseClaim p x src asked reason holder
    (∀ q, (t.port q).claims = (s.port q).claims) ∧ Counted .port p R.PORT_CLAIM_RX s t ∧
    Counted .port p R.PORT_CLAIM_REFUSED_TX s t := by
  refine ⟨fun q => ?_, counted_of_find (counted_count .port p R.PORT_CLAIM_RX s) ?_, counted_from (counted_answer _ p _ _ _ ?_ ?_) ?_⟩
  · rw [State.refuseClaim, State.claims_answer, State.port_countP]
  · exact State.find_answer_other _ p _ _ _ (by decide) (by decide) (by simp [R.PORT_CLAIM_RX, R.PORT_CLAIM_REFUSED_TX])
  · decide
  · decide
  · exact s.find_countN_other _ _ _ _ _ (by simp [R.PORT_CLAIM_RX, R.PORT_CLAIM_REFUSED_TX])

/-! An accepted CLAIM (R96, checks 3 and 4). -/

theorem State.acceptClaim_refreshes {s : State} {p x src asked i : Nat} {e : ClaimEnt}
    (h : ((s.port p).claims.find? fun e => e.2.owner == x && e.2.holder == src) = some (i, e)) :
    s.acceptClaim p x src asked =
      (s.modPort p fun q => { q with claims := smSet q.claims i { e with fresh := s.time.cycle } }).answer p tClaimAck src
        R.PORT_CLAIM_ACK_TX (claimBytes x e.eff (b2n e.held) 0) := by
  simp only [State.acceptClaim, h]

/-- The pending entry of a CLAIM for a free owner. -/
def State.claimEntry (s : State) (x src asked : Nat) : ClaimEnt :=
  { owner := x, holder := src, eff := cycMod (s.time.cycle + 2), held := false, cycle := s.time.cycle, asked, fresh := s.time.cycle }

theorem State.acceptClaim_enters {s : State} {p x src asked i : Nat}
    (hown : ((s.port p).claims.find? fun e => e.2.owner == x && e.2.holder == src) = none)
    (hlow : (lowest 64 fun i => (smFind (s.port p).claims i).isNone) = some i) :
    s.acceptClaim p x src asked =
      (s.modPort p fun q => { q with claims := smSet q.claims i (s.claimEntry x src asked) }).answer p tClaimAck src
        R.PORT_CLAIM_ACK_TX (claimBytes x (cycMod (s.time.cycle + 2)) 0 0) := by
  simp only [State.acceptClaim, hown, hlow, State.claimEntry]

theorem State.acceptClaim_full {s : State} {p x src asked : Nat}
    (hown : ((s.port p).claims.find? fun e => e.2.owner == x && e.2.holder == src) = none)
    (hlow : (lowest 64 fun i => (smFind (s.port p).claims i).isNone) = none) :
    s.acceptClaim p x src asked = s.refuseClaim p x src asked 4 0 := by
  simp only [State.acceptClaim, hown, hlow]

/-- A CLAIM that is acknowledged: the claims of its port are what was noted, and ACK and CLAIM are counted. -/
theorem claimAck_counts (s : State) (p : Fin 1024) (src : Nat) (payload : List Byte) (f : SMap ClaimEnt → SMap ClaimEnt) :
    let t := ((s.countP p R.PORT_CLAIM_RX).modPort p fun q => { q with claims := f q.claims }).answer p tClaimAck src
      R.PORT_CLAIM_ACK_TX payload
    (t.port p).claims = f (s.port p).claims ∧ Counted .port p R.PORT_CLAIM_RX s t ∧ Counted .port p R.PORT_CLAIM_ACK_TX s t := by
  refine ⟨?_, counted_of_find (counted_count .port p R.PORT_CLAIM_RX s) ?_, counted_from (counted_answer _ p _ _ _ ?_ ?_) ?_⟩
  · rw [State.claims_answer, State.port_modPort_same, State.port_countP]
  · refine (State.find_answer_other _ p _ _ _ (by decide) (by decide) ?_).trans (congrArg (smFind · _) (State.modPort_regs ..))
    simp [R.PORT_CLAIM_RX, R.PORT_CLAIM_ACK_TX]
  · decide
  · decide
  · exact (congrArg (smFind · _) (State.modPort_regs ..)).trans
      (s.find_countN_other _ _ _ _ _ (by simp [R.PORT_CLAIM_RX, R.PORT_CLAIM_ACK_TX]))

/-- Deciding a CLAIM of one port leaves the claims of the others, and the count of CLAIMs. -/
theorem State.acceptClaim_keeps (s : State) (p : Fin 1024) (x src asked : Nat) : let t := s.acceptClaim p x src asked
    (∀ q, q ≠ p.val → (t.port q).claims = (s.port q).claims) ∧
    smFind t.regs (pageBase .port p + R.PORT_CLAIM_RX) = smFind s.regs (pageBase .port p + R.PORT_CLAIM_RX) := by
  have hack : ∀ (f : PortSt → PortSt) (payload : List Byte),
      let t := (s.modPort p f).answer p tClaimAck src R.PORT_CLAIM_ACK_TX payload
      (∀ q, q ≠ p.val → (t.port q).claims = (s.port q).claims) ∧
      smFind t.regs (pageBase .port p + R.PORT_CLAIM_RX) = smFind s.regs (pageBase .port p + R.PORT_CLAIM_RX) := by
    refine fun f payload => ⟨fun q hq => ?_, ?_⟩
    · rw [State.claims_answer, State.port_modPort_other _ _ _ _ hq]
    · refine (State.find_answer_other _ p _ _ _ (by decide) (by decide) ?_).trans (congrArg (smFind · _) (State.modPort_regs ..))
      simp [R.PORT_CLAIM_RX, R.PORT_CLAIM_ACK_TX]
  dsimp only
  cases hown : (s.port p).claims.find? fun e => e.2.owner == x && e.2.holder == src with
  | some y =>
    rw [State.acceptClaim_refreshes hown]
    exact hack _ _
  | none =>
    cases hlow : lowest 64 fun i => (smFind (s.port p).claims i).isNone with
    | some i =>
      rw [State.acceptClaim_enters hown hlow]
      exact hack _ _
    | none =>
      rw [State.acceptClaim_full hown hlow]
      exact ⟨fun q _ => State.claims_answer .., State.find_answer_other _ p _ _ _ (by decide) (by decide)
        (by simp [R.PORT_CLAIM_RX, R.PORT_CLAIM_REFUSED_TX])⟩

/-- A withdrawn claim is gone from its port. -/
theorem State.withdraw_erases (s : State) {p : Fin 1024} {q : Nat} (src i : Nat) (e : ClaimEnt) (hq : q ≠ p.val) :
    let t := s.withdraw src (q, i, e)
    (t.port q).claims = smErase (s.port q).claims i ∧
    smFind t.regs (pageBase .port p + R.PORT_CLAIM_RX) = smFind s.regs (pageBase .port p + R.PORT_CLAIM_RX) := by
  refine ⟨?_, ?_⟩
  · rw [State.withdraw, State.refuseClaim, State.claims_answer, State.port_modPort_same]
  · have hne : pageBase .port p + R.PORT_CLAIM_RX ≠ pageBase .port q + R.PORT_CLAIM_REFUSED_TX :=
      portReg_ne hq.symm (by decide) (by decide)
    rw [State.withdraw, State.refuseClaim, State.find_answer_other _ q _ _ _ (by decide) (by decide) hne, State.modPort_regs]

/-! Claims that are not refreshed (R97). -/

theorem exec_claimExpired {s : State} {p : Fin 1024} {i : Fin 64} {e : ClaimEnt} (h : smFind (s.port p).claims i = some e)
    (hd : 4 * (s.regF .cycle 0 R.CYCLE_CLAIM_CFG 15 0 : Int) ≤ cycDiff s.time.cycle e.fresh) : exec (.claimExpired p i) s =
      .next ((s.modPort p fun q => { q with claims := smErase q.claims i }).countP p R.PORT_CLAIM_RELEASED) := by
  simp only [exec, execClaimExpired, h, hd, if_true]

/-- Settles O26: a CLAIM by the check of R96 that decides it, and by what its answer leaves alone. -/
theorem partnerDecidesClaims : Obligations.PartnerDecidesClaims := by
  refine ⟨?dropped, ?unmarked, fun s p src x asked hup hs hf hm => ⟨?held, ?withdrawn⟩, ?free, ?refreshed, ?expired⟩
  case dropped =>
    intro s p src x asked hup hs
    refine ⟨_, exec_claimRx src x asked hup, ?_⟩
    rw [State.claimIn_dropped hs]
    refine ⟨?_, ?_, counted_of_find (counted_count .port p R.PORT_CLAIM_RX s) (State.find_countN_other _ _ _ _ _ _ ?_),
      counted_from (counted_count .port p R.PORT_CLAIM_DROPPED _) (s.find_countN_other _ _ _ _ _ ?_)⟩
    · rw [State.countP_ports, State.countP_ports]
    · rw [State.countP_outs, State.countP_outs]
    · simp [R.PORT_CLAIM_RX, R.PORT_CLAIM_DROPPED]
    · simp [R.PORT_CLAIM_RX, R.PORT_CLAIM_DROPPED]
  case unmarked =>
    intro s p src x asked hup hs hm fr
    obtain ⟨hclaims, hrx, htx⟩ := refuseClaim_counts s p x.toNat src.toNat asked.toNat 1 0
    refine ⟨_, exec_claimRx src x asked hup, ?_⟩
    rw [State.claimIn_unmarked hs hm]
    refine ⟨hclaims p, hrx, htx, fun hq hdrop => ?_⟩
    have hframe := s.claimFrame_countP p (po := R.PORT_CLAIM_RX) (by decide) (by decide) tClaimRefused src.toNat
      (claimBytes x.toNat asked.toNat 1 0)
    have hwaits := State.answer_waits (s := s.countP p R.PORT_CLAIM_RX) (typ := tClaimRefused) (dst := src.toNat)
      (ctr := R.PORT_CLAIM_REFUSED_TX) (payload := claimBytes x.toNat asked.toNat 1 0) (by rw [State.port_countP, hq])
    dsimp only at hwaits
    rw [hframe] at hwaits
    exact hwaits ((s.headDrop_countP p R.PORT_CLAIM_RX fr).trans hdrop)
  case held =>
    intro y hy hg
    obtain ⟨holder, hin⟩ := State.claimIn_held (asked := asked.toNat) hs hf hm hy hg
    exact ⟨_, exec_claimRx src x asked hup, hin ▸ refuseClaim_counts s p x.toNat src.toNat asked.toNat 2 holder⟩
  case withdrawn =>
    intro q i e hy hg hq
    obtain ⟨hclaims, hrx⟩ := (s.countP p R.PORT_CLAIM_RX).withdraw_erases src.toNat i e hq
    obtain ⟨hothers, hcounted⟩ :=
      ((s.countP p R.PORT_CLAIM_RX).withdraw src.toNat (q, i, e)).acceptClaim_keeps p x.toNat src.toNat asked.toNat
    refine ⟨_, exec_claimRx src x asked hup, ?_⟩
    rw [State.claimIn_withdraws hs hf hm hy hg]
    exact ⟨counted_of_find (counted_count .port p R.PORT_CLAIM_RX s) (hcounted.trans hrx),
      by rw [hothers q hq, hclaims, State.port_countP]⟩
  case free =>
    intro s p src x asked i hup hs hf hm hy hown hi hfree hlower
    have hport : (s.countP p R.PORT_CLAIM_RX).port p = s.port p := State.port_countP ..
    have hlow : (lowest 64 fun i => (smFind ((s.countP p R.PORT_CLAIM_RX).port p).claims i).isNone) = some i := by
      rw [hport]
      exact lowest_some hi (by rw [hfree]; rfl) fun j hj => Option.isNone_eq_false_iff.2 (Option.isSome_iff_ne_none.2 (hlower j hj))
    refine ⟨_, exec_claimRx src x asked hup, ?_⟩
    rw [State.claimIn_free hs hf hm hy, State.acceptClaim_enters (by rw [hport]; exact hown) hlow]
    obtain ⟨hclaims, hrx, hack⟩ := claimAck_counts s p src.toNat
      (claimBytes x.toNat (cycMod ((s.countP p R.PORT_CLAIM_RX).time.cycle + 2)) 0 0)
      (fun m => smSet m i ((s.countP p R.PORT_CLAIM_RX).claimEntry x.toNat src.toNat asked.toNat))
    refine ⟨?_, fun j hj => ?_, hrx, hack⟩
    · rw [hclaims, smFind_smSet_same, State.claimEntry, State.countP_time]
    · rw [hclaims, smFind_smSet_other _ _ _ _ hj]
  case refreshed =>
    intro s p src x asked i e hup hs hf hm hy hown
    refine ⟨_, exec_claimRx src x asked hup, ?_⟩
    rw [State.claimIn_free hs hf hm hy, State.acceptClaim_refreshes (by rw [State.port_countP]; exact hown)]
    obtain ⟨hclaims, hrx, -⟩ := claimAck_counts s p src.toNat (claimBytes x.toNat e.eff (b2n e.held) 0)
      (fun m => smSet m i { e with fresh := (s.countP p R.PORT_CLAIM_RX).time.cycle })
    exact ⟨by rw [hclaims, State.countP_time], hrx⟩
  case expired =>
    intro s p i e hfind hd
    refine ⟨_, exec_claimExpired hfind hd, ?_, counted_count .port p R.PORT_CLAIM_RELEASED _, fun q hq => ?_⟩
    · rw [State.port_countP, State.port_modPort_same]
    · rw [State.port_countP, State.port_modPort_other _ _ _ _ hq]

end Sys2Proof.Machine
end

section
/-! SUPPORT. Cuts that are armed, cancelled, committed, refused and applied: the proof of O29 (R112 to R117). -/

namespace Sys2Proof.Machine

open Sys2Proof

/-! CUT_CYCLE and CANCEL (R112, R114). -/

theorem exec_cutArm {s : State} (x : BitVec 48) (h : s.opens .cycle R.CYCLE_CUT_CYCLE 0) :
    exec (.cutArm x) s = .next (s.writeCutCycle x.toNat) :=
  congrArg Host.Outcome.next (State.regWrite_opens (r := ⟨.cycle, R.CYCLE_CUT_CYCLE, 1, 0, 8, .rw, 0xFFFFFFFFFFFF, 0⟩) (j := 0) rfl h)

theorem exec_cutCancel {s : State} (h : s.opens .cycle R.CYCLE_SLATE_CTRL 0) : exec .cutCancel s = .next s.cutCancel :=
  congrArg Host.Outcome.next (State.regWrite_opens (r := ⟨.cycle, R.CYCLE_SLATE_CTRL, 1, 0, 4, .wo, 0x3, 0⟩) (j := 0) rfl h)

theorem State.setCut_slate (s : State) (c : CutState) : (s.setCut c).slate = { s.slate with cut := c } := by
  rw [State.setCut, State.traceState_slate, State.modSlate]

section Arm

variable {s : State} {x : Nat}

theorem State.writeCutCycle_outside (hin : s.inNet = false) :
    s.writeCutCycle x = s.err .cycle 0 0x0153 s.node.state.code R.CYCLE_CUT_CYCLE := by
  simp only [State.writeCutCycle, hin, Bool.not_false, if_true]

theorem State.writeCutCycle_busy (hin : s.inNet = true) (hbusy : s.cutBusy = true) :
    s.writeCutCycle x = s.err .cycle 0 0x0151 s.slate.cut.code R.CYCLE_CUT_CYCLE := by
  simp only [State.writeCutCycle, hin, hbusy, Bool.not_true, Bool.false_eq_true, if_false, if_true]

theorem State.writeCutCycle_tooSoon (hin : s.inNet = true) (hbusy : s.cutBusy = false) (hx : cycDiff x (s.time.cycle + 3) < 0) :
    s.writeCutCycle x = s.err .cycle 0 0x0150 0 (s.time.cycle % 2 ^ 32) := by
  simp only [State.writeCutCycle, hin, hbusy, hx, Bool.not_true, Bool.false_eq_true, if_false, if_true]

/-- An accepted CUT_CYCLE arms the cut, and starts a validation unless one runs or has passed. -/
theorem State.writeCutCycle_arms (hin : s.inNet = true) (hbusy : s.cutBusy = false) (hx : 0 ≤ cycDiff x (s.time.cycle + 3)) :
    (s.writeCutCycle x).slate = { s.slate with
      x, cut := .armed
      check := if s.slate.check = .none ∨ s.slate.check = .fail then .running else s.slate.check } := by
  have hslate : ((s.modSlate fun t => { t with x }).setCut .armed).slate = { s.slate with x, cut := .armed } :=
    State.setCut_slate _ _
  simp only [State.writeCutCycle, hin, hbusy, Int.not_lt.2 hx, Bool.not_true, Bool.false_eq_true, if_false]
  split
  next h =>
    rw [hslate] at h
    rw [(startCheck_starts _).1, hslate, if_pos h]
  next h =>
    rw [hslate] at h
    rw [hslate, if_neg h]

end Arm

section Cancel

variable {s : State}

theorem State.cutCancel_armed (h : s.slate.cut = .armed) : s.cutCancel = s.setCut .cancelled := by
  simp [State.cutCancel, h]

theorem State.cutCancel_committed (h : s.slate.cut = .committed) : s.cutCancel = s.err .cycle 0 0x0152 0 (s.slate.x % 2 ^ 32) :=
  if_pos h

theorem State.cut_ne_of_idle (h : s.cutBusy = false) : s.slate.cut ≠ .armed ∧ s.slate.cut ≠ .committed := by
  simpa [State.cutBusy] using h

theorem State.cutCancel_idle (h : s.cutBusy = false) :
    s.cutCancel = s.err .cycle 0 0x0151 s.slate.cut.code R.CYCLE_SLATE_CTRL := by
  obtain ⟨harmed, hcommitted⟩ := State.cut_ne_of_idle h
  simp only [State.cutCancel, harmed, hcommitted, if_false]

end Cancel

/-! The event lines that a committed cut takes (R105, R113). -/

theorem State.ownerOf_resLine (s : State) {n : Nat} (h : n < 0x1000) : s.ownerOf (resLine n) = smGet s.evt.lineOwner n 0 := by
  have hdiv : resLine n / 0x1000 = 1 := by simp only [resLine]; omega
  have hmod : resLine n % 0x1000 = n := by simp only [resLine]; omega
  simp only [State.ownerOf, hdiv, hmod]

theorem State.setOwner_resLine (s : State) (o : Nat) {n : Nat} (h : n < 0x1000) :
    s.setOwner (resLine n) o = { s with evt := { s.evt with lineOwner := smSet s.evt.lineOwner n o } } := by
  have hdiv : resLine n / 0x1000 = 1 := by simp only [resLine]; omega
  have hmod : resLine n % 0x1000 = n := by simp only [resLine]; omega
  simp only [State.setOwner, hdiv, hmod]

/-- A resource that is no line of this number leaves the line's owner. -/
theorem State.lineOwner_setOwner_other (s : State) {r n : Nat} (o : Nat) (h : r ≠ resLine n) :
    smGet (s.setOwner r o).evt.lineOwner n 0 = smGet s.evt.lineOwner n 0 := by
  unfold State.setOwner
  dsimp only
  split
  next hdiv =>
    refine smGet_smSet_other _ _ _ _ _ fun hn => h ?_
    simp only [resLine]
    omega
  all_goals rfl

/-- Lines that an owner takes are its own. -/
theorem State.takeAll_owns {n : Nat} (hn : n < 0x1000) (o : Nat) (l : List Nat) (s : State)
    (h : n ∈ l ∨ s.ownerOf (resLine n) = o) : (s.takeAll o (l.map resLine)).ownerOf (resLine n) = o := by
  induction l generalizing s with
  | nil => exact h.resolve_left (by simp)
  | cons m l ih =>
    refine ih (s.setOwner (resLine m) o) ?_
    by_cases hm : m = n
    · rw [hm, State.setOwner_resLine s o hn, State.ownerOf_resLine _ hn]
      exact .inr (smGet_smSet_same _ _ _ _)
    · refine h.imp (fun hmem => (List.mem_cons.1 hmem).resolve_left (Ne.symm hm)) fun howns => ?_
      have hne : resLine m ≠ resLine n := fun he => hm (by simpa [resLine] using he)
      rw [State.ownerOf_resLine _ hn, s.lineOwner_setOwner_other o hne, ← State.ownerOf_resLine s hn, howns]

/-- Slices taken leave the lines to their owners. -/
theorem State.takeAll_slices {n : Nat} (hn : n < 0x1000) (o : Nat) (l : List Nat) (h : ∀ r ∈ l, 0x4000 ≤ r) (s : State) :
    (s.takeAll o l).ownerOf (resLine n) = s.ownerOf (resLine n) := by
  induction l generalizing s with
  | nil => rfl
  | cons r l ih =>
    have hne : r ≠ resLine n := by
      have := h r (by simp)
      simp only [resLine]
      omega
    refine (ih (fun q hq => h q (by simp [hq])) (s.setOwner r o)).trans ?_
    rw [State.ownerOf_resLine _ hn, s.lineOwner_setOwner_other o hne, State.ownerOf_resLine s hn]

theorem Bank.slices_ge (b : Bank) : ∀ r ∈ b.slices, 0x4000 ≤ r := by
  intro r hr
  rw [Bank.slices, List.mem_eraseDups, List.mem_map] at hr
  obtain ⟨z, -, rfl⟩ := hr
  simp only [resSlice]
  omega

/-- The gate scheduler owns every line that the staged slate names once it has taken them. -/
theorem State.claimSlate_owns (s : State) {n : Nat} (hmem : n ∈ s.staged.lines) (hn : n < 0x1000) :
    s.claimSlate.ownerOf (resLine n) = ownerSched := by
  have htaken : ((s.takeAll ownerSched (s.staged.lines.map resLine)).takeAll ownerLz s.staged.slices).ownerOf (resLine n) =
      ownerSched := by
    rw [State.takeAll_slices hn _ _ s.staged.slices_ge, State.takeAll_owns hn _ _ _ (.inl hmem)]
  exact htaken

theorem State.setCut_evt (s : State) (c : CutState) : (s.setCut c).evt = s.evt := by
  refine (show Part.same .evt s _ from ?_); simp [Part.same_refl]

/-! The commit point and the switch (R113, R116, R117). -/

section CycleStart

variable {s : State}

theorem State.cutCycleStart_commits (harmed : s.slate.cut = .armed) (hdue : 0 ≤ cycDiff (s.time.cycle + 1) s.slate.x) :
    s.cutCycleStart = s.commitPoint := if_pos ⟨harmed, hdue⟩

theorem State.cutCycleStart_applies (hcommitted : s.slate.cut = .committed) (hdue : 0 ≤ cycDiff s.time.cycle s.slate.x) :
    s.cutCycleStart = s.applyCut := by
  simp [State.cutCycleStart, hcommitted, hdue]

theorem State.commitPoint_passed (hcheck : s.slate.check = .pass) (hfree : s.claimBlocked = none) :
    s.commitPoint = s.claimSlate.setCut .committed := by
  simp only [State.commitPoint, hcheck, hfree]

theorem State.commitPoint_failed (hcheck : s.slate.check = .fail) : s.commitPoint = s.refuseCut 1 := by
  simp only [State.commitPoint, hcheck]

theorem State.commitPoint_unchecked (hcheck : s.slate.check = .none ∨ s.slate.check = .running) : s.commitPoint =
    (s.modSlate fun x => { x with vcode := 0x0E, failOff := pageBase .cycle 0 + R.CYCLE_CUT_CYCLE }).refuseCut 3 := by
  rcases hcheck with h | h <;> simp only [State.commitPoint, h]

theorem State.commitPoint_slate (hcheck : s.slate.check = .pass) (hfree : s.claimBlocked = none) :
    ∃ took, s.commitPoint.slate = { s.slate with cut := .committed, took } := by
  obtain ⟨took, htook⟩ := s.claimSlate_slate
  exact ⟨took, by rw [State.commitPoint_passed hcheck hfree, State.setCut_slate, htook]⟩

theorem State.refuseCut_slate (s : State) (reason : Nat) : (s.refuseCut reason).slate =
    { s.slate with reason, refusedX := s.slate.x, took := [], deferred := [], cut := .refused } := by
  have hrelease : ∀ rs, (s.release ownerSched rs).slate = s.slate := fun rs =>
    show Part.same .slate s _ by simp [Part.same_refl]
  simp only [State.refuseCut, State.raise_slate, State.cause_slate, State.count_slate, State.setCut_slate, State.modSlate, hrelease]

/-- The cut exchanges the slates and records its cycle. -/
theorem State.applyCut_slate (s : State) : s.applyCut.slate =
    { s.slate with liveB := !s.slate.liveB, took := [], check := .none, applied := s.slate.x, cutHere := some s.slate.x,
                   cut := .applied } := by
  simp only [State.applyCut, State.count_slate, State.setCut_slate, State.modSlate, State.switchBanks_slate]

/-- Two states whose slates stand the same have the same live slate and the same staged one. -/
theorem State.live_of_banks {s t : State} (ha : t.slate.a = s.slate.a) (hb : t.slate.b = s.slate.b)
    (hl : t.slate.liveB = s.slate.liveB) : t.live = s.live := by
  simp only [State.live, ha, hb, hl]

theorem State.banks_exchanged {s t : State} (ha : t.slate.a = s.slate.a) (hb : t.slate.b = s.slate.b)
    (hl : t.slate.liveB = !s.slate.liveB) : t.live = s.staged ∧ t.staged = s.live := by
  simp only [State.live, State.staged, ha, hb, hl]
  cases s.slate.liveB <;> simp

theorem cutCycleStart_applied (hcommitted : s.slate.cut = .committed) (hdue : 0 ≤ cycDiff s.time.cycle s.slate.x) :
    s.cutCycleStart.live = s.staged ∧ s.cutCycleStart.staged = s.live ∧ s.cutCycleStart.slate.cut = .applied ∧
    s.cutCycleStart.slate.applied = s.slate.x ∧ s.cutCycleStart.slate.check = .none := by
  have hslate := s.applyCut_slate
  rw [← State.cutCycleStart_applies hcommitted hdue] at hslate
  obtain ⟨hlive, hstaged⟩ := State.banks_exchanged (s := s) (t := s.cutCycleStart) (by rw [hslate]) (by rw [hslate]) (by rw [hslate])
  exact ⟨hlive, hstaged, by rw [hslate], by rw [hslate], by rw [hslate]⟩

end CycleStart

end Sys2Proof.Machine
end

section
/-! SUPPORT. A cut that is neither armed nor committed, from the switch of a cycle start to its end: the moves of the node leave it and
the slates as they are (R79, R115). -/

namespace Sys2Proof.Machine

open Sys2Proof

/-- While no cut is armed or committed, of the slates' state at most a waiting ADOPT and the changes of state deferred to a switch
differ. -/
def KeepsCut (s t : State) : Prop :=
  s.cutBusy = false → ∃ adopt adoptGo deferred, t.slate = { s.slate with adopt, adoptGo, deferred }

theorem KeepsCut.of_slate {s t : State} (h : Part.same .slate s t) : KeepsCut s t := fun _ =>
  ⟨s.slate.adopt, s.slate.adoptGo, s.slate.deferred, h⟩

theorem KeepsCut.refl (s : State) : KeepsCut s s := .of_slate rfl

theorem KeepsCut.trans {s t u : State} (h : KeepsCut s t) (h' : KeepsCut t u) : KeepsCut s u := by
  intro hidle
  obtain ⟨adopt, adoptGo, deferred, ht⟩ := h hidle
  have hidle' : t.cutBusy = false := by rw [State.cutBusy, ht]; exact hidle
  obtain ⟨adopt', adoptGo', deferred', hu⟩ := h' hidle'
  exact ⟨adopt', adoptGo', deferred', by rw [hu, ht]⟩

theorem KeepsCut.ite {s t u : State} {c : Prop} [Decidable c] (ht : KeepsCut s t) (hu : KeepsCut s u) :
    KeepsCut s (if c then t else u) := by
  split <;> assumption

theorem keepsCut_foldl {α : Type} (l : List α) (f : State → α → State) (hf : ∀ u x, KeepsCut u (f u x)) (s : State) :
    KeepsCut s (l.foldl f s) := by
  induction l generalizing s with
  | nil => exact .refl s
  | cons x l ih => exact (hf s x).trans (ih _)

/-! The moves of the node. -/

theorem State.adoptBusy_keepsCut (s : State) (code : Nat) : KeepsCut s (s.adoptBusy code) :=
  KeepsCut.ite (fun _ => ⟨false, false, s.slate.deferred, rfl⟩) (.refl s)

theorem keepsCut_enter (s : State) (st : NodeState) : KeepsCut s (s.enter st) := by
  have htraced : KeepsCut s ((s.modNode fun n => { n with state := st, resume := 0 }).traceState 0 1 st.code 0) :=
    .of_slate (by simp [Part.same_refl])
  exact KeepsCut.ite htraced (htraced.trans (State.adoptBusy_keepsCut _ _))

theorem keepsCut_enterDrop (s : State) (st : NodeState) : KeepsCut s (s.enter st).dropServo :=
  (keepsCut_enter s st).trans (.of_slate (State.dropServo_slate _))

/-- There is no cut to refuse. -/
theorem keepsCut_refuseForNode (s : State) : KeepsCut s s.refuseForNode := by
  intro hidle
  rw [State.refuseForNode, hidle]
  exact KeepsCut.refl s hidle

theorem keepsCut_flushIf (s : State) (was : Bool) : KeepsCut s (if was then s.flushTx else s) :=
  KeepsCut.ite (.of_slate (State.flushTx_slate s)) (.refl s)

theorem keepsCut_toListen (s : State) (keep : Option (Nat × Nat)) : KeepsCut s (s.toListen keep) :=
  .of_slate ((State.startListen_slate _).trans (s.listens_slate keep))

theorem keepsCut_toYield (s : State) (better : Option (Nat × Nat)) : KeepsCut s (s.toYield better) := by
  have left : ∀ (u : State) (was : Bool), KeepsCut u (if was then u.flushTx else u).refuseForNode := fun u was =>
    (keepsCut_flushIf u was).trans (keepsCut_refuseForNode _)
  refine (keepsCut_enterDrop s .yield).trans (KeepsCut.trans (t := (((s.enter .yield).dropServo).modNode fun n =>
    { n with bellwether := false, followed := none, zeroAt := none, join := none, yieldCycle := s.time.cycle,
             looked := better }).modTime fun x => { x with pairs := [] }) (.of_slate rfl) ?_)
  exact KeepsCut.ite ((left _ _).trans (keepsCut_toListen _ better)) (left _ _)

theorem keepsCut_count (s : State) (k : PageKind) (i po : Nat) : KeepsCut s (s.count k i po) := .of_slate (State.count_slate ..)

theorem keepsCut_yieldTo (s : State) (rank node : Nat) : KeepsCut s (s.yieldTo rank node) := by
  have hcount := (keepsCut_toYield s (some (rank, node))).trans (keepsCut_count _ .cycle 0 R.CYCLE_YIELDS)
  exact KeepsCut.ite hcount (hcount.trans (.of_slate (State.raise_slate ..)))

theorem keepsCut_leave (s : State) : KeepsCut s s.leave :=
  (keepsCut_count s .cycle 0 R.CYCLE_LEAVES).trans ((KeepsCut.of_slate (State.raise_slate ..)).trans (keepsCut_toYield _ none))

theorem keepsCut_gone (s : State) (st : NodeState) : KeepsCut s (s.gone st) :=
  (keepsCut_enterDrop s st).trans (.of_slate (State.modNode_slate ..))

theorem keepsCut_dropsAll (s : State) (was : Bool) : KeepsCut s (s.dropsAll was) :=
  (keepsCut_flushIf s was).trans ((KeepsCut.of_slate (State.dropEvents_slate _)).trans (keepsCut_refuseForNode _))

theorem keepsCut_toOff (s : State) : KeepsCut s s.toOff :=
  (keepsCut_gone s .off).trans ((keepsCut_dropsAll _ s.inNet).trans (.of_slate (State.modTime_slate ..)))

theorem keepsCut_toHalted (s : State) (p detail : Nat) : KeepsCut s (s.toHalted p detail) := by
  have told : ∀ (u : State) (n : Nat),
      KeepsCut u (((u.err .cycle 0 0x0142 0 p).raise 0x00A p detail).report 0x0007 (some (n, 0x400)) p) := fun u n =>
    .of_slate (by simp (maxDischargeDepth := 30) [Part.same_refl])
  exact (keepsCut_gone s .halted).trans ((keepsCut_dropsAll _ s.inNet).trans (told _ _))

theorem keepsCut_runDeferred (s : State) (d : Deferred) : KeepsCut s (s.runDeferred d) := by
  cases d with
  | yield _ r n => exact (keepsCut_yieldTo s r n).ite (.refl s)
  | leave => exact (keepsCut_leave s).ite (.refl s)
  | stop => exact KeepsCut.ite (.refl s) (keepsCut_toOff s)
  | halt p c => exact KeepsCut.ite (.refl s) (keepsCut_toHalted s p c)

theorem keepsCut_flushDeferred (s : State) : KeepsCut s s.flushDeferred := by
  have hrun : KeepsCut s (s.slate.deferred.foldl State.runDeferred (s.modSlate fun x => { x with deferred := [] })) :=
    KeepsCut.trans (fun _ => ⟨s.slate.adopt, s.slate.adoptGo, [], rfl⟩) (keepsCut_foldl _ _ keepsCut_runDeferred _)
  exact KeepsCut.ite (.refl s) hrun

theorem keepsCut_orDefer (s : State) (d : Deferred) {f : State → State} (hf : KeepsCut s (f s)) : KeepsCut s (s.orDefer d f) :=
  KeepsCut.ite (fun _ => ⟨s.slate.adopt, s.slate.adoptGo, s.slate.deferred ++ [d], rfl⟩) hf

/-! The node at a cycle start. -/

theorem keepsCut_candidateStart (s : State) : KeepsCut s s.candidateStart :=
  KeepsCut.ite ((keepsCut_enter s .joined).trans (.of_slate (State.modNode_slate ..))) (.refl s)

theorem keepsCut_abortJoin (s : State) (parent : Nat) : KeepsCut s (s.abortJoin parent) :=
  (keepsCut_count s .cycle 0 R.CYCLE_JOIN_ABORTS).trans ((KeepsCut.of_slate (State.raise_slate ..)).trans
    ((keepsCut_toListen _ none).trans (keepsCut_refuseForNode _)))

theorem keepsCut_steppedStart (s : State) : KeepsCut s s.steppedStart := by
  have hjoin : KeepsCut s (((s.enter .joined).count .cycle 0 R.CYCLE_JOINS).modNode fun n => { n with join := none }) :=
    (keepsCut_enter s .joined).trans ((keepsCut_count _ .cycle 0 R.CYCLE_JOINS).trans (.of_slate (State.modNode_slate ..)))
  unfold State.steppedStart
  split
  · exact KeepsCut.ite (KeepsCut.ite (KeepsCut.ite (hjoin.trans (.of_slate (State.dropServo_slate _))) hjoin)
      (keepsCut_abortJoin s _)) (.refl s)
  · exact .refl s

theorem keepsCut_yieldStart (s : State) : KeepsCut s s.yieldStart := (keepsCut_toListen s _).ite (.refl s)

theorem keepsCut_toHoldOff (s : State) : KeepsCut s s.toHoldOff := by
  have hstops : ∀ (u : State) (n : Nat), Part.same .slate u (u.raise 0x008 0 n).holdOffTx := fun u n => by
    simp (maxDischargeDepth := 30) [Part.same_refl]
  exact (keepsCut_enter s .holdOff).trans ((keepsCut_count _ .cycle 0 R.CYCLE_HOLDOFF_ENTRIES).trans (.of_slate (hstops _ _)))

theorem keepsCut_compareOffset (s : State) : KeepsCut s s.compareOffset :=
  KeepsCut.ite (.refl s) ((keepsCut_orDefer s .leave (keepsCut_leave s)).ite ((keepsCut_toHoldOff s).ite (.refl s)))

theorem keepsCut_holdOffStart (s : State) : KeepsCut s s.holdOffStart :=
  KeepsCut.ite (KeepsCut.ite (keepsCut_enter s .joined) (.of_slate rfl)) (.of_slate rfl)

theorem keepsCut_nodeStartOfCycle (s : State) : KeepsCut s s.nodeStartOfCycle := by
  unfold State.nodeStartOfCycle
  split
  · exact keepsCut_candidateStart s
  · exact keepsCut_steppedStart s
  · exact keepsCut_yieldStart s
  · exact keepsCut_compareOffset s
  · exact KeepsCut.ite ((keepsCut_compareOffset s).trans (keepsCut_holdOffStart _)) (keepsCut_compareOffset s)
  · exact .refl s

theorem State.cycleBegin_slate (s : State) (deps : List (Fin 1024 × Int)) : (s.cycleBegin deps).slate = s.slate := by
  refine (show Part.same .slate s _ from ?_); simp [Part.same_refl]

/-- What follows the switch at a cycle start. -/
theorem keepsCut_restOfStart (s : State) (deps : List (Fin 1024 × Int)) :
    KeepsCut s (s.flushDeferred.nodeStartOfCycle.cycleBegin deps) :=
  (keepsCut_flushDeferred s).trans ((keepsCut_nodeStartOfCycle _).trans (.of_slate (State.cycleBegin_slate _ deps)))

/-! The start of a cycle with a cut (R113, R116, R117). -/

/-- The state in which the start of a cycle looks at the cut: the cycle has its number. -/
def State.atCut (s : State) : State := s.endCycle.nextCycle.cutBehind

theorem exec_cycleStart_cut {s : State} (deps : List (Fin 1024 × Int)) (h : s.time.hasCycle = true) :
    exec (.cycleStart deps) s = .next (s.atCut.cutCycleStart.flushDeferred.nodeStartOfCycle.cycleBegin deps) :=
  exec_cycleStart deps h

/-- Nothing but the record of a cut that lies behind has changed then. -/
theorem State.atCut_slate (s : State) : s.atCut.slate = { s.slate with cutHere := none } := by
  have hnext : s.endCycle.nextCycle.slate = s.slate := show Part.same .slate s _ by simp [Part.same_refl]
  rw [State.atCut, State.cutBehind, State.modSlate, hnext]

theorem State.atCut_cut (s : State) : s.atCut.slate.cut = s.slate.cut ∧ s.atCut.slate.check = s.slate.check ∧
    s.atCut.slate.liveB = s.slate.liveB ∧ s.atCut.slate.x = s.slate.x := by
  rw [State.atCut_slate]
  exact ⟨rfl, rfl, rfl, rfl⟩

theorem State.atCut_banks (s : State) : s.atCut.live = s.live ∧ s.atCut.staged = s.staged := by
  simp only [State.live, State.staged, State.atCut_slate, and_self]

section Start

variable {s : State} (deps : List (Fin 1024 × Int))

/-- The state at the end of the start of a cycle, from the state that the cut leaves. -/
theorem restOfStart_slate {x : SlateSt} (hx : s.cutCycleStart.slate = x) (hidle : x.cut ≠ .armed ∧ x.cut ≠ .committed) :
    ∃ adopt adoptGo deferred, (s.cutCycleStart.flushDeferred.nodeStartOfCycle.cycleBegin deps).slate =
      { x with adopt, adoptGo, deferred } := by
  subst hx
  exact keepsCut_restOfStart s.cutCycleStart deps (by simpa [State.cutBusy] using hidle)

/-- At the start of its cycle a committed cut exchanges the slates. -/
theorem cycleStart_switches (hcommitted : s.slate.cut = .committed) (hdue : 0 ≤ cycDiff s.time.cycle s.slate.x) :
    let t := s.cutCycleStart.flushDeferred.nodeStartOfCycle.cycleBegin deps
    t.live = s.staged ∧ t.staged = s.live ∧ t.slate.liveB = !s.slate.liveB ∧ t.slate.cut = .applied ∧
    t.slate.applied = s.slate.x ∧ t.slate.cutHere = some s.slate.x ∧ t.slate.check = .none := by
  intro t
  have hslate := s.applyCut_slate
  rw [← State.cutCycleStart_applies hcommitted hdue] at hslate
  obtain ⟨adopt, adoptGo, deferred, ht⟩ := restOfStart_slate deps hslate ⟨nofun, nofun⟩
  obtain ⟨hlive, hstaged⟩ := State.banks_exchanged (s := s) (t := t) (by rw [ht]) (by rw [ht]) (by rw [ht])
  refine ⟨hlive, hstaged, ?_, ?_, ?_, ?_, ?_⟩
  all_goals rw [ht]

section Due

variable (harmed : s.slate.cut = .armed) (hdue : 0 ≤ cycDiff (s.time.cycle + 1) s.slate.x)
include harmed hdue

/-- One cycle before its own an armed cut whose check has passed commits; the bellwether, which no offset moves, keeps it so. -/
theorem cycleStart_commits (hcheck : s.slate.check = .pass) (hfree : s.claimBlocked = none) (hjoined : s.node.state = .joined)
    (hbell : s.node.bellwether = true) :
    let t := s.cutCycleStart.flushDeferred.nodeStartOfCycle.cycleBegin deps
    t.live = s.live ∧ t.slate.liveB = s.slate.liveB ∧ t.slate.cut = .committed := by
  intro t
  obtain ⟨took, hslate⟩ := State.commitPoint_slate hcheck hfree
  rw [← State.cutCycleStart_commits harmed hdue] at hslate
  have hnode : s.cutCycleStart.node = s.node := show Part.same .node s _ by simp [Part.same_refl]
  have hflush : s.cutCycleStart.flushDeferred = s.cutCycleStart := if_pos (by rw [hslate])
  have hstays : s.cutCycleStart.nodeStartOfCycle = s.cutCycleStart := by
    simp [State.nodeStartOfCycle, State.compareOffset, hnode, hjoined, hbell]
  have ht : t.slate = { s.slate with cut := .committed, took } := by rw [State.cycleBegin_slate, hflush, hstays, hslate]
  exact ⟨State.live_of_banks (by rw [ht]) (by rw [ht]) (by rw [ht]), by rw [ht], by rw [ht]⟩

/-- One whose check failed is refused, and no move of the node brings it back. -/
theorem cycleStart_refuses (hcheck : s.slate.check = .fail) :
    let t := s.cutCycleStart.flushDeferred.nodeStartOfCycle.cycleBegin deps
    t.live = s.live ∧ t.slate.cut = .refused ∧ t.slate.reason = 1 ∧ t.slate.refusedX = s.slate.x := by
  intro t
  have hslate := s.refuseCut_slate 1
  rw [← State.commitPoint_failed hcheck, ← State.cutCycleStart_commits harmed hdue] at hslate
  obtain ⟨adopt, adoptGo, deferred, ht⟩ := restOfStart_slate deps hslate ⟨nofun, nofun⟩
  refine ⟨State.live_of_banks (by rw [ht]) (by rw [ht]) (by rw [ht]), ?_, ?_, ?_⟩
  all_goals rw [ht]

end Due

end Start

/-- Settles O29: CUT_CYCLE and CANCEL by what `State.writeCutCycle` and `State.cutCancel` find, the commit point by the outcome of the
check, and the start of a cycle by `keepsCut_restOfStart`: nothing after the switch touches a cut that is applied or refused. -/
theorem cutsArmCommitAndSwitch : Obligations.CutsArmCommitAndSwitch := by
  refine ⟨fun s x ho => ⟨fun hin => ?outside, fun hin hbusy => ?busy, fun hin hidle hx => ?soon, fun hin hidle hx => ?arms⟩,
    fun s ho => ⟨fun harmed => ?cancels, fun hcommitted => ?committed, fun hidle => ?idle⟩,
    fun s harmed hdue => ⟨fun hcheck hfree => ?commits, fun hcheck => ?fails, fun hcheck => ?unchecked⟩,
    fun s hcommitted hdue => cutCycleStart_applied hcommitted hdue, ?start⟩
  case outside => rw [exec_cutArm x ho, State.writeCutCycle_outside hin]
  case busy => rw [exec_cutArm x ho, State.writeCutCycle_busy hin hbusy]
  case soon => rw [exec_cutArm x ho, State.writeCutCycle_tooSoon hin hidle hx]
  case arms => exact ⟨_, exec_cutArm x ho, State.writeCutCycle_arms hin hidle hx⟩
  case cancels =>
    exact ⟨_, exec_cutCancel ho, (congrArg State.slate (State.cutCancel_armed harmed)).trans (State.setCut_slate ..)⟩
  case committed => rw [exec_cutCancel ho, State.cutCancel_committed hcommitted]
  case idle => rw [exec_cutCancel ho, State.cutCancel_idle hidle]
  case commits =>
    obtain ⟨took, hslate⟩ := State.commitPoint_slate hcheck hfree
    rw [State.cutCycleStart_commits harmed hdue]
    refine ⟨by rw [hslate], State.live_of_banks (by rw [hslate]) (by rw [hslate]) (by rw [hslate]), fun n hmem hn => ?_⟩
    rw [State.commitPoint_passed hcheck hfree, State.ownerOf_resLine _ hn, State.setCut_evt, ← State.ownerOf_resLine _ hn,
      s.claimSlate_owns hmem hn]
  case fails =>
    have hslate := s.refuseCut_slate 1
    rw [State.cutCycleStart_commits harmed hdue, State.commitPoint_failed hcheck]
    exact ⟨by rw [hslate], by rw [hslate], State.live_of_banks (by rw [hslate]) (by rw [hslate]) (by rw [hslate])⟩
  case unchecked =>
    rw [State.cutCycleStart_commits harmed hdue, State.commitPoint_unchecked hcheck, State.refuseCut_slate]
    exact ⟨rfl, rfl, rfl⟩
  case start =>
    intro s deps hcyc v
    have answers : ∀ {post : State → Prop}, post (v.cutCycleStart.flushDeferred.nodeStartOfCycle.cycleBegin deps) →
        Answers (.cycleStart deps) s post := fun h => ⟨_, exec_cycleStart_cut deps hcyc, h⟩
    obtain ⟨hcut, hcheck, hliveB, hx⟩ := s.atCut_cut
    have hlive : v.live = s.live := s.atCut_banks.1
    have hstaged : v.staged = s.staged := s.atCut_banks.2
    rw [← hcut, ← hcheck, ← hliveB, ← hx, ← hlive, ← hstaged]
    exact ⟨fun hcommitted hdue => answers (cycleStart_switches deps hcommitted hdue),
      fun harmed hdue => ⟨fun hpass hfree hjoined hbell => answers (cycleStart_commits deps harmed hdue hpass hfree hjoined hbell),
        fun hfail => answers (cycleStart_refuses deps harmed hdue hfail)⟩⟩

end Sys2Proof.Machine
end

section
/-! SUPPORT. The only frame of a port at a tick: what judges it, what starts it and what keeps it back: the proof of O31 (R91, R103, R104,
R151). -/

namespace Sys2Proof.Machine

open Sys2Proof

/-! What a later operation leaves at the ports. -/

/-- The ports, what has left the pins and the registers of the port pages are the same. -/
structure SameAtPorts (s t : State) : Prop where
  ports : t.ports = s.ports
  outs : t.outs = s.outs
  regs : ∀ a, InPortPage a → smFind t.regs a = smFind s.regs a

theorem SameAtPorts.refl (s : State) : SameAtPorts s s := ⟨rfl, rfl, fun _ _ => rfl⟩

theorem SameAtPorts.trans {s t u : State} (h : SameAtPorts s t) (h' : SameAtPorts t u) : SameAtPorts s u :=
  ⟨h'.ports.trans h.ports, h'.outs.trans h.outs, fun a ha => (h'.regs a ha).trans (h.regs a ha)⟩

theorem State.sameAtPorts_pace (s : State) : SameAtPorts s s.pace := ⟨s.pace_ports, s.pace_outs, fun _ ha => s.find_pace_port ha.1⟩

theorem SameAtPorts.counted {s t u : State} {p : Fin 1024} {po : Nat} (h : SameAtPorts t u) (hpo : po < 0x1000)
    (hc : Counted .port p po s t) : Counted .port p po s u :=
  counted_of_find hc (h.regs _ (inPortPage_reg p hpo))

/-! FRAME_TX_START on a port in UP. -/

/-- No hello is pending on a port in UP (R134). -/
theorem State.helloCheck_up {s : State} {p : Nat} (h : s.isUp p = true) : s.helloCheck p = s := by
  have hup : (s.link p).state = .up := of_decide_eq_true h
  unfold State.helloCheck
  dsimp only
  split
  · simp [hup]
  · rfl

theorem State.isUp_congr {s t : State} {p : Nat} (h : (t.port p).link = (s.port p).link) : t.isUp p = s.isUp p := by
  simp only [State.isUp, h]

/-- At a still tick the command is the step of the port, and a hello that is pending. -/
theorem exec_frameTxStart {s : State} {p : Fin 1024} {tick : Nat} (tDep : Nat) (h : s.still (s.tickAt tick)) :
    exec (.frameTxStart p tick tDep) s = .next (((s.atLeast (s.tickAt tick)).txStep p tDep).helloCheck p).pace := by
  rw [← State.runTo_of_still h]
  rfl

/-- What the step of a port in UP leaves at the ports is what the command leaves there. -/
theorem answers_frameTxStart {s w : State} {p : Fin 1024} {tick tDep : Nat} {post : State → Prop} (h : s.still (s.tickAt tick))
    (hstep : SameAtPorts w ((s.atLeast (s.tickAt tick)).txStep p tDep)) (hup : w.isUp p = true)
    (hpost : ∀ t, SameAtPorts w t → post t) : Answers (.frameTxStart p tick tDep) s post := by
  have hlink : ((s.atLeast (s.tickAt tick)).txStep p tDep).isUp p = true :=
    (State.isUp_congr (by rw [State.port_congr hstep.ports])).trans hup
  refine ⟨_, exec_frameTxStart tDep h, hpost _ ?_⟩
  rw [State.helloCheck_up hlink]
  exact hstep.trans (State.sameAtPorts_pace _)

/-! What decides on the head of a class does not look at the buffer. -/

theorem State.preemptable_txq (s : State) (p c : Nat) (g : List TxFrame → List TxFrame) :
    (s.modPort p fun q => { q with txq := g q.txq }).preemptable p c = s.preemptable p c := by
  simp only [State.preemptable, State.port_modPort_same]
  rfl

theorem State.headSays_txq (s : State) (p : Nat) (fr : TxFrame) (g : List TxFrame → List TxFrame) :
    (s.modPort p fun q => { q with txq := g q.txq }).headSays p fr = s.headSays p fr := by
  have hport := s.port_modPort_same p fun q => { q with txq := g q.txq }
  have hpre : (s.modPort p fun q => { q with txq := g q.txq }).preemptable p = s.preemptable p :=
    funext fun c => s.preemptable_txq p c g
  have hopen : (s.modPort p fun q => { q with txq := g q.txq }).classOpen p fr.cls fr.origin.isHello =
      s.classOpen p fr.cls fr.origin.isHello := by
    funext e
    simp only [State.classOpen, State.holdsClaim, hport, hpre]
    rfl
  have hgate : (s.modPort p fun q => { q with txq := g q.txq }).gateOf p fr = s.gateOf p fr := by
    simp only [State.gateOf, State.windowAt, State.windows, hopen]
    rfl
  simp only [State.headSays, State.maySend, State.isUp, State.mayStartP, State.wByte, State.occupancy, State.bytesPerTick, hgate, hpre,
    hport]
  rfl

theorem OnlyRecords.headSays {s t : State} (h : OnlyRecords s t) (p : Nat) (fr : TxFrame) : t.headSays p fr = s.headSays p fr := by
  rw [h]; rfl

theorem OnlyRecords.preemptable {s t : State} (h : OnlyRecords s t) (p c : Nat) : t.preemptable p c = s.preemptable p c := by
  rw [h]; rfl

/-- A frame that is not discarded waits on a port in UP, unless the port makes it itself (R131). -/
theorem State.isUp_of_headDrop {s : State} {p : Nat} {fr : TxFrame} (hlink : fr.origin.isLink = false) (h : s.headDrop p fr = none) :
    s.isUp p = true := by
  by_contra hdown
  have hdown' : s.isUp p = false := by simpa using hdown
  simp only [State.headDrop, hlink, hdown', Bool.false_eq_true, if_false, Bool.not_false, if_true] at h
  split at h <;> cases h

/-! What a port with one frame, or none, finds to start. -/

section Pick

variable {s : State} {p : Nat} {fr : TxFrame} {express : Bool}

/-- The frame is chosen when it is of the kind asked for and may start. -/
theorem State.pick_only {close : Nat} (hq : (s.port p).txq = [fr]) (hc : fr.cls < 8) (hp : s.preemptable p fr.cls ≠ express)
    (hg : s.headSays p fr = .go close) : s.pick p express = some (fr, close) := by
  have hclass : ∀ c, (if s.preemptable p c = express then none
      else match (s.port p).head c with
        | none => none
        | some f => (match s.headSays p f with
          | .go w => some (f, w)
          | _ => none)) = if fr.cls = c then some (fr, close) else none := by
    intro c
    rw [PortSt.head_single hq]
    by_cases h : fr.cls = c
    · subst h
      simp [hp, hg]
    · simp [h]
  refine (congrArg (fun f => classesDown.findSome? f) (funext hclass)).trans ?_
  obtain ⟨c, hcls⟩ : ∃ c, c = fr.cls := ⟨_, rfl⟩
  rw [← hcls] at hc ⊢
  interval_cases c <;> rfl

theorem State.pick_none (h : ∀ c f, (s.port p).head c = some f → s.preemptable p c = express ∨ ∀ close, s.headSays p f ≠ .go close) :
    s.pick p express = none := by
  refine List.findSome?_eq_none_iff.2 fun c _ => ?_
  split
  · rfl
  next hkind =>
    split
    · rfl
    next f hhead =>
      split
      next close hgo => exact absurd hgo ((h c f hhead).resolve_left hkind close)
      · rfl

theorem PortSt.head_empty {q : PortSt} (h : q.txq = []) (c : Nat) : q.head c = none := by
  rw [PortSt.head, h]
  rfl

theorem State.pick_empty (h : (s.port p).txq = []) : s.pick p express = none :=
  State.pick_none fun c f hf => by rw [PortSt.head_empty h] at hf; cases hf

/-- The only frame of a port is the head of no other class. -/
theorem State.pick_only_none (hq : (s.port p).txq = [fr])
    (h : s.preemptable p fr.cls = express ∨ ∀ close, s.headSays p fr ≠ .go close) : s.pick p express = none := by
  refine State.pick_none fun c f hf => ?_
  rw [PortSt.head_single hq] at hf
  split at hf
  next hc => cases hf; exact hc ▸ h
  · cases hf

end Pick

/-! The heads are judged: what must not be sent is discarded, and what is kept back is counted (R104, R140). -/

/-- The state in which the port chooses what it starts. -/
def State.judged (s : State) (p : Nat) : State :=
  (classesDown.foldl (fun t c => t.countHeld p c) ((s.endWire p).purge p)).countRest p

section TxStep

variable {s v : State} {p tDep : Nat} {fr : TxFrame} {close : Nat} (hv : s.judged p = v) (hwire : (v.port p).wire = none)
include hv hwire

/-- An express frame that may start does so on a free lane. -/
theorem State.txStep_express (hlane : (v.port p).laneFree ≤ v.time.now) (hpick : v.pick p true = some (fr, close)) :
    s.txStep p tDep = (v.startExpress p fr tDep).pace := by
  unfold State.judged at hv
  unfold State.txStep
  dsimp only
  rw [hv, hpick]
  simp only [hwire, Option.isSome_none, Bool.false_eq_true, if_false, Nat.not_lt.2 hlane]

/-- A preemptable frame that may start does so on a free lane, when no remainder waits and no express frame may start. -/
theorem State.txStep_preemptable (hrest : (v.port p).rest = none) (hlane : (v.port p).laneFree ≤ v.time.now)
    (hexpress : v.pick p true = none) (hpick : v.pick p false = some (fr, close)) :
    s.txStep p tDep = (v.startPre p fr close tDep).pace := by
  have hstart : v.startPmac p tDep = v.startPre p fr close tDep := by
    simp only [State.startPmac, hrest, hpick]
  unfold State.judged at hv
  unfold State.txStep
  dsimp only
  rw [hv, hexpress]
  simp only [hwire, Option.isSome_none, Bool.false_eq_true, false_or, Nat.not_lt.2 hlane, if_false, hstart]

omit hwire in
/-- A port that finds nothing to start stays as it is. -/
theorem State.txStep_waits (hrest : (v.port p).rest = none) (hpick : ∀ express, v.pick p express = none) :
    SameAtPorts v (s.txStep p tDep) := by
  have hstart : v.startPmac p tDep = v := by
    simp only [State.startPmac, hrest, hpick]
  unfold State.judged at hv
  unfold State.txStep
  dsimp only
  rw [hv, hpick]
  dsimp only
  split
  · exact .refl v
  · rw [hstart]
    exact v.sameAtPorts_pace

end TxStep

theorem State.countRest_none {s : State} {p : Nat} (h : (s.port p).rest = none) : s.countRest p = s := by
  rw [State.countRest, h]

theorem State.countHeld_none {s : State} {p c : Nat} (h : (s.port p).head c = none) : s.countHeld p c = s := by
  rw [State.countHeld, h]

/-! A head that is discarded (R91, R104). -/

theorem State.dropFrame_ports (s : State) (p : Nat) (fr : TxFrame) (d : Drop) : (s.dropFrame p fr d).ports = s.ports := by
  refine (show Part.same .ports s _ from ?_); simp [Part.same_refl]

theorem State.dropFrame_outs (s : State) (p : Nat) (fr : TxFrame) (d : Drop) : (s.dropFrame p fr d).outs = s.outs := by
  refine (show Part.same .outs s _ from ?_); simp [Part.same_refl]

theorem State.dropFrame_time (s : State) (p : Nat) (fr : TxFrame) (d : Drop) : (s.dropFrame p fr d).time = s.time := by
  refine (show Part.same .time s _ from ?_); simp [Part.same_refl]

theorem State.replicaLost_regs (s : State) (fr : TxFrame) (status : Nat) : (s.replicaLost fr status).regs = s.regs := by
  unfold State.replicaLost
  split
  · exact State.replicaDone_regs ..
  · rfl

/-- A discard is counted in the counter of its reason. -/
theorem counted_dropFrame (s : State) (p : Nat) (fr : TxFrame) (d : Drop) : Counted .port p (dropCode d).1 s (s.dropFrame p fr d) := by
  refine counted_of_find (counted_count .port p (dropCode d).1 s) ?_
  have htrace : smFind ((s.countP p (dropCode d).1).traceTx p fr (dropCode d).2.2).regs (pageBase .port p + (dropCode d).1) =
      smFind (s.countP p (dropCode d).1).regs (pageBase .port p + (dropCode d).1) :=
    State.find_traceAt_port _ _ _ _ _ _ _ _ _ _ (portReg_ge p _)
  unfold State.dropFrame
  dsimp only
  rw [State.replicaLost_regs, htrace]
  rfl

/-- The discard of a frame of no job changes no job. -/
theorem State.dropFrame_xfer (s : State) (p : Nat) {fr : TxFrame} (d : Drop) (h : ∀ id i m, fr.origin ≠ .job id i m) :
    (s.dropFrame p fr d).xfer = s.xfer := by
  have hlost : ∀ (u : State) (n : Nat), u.replicaLost fr n = u := by
    intro u n
    unfold State.replicaLost
    split
    next id i m ho => exact absurd ho (h id i m)
    · rfl
  unfold State.dropFrame
  dsimp only
  rw [hlost]
  refine (show Part.same .xfer s _ from ?_); simp [Part.same_refl]

section Only

variable {s : State} {p : Nat} {fr : TxFrame} (hq : (s.port p).txq = [fr])
include hq

theorem State.purgeHeads_only (hd : s.headDrop p fr = none) : s.purgeHeads p = s.loaded p fr := by
  unfold State.purgeHeads
  rw [hq]
  simp only [List.foldl_cons, List.foldl_nil, List.any_nil, Bool.false_eq_true, if_false]
  rw [State.headDrop_txq, hd]
  dsimp only
  rw [State.modPort_modPort]
  rfl

/-- The discard leaves the port without a frame, and with its counter one higher. -/
theorem State.purgeHeads_drops {d : Drop} (hd : s.headDrop p fr = some d) : let t := s.purgeHeads p
    t.port p = { s.port p with txq := [] } ∧ Counted .port p (dropCode d).1 s t ∧ t.outs = s.outs ∧ t.time = s.time ∧
    ((∀ id i m, fr.origin ≠ .job id i m) → t.xfer = s.xfer) := by
  have hpurge : s.purgeHeads p =
      ((s.modPort p fun q => { q with txq := [] }).dropFrame p fr d).modPort p fun q => { q with txq := [] ++ q.txq } := by
    unfold State.purgeHeads
    rw [hq]
    simp only [List.foldl_cons, List.foldl_nil, List.any_nil, Bool.false_eq_true, if_false]
    rw [State.headDrop_txq, hd]
  intro t
  simp only [t, hpurge]
  refine ⟨?_, counted_dropFrame (s.modPort p fun q => { q with txq := [] }) p fr d, ?_, ?_, fun hjob => ?_⟩
  · rw [State.port_modPort_same, State.port_congr (State.dropFrame_ports ..), State.port_modPort_same]
    rfl
  · rw [State.modPort_outs, State.dropFrame_outs, State.modPort_outs]
  · rw [State.modPort_time, State.dropFrame_time, State.modPort_time]
  · rw [State.modPort_xfer, State.dropFrame_xfer _ p d hjob, State.modPort_xfer]

theorem State.purge_only (hd : s.headDrop p fr = none) (hjobs : ∀ j ∈ s.xfer.jobs, j.gone s.time.now = false)
    (hchans : ∀ x ∈ s.mover.chans, x.2.enabled = false ∨ wKind x.2.live.watch = 0) : s.purge p = s.loaded p fr := by
  rw [State.purge, State.purgeHeads_only hq hd, State.departs_of_still (s := s.loaded p fr) hjobs,
    State.pace_of_still (s := s.loaded p fr) hchans]

end Only

/-! The heads of a port that holds one frame, on an idle wire. -/

/-- A head that has left the buffer leaves no other behind it. -/
theorem State.judged_empty {s : State} {p : Nat} (hwire : (s.port p).wire = none) (hq : ((s.purge p).port p).txq = [])
    (hrest : ((s.purge p).port p).rest = none) : s.judged p = s.purge p := by
  rw [State.judged, State.endWire_of_idle hwire,
    List.foldl_fixed' (fun c => State.countHeld_none (PortSt.head_empty hq c)), State.countRest_none hrest]

/-- A fold over the classes in which one class alone changes something. -/
theorem foldl_classesDown {f : State → Nat → State} {s v : State} {c : Nat} (hc : c < 8) (hcls : f s c = v)
    (hbefore : ∀ b, c ≠ b → f s b = s) (hafter : ∀ b, c ≠ b → f v b = v) : classesDown.foldl f s = v := by
  interval_cases c <;> simp [classesDown, hcls, hbefore, hafter]

section Judged

variable {s : State} {p : Nat} {fr : TxFrame} (hwire : (s.port p).wire = none) (hrest : (s.port p).rest = none)
  (hq : (s.port p).txq = [fr]) (hpurge : s.purge p = s.loaded p fr)

include hq in
theorem State.port_loaded : (s.loaded p fr).port p = s.port p := by
  rw [State.loaded, State.port_modPort_same, ← hq]

include hwire hrest hq hpurge

/-- Nothing is counted of a head that may start. -/
theorem State.judged_starts {close : Nat} (hg : s.headSays p fr = .go close) : s.judged p = s.loaded p fr := by
  have hport := State.port_loaded hq
  have hgo : (s.loaded p fr).headSays p fr = .go close := (s.headSays_txq p fr fun _ => [fr]).trans hg
  rw [State.judged, State.endWire_of_idle hwire, hpurge,
    List.foldl_fixed' (State.countHeld_single (by rw [hport, hq]) hgo), State.countRest_none (by rw [hport, hrest])]

/-- A head that cannot end before the close is counted once (R104). -/
theorem State.judged_defers (hc : fr.cls < 8) (hg : s.headSays p fr = .tooLong) (hfirst : fr.deferred = false) :
    s.judged p = (s.loaded p { fr with deferred := true }).countP p R.PORT_TX_DEFERRED := by
  have hport := State.port_loaded hq
  have htoo : (s.loaded p fr).headSays p fr = .tooLong := (s.headSays_txq p fr fun _ => [fr]).trans hg
  obtain ⟨v, hv⟩ : ∃ v, v = (s.loaded p { fr with deferred := true }).countP p R.PORT_TX_DEFERRED := ⟨_, rfl⟩
  have hvport : v.port p = { s.port p with txq := [{ fr with deferred := true }] } := by
    rw [hv, State.port_countP, State.loaded, State.port_modPort_same]
  have hcount : (s.loaded p fr).countHeld p fr.cls = v := by
    rw [hv, State.countHeld, PortSt.head_single (by rw [hport, hq]), if_pos rfl]
    simp only [htoo, hfirst, Bool.false_eq_true, if_false, State.loaded, State.modPort_modPort, modHead, if_true]
  have hbefore : ∀ c, fr.cls ≠ c → (s.loaded p fr).countHeld p c = s.loaded p fr := fun c hne =>
    State.countHeld_none (by rw [PortSt.head_single (by rw [hport, hq]), if_neg hne])
  have hafter : ∀ c, fr.cls ≠ c → v.countHeld p c = v := fun c hne =>
    State.countHeld_none (by rw [PortSt.head_single (by rw [hvport]), if_neg hne])
  have hfold : classesDown.foldl (fun t c => t.countHeld p c) (s.loaded p fr) = v := foldl_classesDown hc hcount hbefore hafter
  rw [State.judged, State.endWire_of_idle hwire, hpurge, hfold, State.countRest_none (by rw [hvport]; exact hrest), hv]

end Judged

/-! What the step does with the frame (R103, R104, R151). -/

theorem dropCode_lt (d : Drop) : (dropCode d).1 < 0x1000 := by cases d <;> decide

section Tick

variable {s : State} {p : Fin 1024} {fr : TxFrame} (tDep : Nat) (hwire : (s.port p).wire = none) (hrest : (s.port p).rest = none)
  (hq : (s.port p).txq = [fr])
include hwire hrest hq

/-- A head that must not be sent is discarded and counted, and the port has nothing to start. -/
theorem State.txStep_drops {d : Drop} (hd : s.headDrop p fr = some d) : let t := s.txStep p tDep
    t.port p = { s.port p with txq := [] } ∧ Counted .port p (dropCode d).1 s t ∧
    ((∀ id i m, fr.origin ≠ .job id i m) → (∀ j ∈ s.xfer.jobs, j.gone s.time.now = false) → t.outs = s.outs) := by
  intro t
  obtain ⟨hport, hcount, houts, htime, hxfer⟩ := State.purgeHeads_drops hq hd
  have hpurged : (s.purge p).port p = { s.port p with txq := [] } := by
    rw [State.purge, State.port_congr ((State.pace_ports _).trans (State.departs_ports _)), hport]
  have hjudged := State.judged_empty hwire (by rw [hpurged]) (by rw [hpurged, hrest])
  have hsame : SameAtPorts (s.purge p) t :=
    State.txStep_waits hjudged (by rw [hpurged, hrest]) fun express => State.pick_empty (by rw [hpurged])
  have hregs := fun (a : Nat) (ha : InPortPage a) =>
    (State.find_pace_port (s.purgeHeads p).departs ha.1).trans (State.find_departs_port (s.purgeHeads p) ha)
  refine ⟨(State.port_congr hsame.ports p).trans hpurged,
    hsame.counted (dropCode_lt d) (counted_of_find hcount (hregs _ (inPortPage_reg p (dropCode_lt d)))), fun hjob hjobs => ?_⟩
  have hstill : (s.purgeHeads p).departs = s.purgeHeads p :=
    State.departs_of_still (by rw [hxfer hjob, htime]; exact hjobs)
  rw [hsame.outs, State.purge, State.pace_outs, hstill, houts]

section Kept

variable (hpurge : s.purge p = s.loaded p fr) (hc : fr.cls < 8)
include hpurge hc

/-- An express frame that may start leaves. -/
theorem State.txStep_sends {close : Nat} (hg : s.headSays p fr = .go close) (hlane : (s.port p).laneFree ≤ s.time.now)
    (hp : s.preemptable p fr.cls = false) : SameAtPorts ((s.loaded p fr).startExpress p fr tDep) (s.txStep p tDep) := by
  have hport := State.port_loaded hq
  have hjudged := State.judged_starts hwire hrest hq hpurge hg
  have hpick : (s.loaded p fr).pick p true = some (fr, close) :=
    State.pick_only (by rw [hport, hq]) hc (by rw [s.preemptable_txq p fr.cls fun _ => [fr], hp]; decide)
      ((s.headSays_txq p fr fun _ => [fr]).trans hg)
  rw [State.txStep_express hjudged (by rw [hport, hwire]) (by rw [hport]; exact hlane) hpick]
  exact State.sameAtPorts_pace _

/-- The first fragment of a preemptable frame that may start is on the wire. -/
theorem State.txStep_sendsFirst {close : Nat} (hg : s.headSays p fr = .go close) (hlane : (s.port p).laneFree ≤ s.time.now)
    (hp : s.preemptable p fr.cls = true) : SameAtPorts ((s.loaded p fr).startPre p fr close tDep) (s.txStep p tDep) := by
  have hport := State.port_loaded hq
  have hjudged := State.judged_starts hwire hrest hq hpurge hg
  have hpre : (s.loaded p fr).preemptable p fr.cls = true := (s.preemptable_txq p fr.cls fun _ => [fr]).trans hp
  have hexpress : (s.loaded p fr).pick p true = none := State.pick_only_none (by rw [hport, hq]) (.inl hpre)
  have hpick : (s.loaded p fr).pick p false = some (fr, close) :=
    State.pick_only (by rw [hport, hq]) hc (by rw [hpre]; decide) ((s.headSays_txq p fr fun _ => [fr]).trans hg)
  rw [State.txStep_preemptable hjudged (by rw [hport, hwire]) (by rw [hport, hrest]) (by rw [hport]; exact hlane) hexpress hpick]
  exact State.sameAtPorts_pace _

/-- A frame that cannot end before the close waits, and is counted the first time. -/
theorem State.txStep_defers (hg : s.headSays p fr = .tooLong) (hfirst : fr.deferred = false) :
    SameAtPorts ((s.loaded p { fr with deferred := true }).countP p R.PORT_TX_DEFERRED) (s.txStep p tDep) := by
  obtain ⟨v, hv⟩ : ∃ v, v = (s.loaded p { fr with deferred := true }).countP p R.PORT_TX_DEFERRED := ⟨_, rfl⟩
  have hport : v.port p = { s.port p with txq := [{ fr with deferred := true }] } := by
    rw [hv, State.port_countP, State.loaded, State.port_modPort_same]
  have hrecords : OnlyRecords (s.loaded p { fr with deferred := true }) v := hv ▸ State.onlyRecords_countN _ .port p R.PORT_TX_DEFERRED 1
  have hsays : v.headSays p { fr with deferred := true } = .tooLong :=
    (hrecords.headSays p _).trans ((s.headSays_txq p _ fun _ => [{ fr with deferred := true }]).trans hg)
  have hjudged := State.judged_defers hwire hrest hq hpurge hc hg hfirst
  rw [← hv] at hjudged ⊢
  exact State.txStep_waits hjudged (by rw [hport, hrest]) fun express =>
    State.pick_only_none (by rw [hport]) (.inr fun close => by rw [hsays]; nofun)

end Kept

end Tick

/-! Frames that are sent as they were built: those of jobs, relayed ones, and answers to claims. -/

section Built

variable {s : State} {p : Fin 1024} {fr : TxFrame} (tDep : Nat) (hlink : fr.origin.isLink = false)
  (hclaim : ∀ x, fr.origin ≠ .claim x)
include hlink hclaim

theorem State.ownFrame_built (dep : Nat) : s.ownFrame p fr dep = fr := by
  unfold State.ownFrame
  cases h : fr.origin with
  | claim x => exact absurd h (hclaim x)
  | _ => simp_all [Origin.isLink]

theorem State.depFor_built : s.depFor p fr tDep = tDep := by
  unfold State.depFor
  cases h : fr.origin with
  | claim x => exact absurd h (hclaim x)
  | _ => simp_all [Origin.isLink]

/-- What follows when such a frame has left concerns its job alone. -/
theorem State.sameAtPorts_leaves (dep fin : Nat) : SameAtPorts s (s.leaves p fr dep fin) := by
  unfold State.leaves
  cases h : fr.origin with
  | job id i m =>
    exact ⟨show Part.same .ports s _ by simp [Part.same_refl], show Part.same .outs s _ by simp [Part.same_refl],
      fun a _ => by rw [State.replicaDone_regs]⟩
  | claim x => exact absurd h (hclaim x)
  | relay q => exact .refl s
  | own => exact .refl s
  | _ => rw [h] at hlink; cases hlink

omit hlink hclaim in
theorem State.sameAtPorts_started (s : State) (p : Fin 1024) (cls dep : Nat) (f : Option TxFrame) :
    SameAtPorts s (s.started p cls dep f) := by
  obtain ⟨hports, -, houts⟩ := s.started_leaves p cls dep f
  exact ⟨hports, houts, fun a ha => s.find_started_other p cls dep f a p.isLt ha.1⟩

/-- An express frame takes the lane for its bytes, preamble and gap. -/
theorem State.startExpress_built : SameAtPorts
    ((s.modPort p fun q => { q with txq := dropHead fr.cls q.txq,
                                    laneFree := s.time.now + (8 + frameLen fr.frame) * s.wByte p + 12 * s.wByte p }).out
      (.frame p fr.frame true)) (s.startExpress p fr tDep) := by
  have hsent := fun t : State => (t.sameAtPorts_started p fr.cls tDep (some fr)).trans
    (State.sameAtPorts_leaves (p := p) hlink hclaim tDep (s.time.now + (8 + frameLen fr.frame) * s.wByte p))
  unfold State.startExpress
  dsimp only
  rw [State.depFor_built tDep hlink hclaim, State.ownFrame_built hlink hclaim]
  split
  next h => rw [h] at hlink; cases hlink
  next h => rw [h] at hlink; cases hlink
  · exact hsent _

/-- The first fragment of a preemptable frame takes the wire, and the frame the next number. -/
theorem State.startPre_built (close : Nat) : ∃ lane, SameAtPorts
    (s.modPort p fun q => { q with
      txq := dropHead fr.cls q.txq, frameNo := ((s.port p).frameNo + 1) % 4, laneFree := lane
      wire := some { fr, frameNo := (s.port p).frameNo, sent := 0, fragNo := 0, frags := 0, start := s.time.now, close } })
    (s.startPre p fr close tDep) := by
  unfold State.startPre
  dsimp only
  rw [State.depFor_built tDep hlink hclaim, State.ownFrame_built hlink hclaim]
  exact ⟨_, State.sameAtPorts_started ..⟩

theorem State.isUp_startExpress : (s.startExpress p fr tDep).isUp p = s.isUp p := by
  refine State.isUp_congr ?_
  rw [State.port_congr (State.startExpress_built tDep hlink hclaim).ports, State.port_congr (State.out_ports ..),
    State.port_modPort_same]

theorem State.isUp_startPre (close : Nat) : (s.startPre p fr close tDep).isUp p = s.isUp p := by
  obtain ⟨lane, hstart⟩ := State.startPre_built (s := s) tDep hlink hclaim close
  refine State.isUp_congr ?_
  rw [State.port_congr hstart.ports, State.port_modPort_same]

end Built

theorem State.isUp_loaded (s : State) (p : Nat) (fr : TxFrame) : (s.loaded p fr).isUp p = s.isUp p :=
  State.isUp_congr (by rw [State.port_modPort_same])

/-- A frame that no window of its class holds is discarded in a JOINED node (R104). -/
theorem State.headDrop_noFit {s : State} {p : Nat} {fr : TxFrame} (hlink : fr.origin.isLink = false) (hjoined : s.node.state = .joined)
    (hvalid : (s.replica (p / 16)).valid = true) (hup : s.isUp p = true) (hp : s.preemptable p fr.cls = false)
    (hlong : s.longest p fr.cls < s.occupancy p (frameLen fr.frame)) : s.headDrop p fr = some .noFit := by
  have hin : s.inNet = true := by simp [State.inNet, hjoined]
  have hheld : s.heldOff p = false := by simp [State.heldOff, hjoined, hvalid]
  simp [State.headDrop, hlink, hin, hheld, hup, hp, hlong]

/-! What is found at the ports after the step. -/

theorem otherPorts_of_modPort {s v t : State} {p : Nat} {g : PortSt → PortSt} (hv : OtherPorts p s v)
    (h : t.ports = (v.modPort p g).ports) : OtherPorts p s t :=
  hv.trans ((otherPorts_modPort v p g).trans (otherPorts_of_ports h p))

section Outcome

variable {s t : State} {p : Fin 1024} {fr : TxFrame} (hq : (s.port p).txq = [fr])
include hq

/-- An express frame has left: the lane is busy for preamble, frame and gap. -/
theorem sent_of_startExpress {tDep : Nat} (hlink : fr.origin.isLink = false) (hclaim : ∀ x, fr.origin ≠ .claim x)
    (ht : SameAtPorts ((s.loaded p fr).startExpress p fr tDep) t) :
    (t.port p).txq = [] ∧ t.outs = s.outs ++ [.frame p fr.frame true] ∧ OtherPorts p s t ∧
    (t.port p).laneFree = s.time.now + (8 + frameLen fr.frame + 12) * s.wByte p := by
  have hsent := (State.startExpress_built (s := s.loaded p fr) tDep hlink hclaim).trans ht
  have hbyte : (s.loaded p fr).wByte p = s.wByte p := by
    simp only [State.wByte, State.bytesPerTick, State.port_loaded hq]
  have hport := State.port_congr hsent.ports p
  rw [State.port_congr (State.out_ports ..), State.port_modPort_same, State.port_loaded hq, hq, hbyte] at hport
  refine ⟨by rw [hport]; simp [dropHead], hsent.outs,
    otherPorts_of_modPort (otherPorts_modPort s p _) (hsent.ports.trans (State.out_ports ..)), ?_⟩
  rw [hport, Nat.add_mul (8 + frameLen fr.frame), ← Nat.add_assoc]
  rfl

/-- A preemptable frame has started: its first fragment is on the wire, with the next number. -/
theorem onWire_of_startPre {tDep close : Nat} (hlink : fr.origin.isLink = false) (hclaim : ∀ x, fr.origin ≠ .claim x)
    (ht : SameAtPorts ((s.loaded p fr).startPre p fr close tDep) t) :
    (t.port p).txq = [] ∧ t.outs = s.outs ∧ OtherPorts p s t ∧ (t.port p).frameNo = ((s.port p).frameNo + 1) % 4 ∧
    (t.port p).wire = some { fr, frameNo := (s.port p).frameNo, sent := 0, fragNo := 0, frags := 0, start := s.time.now, close } := by
  obtain ⟨lane, hstart⟩ := State.startPre_built (s := s.loaded p fr) tDep hlink hclaim close
  have hsent := hstart.trans ht
  have hport := State.port_congr hsent.ports p
  rw [State.port_modPort_same, State.port_loaded hq, hq] at hport
  exact ⟨by rw [hport]; simp [dropHead], hsent.outs, otherPorts_of_modPort (otherPorts_modPort s p _) hsent.ports,
    by rw [hport], by rw [hport]; rfl⟩

end Outcome

/-- A frame that was kept back is still there, and counted. -/
theorem deferred_of_counted {s t : State} {p : Fin 1024} {fr : TxFrame}
    (ht : SameAtPorts ((s.loaded p { fr with deferred := true }).countP p R.PORT_TX_DEFERRED) t) :
    (t.port p).txq = [{ fr with deferred := true }] ∧ t.outs = s.outs ∧ Counted .port p R.PORT_TX_DEFERRED s t := by
  have hcount := counted_count .port p R.PORT_TX_DEFERRED (s.loaded p { fr with deferred := true })
  refine ⟨?_, ht.outs.trans (State.countP_outs ..), ht.counted (by decide) hcount⟩
  rw [State.port_congr ht.ports, State.port_countP, State.loaded, State.port_modPort_same]

/-! The tick of the command: until then time alone passes. -/

/-- The clock has moved on, and what the clauses speak of has not. -/
structure OnlyClock (s u : State) : Prop where
  ports : u.ports = s.ports
  outs : u.outs = s.outs
  regs : u.regs = s.regs
  node : u.node = s.node
  replicas : u.time.replicas = s.time.replicas
  jobs : u.xfer = s.xfer
  chans : u.mover = s.mover

theorem State.onlyClock_atLeast (s : State) (w : Nat) : OnlyClock s (s.atLeast w) :=
  ⟨State.atLeast_ports .., State.atLeast_outs .., State.atLeast_regs .., State.atLeast_node .., by rw [State.atLeast_time],
    State.atLeast_xfer .., State.atLeast_mover ..⟩

section OnlyClock

variable {s u t : State} (h : OnlyClock s u)
include h

theorem OnlyClock.port (p : Nat) : u.port p = s.port p := State.port_congr h.ports p

theorem OnlyClock.isUp (p : Nat) : u.isUp p = s.isUp p := State.isUp_congr (by rw [h.port])

theorem OnlyClock.wByte (p : Nat) : u.wByte p = s.wByte p := by
  simp only [State.wByte, State.bytesPerTick, h.port]

theorem OnlyClock.replica (i : Nat) : u.replica i = s.replica i := by
  simp only [State.replica, h.replicas]

theorem OnlyClock.otherPorts {p : Nat} (ht : OtherPorts p u t) : OtherPorts p s t := (otherPorts_of_ports h.ports p).trans ht

theorem OnlyClock.counted {k : PageKind} {i po : Nat} (ht : Counted k i po u t) : Counted k i po s t :=
  counted_from ht (by rw [h.regs])

end OnlyClock

/-- Settles O31: the one frame of the port is discarded, starts or waits, as `State.headDrop` and `State.headSays` find at the tick:
`State.txStep_drops`, `State.txStep_sends`, `State.txStep_sendsFirst` and `State.txStep_defers`. -/
theorem framesStartInTheirWindow : Obligations.FramesStartInTheirWindow := by
  intro s p tick tDep close fr u hstill hq hrest hc hlink hclaim
  have answers : ∀ {w : State} {post : State → Prop}, SameAtPorts w (u.txStep p tDep) → w.isUp p = true →
      (∀ t, SameAtPorts w t → post t) → Answers (.frameTxStart p tick tDep) s post := fun hstep hup hpost =>
    answers_frameTxStart hstill hstep hup hpost
  obtain ⟨hwires, hjobs, hchans⟩ := hstill
  have hclock : OnlyClock s u := s.onlyClock_atLeast _
  have hstays : ∀ j ∈ u.xfer.jobs, j.gone u.time.now = false := by
    rw [State.atLeast_now, State.atLeast_xfer]
    exact hjobs
  clear_value u
  rw [← hclock.port] at hq hrest
  have hwire : (u.port p).wire = none := by rw [hclock.port, hwires]
  have hpurge : u.headDrop p fr = none → u.purge p = u.loaded p fr := fun hd =>
    State.purge_only hq hd hstays (by rw [hclock.chans]; exact hchans)
  have hup : u.headDrop p fr = none → u.isUp p = true := State.isUp_of_headDrop hlink
  rw [← hclock.port p, ← hclock.isUp p, ← hclock.wByte p, ← hclock.outs, ← hclock.node, ← hclock.replica]
  refine ⟨fun hd hg hlane hp => ?express, fun hd hg hlane hp => ?preemptable, fun hjoined hvalid hup hp hlong => ?noFit,
    fun hup hd => ?nodeLeft, fun hd hg hfirst => ?tooLong⟩
  case express =>
    have hstep := State.txStep_sends tDep hwire hrest hq (hpurge hd) hc hg hlane hp
    refine answers hstep ((State.isUp_startExpress tDep hlink hclaim).trans ((u.isUp_loaded p fr).trans (hup hd))) fun t ht => ?_
    obtain ⟨hempty, houts, hothers, hbusy⟩ := sent_of_startExpress hq hlink hclaim ht
    exact ⟨hempty, houts, hclock.otherPorts hothers, hbusy⟩
  case preemptable =>
    have hstep := State.txStep_sendsFirst tDep hwire hrest hq (hpurge hd) hc hg hlane hp
    refine answers hstep ((State.isUp_startPre tDep hlink hclaim close).trans ((u.isUp_loaded p fr).trans (hup hd))) fun t ht => ?_
    obtain ⟨hempty, houts, hothers, hnext, hwired⟩ := onWire_of_startPre hq hlink hclaim ht
    exact ⟨hempty, houts, hclock.otherPorts hothers, hnext, hwired⟩
  case noFit =>
    obtain ⟨hemptied, hcount, houts⟩ := State.txStep_drops tDep hwire hrest hq
      (State.headDrop_noFit hlink hjoined hvalid hup hp hlong)
    refine answers (.refl _) ((State.isUp_congr (by rw [hemptied])).trans hup) fun t ht =>
      ⟨?_, ?_, hclock.counted (ht.counted (by decide) hcount), fun hjob => ht.outs.trans (houts hjob hstays)⟩
    all_goals rw [State.port_congr ht.ports, hemptied]
  case nodeLeft =>
    obtain ⟨hemptied, hcount, -⟩ := State.txStep_drops tDep hwire hrest hq hd
    refine answers (.refl _) ((State.isUp_congr (by rw [hemptied])).trans hup) fun t ht =>
      ⟨?_, hclock.counted (ht.counted (by decide) hcount)⟩
    rw [State.port_congr ht.ports, hemptied]
  case tooLong =>
    have hstep := State.txStep_defers tDep hwire hrest hq (hpurge hd) hc hg hfirst
    refine answers hstep ((State.isUp_congr (by rw [State.port_countP])).trans ((u.isUp_loaded p _).trans (hup hd))) fun t ht => ?_
    obtain ⟨hwaits, houts, hcount⟩ := deferred_of_counted ht
    exact ⟨hwaits, houts, hclock.counted hcount⟩

end Sys2Proof.Machine
end

section
/-! SUPPORT. What transmission, jobs that finish and reports leave of the ports and of the alarms of links: a frame that leaves changes
what belongs to its port's transmitter, and of the link what a HELLO that leaves sets (R53, R95, R130, R133, R134, R141). -/

namespace Sys2Proof.Machine

open Sys2Proof

/-! Transmitters. -/

/-- A link with what a HELLO that leaves sets taken from another (R130, R133, R134, R141). -/
def LinkSt.helloOf (l m : LinkSt) : LinkSt :=
  { l with sentAck := m.sentAck, switched := m.switched, swEnd := m.swEnd, slept := m.slept, since := m.since, helloDue := m.helloDue }

/-- A port with its transmitter taken from another. -/
def PortSt.transmitterOf (q r : PortSt) : PortSt :=
  { q with
    link := q.link.helloOf r.link
    reqId := r.reqId, req := r.req, reqCyc := r.reqCyc, reqAt := r.reqAt, mine := r.mine, txq := r.txq, laneFree := r.laneFree
    wire := r.wire, rest := r.rest, frameNo := r.frameNo, lostWin := r.lostWin, verAt := r.verAt }

/-- The classes of the alarms that links raise (R371). -/
abbrev linkAlarm (cls : Nat) : Prop := 0x010 ≤ cls ∧ cls ≤ 0x017

/-- Of the ports, only the transmitters differ; outputs have been added, and the pending alarms of links are still there. -/
structure OnlyTransmits (s t : State) : Prop where
  port : ∀ p, t.port p = (s.port p).transmitterOf (t.port p)
  mine : ∀ p, (t.port p).mine.length = (s.port p).mine.length
  outs : s.outs <+: t.outs
  alarms : ∀ o ∈ s.alarm.pend, linkAlarm o.cls → o ∈ t.alarm.pend

theorem OnlyTransmits.refl (s : State) : OnlyTransmits s s :=
  ⟨fun _ => rfl, fun _ => rfl, List.prefix_rfl, fun _ ho _ => ho⟩

theorem OnlyTransmits.trans {s t u : State} (h : OnlyTransmits s t) (h' : OnlyTransmits t u) : OnlyTransmits s u where
  port p := by rw [h'.port p, h.port p]; rfl
  mine p := (h'.mine p).trans (h.mine p)
  outs := h.outs.trans h'.outs
  alarms o ho hc := h'.alarms o (h.alarms o ho hc) hc

section Steps

variable {s t u : State} (h : OnlyTransmits s t)
include h

theorem OnlyTransmits.of_same (hp : u.ports = t.ports) (ho : u.outs = t.outs) (ha : u.alarm = t.alarm) : OnlyTransmits s u where
  port p := by rw [State.port_congr hp]; exact h.port p
  mine p := by rw [State.port_congr hp]; exact h.mine p
  outs := by rw [ho]; exact h.outs
  alarms := by rw [ha]; exact h.alarms

/-- An operation that leaves ports, outputs and alarms alone. -/
theorem OnlyTransmits.of_parts (hu : ∀ pt : Part, pt = .ports ∨ pt = .outs ∨ pt = .alarm → pt.same t u) : OnlyTransmits s u :=
  h.of_same (hu .ports (.inl rfl)) (hu .outs (.inr (.inl rfl))) (hu .alarm (.inr (.inr rfl)))

theorem OnlyTransmits.foldl {α : Type} (l : List α) {f : State → α → State}
    (hf : ∀ v x, OnlyTransmits s v → OnlyTransmits s (f v x)) : OnlyTransmits s (l.foldl f t) := by
  induction l generalizing t with
  | nil => exact h
  | cons x l ih => exact ih (hf t x h)

omit h in
theorem OnlyTransmits.foldl_fst {α β : Type} {w : State × β} (hw : OnlyTransmits s w.1) (l : List α)
    {f : State × β → α → State × β} (hf : ∀ v x, OnlyTransmits s v.1 → OnlyTransmits s (f v x).1) : OnlyTransmits s (l.foldl f w).1 := by
  induction l generalizing w with
  | nil => exact hw
  | cons x l ih => exact ih (hf w x hw)

omit h in
theorem OnlyTransmits.ite {c : Prop} [Decidable c] (ht : OnlyTransmits s t) (hu : OnlyTransmits s u) :
    OnlyTransmits s (if c then t else u) := by
  split
  · exact ht
  · exact hu

/-- A change of a transmitter. -/
theorem OnlyTransmits.modPort (p : Nat) {f : PortSt → PortSt} (hf : ∀ q, f q = q.transmitterOf (f q) := by intro _; rfl)
    (hm : ∀ q, (f q).mine.length = q.mine.length := by intro _; rfl) : OnlyTransmits s (t.modPort p f) := by
  refine h.trans ⟨fun q => ?_, fun q => ?_, List.prefix_rfl, fun _ ho _ => ho⟩
  · by_cases hq : q = p
    · rw [hq, State.port_modPort_same]; exact hf _
    · rw [State.port_modPort_other _ _ _ _ hq]; rfl
  · by_cases hq : q = p
    · rw [hq, State.port_modPort_same]; exact hm _
    · rw [State.port_modPort_other _ _ _ _ hq]

theorem OnlyTransmits.out (o : Out) : OnlyTransmits s (t.out o) where
  port := h.port
  mine := h.mine
  outs := h.outs.trans (List.prefix_append t.outs [o])
  alarms := h.alarms

theorem OnlyTransmits.countN (k : PageKind) (i po n : Nat) : OnlyTransmits s (t.countN k i po n) :=
  h.of_same (State.countN_ports ..) (State.countN_outs ..) (State.countN_alarm ..)

theorem OnlyTransmits.count (k : PageKind) (i po : Nat) : OnlyTransmits s (t.count k i po) := h.countN k i po 1

theorem OnlyTransmits.countP (p po : Nat) : OnlyTransmits s (t.countP p po) := h.countN .port p po 1

theorem OnlyTransmits.atLeast (w : Nat) : OnlyTransmits s (t.atLeast w) := h.of_same rfl rfl rfl

end Steps

/-! Alarms that no link raises. -/

theorem mem_addOcc {o x : Occ} {l : List Occ} (hx : x ∈ l) (hne : x.cls ≠ o.cls) : x ∈ addOcc o l := by
  induction l with
  | nil => exact absurd hx (List.not_mem_nil)
  | cons y l ih =>
    unfold addOcc
    split
    next hy =>
      rcases List.mem_cons.1 hx with rfl | hx
      · exact absurd hy.1 hne
      · exact List.mem_cons_of_mem _ hx
    · rcases List.mem_cons.1 hx with rfl | hx
      · exact List.mem_cons_self
      · exact List.mem_cons_of_mem _ (ih hx)

theorem OnlyTransmits.raise {s t : State} (h : OnlyTransmits s t) {cls : Nat} (source detail : Nat) (hc : ¬ linkAlarm cls := by decide) :
    OnlyTransmits s (t.raise cls source detail) where
  port := h.port
  mine := h.mine
  outs := h.outs
  alarms o ho hl := mem_addOcc (h.alarms o ho hl) fun he => hc (by rw [← show _ = cls from he]; exact hl)

/-- An alarm that is raised is pending, with its detail. -/
theorem State.alarmed_raise (s : State) (cls source detail : Nat) : Alarmed cls source detail (s.raise cls source detail) := by
  have h : ∀ (o : Occ) (l : List Occ), ∃ x ∈ addOcc o l, x.cls = o.cls ∧ x.source = o.source ∧ x.detail = o.detail := by
    intro o l
    induction l with
    | nil => exact ⟨o, List.mem_singleton_self o, rfl, rfl, rfl⟩
    | cons y l ih =>
      unfold addOcc
      split
      next hy => exact ⟨_, List.mem_cons_self, hy.1, hy.2, rfl⟩
      · obtain ⟨x, hx, hsame⟩ := ih
        exact ⟨x, List.mem_cons_of_mem _ hx, hsame⟩
  exact h _ _

theorem OnlyTransmits.alarmed {s t : State} (h : OnlyTransmits s t) {cls source detail : Nat} (hc : linkAlarm cls)
    (ha : Alarmed cls source detail s) : Alarmed cls source detail t := by
  obtain ⟨o, ho, hcls, hrest⟩ := ha
  exact ⟨o, h.alarms o ho (hcls ▸ hc), hcls, hrest⟩

/-! Jobs that finish (R226, R235 to R246). -/

section Jobs

variable {s t : State} (h : OnlyTransmits s t)
include h

theorem OnlyTransmits.eccOne (e : Nat × EccKind) : OnlyTransmits s (t.eccOne e) := by
  have hpoison : ∀ l, OnlyTransmits s { t with poison := l } := fun _ => h.of_same rfl rfl rfl
  unfold State.eccOne State.linkErr
  dsimp only
  repeat' split
  · exact h
  · exact h.count ..
  · exact (h.count ..).raise ..
  · exact h
  · exact ((hpoison _).count ..).raise ..

theorem OnlyTransmits.eccTake (found : Nat × EccKind → Bool) : OnlyTransmits s (t.eccTake found) := by
  have hdrop : OnlyTransmits s { t with errs := t.errs.filter fun e => !found e } := h.of_same rfl rfl rfl
  exact hdrop.foldl _ fun _ e hv => hv.eccOne e

theorem OnlyTransmits.store (a : Nat) (bs : List Byte) : OnlyTransmits s (t.store a bs) := by
  refine (h.eccTake fun e => memLpddr e.1 && eccHits a bs.length e).of_same ?_ ?_ ?_
  all_goals
    unfold State.store State.blur
    split <;> rfl

theorem OnlyTransmits.modRing (c : Nat) (f : CqSt → CqSt) : OnlyTransmits s (t.modRing c f) := h.of_same rfl rfl rfl

theorem OnlyTransmits.notifyId (i : Nat) : OnlyTransmits s (t.notifyId i) := by
  have hpending : ∀ core, OnlyTransmits s { t with core } := fun _ => h.of_same rfl rfl rfl
  unfold State.notifyId State.signal
  exact .ite (((hpending _).count ..).out _) (h.count ..)

theorem OnlyTransmits.notifyRing (c later : Nat) : OnlyTransmits s (t.notifyRing c later) := (h.modRing _ _).notifyId _

theorem OnlyTransmits.episode (c later : Nat) (sent : Bool) : OnlyTransmits s (t.episode c later sent) := by
  unfold State.episode
  dsimp only
  repeat' split
  · exact (((h.modRing _ _).count ..).raise ..).notifyRing _ _
  · exact ((h.modRing _ _).count ..).raise ..
  · exact h.modRing _ _
  · exact h

theorem OnlyTransmits.complete (c queue : Nat) (lo hi : Word) : OnlyTransmits s (t.complete c queue lo hi) := by
  unfold State.complete State.putEntry
  dsimp only
  split
  · exact h.of_same rfl rfl rfl
  · have hput := fun a bs f => ((h.store a bs).count .xfer 0 R.XFER_COMPLETIONS).modRing c f
    exact (OnlyTransmits.ite ((hput _ _ _).notifyRing _ _) (hput _ _ _)).episode _ _ _

theorem OnlyTransmits.finishAt (at_ : Nat) (j : Job) (status : Nat) : OnlyTransmits s (t.finishAt at_ j status) := by
  unfold State.finishAt
  dsimp only
  refine (h.of_parts ?_).complete ..
  rintro _ (rfl | rfl | rfl)
  all_goals
    repeat' split
    all_goals simp (maxDischargeDepth := 5) [Part.same_refl]

theorem OnlyTransmits.departs : OnlyTransmits s t.departs := h.foldl _ fun _ _ hv => hv.finishAt ..

theorem OnlyTransmits.pace : OnlyTransmits s t.pace := h.of_parts (by rintro _ (rfl | rfl | rfl) <;> simp [Part.same_refl])

end Jobs

end Sys2Proof.Machine
end

section
/-! SUPPORT. The transmitter of a port: every operation that sends, cuts, ends or discards a frame changes transmitters alone. -/

namespace Sys2Proof.Machine

open Sys2Proof

section Transmitters

variable {s t : State} (h : OnlyTransmits s t) (p : Nat)
include h

/-! Frames that leave, and fragments that end (R53, R95, R134, R151, R168). -/

omit p in
theorem OnlyTransmits.replicaDone (id frame member outcome at_ : Nat) : OnlyTransmits s (t.replicaDone id frame member outcome at_) :=
  h.of_parts (by rintro _ (rfl | rfl | rfl) <;> simp [Part.same_refl])

theorem OnlyTransmits.leaves (fr : TxFrame) (dep fin : Nat) : OnlyTransmits s (t.leaves p fr dep fin) := by
  unfold State.leaves
  split
  · exact h.replicaDone ..
  · exact h.modPort p
  · exact (h.modPort p).countP ..
  · exact h.countP ..
  · exact (h.modPort p (hm := fun _ => List.length_map _)).countP ..
  · exact h

theorem OnlyTransmits.endFragment (x : PTx) (d : Nat) (final : Bool) (reason : Option Nat) :
    OnlyTransmits s (t.endFragment p x d final reason) := by
  unfold State.endFragment
  dsimp only
  split
  · exact (((h.out _).modPort p).countP ..).leaves ..
  · exact (((h.out _).modPort p).countP ..).countP ..

theorem OnlyTransmits.endWire : OnlyTransmits s (t.endWire p) := by
  unfold State.endWire
  split
  · exact .ite (h.endFragment ..) h
  · exact h

theorem OnlyTransmits.cutWire (at_ reason : Nat) : OnlyTransmits s (t.cutWire p at_ reason) := by
  unfold State.cutWire
  split
  · exact .ite (h.endFragment ..) h
  · exact h

theorem OnlyTransmits.finishWire : OnlyTransmits s (t.finishWire p) := by
  unfold State.finishWire
  split
  · exact h.endFragment ..
  · exact h

omit p in
/-- Passing time ends fragments and jobs (R226, R238). -/
theorem OnlyTransmits.runTo (w : Nat) : OnlyTransmits s (t.runTo w) :=
  ((h.atLeast w).foldl _ fun _ p hv => hv.endWire p).departs.pace

/-! Frames that are discarded, and windows that are lost (R104, R140, R156). -/

theorem OnlyTransmits.dropFrame (fr : TxFrame) (d : Drop) : OnlyTransmits s (t.dropFrame p fr d) :=
  h.of_parts (by rintro _ (rfl | rfl | rfl) <;> simp [Part.same_refl])

theorem OnlyTransmits.abandon : OnlyTransmits s (t.abandon p) := by
  unfold State.abandon
  dsimp only
  split
  · exact (h.modPort p).dropFrame ..
  · exact (h.modPort p).dropFrame ..
  · exact h

theorem OnlyTransmits.purgeHeads : OnlyTransmits s (t.purgeHeads p) := by
  unfold State.purgeHeads
  dsimp only
  refine OnlyTransmits.modPort (OnlyTransmits.foldl_fst (h.modPort p) _ fun u fr hu => ?_) p
  split
  · exact hu
  · split
    · exact hu.dropFrame ..
    · exact hu

theorem OnlyTransmits.purge : OnlyTransmits s (t.purge p) := (h.purgeHeads p).departs.pace

theorem OnlyTransmits.windowLost (c close : Nat) : OnlyTransmits s (t.windowLost p c close) := .ite h ((h.modPort p).countP ..)

theorem OnlyTransmits.countEatenHead (c : Nat) : OnlyTransmits s (t.countEatenHead p c) := by
  unfold State.countEatenHead
  repeat' split
  · exact h.windowLost ..
  · exact h
  · exact h

theorem OnlyTransmits.countEatenRest : OnlyTransmits s (t.countEatenRest p) := by
  unfold State.countEatenRest
  repeat' split
  · exact h.windowLost ..
  · exact h
  · exact h

theorem OnlyTransmits.countEaten : OnlyTransmits s (t.countEaten p) :=
  (h.foldl _ fun _ c hv => hv.countEatenHead p c).countEatenRest p

theorem OnlyTransmits.arrived : OnlyTransmits s (t.arrived p) := (h.purge p).countEaten p

/-! Frames that start (R103, R151 to R156). -/

theorem OnlyTransmits.started (cls tDep : Nat) (fr : Option TxFrame) : OnlyTransmits s (t.started p cls tDep fr) :=
  h.of_parts (by rintro _ (rfl | rfl | rfl) <;> simp [Part.same_refl])

theorem OnlyTransmits.startExpress (fr : TxFrame) (tDep : Nat) : OnlyTransmits s (t.startExpress p fr tDep) := by
  unfold State.startExpress State.mpacketOut
  dsimp only
  split
  · exact (((h.modPort p).modPort p).out _).countP ..
  · exact ((h.modPort p).out _).countP ..
  · exact (((h.modPort p).out _).started ..).leaves ..

theorem OnlyTransmits.startPre (fr : TxFrame) (close tDep : Nat) : OnlyTransmits s (t.startPre p fr close tDep) := by
  unfold State.startPre
  exact (h.modPort p).started ..

theorem OnlyTransmits.startPmac (tDep : Nat) : OnlyTransmits s (t.startPmac p tDep) := by
  unfold State.startPmac
  split
  · split
    · exact h.modPort p
    · exact h
  · split
    · exact h.startPre ..
    · exact h

theorem OnlyTransmits.countHeld (c : Nat) : OnlyTransmits s (t.countHeld p c) := by
  unfold State.countHeld
  repeat' split
  · exact h
  · exact h
  · exact (h.modPort p).countP ..
  · exact h
  · exact (h.modPort p).countP ..
  · exact h.windowLost ..
  · exact h

theorem OnlyTransmits.countRest : OnlyTransmits s (t.countRest p) := by
  unfold State.countRest
  repeat' split
  · exact h
  · exact h
  · exact (h.modPort p).countP ..
  · exact h.windowLost ..
  · exact h

theorem OnlyTransmits.judged : OnlyTransmits s (t.judged p) :=
  (((h.endWire p).purge p).foldl _ fun _ c hv => hv.countHeld p c).countRest p

theorem OnlyTransmits.txStep (tDep : Nat) : OnlyTransmits s (t.txStep p tDep) := by
  have hj := h.judged p
  unfold State.judged at hj
  unfold State.txStep
  dsimp only
  split
  · exact .ite (.ite hj (hj.cutWire ..)) (.ite hj (hj.startExpress ..).pace)
  · exact .ite hj (hj.startPmac ..).pace

/-! Frames that a port makes itself (R54). -/

theorem OnlyTransmits.push (c tDep : Nat) : OnlyTransmits s (t.push p c tDep) := by
  have he := h.endWire p
  have hcut := fun (b : Bool) n reason => OnlyTransmits.ite (c := b = true) (he.cutWire p n reason) he
  unfold State.push
  dsimp only
  split
  · exact ((hcut ..).runTo _).txStep ..
  · exact hcut ..

theorem OnlyTransmits.sendOwn (fr : TxFrame) (tDep : Nat) : OnlyTransmits s (t.sendOwn p fr tDep) :=
  (((h.modPort p).push ..).countEaten ..).pace

theorem OnlyTransmits.sendHello (sw sl : Bool) : OnlyTransmits s (t.sendHello p sw sl) := .ite (h.push ..) (h.sendOwn ..)

end Transmitters

/-! Reports (R311 to R313). -/

section Reports

variable {s t : State} (h : OnlyTransmits s t)
include h

theorem OnlyTransmits.replicate (handle cls typ : Nat) (tagged : Bool) (hd : Hdr) (payload : List Byte) (origin : Nat → Origin)
    (loaded ts : Bool) (needBit : Option Nat) (ports : List Nat) :
    OnlyTransmits s (t.replicate handle cls typ tagged hd payload origin loaded ts needBit ports) := by
  have hseq : ∀ stream, OnlyTransmits s { t with stream } := fun _ => h.of_same rfl rfl rfl
  exact ((hseq _).count ..).foldl _ fun _ x hv => .ite (hv.countP ..) (((hv.modPort x.1).count ..).countP ..)

theorem OnlyTransmits.modFault (f : FaultSt → FaultSt) : OnlyTransmits s (t.modFault f) := h.of_same rfl rfl rfl

theorem OnlyTransmits.faultIn (r : FaultReport) : OnlyTransmits s (t.faultIn r) :=
  .ite (h.count ..) (.ite ((h.count ..).raise ..) (h.modFault _))

theorem OnlyTransmits.sendReport (r : FaultReport) : OnlyTransmits s (t.sendReport r) := by
  unfold State.sendReport
  dsimp only
  refine .ite ((h.count ..).faultIn _) (.ite h ?_)
  split
  · exact h.count ..
  · exact ((h.replicate ..).foldl _ fun _ p hv => hv.arrived p).count ..

theorem OnlyTransmits.limit (node port code detail : Nat) : OnlyTransmits s (t.limit node port code detail) := by
  unfold State.limit
  dsimp only
  split
  · exact .ite (h.count ..) ((h.modFault _).sendReport _)
  · exact .ite ((h.modFault _).sendReport _) (h.modFault _)

theorem OnlyTransmits.report (code : Nat) (subject : Option (Nat × Nat)) (detail : Nat) :
    OnlyTransmits s (t.report code subject detail) := by
  unfold State.report
  split
  · split
    · exact h.count ..
    · exact h.limit ..
  · exact h

end Reports

end Sys2Proof.Machine
end

section
/-! SUPPORT. A report counts in no link register: the registers of port pages that a FAULT frame on its way leaves alone (R311 to R313). -/

namespace Sys2Proof.Machine

open Sys2Proof

/-- The counters of a port page that reports count in. -/
def reportRegs : List Nat := R.PORT_REPLICA_TX :: R.PORT_TX_NOT_AGREED :: dropRegs

theorem find_ite {s t : State} {c : Prop} [Decidable c] {a : Nat} {x : Option Word} (hs : smFind s.regs a = x)
    (ht : smFind t.regs a = x) : smFind (if c then s else t).regs a = x := by
  split
  · exact hs
  · exact ht

section Reports

variable (s : State) {r : Fin 1024} {po : Nat} (hpo : po < 0x1000) (hd : po ∉ reportRegs)
include hpo

theorem State.find_faultIn_port (f : FaultReport) :
    smFind (s.faultIn f).regs (pageBase .port r + po) = smFind s.regs (pageBase .port r + po) := by
  have ha := inPortPage_reg r hpo
  unfold State.faultIn
  repeat' split
  · exact s.find_count_port _ _ _ ha (by decide)
  · exact s.find_count_port _ _ _ ha (by decide)
  · rfl

include hd

theorem State.find_replicate_port (handle cls typ : Nat) (tagged : Bool) (h : Hdr) (payload : List Byte) (origin : Nat → Origin)
    (loaded ts : Bool) (needBit : Option Nat) (ports : List Nat) :
    smFind (s.replicate handle cls typ tagged h payload origin loaded ts needBit ports).regs (pageBase .port r + po) =
      smFind s.regs (pageBase .port r + po) := by
  have ha := inPortPage_reg r hpo
  have hother : ∀ (u : State) (p x : Nat), x ∈ reportRegs →
      smFind (u.countP p x).regs (pageBase .port r + po) = smFind u.regs (pageBase .port r + po) := by
    intro u p x hx
    refine u.find_countN_other .port p x 1 _ fun heq => ?_
    have hlt : ∀ y ∈ reportRegs, y < 0x1000 := by decide
    by_cases hr : r.val = p
    · rw [hr] at heq
      exact hd (Nat.add_left_cancel heq ▸ hx)
    · exact portReg_ne hr (hlt x hx) hpo heq
  refine (State.find_foldl_other _ _ (fun u x => ?_) _).trans (State.find_count_port _ .stream 0 _ ha (by decide))
  exact find_ite (hother u _ R.PORT_TX_NOT_AGREED (by decide))
    ((hother _ _ R.PORT_REPLICA_TX (by decide)).trans (State.find_count_port _ .stream 0 _ ha (by decide)))

theorem State.find_sendReport_port (f : FaultReport) :
    smFind (s.sendReport f).regs (pageBase .port r + po) = smFind s.regs (pageBase .port r + po) := by
  have ha := inPortPage_reg r hpo
  have hcount : ∀ (u : State) (c : Bool), smFind (u.count .fault 0 (if c then R.FAULT_TX_RESOLVED else R.FAULT_TX_SENT)).regs
      (pageBase .port r + po) = smFind u.regs (pageBase .port r + po) := by
    rintro u (_ | _)
    all_goals exact u.find_count_port _ _ _ ha (by decide)
  have harrived : ∀ (u : State) (q : Nat), smFind (u.arrived q).regs (pageBase .port r + po) = smFind u.regs (pageBase .port r + po) :=
    fun u q => u.find_arrived_port q ha (dropRegs_ne q hpo fun hx => hd (.tail _ (.tail _ hx)))
  unfold State.sendReport
  dsimp only
  split
  · exact (State.find_faultIn_port _ hpo f).trans (hcount s _)
  · split
    · rfl
    · split
      · exact s.find_count_port _ _ _ ha (by decide)
      · exact (hcount _ _).trans ((State.find_foldl_other _ _ harrived _).trans (State.find_replicate_port s hpo hd ..))

theorem State.find_report_port (code : Nat) (subject : Option (Nat × Nat)) (detail : Nat) :
    smFind (s.report code subject detail).regs (pageBase .port r + po) = smFind s.regs (pageBase .port r + po) := by
  have ha := inPortPage_reg r hpo
  have hslot : ∀ (u : State) (g : FaultSt → FaultSt), (u.modFault g).regs = u.regs := fun _ _ => rfl
  unfold State.report State.limit
  dsimp only
  repeat' split
  · exact s.find_count_port _ _ _ ha (by decide)
  · exact s.find_count_port _ _ _ ha (by decide)
  · rw [State.find_sendReport_port _ hpo hd, hslot]
  · rw [State.find_sendReport_port _ hpo hd, hslot]
  · rfl
  · rfl

/-- An alarm of a link, with its report, takes back no increment. -/
theorem counted_raisePort {s t : State} (h : Counted .port r po s t) (cls p detail code : Nat) :
    Counted .port r po s (t.raisePort cls p detail code) :=
  counted_of_find h (State.find_report_port (t.raise cls p detail) hpo hd code _ detail)

end Reports

theorem State.raisePort_onlyTransmits (s : State) (cls p detail code : Nat) :
    OnlyTransmits (s.raise cls p detail) (s.raisePort cls p detail code) := (OnlyTransmits.refl _).report ..

theorem State.raisePort_time (s : State) (cls p detail code : Nat) : (s.raisePort cls p detail code).time = s.time :=
  show Part.same .time s _ by simp [Part.same_refl]

theorem State.alarmed_raisePort (s : State) (cls p detail code : Nat) (h : linkAlarm cls) :
    Alarmed cls p detail (s.raisePort cls p detail code) :=
  (s.raisePort_onlyTransmits cls p detail code).alarmed h (s.alarmed_raise cls p detail)

end Sys2Proof.Machine
end

section
/-! SUPPORT. A link that comes up: the proof of O34 (R128 to R130). -/

namespace Sys2Proof.Machine

open Sys2Proof

/-! Ports and links that a change concerns. -/

theorem State.link_modLink (s : State) (p : Nat) (f : LinkSt → LinkSt) : (s.modLink p f).link p = f (s.link p) := by
  rw [State.link, State.modLink, State.port_modPort_same]
  rfl

theorem State.link_congr {s t : State} (h : t.ports = s.ports) (p : Nat) : t.link p = s.link p := by
  rw [State.link, State.port_congr h, State.link]

theorem State.otherPorts_modLink (s : State) (p : Nat) (f : LinkSt → LinkSt) : OtherPorts p s (s.modLink p f) := otherPorts_modPort s p _

theorem State.onlyPort_modPort (s : State) (p : Nat) (f : PortSt → PortSt) : OnlyPort p s (s.modPort p f) :=
  ⟨rfl, otherPorts_modPort s p f⟩

theorem State.onlyPort_modLink (s : State) (p : Nat) (f : LinkSt → LinkSt) : OnlyPort p s (s.modLink p f) := s.onlyPort_modPort p _

theorem State.isUp_eq_false {s : State} {p : Nat} (h : (s.link p).state ≠ .up) : s.isUp p = false := decide_eq_false h

theorem State.state_of_isUp {s : State} {p : Nat} (h : s.isUp p = true) : (s.link p).state = .up := of_decide_eq_true h

theorem OnlyPort.time {p : Nat} {s t : State} (h : OnlyPort p s t) : t.time = s.time := by rw [h.1]
theorem OnlyPort.regs {p : Nat} {s t : State} (h : OnlyPort p s t) : t.regs = s.regs := by rw [h.1]
theorem OnlyPort.alarm {p : Nat} {s t : State} (h : OnlyPort p s t) : t.alarm = s.alarm := by rw [h.1]
theorem OnlyPort.others {p : Nat} {s t : State} (h : OnlyPort p s t) : OtherPorts p s t := h.2

/-! What transmission leaves of a link. -/

section Transmits

variable {s t : State} (h : OnlyTransmits s t) (p : Nat)
include h

theorem OnlyTransmits.link : t.link p = (s.link p).helloOf (t.link p) := congrArg PortSt.link (h.port p)

theorem OnlyTransmits.state : (t.link p).state = (s.link p).state := by
  have hl : (t.link p).state = ((s.link p).helloOf (t.link p)).state := congrArg LinkSt.state (h.link p)
  exact hl

theorem OnlyTransmits.isUp : t.isUp p = s.isUp p := congrArg (fun x => decide (x = LinkState.up)) (h.state p)

end Transmits

theorem State.runTo_transmits (s : State) (w : Nat) : OnlyTransmits s (s.runTo w) := (OnlyTransmits.refl s).runTo w

theorem State.runTo_now (s : State) (w : Nat) : (s.runTo w).time.now = max s.time.now w := by rw [State.runTo_time]

/-! DETECT (R128). -/

/-- A port that enters DETECT from a state other than UP. -/
def State.detecting (s : State) (p : Nat) (q : PortSt) : PortSt :=
  { q.dropDelay.dropOwn with link := { (s.latchCfg p q.link).fresh with state := .detect, since := s.time.now, eq := [] } }

theorem State.enterDetect_notUp {s : State} {p : Nat} (h : s.isUp p = false) : s.enterDetect p = s.modPort p (s.detecting p) := by
  unfold State.enterDetect
  rw [h]
  rfl

theorem State.enterDetect_sets {s : State} {p : Nat} (h : s.isUp p = false) : let t := s.enterDetect p
    t.port p = s.detecting p (s.port p) ∧ OnlyPort p s t := by
  rw [State.enterDetect_notUp h]
  exact ⟨State.port_modPort_same .., s.onlyPort_modPort p _⟩

theorem State.link_enterDetect {s : State} {p : Nat} (h : s.isUp p = false) : (s.enterDetect p).link p =
    { (s.latchCfg p (s.link p)).fresh with state := .detect, since := s.time.now, eq := [] } := by
  rw [State.link, (State.enterDetect_sets h).1]
  rfl

/-! The commands of a link that comes up. -/

section Commands

variable {s : State} {p : Fin 1024}

theorem exec_signalDetect (h : (s.link p).state = .detect) :
    exec (.signalDetect p) s = .next (s.modLink p fun l => { l with state := .training, since := s.time.now }) := if_pos h

theorem exec_trainingReady (h : (s.link p).state = .training ∨ (s.link p).state = .waking) (eq : List Int) :
    exec (.trainingReady p eq) s = .next (s.modLink p fun l =>
      { l with state := .lock, since := s.time.now, failRun := 0, fast := l.state = .waking && l.coeffs.isSome, eq, locked := false,
               winBad := false }) := if_pos h

theorem exec_codewordLock (h : (s.link p).state = .lock) (hl : (s.link p).locked = false) :
    exec (.codewordLock p) s = .next (s.modLink p fun l =>
      { l with locked := true, since := s.time.now, winBad := false, cwCount := 0, uncorr := [] }) := if_pos ⟨h, by rw [hl]; rfl⟩

theorem exec_observationWindowEnd (h : (s.link p).state = .lock) (hl : (s.link p).locked = true) :
    let u := s.runTo ((s.link p).since + if (s.link p).fast then 50 * wUs else wMs)
    exec (.observationWindowEnd p) s = .next (u.modLink p fun l =>
      { l with state := .hello, offer := u.offered p, since := u.time.now, helloDue := u.time.now }) := if_pos ⟨h, hl⟩

theorem exec_wakeTrainTimeout (h : (s.link p).state = .waking) : let u := s.runTo ((s.link p).since + 1250 * wUs)
    exec (.wakeTrainTimeout p) s = .next (u.modLink p fun l => { l with state := .training, since := u.time.now, eq := [] }) := if_pos h

theorem exec_lockTimeout (h : (s.link p).state = .lock) (hl : (s.link p).locked = false) :
    exec (.lockTimeout p) s = .next ((s.runTo ((s.link p).since + wMs)).enterDetect p) := if_pos ⟨h, by rw [hl]; rfl⟩

end Commands

/-! Training that fails (R128, R129). -/

/-- A training that has timed out is counted, and adds to both runs of failures. -/
def State.trainFailed (s : State) (p : Nat) : State :=
  (s.countP p R.PORT_TRAIN_FAILS).modLink p fun l => { l with failRun := l.failRun + 1, failsUp := l.failsUp + 1 }

/-- The alarm that the third failure in a row raises. -/
def State.trainAlarm (s : State) (p : Nat) : State :=
  if 3 ≤ (s.link p).failRun then s.raisePort 0x010 p (s.link p).failsUp 0x0003 else s

theorem exec_trainTimeout {s : State} {p : Fin 1024} (h : (s.link p).state = .training) :
    exec (.trainTimeout p) s =
      .next ((((s.runTo ((s.link p).since + bitsOf (s.link p).trainCfg 15 0 * wMs)).trainFailed p).trainAlarm p).enterDetect p) := if_pos h

theorem State.link_trainFailed (s : State) (p : Nat) :
    (s.trainFailed p).link p = { s.link p with failRun := (s.link p).failRun + 1, failsUp := (s.link p).failsUp + 1 } := by
  rw [State.trainFailed, State.link_modLink, State.link_congr (State.countP_ports ..)]

/-- What a training that times out leaves, but for the alarm. -/
theorem trainFailed_sets (u : State) (p : Fin 1024) (hup : u.isUp p = false) :
    let t := ((u.trainFailed p).trainAlarm p).enterDetect p
    t.time = u.time ∧ (t.link p).state = .detect ∧ (t.link p).failRun = (u.link p).failRun + 1 ∧
    (t.link p).failsUp = (u.link p).failsUp + 1 ∧ (t.link p).since = u.time.now ∧ Counted .port p R.PORT_TRAIN_FAILS u t ∧
    t.alarm = ((u.trainFailed p).trainAlarm p).alarm ∧ OtherPorts p ((u.trainFailed p).trainAlarm p) t := by
  intro t
  obtain ⟨w, hw⟩ : ∃ w, w = u.trainFailed p := ⟨_, rfl⟩
  have hlink := u.link_trainFailed p
  have hcount : Counted .port p R.PORT_TRAIN_FAILS u w := hw ▸ counted_count .port p R.PORT_TRAIN_FAILS u
  have htime : w.time = u.time := hw ▸ State.countP_time ..
  have hports : (w.raise 0x010 p (w.link p).failsUp).ports = w.ports := rfl
  rw [← hw] at hlink
  obtain ⟨v, hv⟩ : ∃ v, v = w.trainAlarm p := ⟨_, rfl⟩
  have hkept : v.link p = (w.link p).helloOf (v.link p) ∧ v.time = w.time ∧ Counted .port p R.PORT_TRAIN_FAILS u v := by
    rw [hv, State.trainAlarm]
    split
    · exact ⟨(w.raisePort_onlyTransmits _ _ _ _).link p, w.raisePort_time .., counted_raisePort (by decide) (by decide) hcount ..⟩
    · exact ⟨rfl, rfl, hcount⟩
  obtain ⟨hvlink, hvtime, hvcount⟩ := hkept
  have hvup : v.isUp p = false := by
    refine State.isUp_eq_false ?_
    rw [hvlink, hlink]
    exact of_decide_eq_false hup
  obtain ⟨hport, honly⟩ := State.enterDetect_sets hvup
  have ht : t = v.enterDetect p := by rw [hv, hw]
  rw [← ht] at hport honly
  have htlink : t.link p = (v.detecting p (v.port p)).link := congrArg PortSt.link hport
  rw [← hw, ← hv]
  refine ⟨honly.time.trans (hvtime.trans htime), ?_, ?_, ?_, ?_, counted_of_find hvcount (by rw [honly.regs]), honly.alarm, honly.others⟩
  · rw [htlink]; rfl
  · rw [htlink]
    exact (congrArg LinkSt.failRun hvlink).trans (congrArg LinkSt.failRun hlink)
  · rw [htlink]
    exact (congrArg LinkSt.failsUp hvlink).trans (congrArg LinkSt.failsUp hlink)
  · rw [htlink, ← htime, ← hvtime]; rfl

/-- What a training that has timed out says of the alarm and of the other ports. -/
theorem trainFailed_alarm (u : State) (p : Fin 1024) (hup : u.isUp p = false) :
    let t := ((u.trainFailed p).trainAlarm p).enterDetect p
    ((u.link p).failRun < 2 → t.alarm = u.alarm ∧ OtherPorts p u t) ∧
    (2 ≤ (u.link p).failRun → Alarmed 0x010 p ((u.link p).failsUp + 1) t) := by
  intro t
  obtain ⟨-, -, -, -, -, -, halarm, hothers⟩ := trainFailed_sets u p hup
  have hrun : ((u.trainFailed p).link p).failRun = (u.link p).failRun + 1 := congrArg LinkSt.failRun (u.link_trainFailed p)
  have hups : ((u.trainFailed p).link p).failsUp = (u.link p).failsUp + 1 := congrArg LinkSt.failsUp (u.link_trainFailed p)
  refine ⟨fun hlt => ?_, fun hle => ?_⟩
  · have hsame : (u.trainFailed p).trainAlarm p = u.trainFailed p := if_neg (by omega)
    have hcount : OtherPorts p u (u.trainFailed p) :=
      (otherPorts_of_ports (State.countP_ports ..) _).trans (State.otherPorts_modLink _ _ _)
    refine ⟨halarm.trans ((congrArg State.alarm hsame).trans (State.countP_alarm ..)), ?_⟩
    exact hcount.trans ((otherPorts_of_ports (congrArg State.ports hsame) _).trans hothers)
  · have hraised : (u.trainFailed p).trainAlarm p = (u.trainFailed p).raisePort 0x010 p ((u.link p).failsUp + 1) 0x0003 := by
      rw [State.trainAlarm, if_pos (by omega), hups]
    have ha := State.alarmed_raisePort (u.trainFailed p) 0x010 p ((u.link p).failsUp + 1) 0x0003 ⟨by decide, by decide⟩
    rw [← hraised] at ha
    rw [Alarmed, halarm]
    exact ha

/-- Settles O34: each stage of a link that comes up, and what its timeouts leave. -/
theorem linkComesUpInStages : Obligations.LinkComesUpInStages := by
  unfold Obligations.LinkComesUpInStages
  intro s p l
  refine ⟨fun h => ⟨_, exec_signalDetect h, s.link_modLink .., s.onlyPort_modLink ..⟩,
    fun h eq => ⟨_, exec_trainingReady h eq, s.link_modLink .., s.onlyPort_modLink ..⟩,
    fun h hl => ⟨_, exec_codewordLock h hl, s.link_modLink .., s.onlyPort_modLink ..⟩,
    fun h hl => ⟨_, exec_observationWindowEnd h hl, State.runTo_now .., State.otherPorts_modLink _ _ _, State.link_modLink ..⟩,
    fun h => ⟨_, exec_trainTimeout h, ?_⟩,
    fun h => ⟨_, exec_wakeTrainTimeout h, State.runTo_now .., State.otherPorts_modLink _ _ _, State.link_modLink ..⟩,
    fun h hl => ⟨_, exec_lockTimeout h hl, ?_⟩⟩
  case refine_1 =>
    have hup : (s.runTo (l.since + bitsOf l.trainCfg 15 0 * wMs)).isUp p = false := by
      refine State.isUp_eq_false ?_
      rw [(s.runTo_transmits _).state p, h]
      decide
    obtain ⟨htime, hstate, hrun, hups, hsince, hcount, -, -⟩ := trainFailed_sets _ p hup
    obtain ⟨hfew, hmany⟩ := trainFailed_alarm _ p hup
    exact ⟨by rw [htime, State.runTo_now], hstate, hrun, hups, by rw [hsince, htime], hcount, hfew, hmany⟩
  case refine_2 =>
    have hup : (s.runTo (l.since + wMs)).isUp p = false := by
      refine State.isUp_eq_false ?_
      rw [(s.runTo_transmits _).state p, h]
      decide
    obtain ⟨-, honly⟩ := State.enterDetect_sets hup
    refine ⟨by rw [honly.time, State.runTo_now], ?_, ?_, honly.others⟩
    · rw [State.link_enterDetect hup]
    · rw [State.link_enterDetect hup, honly.time]

end Sys2Proof.Machine
end

section
/-! SUPPORT. HELLOs sent at once, hello complete and not complete: the proof of O35 (R133, R134). -/

namespace Sys2Proof.Machine

open Sys2Proof

/-! A HELLO that starts at once (R133). -/

theorem State.sendHello_idle {s : State} {p : Nat} (h : (s.port p).txq = []) (sw sl : Bool) :
    s.sendHello p sw sl = s.sendOwn p (s.linkFrame p 6 tHello (.hello sw sl)) (s.nominalDep p) := by
  refine if_neg ?_
  rw [PortSt.waits, h]
  exact Bool.false_ne_true

/-- The HELLO that starts carries the words of its link; with its start the port knows what it has sent. -/
theorem hello_sent {v : State} {p : Fin 1024} {sw sl : Bool} (h : v.startsNow p (v.linkFrame p 6 tHello (.hello sw sl))) :
    let t := v.sendHello p sw sl
    (∃ fin, t.link p = (v.link p).helloLeft sw sl v.time.now fin) ∧ OtherPorts p v t ∧
    Sent p tHello (helloBytes p v.instTag (v.link p).offer (v.link p).etherType (v.link p).kept.isSome sw sl) v t := by
  intro t
  have ⟨_, hidle, _⟩ := h
  obtain ⟨fr, hfr⟩ : ∃ fr, fr = v.linkFrame p 6 tHello (.hello sw sl) := ⟨_, rfl⟩
  have horigin : fr.origin = .hello sw sl := by rw [hfr]; rfl
  obtain ⟨w, fin, lane, hsend, houts, hport, hothers, htime, -⟩ :=
    State.sendOwn_sent (tDep := v.nominalDep p) p.isLt (hfr ▸ h) (by rw [horigin]; exact Origin.noConfusion)
      (by rw [horigin]; exact Origin.noConfusion)
  obtain ⟨dep, hdep⟩ : ∃ dep, dep = (v.loaded p fr).depFor p fr (v.nominalDep p) := ⟨_, rfl⟩
  have hframe : (v.loaded p fr).ownFrame p fr dep =
      { fr with
        frame := (v.loaded p fr).llFrame p tHello
          (helloBytes p v.instTag (v.link p).offer (v.link p).etherType (v.link p).kept.isSome sw sl) } := by
    simp only [State.ownFrame, horigin, State.port_modPort_same]
    rfl
  rw [← hdep, hframe] at hsend houts
  have ht : t = w.modLink p fun l => l.helloLeft sw sl v.time.now fin := by
    refine (State.sendHello_idle hidle sw sl).trans ((congrArg (fun f => v.sendOwn p f (v.nominalDep p)) hfr).symm.trans (hsend.trans ?_))
    simp only [State.leaves, horigin, htime]
  refine ⟨⟨fin, ?_⟩, ?_, sent_llFrame (u := v.loaded p fr) ?_⟩
  · rw [ht, State.link_modLink, State.link, hport]
    rfl
  · rw [ht]
    exact hothers.trans (State.otherPorts_modLink _ _ _)
  · rw [ht]
    exact houts

/-- A HELLO that is neither a SWITCH nor a SLEEP HELLO: the state stays, one with ACK is noted, and the next is due. -/
theorem LinkSt.helloLeft_due (l : LinkSt) (start fin : Nat) : let m := l.helloLeft false false start fin
    m.state = l.state ∧ (l.state = .hello → l.kept.isSome = true → m.sentAck.isSome = true) ∧
    m.helloDue = start + (if l.state = .up then bitsOf l.helloCfg 15 0 else bitsOf l.helloCfg 23 16) * wUs := by
  refine ⟨rfl, fun hst hk => ?_, rfl⟩
  simp only [LinkSt.helloLeft, hst, hk, true_and]
  cases l.sentAck <;> rfl

theorem State.helloCheck_incomplete {s : State} {p : Nat} (h : (s.link p).kept = none ∨ (s.link p).sentAck = none ∨
    (s.link p).state ≠ .hello ∨ (s.link p).gotAck = false) : s.helloCheck p = s := by
  unfold State.helloCheck
  grind

theorem exec_helloTx_hello {s : State} {p : Fin 1024} (h : (s.link p).state = .hello) :
    exec (.helloTx p) s = .next (((s.runTo (s.link p).helloDue).sendHello p false false).helloCheck p) := by
  simp only [exec, execHelloTx, h]

theorem exec_helloTx_up {s : State} {p : Fin 1024} (h : (s.link p).state = .up) (hs : (s.link p).sleeping = false)
    (hsw : bit (s.link p).used 1 = false ∨ (s.link p).switched = true) :
    exec (.helloTx p) s = .next ((s.runTo (s.link p).helloDue).sendHello p false false) := by
  have hnone : (bit (s.link p).used 1 && !(s.link p).switched) = false := by
    obtain hb | hb := hsw <;> rw [hb]
    · rfl
    · exact Bool.and_false _
  simp only [exec, execHelloTx, h, hs, hnone, Bool.false_eq_true, if_false]

theorem exec_helloTx_switch {s : State} {p : Fin 1024} (h : (s.link p).state = .switch) (hs : (s.link p).switched = false) :
    exec (.helloTx p) s = .next (s.sendHello p true false) := by
  simp only [exec, execHelloTx, h, hs]
  rfl

/-- A HELLO that is due leaves the hello as incomplete as it was. -/
theorem exec_helloTx_due {s : State} {p : Fin 1024} (u : State) (hu : u = s.runTo (s.link p).helloDue)
    (hs : (s.link p).state = .hello ∧ ((u.link p).kept = none ∨ (u.link p).gotAck = false) ∨
      (s.link p).state = .up ∧ (s.link p).sleeping = false ∧ (bit (s.link p).used 1 = false ∨ (s.link p).switched = true))
    {fin : Nat} (hl : (u.sendHello p false false).link p = (u.link p).helloLeft false false u.time.now fin) :
    exec (.helloTx p) s = .next (u.sendHello p false false) := by
  obtain ⟨hst, hwait⟩ | ⟨hst, hsl, hsw⟩ := hs
  · rw [exec_helloTx_hello hst, ← hu, State.helloCheck_incomplete]
    rw [hl]
    simp only [LinkSt.helloLeft]
    exact hwait.elim .inl fun hg => .inr (.inr (.inr hg))
  · rw [hu]
    exact exec_helloTx_up hst hsl hsw

/-! Hello is complete (R134). -/

/-- Hello is complete: what the words and the partner agree on. -/
def State.partnered (s : State) (p : Nat) (h : Hello) : State :=
  s.modLink p fun l => { l with partnerW := h.word, used := (s.link p).offer &&& h.word &&& wd 0x7F, partner := some (h.node, h.port, h.tag) }

theorem State.link_partnered (s : State) (p : Nat) (h : Hello) : (s.partnered p h).link p =
    { s.link p with partnerW := h.word, used := (s.link p).offer &&& h.word &&& wd 0x7F, partner := some (h.node, h.port, h.tag) } :=
  State.link_modLink ..

theorem State.link_enterFailed (s : State) (p reason : Nat) :
    (s.enterFailed p reason).link p = { s.link p with state := .failed, helloFail := reason, since := s.time.now } := by
  have hd : ∀ u : State, (u.modPort p PortSt.dropOwn).link p = u.link p := fun u => by
    rw [State.link, State.port_modPort_same, State.link]
    rfl
  exact (hd _).trans (State.link_modLink ..)

/-- What an entry to UP sets in a link. -/
def State.upLink (s : State) (p : Nat) (l : LinkSt) : LinkSt :=
  { l with state := .up, since := s.time.now, upAt := s.time.now, heardAt := s.time.now,
           helloDue := s.time.now + bitsOf l.helloCfg 15 0 * wUs, coeffs := some l.eq, failsUp := 0, wakeAt := none,
           preWatch := 0 < s.live.preMask p }

/-- Of the link of a port, only what a HELLO that leaves sets may differ. -/
def SameLink (p : Nat) (s t : State) : Prop := t.link p = (s.link p).helloOf (t.link p)

theorem SameLink.trans {p : Nat} {s t u : State} (h : SameLink p s t) (h' : SameLink p t u) : SameLink p s u := by
  rw [SameLink, h', h]
  rfl

theorem sameLink_of_eq {p : Nat} {s t : State} (h : t.link p = s.link p) : SameLink p s t := by rw [SameLink, h]; rfl

theorem OnlyTransmits.sameLink {s t : State} (h : OnlyTransmits s t) (p : Nat) : SameLink p s t := h.link p

theorem sameLink_modPort (s : State) (p : Nat) {f : PortSt → PortSt} (hf : ∀ q, (f q).link = q.link := by intro _; rfl) :
    SameLink p s (s.modPort p f) :=
  sameLink_of_eq (by rw [State.link, State.port_modPort_same, hf, State.link])

theorem sameLink_refreshActive (s : State) (p : Nat) : SameLink p s (s.refreshActive p) := by
  unfold State.refreshActive
  dsimp only
  split
  · exact sameLink_of_eq rfl
  · refine SameLink.trans (t := s.modPort p fun q => { q with txActive := s.preActive p }) ?_ (sameLink_of_eq rfl)
    exact sameLink_modPort s p

theorem sameLink_sendVerify (s : State) (p : Nat) : SameLink p s (s.sendVerify p) := by
  have hmod : SameLink p s (s.modPort p fun q => { q with verify := .verifying, verTries := q.verTries + 1, verAt := s.time.now }) :=
    sameLink_modPort s p
  unfold State.sendVerify
  dsimp only
  split
  · exact hmod
  · exact hmod.trans (((OnlyTransmits.refl _).sendOwn _ _ _).sameLink p)

theorem sameLink_startVerify (s : State) (p : Nat) : SameLink p s (s.startVerify p) := by
  unfold State.startVerify
  dsimp only
  split
  · refine SameLink.trans (t := s.modPort p fun q => { q with verTries := 0 }) ?_ (sameLink_sendVerify _ p)
    exact sameLink_modPort s p
  · exact sameLink_modPort s p

theorem State.enterUp_eq (s : State) (p : Nat) :
    s.enterUp p = (((s.modLink p (s.upLink p)).cause .port p 16).startVerify p).refreshActive p := rfl

theorem sameLink_enterUp (s : State) (p : Nat) : SameLink p (s.modLink p (s.upLink p)) (s.enterUp p) := by
  refine SameLink.trans (t := (s.modLink p (s.upLink p)).cause .port p 16) (sameLink_of_eq rfl) ?_
  rw [State.enterUp_eq]
  exact (sameLink_startVerify _ p).trans (sameLink_refreshActive _ p)

section Complete

variable (u : State) (p : Nat) (h : Hello)

theorem completeHello_noLink (hb : bit h.word 0 = false) : u.completeHello p h = (u.partnered p h).enterFailed p 1 :=
  if_pos (by rw [hb]; rfl)

/-- Where the partner's word has bit 0, hello goes on to its other checks. -/
theorem completeHello_linked (hb : bit h.word 0 = true) : u.completeHello p h =
    if h.etherType ≠ (u.link p).etherType then (u.partnered p h).enterFailed p 2
    else if h.node = u.nodeId then
      if h.tag = u.instTag then ((u.partnered p h).enterFailed p 3).raise 0x013 p 0
      else (((u.partnered p h).enterFailed p 4).raise 0x014 p h.node).report 0x0007 (some (h.node, 0x400)) p
    else if bit ((u.link p).offer &&& h.word &&& wd 0x7F) 1 then
      (u.partnered p h).modLink p fun l => { l with state := .switch, since := u.time.now }
    else (u.partnered p h).enterUp p :=
  if_neg (by rw [hb]; exact Bool.false_ne_true)

variable (hb : bit h.word 0 = true)
include hb

theorem completeHello_etherType (he : h.etherType ≠ (u.link p).etherType) :
    u.completeHello p h = (u.partnered p h).enterFailed p 2 := by rw [completeHello_linked u p h hb, if_pos he]

variable (he : h.etherType = (u.link p).etherType)
include he

theorem completeHello_self (hn : h.node = u.nodeId) (ht : h.tag = u.instTag) :
    u.completeHello p h = ((u.partnered p h).enterFailed p 3).raise 0x013 p 0 := by
  rw [completeHello_linked u p h hb, if_neg (not_not_intro he), if_pos hn, if_pos ht]

theorem completeHello_double (hn : h.node = u.nodeId) (ht : h.tag ≠ u.instTag) : u.completeHello p h =
    (((u.partnered p h).enterFailed p 4).raise 0x014 p h.node).report 0x0007 (some (h.node, 0x400)) p := by
  rw [completeHello_linked u p h hb, if_neg (not_not_intro he), if_pos hn, if_neg ht]

theorem completeHello_partner (hn : h.node ≠ u.nodeId) : u.completeHello p h =
    if bit ((u.link p).offer &&& h.word &&& wd 0x7F) 1 then
      (u.partnered p h).modLink p fun l => { l with state := .switch, since := u.time.now }
    else (u.partnered p h).enterUp p := by
  rw [completeHello_linked u p h hb, if_neg (not_not_intro he), if_neg hn]

omit hb he

/-- The link with which hello has ended: what was agreed, and the state that the port has gone to. -/
structure HelloEnded (st : LinkState) (t : State) : Prop where
  word : (t.link p).partnerW = h.word
  used : (t.link p).used = (u.link p).offer &&& h.word &&& wd 0x7F
  partner : (t.link p).partner = some (h.node, h.port, h.tag)
  state : (t.link p).state = st

variable {u p h}

theorem HelloEnded.of_sameLink {st : LinkState} {t v : State} (ht : HelloEnded u p h st t) (hv : SameLink p t v) : HelloEnded u p h st v := by
  constructor <;> rw [hv]
  exacts [ht.word, ht.used, ht.partner, ht.state]

theorem helloEnded_failed (r : Nat) : HelloEnded u p h .failed ((u.partnered p h).enterFailed p r) := by
  constructor <;> rw [State.link_enterFailed, State.link_partnered]

theorem helloFail_enterFailed (s : State) (r : Nat) : ((s.enterFailed p r).link p).helloFail = r := by rw [State.link_enterFailed]

theorem helloEnded_partner (hb : bit h.word 0 = true) (he : h.etherType = (u.link p).etherType) (hn : h.node ≠ u.nodeId) :
    HelloEnded u p h (if bit ((u.link p).offer &&& h.word &&& wd 0x7F) 1 then .switch else .up) (u.completeHello p h) := by
  rw [completeHello_partner u p h hb he hn]
  split
  · constructor <;> rw [State.link_modLink, State.link_partnered]
  · refine HelloEnded.of_sameLink ?_ (sameLink_enterUp _ p)
    constructor <;> rw [State.link_modLink, State.link_partnered] <;> rfl

/-- A partner with this node's number: the same tag, or another one, with its alarm. -/
theorem helloEnded_sameNode (hb : bit h.word 0 = true) (he : h.etherType = (u.link p).etherType) (hn : h.node = u.nodeId) :
    let t := u.completeHello p h
    HelloEnded u p h .failed t ∧ (t.link p).helloFail = (if h.tag = u.instTag then 3 else 4) ∧
    (if h.tag = u.instTag then Alarmed 0x013 p 0 t else Alarmed 0x014 p h.node t) := by
  intro t
  by_cases ht : h.tag = u.instTag
  · have hend : t = ((u.partnered p h).enterFailed p 3).raise 0x013 p 0 := completeHello_self u p h hb he hn ht
    rw [if_pos ht, if_pos ht, hend]
    exact ⟨(helloEnded_failed 3).of_sameLink (sameLink_of_eq rfl), helloFail_enterFailed _ 3, State.alarmed_raise ..⟩
  · have hend := completeHello_double u p h hb he hn ht
    obtain ⟨v, hv⟩ : ∃ v, v = ((u.partnered p h).enterFailed p 4).raise 0x014 p h.node := ⟨_, rfl⟩
    have hsent : OnlyTransmits v (v.report 0x0007 (some (h.node, 0x400)) p) := (OnlyTransmits.refl v).report ..
    have ht' : t = v.report 0x0007 (some (h.node, 0x400)) p := by rw [hv]; exact hend
    rw [if_neg ht, if_neg ht, ht']
    refine ⟨?_, ?_, hsent.alarmed ⟨by decide, by decide⟩ (hv ▸ State.alarmed_raise ..)⟩
    · exact (hv ▸ (helloEnded_failed 4).of_sameLink (sameLink_of_eq rfl) : HelloEnded u p h .failed v).of_sameLink (hsent.sameLink p)
    · rw [hsent.sameLink p]
      exact hv ▸ helloFail_enterFailed _ 4

/-- In every case hello ends with what was agreed. -/
theorem helloEnded_completeHello (u : State) (p : Nat) (h : Hello) : ∃ st, HelloEnded u p h st (u.completeHello p h) := by
  cases hb : bit h.word 0
  · exact ⟨_, completeHello_noLink u p h hb ▸ helloEnded_failed 1⟩
  · by_cases he : h.etherType = (u.link p).etherType
    · by_cases hn : h.node = u.nodeId
      · exact ⟨_, (helloEnded_sameNode hb he hn).1⟩
      · exact ⟨_, helloEnded_partner hb he hn⟩
    · exact ⟨_, completeHello_etherType u p h hb he ▸ helloEnded_failed 2⟩

end Complete

/-! HELLOs received, and hello without completion (R134, R135). -/

theorem State.helloCheck_complete {s : State} {p e : Nat} {h : Hello} (hk : (s.link p).kept = some h) (hs : (s.link p).sentAck = some e)
    (hst : (s.link p).state = .hello) (hg : (s.link p).gotAck = true) : s.helloCheck p = (s.runTo e).completeHello p h := by
  simp only [State.helloCheck, hk, hs, hst, hg, and_self, if_true]

theorem LinkSt.swIn_state (l : LinkSt) (sw : Bool) : (l.swIn sw).state = l.state := by unfold LinkSt.swIn; split <;> rfl

theorem LinkSt.swIn_sentAck (l : LinkSt) (sw : Bool) : (l.swIn sw).sentAck = l.sentAck := by unfold LinkSt.swIn; split <;> rfl

/-- A HELLO received in HELLO is kept. -/
def State.helloKept (s : State) (p : Nat) (h : Hello) : State :=
  s.modLink p fun l => { l.swIn h.switch with kept := some h, gotAck := l.gotAck || h.ack }

theorem State.link_helloKept (s : State) (p : Nat) (h : Hello) : (s.helloKept p h).link p =
    { (s.link p).swIn h.switch with kept := some h, gotAck := (s.link p).gotAck || h.ack } := State.link_modLink ..

theorem exec_helloRx_hello {s : State} {p : Fin 1024} (h : Hello) (hst : (s.link p).state = .hello) :
    exec (.helloRx p h) s = .next ((s.helloKept p h).helloCheck p) := by
  simp only [exec, execHelloRx, State.helloIn, hst]
  rfl

theorem exec_helloRx_complete {s : State} {p : Fin 1024} (h : Hello) {e : Nat} (hst : (s.link p).state = .hello)
    (hg : (s.link p).gotAck = true ∨ h.ack = true) (hs : (s.link p).sentAck = some e) :
    exec (.helloRx p h) s = .next (((s.helloKept p h).runTo e).completeHello p h) := by
  have hl := s.link_helloKept p h
  rw [exec_helloRx_hello h hst, State.helloCheck_complete (by rw [hl]) (by rw [hl]; exact (LinkSt.swIn_sentAck ..).trans hs)
    (by rw [hl]; exact (LinkSt.swIn_state ..).trans hst) (by rw [hl]; exact (Bool.or_eq_true _ _).mpr hg)]

theorem exec_helloRx_incomplete {s : State} {p : Fin 1024} (h : Hello) (hst : (s.link p).state = .hello)
    (hn : ¬ (((s.link p).gotAck = true ∨ h.ack = true) ∧ (s.link p).sentAck.isSome = true)) :
    exec (.helloRx p h) s = .next (s.helloKept p h) := by
  have hl := s.link_helloKept p h
  rw [exec_helloRx_hello h hst, State.helloCheck_incomplete]
  rw [hl]
  by_cases hs : (s.link p).sentAck = none
  · exact .inr (.inl ((LinkSt.swIn_sentAck ..).trans hs))
  · have hg : ¬ ((s.link p).gotAck = true ∨ h.ack = true) := fun hg => hn ⟨hg, Option.isSome_iff_ne_none.mpr hs⟩
    refine .inr (.inr (.inr ?_))
    simpa only [Bool.or_eq_false_iff, Bool.not_eq_true, not_or] using hg

theorem exec_helloRx_lock {s : State} {p : Fin 1024} (h : Hello) (hst : (s.link p).state = .lock) (hl : (s.link p).locked = true) :
    exec (.helloRx p h) s = .next (s.modLink p fun l => { l with kept := some h, gotAck := h.ack }) := by
  simp only [exec, execHelloRx, State.helloIn, hst, hl, if_true]

theorem exec_helloRx_up {s : State} {p : Fin 1024} (h : Hello) (hst : (s.link p).state = .up) (hd : s.helloDiffers p h = false)
    (hsl : h.sleep = false) : exec (.helloRx p h) s = .next (s.modLink p fun l => { l with heardAt := s.time.now }) := by
  simp only [exec, execHelloRx, State.helloIn, hst, hd, hsl, Bool.false_eq_true, if_false]

theorem exec_helloTimeout {s : State} {p : Fin 1024} (hst : (s.link p).state = .hello) : exec (.helloTimeout p) s =
    .next (((s.runTo ((s.link p).since + bitsOf (s.link p).trainCfg 23 16 * wMs)).countP p R.PORT_HELLO_TIMEOUTS).enterDetect p) := if_pos hst

/-- Settles O35: HELLOs that leave, that complete the hello, that are kept, and the timeout. -/
theorem helloAgreesOnTheLink : Obligations.HelloAgreesOnTheLink := by
  unfold Obligations.HelloAgreesOnTheLink
  refine ⟨?due, ?switch, ?complete, fun s p h => ⟨fun hst hn => ?kept, fun hst hl => ?lock, fun hst hd hsl => ?up⟩, ?timeout⟩
  case due =>
    intro s p l u m hs hstart
    obtain ⟨⟨fin, hl⟩, hothers, hsent⟩ := hello_sent hstart
    refine ⟨_, exec_helloTx_due u rfl hs hl, hsent, hothers, ?_⟩
    rw [hl]
    exact LinkSt.helloLeft_due ..
  case switch =>
    intro s p l hst hs hstart
    obtain ⟨⟨fin, hl⟩, hothers, hsent⟩ := hello_sent hstart
    refine ⟨_, exec_helloTx_switch hst hs, hsent, hothers, ?_⟩
    rw [hl]
    have hs' : (s.link p).switched = false := hs
    simp only [LinkSt.helloLeft, hs']
    exact ⟨rfl, rfl⟩
  case complete =>
    intro s p h e l u m used hst hg hs
    obtain ⟨st, hend⟩ := helloEnded_completeHello u p h
    refine ⟨u.completeHello p h, exec_helloRx_complete h hst hg hs, hend.word, hend.used, hend.partner, fun hb => ?_,
      fun hb he => ?_, fun hb he hn => ?_, fun hb he hn => (helloEnded_partner hb he hn).state⟩
    · rw [completeHello_noLink u p h hb]
      exact ⟨(helloEnded_failed 1).state, helloFail_enterFailed _ 1⟩
    · rw [completeHello_etherType u p h hb he]
      exact ⟨(helloEnded_failed 2).state, helloFail_enterFailed _ 2⟩
    · obtain ⟨hfail, hrest⟩ := helloEnded_sameNode hb he hn
      exact ⟨hfail.state, hrest⟩
  case kept => exact ⟨_, exec_helloRx_incomplete h hst hn, s.link_helloKept p h, s.onlyPort_modLink ..⟩
  case lock => exact ⟨_, exec_helloRx_lock h hst hl, s.link_modLink .., s.onlyPort_modLink ..⟩
  case up => exact ⟨_, exec_helloRx_up h hst hd hsl, s.link_modLink .., s.onlyPort_modLink ..⟩
  case timeout =>
    intro s p hst u
    obtain ⟨v, hv⟩ : ∃ v, v = u.countP p R.PORT_HELLO_TIMEOUTS := ⟨_, rfl⟩
    have hup : v.isUp p = false := by
      refine State.isUp_eq_false ?_
      rw [hv, State.link_congr (State.countP_ports ..), (s.runTo_transmits _).state p, hst]
      decide
    obtain ⟨-, honly⟩ := State.enterDetect_sets hup
    refine ⟨v.enterDetect p, hv ▸ exec_helloTimeout hst, ?_, ?_, ?_, ?_⟩
    · rw [honly.time, hv, State.countP_time, State.runTo_now]
    · rw [State.link_enterDetect hup]
    · exact (otherPorts_of_ports (hv ▸ State.countP_ports ..) p).trans honly.others
    · have hcount : Counted .port p R.PORT_HELLO_TIMEOUTS u v := hv ▸ counted_count .port p R.PORT_HELLO_TIMEOUTS u
      exact counted_of_find hcount (by rw [honly.regs])

end Sys2Proof.Machine
end

section
/-! SUPPORT. Reports leave the links of ports alone, and the switch to LL-FEC: the proof of O36 (R125, R130, R311 to R313). -/

namespace Sys2Proof.Machine

open Sys2Proof

/-! A report on its way changes no link. -/

theorem State.link_modTxq (s : State) (p q : Nat) (f : PortSt → List TxFrame) :
    (s.modPort p fun x => { x with txq := f x }).link q = s.link q := by
  rw [State.link, State.link]
  by_cases hq : q = p
  · rw [hq, State.port_modPort_same]
  · rw [State.port_modPort_other _ _ _ _ hq]

theorem State.link_purgeHeads (s : State) (p q : Nat) : (s.purgeHeads p).link q = s.link q := by
  unfold State.purgeHeads
  dsimp only
  rw [State.link_modTxq]
  refine (State.foldl_fst_keeps (fun u => u.link q) _ _ (fun u fr => ?_) _).trans (State.link_modTxq s p q fun _ => [])
  split
  · rfl
  · split
    · exact State.link_congr (State.dropFrame_ports ..) q
    · rfl

theorem State.link_arrived (s : State) (p q : Nat) : (s.arrived p).link q = s.link q := by
  obtain ⟨⟨l, hl⟩, hothers⟩ := (s.purge p).onlyLostWindows_countEaten p
  have heaten : (s.arrived p).link q = (s.purge p).link q := by
    rw [State.link, State.link]
    by_cases hq : q = p
    · rw [hq, State.arrived, hl]
    · rw [State.arrived, hothers q hq]
  rw [heaten, State.purge, State.link_congr (State.pace_ports _), State.link_congr (State.departs_ports _), State.link_purgeHeads]

theorem State.link_foldl {α : Type} (f : State → α → State) (q : Nat) (hf : ∀ u x, (f u x).link q = u.link q) (l : List α) (s : State) :
    (l.foldl f s).link q = s.link q := by
  induction l generalizing s with
  | nil => rfl
  | cons x l ih => exact (ih _).trans (hf s x)

theorem State.link_ite {s t u : State} {c : Prop} [Decidable c] {q : Nat} (ht : t.link q = s.link q) (hu : u.link q = s.link q) :
    (if c then t else u).link q = s.link q := by
  split
  · exact ht
  · exact hu

theorem State.link_replicate (s : State) (q handle cls typ : Nat) (tagged : Bool) (h : Hdr) (payload : List Byte) (origin : Nat → Origin)
    (loaded ts : Bool) (needBit : Option Nat) (ports : List Nat) :
    (s.replicate handle cls typ tagged h payload origin loaded ts needBit ports).link q = s.link q := by
  refine (State.link_foldl _ q (fun u x => ?_) _ _).trans (State.link_congr (State.count_ports ..) q)
  refine State.link_ite (State.link_congr (State.countP_ports ..) q) ?_
  rw [State.link_congr (State.countP_ports ..), State.link_congr (State.count_ports ..)]
  exact State.link_modTxq ..

theorem State.faultIn_ports (s : State) (r : FaultReport) : (s.faultIn r).ports = s.ports :=
  show Part.same .ports s _ by simp [Part.same_refl]

theorem State.link_sendReport (s : State) (q : Nat) (r : FaultReport) : (s.sendReport r).link q = s.link q := by
  unfold State.sendReport
  dsimp only
  repeat' split
  · exact (State.link_congr (State.faultIn_ports ..) q).trans (State.link_congr (State.count_ports ..) q)
  · exact (State.link_congr (State.faultIn_ports ..) q).trans (State.link_congr (State.count_ports ..) q)
  · rfl
  · exact State.link_congr (State.count_ports ..) q
  · rw [State.link_congr (State.count_ports ..), State.link_foldl _ q fun u p => u.link_arrived p q]
    exact State.link_replicate ..
  · rw [State.link_congr (State.count_ports ..), State.link_foldl _ q fun u p => u.link_arrived p q]
    exact State.link_replicate ..

theorem State.link_limit (s : State) (q node port code detail : Nat) : (s.limit node port code detail).link q = s.link q := by
  have hfault : ∀ (u : State) (f : FaultSt → FaultSt), (u.modFault f).link q = u.link q := fun _ _ => rfl
  unfold State.limit
  dsimp only
  repeat' split
  · exact State.link_congr (State.count_ports ..) q
  · exact (State.link_sendReport ..).trans (hfault ..)
  · exact (State.link_sendReport ..).trans (hfault ..)
  · rfl

theorem State.link_report (s : State) (q code : Nat) (subject : Option (Nat × Nat)) (detail : Nat) :
    (s.report code subject detail).link q = s.link q := by
  unfold State.report
  repeat' split
  · exact State.link_congr (State.count_ports ..) q
  · exact State.link_limit ..
  · rfl

theorem State.link_raisePort (s : State) (cls p detail code q : Nat) : (s.raisePort cls p detail code).link q = s.link q :=
  State.link_report (s.raise cls p detail) ..

/-! The switch to LL-FEC (R125, R130). -/

/-- The transmitter has changed to LL-FEC. -/
def State.llStarted (s : State) (p : Nat) : State := s.modLink p fun l => { l with txLL := true, fecLL := true, llAt := s.time.now }

/-- No codeword has been sent yet. -/
theorem State.markerCount_llStarted (s : State) (p : Nat) : (s.llStarted p).markerCount p = 0 := by
  have hat : ((s.llStarted p).link p).llAt = s.time.now := by rw [State.llStarted, State.link_modLink]
  have hnow : (s.llStarted p).time.now = s.time.now := rfl
  rw [State.markerCount, hat, hnow, Nat.sub_self, Nat.zero_div, Nat.zero_div, Nat.zero_mod]

/-- The change to LL-FEC with its first marker. -/
theorem llStarted_out (u : State) (p : Nat) : let t := (u.llStarted p).out (.llStart p (llMarkerWord ((u.llStarted p).markerCount p)))
    t.link p = { u.link p with txLL := true, fecLL := true, llAt := u.time.now } ∧
    t.outs = u.outs ++ [.llStart p (llEncode (List.replicate 256 0x1E5 ++ [0, 0]))] ∧ OtherPorts p u t := by
  rw [State.markerCount_llStarted]
  refine ⟨?_, rfl, fun q hq => ?_⟩
  · exact (State.link_congr rfl p).trans (u.link_modLink p fun l => { l with txLL := true, fecLL := true, llAt := u.time.now })
  · exact (State.port_congr rfl q).trans (u.otherPorts_modLink p (fun l => { l with txLL := true, fecLL := true, llAt := u.time.now }) q hq)

/-- The failed switch: fallen back and silent. -/
def State.llFailed (s : State) (p : Nat) : State :=
  let t := s.countP p R.PORT_LL_SWITCH_FAILS
  t.modLink p fun l => { l with fallback := true, squelched := true, downReason := 10, since := t.time.now }

theorem State.link_llFailed (s : State) (p : Nat) : (s.llFailed p).link p =
    { s.link p with fallback := true, squelched := true, downReason := 10, since := s.time.now } := by
  rw [State.llFailed, State.link_modLink, State.link_congr (State.countP_ports ..), State.countP_time]

theorem State.time_llFailed (s : State) (p : Nat) : (s.llFailed p).time = s.time := State.countP_time ..

section Commands

variable {s : State} {p : Fin 1024}

theorem exec_llSwitchBoundary_tx (hst : (s.link p).state = .switch ∨ (s.link p).state = .up) (hq : (s.link p).squelched = false)
    (hs : (s.link p).switched = true) (ht : (s.link p).txLL = false) (hm : s.pwr.mfg = false) :
    let u := s.runTo ((s.link p).swEnd + 256 * s.wCodeword p)
    exec (.llSwitchBoundary p false) s =
      .next ((u.llStarted p).out (.llStart p (llMarkerWord ((u.llStarted p).markerCount p)))) := by
  have hgo : ((s.link p).state = .switch ∨ (s.link p).state = .up) ∧ (s.link p).switched = true ∧ (!(s.link p).txLL) = true :=
    ⟨hst, hs, by rw [ht]; rfl⟩
  simp only [exec, execLlSwitchBoundary, hq, hm, Bool.false_eq_true, if_false, if_pos hgo]
  rfl

theorem exec_llSwitchBoundary_rx (hst : (s.link p).state = .switch) (hq : (s.link p).squelched = false) (hs : (s.link p).swSeen = true)
    (hr : (s.link p).rxLL = false) (hc : (s.link p).swCw + 256 ≤ (s.link p).cwCount) :
    exec (.llSwitchBoundary p true) s = .next (s.modLink p fun l =>
      { l with rxLL := true, llCw := 0, llMark := none, llLock := false, llMiss := 0, cwCount := 0, uncorr := [] }) := by
  have hgo : (s.link p).state = .switch ∧ (s.link p).swSeen = true ∧ (!(s.link p).rxLL) = true ∧
      (s.link p).swCw + 256 ≤ (s.link p).cwCount := ⟨hst, hs, by rw [hr]; rfl, hc⟩
  simp only [exec, execLlSwitchBoundary, hq, Bool.false_eq_true, if_false, if_true, if_pos hgo]

theorem exec_llSwitchTimeout (hst : (s.link p).state = .switch) (hq : (s.link p).squelched = false) (hs : (s.link p).switched = true) :
    exec (.llSwitchTimeout p) s =
      .next ((((s.runTo ((s.link p).since + 500 * wUs)).llFailed p).raisePort 0x011 p 0 0x0004).out (.squelch p)) := by
  have hgo : (s.link p).state = .switch ∧ (s.link p).switched = true ∧ (!(s.link p).squelched) = true := ⟨hst, hs, by rw [hq]; rfl⟩
  exact if_pos hgo

theorem exec_squelchEnd (hq : (s.link p).squelched = true) :
    exec (.squelchEnd p) s = .next ((s.runTo ((s.link p).since + 10 * wUs)).enterDetect p) := if_pos hq

end Commands

/-- Settles O36: the two changes to LL-FEC, the failed switch, and the end of its silence. -/
theorem lowLatencySwitchOrFallsBack : Obligations.LowLatencySwitchOrFallsBack := by
  unfold Obligations.LowLatencySwitchOrFallsBack
  intro s p l
  refine ⟨fun hst hq hs ht hm => ?tx, fun hst hq hs hr hc => ?rx, fun hst hq hs => ?fails, fun hq hst => ?quiet⟩
  case tx =>
    intro u
    exact ⟨_, exec_llSwitchBoundary_tx hst hq hs ht hm, llStarted_out u p⟩
  case rx => exact ⟨_, exec_llSwitchBoundary_rx hst hq hs hr hc, s.link_modLink .., rfl, s.otherPorts_modLink _ _⟩
  case fails =>
    intro u
    obtain ⟨v, hv⟩ : ∃ v, v = u.llFailed p := ⟨_, rfl⟩
    obtain ⟨w, hw⟩ : ∃ w, w = v.raisePort 0x011 p 0 0x0004 := ⟨_, rfl⟩
    have htime : w.time = u.time := by
      rw [hw, State.raisePort_time, hv, State.time_llFailed]
    have hlink : w.link p = { u.link p with fallback := true, squelched := true, downReason := 10, since := u.time.now } := by
      rw [hw, State.link_raisePort, hv, State.link_llFailed]
    have hcount : Counted .port p R.PORT_LL_SWITCH_FAILS u v := hv ▸ counted_count .port p R.PORT_LL_SWITCH_FAILS u
    have houts : v.outs = u.outs := hv ▸ State.countP_outs ..
    obtain ⟨o, ho⟩ : u.outs <+: w.outs := houts ▸ hw ▸ (v.raisePort_onlyTransmits 0x011 p 0 0x0004).outs
    refine ⟨w.out (.squelch p), hw ▸ hv ▸ exec_llSwitchTimeout hst hq hs, ?_, ⟨o, ?_⟩, ?_, ?_, ?_⟩
    · exact (congrArg TimeSt.now htime).trans (State.runTo_now ..)
    · exact congrArg (· ++ [Out.squelch p]) ho.symm
    · refine hlink.trans ?_
      rw [State.out, htime]
    · exact hw ▸ counted_raisePort (by decide) (by decide) hcount ..
    · exact hw ▸ State.alarmed_raisePort v 0x011 p 0 0x0004 ⟨by decide, by decide⟩
  case quiet =>
    intro u
    have hup : u.isUp p = false := by
      refine State.isUp_eq_false ?_
      rw [(s.runTo_transmits _).state p, hst]
      decide
    obtain ⟨-, honly⟩ := State.enterDetect_sets hup
    refine ⟨u.enterDetect p, exec_squelchEnd hq, ?_, ?_, ?_, ?_, ?_, honly.others⟩
    · rw [honly.time, State.runTo_now]
    all_goals simp only [State.link_enterDetect hup, LinkSt.fresh, State.latchCfg]

end Sys2Proof.Machine
end

section
/-! SUPPORT. A port leaves UP: what it drops, and the reason it records (R132); codewords counted (R126): the proof of O37. -/

namespace Sys2Proof.Machine

open Sys2Proof

/-! What a port drops as it leaves UP (R132). -/

/-- A port that has dropped its claims, its delay history, its pauses and its partial frame, with a link given but for what a HELLO that
leaves sets. -/
structure PortSt.LeftUp (q : PortSt) (l : LinkSt) : Prop where
  claims : q.claims = []
  mine : q.mine = []
  meas : q.meas = []
  delayOk : q.delayOk = false
  spans : q.spans = []
  reasm : q.reasm = none
  link : q.link = l.helloOf q.link

theorem PortSt.LeftUp.transmits {s t : State} {p : Nat} {l : LinkSt} (h : (s.port p).LeftUp l) (ht : OnlyTransmits s t) :
    (t.port p).LeftUp l where
  claims := by rw [ht.port p]; exact h.claims
  mine := List.eq_nil_of_length_eq_zero ((ht.mine p).trans (congrArg List.length h.mine))
  meas := by rw [ht.port p]; exact h.meas
  delayOk := by rw [ht.port p]; exact h.delayOk
  spans := by rw [ht.port p]; exact h.spans
  reasm := by rw [ht.port p]; exact h.reasm
  link := by
    have hlink : (t.port p).link = (s.port p).link.helloOf (t.port p).link := congrArg PortSt.link (ht.port p)
    rw [hlink, h.link]
    rfl

theorem State.port_abortReasm (s : State) (p : Nat) : (s.abortReasm p).port p = { s.port p with reasm := none } := by
  have htrace : ∀ (u : State) (itp : Bool) (f : Frame) (n k : Nat), (u.traceRx p itp f n k).ports = u.ports := fun u itp f n k =>
    show Part.same .ports u _ by simp [Part.same_refl]
  unfold State.abortReasm
  split
  · rw [State.port_congr (htrace ..), State.port_countP, State.port_modPort_same]
  next hnone => rw [← hnone]

theorem State.port_freeClaims (s : State) (p : Nat) : (s.freeClaims p).port p = { s.port p with claims := [], mine := [] } :=
  (State.port_congr (State.countN_ports ..) p).trans (State.port_modPort_same ..)

theorem State.port_refreshActive (s : State) (p : Nat) : ∃ a, (s.refreshActive p).port p = { s.port p with txActive := a } := by
  unfold State.refreshActive
  dsimp only
  split
  · exact ⟨(s.port p).txActive, rfl⟩
  · exact ⟨_, State.port_modPort_same s p fun q => { q with txActive := s.preActive p }⟩

/-- What leaving UP sets of a port, once its partial frame and its claims are gone. -/
def PortSt.quit (q : PortSt) (st : LinkState) : PortSt :=
  { q.dropDelay.dropOwn with
    pauseEff := [], spans := [], lostWin := [], dropNo := none
    verify := if q.verify = .failed then .failed else .disabled
    link := { q.link with state := st, preWatch := false } }

theorem State.leaveUp_eq (s : State) (p : Nat) (st : LinkState) : s.leaveUp p st =
    (((((((s.endWire p).abandon p).abortReasm p).freeClaims p).modPort p fun q => q.quit st).refreshActive p).purge p) := rfl

theorem State.leftUp_leaveUp (s : State) (p : Nat) (st : LinkState) :
    ((s.leaveUp p st).port p).LeftUp { s.link p with state := st, preWatch := false } := by
  obtain ⟨x, hx⟩ : ∃ x, x = (s.endWire p).abandon p := ⟨_, rfl⟩
  have hlink : x.link p = (s.link p).helloOf (x.link p) := by
    rw [hx]
    exact (((OnlyTransmits.refl s).endWire p).abandon p).link p
  obtain ⟨y, hy⟩ : ∃ y, y = ((x.abortReasm p).freeClaims p).modPort p fun q => q.quit st := ⟨_, rfl⟩
  have hport : y.port p = PortSt.quit { { x.port p with reasm := none } with claims := [], mine := [] } st := by
    rw [hy, State.port_modPort_same, State.port_freeClaims, State.port_abortReasm]
  obtain ⟨a, ha⟩ := y.port_refreshActive p
  have hleft : ((y.refreshActive p).port p).LeftUp { s.link p with state := st, preWatch := false } := by
    rw [ha, hport]
    refine ⟨rfl, rfl, rfl, rfl, rfl, rfl, ?_⟩
    exact congrArg (fun l : LinkSt => { l with state := st, preWatch := false }) hlink
  rw [State.leaveUp_eq, ← hx, ← hy]
  exact hleft.transmits ((OnlyTransmits.refl _).purge p)

/-! Down, with a reason (R132). -/

theorem State.link_recordDown (s : State) (p reason : Nat) : (s.recordDown p reason).link p = { s.link p with downReason := reason } := by
  obtain ⟨v, hv⟩ : ∃ v, v = ((s.modLink p fun l => { l with downReason := reason }).countP p R.PORT_LINK_DOWNS).cause .port p 17 :=
    ⟨_, rfl⟩
  have hlink : v.link p = { s.link p with downReason := reason } := by
    rw [hv]
    exact (State.link_congr (State.countP_ports ..) p).trans (State.link_modLink ..)
  unfold State.recordDown
  dsimp only
  rw [← hv]
  have halarm : ∀ d, (if reason = 9 then v else v.raisePort 0x012 p d 0x0001).link p = v.link p := fun d =>
    State.link_ite rfl (State.link_raisePort ..)
  exact Eq.trans (State.link_ite ((State.link_report ..).trans (halarm reason)) (halarm reason)) hlink

/-- A port in UP that enters DETECT. -/
theorem State.enterDetect_up {s : State} {p : Nat} (h : s.isUp p = true) : s.enterDetect p =
    (s.leaveUp p .detect).modPort p ((s.leaveUp p .detect).detecting p) := by
  unfold State.enterDetect
  rw [if_pos h]
  rfl

theorem wentDown_goDown {s : State} {p : Nat} (h : s.isUp p = true) (reason : Nat) :
    WentDown p reason (s.goDown p reason) ∧ ((s.goDown p reason).link p).fallback = (s.link p).fallback := by
  obtain ⟨v, hv⟩ : ∃ v, v = s.recordDown p reason := ⟨_, rfl⟩
  have hlink : v.link p = { s.link p with downReason := reason } := hv ▸ s.link_recordDown p reason
  have hup : v.isUp p = true := by
    have hstate : (v.link p).state = (s.link p).state := by rw [hlink]
    exact decide_eq_true (hstate.trans (State.state_of_isUp h))
  have hleft := v.leftUp_leaveUp p .detect
  obtain ⟨w, hw⟩ : ∃ w, w = v.leaveUp p .detect := ⟨_, rfl⟩
  rw [← hw, hlink] at hleft
  have hport : (s.goDown p reason).port p = w.detecting p (w.port p) := by
    rw [State.goDown, ← hv, State.enterDetect_up hup, State.port_modPort_same, hw]
  have hdown : (w.port p).link.downReason = reason ∧ (w.port p).link.fallback = (s.link p).fallback := by
    rw [hleft.link]
    exact ⟨rfl, rfl⟩
  rw [State.link]
  simp only [WentDown, hport]
  exact ⟨⟨rfl, hdown.1, hleft.claims, hleft.mine, rfl, rfl, hleft.spans, hleft.reasm⟩, hdown.2⟩

theorem State.goDown_time (s : State) (p reason : Nat) : (s.goDown p reason).time = s.time :=
  show Part.same .time s _ by simp [Part.same_refl]

theorem State.regWrite_linkCtrl {s : State} {p : Nat} {f : State → State} (h : s.opens .port R.PORT_LINK_CTRL 0) :
    s.regWrite .port p R.PORT_LINK_CTRL f = f s :=
  State.regWrite_opens (r := ⟨.port, R.PORT_LINK_CTRL, 1, 0, 4, .wo, 0x7, 0⟩) (j := 0) rfl h

section Downs

variable {s : State} {p : Fin 1024} (hup : s.isUp p = true)
include hup

theorem exec_signalLoss_up : exec (.signalLoss p) s = .next (s.goDown p 1) := by
  simp only [exec, execSignalLoss, State.state_of_isUp hup]

/-- A codeword has an effect in UP. -/
theorem State.codewords_on : (!decide (((s.link p).state = .lock ∧ (s.link p).locked = true) ∨ (s.link p).state = .hello ∨
    (s.link p).state = .switch ∨ (s.link p).state = .up)) = false := by
  rw [decide_eq_true (.inr (.inr (.inr (State.state_of_isUp hup))))]
  rfl

theorem exec_lockLost_up (signal : Bool) :
    exec (.codewordRx p .lockLost signal) s = .next (s.goDown p (if signal then 2 else 1)) := by
  simp only [exec, execCodewordRx, State.codewords_on hup, Bool.false_eq_true, if_false]
  rw [State.lockLost, State.state_of_isUp hup]

theorem exec_codewordRx_std_up (hrx : (s.link p).rxLL = false) (n : Nat) (uncorr signal : Bool) :
    exec (.codewordRx p (.std n uncorr) signal) s = .next ((s.cwIn p n uncorr).hiUncorr p) := by
  simp only [exec, execCodewordRx, State.codewords_on hup, hrx, Bool.false_eq_true, if_false, State.stdIn]

theorem exec_keepaliveTimeout_up : exec (.keepaliveTimeout p) s =
    .next ((s.runTo ((s.link p).heardAt + 4 * bitsOf (s.link p).helloCfg 15 0 * wUs)).goDown p 4) := if_pos (State.state_of_isUp hup)

theorem exec_helloRx_differs (h : Hello) (hd : s.helloDiffers p h = true) : exec (.helloRx p h) s = .next (s.goDown p 5) := by
  simp only [exec, execHelloRx, State.helloIn, State.state_of_isUp hup, hd, if_true]

theorem exec_linkRetrain_up (ho : s.opens .port R.PORT_LINK_CTRL 0) :
    exec (.linkRetrain p) s = .next ((s.modLink p fun l => { l with fallback := false }).goDown p 6) := by
  have hst := State.state_of_isUp hup
  refine congrArg Host.Outcome.next ((State.regWrite_linkCtrl ho).trans ?_)
  simp only [State.retrain, hst, reduceCtorEq, or_self, if_false, if_true]

end Downs

/-! Codewords (R122, R126). -/

/-- A received codeword of 544 symbols that decodes. -/
theorem exec_codewordRx_decoded {s : State} {p : Fin 1024} {sy x : List Nat} {n : Nat} (signal : Bool) (h : stdDecode sy = some (x, n)) :
    exec (.codewordRx p (.rs sy) signal) s = exec (.codewordRx p (.std n false) signal) s := by
  simp only [exec, execCodewordRx, h]

theorem exec_codewordRx_undecoded {s : State} {p : Fin 1024} {sy : List Nat} (signal : Bool) (h : stdDecode sy = none) :
    exec (.codewordRx p (.rs sy) signal) s = exec (.codewordRx p (.std 0 true) signal) s := by
  simp only [exec, execCodewordRx, h]

/-- The counters of a codeword. -/
def State.cwCounted (s : State) (p corrected : Nat) (uncorr : Bool) : State :=
  let s1 := s.countP p R.PORT_FEC_CW
  if uncorr then s1.countP p R.PORT_FEC_CW_UNCORR
  else if 0 < corrected then (s1.countP p R.PORT_FEC_CW_CORRECTED).countN .port p R.PORT_FEC_SYM_CORRECTED corrected
  else s1

theorem State.cwCounted_ports (s : State) (p corrected : Nat) (uncorr : Bool) : (s.cwCounted p corrected uncorr).ports = s.ports := by
  unfold State.cwCounted
  dsimp only
  repeat' split
  · rw [State.countP_ports, State.countP_ports]
  · rw [State.countN_ports, State.countP_ports, State.countP_ports]
  · rw [State.countP_ports]

/-- What a codeword sets in a link. -/
def LinkSt.cwIn (l : LinkSt) (corrected : Nat) (uncorr : Bool) : LinkSt :=
  { l with cwCount := l.cwCount + 1
           uncorr := (if uncorr then [l.cwCount] else []) ++ l.uncorr.filter fun n => decide (l.cwCount < n + 8192)
           winBad := l.winBad || (l.state == .lock && (uncorr || decide (3 < corrected))) }

theorem State.cwIn_eq (s : State) (p corrected : Nat) (uncorr : Bool) :
    s.cwIn p corrected uncorr = (s.cwCounted p corrected uncorr).modLink p fun l => l.cwIn corrected uncorr := rfl

theorem State.link_cwIn (s : State) (p corrected : Nat) (uncorr : Bool) :
    (s.cwIn p corrected uncorr).link p = (s.link p).cwIn corrected uncorr := by
  rw [State.cwIn_eq, State.link_modLink, State.link_congr (State.cwCounted_ports ..)]

theorem State.otherPorts_cwIn (s : State) (p corrected : Nat) (uncorr : Bool) : OtherPorts p s (s.cwIn p corrected uncorr) :=
  (otherPorts_of_ports (State.cwCounted_ports ..) p).trans (State.otherPorts_modLink _ _ _)

theorem portReg_ne_same (p : Nat) {x y : Nat} (h : x ≠ y) : pageBase .port p + x ≠ pageBase .port p + y :=
  fun heq => h (Nat.add_left_cancel heq)

theorem counted_cwIn (s : State) (p n : Nat) : Counted .port p R.PORT_FEC_CW s (s.cwIn p n false) ∧
    (0 < n → Counted .port p R.PORT_FEC_CW_CORRECTED s (s.cwIn p n false)) := by
  obtain ⟨u, hu⟩ : ∃ u, u = s.countP p R.PORT_FEC_CW := ⟨_, rfl⟩
  have hcw : Counted .port p R.PORT_FEC_CW s u := hu ▸ counted_count .port p R.PORT_FEC_CW s
  by_cases hn : 0 < n
  · have hregs : (s.cwIn p n false).regs =
        ((u.countP p R.PORT_FEC_CW_CORRECTED).countN .port p R.PORT_FEC_SYM_CORRECTED n).regs := by
      rw [State.cwIn_eq, State.modLink, State.modPort_regs, State.cwCounted, hu]
      simp only [Bool.false_eq_true, if_false, if_pos hn]
    have hsym : ∀ x, x ≠ R.PORT_FEC_SYM_CORRECTED → smFind (s.cwIn p n false).regs (pageBase .port p + x) =
        smFind (u.countP p R.PORT_FEC_CW_CORRECTED).regs (pageBase .port p + x) := fun x hx => by
      rw [hregs]
      exact State.find_countN_other _ _ _ _ _ _ (portReg_ne_same p hx)
    have hcorr : Counted .port p R.PORT_FEC_CW_CORRECTED u (s.cwIn p n false) :=
      counted_of_find (counted_count ..) (hsym _ (by decide))
    refine ⟨counted_of_find hcw ((hsym _ (by decide)).trans ?_), fun _ => counted_from hcorr ?_⟩
    · exact State.find_count_other _ _ _ _ _ (portReg_ne_same p (by decide))
    · rw [hu]
      exact State.find_count_other _ _ _ _ _ (portReg_ne_same p (by decide))
  · refine ⟨counted_of_find hcw ?_, fun h => absurd h hn⟩
    rw [State.cwIn_eq, State.modLink, State.modPort_regs, State.cwCounted, hu]
    simp only [Bool.false_eq_true, if_false, if_neg hn]

/-- Few of the last codewords were uncorrectable: the port stays UP. -/
theorem State.hiUncorr_few {s : State} {p : Nat} (h : (s.link p).uncorr.length ≤ 8) : s.hiUncorr p = s :=
  if_neg fun ⟨_, hmany⟩ => by omega

theorem State.hiUncorr_many {s : State} {p : Nat} (hup : s.isUp p = true) (h : 8 < (s.link p).uncorr.length) :
    s.hiUncorr p = s.goDown p 3 := if_pos ⟨hup, h⟩

theorem State.isUp_cwIn {s : State} {p : Nat} (corrected : Nat) (uncorr : Bool) (h : s.isUp p = true) :
    (s.cwIn p corrected uncorr).isUp p = true := by
  have hstate : ((s.cwIn p corrected uncorr).link p).state = (s.link p).state := by
    rw [State.link_cwIn]
    rfl
  exact decide_eq_true (hstate.trans (State.state_of_isUp h))

theorem LinkSt.cwIn_sound_length (l : LinkSt) (n : Nat) : (l.cwIn n false).uncorr.length ≤ l.uncorr.length := List.length_filter_le _ _

theorem LinkSt.cwIn_uncorr_length (l : LinkSt) (n : Nat) (h : ∀ m, m ∈ l.uncorr → l.cwCount < m + 8192) :
    (l.cwIn n true).uncorr.length = l.uncorr.length + 1 := by
  have hall : l.uncorr.filter (fun m => decide (l.cwCount < m + 8192)) = l.uncorr :=
    List.filter_eq_self.2 fun m hm => decide_eq_true (h m hm)
  simp only [LinkSt.cwIn, if_true, hall, List.singleton_append, List.length_cons]

/-- Settles O37: the reasons of a port that goes down, codewords counted, and a signal lost in HELLO. -/
theorem linkGoesDownWithItsReason : Obligations.LinkGoesDownWithItsReason := by
  unfold Obligations.LinkGoesDownWithItsReason
  refine ⟨fun s p hup => ⟨?signal, ?lock, ?noSignal, ?silent, fun h hd => ?differs, fun ho => ?retrain⟩, fun s p sy sig => ?decoded,
    fun s p n sig hup hrx hfew => ?sound, fun s p sig hup hrx hlen hrecent => ?uncorrectable, fun s p hst => ?hello⟩
  case signal => exact ⟨_, exec_signalLoss_up hup, (wentDown_goDown hup 1).1⟩
  case lock => exact ⟨_, exec_lockLost_up hup true, (wentDown_goDown hup 2).1⟩
  case noSignal => exact ⟨_, exec_lockLost_up hup false, (wentDown_goDown hup 1).1⟩
  case silent =>
    have hup' : ∀ w, (s.runTo w).isUp p = true := fun w => ((s.runTo_transmits w).isUp p).trans hup
    exact ⟨_, exec_keepaliveTimeout_up hup, (wentDown_goDown (hup' _) 4).1, by rw [State.goDown_time, State.runTo_now]⟩
  case differs => exact ⟨_, exec_helloRx_differs hup h hd, (wentDown_goDown hup 5).1⟩
  case retrain =>
    obtain ⟨u, hu⟩ : ∃ u, u = s.modLink p fun l => { l with fallback := false } := ⟨_, rfl⟩
    have hlink : u.link p = { s.link p with fallback := false } := hu ▸ State.link_modLink ..
    have hup' : u.isUp p = true := by
      have hstate : (u.link p).state = (s.link p).state := by rw [hlink]
      exact decide_eq_true (hstate.trans (State.state_of_isUp hup))
    obtain ⟨hdown, hfall⟩ := wentDown_goDown hup' 6
    exact ⟨_, hu ▸ exec_linkRetrain_up hup ho, hdown, by rw [hfall, hlink]⟩
  case decoded => exact ⟨fun _ _ hd => exec_codewordRx_decoded sig hd, fun hd => exec_codewordRx_undecoded sig hd⟩
  case sound =>
    have hstay : (s.cwIn p n false).hiUncorr p = s.cwIn p n false := by
      refine State.hiUncorr_few ?_
      rw [State.link_cwIn]
      exact (LinkSt.cwIn_sound_length ..).trans hfew
    obtain ⟨hcount, hcorrected⟩ := counted_cwIn s p n
    refine ⟨s.cwIn p n false, (exec_codewordRx_std_up hup hrx n false sig).trans (congrArg _ hstay),
      State.state_of_isUp (State.isUp_cwIn n false hup), ?_, s.otherPorts_cwIn p n false, hcount, hcorrected⟩
    rw [State.link_cwIn]
    rfl
  case uncorrectable =>
    have hmany : 8 < ((s.cwIn p 0 true).link p).uncorr.length := by
      rw [State.link_cwIn, LinkSt.cwIn_uncorr_length _ _ hrecent]
      omega
    have hup' := State.isUp_cwIn 0 true hup
    exact ⟨_, (exec_codewordRx_std_up hup hrx 0 true sig).trans (congrArg _ (State.hiUncorr_many hup' hmany)), (wentDown_goDown hup' 3).1⟩
  case hello =>
    have hup : s.isUp p = false := State.isUp_eq_false (by rw [hst]; decide)
    obtain ⟨-, honly⟩ := State.enterDetect_sets hup
    refine ⟨s.enterDetect p, ?_, ?_, ?_, honly.others⟩
    · simp only [exec, execSignalLoss, hst]
    · rw [State.link_enterDetect hup]
    · rw [State.link_enterDetect hup]
      rfl

end Sys2Proof.Machine
end

section
/-! SUPPORT. Ports that sleep and wake: the proof of O38 (R141 to R144). -/

namespace Sys2Proof.Machine

open Sys2Proof

/-! SLEEP (R141). -/

section Sleep

variable {s : State} {p : Fin 1024} (ho : s.opens .port R.PORT_LINK_CTRL 0)
include ho

theorem exec_linkSleep : exec (.linkSleep p) s = .next (s.linkSleep p) := congrArg Host.Outcome.next (State.regWrite_linkCtrl ho)

theorem exec_linkSleep_notUp (hst : (s.link p).state ≠ .up) :
    exec (.linkSleep p) s = .next (s.err .port p 0x0161 (s.link p).state.code R.PORT_LINK_CTRL) :=
  (exec_linkSleep ho).trans (congrArg _ (if_pos hst))

theorem exec_linkSleep_notAgreed (hst : (s.link p).state = .up) (hb : s.linkBit p 4 = false) :
    exec (.linkSleep p) s = .next (s.err .port p 0x0160 0 R.PORT_LINK_CTRL) := by
  rw [exec_linkSleep ho, State.linkSleep, if_neg (not_not_intro hst), if_pos (by rw [hb]; rfl)]

theorem exec_linkSleep_sends (hst : (s.link p).state = .up) (hb : s.linkBit p 4 = true) (hs : (s.link p).sleeping = false) :
    exec (.linkSleep p) s =
      .next (((s.modLink p fun l => { l with sleeping := true }).modPort p PortSt.dropOwn).sendHello p false true) := by
  rw [exec_linkSleep ho, State.linkSleep, if_neg (not_not_intro hst), if_neg (by rw [hb]; decide), if_neg (by rw [hs]; decide)]

theorem exec_linkWake : exec (.linkWake p) s = .next (s.linkWake p) := congrArg Host.Outcome.next (State.regWrite_linkCtrl ho)

theorem exec_linkWake_awake (hst : (s.link p).state ≠ .sleep) :
    exec (.linkWake p) s = .next (s.err .port p 0x0161 (s.link p).state.code R.PORT_LINK_CTRL) :=
  (exec_linkWake ho).trans (congrArg _ (if_pos hst))

theorem exec_linkWake_noTarget (hst : (s.link p).state = .sleep) (ht : s.wakeTarget p = none) :
    exec (.linkWake p) s = .next (s.err .port p 0x0162 0 R.PORT_LINK_CTRL) := by
  rw [exec_linkWake ho, State.linkWake, if_neg (not_not_intro hst), ht]

theorem exec_linkWake_wakes {n : Nat} (hst : (s.link p).state = .sleep) (ht : s.wakeTarget p = some n) (hm : s.pwr.mfg = false) :
    exec (.linkWake p) s = .next ((s.enterWaking p).out (.wakeBurst p (wakeWord n s.nodeId))) := by
  rw [exec_linkWake ho, State.linkWake, if_neg (not_not_intro hst), ht, hm]
  rfl

end Sleep

/-- A port that is to sleep: no other frame of its own waits. -/
def State.drowsy (s : State) (p : Nat) : State := (s.modLink p fun l => { l with sleeping := true }).modPort p PortSt.dropOwn

theorem State.link_drowsy (s : State) (p : Nat) : (s.drowsy p).link p = { s.link p with sleeping := true } := by
  rw [State.drowsy, State.link, State.port_modPort_same]
  exact State.link_modLink ..

theorem State.otherPorts_drowsy (s : State) (p : Nat) : OtherPorts p s (s.drowsy p) :=
  (State.otherPorts_modLink _ _ _).trans (otherPorts_modPort _ _ _)

theorem Sent.of_outs {p typ : Nat} {payload : List Byte} {s t u : State} (h : Sent p typ payload t u) (ho : t.outs = s.outs) :
    Sent p typ payload s u := by
  obtain ⟨f, hd, houts, hrest⟩ := h
  exact ⟨f, hd, ho ▸ houts, hrest⟩

/-- The SLEEP HELLO that starts at once. -/
theorem sleepHello_sent {s : State} {p : Fin 1024} (h : (s.drowsy p).startsNow p ((s.drowsy p).linkFrame p 6 tHello (.hello false true))) :
    let t := (s.drowsy p).sendHello p false true
    (t.link p).sleeping = true ∧ (t.link p).slept = true ∧ OtherPorts p s t ∧
    Sent p tHello (helloBytes p s.instTag (s.link p).offer (s.link p).etherType (s.link p).kept.isSome false true) s t := by
  obtain ⟨⟨fin, hlink⟩, hothers, hsent⟩ := hello_sent h
  have hd := s.link_drowsy p
  intro t
  have hsleeping : ∀ l : LinkSt, (l.helloLeft false true (s.drowsy p).time.now fin).sleeping = l.sleeping := fun _ => rfl
  have hslept : ∀ l : LinkSt, (l.helloLeft false true (s.drowsy p).time.now fin).slept = true := fun _ => Bool.or_true _
  refine ⟨?_, ?_, (s.otherPorts_drowsy p).trans hothers, Sent.of_outs ?_ rfl⟩
  · rw [hlink, hsleeping, hd]
  · rw [hlink, hslept]
  · rw [hd] at hsent
    exact hsent

/-! Asleep (R141). -/

theorem State.outs_leaveUp (s : State) (p : Nat) (st : LinkState) : s.outs <+: (s.leaveUp p st).outs := by
  obtain ⟨x, hx⟩ : ∃ x, x = (s.endWire p).abandon p := ⟨_, rfl⟩
  have habandon : s.outs <+: x.outs := hx ▸ (((OnlyTransmits.refl s).endWire p).abandon p).outs
  obtain ⟨z, hz⟩ : ∃ z, z = (x.abortReasm p).freeClaims p := ⟨_, rfl⟩
  have hfree : z.outs = x.outs := hz ▸ show Part.same .outs x ((x.abortReasm p).freeClaims p) by simp [Part.same_refl]
  obtain ⟨y, hy⟩ : ∃ y, y = (z.modPort p fun q => q.quit st).refreshActive p := ⟨_, rfl⟩
  have hquit : y.outs = z.outs := by
    have hr : Part.same .outs (z.modPort p fun q => q.quit st) ((z.modPort p fun q => q.quit st).refreshActive p) := by
      simp [Part.same_refl]
    rw [hy]
    exact hr
  rw [State.leaveUp_eq, ← hx, ← hz, ← hy]
  exact ((hquit.trans hfree) ▸ habandon).trans ((OnlyTransmits.refl y).purge p).outs

/-- A port that has left UP falls silent in SLEEP. -/
def State.silenced (w : State) (p reason : Nat) : State :=
  (w.modLink p fun l => { l.fresh with downReason := reason, since := w.time.now }).out (.squelch p)

theorem State.port_silenced (w : State) (p reason : Nat) : (w.silenced p reason).port p =
    { w.port p with link := { (w.link p).fresh with downReason := reason, since := w.time.now } } :=
  (State.port_congr rfl p).trans (w.port_modPort_same p fun q =>
    { q with link := { q.link.fresh with downReason := reason, since := w.time.now } })

theorem State.enterSleep_eq (u : State) (p reason : Nat) :
    u.enterSleep p reason = ((u.finishWire p).leaveUp p .sleep).silenced p reason := rfl

theorem exec_sleepSquelch {s : State} {p : Fin 1024} (hup : s.isUp p = true) (hs : (s.link p).slept = true) :
    exec (.sleepSquelch p) s = .next ((s.runTo ((s.link p).since + wUs)).enterSleep p 7) := if_pos ⟨State.state_of_isUp hup, hs⟩

theorem State.enterSleep_time (s : State) (p reason : Nat) : (s.enterSleep p reason).time = s.time :=
  show Part.same .time s _ by simp [Part.same_refl]

theorem enterSleep_sets (u : State) (p reason : Nat) : let t := u.enterSleep p reason
    (t.link p).state = .sleep ∧ (t.link p).downReason = reason ∧ (t.port p).claims = [] ∧ (t.port p).meas = [] ∧
    ∃ o, t.outs = u.outs ++ o ++ [.squelch p] := by
  intro t
  obtain ⟨w, hw⟩ : ∃ w, w = (u.finishWire p).leaveUp p .sleep := ⟨_, rfl⟩
  have hleft := (u.finishWire p).leftUp_leaveUp p .sleep
  rw [← hw] at hleft
  obtain ⟨o, ho⟩ : u.outs <+: w.outs := hw ▸ ((OnlyTransmits.refl u).finishWire p).outs.trans (State.outs_leaveUp ..)
  have ht : t = w.silenced p reason := hw ▸ u.enterSleep_eq p reason
  have hstate : (w.link p).state = .sleep := by
    rw [State.link, hleft.link]
    rfl
  rw [ht, State.link, State.port_silenced]
  exact ⟨hstate, rfl, hleft.claims, hleft.meas, o, congrArg (· ++ [Out.squelch p]) ho.symm⟩

/-! Wake (R143, R144). -/

theorem State.link_enterWaking (s : State) (p : Nat) : (s.enterWaking p).link p =
    { (s.link p).fresh with state := .waking, since := s.time.now, wakeAt := some s.time.now, eq := (s.link p).coeffs.getD [] } :=
  (State.link_congr (State.countP_ports ..) p).trans (State.link_modLink ..)

theorem State.otherPorts_enterWaking (s : State) (p : Nat) : OtherPorts p s (s.enterWaking p) :=
  (State.otherPorts_modLink _ _ _).trans (otherPorts_of_ports (State.countP_ports ..) p)

theorem State.outs_enterWaking (s : State) (p : Nat) : (s.enterWaking p).outs = s.outs := State.countP_outs ..

theorem counted_enterWaking (s : State) (p : Nat) : Counted .port p R.PORT_WAKES s (s.enterWaking p) :=
  counted_count .port p R.PORT_WAKES _

theorem exec_wakeBurstRx_ok {s : State} {p : Fin 1024} {b : WakeBurst} (hst : (s.link p).state = .sleep) (hb : s.burstOk p b = true) :
    exec (.wakeBurstRx p b) s = .next ((s.enterWaking p).cause .port p 18) := by
  simp only [exec, execWakeBurstRx, hst, hb, ne_eq, not_true_eq_false, if_false, if_true]

theorem exec_wakeBurstRx_rejected {s : State} {p : Fin 1024} {b : WakeBurst} (hst : (s.link p).state = .sleep)
    (hb : s.burstOk p b = false) : exec (.wakeBurstRx p b) s = .next (s.countP p R.PORT_ROOSTER_REJECTED) := by
  simp only [exec, execWakeBurstRx, hst, hb, ne_eq, not_true_eq_false, Bool.false_eq_true, if_false]

/-- A wake that has come too late: it is no longer waited for, and counted. -/
def State.wakeMissed (s : State) (p w : Nat) : State :=
  ((s.free.2.atLeast (w + 2 * wMs)).modLink p fun l => { l with wakeAt := none }).countP p R.PORT_WAKE_LATE

theorem exec_wakeLate {s : State} {p : Fin 1024} {w : Nat} (h : (s.link p).wakeAt = some w) : exec (.wakeLate p) s =
    .next ((s.wakeMissed p w).raisePort 0x015 p ((Config.freeValue s.freeCount).toNat % 2 ^ 32) 0x000B) := by
  simp only [exec, execWakeLate, h]
  rfl

theorem State.time_wakeMissed (s : State) (p w : Nat) : (s.wakeMissed p w).time.now = max s.time.now (w + 2 * wMs) := by
  rw [State.wakeMissed, State.countP_time]
  exact State.atLeast_now ..

theorem State.wakeAt_wakeMissed (s : State) (p w : Nat) : ((s.wakeMissed p w).link p).wakeAt = none := by
  rw [State.wakeMissed, State.link_congr (State.countP_ports ..), State.link_modLink]

theorem counted_wakeMissed (s : State) (p w : Nat) : Counted .port p R.PORT_WAKE_LATE s (s.wakeMissed p w) :=
  counted_count .port p R.PORT_WAKE_LATE _

/-- Settles O38: SLEEP and WAKE with their refusals, the sleep itself, wake bursts and the late wake. -/
theorem portsSleepAndWake : Obligations.PortsSleepAndWake := by
  unfold Obligations.PortsSleepAndWake
  refine ⟨fun s p ho => ?commands, fun s p hup hs => ?sleeps, fun s p b hst hb => ?burst, fun s p b hst hb => ?rejected,
    fun s p w hw _ => ?late⟩
  case commands =>
    intro l
    refine ⟨exec_linkSleep_notUp ho, exec_linkSleep_notAgreed ho, fun hst hb hs => ?_, exec_linkWake_awake ho,
      exec_linkWake_noTarget ho, fun n hst ht hm => ?_⟩
    · intro v
      refine ⟨⟨_, exec_linkSleep_sends ho hst hb hs, ?_⟩,
        fun hstart => ⟨_, exec_linkSleep_sends ho hst hb hs, sleepHello_sent hstart⟩⟩
      have hsent : OnlyTransmits v (v.sendHello p false true) := (OnlyTransmits.refl v).sendHello p false true
      have hdrowsy : v.link p = { s.link p with sleeping := true } := s.link_drowsy p
      have hsame : ((v.sendHello p false true).link p).sleeping = (v.link p).sleeping := by rw [hsent.link p]; rfl
      exact hsame.trans (by rw [hdrowsy])
    · have hlink : ((s.enterWaking p).out (.wakeBurst p (wakeWord n s.nodeId))).link p = (s.enterWaking p).link p := State.link_congr rfl p
      refine ⟨_, exec_linkWake_wakes ho hst ht hm, ?_, ?_, ?_, s.otherPorts_enterWaking p, counted_enterWaking s p⟩
      · rw [hlink, State.link_enterWaking]
      · rw [hlink, State.link_enterWaking]
      · exact congrArg (· ++ [Out.wakeBurst p (wakeWord n s.nodeId)]) (s.outs_enterWaking p)
  case sleeps =>
    intro u
    obtain ⟨hstate, hreason, hclaims, hmeas, houts⟩ := enterSleep_sets u p 7
    exact ⟨_, exec_sleepSquelch hup hs, by rw [State.enterSleep_time, State.runTo_now], hstate, hreason, hclaims, hmeas, houts⟩
  case burst =>
    have hlink : ((s.enterWaking p).cause .port p 18).link p = (s.enterWaking p).link p := rfl
    refine ⟨_, exec_wakeBurstRx_ok hst hb, ?_, ?_, State.cause_getLsbD _ _ _ _ (by decide), s.otherPorts_enterWaking p⟩
    all_goals rw [hlink, State.link_enterWaking]
  case rejected => exact ⟨_, exec_wakeBurstRx_rejected hst hb, State.countP_ports .., counted_count ..⟩
  case late =>
    refine ⟨_, exec_wakeLate hw, ?_, ?_, counted_raisePort (by decide) (by decide) (counted_wakeMissed s p w) .., ?_⟩
    · rw [State.link_raisePort, State.wakeAt_wakeMissed]
    · rw [State.raisePort_time, State.time_wakeMissed]
    · have ha := State.alarmed_raisePort (s.wakeMissed p w) 0x015 p ((Config.freeValue s.freeCount).toNat % 2 ^ 32) 0x000B
        ⟨by decide, by decide⟩
      obtain ⟨o, ho, hcls, hsource, hdetail⟩ := ha
      exact ⟨o, ho, hcls, hsource, hdetail.trans (Nat.mod_mod _ _)⟩

end Sys2Proof.Machine
end

section
/-! SUPPORT. MAC control and pause frames: the proof of O39 (R136 to R139). -/

namespace Sys2Proof.Machine

open Sys2Proof

/-! MAC control frames (R136, R137). -/

section MacControl

variable {s : State} {p : Fin 1024} (hup : s.isUp p = true) (op : BitVec 16) {len : Nat}
include hup

theorem exec_macControlRx_short (h : len < 64) : exec (.macControlRx p op len) s = .next (s.countP p R.PORT_RX_UNDERSIZE) := by
  simp only [exec, execMacControlRx, hup, Bool.not_true, Bool.false_eq_true, if_false, if_pos h]

theorem exec_macControlRx_long (h : 9216 < len) : exec (.macControlRx p op len) s = .next (s.countP p R.PORT_RX_OVERSIZE) := by
  simp only [exec, execMacControlRx, hup, Bool.not_true, Bool.false_eq_true, if_false, if_neg (show ¬ len < 64 by omega), if_pos h]

theorem exec_macControlRx_sized (h : 64 ≤ len) (h' : len ≤ 9216) : exec (.macControlRx p op len) s =
    if ctrlOther op.toNat len then .next (s.countP p R.PORT_RX_MAC_CTRL_OTHER) else .next s := by
  simp only [exec, execMacControlRx, hup, Bool.not_true, Bool.false_eq_true, if_false, if_neg (show ¬ len < 64 by omega),
    if_neg (show ¬ 9216 < len by omega)]

end MacControl

/-- The frames that no rule handles: of another length, or neither a PAUSE nor priority flow control. -/
theorem ctrlOther_iff (op : BitVec 16) (len : Nat) : ctrlOther op.toNat len = true ↔ len ≠ 64 ∨ op ≠ 0x0001 ∧ op ≠ 0x0101 := by
  have hnat : ∀ x : BitVec 16, op.toNat = x.toNat ↔ op = x := fun _ => BitVec.toNat_inj
  have h1 := hnat 0x0001
  have h2 := hnat 0x0101
  simp only [ctrlOther, Bool.or_eq_true, bne_iff_ne, Bool.not_eq_true', Bool.or_eq_false_iff, beq_eq_false_iff_ne, ne_eq]
  rw [← h1, ← h2]
  rfl

/-! Pause frames received (R138). -/

/-- The effect of a PAUSE frame: the classes that its port's configuration names, for the time of its quanta. -/
def State.pauseEffOf (s : State) (p q tick : Nat) : PauseEff :=
  { at_ := s.tickAt (tick + 250), pfc := false
    items := (((List.range 8).filter fun c => nbit (fld (s.reg .port p R.PORT_PAUSE_CFG) 15 8) c).map fun c => (c, nth [q] 0 0)).map
      fun x => (x.1, x.2 * ((if s.bytesPerTick p = 8 then 8 else 4) * wTick)) }

theorem mem_pauseEffOf (s : State) (p q tick c n : Nat) : (c, n) ∈ (s.pauseEffOf p q tick).items ↔
    c < 8 ∧ nbit (s.regF .port p R.PORT_PAUSE_CFG 15 8) c = true ∧ n = q * (if s.bytesPerTick p = 8 then 8 else 4) * wTick := by
  have hq : nth [q] 0 0 = q := rfl
  simp only [State.pauseEffOf, List.map_map, List.mem_map, List.mem_filter, List.mem_range, Function.comp_apply, Prod.mk.injEq, hq,
    ← Nat.mul_assoc]
  constructor
  · rintro ⟨x, ⟨hx, hsel⟩, rfl, rfl⟩
    exact ⟨hx, hsel, rfl⟩
  · rintro ⟨hx, hsel, rfl⟩
    exact ⟨c, ⟨hx, hsel⟩, rfl, rfl⟩

theorem exec_pauseRx_obeyed {s : State} {p : Fin 1024} (q tick : Nat) (hup : s.isUp p = true) (hf : s.feat 4 = true)
    (hl : s.linkBit p 3 = true) (hc : bit (s.reg .port p R.PORT_PAUSE_CFG) 0 = true) :
    exec (.pauseRx p ⟨false, 0, [q], tick⟩) s = .next ((s.countP p R.PORT_RX_PAUSE_OBEYED).modPort p fun x =>
      { x with pauseEff := x.pauseEff ++ [s.pauseEffOf p q tick] }) := by
  simp only [exec, execPauseRx, hup, if_true, State.pauseIn, State.pauseItems, hf, hl, hc, Bool.and_self, Bool.false_eq_true, if_false]
  rfl

theorem exec_pauseRx_ignored {s : State} {p : Fin 1024} (f : PauseFrame) (hup : s.isUp p = true)
    (h : s.feat 4 = false ∨ s.linkBit p 3 = false) : exec (.pauseRx p f) s = .next (s.countP p R.PORT_RX_PAUSE_IGNORED) := by
  have hnone : ∀ ok, (s.feat 4 && s.linkBit p 3 && ok) = false := fun ok => by
    obtain h | h := h <;> rw [h]
    · rfl
    · rw [Bool.and_false, Bool.false_and]
  simp only [exec, execPauseRx, hup, if_true, State.pauseIn, hnone, Bool.false_eq_true, if_false]

/-! Pauses that take effect and that end (R139). -/

theorem setPause_paused {l : List Span} {cls at_ len a : Nat} (pfc : Bool) (hlen : 0 < len) (ha : at_ ≤ a) (hb : a < at_ + len) :
    (setPause l cls pfc at_ len).any (fun x => x.cls == cls && x.from_ ≤ a && a < x.to_) = true := by
  refine List.any_eq_true.2 ⟨⟨cls, pfc, at_, at_ + len⟩, ?_, ?_⟩
  · rw [setPause, if_neg (by omega)]
    exact List.mem_append_right _ (List.mem_singleton_self _)
  · simp only [beq_self_eq_true, Bool.true_and, Bool.and_eq_true, decide_eq_true_eq]
    exact ⟨ha, hb⟩

/-- A pause of one class takes effect. -/
def State.pauseTaken (s : State) (p : Nat) (e : PauseEff) (c n : Nat) : State :=
  s.modPort p fun q => { q with pauseEff := q.pauseEff.erase e, spans := setPause q.spans c e.pfc e.at_ n }

theorem exec_pauseEffect_one {s : State} {p : Fin 1024} {at_ c n : Nat} {pfc : Bool} (h : (s.port p).pauseEff = [⟨at_, pfc, [(c, n)]⟩])
    (hw : ((s.runTo at_).port p).wire = none) :
    exec (.pauseEffect p) s = .next (((s.runTo at_).pauseTaken p ⟨at_, pfc, [(c, n)]⟩ c n).countEaten p) := by
  have hsort : sortBy PauseEff.at_ (s.port p).pauseEff = [⟨at_, pfc, [(c, n)]⟩] := by rw [h]; rfl
  simp only [exec, execPauseEffect, hsort, State.port_modPort_same, hw]
  rfl

theorem State.countEaten_time (s : State) (p : Nat) : (s.countEaten p).time = s.time :=
  show Part.same .time s _ by simp [Part.same_refl]

/-- Settles O39: MAC control frames, pauses obeyed and ignored, their effect and their end. -/
theorem pausesHoldTheirClasses : Obligations.PausesHoldTheirClasses := by
  unfold Obligations.PausesHoldTheirClasses
  refine ⟨fun s p op len hup => ⟨exec_macControlRx_short hup op, exec_macControlRx_long hup op, fun h h' hother => ?other,
    fun hlen hop => ?pause⟩, fun s p q tick hup hf hl hc => ?obeyed, fun s p f hup h => exec_pauseRx_ignored f hup h,
    fun s p at_ c n pfc he => ?effect, fun s p c x hx hc hfrom => ?expiry⟩
  case other => rw [exec_macControlRx_sized hup op h h', if_pos ((ctrlOther_iff op len).2 hother)]
  case pause =>
    have hno : ¬ ctrlOther op.toNat len = true := fun h => by
      obtain h | ⟨h1, h2⟩ := (ctrlOther_iff op len).1 h
      · exact h hlen
      · exact hop.elim h1 h2
    rw [exec_macControlRx_sized hup op (by omega) (by omega), if_neg hno]
  case obeyed =>
    refine ⟨_, exec_pauseRx_obeyed q tick hup hf hl hc, s.pauseEffOf p q tick, ?_, rfl, rfl, mem_pauseEffOf s p q tick, ?_,
      counted_count ..⟩
    · rw [State.port_modPort_same, State.port_countP]
    · exact (otherPorts_of_ports (State.countP_ports ..) p).trans (otherPorts_modPort _ _ _)
  case effect =>
    intro u hw hn
    obtain ⟨v, hv⟩ : ∃ v, v = u.pauseTaken p ⟨at_, pfc, [(c, n)]⟩ c n := ⟨_, rfl⟩
    have heff : (u.port p).pauseEff = [⟨at_, pfc, [(c, n)]⟩] := by
      rw [(s.runTo_transmits at_).port p]
      exact he
    have hport : v.port p = { u.port p with pauseEff := [], spans := setPause (u.port p).spans c pfc at_ n } := by
      rw [hv, State.pauseTaken, State.port_modPort_same, heff, List.erase_cons_head]
    obtain ⟨⟨l, hl⟩, hothers⟩ := v.onlyLostWindows_countEaten p
    refine ⟨v.countEaten p, hv ▸ exec_pauseEffect_one he hw, ?_, ?_, ?_, fun a ha hb => ?_⟩
    · rw [State.countEaten_time, hv]
      exact State.runTo_now ..
    · rw [hl, hport]
    · exact (hv ▸ otherPorts_modPort _ _ _ : OtherPorts p u v).trans hothers
    · rw [PortSt.paused, hl, hport]
      exact setPause_paused pfc hn ha hb
  case expiry =>
    have hends : ((s.port p).spans.filter fun x => x.cls == c.val && decide (x.from_ ≤ s.time.now)).map Span.to_ = [x.to_] := by
      rw [hx, List.filter_cons_of_pos (by simp only [hc, hfrom, beq_self_eq_true, decide_true, Bool.and_self])]
      rfl
    refine ⟨s.atLeast x.to_, ?_, s.atLeast_now x.to_, rfl⟩
    simp only [exec, execPauseExpiry, hends, List.foldl_cons, List.foldl_nil, Nat.zero_max]

end Sys2Proof.Machine
end

section
/-! SUPPORT. Fragments received and reassembled: the proof of O41 (R126, R150, R158). -/

namespace Sys2Proof.Machine

open Sys2Proof

/-! A partial frame that is discarded (R158). -/

theorem State.traceRx_ports (s : State) (p : Nat) (itp : Bool) (f : Frame) (outcome tick : Nat) :
    (s.traceRx p itp f outcome tick).ports = s.ports := show Part.same .ports s _ by simp [Part.same_refl]

theorem State.otherPorts_abortReasm (s : State) (p : Nat) : OtherPorts p s (s.abortReasm p) := by
  unfold State.abortReasm
  split
  · refine (otherPorts_modPort s p fun q => { q with reasm := none }).trans (otherPorts_of_ports ?_ p)
    rw [State.traceRx_ports, State.countP_ports]
  · exact fun _ _ => rfl

/-- But for the partial frame that a port held, an abort counts and traces only. -/
theorem State.onlyRecords_abortReasm (s : State) (p : Nat) : (s.abortReasm p) = s ∨
    OnlyRecords (s.modPort p fun q => { q with reasm := none }) (s.abortReasm p) := by
  unfold State.abortReasm
  split
  · exact .inr (State.onlyRecords_noted _ p R.PORT_RX_REASM_ABORTED _ _ 4 _)
  · exact .inl rfl

/-- Of the ports, stage 3 reads the claims of the one that receives. -/
theorem State.stage3_modPort (s : State) (p : Nat) (itp : Bool) (f : Frame) (tRx : Nat) {g : PortSt → PortSt}
    (hg : ∀ q, (g q).claims = q.claims) : (s.modPort p g).stage3 p itp f tRx = s.stage3 p itp f tRx := by
  have hholder : ∀ w, (s.modPort p g).holderOk p w itp f = s.holderOk p w itp f := fun w => by
    simp only [State.holderOk, State.port_modPort_same, hg]
  simp only [State.stage3, hholder]
  rfl

theorem State.isItp_congr {s t : State} {p : Nat} (h : t.link p = s.link p) (f : Frame) : t.isItp p f = s.isItp p f := by
  have hlink : (t.port p).link = (s.port p).link := h
  simp only [State.isItp, hlink]

/-! A start fragment (R126, R158). -/

/-- A port that takes a start fragment: what it held before is gone. -/
def State.opened (s : State) (p : Nat) : State := (s.abortReasm p).modPort p fun q => { q with dropNo := none }

theorem State.port_opened (s : State) (p : Nat) : (s.opened p).port p = { s.port p with reasm := none, dropNo := none } := by
  rw [State.opened, State.port_modPort_same, State.port_abortReasm]

theorem State.otherPorts_opened (s : State) (p : Nat) : OtherPorts p s (s.opened p) :=
  (s.otherPorts_abortReasm p).trans (otherPorts_modPort _ _ _)

theorem State.stage3_opened (s : State) (p : Nat) (itp : Bool) (f : Frame) (tRx : Nat) :
    (s.opened p).stage3 p itp f tRx = s.stage3 p itp f tRx := by
  rw [State.opened, State.stage3_modPort]
  · obtain h | h := s.onlyRecords_abortReasm p
    · rw [h]
    · rw [h.stage3, State.stage3_modPort]
      exact fun _ => rfl
  · exact fun _ => rfl

theorem State.isItp_opened (s : State) (p : Nat) (f : Frame) : (s.opened p).isItp p f = s.isItp p f := by
  refine State.isItp_congr ?_ f
  rw [State.link, State.port_opened, State.link]

/-- The partial frame that a start fragment opens. -/
def firstPart (m : Mpacket) : Reasm := { frameNo := m.frameNo, next := 0, data := m.data, tRx := m.tRx, edge := m.edge, idle := 0 }

theorem State.startIn_opens {u : State} {p : Nat} {m : Mpacket} (hfinal : m.final = false) (hfec : m.fecOk = true) (hcrc : m.crcOk = true)
    (hshort : 60 ≤ m.data.length) (hlong : m.data.length ≤ 9216)
    (h3 : u.stage3 p (u.isItp p (parseFrame m.data)) (parseFrame m.data) m.tRx = none) :
    u.startIn p m = (u.opened p).modPort p fun q => { q with reasm := some (firstPart m) } := by
  have hstage : (u.opened p).stage3 p ((u.opened p).isItp p (parseFrame m.data)) (parseFrame m.data) m.tRx = none := by
    rw [State.isItp_opened, State.stage3_opened, h3]
  unfold State.startIn
  dsimp only
  rw [hfinal, if_neg Bool.false_ne_true, if_neg (by rw [hfec]; decide), if_neg (by omega), if_neg (by omega),
    if_neg (by rw [hcrc]; decide)]
  rw [← State.opened, hstage]
  rfl

/-! Commands. -/

section Commands

variable {s : State} {p : Fin 1024} (m : Mpacket) (hup : s.isUp p = true)
include hup

theorem exec_fragmentRx_notAgreed (h : s.rxActive p = false) :
    exec (.fragmentRx p m) s = .next (s.countP p R.PORT_RX_NOT_AGREED) := by
  simp only [exec, execFragmentRx, hup, h, Bool.not_true, Bool.not_false, Bool.false_eq_true, if_false, if_true]

theorem exec_fragmentRx_start (h : s.rxActive p = true) (hm : m.start = true) :
    exec (.fragmentRx p m) s = .next ((s.seenAt p m.tRx).startIn p m).pace := by
  simp only [exec, execFragmentRx, hup, h, hm, Bool.not_true, Bool.false_eq_true, if_false, if_true]

theorem exec_fragmentRx_cont (h : s.rxActive p = true) (hm : m.start = false) :
    exec (.fragmentRx p m) s = .next ((s.seenAt p m.tRx).contIn p m).pace := by
  simp only [exec, execFragmentRx, hup, h, hm, Bool.not_true, Bool.false_eq_true, if_false]

end Commands

/-! Continuations (R158). -/

theorem State.contIn_held {u : State} {p : Nat} {m : Mpacket} {r : Reasm} (h : (u.port p).reasm = some r) :
    u.contIn p m = (u.countP p R.PORT_RX_FRAGMENTS).contHeld p r m := by
  simp only [State.contIn, h]

theorem State.contIn_orphan {u : State} {p : Nat} {m : Mpacket} (h : (u.port p).reasm = none) (hd : (u.port p).dropNo ≠ some m.frameNo) :
    u.contIn p m = (u.countP p R.PORT_RX_FRAGMENTS).countP p R.PORT_RX_REASM_ORPHAN := by
  simp only [State.contIn, h, if_neg hd]

theorem State.contIn_dropped {u : State} {p : Nat} {m : Mpacket} (h : (u.port p).reasm = none) (hd : (u.port p).dropNo = some m.frameNo) :
    u.contIn p m = u := by
  simp only [State.contIn, h, if_pos hd]

section Held

variable {v : State} {p : Nat} {r : Reasm} {m : Mpacket}

theorem State.contHeld_next (hfec : m.fecOk = true) (hno : m.frameNo = r.frameNo) (hfrag : m.fragNo = r.next) (hfinal : m.final = false)
    (hshort : 60 ≤ m.data.length) (hcrc : m.crcOk = true) (hlong : r.data.length + m.data.length ≤ 9216) :
    v.contHeld p r m =
      v.modPort p fun q => { q with reasm := some { r with next := (r.next + 1) % 4, data := r.data ++ m.data, idle := 0 } } := by
  have horder : ¬ (m.frameNo ≠ r.frameNo ∨ m.fragNo ≠ r.next) := fun h => h.elim (absurd hno) (absurd hfrag)
  unfold State.contHeld
  dsimp only
  rw [if_neg (by rw [hfec]; decide), if_neg horder, if_neg (by omega), if_neg (by rw [hcrc]; decide), hfinal,
    if_neg Bool.false_ne_true, if_neg (by omega), if_neg Bool.false_ne_true]

/-- The partial frame is discarded with the later fragments of its number; that is counted and traced. -/
def State.reasmLost (v : State) (p ctr stage : Nat) (r : Reasm) : State :=
  (v.modPort p fun q => { q with reasm := none, dropNo := some r.frameNo }).noted p ctr (v.isItp p (parseFrame r.data)) (parseFrame r.data)
    stage (v.arrival r.tRx)

theorem State.contHeld_disordered (hfec : m.fecOk = true) (h : m.frameNo ≠ r.frameNo ∨ m.fragNo ≠ r.next) :
    v.contHeld p r m = v.reasmLost p R.PORT_RX_REASM_SEQ_ERR 4 r := by
  unfold State.contHeld
  dsimp only
  rw [if_neg (by rw [hfec]; decide), if_pos h]
  rfl

theorem State.contHeld_uncorrectable (hfec : m.fecOk = false) : v.contHeld p r m = v.reasmLost p R.PORT_RX_FEC_DISCARD 1 r :=
  if_pos (by rw [hfec]; rfl)

end Held

/-- What a discarded partial frame leaves, after its fragment has been counted. -/
theorem reasmLost_sets (u : State) (p stage : Nat) (r : Reasm) {ctr : Nat} (hctr : ctr ≠ R.PORT_RX_FRAGMENTS) :
    let t := ((u.countP p R.PORT_RX_FRAGMENTS).reasmLost p ctr stage r).pace
    (t.port p).reasm = none ∧ (t.port p).dropNo = some r.frameNo ∧ OtherPorts p u t ∧ Counted .port p ctr u t := by
  intro t
  obtain ⟨v, hv⟩ : ∃ v, v = (u.countP p R.PORT_RX_FRAGMENTS).modPort p fun q => { q with reasm := none, dropNo := some r.frameNo } :=
    ⟨_, rfl⟩
  have hports : t.ports = v.ports := by
    rw [hv]
    exact (State.pace_ports _).trans (State.onlyRecords_noted ..).ports
  have hport : t.port p = { u.port p with reasm := none, dropNo := some r.frameNo } := by
    rw [State.port_congr hports, hv, State.port_modPort_same, State.port_countP]
  have hothers : OtherPorts p u v := by
    rw [hv]
    exact (otherPorts_of_ports (State.countP_ports ..) p).trans (otherPorts_modPort _ _ _)
  refine ⟨by rw [hport], by rw [hport], hothers.trans (otherPorts_of_ports hports p), counted_from (counted_noted_pace ..) ?_⟩
  exact State.find_count_other _ _ _ _ _ (portReg_ne_same p hctr)

/-- Settles O41: fragments refused, a start, continuations in and out of order, orphans, and the idle partial frame. -/
theorem fragmentsAreReassembledInOrder : Obligations.FragmentsAreReassembledInOrder := by
  unfold Obligations.FragmentsAreReassembledInOrder
  refine ⟨fun s p m hup h => exec_fragmentRx_notAgreed m hup h, fun s p m hup hon hm hfinal hfec hcrc hshort hlong => ?start,
    fun s p m r hup hon hm => ?held, fun s p m hup hon hm => ?orphan, fun s p r hr hidle => ?idle⟩
  case start =>
    intro u h3
    have hin := State.startIn_opens hfinal hfec hcrc hshort hlong h3
    have hexec : exec (.fragmentRx p m) s = .next ((u.opened p).modPort p fun q => { q with reasm := some (firstPart m) }).pace :=
      (exec_fragmentRx_start m hup hon hm).trans (congrArg (fun w : State => Host.Outcome.next w.pace) hin)
    have hport : (((u.opened p).modPort p fun q => { q with reasm := some (firstPart m) }).pace).port p =
        { u.port p with reasm := some (firstPart m), dropNo := none } := by
      rw [State.port_congr (State.pace_ports _), State.port_modPort_same, State.port_opened]
    refine ⟨_, hexec, ?_, ?_, ?_⟩
    · rw [hport]
      rfl
    · rw [hport]
    · exact ((u.otherPorts_opened p).trans (otherPorts_modPort _ _ _)).trans (otherPorts_of_ports (State.pace_ports _) p)
  case held =>
    intro u hr
    have hexec : exec (.fragmentRx p m) s = .next ((u.countP p R.PORT_RX_FRAGMENTS).contHeld p r m).pace :=
      (exec_fragmentRx_cont m hup hon hm).trans (congrArg (fun w : State => Host.Outcome.next w.pace) (State.contIn_held hr))
    refine ⟨fun hfec hno hfrag hfinal hshort hcrc hlong => ?_, fun hfec h => ?_, fun hfec => ?_⟩
    · rw [State.contHeld_next hfec hno hfrag hfinal hshort hcrc hlong] at hexec
      refine ⟨_, hexec, ?_, ?_, ?_⟩
      · rw [State.port_congr (State.pace_ports _), State.port_modPort_same]
      · exact ((otherPorts_of_ports (State.countP_ports ..) p).trans (otherPorts_modPort _ _ _)).trans
          (otherPorts_of_ports (State.pace_ports _) p)
      · exact counted_of_find (counted_count .port p R.PORT_RX_FRAGMENTS u) (State.find_pace_port _ (portReg_ge _ _))
    · rw [State.contHeld_disordered hfec h] at hexec
      exact ⟨_, hexec, reasmLost_sets u p 4 r (by decide)⟩
    · rw [State.contHeld_uncorrectable hfec] at hexec
      exact ⟨_, hexec, reasmLost_sets u p 1 r (by decide)⟩
  case orphan =>
    intro u hr
    have hexec := exec_fragmentRx_cont m hup hon hm
    refine ⟨fun hd => ?_, fun hd => ?_⟩
    · obtain ⟨v, hv⟩ : ∃ v, v = u.countP p R.PORT_RX_FRAGMENTS := ⟨_, rfl⟩
      have hin : u.contIn p m = v.countP p R.PORT_RX_REASM_ORPHAN := hv ▸ State.contIn_orphan hr hd
      have hcount : Counted .port p R.PORT_RX_FRAGMENTS u v := hv ▸ counted_count .port p R.PORT_RX_FRAGMENTS u
      have hfind : ∀ x, x ≠ R.PORT_RX_REASM_ORPHAN → smFind (v.countP p R.PORT_RX_REASM_ORPHAN).pace.regs (pageBase .port p + x) =
          smFind v.regs (pageBase .port p + x) := fun x hx =>
        (State.find_pace_port _ (portReg_ge _ _)).trans (State.find_count_other _ _ _ _ _ (portReg_ne_same p hx))
      refine ⟨_, hexec.trans (congrArg (fun w : State => Host.Outcome.next w.pace) hin), ?_,
        counted_of_find hcount (hfind _ (by decide)), ?_⟩
      · rw [State.pace_ports, State.countP_ports, hv, State.countP_ports]
      · have horphan : Counted .port p R.PORT_RX_REASM_ORPHAN v (v.countP p R.PORT_RX_REASM_ORPHAN).pace :=
          counted_of_find (counted_count .port p R.PORT_RX_REASM_ORPHAN v) (State.find_pace_port _ (portReg_ge _ _))
        refine counted_from horphan ?_
        rw [hv]
        exact State.find_count_other _ _ _ _ _ (portReg_ne_same p (by decide))
    · exact hexec.trans (congrArg (fun w : State => Host.Outcome.next w.pace) (State.contIn_dropped hr hd))
  case idle =>
    refine ⟨s.abortReasm p, ?_, s.port_abortReasm p, s.otherPorts_abortReasm p, ?_⟩
    · simp only [exec, execReasmTimeout, hr, if_pos hidle]
    · have habort : s.abortReasm p = (s.modPort p fun q => { q with reasm := none }).noted p R.PORT_RX_REASM_ABORTED
          (s.isItp p (parseFrame r.data)) (parseFrame r.data) 4 (s.arrival r.tRx) := by
        simp only [State.abortReasm, hr]
        rfl
      rw [habort]
      exact counted_noted ..

end Sys2Proof.Machine
end

section
/-! SUPPORT. Verify and respond mPackets that start at once, and preemption that is decided: the proof of O40 (R148 to R150). -/

namespace Sys2Proof.Machine

open Sys2Proof

/-! An mPacket of the verify exchange that starts at once (R149). -/

/-- A node in HALTED sends nothing (R93), so a frame that may start finds it in another state. -/
theorem State.notHalted_of_startsNow {s : State} {p : Nat} {fr : TxFrame} (h : s.startsNow p fr) : s.node.state ≠ .halted := by
  obtain ⟨-, -, -, -, -, -, -, ⟨close, hgo⟩, -⟩ := h
  intro hhalt
  have hnode : (s.loaded p fr).node.state = .halted := hhalt
  have hmay : (s.loaded p fr).maySend p fr = false := by
    simp only [State.maySend, hnode, bne_self_eq_false, Bool.false_and]
  rw [State.headSays, hmay] at hgo
  exact HeadSays.noConfusion hgo

/-- The origin of a verify or of a respond mPacket. -/
def mpacketOrigin (respond : Bool) : Origin := if respond then .respond else .verify

/-- An mPacket that starts has no frame to make: it takes the lane, and is put out. -/
theorem State.startExpress_mpacket (s : State) (p tDep : Nat) {fr : TxFrame} {respond : Bool} (h : fr.origin = mpacketOrigin respond) :
    ∃ lane fin, s.startExpress p fr tDep =
      (s.modPort p fun q => { q with txq := dropHead fr.cls q.txq, laneFree := lane }).mpacketOut p respond fin := by
  have hown : ∀ dep, s.ownFrame p fr dep = fr := fun dep => by
    unfold State.ownFrame
    rw [h]
    cases respond <;> rfl
  refine ⟨s.time.now + (8 + frameLen fr.frame) * s.wByte p + 12 * s.wByte p, s.time.now + (8 + frameLen fr.frame) * s.wByte p, ?_⟩
  simp only [State.startExpress, hown, h]
  cases respond <;> rfl

/-- What has happened when an mPacket that starts at once is put out: the lane is taken, and the buffer is empty again. -/
theorem State.sendOwn_mpacket {s : State} {p tDep : Nat} {fr : TxFrame} {respond : Bool} (h : s.startsNow p fr)
    (ho : fr.origin = mpacketOrigin respond) : ∃ (w : State) (lane fin : Nat), s.sendOwn p fr tDep = w.mpacketOut p respond fin ∧
      w.port p = { s.port p with laneFree := lane } ∧ OtherPorts p s w ∧ w.time = s.time ∧ w.outs = s.outs ∧ w.regs = s.regs := by
  obtain ⟨lane, fin, hsend⟩ := (s.loaded p fr).startExpress_mpacket p tDep ho
  have ⟨_, hempty, _⟩ := h
  refine ⟨_, lane, fin, (State.sendOwn_of_startsNow h).trans hsend, ?_, ?_, rfl, rfl, rfl⟩
  · simp only [State.port_modPort_same, dropHead, if_true]
    rw [← hempty]
  · exact (otherPorts_modPort s p _).trans (otherPorts_modPort _ p _)

/-- A respond mPacket that starts at once. -/
theorem respond_sent {s : State} {p : Nat} (h : s.startsNow p (s.linkFrame p 7 0 .respond)) :
    let t := s.sendOwn p (s.linkFrame p 7 0 .respond) (s.nominalDep p)
    t.outs = s.outs ++ [.respond p] ∧ OtherPorts p s t ∧ (t.port p).verify = (s.port p).verify ∧ Counted .port p R.PORT_RESPOND_TX s t := by
  obtain ⟨w, lane, fin, hsend, hport, hothers, -, houts, hregs⟩ :=
    State.sendOwn_mpacket (tDep := s.nominalDep p) (respond := true) h rfl
  have hout : w.mpacketOut p true fin = (w.out (.respond p)).countP p R.PORT_RESPOND_TX := rfl
  intro t
  have ht : t = (w.out (.respond p)).countP p R.PORT_RESPOND_TX := hsend.trans hout
  rw [ht]
  refine ⟨?_, hothers.trans (otherPorts_of_ports (State.countP_ports ..) p), ?_, ?_⟩
  · rw [State.countP_outs, ← houts]
    rfl
  · rw [State.port_countP, State.port_congr (State.out_ports ..), hport]
  · exact counted_from (counted_count ..) (congrArg (smFind · _) hregs)

/-- A verify mPacket that starts at once: its VERIFY_TIME begins with its end. -/
theorem verify_sent {s : State} {p : Nat} (h : s.startsNow p (s.linkFrame p 7 0 .verify)) :
    let t := s.sendOwn p (s.linkFrame p 7 0 .verify) (s.nominalDep p)
    t.time = s.time ∧ t.outs = s.outs ++ [.verify p] ∧ (t.port p).verify = (s.port p).verify ∧
    (t.port p).verTries = (s.port p).verTries ∧ OtherPorts p s t ∧ Counted .port p R.PORT_VERIFY_TX s t := by
  obtain ⟨w, lane, fin, hsend, hport, hothers, htime, houts, hregs⟩ :=
    State.sendOwn_mpacket (tDep := s.nominalDep p) (respond := false) h rfl
  have hout : w.mpacketOut p false fin =
    ((w.modPort p fun q => { q with verAt := fin }).out (.verify p)).countP p R.PORT_VERIFY_TX := rfl
  intro t
  have ht : t = ((w.modPort p fun q => { q with verAt := fin }).out (.verify p)).countP p R.PORT_VERIFY_TX := hsend.trans hout
  have htport : t.port p = { s.port p with laneFree := lane, verAt := fin } := by
    rw [ht, State.port_countP, State.port_congr (State.out_ports ..), State.port_modPort_same, hport]
  refine ⟨?_, ?_, by rw [htport], by rw [htport], ?_, ?_⟩
  · rw [ht, State.countP_time, ← htime]
    rfl
  · rw [ht, State.countP_outs, ← houts]
    rfl
  · have hmod : OtherPorts p s (w.modPort p fun q => { q with verAt := fin }) := hothers.trans (otherPorts_modPort w p _)
    rw [ht]
    exact hmod.trans (otherPorts_of_ports (State.countP_ports ..) p)
  · rw [ht]
    exact counted_from (counted_count ..) (congrArg (smFind · _) hregs)

/-! Transmit preemption in force (R148). -/

/-- Whether preemption is in force does not depend on what TX_ACTIVE shows of it. -/
theorem State.preActive_refreshActive (s : State) (p : Nat) : (s.refreshActive p).preActive p = s.preActive p := by
  obtain ⟨a, ha⟩ := s.port_refreshActive p
  have hfeat : (s.refreshActive p).feat 3 = s.feat 3 := by
    unfold State.refreshActive
    dsimp only
    split <;> rfl
  simp only [State.preActive, State.link, State.isUp, State.linkBit, ha, hfeat]

theorem State.txActive_refreshActive (s : State) (p : Nat) : ((s.refreshActive p).port p).txActive = s.preActive p := by
  unfold State.refreshActive
  dsimp only
  split
  case isTrue h => exact h
  case isFalse =>
    rw [State.port_congr (State.cause_ports ..), State.port_modPort_same]

theorem State.otherPorts_refreshActive (s : State) (p : Nat) : OtherPorts p s (s.refreshActive p) := by
  unfold State.refreshActive
  dsimp only
  split
  · exact fun _ _ => rfl
  · exact (otherPorts_modPort s p _).trans (otherPorts_of_ports (State.cause_ports ..) p)

/-! Commands. -/

/-- A verify mPacket is due again: the exchange stands, with one more attempt. -/
def State.verifyAgain (s : State) (p : Nat) : State :=
  s.modPort p fun q => { q with verify := .verifying, verTries := q.verTries + 1, verAt := s.time.now }

theorem State.sendVerify_active {s : State} {p : Nat} (h : s.node.state ≠ .halted) : s.sendVerify p =
    (s.verifyAgain p).sendOwn p ((s.verifyAgain p).linkFrame p 7 0 .verify) ((s.verifyAgain p).nominalDep p) := if_neg h

/-- What a verify mPacket that is due again and starts at once leaves. -/
theorem sendVerify_sets {u : State} {p : Nat} (h : (u.verifyAgain p).startsNow p ((u.verifyAgain p).linkFrame p 7 0 .verify)) :
    let t := u.sendVerify p
    t.time = u.time ∧ t.outs = u.outs ++ [.verify p] ∧ (t.port p).verify = .verifying ∧
    (t.port p).verTries = (u.port p).verTries + 1 ∧ OtherPorts p u t ∧ Counted .port p R.PORT_VERIFY_TX u t := by
  have hactive : u.node.state ≠ .halted := State.notHalted_of_startsNow (s := u.verifyAgain p) h
  have hport : (u.verifyAgain p).port p =
      { u.port p with verify := .verifying, verTries := (u.port p).verTries + 1, verAt := u.time.now } := State.port_modPort_same ..
  obtain ⟨htime, houts, hverify, htries, hothers, hcount⟩ := verify_sent h
  intro t
  have ht : t = (u.verifyAgain p).sendOwn p ((u.verifyAgain p).linkFrame p 7 0 .verify) ((u.verifyAgain p).nominalDep p) :=
    State.sendVerify_active hactive
  rw [hport] at hverify htries
  rw [ht]
  exact ⟨htime, houts, hverify, htries, (otherPorts_modPort u p _).trans hothers, hcount⟩

/-- The verify exchange has failed: its state, its counter, its cause and its alarm. -/
def State.verifyFailed (s : State) (p : Nat) : State :=
  (((s.modPort p fun q => { q with verify := .failed }).countP p R.PORT_VERIFY_FAILS).cause .port p 21).raise 0x017 p 0

theorem verifyFailed_sets (u : State) (p : Nat) : let t := u.verifyFailed p
    t.time = u.time ∧ t.port p = { u.port p with verify := .failed } ∧ OtherPorts p u t ∧ t.outs = u.outs ∧
    (t.hdr .port p).intCause.getLsbD 21 = true ∧ Counted .port p R.PORT_VERIFY_FAILS u t ∧ Alarmed 0x017 p 0 t := by
  intro t
  have hports : t.ports = (u.modPort p fun q => { q with verify := .failed }).ports := State.countP_ports ..
  refine ⟨State.countP_time .., ?_, (otherPorts_modPort u p _).trans (otherPorts_of_ports hports p), State.countP_outs ..,
    State.cause_getLsbD _ _ _ _ (by decide), counted_count .port p R.PORT_VERIFY_FAILS _, State.alarmed_raise ..⟩
  rw [State.port_congr hports, State.port_modPort_same]

section Commands

variable {s : State} {p : Fin 1024}

theorem exec_verifyRx_answers (hup : s.isUp p = true) (hen : nbit (s.link p).preCfg 0 = true) (hn : s.node.state ≠ .halted) :
    exec (.verifyRx p true) s = .next (s.sendOwn p (s.linkFrame p 7 0 .respond) (s.nominalDep p)) := by
  simp only [exec, execVerifyRx, hup, hen, bne_iff_ne.2 hn, Bool.not_true, Bool.and_self, Bool.false_eq_true, if_false, if_true]

theorem exec_verifyRx_invalid (hup : s.isUp p = true) :
    exec (.verifyRx p false) s = .next (s.countP p R.PORT_RX_REASM_CRC_ERR) := by
  simp only [exec, execVerifyRx, hup, Bool.not_true, Bool.not_false, Bool.false_eq_true, if_false, if_true]

theorem exec_respondRx_invalid (hup : s.isUp p = true) :
    exec (.respondRx p false) s = .next (s.countP p R.PORT_RX_REASM_CRC_ERR) := by
  simp only [exec, execRespondRx, hup, Bool.not_true, Bool.not_false, Bool.false_eq_true, if_false, if_true]

theorem exec_respondRx_verifying (hup : s.isUp p = true) (hv : (s.port p).verify = .verifying) :
    exec (.respondRx p true) s = .next ((s.modPort p fun q => { q with verify := .succeeded }).refreshActive p) := by
  simp only [exec, execRespondRx, hup, hv, Bool.not_true, Bool.false_eq_true, if_false, if_true]

theorem exec_verifyTimeout_verifying (hv : (s.port p).verify = .verifying) (hw : ((s.port p).waits fun o => o == .verify) = false) :
    let u := s.runTo ((s.port p).verAt + bitsOf (s.port p).link.preCfg 15 8 * wMs)
    exec (.verifyTimeout p) s = if (s.port p).verTries < 3 then .next (u.sendVerify p) else .next (u.verifyFailed p) := by
  have hgo : ¬ ((s.port p).verify ≠ .verifying ∨ ((s.port p).waits fun o => o == .verify) = true) := by
    rw [hv, hw]
    decide
  exact if_neg hgo

theorem exec_preemptInactive_inactive (hup : s.isUp p = true) (hwatch : (s.link p).preWatch = true)
    (ha : ((s.runTo ((s.link p).upAt + 100 * wMs)).port p).txActive = false) : exec (.preemptInactive p) s =
      .next (((s.runTo ((s.link p).upAt + 100 * wMs)).modLink p fun l => { l with preWatch := false }).raise 0x016 p 0) := by
  have hinactive : (((s.runTo ((s.link p).upAt + 100 * wMs)).modLink p fun l => { l with preWatch := false }).port p).txActive = false := by
    rw [State.modLink, State.port_modPort_same]
    exact ha
  refine (if_pos ⟨State.state_of_isUp hup, hwatch⟩).trans (if_neg ?_)
  rw [hinactive]
  exact Bool.false_ne_true

end Commands

/-- Settles O40: answers and further verifies by the mPacket that starts at once, success by `State.refreshActive`, failure by
`State.verifyFailed`, and the alarm of a port whose preemption has stayed inactive. -/
theorem verifyExchangeDecidesPreemption : Obligations.VerifyExchangeDecidesPreemption := by
  unfold Obligations.VerifyExchangeDecidesPreemption
  refine ⟨fun s p hup hen hstart => ⟨_, exec_verifyRx_answers hup hen (State.notHalted_of_startsNow hstart), respond_sent hstart⟩,
    fun s p hup => ⟨exec_verifyRx_invalid hup, exec_respondRx_invalid hup⟩, fun s p hup hv => ?succeeds, fun s p hv hw => ?timeout,
    fun s p hup hwatch => ?inactive⟩
  case succeeds =>
    obtain ⟨v, hdone⟩ : ∃ v, v = s.modPort p fun q => { q with verify := .succeeded } := ⟨_, rfl⟩
    have hverify : (v.port p).verify = .succeeded := by rw [hdone, State.port_modPort_same]
    obtain ⟨a, ha⟩ := v.port_refreshActive p
    refine ⟨v.refreshActive p, hdone ▸ exec_respondRx_verifying hup hv, ?_, ?_, ?_⟩
    · rw [ha]
      exact hverify
    · rw [State.txActive_refreshActive, State.preActive_refreshActive]
    · exact (hdone ▸ otherPorts_modPort s p _ : OtherPorts p s v).trans (v.otherPorts_refreshActive p)
  case timeout =>
    intro w u v
    have hexec := exec_verifyTimeout_verifying hv hw
    refine ⟨fun hfew hstart => ?again, fun hmany => ?fails⟩
    case again =>
      obtain ⟨htime, hrest⟩ := sendVerify_sets (u := u) hstart
      exact ⟨_, hexec.trans (if_pos hfew), (congrArg TimeSt.now htime).trans (s.runTo_now w), hrest⟩
    case fails =>
      obtain ⟨htime, hrest⟩ := verifyFailed_sets u p
      exact ⟨_, hexec.trans (if_neg (Nat.not_lt.2 hmany)), (congrArg TimeSt.now htime).trans (s.runTo_now w), hrest⟩
  case inactive =>
    intro u ha
    obtain ⟨v, hclear⟩ : ∃ v, v = u.modLink p fun l => { l with preWatch := false } := ⟨_, rfl⟩
    have honly : OnlyPort p u v := hclear ▸ u.onlyPort_modLink p _
    have hlink : v.link p = { u.link p with preWatch := false } := hclear ▸ u.link_modLink ..
    refine ⟨v.raise 0x016 p 0, hclear ▸ exec_preemptInactive_inactive hup hwatch ha, ?_, hlink, honly.others, State.alarmed_raise ..⟩
    rw [State.raise_time, honly.time, State.runTo_now]

end Sys2Proof.Machine
end

section
/-! SUPPORT. What jobs that finish, frames that are discarded and reports leave of the stream block: the recovery entries, the registers
and the causes of the STREAM page, and the alarms of recovery entries (R167, R168, R174, R180, R311 to R313). -/

namespace Sys2Proof.Machine

open Sys2Proof

/-- The recovery entries stand, the registers of the STREAM page but those listed too, and its causes and the pending alarms of the latent
test are still there. -/
structure KeepsStreams (moved : List Nat) (s t : State) : Prop where
  rcvy : t.stream.rcvy = s.stream.rcvy
  regs : ∀ po < 0x1000, po ∉ moved → smFind t.regs (pageBase .stream 0 + po) = smFind s.regs (pageBase .stream 0 + po)
  causes : ∀ b, (s.hdr .stream 0).intCause.getLsbD b = true → (t.hdr .stream 0).intCause.getLsbD b = true
  alarms : ∀ o ∈ s.alarm.pend, o.cls = 0x018 → o ∈ t.alarm.pend

theorem KeepsStreams.refl (moved : List Nat) (s : State) : KeepsStreams moved s s :=
  ⟨rfl, fun _ _ _ => rfl, fun _ hb => hb, fun _ ho _ => ho⟩

/-- The counters of the STREAM page that a generation entry counts in (R167). -/
def genRegs : List Nat := [R.STREAM_GEN_FRAMES, R.STREAM_REPLICAS_BUILT]

/-- A cause that stands in a page is not cleared when one is set anywhere. -/
theorem State.cause_keeps (s : State) (k : PageKind) (i b : Nat) {k' : PageKind} {i' b' : Nat}
    (h : (s.hdr k' i').intCause.getLsbD b' = true) : ((s.cause k i b).hdr k' i').intCause.getLsbD b' = true := by
  by_cases hpage : pageBase k' i' / 0x1000 = pageBase k i / 0x1000
  · have hsame : ∀ u : State, u.hdr k' i' = u.hdr k i := fun u => by rw [State.hdr, State.hdr, hpage]
    rw [hsame] at h
    rw [hsame, State.hdr_cause, BitVec.getLsbD_or, h, Bool.true_or]
  · rw [State.hdr, State.pages_cause_other _ _ _ _ _ hpage]
    exact h

section Steps

variable {moved : List Nat} {s t u : State} (h : KeepsStreams moved s t)
include h

theorem KeepsStreams.rc (r : Nat) : t.rc r = s.rc r := by rw [State.rc, h.rcvy, State.rc]

theorem KeepsStreams.counted {v : State} {po : Nat} (hc : Counted .stream 0 po v s) (hpo : po < 0x1000 := by decide)
    (hm : po ∉ moved := by decide) : Counted .stream 0 po v t :=
  counted_of_find hc (h.regs po hpo hm)

theorem KeepsStreams.alarmed {source detail : Nat} (ha : Alarmed 0x018 source detail s) : Alarmed 0x018 source detail t := by
  obtain ⟨o, ho, hcls, hrest⟩ := ha
  exact ⟨o, h.alarms o ho hcls, hcls, hrest⟩

theorem KeepsStreams.of_same (hs : u.stream.rcvy = t.stream.rcvy) (hr : u.regs = t.regs) (hp : u.pages = t.pages)
    (ha : u.alarm = t.alarm) : KeepsStreams moved s u where
  rcvy := hs.trans h.rcvy
  regs := by rw [hr]; exact h.regs
  causes := by rw [State.hdr, State.hdr, hp]; exact h.causes
  alarms := by rw [ha]; exact h.alarms

/-- An operation that leaves streams, registers, headers and alarms alone. -/
theorem KeepsStreams.of_parts (hu : ∀ pt : Part, pt = .stream ∨ pt = .regs ∨ pt = .pages ∨ pt = .alarm → pt.same t u) :
    KeepsStreams moved s u :=
  h.of_same (congrArg StreamSt.rcvy (hu .stream (.inl rfl))) (hu .regs (.inr (.inl rfl))) (hu .pages (.inr (.inr (.inl rfl))))
    (hu .alarm (.inr (.inr (.inr rfl))))

theorem KeepsStreams.foldl {α : Type} (l : List α) {f : State → α → State}
    (hf : ∀ v x, KeepsStreams moved s v → KeepsStreams moved s (f v x)) : KeepsStreams moved s (l.foldl f t) := by
  induction l generalizing t with
  | nil => exact h
  | cons x l ih => exact ih (hf t x h)

omit h in
theorem KeepsStreams.foldl_fst {α β : Type} {w : State × β} (hw : KeepsStreams moved s w.1) (l : List α)
    {f : State × β → α → State × β} (hf : ∀ v x, KeepsStreams moved s v.1 → KeepsStreams moved s (f v x).1) :
    KeepsStreams moved s (l.foldl f w).1 := by
  induction l generalizing w with
  | nil => exact hw
  | cons x l ih => exact ih (hf w x hw)

omit h in
theorem KeepsStreams.ite {c : Prop} [Decidable c] (ht : KeepsStreams moved s t) (hu : KeepsStreams moved s u) :
    KeepsStreams moved s (if c then t else u) := by
  split
  · exact ht
  · exact hu

theorem KeepsStreams.modPort (p : Nat) (f : PortSt → PortSt) : KeepsStreams moved s (t.modPort p f) := h.of_same rfl rfl rfl rfl

theorem KeepsStreams.cause (k : PageKind) (i b : Nat) : KeepsStreams moved s (t.cause k i b) where
  rcvy := h.rcvy
  regs := h.regs
  causes b' hb := t.cause_keeps k i b (h.causes b' hb)
  alarms := h.alarms

/-- A counter that is none of the STREAM page, or one of those listed. -/
theorem KeepsStreams.countN (k : PageKind) (i po n : Nat)
    (ha : pageBase k i + po < 0x3000 ∨ 0x4000 ≤ pageBase k i + po ∨ ∃ x ∈ moved, pageBase k i + po = pageBase .stream 0 + x) :
    KeepsStreams moved s (t.countN k i po n) where
  rcvy := by rw [State.countN_stream]; exact h.rcvy
  regs x hx hm := by
    refine (State.find_countN_other _ _ _ _ _ _ ?_).trans (h.regs x hx hm)
    have hbase : pageBase .stream 0 = 0x3000 := rfl
    rcases ha with ha | ha | ⟨y, hy, ha⟩
    · omega
    · omega
    · rintro heq
      exact hm (Nat.add_left_cancel (heq.trans ha) ▸ hy)
  causes b hb := by
    have hkeep := h.causes b hb
    unfold State.countN
    dsimp only
    split
    · exact hkeep
    · split
      · exact State.cause_keeps _ k i causeOvf hkeep
      · exact hkeep
  alarms := by rw [State.countN_alarm]; exact h.alarms

theorem KeepsStreams.count (k : PageKind) (po : Nat) (ha : pageBase k 0 + po < 0x3000 ∨ 0x4000 ≤ pageBase k 0 + po := by decide) :
    KeepsStreams moved s (t.count k 0 po) :=
  h.countN k 0 po 1 (ha.imp_right .inl)

theorem KeepsStreams.countP (p po : Nat) : KeepsStreams moved s (t.countP p po) :=
  h.countN .port p po 1 (.inr (.inl (by have := portReg_ge p po; omega)))

theorem KeepsStreams.countMch (i po : Nat) : KeepsStreams moved s (t.count .mch i po) :=
  h.countN .mch i po 1 (.inr (.inl (by simp only [pageBase]; omega)))

theorem KeepsStreams.raise (cls source detail : Nat) (hc : cls ≠ 0x018 := by decide) : KeepsStreams moved s (t.raise cls source detail) where
  rcvy := h.rcvy
  regs := h.regs
  causes := h.causes
  alarms o ho hcls := mem_addOcc (h.alarms o ho hcls) fun he => hc (by rw [← show o.cls = cls from he]; exact hcls)

/-! Trace records, and errors of memory (R204, R207, R302 to R305). -/

theorem KeepsStreams.loseRec (src : Nat) (space : Bool) : KeepsStreams moved s (t.loseRec src space) := by
  have hsrc : ∀ f, KeepsStreams moved s (t.modSrc src f) := fun _ => h.of_same rfl rfl rfl rfl
  cases space
  · exact (hsrc _).count .trace R.TRACE_LOST_RATE
  · exact (hsrc _).count .trace R.TRACE_LOST_FULL

theorem KeepsStreams.traceAt (src : Nat) (ev cls port : Option Nat) (frac kind : Nat) (w1 w2 w3 : Word) :
    KeepsStreams moved s (t.traceAt src ev cls port frac kind w1 w2 w3) := by
  have hsrc : ∀ n f, KeepsStreams moved s (t.modSrc n f) := fun _ _ => h.of_same rfl rfl rfl rfl
  unfold State.traceAt State.passRec
  dsimp only
  repeat' split
  · exact h.loseRec ..
  · exact h.loseRec ..
  · exact (hsrc _ _).loseRec ..
  · exact h.of_same rfl rfl rfl rfl
  · exact h

theorem KeepsStreams.eccOne (e : Nat × EccKind) : KeepsStreams moved s (t.eccOne e) := by
  have hpoison : ∀ l, KeepsStreams moved s { t with poison := l } := fun _ => h.of_same rfl rfl rfl rfl
  unfold State.eccOne State.linkErr
  dsimp only
  repeat' split
  · exact h
  · exact h.countMch ..
  · exact (h.countMch ..).raise ..
  · exact h
  · exact ((hpoison _).countMch ..).raise ..

theorem KeepsStreams.store (a : Nat) (bs : List Byte) : KeepsStreams moved s (t.store a bs) := by
  have herrs : ∀ l, KeepsStreams moved s { t with errs := l } := fun _ => h.of_same rfl rfl rfl rfl
  refine KeepsStreams.of_same (t := t.linkTake a bs.length) ((herrs _).foldl _ fun _ e hv => hv.eccOne e) ?_ ?_ ?_ ?_
  all_goals
    unfold State.store State.blur
    split <;> rfl

/-! Jobs that finish (R226, R235 to R246). -/

theorem KeepsStreams.notifyRing (c later : Nat) : KeepsStreams moved s (t.notifyRing c later) := by
  have hring : ∀ f, KeepsStreams moved s (t.modRing c f) := fun _ => h.of_same rfl rfl rfl rfl
  have hpending : ∀ v core, KeepsStreams moved s v → KeepsStreams moved s { v with core } := fun _ _ hv => hv.of_same rfl rfl rfl rfl
  unfold State.notifyRing State.notifyId State.signal
  exact .ite (((hpending _ _ (hring _)).count .global R.GLOBAL_IRQ_SIGNALS).of_same rfl rfl rfl rfl)
    ((hring _).count .global R.GLOBAL_IRQ_UNROUTED)

theorem KeepsStreams.episode (c later : Nat) (sent : Bool) : KeepsStreams moved s (t.episode c later sent) := by
  have hring : ∀ f, KeepsStreams moved s (t.modRing c f) := fun _ => h.of_same rfl rfl rfl rfl
  have hfull := fun f => ((hring f).count .xfer R.XFER_CQ_FULL_EPISODES).raise 0x01E c 0
  unfold State.episode
  dsimp only
  repeat' split
  · exact (hfull _).notifyRing _ _
  · exact hfull _
  · exact hring _
  · exact h

theorem KeepsStreams.complete (c queue : Nat) (lo hi : Word) : KeepsStreams moved s (t.complete c queue lo hi) := by
  unfold State.complete State.putEntry
  dsimp only
  split
  · exact h.of_same rfl rfl rfl rfl
  · have hput : ∀ a bs f, KeepsStreams moved s (((t.store a bs).count .xfer 0 R.XFER_COMPLETIONS).modRing c f) := fun a bs f =>
      ((h.store a bs).count .xfer R.XFER_COMPLETIONS).of_same rfl rfl rfl rfl
    exact (KeepsStreams.ite ((hput _ _ _).notifyRing _ _) (hput _ _ _)).episode _ _ _

theorem KeepsStreams.sample (g k c v : Nat) : KeepsStreams moved s (t.sample g k c v) := by
  have hcnt : ∀ cnt, KeepsStreams moved s { t with cnt } := fun _ => h.of_same rfl rfl rfl rfl
  exact .ite (.ite ((hcnt _).cause ..) (hcnt _)) h

theorem KeepsStreams.sampleOther (v : Nat) : KeepsStreams moved s (t.sampleOther v) := by
  have hcnt : ∀ cnt, KeepsStreams moved s { t with cnt } := fun _ => h.of_same rfl rfl rfl rfl
  exact .ite (.ite ((hcnt _).cause ..) (hcnt _)) h

theorem KeepsStreams.finishAt (at_ : Nat) (j : Job) (status : Nat) : KeepsStreams moved s (t.finishAt at_ j status) := by
  have hlost : ∀ xfer, KeepsStreams moved s (if j.tsLost = true then ({ t with xfer } : State).count .xfer 0 R.XFER_TS_LOST_JOBS
      else { t with xfer }) := fun xfer =>
    .ite ((h.of_same (u := { t with xfer }) rfl rfl rfl rfl).count .xfer R.XFER_TS_LOST_JOBS) (h.of_same rfl rfl rfl rfl)
  unfold State.finishAt
  dsimp only
  refine (KeepsStreams.traceAt ?_ ..).complete ..
  split
  · split
    · exact (hlost _).sample ..
    · exact (hlost _).sampleOther _
  · exact (hlost _).sampleOther _

theorem KeepsStreams.departs : KeepsStreams moved s t.departs := h.foldl _ fun _ _ hv => hv.finishAt ..

theorem KeepsStreams.settle (id : Nat) : KeepsStreams moved s (t.settle id) := by
  unfold State.settle
  split
  · exact .ite (h.finishAt ..) h
  · exact h

theorem KeepsStreams.pace : KeepsStreams moved s t.pace := by
  refine h.foldl _ fun v c hv => ?_
  have hchan : ∀ mover, KeepsStreams moved s { v with mover } := fun _ => hv.of_same rfl rfl rfl rfl
  exact .ite (.ite ((hchan _).count .mover R.MOVER_PACE_STOPS) (hchan _)) hv

/-! Frames that enter a transmit buffer, and those discarded there (R104, R140, R167, R168). -/

theorem KeepsStreams.dropFrame (p : Nat) (fr : TxFrame) (d : Drop) : KeepsStreams moved s (t.dropFrame p fr d) := by
  have hlost : ∀ v status, KeepsStreams moved s v → KeepsStreams moved s (v.replicaLost fr status) := fun v status hv =>
    hv.of_parts (by rintro _ (rfl | rfl | rfl | rfl) <;> simp [Part.same_refl])
  exact hlost _ _ ((h.countP ..).traceAt ..)

theorem KeepsStreams.purgeHeads (p : Nat) : KeepsStreams moved s (t.purgeHeads p) := by
  unfold State.purgeHeads
  dsimp only
  refine KeepsStreams.modPort (KeepsStreams.foldl_fst (h.modPort p _) _ fun u fr hu => ?_) p _
  split
  · exact hu
  · split
    · exact hu.dropFrame ..
    · exact hu

theorem KeepsStreams.windowLost (p c close : Nat) : KeepsStreams moved s (t.windowLost p c close) := .ite h ((h.modPort p _).countP ..)

theorem KeepsStreams.countEaten (p : Nat) : KeepsStreams moved s (t.countEaten p) := by
  have heads := h.foldl classesDown (f := fun v c => v.countEatenHead p c) fun v c hv => by
    unfold State.countEatenHead
    repeat' split
    · exact hv.windowLost ..
    · exact hv
    · exact hv
  unfold State.countEaten State.countEatenRest
  repeat' split
  · exact heads.windowLost ..
  · exact heads
  · exact heads

theorem KeepsStreams.arrived (p : Nat) : KeepsStreams moved s (t.arrived p) := (h.purgeHeads p).departs.pace.countEaten p

end Steps

/-! Reports (R311 to R313). -/

section Reports

variable {s t : State} (h : KeepsStreams genRegs s t)
include h

theorem KeepsStreams.replicate (handle cls typ : Nat) (tagged : Bool) (hd : Hdr) (payload : List Byte) (origin : Nat → Origin)
    (loaded ts : Bool) (needBit : Option Nat) (ports : List Nat) :
    KeepsStreams genRegs s (t.replicate handle cls typ tagged hd payload origin loaded ts needBit ports) := by
  have hseq : ∀ gen, KeepsStreams genRegs s { t with stream := { t.stream with gen } } := fun _ => h.of_same rfl rfl rfl rfl
  have hgen : ∀ {v : State} {po : Nat}, KeepsStreams genRegs s v → po ∈ genRegs → KeepsStreams genRegs s (v.count .stream 0 po) :=
    fun hv hpo => hv.countN .stream 0 _ 1 (.inr (.inr ⟨_, hpo, rfl⟩))
  exact (hgen (hseq _) (by decide)).foldl _ fun _ x hv =>
    .ite (hv.countP ..) ((hgen (hv.modPort x.1 _) (by decide)).countP ..)

theorem KeepsStreams.modFault (f : FaultSt → FaultSt) : KeepsStreams genRegs s (t.modFault f) := h.of_same rfl rfl rfl rfl

theorem KeepsStreams.faultIn (r : FaultReport) : KeepsStreams genRegs s (t.faultIn r) :=
  .ite (h.count .fault R.FAULT_RX_NOT_READY) (.ite ((h.count .fault R.FAULT_AGG_QUEUE_FULL).raise ..) (h.modFault _))

theorem KeepsStreams.sendReport (r : FaultReport) : KeepsStreams genRegs s (t.sendReport r) := by
  have hsent : ∀ {v : State}, KeepsStreams genRegs s v →
      KeepsStreams genRegs s (v.count .fault 0 (if r.resolved then R.FAULT_TX_RESOLVED else R.FAULT_TX_SENT)) := fun hv =>
    hv.count .fault _ (by cases r.resolved <;> decide)
  unfold State.sendReport
  dsimp only
  refine .ite ((hsent h).faultIn _) (.ite h ?_)
  split
  · exact h.count .fault R.FAULT_TX_FAILED
  · exact hsent ((h.replicate ..).foldl _ fun _ p hv => hv.arrived p)

theorem KeepsStreams.limit (node port code detail : Nat) : KeepsStreams genRegs s (t.limit node port code detail) := by
  unfold State.limit
  dsimp only
  split
  · exact .ite (h.count .fault R.FAULT_TX_NO_SLOT) ((h.modFault _).sendReport _)
  · exact .ite ((h.modFault _).sendReport _) (h.modFault _)

theorem KeepsStreams.report (code : Nat) (subject : Option (Nat × Nat)) (detail : Nat) :
    KeepsStreams genRegs s (t.report code subject detail) := by
  unfold State.report
  split
  · split
    · exact h.count .fault R.FAULT_TX_NO_SUBJECT
    · exact h.limit ..
  · exact h

end Reports

end Sys2Proof.Machine
end

section
/-! SUPPORT. Sequence recovery: what a frame does to the history of its recovery entry, and a frame at the hub: the proof of O42 (R165,
R171). -/

namespace Sys2Proof.Machine

open Sys2Proof

/-! The state of a recovery entry. -/

@[simp] theorem State.rc_modRc_same (s : State) (r : Nat) (f : RcvySt → RcvySt) : (s.modRc r f).rc r = f (s.rc r) := by
  simp [State.rc, State.modRc]

theorem State.rc_modRc_other (s : State) {r j : Nat} (f : RcvySt → RcvySt) (h : j ≠ r) : (s.modRc r f).rc j = s.rc j := by
  simp [State.rc, State.modRc, smGet_smMod_other _ _ _ _ _ _ h]

theorem State.rc_congr {s t : State} (h : t.stream.rcvy = s.stream.rcvy) (r : Nat) : t.rc r = s.rc r := by
  rw [State.rc, h, State.rc]

/-- Of the recovery entries, a count changes one counter of its own. -/
theorem State.rc_rcCount (s : State) (r i j : Nat) {n : Nat} (hn : n ≠ 0) :
    (s.rcCount r i n).rc j = (s.modRc r fun e => { e with ctrs := e.ctrs.modify i fun w => ctrAdd w n }).rc j := by
  have hmod : ∀ (u : State) (f : RcvySt → RcvySt), u.stream = s.stream → (u.modRc r f).stream = (s.modRc r f).stream := by
    intro u f hu
    simp only [State.modRc, hu]
  refine State.rc_congr (congrArg StreamSt.rcvy ?_) j
  unfold State.rcCount
  dsimp only
  rw [if_neg hn]
  repeat' split
  · exact hmod _ _ rfl
  · exact hmod _ _ rfl
  · rw [State.countN_stream]
    exact hmod _ _ rfl
  · rw [State.countN_stream]

/-! What recovery reads and sets of an entry (R171). -/

/-- The number of the last frame, the history and TAKE_ANY are the same. -/
structure RcvySt.SameHistory (e f : RcvySt) : Prop where
  rseq : f.rseq = e.rseq
  hist : f.hist = e.hist
  takeAny : f.takeAny = e.takeAny

theorem RcvySt.SameHistory.refl (e : RcvySt) : e.SameHistory e := ⟨rfl, rfl, rfl⟩

theorem RcvySt.SameHistory.marked {e f : RcvySt} (h : e.SameHistory f) (l n : Nat) : f.marked l n ↔ e.marked l n := by
  rw [RcvySt.marked, h.rseq, h.hist, RcvySt.marked]

/-- How far a sequence number is ahead of the last one of an entry. -/
def RcvySt.ahead (e : RcvySt) (seq : Nat) : Int := sext 16 (toField 16 ((seq : Int) - e.rseq))

/-- What one frame does to the history of an entry, and whether it passes (R171). -/
def RcvySt.judge (e : RcvySt) (lo : Word) (seq : Nat) : RcvySt × Bool :=
  let l := rcLen lo
  let d := e.ahead seq
  if rcMatch lo then
    if e.takeAny then ({ e with rseq := seq, takeAny := false }, true)
    else if seq = e.rseq then (e, false)
    else ({ e with rseq := seq }, true)
  else if e.takeAny then ({ e with rseq := seq, hist := 2 ^ l - 1, takeAny := false }, true)
  else if (l : Int) ≤ d ∨ d ≤ -(l : Int) then (e, false)
  else if d ≤ 0 then
    if nbit e.hist (-d).toNat then (e, false) else ({ e with hist := e.hist ||| 2 ^ (-d).toNat }, true)
  else ({ e with hist := (e.hist * 2 ^ d.toNat + 1) % 2 ^ l, rseq := seq }, true)

/-- The judgement reads nothing of an entry but its history. -/
theorem RcvySt.SameHistory.judge {e f : RcvySt} (h : e.SameHistory f) (lo : Word) (seq : Nat) :
    (e.judge lo seq).1.SameHistory (f.judge lo seq).1 ∧ (f.judge lo seq).2 = (e.judge lo seq).2 := by
  unfold RcvySt.judge RcvySt.ahead
  dsimp only
  rw [h.rseq, h.hist, h.takeAny]
  repeat' split
  all_goals exact ⟨by constructor <;> simp [h.rseq, h.hist, h.takeAny], rfl⟩

section Entry

variable {s : State} {r : Nat} {e : RcvySt} (h : e.SameHistory (s.rc r))
include h

theorem RcvySt.SameHistory.modRc {f : RcvySt → RcvySt} {e' : RcvySt} (hf : ∀ x, e.SameHistory x → e'.SameHistory (f x)) :
    e'.SameHistory ((s.modRc r f).rc r) := by
  rw [State.rc_modRc_same]
  exact hf _ h

theorem RcvySt.SameHistory.rcCount (i n : Nat) : e.SameHistory ((s.rcCount r i n).rc r) := by
  by_cases hn : n = 0
  · simpa [State.rcCount, hn] using h
  · rw [State.rc_rcCount s r i r hn]
    exact h.modRc fun _ hx => ⟨hx.rseq, hx.hist, hx.takeAny⟩

theorem RcvySt.SameHistory.countIf (c : Prop) [Decidable c] (i n : Nat) :
    e.SameHistory ((if c then s.rcCount r i n else s).rc r) := by
  split
  · exact h.rcCount i n
  · exact h

theorem RcvySt.SameHistory.rcPass (src : Nat) : e.SameHistory ((s.rcPass r src).rc r) :=
  (h.rcCount 0 1).modRc fun _ hx => ⟨hx.rseq, hx.hist, hx.takeAny⟩

theorem RcvySt.SameHistory.discarded : e.SameHistory (((s.rcCount r 1 1).modRc r fun x => { x with testD := x.testD + 1 }).rc r) :=
  (h.rcCount 1 1).modRc fun _ hx => ⟨hx.rseq, hx.hist, hx.takeAny⟩

end Entry

/-- Recovery does what the judgement says. -/
theorem State.rcMain_judge (s : State) (r seq src : Nat) (lo : Word) :
    ((s.rc r).judge lo seq).1.SameHistory ((s.rcMain r seq src lo).1.rc r) ∧
    (s.rcMain r seq src lo).2 = ((s.rc r).judge lo seq).2 := by
  have hs := RcvySt.SameHistory.refl (s.rc r)
  have hcount := fun (c : Prop) [Decidable c] => hs.countIf c 2 1
  unfold State.rcMain RcvySt.judge RcvySt.ahead
  dsimp only
  by_cases hmatch : rcMatch lo = true
  · rw [if_pos hmatch, if_pos hmatch]
    split
    · refine ⟨RcvySt.SameHistory.rcPass (hs.modRc fun x hx => ?_) src, rfl⟩
      exact ⟨rfl, hx.hist, rfl⟩
    · split
      · exact ⟨hs.discarded, rfl⟩
      · refine ⟨RcvySt.SameHistory.rcPass ((hcount _).modRc fun x hx => ?_) src, rfl⟩
        exact ⟨rfl, hx.hist, hx.takeAny⟩
  · rw [if_neg hmatch, if_neg hmatch]
    split
    · refine ⟨RcvySt.SameHistory.rcPass (hs.modRc fun x hx => ?_) src, rfl⟩
      exact ⟨rfl, rfl, rfl⟩
    split
    · exact ⟨hs.rcCount 3 1, rfl⟩
    split
    · split
      · exact ⟨hs.discarded, rfl⟩
      · refine ⟨RcvySt.SameHistory.rcPass ((hs.modRc fun x hx => ?_).rcCount 2 1) src, rfl⟩
        exact ⟨hx.rseq, congrArg (· ||| _) hx.hist, hx.takeAny⟩
    · refine ⟨RcvySt.SameHistory.rcPass (((hcount _).rcCount 4 _).modRc fun x hx => ?_) src, rfl⟩
      exact ⟨rfl, congrArg (fun n => (n * _ + 1) % _) hx.hist, hx.takeAny⟩

/-! The judgement of one frame after another (R171). -/

theorem RcvySt.judge_takeAny {e : RcvySt} (h : e.takeAny = true) (lo : Word) (seq : Nat) :
    (e.judge lo seq).2 = true ∧ (e.judge lo seq).1.rseq = seq ∧ (e.judge lo seq).1.takeAny = false ∧
    (rcMatch lo = false → (e.judge lo seq).1.hist = 2 ^ rcLen lo - 1) := by
  unfold RcvySt.judge
  dsimp only
  rw [h]
  by_cases hmatch : rcMatch lo = true <;> simp [hmatch]

/-- The match algorithm discards the number of the last frame that passed. -/
theorem RcvySt.judge_match_again {e : RcvySt} {lo : Word} (hmatch : rcMatch lo = true) (ht : e.takeAny = false) :
    (e.judge lo e.rseq).2 = false := by
  simp [RcvySt.judge, hmatch, ht]

theorem RcvySt.judge_match_passes {e : RcvySt} {lo : Word} {seq : Nat} (hmatch : rcMatch lo = true) (h : (e.judge lo seq).2 = true) :
    (e.judge lo seq).1.rseq = seq ∧ (e.judge lo seq).1.takeAny = false := by
  revert h
  unfold RcvySt.judge
  dsimp only
  rw [if_pos hmatch]
  by_cases ht : e.takeAny = true
  · simp [ht]
  · by_cases hseq : seq = e.rseq <;> simp [ht, hseq]

/-- The signed difference of two sequence numbers: how far the first is ahead of the second, or how far it is behind. -/
theorem sext_diff {a b : Nat} (ha : a < 2 ^ 16) (hb : b < 2 ^ 16) : sext 16 (toField 16 ((a : Int) - b)) =
    if (a + 2 ^ 16 - b) % 2 ^ 16 < 2 ^ 15 then (((a + 2 ^ 16 - b) % 2 ^ 16 : Nat) : Int) else -(((b + 2 ^ 16 - a) % 2 ^ 16 : Nat) : Int) := by
  have hfield : toField 16 ((a : Int) - b) = (a + 2 ^ 16 - b) % 2 ^ 16 := by
    unfold toField
    omega
  rw [hfield, sext]
  split <;> split <;> omega

theorem RcvySt.ahead_self (e : RcvySt) : e.ahead e.rseq = 0 := by simp [RcvySt.ahead, sext, toField]

/-- The vector algorithm discards the number of the last frame when the history marks it. -/
theorem RcvySt.judge_vector_again {e : RcvySt} {lo : Word} (hmatch : rcMatch lo = false) (hlen : 1 ≤ rcLen lo) (ht : e.takeAny = false)
    (hbit : nbit e.hist 0 = true) : (e.judge lo e.rseq).2 = false := by
  have hin : ¬ ((rcLen lo : Int) ≤ 0 ∨ (0 : Int) ≤ -(rcLen lo : Int)) := by omega
  unfold RcvySt.judge
  dsimp only
  rw [RcvySt.ahead_self, hmatch, ht, if_neg hin]
  simp [hbit]

theorem nbit_ones {l k : Nat} (h : k < l) : nbit (2 ^ l - 1) k = true := by
  simp [nbit, Nat.testBit_two_pow_sub_one, h]

theorem nbit_mark (x k : Nat) : nbit (x ||| 2 ^ k) k = true := by simp [nbit, Nat.testBit_two_pow_self]

theorem nbit_mark_keeps {x j : Nat} (k : Nat) (h : nbit x j = true) : nbit (x ||| 2 ^ k) j = true := by
  rw [nbit] at *
  rw [Nat.testBit_or, h, Bool.true_or]

/-- A history that has moved on by n numbers marks the new number, and what it marked n places further. -/
theorem nbit_moved {x n l : Nat} (hn : 0 < n) (hl : 0 < l) :
    nbit ((x * 2 ^ n + 1) % 2 ^ l) 0 = true ∧ ∀ k, k + n < l → nbit ((x * 2 ^ n + 1) % 2 ^ l) (k + n) = nbit x k := by
  have hone : 1 < 2 ^ n := Nat.one_lt_two_pow (by omega)
  have hbit : ∀ j, nbit ((x * 2 ^ n + 1) % 2 ^ l) j = (decide (j < l) && if j < n then Nat.testBit 1 j else x.testBit (j - n)) := by
    intro j
    rw [nbit, Nat.testBit_mod_two_pow, Nat.mul_comm, Nat.testBit_two_pow_mul_add _ hone]
  refine ⟨by simp [hbit, hl, hn], fun k hk => ?_⟩
  rw [hbit, if_neg (by omega), Nat.add_sub_cancel]
  simp [hk, nbit]

section Vector

variable {e : RcvySt} {lo : Word} {seq : Nat}

/-- The vector algorithm discards a frame whose number the history marks or that lies too far off; it marks the number of one that is
behind the last; one ahead moves the history on. -/
theorem RcvySt.judge_vector (hmatch : rcMatch lo = false) (ht : e.takeAny = false) : let l := rcLen lo
    let d := e.ahead seq
    ((-(l : Int) < d → d ≤ 0 → nbit e.hist (-d).toNat = true) ∧ e.judge lo seq = (e, false)) ∨
    (-(l : Int) < d ∧ d ≤ 0 ∧ nbit e.hist (-d).toNat = false ∧
      e.judge lo seq = ({ e with hist := e.hist ||| 2 ^ (-d).toNat }, true)) ∨
    (0 < d ∧ d < l ∧ e.judge lo seq = ({ e with hist := (e.hist * 2 ^ d.toNat + 1) % 2 ^ l, rseq := seq }, true)) := by
  intro l d
  unfold RcvySt.judge
  dsimp only
  rw [hmatch, ht, if_neg Bool.false_ne_true, if_neg Bool.false_ne_true]
  by_cases hfar : (l : Int) ≤ d ∨ d ≤ -(l : Int)
  · rw [if_pos hfar]
    exact .inl ⟨fun _ _ => by omega, rfl⟩
  rw [if_neg hfar]
  by_cases hle : d ≤ 0
  · rw [if_pos hle]
    by_cases hbit : nbit e.hist (-d).toNat = true
    · rw [if_pos hbit]
      exact .inl ⟨fun _ _ => hbit, rfl⟩
    · rw [if_neg hbit]
      exact .inr (.inl ⟨by omega, hle, by simpa using hbit, rfl⟩)
  · rw [if_neg hle]
    exact .inr (.inr ⟨by omega, by omega, rfl⟩)

/-- A frame behind the last one, whose number has been marked, is discarded. -/
theorem RcvySt.judge_behind_again (hmatch : rcMatch lo = false) (ht : e.takeAny = false) (hle : e.ahead seq ≤ 0) :
    (({ e with hist := e.hist ||| 2 ^ (-e.ahead seq).toNat } : RcvySt).judge lo seq).2 = false := by
  obtain ⟨f, hf⟩ : ∃ f : RcvySt, f = { e with hist := e.hist ||| 2 ^ (-e.ahead seq).toNat } := ⟨_, rfl⟩
  have hahead : f.ahead seq = e.ahead seq := by rw [hf]; rfl
  have hbit : nbit f.hist (-f.ahead seq).toNat = true := by rw [hahead, hf]; exact nbit_mark _ _
  rw [← hf]
  rcases RcvySt.judge_vector (e := f) (seq := seq) hmatch (by rw [hf]; exact ht) with ⟨-, hj⟩ | ⟨-, -, hclear, -⟩ | ⟨hpos, -, -⟩
  · rw [hj]
  · rw [hbit] at hclear
    cases hclear
  · omega

/-- A frame that has passed is discarded when the same number comes again at once. -/
theorem RcvySt.judge_again (hlo : rcMatch lo = true ∨ 1 ≤ rcLen lo) (h : (e.judge lo seq).2 = true) :
    ((e.judge lo seq).1.judge lo seq).2 = false := by
  by_cases hmatch : rcMatch lo = true
  · obtain ⟨hseq, htake⟩ := RcvySt.judge_match_passes hmatch h
    have hagain := RcvySt.judge_match_again hmatch htake
    rwa [hseq] at hagain
  have hvector : rcMatch lo = false := by simpa using hmatch
  have hlen : 1 ≤ rcLen lo := hlo.resolve_left hmatch
  have hlast : ∀ f : RcvySt, f.rseq = seq → f.takeAny = false → nbit f.hist 0 = true → (f.judge lo seq).2 = false := by
    rintro f rfl htake hbit
    exact RcvySt.judge_vector_again hvector hlen htake hbit
  by_cases ht : e.takeAny = true
  · obtain ⟨-, hseq, htake, hhist⟩ := RcvySt.judge_takeAny ht lo seq
    exact hlast _ hseq htake (by rw [hhist hvector]; exact nbit_ones hlen)
  have htake : e.takeAny = false := by simpa using ht
  rcases RcvySt.judge_vector hvector htake with ⟨-, hj⟩ | ⟨-, hle, -, hj⟩ | ⟨hpos, -, hj⟩
  · rw [hj] at h
    cases h
  · rw [hj]
    exact RcvySt.judge_behind_again hvector htake hle
  · rw [hj]
    exact hlast _ rfl htake (nbit_moved (by omega) hlen).1

variable (hmatch : rcMatch lo = false) (ht : e.takeAny = false) (hlen : rcLen lo ≤ 128) (hr : e.rseq < 2 ^ 16) (hs : seq < 2 ^ 16)

include hr hs in
/-- The difference of two sequence numbers, in the terms in which the history marks them. -/
theorem RcvySt.ahead_behind : let behind : Nat := (e.rseq + 2 ^ 16 - seq) % 2 ^ 16
    (behind ≤ 2 ^ 15 → e.ahead seq = -(behind : Int)) ∧ (2 ^ 15 < behind → e.ahead seq = (2 ^ 16 - behind : Nat)) := by
  intro behind
  rw [RcvySt.ahead, sext_diff hs hr]
  split <;> omega

include hmatch ht hlen hr hs

theorem RcvySt.judge_marked (h : e.marked (rcLen lo) seq) : (e.judge lo seq).2 = false := by
  obtain ⟨hlt, hbit⟩ := h
  have hahead := (RcvySt.ahead_behind hr hs).1 (by omega)
  rcases RcvySt.judge_vector (seq := seq) hmatch ht with ⟨-, hj⟩ | ⟨-, -, hclear, -⟩ | ⟨hpos, -, -⟩
  · rw [hj]
  · rw [hahead, Int.neg_neg, Int.toNat_natCast, hbit] at hclear
    cases hclear
  · omega

theorem RcvySt.judge_marks (hpos : 1 ≤ rcLen lo) (h : (e.judge lo seq).2 = true) : (e.judge lo seq).1.marked (rcLen lo) seq := by
  obtain ⟨hnear, hfar⟩ := RcvySt.ahead_behind hr hs
  rcases RcvySt.judge_vector (seq := seq) hmatch ht with ⟨-, hj⟩ | ⟨hlt, hle, -, hj⟩ | ⟨hahead, hin, hj⟩
  · rw [hj] at h
    cases h
  · have hbehind : (-e.ahead seq).toNat = (e.rseq + 2 ^ 16 - seq) % 2 ^ 16 := by omega
    rw [hj, hbehind]
    exact ⟨by dsimp only; omega, nbit_mark _ _⟩
  · have hself : (seq + 2 ^ 16 - seq) % 2 ^ 16 = 0 := by omega
    rw [hj, RcvySt.marked]
    dsimp only
    rw [hself]
    exact ⟨hpos, (nbit_moved (by omega) hpos).1⟩

/-- A marked number stays so until it leaves the history. -/
theorem RcvySt.judge_keepsMarks {n : Nat} (hn : n < 2 ^ 16) (h : e.marked (rcLen lo) n) :
    (e.judge lo seq).1.marked (rcLen lo) n ∨ rcLen lo ≤ ((e.judge lo seq).1.rseq + 2 ^ 16 - n) % 2 ^ 16 := by
  obtain ⟨hlt, hbit⟩ := h
  obtain ⟨hnear, hfar⟩ := RcvySt.ahead_behind hr hs
  rcases RcvySt.judge_vector (seq := seq) hmatch ht with ⟨-, hj⟩ | ⟨-, -, -, hj⟩ | ⟨hahead, hin, hj⟩
  · rw [hj]
    exact .inl ⟨hlt, hbit⟩
  · rw [hj]
    exact .inl ⟨hlt, nbit_mark_keeps _ hbit⟩
  · have hdist : (seq + 2 ^ 16 - n) % 2 ^ 16 = (e.rseq + 2 ^ 16 - n) % 2 ^ 16 + (e.ahead seq).toNat := by omega
    rw [hj, RcvySt.marked]
    dsimp only
    rw [hdist]
    by_cases hleft : (e.rseq + 2 ^ 16 - n) % 2 ^ 16 + (e.ahead seq).toNat < rcLen lo
    · exact .inl ⟨hleft, ((nbit_moved (by omega) (by omega)).2 _ hleft).trans hbit⟩
    · exact .inr (by omega)

end Vector

/-! A frame at the hub (R165, R171). -/

theorem State.rcMain_history {s u : State} {r : Nat} (h : (s.rc r).SameHistory (u.rc r)) (seq src : Nat) (lo : Word) :
    ((s.rcMain r seq src lo).1.rc r).SameHistory ((u.rcMain r seq src lo).1.rc r) ∧
    (u.rcMain r seq src lo).2 = (s.rcMain r seq src lo).2 := by
  obtain ⟨hs, hsp⟩ := s.rcMain_judge r seq src lo
  obtain ⟨hu, hup⟩ := u.rcMain_judge r seq src lo
  obtain ⟨hj, hjp⟩ := h.judge lo seq
  exact ⟨⟨hu.rseq.trans (hj.rseq.trans hs.rseq.symm), hu.hist.trans (hj.hist.trans hs.hist.symm),
    hu.takeAny.trans (hj.takeAny.trans hs.takeAny.symm)⟩, hup.trans (hjp.trans hsp.symm)⟩

/-- A frame of a port that is no member is discarded. -/
theorem State.recover_notMember {s : State} {r port : Nat} (seq cyc src : Nat)
    (h : port ∉ rcPorts (s.live.word (offRcvy r)) (s.live.word (offRcvy r + 8))) : (s.recover r port seq cyc src).2 = false := by
  have hnone : (rcPorts (s.live.word (offRcvy r)) (s.live.word (offRcvy r + 8))).findIdx? (fun p => p == port) = none := by
    rw [List.findIdx?_eq_none_iff]
    intro p hp
    have hne : p ≠ port := fun heq => h (heq ▸ hp)
    simpa using hne
  unfold State.recover
  dsimp only
  rw [hnone]

/-- A frame of a member, without individual recovery and a cut guard, is counted and comes to recovery proper. -/
theorem State.recover_member {s : State} {r port m : Nat} (seq cyc src : Nat)
    (hm : (rcPorts (s.live.word (offRcvy r)) (s.live.word (offRcvy r + 8))).findIdx? (fun p => p == port) = some m)
    (hi : rcIndiv (s.live.word (offRcvy r)) = false) (hg : (s.rc r).guard = false) :
    s.recover r port seq cyc src = (s.rcCount r (9 + m) 1).rcMain r seq src (s.live.word (offRcvy r)) := by
  have hguard : ((s.rcCount r (9 + m) 1).rc r).guard = false := by
    rw [State.rc_rcCount s r (9 + m) r one_ne_zero, State.rc_modRc_same]
    exact hg
  unfold State.recover
  dsimp only
  rw [hm]
  simp only [hi, hguard, Bool.false_eq_true, false_and, if_false]

theorem State.stage6_recovers {s : State} {x : HubFrame} {i : Nat} (hi : s.live.identify (hdrOf x.frame.body).handle = some i)
    (hr : stRcvy (s.live.word (offStream i)) = true) : s.stage6 x =
      (s.count .stream 0 R.STREAM_RX_IDENTIFIED).recover (stIndex (s.live.word (offStream i))) x.port (hdrOf x.frame.body).seq
        (hdrOf x.frame.body).cycle (hdrOf x.frame.body).src := by
  unfold State.stage6
  dsimp only
  rw [hi]
  dsimp only
  rw [if_pos hr]

/-- From stage 7 on, a frame changes no recovery entry. -/
theorem State.rcvy_land (s : State) (x : HubFrame) : (s.land x).stream.rcvy = s.stream.rcvy := by
  have hstream : ∀ {u v : State}, Part.stream.same u v → v.stream.rcvy = u.stream.rcvy := congrArg StreamSt.rcvy
  unfold State.land
  dsimp only
  split
  next chk z _ =>
    have hreject : (s.rejectReport (hdrOf x.frame.body).src z chk).stream.rcvy = s.stream.rcvy := by
      have hrej : (s.reject (hdrOf x.frame.body).src z chk).1.stream.rcvy = s.stream.rcvy := hstream (by simp [Part.same_refl])
      unfold State.rejectReport
      dsimp only
      split
      · exact ((KeepsStreams.refl genRegs _).report ..).rcvy.trans hrej
      · exact hrej
    exact (hstream (by simp [Part.same_refl])).trans hreject
  · split
    · exact hstream (by simp [Part.same_refl])
    · exact hstream (by simp [Part.same_refl])

theorem State.rcvy_afterStage6 (s : State) (x : HubFrame) : (s.afterStage6 x).stream.rcvy = s.stream.rcvy := by
  have hstream : ∀ {v : State}, Part.stream.same s v → v.stream.rcvy = s.stream.rcvy := congrArg StreamSt.rcvy
  unfold State.afterStage6
  dsimp only
  split
  · exact s.rcvy_land x
  repeat' split
  · exact hstream (by simp [Part.same_refl])
  · exact hstream (by simp [Part.same_refl])
  · exact hstream (by simp [Part.same_refl])

/-- A frame that recovery takes at the hub: what it does to its entry, and that it goes no further when it is discarded. -/
theorem hubReceive_recovers {s : State} {x : HubFrame} {i m r : Nat} {lo : Word} (hx : s.nextHub = some x)
    (hi : s.live.identify (hdrOf x.frame.body).handle = some i) (hrcvy : stRcvy (s.live.word (offStream i)) = true)
    (hr : r = stIndex (s.live.word (offStream i))) (hlo : lo = s.live.word (offRcvy r))
    (hm : (rcPorts lo (s.live.word (offRcvy r + 8))).findIdx? (fun p => p == x.port) = some m) (hindiv : rcIndiv lo = false)
    (hguard : (s.rc r).guard = false) :
    Answers (.hubReceive []) s fun t => let v := s.rcMain r (hdrOf x.frame.body).seq (hdrOf x.frame.body).src lo
      (v.1.rc r).SameHistory (t.rc r) ∧
      (v.2 = false → t.mem = s.mem ∧ t.lz = s.lz ∧ t.evt = s.evt ∧ t.sq = s.sq ∧ t.fault.queue = s.fault.queue) := by
  obtain ⟨u, hu⟩ : ∃ u, u = (s.hubTaken [] x).count .stream 0 R.STREAM_RX_IDENTIFIED := ⟨_, rfl⟩
  have hlive : u.live = s.live := by rw [hu, State.live_congr (State.count_slate ..), State.hubTaken_live]
  have hrc : u.rc r = s.rc r := State.rc_congr (by rw [hu, State.count_stream, State.hubTaken, State.atLeast_stream]; rfl) r
  obtain ⟨w, hw⟩ : ∃ w, w = (u.rcCount r (9 + m) 1).rcMain r (hdrOf x.frame.body).seq (hdrOf x.frame.body).src lo := ⟨_, rfl⟩
  have hstage : (s.hubTaken [] x).stage6 x = w := by
    rw [State.stage6_recovers (by rw [State.hubTaken_live]; exact hi) (by rw [State.hubTaken_live]; exact hrcvy), ← hu,
      State.hubTaken_live, ← hr, State.recover_member _ _ _ (by rw [hlive, ← hlo]; exact hm) (by rw [hlive, ← hlo]; exact hindiv)
      (by rw [hrc]; exact hguard), hlive, ← hlo, hw]
  have hcounted : (s.rc r).SameHistory ((u.rcCount r (9 + m) 1).rc r) :=
    RcvySt.SameHistory.rcCount (by rw [hrc]; exact .refl _) (9 + m) 1
  obtain ⟨hhist, hpass⟩ := State.rcMain_history hcounted (hdrOf x.frame.body).seq (hdrOf x.frame.body).src lo
  rw [← hw] at hhist hpass
  refine ⟨_, exec_hubReceive [] hx, ?_⟩
  rw [hstage]
  dsimp only
  rw [← hpass]
  cases hw2 : w.2 with
  | true =>
    have hlater : (w.1.afterStage6 x).pace.stream.rcvy = w.1.stream.rcvy :=
      ((KeepsStreams.refl [] (w.1.afterStage6 x)).pace.rcvy).trans (w.1.rcvy_afterStage6 x)
    refine ⟨?_, nofun⟩
    rw [if_pos rfl, State.rc_congr hlater]
    exact hhist
  | false =>
    have hlater : (w.1.traceHub x 6 none).stream = w.1.stream := show Part.stream.same w.1 _ by simp [Part.same_refl]
    have hsame : ∀ pt ∈ [Part.memory, .lz, .evt, .sq, .fault], pt.same s (w.1.traceHub x 6 none) := by
      have htaken : u = (({ s with hubIn := s.hubIn.erase x } : State).atLeast (x.edge * wHub)).count .stream 0 R.STREAM_RX_IDENTIFIED := hu
      rw [hw, htaken]
      simp only [List.forall_mem_cons]
      refine ⟨?_, ?_, ?_, ?_, ?_, nofun⟩
      all_goals simp (maxDischargeDepth := 6) [Part.same_refl]
    have hrc : (w.1.traceHub x 6 none).rc r = w.1.rc r := State.rc_congr (congrArg StreamSt.rcvy hlater) r
    rw [if_neg Bool.false_ne_true, hrc]
    exact ⟨hhist, fun _ => ⟨(hsame .memory (by decide)).1, hsame .lz (by decide), hsame .evt (by decide), hsame .sq (by decide),
      congrArg FaultSt.queue (hsame .fault (by decide))⟩⟩

/-- Settles O42: recovery does to the history of its entry what `RcvySt.judge` says, and the frame at the hub comes to it by
`State.recover_member`. -/
theorem recoveryPassesEachNumberOnce : Obligations.RecoveryPassesEachNumberOnce := by
  refine ⟨fun s r seq src lo hlo hpass => ?again, fun s r seq src lo ht => ?takeAny, fun s r seq src lo => ?vector,
    fun s x i m => ?hub, fun s r port seq cyc src hport => State.recover_notMember seq cyc src hport⟩
  case again =>
    obtain ⟨hhist, hp⟩ := s.rcMain_judge r seq src lo
    obtain ⟨-, hp'⟩ := (s.rcMain r seq src lo).1.rcMain_judge r seq src lo
    rw [hp', (hhist.judge lo seq).2]
    exact RcvySt.judge_again hlo (hp ▸ hpass)
  case takeAny =>
    obtain ⟨hhist, hp⟩ := s.rcMain_judge r seq src lo
    obtain ⟨hpass, hseq, htake, hones⟩ := RcvySt.judge_takeAny ht lo seq
    refine ⟨hp.trans hpass, hhist.rseq.trans hseq, hhist.takeAny.trans htake, fun hvector hs hlen k hk => ?_⟩
    have hback : (seq + 2 ^ 16 - (seq + 2 ^ 16 - k) % 2 ^ 16) % 2 ^ 16 = k := by omega
    rw [hhist.marked, RcvySt.marked, hseq, hones hvector, hback]
    exact ⟨hk, nbit_ones hk⟩
  case vector =>
    intro l e v hvector hpos hlen htake hr hs
    obtain ⟨hhist, hp⟩ := s.rcMain_judge r seq src lo
    refine ⟨fun h => hp.trans (RcvySt.judge_marked hvector htake hlen hr hs h), fun h => ?_, fun n hn h => ?_⟩
    · rw [hhist.marked]
      exact RcvySt.judge_marks hvector htake hlen hr hs hpos (hp.symm.trans h)
    · rw [hhist.marked, hhist.rseq]
      exact RcvySt.judge_keepsMarks hvector htake hlen hr hs hn h
  case hub =>
    intro h r lo hx hi hrcvy hm hindiv hguard
    obtain ⟨t, ht, hhist, hdiscard⟩ := hubReceive_recovers hx hi hrcvy rfl rfl hm hindiv hguard
    exact ⟨t, ht, hhist.rseq, hhist.hist, hhist.takeAny, hdiscard⟩

end Sys2Proof.Machine
end

section
/-! SUPPORT. The commands of streams: the reset of an entry that timed out, the latent test, and the writes of the STREAM page: the proof
of O43 (R173, R174, R177, R180). -/

namespace Sys2Proof.Machine

open Sys2Proof

/-! What a count in an entry leaves (R180). -/

/-- A count in an entry is one in the sum of its page. -/
theorem State.counted_rcCount (s : State) (r i : Nat) (hi : i < 9) : Counted .stream 0 (rcSum i) s (s.rcCount r i 1) := by
  obtain ⟨u, hu⟩ : ∃ u, u = (if ctrWraps (nth (s.rc r).ctrs i 0) 1 then (s.wrap (wrapRcvy r i)).cause .stream 0 causeOvf
    else s).modRc r fun e => { e with ctrs := e.ctrs.modify i fun w => ctrAdd w 1 } := ⟨_, rfl⟩
  have hregs : u.regs = s.regs := by
    rw [hu]
    split <;> rfl
  have hcount : s.rcCount r i 1 = u.countN .stream 0 (rcSum i) 1 := by
    rw [hu]
    unfold State.rcCount
    dsimp only
    rw [if_neg one_ne_zero, if_neg (by omega)]
  rw [hcount]
  exact counted_from (counted_count .stream 0 (rcSum i) u) (by rw [hregs])

/-- Of its entry, a count changes the counters. -/
theorem State.rc_rcCount_same (s : State) (r i : Nat) :
    (s.rcCount r i 1).rc r = { s.rc r with ctrs := ((s.rcCount r i 1).rc r).ctrs } := by
  rw [State.rc_rcCount s r i r one_ne_zero, State.rc_modRc_same]

theorem State.rc_rcCount_other (s : State) {r j : Nat} (i : Nat) (h : j ≠ r) : (s.rcCount r i 1).rc j = s.rc j := by
  rw [State.rc_rcCount s r i j one_ne_zero, State.rc_modRc_other _ _ h]

/-! RCVY_TIMEOUT_RESET (R173). -/

theorem State.rcExpire_resets {s : State} {r : Nat} (ht : (s.rc r).takeAny = false) (hb : bit (s.live.word (offRcvy r)) 0 = true)
    (hover : rcTimeout (s.live.word (offRcvy r)) ≤ (s.rc r).timer) :
    s.rcExpire r = ((s.modRc r RcvySt.reset).rcCount r 5 1).cause .stream 0 17 := by
  unfold State.rcExpire
  dsimp only
  rw [if_neg (by simp [ht, hb, hover])]

theorem exec_rcvyTimeoutReset {s : State} (r : Fin 32768) (hcycle : s.time.hasCycle = true) :
    exec (.rcvyTimeoutReset r) s = .next (s.rcExpire r) := by
  simp [exec, execRcvyTimeoutReset, hcycle]

/-! LATENT_TEST (R174). -/

/-- The difference that the latent test of an entry finds. -/
def State.latentDiff (s : State) (r : Nat) : Nat :=
  ((((fld (s.live.word (offRcvy r + 8)) 11 10) * (s.rc r).testP : Nat) : Int) - (s.rc r).testD).natAbs

section Latent

variable {s : State} {r : Nat} (hb : bit (s.live.word (offRcvy r)) 0 = true) (hl : rcLatent (s.live.word (offRcvy r + 8)) = true)
  (hp : 0 < rcPeriod (s.live.word (offRcvy r + 8))) (hc : s.time.cycle % rcPeriod (s.live.word (offRcvy r + 8)) = 0)
  (ht : (s.rc r).testAny = false) (ha : (s.rc r).takeAny = false)
include hb hl hp hc ht ha

theorem State.rcLatentTest_eq : s.rcLatentTest r =
    if rcDiff (s.live.word (offRcvy r + 8)) < s.latentDiff r then
      (((s.rcCount r 8 1).cause .stream 0 16).rcTestClear r, some (min (s.latentDiff r) 0xFFFFFFFF))
    else (s.rcTestClear r, none) := by
  unfold State.rcLatentTest State.latentDiff
  dsimp only
  rw [if_pos ⟨hb, hl, hp, hc⟩, if_neg (by simp [ht, ha]), Nat.add_sub_cancel]

end Latent

theorem exec_latentTest {s : State} (r : Fin 32768) (hcycle : s.time.hasCycle = true) : exec (.latentTest r) s =
    .next (match (s.rcLatentTest r).2 with
      | none => (s.rcLatentTest r).1
      | some d => ((s.rcLatentTest r).1.raise 0x018 r d).report 0x000A
        (((s.rcLatentTest r).1.rc r).lastSrc.map fun n => (n, 0x400)) r) := by
  simp only [exec, execLatentTest, hcycle, if_true]
  rcases s.rcLatentTest r with ⟨t, d⟩
  cases d <;> rfl

/-- A new period of the latent test begins with no frame counted. -/
theorem State.rc_rcTestClear (s : State) (r : Nat) :
    (s.rcTestClear r).rc r = { s.rc r with testP := 0, testD := 0, testAny := (s.rc r).takeAny } := by
  rw [State.rcTestClear, State.rc_modRc_same]

/-! The writes of the STREAM page (R177, R180). -/

section Writes

variable {s : State}

theorem exec_rcvyResetState (h : s.opens .stream R.STREAM_RCVY_CTRL 6) : exec .rcvyResetState s = .next s.rcReset :=
  congrArg Host.Outcome.next
    (State.regWriteV_opens (r := ⟨.stream, R.STREAM_RCVY_CTRL, 1, 0, 4, .wo, 0x3, 6⟩) (j := 0) rfl h)

theorem exec_clearCounters (h : s.opens .stream R.STREAM_RCVY_CTRL 6) : exec .clearCounters s = .next s.rcClear :=
  congrArg Host.Outcome.next
    (State.regWriteV_opens (r := ⟨.stream, R.STREAM_RCVY_CTRL, 1, 0, 4, .wo, 0x3, 6⟩) (j := 0) rfl h)

theorem exec_setSeq (n : BitVec 16) (h : s.opens .stream R.STREAM_GEN_CTRL 0) : exec (.setSeq n) s =
    .next { s with stream := { s.stream with
      gen := smSet s.stream.gen (s.regF .stream 0 R.STREAM_GEN_SEL 15 0) n.toNat } } := by
  have hlt : 1 + n.toNat * 2 ^ 16 < 2 ^ 64 := by have := n.isLt; omega
  have hmask : (wd 0xFFFF0001).toNat = 0xFFFF0001 := rfl
  have hval : (wd (1 + n.toNat * 2 ^ 16)).toNat = 1 + n.toNat * 2 ^ 16 := Nat.mod_eq_of_lt hlt
  have hset : bit (wd (1 + n.toNat * 2 ^ 16) &&& wd 0xFFFF0001) 0 = true := by
    rw [bit, BitVec.toNat_and, hmask, hval, Nat.testBit_and, Nat.testBit_zero]
    simp
    omega
  have hseq : fld (wd (1 + n.toNat * 2 ^ 16) &&& wd 0xFFFF0001) 31 16 = n.toNat := by
    have hhigh : (1 + n.toNat * 2 ^ 16) / 2 ^ 16 = n.toNat := by omega
    rw [fld, bitsOf, BitVec.toNat_and, hmask, hval, Nat.and_div_two_pow, hhigh]
    change (n.toNat &&& (2 ^ 16 - 1)) % 2 ^ 16 = n.toNat
    rw [Nat.and_two_pow_sub_one_eq_mod]
    omega
  have hexec : exec (.setSeq n) s = .next (s.writeGenCtrl (wd (1 + n.toNat * 2 ^ 16) &&& wd 0xFFFF0001)) :=
    congrArg Host.Outcome.next
      (State.regWriteV_opens (r := ⟨.stream, R.STREAM_GEN_CTRL, 1, 0, 4, .wo, 0xFFFF0001, 0⟩) (j := 0) rfl h)
  rw [hexec, State.writeGenCtrl, if_pos hset, hseq]

theorem fld_low32 (v : BitVec 32) (n : Nat) : fld (v.setWidth 64) n 0 = v.toNat % 2 ^ (n + 1) := by
  have hval : (v.setWidth 64).toNat = v.toNat := by
    rw [BitVec.toNat_setWidth]
    exact Nat.mod_eq_of_lt (by have := v.isLt; omega)
  rw [fld, bitsOf, hval]
  simp

theorem exec_rcvySel (r : BitVec 32) (h : s.opens .stream R.STREAM_RCVY_SEL 6) : exec (.rcvySel r) s =
    .next (s.writeRcvySel (r.setWidth 64 &&& wd 0x7FFF)) :=
  congrArg Host.Outcome.next
    (State.regWriteV_opens (r := ⟨.stream, R.STREAM_RCVY_SEL, 1, 0, 4, .rw, 0x7FFF, 6⟩) (j := 0) rfl h)

theorem exec_genSel (g : BitVec 32) (h : s.opens .stream R.STREAM_GEN_SEL 0) : exec (.genSel g) s =
    .next (s.writeGenSel (g.setWidth 64 &&& wd 0xFFFF)) :=
  congrArg Host.Outcome.next
    (State.regWriteV_opens (r := ⟨.stream, R.STREAM_GEN_SEL, 1, 0, 4, .rw, 0xFFFF, 0⟩) (j := 0) rfl h)

end Writes

/-! The clauses of O43. -/

theorem rcvyTimeoutReset_resets {s : State} {r : Fin 32768} (hcycle : s.time.hasCycle = true) (ht : (s.rc r).takeAny = false)
    (hb : bit (s.live.word (offRcvy r)) 0 = true) (hover : rcTimeout (s.live.word (offRcvy r)) ≤ (s.rc r).timer) :
    Answers (.rcvyTimeoutReset r) s fun t =>
      t.rc r = { (s.rc r).reset with ctrs := (t.rc r).ctrs } ∧ (∀ j, j ≠ r.val → t.rc j = s.rc j) ∧
      (t.hdr .stream 0).intCause.getLsbD 17 = true ∧ Counted .stream 0 R.STREAM_RCVY_RESETS s t := by
  obtain ⟨u, hu⟩ : ∃ u, u = s.modRc r RcvySt.reset := ⟨_, rfl⟩
  have hsame : u.rc r = (s.rc r).reset := hu ▸ s.rc_modRc_same r RcvySt.reset
  refine ⟨(u.rcCount r 5 1).cause .stream 0 17, ?_, ?_, fun j hj => ?_, State.cause_getLsbD _ .stream 0 17 (by decide), ?_⟩
  · rw [exec_rcvyTimeoutReset r hcycle, State.rcExpire_resets ht hb hover, hu]
  · rw [← hsame]
    exact u.rc_rcCount_same r 5
  · have hother : u.rc j = s.rc j := hu ▸ s.rc_modRc_other RcvySt.reset hj
    exact (u.rc_rcCount_other 5 hj).trans hother
  · have hregs : u.regs = s.regs := hu ▸ rfl
    exact counted_from (u.counted_rcCount r 5 (by decide)) (by rw [hregs])

/-- A latent test that fails sets its cause and raises its alarm, and the report that follows keeps both. -/
theorem latentTest_fails {s : State} {r : Fin 32768} {d : Nat} (hcycle : s.time.hasCycle = true)
    (htest : s.rcLatentTest r = (((s.rcCount r 8 1).cause .stream 0 16).rcTestClear r, some d)) :
    Answers (.latentTest r) s fun t => (t.rc r).testP = 0 ∧ (t.rc r).testD = 0 ∧ (t.hdr .stream 0).intCause.getLsbD 16 = true ∧
      Counted .stream 0 R.STREAM_LATENT_ERRORS s t ∧ Alarmed 0x018 r d t := by
  obtain ⟨u, hu⟩ : ∃ u, u = ((s.rcCount r 8 1).cause .stream 0 16).rcTestClear r := ⟨_, rfl⟩
  have hreport : ∀ subject, KeepsStreams genRegs (u.raise 0x018 r d) ((u.raise 0x018 r d).report 0x000A subject r) :=
    fun subject => (KeepsStreams.refl genRegs _).report 0x000A subject r
  have hcleared : (u.raise 0x018 r d).rc r = u.rc r := rfl
  have hcause : ((u.raise 0x018 r d).hdr .stream 0).intCause.getLsbD 16 = true :=
    hu ▸ State.cause_getLsbD (s.rcCount r 8 1) .stream 0 16 (by decide)
  have hcounted : Counted .stream 0 R.STREAM_LATENT_ERRORS s (u.raise 0x018 r d) := hu ▸ s.counted_rcCount r 8 (by decide)
  refine ⟨_, exec_latentTest r hcycle, ?_⟩
  rw [htest, ← hu]
  dsimp only
  have hkeep := hreport ((u.rc r).lastSrc.map fun n => (n, 0x400))
  have hperiod : (u.rc r).testP = 0 ∧ (u.rc r).testD = 0 := by
    rw [hu, State.rc_rcTestClear]
    exact ⟨rfl, rfl⟩
  rw [hkeep.rc, hcleared]
  exact ⟨hperiod.1, hperiod.2, hkeep.causes 16 hcause, hkeep.counted hcounted, hkeep.alarmed (u.alarmed_raise 0x018 r d)⟩

theorem latentTest_passes {s : State} {r : Fin 32768} (hcycle : s.time.hasCycle = true) (ha : (s.rc r).takeAny = false)
    (htest : s.rcLatentTest r = (s.rcTestClear r, none)) : Answers (.latentTest r) s fun t =>
      t.rc r = { s.rc r with testP := 0, testD := 0, testAny := false } ∧ t.alarm = s.alarm := by
  refine ⟨_, exec_latentTest r hcycle, ?_⟩
  rw [htest]
  exact ⟨(s.rc_rcTestClear r).trans (congrArg (fun b => { s.rc r with testP := 0, testD := 0, testAny := b }) ha), rfl⟩

theorem rcvySel_captures {s : State} (r : BitVec 32) (h : s.opens .stream R.STREAM_RCVY_SEL 6) : Answers (.rcvySel r) s fun t =>
    t.regF .stream 0 R.STREAM_RCVY_SEL 14 0 = r.toNat % 2 ^ 15 ∧ t.stream = { s.stream with
      view := rcView (s.rc (r.toNat % 2 ^ 15)) (if rcMatch (s.live.word (offRcvy (r.toNat % 2 ^ 15))) then 0
        else rcLen (s.live.word (offRcvy (r.toNat % 2 ^ 15)))) } := by
  have hsel : fld (r.setWidth 64 &&& wd 0x7FFF) 14 0 = r.toNat % 2 ^ 15 := (fld_and_mask _ 14 (by decide)).trans (fld_low32 r 14)
  refine ⟨_, exec_rcvySel r h, ?_⟩
  unfold State.writeRcvySel
  dsimp only
  rw [hsel]
  refine ⟨?_, rfl⟩
  have hreg : fld (wd (r.toNat % 2 ^ 15)) 14 0 = r.toNat % 2 ^ 15 := by
    rw [fld_wd (by omega)]
    omega
  exact (congrArg (fld · 14 0) (State.reg_setReg s .stream 0 R.STREAM_RCVY_SEL (wd (r.toNat % 2 ^ 15)))).trans hreg

theorem genSel_captures {s : State} (g : BitVec 32) (h : s.opens .stream R.STREAM_GEN_SEL 0) : Answers (.genSel g) s fun t =>
    t.regF .stream 0 R.STREAM_GEN_SEL 15 0 = g.toNat % 2 ^ 16 ∧
      t.stream = { s.stream with genView := s.nextSeq (g.toNat % 2 ^ 16) } := by
  have hsel : fld (g.setWidth 64 &&& wd 0xFFFF) 15 0 = g.toNat % 2 ^ 16 := (fld_and_mask _ 15 (by decide)).trans (fld_low32 g 15)
  refine ⟨_, exec_genSel g h, ?_⟩
  unfold State.writeGenSel
  dsimp only
  rw [hsel]
  refine ⟨?_, rfl⟩
  have hreg : fld (wd (g.toNat % 2 ^ 16)) 15 0 = g.toNat % 2 ^ 16 := by
    rw [fld_wd (by omega)]
    omega
  exact (congrArg (fld · 15 0) (State.reg_setReg s .stream 0 R.STREAM_GEN_SEL (wd (g.toNat % 2 ^ 16)))).trans hreg

/-- Settles O43, clause by clause: an entry changes by `State.modRc` alone, and what a failed latent test reports keeps what it has
counted and raised (`KeepsStreams.report`). -/
theorem streamCommandsActOnTheirEntry : Obligations.StreamCommandsActOnTheirEntry := by
  refine ⟨fun s r hcycle ht hb hover => rcvyTimeoutReset_resets hcycle ht hb hover, fun s r => ?latent, fun s => ?control,
    fun s n => ?setSeq, fun s r h => rcvySel_captures r h, fun s g h => genSel_captures g h⟩
  case latent =>
    intro hi d hcycle hb hl hp hc ht ha
    have htest := State.rcLatentTest_eq hb hl hp hc ht ha
    refine ⟨fun hd => latentTest_fails hcycle (htest.trans (if_pos hd)), fun hd => ?_⟩
    exact latentTest_passes hcycle ha (htest.trans (if_neg (Nat.not_lt.2 hd)))
  case control =>
    intro r h
    refine ⟨⟨_, exec_rcvyResetState h, ?_, fun j hj => ?_⟩, ⟨_, exec_clearCounters h, ?_, fun j hj => ?_⟩⟩
    · exact State.rc_modRc_same ..
    · exact State.rc_modRc_other _ _ hj
    · exact State.rc_modRc_same ..
    · exact State.rc_modRc_other _ _ hj
  case setSeq =>
    intro g h
    refine ⟨_, exec_setSeq n h, ?_, fun j hj => ?_⟩
    · simp [State.nextSeq, g]
    · exact smGet_smSet_other _ _ _ _ _ hj

end Sys2Proof.Machine
end

section
/-! SUPPORT. The jobs that stand after one of them has finished, the frame that a port gets from a stream, and the building of frames: the
proof of O48 (R104, R167, R226 to R230). -/

namespace Sys2Proof.Machine

open Sys2Proof

/-! The jobs that stand (R226 to R229, R238). -/

theorem State.jobs_complete (s : State) (c queue : Nat) (lo hi : Word) : (s.complete c queue lo hi).xfer.jobs = s.xfer.jobs := by
  have hput : (s.putEntry c lo hi).xfer = s.xfer := show Part.xfer.same s _ by simp [Part.same_refl]
  unfold State.complete
  split
  · rfl
  · rw [hput]

theorem OnlyRecords.xfer {s t : State} (h : OnlyRecords s t) : t.xfer = s.xfer := by
  rw [h]; rfl

/-- A job that finishes goes, and no other. -/
theorem State.jobs_finishAt (s : State) (at_ : Nat) (j : Job) (status : Nat) :
    (s.finishAt at_ j status).xfer.jobs = s.xfer.jobs.filter fun x => x.id != j.id := by
  have hlost : ∀ u : State, (if j.tsLost = true then u.count .xfer 0 R.XFER_TS_LOST_JOBS else u).xfer = u.xfer := by
    intro u
    split
    · exact State.count_xfer ..
    · rfl
  have hsample : ∀ (u : State) (g c v : Nat), (u.sample g 2 c v).xfer = u.xfer := fun u g c v =>
    show Part.xfer.same u _ by simp [Part.same_refl]
  have hother : ∀ (u : State) (v : Nat), (u.sampleOther v).xfer = u.xfer := fun u v => show Part.xfer.same u _ by simp [Part.same_refl]
  unfold State.finishAt
  dsimp only
  rw [State.jobs_complete, (State.onlyRecords_traceAt ..).xfer]
  split
  · split
    · rw [hsample, hlost]
    · rw [hother, hlost]
  · rw [hother, hlost]

/-- Of the jobs that finish together none stands, and all others do. -/
theorem State.mem_jobs_finishAll (s : State) (l : List (Job × Nat)) (x : Job) :
    x ∈ (s.finishAll l).xfer.jobs ↔ x ∈ s.xfer.jobs ∧ ∀ y ∈ l, x.id ≠ y.1.id := by
  have hfold : ∀ (m : List (Job × Nat)) (u : State), x ∈ (m.foldl (fun t y => t.finish y.1 y.2) u).xfer.jobs ↔
      x ∈ u.xfer.jobs ∧ ∀ y ∈ m, x.id ≠ y.1.id := by
    intro m
    induction m with
    | nil => simp
    | cons y m ih =>
      intro u
      rw [List.foldl_cons, ih, State.finish, State.jobs_finishAt, List.mem_filter, List.forall_mem_cons, and_assoc, bne_iff_ne]
  rw [State.finishAll, hfold]
  simp only [mem_sortBy]

theorem State.mem_expired {s : State} {q : Nat} {k : JobKind} {j : Job} : j ∈ s.expired q k ↔
    j ∈ s.xfer.jobs ∧ j.queue = q ∧ j.kind = k ∧ j.pulsed = false ∧ j.limit ≠ 0 ∧ j.limit ≤ j.waited := by
  simp [State.expired, and_assoc]

/-- The jobs whose limit has passed end, and no other. -/
theorem State.mem_jobs_timedOut (s : State) (po q status : Nat) (k : JobKind) (x : Job) :
    x ∈ ((s.countN .xfer 0 po (s.expired q k).length).finishAll ((s.expired q k).map fun j => (j, status))).xfer.jobs ↔
    x ∈ s.xfer.jobs ∧ ∀ j, j ∈ s.xfer.jobs → j.queue = q → j.kind = k → j.pulsed = false → j.limit ≠ 0 → j.limit ≤ j.waited →
      x.id ≠ j.id := by
  rw [State.mem_jobs_finishAll, State.countN_xfer, List.forall_mem_map]
  simp only [State.mem_expired, and_imp]

/-- A job that has nothing more to wait for finishes, and brings in no other. -/
theorem State.mem_jobs_of_settle {s : State} {id : Nat} {x : Job} (h : x ∈ (s.settle id).xfer.jobs) : x ∈ s.xfer.jobs := by
  unfold State.settle State.finish at h
  repeat' split at h
  · rw [State.jobs_finishAt] at h
    exact List.mem_of_mem_filter h
  · exact h
  · exact h

/-! FENCE_FINISH (R229). -/

/-- A FENCE that no earlier job of its queue precedes ends, and no other job. -/
theorem fenceFinish_ends {s : State} {q : Fin 4096} {j : Job}
    (hj : (s.xfer.jobs.find? fun x => x.queue == q.val && x.kind == .fence) = some j)
    (hfirst : ∀ x, x ∈ s.xfer.jobs → x.queue = j.queue → j.order ≤ x.order)
    (hstand : ∀ x, x ∈ s.xfer.jobs → x.gone s.time.now = false) :
    Answers (.fenceFinish q) s fun t => ∀ x, x ∈ t.xfer.jobs ↔ x ∈ s.xfer.jobs ∧ x.id ≠ j.id := by
  have hclear : s.fenceClear j = true := by
    simp only [State.fenceClear, Bool.not_eq_true', List.any_eq_false, Bool.and_eq_true, beq_iff_eq, decide_eq_true_eq, not_and,
      Nat.not_lt]
    exact hfirst
  refine ⟨s.finish j stOk, ?_, fun x => ?_⟩
  · simp only [exec, execFenceFinish, State.departs_of_still hstand, hj, hclear, if_true]
  · rw [State.finish, State.jobs_finishAt, List.mem_filter, bne_iff_ne]

/-! The length of a frame (R187). -/

theorem length_beBytes (n v : Nat) : (beBytes n v).length = n := by rw [beBytes, List.length_reverse, length_leBytes]

theorem Hdr.length_bytes (h : Hdr) : h.bytes.length = 32 := by
  simp only [Hdr.bytes, List.length_append, length_beBytes]

theorem frameLen_itp {f : Frame} {tagged : Bool} {h : Hdr} {payload : List Byte} (htag : f.tag.isSome = tagged)
    (hbody : f.body = itpBody tagged h payload) : frameLen f = itpLen tagged payload.length := by
  rw [frameLen, hbody, htag, itpBody, itpLen]
  simp only [List.length_append, List.length_replicate, h.length_bytes]
  split <;> split <;> omega

/-! A frame that its port keeps (R104, R140). -/

/-- Whether a head is discarded depends on the ports, the clock, the node's state and the slates. -/
theorem State.headDrop_congr {s t : State} (hp : t.ports = s.ports) (ht : t.time = s.time) (hn : t.node = s.node)
    (hs : t.slate = s.slate) (p : Nat) (fr : TxFrame) : t.headDrop p fr = s.headDrop p fr := by
  have hport := State.port_congr hp p
  have hlive := State.live_congr hs
  have hheld : t.heldOff p = s.heldOff p := by rw [State.heldOff, hn, State.replica, ht]; rfl
  have hin : t.inNet = s.inNet := by rw [State.inNet, hn]; rfl
  have hpre : t.preemptable p = s.preemptable p := by funext c; rw [State.preemptable, hport, hlive]; rfl
  have hopen : t.classOpen p fr.cls false = s.classOpen p fr.cls false := by
    funext e
    simp only [State.classOpen, State.holdsClaim, hport, ht, hin, hheld, hpre]
  have hlong : t.longest p fr.cls = s.longest p fr.cls := by rw [State.longest, State.windows, hopen, hlive]; rfl
  have hocc : ∀ n, t.occupancy p n = s.occupancy p n := fun n => by rw [State.occupancy, State.bytesPerTick, hport]; rfl
  have hup : t.isUp p = s.isUp p := State.isUp_congr (congrArg PortSt.link hport)
  simp only [State.headDrop, hport, hheld, hin, hpre, hlong, hocc, hup]

/-- A frame of this node that fits a window of an UP port is kept. -/
theorem State.headDrop_fits {s : State} {p : Nat} {fr : TxFrame} (hlink : fr.origin.isLink = false) (hrelay : fr.origin.isRelay = false)
    (hjoined : s.node.state = .joined) (hup : s.isUp p = true) (hfits : s.occupancy p (frameLen fr.frame) ≤ s.longest p fr.cls) :
    s.headDrop p fr = none := by
  have hin : s.inNet = true := by simp [State.inNet, hjoined]
  have hshort : ¬ s.longest p fr.cls < s.occupancy p (frameLen fr.frame) := Nat.not_lt.2 hfits
  simp [State.headDrop, hlink, hrelay, hin, hup, hshort]

/-- The only frame of a port, which nothing discards, stays there. -/
theorem State.txq_arrived_only {s : State} {p : Nat} {fr : TxFrame} (hq : (s.port p).txq = [fr]) (hd : s.headDrop p fr = none) :
    ((s.arrived p).port p).txq = [fr] := by
  obtain ⟨⟨l, hl⟩, -⟩ := (s.loaded p fr).departs.pace.onlyLostWindows_countEaten p
  have hports : (s.loaded p fr).departs.pace.ports = (s.loaded p fr).ports := by rw [State.pace_ports, State.departs_ports]
  rw [State.arrived, State.purge, State.purgeHeads_only hq hd, hl, State.port_congr hports, State.loaded, State.port_modPort_same]

/-! A frame on a stream with one member port (R167). -/

/-- The stream has taken its next sequence number, and the frame is counted. -/
def State.numbered (s : State) (handle : Nat) : State :=
  ({ s with stream := { s.stream with gen := smSet s.stream.gen (handle % 2 ^ 16) ((s.nextSeq (handle % 2 ^ 16) + 1) % 2 ^ 16) } } :
    State).count .stream 0 R.STREAM_GEN_FRAMES

theorem State.counted_numbered (s : State) (handle : Nat) : Counted .stream 0 R.STREAM_GEN_FRAMES s (s.numbered handle) :=
  counted_count .stream 0 R.STREAM_GEN_FRAMES
    { s with stream := { s.stream with gen := smSet s.stream.gen (handle % 2 ^ 16) ((s.nextSeq (handle % 2 ^ 16) + 1) % 2 ^ 16) } }

theorem State.nextSeq_numbered (s : State) (handle : Nat) :
    (s.numbered handle).nextSeq (handle % 2 ^ 16) = (s.nextSeq (handle % 2 ^ 16) + 1) % 2 ^ 16 := by
  rw [State.nextSeq, State.numbered, State.count_stream]
  simp [State.nextSeq]

section Sole

variable (s : State) (p handle cls typ : Nat) (tagged : Bool) (hd : Hdr) (payload : List Byte) (origin : Nat → Origin) (loaded ts : Bool)

/-- The replica of a frame that the only member port of its stream gets. -/
def State.soleReplica : TxFrame :=
  { cls, typ, origin := origin 0, head := loaded, ts,
    frame := (s.numbered handle).mkFrame p (if tagged then some cls else none)
      { hd with seq := s.nextSeq (handle % 2 ^ 16), plen := payload.length } payload }

theorem State.soleReplica_body : (s.soleReplica p handle cls typ tagged hd payload origin loaded ts).frame.body =
    itpBody tagged { hd with seq := s.nextSeq (handle % 2 ^ 16), plen := payload.length } payload := by
  cases tagged <;> rfl

theorem State.soleReplica_len : frameLen (s.soleReplica p handle cls typ tagged hd payload origin loaded ts).frame =
    itpLen tagged payload.length :=
  frameLen_itp (by cases tagged <;> rfl) (s.soleReplica_body ..)

theorem State.replicate_sole : s.replicate handle cls typ tagged hd payload origin loaded ts none [p] =
    (((s.numbered handle).enqueue p (s.soleReplica p handle cls typ tagged hd payload origin loaded ts)).count .stream 0
      R.STREAM_REPLICAS_BUILT).countP p R.PORT_REPLICA_TX := rfl

theorem State.stream_replicate_sole :
    (s.replicate handle cls typ tagged hd payload origin loaded ts none [p]).stream = (s.numbered handle).stream := by
  rw [State.replicate_sole, State.countP_stream, State.count_stream]
  rfl

theorem State.counted_replicate_sole :
    Counted .stream 0 R.STREAM_GEN_FRAMES s (s.replicate handle cls typ tagged hd payload origin loaded ts none [p]) := by
  have hkeep : KeepsStreams [R.STREAM_REPLICAS_BUILT] (s.numbered handle)
      (s.replicate handle cls typ tagged hd payload origin loaded ts none [p]) :=
    (((KeepsStreams.refl _ _).modPort p _).countN .stream 0 R.STREAM_REPLICAS_BUILT 1 (.inr (.inr ⟨_, by decide, rfl⟩))).countP p _
  exact hkeep.counted (s.counted_numbered handle)

/-- An empty port holds the replica alone. -/
theorem State.ports_replicate_sole (h : (s.port p).txq = []) :
    (s.replicate handle cls typ tagged hd payload origin loaded ts none [p]).ports =
      (s.loaded p (s.soleReplica p handle cls typ tagged hd payload origin loaded ts)).ports := by
  have hports : (s.numbered handle).ports = s.ports := by rw [State.numbered, State.count_ports]
  have hempty : ((s.numbered handle).port p).txq = [] := by rw [State.port_congr hports]; exact h
  rw [State.replicate_sole, State.countP_ports, State.count_ports, State.enqueue_empty _ hempty, State.loaded, State.modPort, hports]
  rfl

end Sole

/-! The building of a frame (R226). -/

theorem State.onlyRecords_countEnc (s : State) (codec n : Nat) (e : Enc) : OnlyRecords s (s.countEnc codec n e) := by
  unfold State.countEnc
  split
  · rfl
  · exact (((s.onlyRecords_countN ..).trans (State.onlyRecords_countN ..)).trans (State.onlyRecords_countN ..)).trans
      (State.onlyRecords_countN ..)

/-- The counters of an encoded frame are those of the CODEC page. -/
theorem State.find_countEnc_other (s : State) (codec n : Nat) (e : Enc) {a : Nat} (h : a < pageBase .codec 0) :
    smFind (s.countEnc codec n e).regs a = smFind s.regs a := by
  have hother : ∀ (u : State) (po m : Nat), smFind (u.countN .codec 0 po m).regs a = smFind u.regs a := fun u po m =>
    State.find_countN_other u .codec 0 po m a (by omega)
  unfold State.countEnc
  split
  · rfl
  · rw [hother, hother, hother]
    exact hother s _ 1

theorem State.jobHdr_congr {s t : State} (hnode : t.nodeId = s.nodeId) (ht : t.time = s.time) (j : Job) (i : Nat) :
    t.jobHdr j i = s.jobHdr j i := by
  rw [State.jobHdr, hnode, State.cycField, ht]
  rfl

theorem State.jobHdr_countEnc (s : State) (codec n : Nat) (e : Enc) (j : Job) (i : Nat) :
    (s.countEnc codec n e).jobHdr j i = s.jobHdr j i := by
  refine State.jobHdr_congr ?_ (s.onlyRecords_countEnc codec n e).time j i
  have hreg : (s.countEnc codec n e).reg .cycle 0 R.CYCLE_NODE_CFG = s.reg .cycle 0 R.CYCLE_NODE_CFG :=
    State.reg_of_find (s.find_countEnc_other codec n e (by decide))
  rw [State.nodeId, State.regF, hreg, State.nodeId, State.regF]

/-- The encoded elements of frame i of a job. -/
def State.encOf (s : State) (j : Job) (i : Nat) : Enc :=
  encode j.codec j.elem (elemsOfMem j.elem (s.readMem (j.frameSrc i) (j.frameElems i * elemSize j.elem)))

section Place

variable (s : State) (j : Job) (i p : Nat)

/-- The state in which frame i of a job, once encoded, is counted. -/
def State.encoded : State := s.countEnc j.codec (j.frameElems i) (s.encOf j i)

/-- The replica of frame i of a job, when its stream has one member port. -/
def State.jobReplica : TxFrame :=
  (s.encoded j i).soleReplica p j.handle j.cls ((s.encoded j i).jobHdr j i).typ j.tagged ((s.encoded j i).jobHdr j i)
    (s.encOf j i).bytes (fun m => .job j.id i m) false false

/-- The state in which the only member port of its stream has frame i of a job, and judges its heads next. -/
def State.framePut : State :=
  ((s.encoded j i).replicate j.handle j.cls ((s.encoded j i).jobHdr j i).typ j.tagged ((s.encoded j i).jobHdr j i)
    (s.encOf j i).bytes (fun m => .job j.id i m) false false none [p]).modJob j.id fun x => { x with
      frames := x.frames ++ [{ bytes := j.frameElems i * elemSize j.elem, reps := [{ port := p, outcome := none }] }],
      done := i + 1 == j.frameCount }

theorem State.placeFrame_sole (hts : j.tsReq = false) : s.placeFrame j i [p] = (s.framePut j i p).arrived p := by
  simp only [State.placeFrame, hts, Bool.false_and, Bool.false_eq_true, if_false, List.foldl_cons, List.foldl_nil, List.map_cons,
    List.map_nil, State.framePut, State.encoded, State.encOf]

theorem State.onlyRecords_encoded : OnlyRecords s (s.encoded j i) := s.onlyRecords_countEnc ..

theorem State.jobReplica_body : (s.jobReplica j i p).frame.body = itpBody j.tagged
    { s.jobHdr j i with seq := s.nextSeq (j.handle % 2 ^ 16), plen := (s.encOf j i).bytes.length } (s.encOf j i).bytes := by
  have hseq : (s.encoded j i).nextSeq (j.handle % 2 ^ 16) = s.nextSeq (j.handle % 2 ^ 16) := by
    rw [State.nextSeq, s.onlyRecords_encoded j i]; rfl
  rw [State.jobReplica, State.soleReplica_body, hseq, State.encoded, State.jobHdr_countEnc]

theorem State.nextSeq_framePut :
    (s.framePut j i p).nextSeq (j.handle % 2 ^ 16) = (s.nextSeq (j.handle % 2 ^ 16) + 1) % 2 ^ 16 := by
  have hstream : (s.framePut j i p).stream = ((s.encoded j i).numbered j.handle).stream := State.stream_replicate_sole ..
  rw [State.nextSeq, hstream]
  refine ((s.encoded j i).nextSeq_numbered j.handle).trans ?_
  rw [State.nextSeq, s.onlyRecords_encoded j i]
  rfl

theorem State.counted_framePut : Counted .stream 0 R.STREAM_GEN_FRAMES s (s.framePut j i p) := by
  have hcounted : Counted .stream 0 R.STREAM_GEN_FRAMES (s.encoded j i) (s.framePut j i p) := State.counted_replicate_sole ..
  exact counted_from hcounted (s.find_countEnc_other _ _ _ (by decide))

theorem State.ports_framePut (h : (s.port p).txq = []) : (s.framePut j i p).ports = (s.loaded p (s.jobReplica j i p)).ports := by
  have hports := (s.onlyRecords_encoded j i).ports
  have hput : (s.framePut j i p).ports = ((s.encoded j i).loaded p (s.jobReplica j i p)).ports :=
    State.ports_replicate_sole _ _ _ _ _ _ _ _ _ _ _ (by rw [State.port_congr hports]; exact h)
  rw [hput, State.loaded, State.modPort, hports]
  rfl

/-- The port, which is UP and has a window for the frame, does not discard it. -/
theorem State.headDrop_framePut (hjoined : s.node.state = .joined) (hup : s.isUp p = true) (hq : (s.port p).txq = [])
    (hfits : s.occupancy p (itpLen j.tagged (s.encOf j i).bytes.length) ≤ s.longest p j.cls) :
    (s.framePut j i p).headDrop p (s.jobReplica j i p) = none := by
  have hput : ∀ pt, pt = Part.time ∨ pt = .node ∨ pt = .slate → pt.same s (s.framePut j i p) := by
    rintro _ (rfl | rfl | rfl) <;> simp (maxDischargeDepth := 6) [State.framePut, State.encoded, Part.same_refl]
  have hjudge : (s.framePut j i p).headDrop p (s.jobReplica j i p) = (s.loaded p (s.jobReplica j i p)).headDrop p (s.jobReplica j i p) :=
    State.headDrop_congr (s.ports_framePut j i p hq) (hput .time (.inl rfl)) (hput .node (.inr (.inl rfl)))
      (hput .slate (.inr (.inr rfl))) p _
  have hlen : frameLen (s.jobReplica j i p).frame = itpLen j.tagged (s.encOf j i).bytes.length := State.soleReplica_len ..
  rw [hjudge, State.headDrop_txq]
  exact State.headDrop_fits rfl rfl hjoined hup (hlen ▸ hfits)

/-- A frame whose stream has one member port is numbered, and the port, which is UP and has a window for it, holds it alone. -/
theorem State.placeFrame_places (hts : j.tsReq = false) (hjoined : s.node.state = .joined) (hup : s.isUp p = true)
    (hq : (s.port p).txq = []) (hfits : s.occupancy p (itpLen j.tagged (s.encOf j i).bytes.length) ≤ s.longest p j.cls) :
    let t := s.placeFrame j i [p]
    t.nextSeq (j.handle % 2 ^ 16) = (s.nextSeq (j.handle % 2 ^ 16) + 1) % 2 ^ 16 ∧ Counted .stream 0 R.STREAM_GEN_FRAMES s t ∧
    (t.port p).txq = [s.jobReplica j i p] := by
  have hstream : ((s.framePut j i p).arrived p).stream = (s.framePut j i p).stream :=
    show Part.stream.same (s.framePut j i p) _ by simp [Part.same_refl]
  have hholds : ((s.framePut j i p).port p).txq = [s.jobReplica j i p] := by
    rw [State.port_congr (s.ports_framePut j i p hq), State.loaded, State.port_modPort_same]
  intro t
  simp only [t, s.placeFrame_sole j i p hts]
  refine ⟨?_, ?_, State.txq_arrived_only hholds (s.headDrop_framePut j i p hjoined hup hq hfits)⟩
  · rw [State.nextSeq, hstream]
    exact s.nextSeq_framePut j i p
  · exact ((KeepsStreams.refl [] (s.framePut j i p)).arrived p).counted (s.counted_framePut j i p)

end Place

/-! FRAME_BUILD (R226, R230). -/

section Sound

variable {s : State} {j : Job} (hpoison : s.poison = []) (herrs : s.errs = [])
include hpoison herrs

/-- No read of sound memory fails. -/
theorem State.readFails_sound (a n : Nat) : s.readFails a n = false := by
  rw [State.readFails, State.poisoned, hpoison, herrs]
  rfl

theorem State.buildFrame_noEntry (hports : s.live.genPorts j.handle = none) :
    s.buildFrame j = (s.count .stream 0 R.STREAM_GEN_NO_ENTRY).buildFails j stNoGen := by
  simp only [State.buildFrame, State.eccRead, State.eccTake_sound herrs, State.readFails_sound hpoison herrs, Bool.false_eq_true,
    if_false, hports]

theorem State.buildFrame_entry {ports : List Nat} (hports : s.live.genPorts j.handle = some ports) :
    s.buildFrame j = s.placeFrame j j.frames.length ports := by
  simp only [State.buildFrame, State.eccRead, State.eccTake_sound herrs, State.readFails_sound hpoison herrs, Bool.false_eq_true,
    if_false, hports]

end Sound

section Build

variable {s : State} {q : Fin 4096} {j : Job} (hturn : s.buildTurn = some q.val) (hj : s.builder q = some j) (hpoison : s.poison = [])
  (herrs : s.errs = [])
include hturn hj

theorem exec_frameBuild : exec (.frameBuild q []) s = .next ((s.turnOver q).buildFrame j).pace := by
  have hexec : exec (.frameBuild q []) s = .next (if s.buildTurn = some q.val then
    match s.builder q.val with
    | some j => ((s.turnOver q.val).buildFrame j).pace
    | none => s
    else s) := rfl
  rw [hexec, if_pos hturn, hj]

include hpoison herrs

/-- A job whose stream has no entry fails and builds no more. -/
theorem frameBuild_noEntry (hports : s.live.genPorts j.handle = none) : Answers (.frameBuild q []) s fun t =>
    t.ports = s.ports ∧ t.stream = s.stream ∧ Counted .stream 0 R.STREAM_GEN_NO_ENTRY s t ∧
      ∀ x, x ∈ t.xfer.jobs → x.id = j.id → x.done = true ∧ x.failed = some stNoGen := by
  obtain ⟨u, hu⟩ : ∃ u, u = (s.turnOver q).count .stream 0 R.STREAM_GEN_NO_ENTRY := ⟨_, rfl⟩
  have hcount : Counted .stream 0 R.STREAM_GEN_NO_ENTRY s u := hu ▸ counted_count .stream 0 R.STREAM_GEN_NO_ENTRY (s.turnOver q)
  have hkeep : KeepsStreams [] u (u.buildFails j stNoGen).pace :=
    (((KeepsStreams.refl [] u).of_same (u := u.modJob j.id fun x => { x with done := true, failed := some stNoGen })
      rfl rfl rfl rfl).settle j.id).pace
  have hsame : ∀ pt, pt = Part.ports ∨ pt = .stream → pt.same s (u.buildFails j stNoGen).pace := by
    rintro _ (rfl | rfl) <;> simp (maxDischargeDepth := 6) [hu, State.buildFails, State.turnOver, Part.same_refl]
  refine ⟨(u.buildFails j stNoGen).pace, ?_, hsame .ports (.inl rfl), hsame .stream (.inr rfl),
    hkeep.counted hcount, fun x hx hid => ?_⟩
  · rw [exec_frameBuild hturn hj, State.buildFrame_noEntry (s := s.turnOver q) hpoison herrs hports, hu]
  · rw [State.pace_xfer] at hx
    obtain ⟨y, -, hy⟩ := List.mem_map.1 (State.mem_jobs_of_settle hx)
    by_cases hyid : y.id = j.id
    · rw [if_pos hyid] at hy
      rw [← hy]
      exact ⟨rfl, rfl⟩
    · rw [if_neg hyid] at hy
      exact absurd (hy ▸ hid) hyid

theorem frameBuild_places {p : Nat} (hports : s.live.genPorts j.handle = some [p]) (hts : j.tsReq = false)
    (hjoined : s.node.state = .joined) (hup : s.isUp p = true) (hq : (s.port p).txq = [])
    (hfits : s.occupancy p (itpLen j.tagged (s.encOf j j.frames.length).bytes.length) ≤ s.longest p j.cls) :
    Answers (.frameBuild q []) s fun t =>
      t.nextSeq (j.handle % 2 ^ 16) = (s.nextSeq (j.handle % 2 ^ 16) + 1) % 2 ^ 16 ∧ Counted .stream 0 R.STREAM_GEN_FRAMES s t ∧
      ∃ fr, (t.port p).txq = [fr] ∧ fr.cls = j.cls ∧ fr.head = false ∧ fr.origin = .job j.id j.frames.length 0 ∧
        fr.frame.body = itpBody j.tagged { s.jobHdr j j.frames.length with
          seq := s.nextSeq (j.handle % 2 ^ 16), plen := (s.encOf j j.frames.length).bytes.length } (s.encOf j j.frames.length).bytes := by
  obtain ⟨hseq, hcounted, htxq⟩ := (s.turnOver q).placeFrame_places j j.frames.length p hts hjoined hup hq hfits
  obtain ⟨u, hu⟩ : ∃ u, u = (s.turnOver q).placeFrame j j.frames.length [p] := ⟨_, rfl⟩
  rw [← hu] at hseq hcounted htxq
  have hstream : u.pace.stream = u.stream := show Part.stream.same u _ by simp [Part.same_refl]
  refine ⟨u.pace, ?_, ?_, ((KeepsStreams.refl [] u).pace).counted hcounted, (s.turnOver q).jobReplica j j.frames.length p, ?_, rfl, rfl,
    rfl, (s.turnOver q).jobReplica_body j j.frames.length p⟩
  · rw [exec_frameBuild hturn hj, State.buildFrame_entry (s := s.turnOver q) hpoison herrs hports, hu]
  · rw [State.nextSeq, hstream]
    exact hseq
  · rw [State.port_congr (State.pace_ports u)]
    exact htxq

end Build

/-! SEND_ON_EVENT_START (R227). -/

/-- The jobs of a queue that a pulse has reached start, and nothing else differs. -/
theorem sendOnEventStart_starts (s : State) (q : Fin 4096) : Answers (.sendOnEventStart q) s fun t =>
    t = { s with xfer := { s.xfer with jobs := t.xfer.jobs } } ∧ t.xfer.jobs = s.xfer.jobs.map fun j =>
      { j with started := j.started || (j.queue == q.val && j.kind == .sendOnEvent && j.pulsed) } := by
  refine ⟨_, rfl, rfl, List.map_congr_left fun j _ => ?_⟩
  by_cases hreached : j.queue = q.val ∧ j.kind = .sendOnEvent ∧ j.pulsed = true
  · obtain ⟨hqueue, hkind, hpulsed⟩ := hreached
    simp [hqueue, hkind, hpulsed]
  · have hwaits : (j.queue == q.val && j.kind == .sendOnEvent && j.pulsed) = false := by
      rw [← Bool.not_eq_true]
      simpa [and_assoc] using hreached
    rw [if_neg hreached, hwaits, Bool.or_false]

/-- Settles O48: a built frame is the sole replica of its stream (`State.placeFrame_places`), and the jobs that end are those that
`State.finishAll` and `State.finish` take away. -/
theorem jobsBuildTheirFramesAndEnd : Obligations.JobsBuildTheirFramesAndEnd := by
  refine ⟨fun s q j p => ?builds, fun s q j hturn hj hpoison herrs hports => frameBuild_noEntry hturn hj hpoison herrs hports,
    fun s q hturn => ?waits, sendOnEventStart_starts, fun s q => ⟨_, rfl, s.mem_jobs_timedOut _ _ _ _⟩,
    fun s q => ⟨_, rfl, s.mem_jobs_timedOut _ _ _ _⟩, fun s q j hj hfirst hstand => fenceFinish_ends hj hfirst hstand⟩
  case builds =>
    intro i n e hturn hj hpoison herrs hports hts hjoined hup hq hfits
    exact frameBuild_places hturn hj hpoison herrs hports hts hjoined hup hq hfits
  case waits =>
    exact congrArg Host.Outcome.next (if_neg hturn)

end Sys2Proof.Machine
end

section
/-! SUPPORT. Event lines and event pins: the owners that a write of EVENT_RX_LINES or PIN_CFG takes, and what an edge or the end of a pulse
does to a pin (R196, R198, R199). -/

namespace Sys2Proof.Machine

open Sys2Proof

/-! Owners (R43, R44). -/

/-- Resources that are free, or the owner's own, are not blocked. -/
theorem State.blocked_none {s : State} {o : Nat} {rs : List Nat} (h : ∀ r ∈ rs, s.ownerOf r = 0 ∨ s.ownerOf r = o) :
    s.blocked o rs = none := by
  rw [State.blocked, List.find?_eq_none]
  intro r hr
  rcases h r hr with h0 | ho
  · simp [h0]
  · simp [ho]

/-- Lines that an owner releases are none but those listed. -/
theorem State.ownerOf_release_other {n : Nat} (hn : n < 0x1000) (o : Nat) (l : List Nat) (hl : n ∉ l) (s : State) :
    (s.release o (l.map resLine)).ownerOf (resLine n) = s.ownerOf (resLine n) := by
  induction l generalizing s with
  | nil => rfl
  | cons m l ih =>
    have hne : resLine m ≠ resLine n := fun he => hl (by simp [show m = n by simpa [resLine] using he])
    have hset : (s.setOwner (resLine m) 0).ownerOf (resLine n) = s.ownerOf (resLine n) := by
      rw [State.ownerOf_resLine _ hn, s.lineOwner_setOwner_other 0 hne, State.ownerOf_resLine s hn]
    refine (ih (fun hmem => hl (List.mem_cons_of_mem _ hmem)) _).trans ?_
    dsimp only
    split
    · exact hset
    · rfl

theorem State.setOwner_resPin (s : State) (o : Nat) {n : Nat} (h : n < 0x1000) :
    s.setOwner (resPin n) o = { s with evt := { s.evt with pinOwner := smSet s.evt.pinOwner n o } } := by
  have hdiv : resPin n / 0x1000 = 2 := by simp only [resPin]; omega
  have hmod : resPin n % 0x1000 = n := by simp only [resPin]; omega
  simp only [State.setOwner, hdiv, hmod]

theorem State.ownerOf_resPin (s : State) {n : Nat} (h : n < 0x1000) : s.ownerOf (resPin n) = smGet s.evt.pinOwner n 0 := by
  have hdiv : resPin n / 0x1000 = 2 := by simp only [resPin]; omega
  have hmod : resPin n % 0x1000 = n := by simp only [resPin]; omega
  simp only [State.ownerOf, hdiv, hmod]

/-! EVENT_RX_LINES (R196). -/

theorem exec_eventRxLines {s : State} (lines : Word) (h : s.opens .evt R.EVT_EVENT_RX_LINES 24) :
    exec (.eventRxLines lines) s = .next (s.writeRxLines lines) := by
  have hmask : lines &&& wd 0xFFFFFFFFFFFFFFFF = lines := BitVec.and_allOnes
  have hwrite := State.regWriteV_opens (r := ⟨.evt, R.EVT_EVENT_RX_LINES, 1, 0, 8, .rw, 0xFFFFFFFFFFFFFFFF, 24⟩) (i := 0) (j := 0)
    (v := lines) (f := State.writeRxLines) rfl h
  rw [show wd _ = wd 0xFFFFFFFFFFFFFFFF from rfl, hmask] at hwrite
  exact congrArg Host.Outcome.next hwrite

/-- The lines of a word of EVENT_RX_LINES that are not in another. -/
def addedLines (old v : Word) : List Nat := (linesOf v).filter fun n => !bit old n

theorem mem_addedLines {old v : Word} {n : Nat} : n ∈ addedLines old v ↔ n < 64 ∧ bit v n = true ∧ bit old n = false := by
  simp [addedLines, linesOf, and_comm]

section Write

variable {s : State} {v : Word}

theorem State.writeRxLines_blocked {r : Nat}
    (h : s.blocked ownerEvRx ((addedLines (s.reg .evt 0 R.EVT_EVENT_RX_LINES) v).map resLine) = some r) :
    s.writeRxLines v = s.refuseOwned .evt 0 r (s.ownerOf r) := by
  unfold State.writeRxLines
  dsimp only
  rw [← addedLines, h]

theorem State.writeRxLines_free
    (h : s.blocked ownerEvRx ((addedLines (s.reg .evt 0 R.EVT_EVENT_RX_LINES) v).map resLine) = none) : s.writeRxLines v =
      ((s.takeAll ownerEvRx ((addedLines (s.reg .evt 0 R.EVT_EVENT_RX_LINES) v).map resLine)).release ownerEvRx
        ((addedLines v (s.reg .evt 0 R.EVT_EVENT_RX_LINES)).map resLine)).setReg .evt 0 R.EVT_EVENT_RX_LINES v := by
  unfold State.writeRxLines
  dsimp only
  rw [← addedLines, h, ← addedLines]

end Write

section RxLines

variable {s : State} {lines : Word} (h : s.opens .evt R.EVT_EVENT_RX_LINES 24)
include h

theorem eventRxLines_takes (hfree : ∀ n, n < 64 → bit lines n = true → bit (s.reg .evt 0 R.EVT_EVENT_RX_LINES) n = false →
      s.ownerOf (resLine n) = 0 ∨ s.ownerOf (resLine n) = ownerEvRx) :
    Answers (.eventRxLines lines) s fun t => t.reg .evt 0 R.EVT_EVENT_RX_LINES = lines ∧
      ∀ n, n < 64 → bit lines n = true → bit (s.reg .evt 0 R.EVT_EVENT_RX_LINES) n = false → t.ownerOf (resLine n) = ownerEvRx := by
  have hblocked : s.blocked ownerEvRx ((addedLines (s.reg .evt 0 R.EVT_EVENT_RX_LINES) lines).map resLine) = none := by
    refine State.blocked_none (List.forall_mem_map.2 fun n hn => ?_)
    obtain ⟨hlt, hset, hclear⟩ := mem_addedLines.1 hn
    exact hfree n hlt hset hclear
  refine ⟨_, exec_eventRxLines lines h, ?_⟩
  rw [State.writeRxLines_free hblocked]
  refine ⟨State.reg_setReg .., fun n hlt hset hclear => ?_⟩
  have hkept : n ∉ addedLines lines (s.reg .evt 0 R.EVT_EVENT_RX_LINES) := fun hmem => by
    obtain ⟨-, -, hoff⟩ := mem_addedLines.1 hmem
    rw [hset] at hoff
    cases hoff
  have hn : n < 0x1000 := by omega
  refine (State.ownerOf_release_other hn ownerEvRx _ hkept _).trans ?_
  exact State.takeAll_owns hn _ _ _ (.inl (mem_addedLines.2 ⟨hlt, hset, hclear⟩))

theorem eventRxLines_refused {n : Nat} (hlt : n < 64) (hset : bit lines n = true)
    (hclear : bit (s.reg .evt 0 R.EVT_EVENT_RX_LINES) n = false) (h0 : s.ownerOf (resLine n) ≠ 0)
    (ho : s.ownerOf (resLine n) ≠ ownerEvRx) (hfirst : ∀ m, m < n → bit lines m = true →
      bit (s.reg .evt 0 R.EVT_EVENT_RX_LINES) m = false → s.ownerOf (resLine m) = 0 ∨ s.ownerOf (resLine m) = ownerEvRx) :
    exec (.eventRxLines lines) s = .next (s.refuseOwned .evt 0 (resLine n) (s.ownerOf (resLine n))) := by
  have hblocked : s.blocked ownerEvRx ((addedLines (s.reg .evt 0 R.EVT_EVENT_RX_LINES) lines).map resLine) = some (resLine n) := by
    rw [State.blocked, List.find?_map, addedLines, linesOf, List.filter_filter, List.find?_filter, Option.map_eq_some_iff]
    refine ⟨n, List.find?_range_eq_some.2 ⟨by simp [hset, hclear, h0, ho], by simpa using hlt, fun m hm => ?_⟩, rfl⟩
    by_cases hadd : bit lines m = true ∧ bit (s.reg .evt 0 R.EVT_EVENT_RX_LINES) m = false
    · rcases hfirst m hm hadd.1 hadd.2 with hm0 | hmo
      · simp [hm0]
      · simp [hmo]
    · simp only [not_and_or, Bool.not_eq_true, Bool.not_eq_false] at hadd
      rcases hadd with hoff | hold
      · simp [hoff]
      · simp [hold]
  rw [exec_eventRxLines lines h, State.writeRxLines_blocked hblocked]

end RxLines

/-! PIN_CFG (R199). -/

theorem State.pin_modPin_same (s : State) (n : Nat) (f : PinSt → PinSt) : (s.modPin n f).pin n = f (s.pin n) := by
  simp [State.pin, State.modPin]

theorem State.pin_modPin_other (s : State) {n m : Nat} (f : PinSt → PinSt) (h : n ≠ m) : (s.modPin m f).pin n = s.pin n := by
  simp [State.pin, State.modPin, smGet_smMod_other _ _ _ _ _ _ h]

theorem findRow_pinCfg (n : Fin 32) :
    findRow .evt (R.EVT_PIN_CFG + 4 * n.val) = some (⟨.evt, R.EVT_PIN_CFG, 32, 4, 4, .rw, 0xFF3F07, 0⟩, n.val) := by
  revert n
  decide

theorem exec_pinCfg {s : State} (n : Fin 32) (v : BitVec 32) (h : s.opens .evt (R.EVT_PIN_CFG + 4 * n) 0) :
    exec (.pinCfg n v) s = .next (s.writePinCfg n (wd v.toNat &&& 0xFF3F07#64)) := by
  have hval : wd v.toNat &&& 0xFF3F07#64 = v.setWidth 64 &&& wd 0xFF3F07 := congrArg (· &&& wd 0xFF3F07) (BitVec.ofNat_toNat 64 v)
  have hwrite := State.regWriteV_opens (i := 0) (v := v.setWidth 64) (f := fun t w => t.writePinCfg n.val w) (findRow_pinCfg n) h
  rw [hval]
  exact congrArg Host.Outcome.next hwrite

/-- A pin that is off and free is taken for OUT, and put out inactive. -/
theorem State.writePinCfg_out {s : State} {n : Nat} {w : Word} (hmask : w &&& wd 0xFF3F07 = w) (hoff : pinMode (s.pinCfg n) = 0)
    (hout : pinMode w = 1) (hwidth : pinWidth w ≠ 0) (hfree : s.ownerOf (resPin n) = 0 ∨ s.ownerOf (resPin n) = ownerPin n) :
    s.writePinCfg n w = (((s.setOwner (resPin n) (ownerPin n)).setReg .evt 0 (R.EVT_PIN_CFG + 4 * n) w).modPin n fun p =>
      { p with level := pinInvert w }).out (.evtPin n (pinInvert w)) := by
  have hblocked : s.blocked (ownerPin n) [resPin n] = none := State.blocked_none (by simpa using hfree)
  unfold State.writePinCfg
  simp [hmask, hoff, hout, hwidth, hblocked, State.takeAll]

theorem pinCfg_putsOut {s : State} {n : Fin 32} {v : BitVec 32} (h : s.opens .evt (R.EVT_PIN_CFG + 4 * n) 0)
    (hoff : pinMode (s.pinCfg n) = 0) (hout : pinMode (wd v.toNat &&& 0xFF3F07#64) = 1)
    (hwidth : pinWidth (wd v.toNat &&& 0xFF3F07#64) ≠ 0)
    (hfree : s.ownerOf (resPin n) = 0 ∨ s.ownerOf (resPin n) = ownerPin n) :
    Answers (.pinCfg n v) s fun t => t.pinCfg n = wd v.toNat &&& 0xFF3F07#64 ∧ t.ownerOf (resPin n) = ownerPin n ∧
      (t.pin n).level = pinInvert (wd v.toNat &&& 0xFF3F07#64) ∧
      t.outs = s.outs ++ [.evtPin n (pinInvert (wd v.toNat &&& 0xFF3F07#64))] := by
  obtain ⟨w, hw⟩ : ∃ w, w = wd v.toNat &&& 0xFF3F07#64 := ⟨_, rfl⟩
  have hmask : w &&& wd 0xFF3F07 = w := by
    rw [hw, show wd 0xFF3F07 = 0xFF3F07#64 from rfl, BitVec.and_assoc, BitVec.and_self]
  have hn : n.val < 0x1000 := by omega
  rw [← hw] at hout hwidth ⊢
  refine ⟨_, exec_pinCfg n v h, ?_⟩
  rw [← hw, State.writePinCfg_out hmask hoff hout hwidth hfree, State.setOwner_resPin s _ hn]
  refine ⟨State.reg_setReg .., ?_, congrArg PinSt.level (State.pin_modPin_same ..), rfl⟩
  rw [State.ownerOf_resPin _ hn]
  exact smGet_smSet_same ..

/-! The end of a pin's pulse (R199). -/

theorem evtPinPulseEnd_returns {s : State} {n : Fin 32} (hout : pinMode (s.pinCfg n) = 1)
    (hlevel : (s.pin n).level = !pinInvert (s.pinCfg n)) :
    Answers (.evtPinPulseEnd n) s fun t => t.outs = s.outs ++ [.evtPin n (pinInvert (s.pinCfg n))] ∧
      t.pin n = { s.pin n with level := pinInvert (s.pinCfg n), change := (s.pin n).until_ } ∧
      t.time.now = max s.time.now (s.pin n).until_ :=
  ⟨_, if_pos ⟨hout, hlevel⟩, rfl, State.pin_modPin_same .., congrArg TimeSt.now (s.atLeast_time (s.pin n).until_)⟩

/-! An edge on an event pin (R199). -/

theorem pinReg_ne_counter {n c : Nat} (hn : n < 32) (hc : 0x300 ≤ c) :
    pageBase .evt 0 + (R.EVT_PIN_CFG + 4 * n) ≠ pageBase .evt 0 + c := by
  simp only [pageBase, R.EVT_PIN_CFG]
  omega

theorem State.pinCfg_of_find {s t : State} {n : Nat} (h : smFind t.regs (pageBase .evt 0 + (R.EVT_PIN_CFG + 4 * n)) =
    smFind s.regs (pageBase .evt 0 + (R.EVT_PIN_CFG + 4 * n))) : t.pinCfg n = s.pinCfg n := State.reg_of_find h

/-- A pin and what it is set to are as they were. -/
def SamePin (n : Nat) (s t : State) : Prop := t.pinCfg n = s.pinCfg n ∧ t.pin n = s.pin n

theorem SamePin.count {n po : Nat} {s t : State} (h : SamePin n s t) (hn : n < 32) (hpo : 0x300 ≤ po) :
    SamePin n s (t.count .evt 0 po) :=
  ⟨(State.pinCfg_of_find (State.find_count_other _ _ _ _ _ (pinReg_ne_counter hn hpo))).trans h.1,
    (congrArg (fun e : EvtSt => smGet e.pins n {}) (State.count_evt ..)).trans h.2⟩

/-- A pulse of a line moves the output pins alone. -/
theorem State.pin_pulse {s : State} {n : Nat} (hn : n < 32) (hin : pinMode (s.pinCfg n) ≠ 1) (line at_ : Nat) :
    (s.pulse line at_).pin n = s.pin n := by
  have hpin : ∀ u, SamePin n s u → ∀ m, SamePin n s (u.pulsePin line at_ m) := by
    intro u hu m
    unfold State.pulsePin
    dsimp only
    split
    next hlistens =>
      have hne : n ≠ m := fun he => hin (by rw [← hu.1, he]; exact hlistens.1)
      exact SamePin.count (t := u.modPin m _) ⟨hu.1, (State.pin_modPin_other u _ hne).trans hu.2⟩ hn (by decide)
    next => exact hu
  have hgen : ∀ u, SamePin n s u → ∀ g, SamePin n s (u.pulseGen line at_ g) := by
    intro u hu g
    unfold State.pulseGen
    dsimp only
    repeat' split
    · exact hu.count hn (by decide)
    · exact hu
    · exact hu
  have hheard : ∀ u, SamePin n s u → (u.heardPulse line at_).pin n = s.pin n := by
    intro u hu
    have hboth : SamePin n s (u.pinsAndGensHear line at_) :=
      List.foldlRecOn _ _ (List.foldlRecOn _ _ hu fun v hv m _ => hpin v hv m) fun v hv g _ => hgen v hv g
    rw [State.heardPulse_eq]
    exact hboth.2
  unfold State.pulse
  split
  · rfl
  · exact hheard _ ⟨rfl, rfl⟩

theorem exec_evtPinEdge {s : State} {n : Fin 32} {rising : Bool} {at_ : Nat} (hin : pinMode (s.pinCfg n) = 2)
    (hdir : rising = !pinInvert (s.pinCfg n)) (hlevel : (s.pin n).level ≠ rising)
    (hapart : (s.pin n).change + 4 * wNs ≤ (s.atLeast at_).time.now) : exec (.evtPinEdge n rising at_) s = .next
      (((((s.atLeast at_).modPin n fun p => { p with level := rising, change := (s.atLeast at_).time.now }).modPin n fun p =>
        { p with stamp := (s.atLeast at_).nowNs }).count .evt 0 R.EVT_PIN_EDGES).pulseNow (pinLine (s.pinCfg n))) := by
  have hnot : pinMode ((s.atLeast at_).pinCfg n) ≠ 1 := fun h => absurd (hin.symm.trans h) (by decide)
  exact (if_neg hnot).trans (if_pos ⟨hin, hdir, hlevel, hapart⟩)

theorem evtPinEdge_stamps {s : State} {n : Fin 32} {rising : Bool} {at_ : Nat} (hin : pinMode (s.pinCfg n) = 2)
    (hdir : rising = !pinInvert (s.pinCfg n)) (hlevel : (s.pin n).level ≠ rising)
    (hapart : (s.pin n).change + 4 * wNs ≤ (s.atLeast at_).time.now) : Answers (.evtPinEdge n rising at_) s fun t =>
      t.pin n = { s.pin n with level := rising, change := (s.atLeast at_).time.now, stamp := (s.atLeast at_).nowNs } ∧
      t.time.now = max s.time.now at_ ∧ Counted .evt 0 R.EVT_PIN_EDGES s t := by
  obtain ⟨u, hu⟩ : ∃ u, u = ((s.atLeast at_).modPin n fun p =>
    { p with level := rising, change := (s.atLeast at_).time.now }).modPin n fun p => { p with stamp := (s.atLeast at_).nowNs } :=
    ⟨_, rfl⟩
  have hpin : u.pin n = { s.pin n with level := rising, change := (s.atLeast at_).time.now, stamp := (s.atLeast at_).nowNs } := by
    rw [hu, State.pin_modPin_same, State.pin_modPin_same]
    rfl
  have hcfg : u.pinCfg n = s.pinCfg n := hu ▸ rfl
  have htime : u.time = (s.atLeast at_).time := hu ▸ rfl
  have hregs : u.regs = s.regs := hu ▸ rfl
  have hcounted : (u.count .evt 0 R.EVT_PIN_EDGES).pinCfg n = s.pinCfg n :=
    (SamePin.count (s := u) ⟨rfl, rfl⟩ n.isLt (by decide)).1.trans hcfg
  have hnot : pinMode ((u.count .evt 0 R.EVT_PIN_EDGES).pinCfg n) ≠ 1 := by
    rw [hcounted, hin]
    decide
  refine ⟨_, exec_evtPinEdge hin hdir hlevel hapart, ?_⟩
  rw [← hu]
  refine ⟨?_, ?_, ?_⟩
  · refine (State.pin_pulse n.isLt hnot _ _).trans (Eq.trans ?_ hpin)
    exact congrArg (fun e : EvtSt => smGet e.pins n {}) (State.count_evt ..)
  · rw [State.pulseNow, State.pulse_time, State.count_time, htime, State.atLeast_time]
  · refine counted_of_find (counted_from (counted_count .evt 0 R.EVT_PIN_EDGES u) (by rw [hregs])) ?_
    exact State.find_pulse_other _ _ _ _ (by decide) (by decide)

end Sys2Proof.Machine
end

section
/-! SUPPORT. Event generators: the registers that jobs which finish leave alone, the EVENT that a pulse's generator builds, and the proof of
O44 (R196 to R199). -/

namespace Sys2Proof.Machine

open Sys2Proof

/-! Jobs that finish (R226, R235 to R246). -/

/-- A register of the pages in which the finish of a job counts: GLOBAL, XFER, TRACE and the memory channels. -/
abbrev JobReg (a : Nat) : Prop := a < 0x1000 ∨ 0x4000 ≤ a ∧ a < 0x5000 ∨ 0xC000 ≤ a ∧ a < 0xD000 ∨ 0x800000 ≤ a

section Finish

variable (s : State) {a : Nat} (h : ¬ JobReg a)
include h

theorem State.find_count_notJob (k : PageKind) (i po : Nat) (hk : JobReg (pageBase k i + po)) :
    smFind (s.count k i po).regs a = smFind s.regs a :=
  State.find_count_other _ _ _ _ _ fun he => h (he ▸ hk)

theorem State.find_store_notJob (w : Nat) (bs : List Byte) : smFind (s.store w bs).regs a = smFind s.regs a := by
  have hmch : ∀ (u : State) (v po : Nat), smFind (u.count .mch (mchOf v) po).regs a = smFind u.regs a := fun u v po =>
    u.find_count_notJob h _ _ _ (by simp only [JobReg, pageBase]; omega)
  rw [State.store, State.writeMem_regs, State.blur_regs]
  refine State.find_foldl_other _ _ (fun u e => ?_) _
  unfold State.eccOne State.linkErr
  dsimp only
  repeat' split
  all_goals simp [hmch, State.raise, State.alarmAt]

theorem State.find_notifyId_notJob (i : Nat) : smFind (s.notifyId i).regs a = smFind s.regs a := by
  unfold State.notifyId State.signal
  split <;> exact State.find_count_notJob _ h _ _ _ (by decide)

theorem State.find_episode_notJob (c later : Nat) (sent : Bool) : smFind (s.episode c later sent).regs a = smFind s.regs a := by
  have hfull : ∀ u : State, smFind (u.count .xfer 0 R.XFER_CQ_FULL_EPISODES).regs a = smFind u.regs a := fun u =>
    u.find_count_notJob h _ _ _ (by decide)
  unfold State.episode State.notifyRing
  dsimp only
  repeat' split
  all_goals simp [State.find_notifyId_notJob _ h, hfull]

theorem State.find_complete_notJob (c queue : Nat) (lo hi : Word) :
    smFind (s.complete c queue lo hi).regs a = smFind s.regs a := by
  have hput : ∀ u : State, smFind (u.count .xfer 0 R.XFER_COMPLETIONS).regs a = smFind u.regs a := fun u =>
    u.find_count_notJob h _ _ _ (by decide)
  unfold State.complete State.putEntry State.notifyRing
  dsimp only
  repeat' split
  all_goals simp [State.find_episode_notJob _ h, State.find_notifyId_notJob _ h, hput, State.find_store_notJob _ h]

theorem State.find_finishAt_notJob (at_ : Nat) (j : Job) (status : Nat) :
    smFind (s.finishAt at_ j status).regs a = smFind s.regs a := by
  have hlost : ∀ u : State, smFind (u.count .xfer 0 R.XFER_TS_LOST_JOBS).regs a = smFind u.regs a := fun u =>
    u.find_count_notJob h _ _ _ (by decide)
  have htrace : ∀ po, po < 0x1000 → a ≠ pageBase .trace 0 + po := fun po hpo he => h (he ▸ by simp only [JobReg, pageBase]; omega)
  unfold State.finishAt
  dsimp only
  rw [State.find_complete_notJob _ h, State.find_traceAt_other _ _ _ _ _ _ _ _ _ _ _ (htrace _ (by decide)) (htrace _ (by decide))]
  repeat' split
  all_goals simp [State.sample_regs, State.sampleOther_regs, hlost]

theorem State.find_departs_notJob : smFind s.departs.regs a = smFind s.regs a :=
  State.find_foldl_other _ _ (fun _ _ => State.find_finishAt_notJob _ h _ _ _) s

end Finish

/-! A generator's EVENT (R197). -/

/-- The payload of an EVENT is 16 bytes (R195). -/
theorem length_eventBytes (timed : Bool) (line cycle tick ns : Nat) : (eventBytes timed line cycle tick ns).length = 16 := by
  simp only [eventBytes, List.length_append, length_beBytes]

theorem State.occupancy_mono (s : State) (p : Nat) {m n : Nat} (h : m ≤ n) : s.occupancy p m ≤ s.occupancy p n :=
  Nat.div_le_div_right (by omega)

/-- A member port that has the link bit that a frame needs gets its replica. -/
theorem State.replicate_agreed {s : State} {p b : Nat} (hb : s.linkBit p b = true) (handle cls typ : Nat) (tagged : Bool) (hd : Hdr)
    (payload : List Byte) (origin : Nat → Origin) (loaded ts : Bool) :
    s.replicate handle cls typ tagged hd payload origin loaded ts (some b) [p] =
      s.replicate handle cls typ tagged hd payload origin loaded ts none [p] := by
  have hport := State.port_congr (s := s) (t := s.numbered handle) (by rw [State.numbered, State.count_ports]) p
  have hbit : (s.numbered handle).linkBit p b = true := by
    rw [State.linkBit, hport]
    exact hb
  exact if_neg (show ¬ (!(s.numbered handle).linkBit p b) = true by simp [hbit])

/-- The generator has no pulse any more. -/
def State.genTaken (s : State) (g : Nat) : State := { s with evt := { s.evt with gens := smErase s.evt.gens g } }

theorem exec_eventGenBuild_noEntry {s : State} {g : Fin 16} {x : GenPulse} (hx : smFind s.evt.gens g = some x)
    (hports : s.live.genPorts (fld (s.genWord g) 27 8) = none) :
    exec (.eventGenBuild g) s = .next ((s.genTaken g).count .evt 0 R.EVT_EVENT_GEN_NO_ENTRY) := by
  have hlive : (s.genTaken g).live = s.live := rfl
  show execEventGenBuild g s = _
  unfold execEventGenBuild
  rw [hx]
  dsimp only
  rw [← State.genTaken, hlive, hports]

theorem eventGenBuild_noEntry {s : State} {g : Fin 16} {x : GenPulse} (hx : smFind s.evt.gens g = some x)
    (hports : s.live.genPorts (fld (s.genWord g) 27 8) = none) : Answers (.eventGenBuild g) s fun t =>
      t.evt.gens = smErase s.evt.gens g ∧ t.ports = s.ports ∧ Counted .evt 0 R.EVT_EVENT_GEN_NO_ENTRY s t :=
  ⟨_, exec_eventGenBuild_noEntry hx hports, congrArg EvtSt.gens (State.count_evt ..), State.count_ports ..,
    counted_count .evt 0 R.EVT_EVENT_GEN_NO_ENTRY (s.genTaken g)⟩

/-- The header of the EVENT of a generator, but for its number and its length. -/
def State.genHdr (s : State) (g : Nat) : Hdr :=
  { typ := tEvent, dst := fld (s.genWord g) 47 32, src := s.nodeId, handle := fld (s.genWord g) 27 8, cycle := s.cycField }

/-- The payload of an untimed EVENT of a generator. -/
def State.genUntimed (s : State) (g : Nat) (x : GenPulse) : List Byte := eventBytes false (fld (s.genWord g) 53 48) 0 0 x.ns

/-- The state in which the only member port of the generator's stream has the EVENT, and judges its heads next. -/
def State.genPut (s : State) (g : Nat) (x : GenPulse) (p : Nat) : State :=
  (s.genTaken g).replicate (fld (s.genWord g) 27 8) (fld (s.genWord g) 30 28) tEvent (bit (s.genWord g) 31) (s.genHdr g)
    (s.genUntimed g x) (fun _ => .own) true false none [p]

/-- The EVENT that the only member port of the generator's stream gets. -/
def State.genFrame (s : State) (g : Nat) (x : GenPulse) (p : Nat) : TxFrame :=
  (s.genTaken g).soleReplica p (fld (s.genWord g) 27 8) (fld (s.genWord g) 30 28) tEvent (bit (s.genWord g) 31) (s.genHdr g)
    (s.genUntimed g x) (fun _ => .own) true false

section Untimed

variable {s : State} {g : Fin 16} {x : GenPulse} {p : Nat}

theorem exec_eventGenBuild_untimed (hx : smFind s.evt.gens g = some x)
    (hports : s.live.genPorts (fld (s.genWord g) 27 8) = some [p]) (huntimed : bit (s.genWord g) 54 = false)
    (hagreed : s.linkBit p 6 = true) : exec (.eventGenBuild g) s =
      .next (((s.genPut g x p).arrived p).count .evt 0 R.EVT_EVENT_GEN_FRAMES).pace := by
  have hlive : (s.genTaken g).live = s.live := rfl
  have hput : s.genPut g x p = (s.genTaken g).replicate (fld (s.genWord g) 27 8) (fld (s.genWord g) 30 28) tEvent
      (bit (s.genWord g) 31) (s.genHdr g) (s.genUntimed g x) (fun _ => .own) true false (some 6) [p] :=
    (State.replicate_agreed (s := s.genTaken g) hagreed ..).symm
  have hpayload : ∀ delay, (s.genTaken g).genPayload (s.genWord g) delay x = (s.genTaken g, s.genUntimed g x) := fun delay =>
    if_pos (by rw [huntimed]; rfl)
  have hhdr : s.genHdr g =
      { typ := tEvent, dst := fld (s.genWord g) 47 32, src := (s.genTaken g).nodeId, handle := fld (s.genWord g) 27 8,
        cycle := (s.genTaken g).cycField } := rfl
  rw [hput]
  show execEventGenBuild g s = _
  unfold execEventGenBuild
  rw [hx]
  dsimp only
  rw [← State.genTaken, hlive, hports]
  dsimp only
  rw [hpayload, hhdr]
  dsimp only [List.foldl]

theorem State.find_genPut (s : State) (g : Nat) (x : GenPulse) (p : Nat) {a : Nat} (ha : 0x4000 ≤ a ∧ a < 0x200000) :
    smFind (s.genPut g x p).regs a = smFind s.regs a := by
  have hstream : ∀ (u : State) (po : Nat), po < 0x1000 → smFind (u.count .stream 0 po).regs a = smFind u.regs a := fun u po hpo =>
    State.find_count_other _ _ _ _ _ (by simp only [pageBase]; omega)
  rw [State.genPut, State.replicate_sole, State.countP,
    State.find_countN_other _ _ _ _ _ _ (by have := portReg_ge p R.PORT_REPLICA_TX; omega), hstream _ _ (by decide), State.enqueue,
    State.modPort_regs, State.numbered, hstream _ _ (by decide)]
  rfl

/-- An empty port holds the EVENT alone. -/
theorem State.ports_genPut (hq : (s.port p).txq = []) : (s.genPut g x p).ports = (s.loaded p (s.genFrame g x p)).ports := by
  have hempty : ((s.genTaken g).port p).txq = [] := hq
  rw [State.genPut, State.ports_replicate_sole _ _ _ _ _ _ _ _ _ _ _ hempty, ← State.genFrame]
  rfl

/-- The port, which is UP and has a window for the EVENT, does not discard it. -/
theorem State.headDrop_genPut (hjoined : s.node.state = .joined) (hup : s.isUp p = true) (hq : (s.port p).txq = [])
    (hfits : s.occupancy p 70 ≤ s.longest p (fld (s.genWord g) 30 28)) :
    (s.genPut g x p).headDrop p (s.genFrame g x p) = none := by
  have hput : ∀ pt, pt = Part.time ∨ pt = .node ∨ pt = .slate → pt.same s (s.genPut g x p) := by
    rintro _ (rfl | rfl | rfl) <;> simp (maxDischargeDepth := 6) [State.genPut, State.genTaken, Part.same_refl]
  have hjudge : (s.genPut g x p).headDrop p (s.genFrame g x p) = (s.loaded p (s.genFrame g x p)).headDrop p (s.genFrame g x p) :=
    State.headDrop_congr (s := s.loaded p (s.genFrame g x p)) (State.ports_genPut hq) (hput .time (.inl rfl))
      (hput .node (.inr (.inl rfl))) (hput .slate (.inr (.inr rfl))) p _
  have hlen : frameLen (s.genFrame g x p).frame ≤ 70 := by
    rw [State.genFrame, State.soleReplica_len, State.genUntimed, length_eventBytes, itpLen]
    split <;> decide
  rw [hjudge, State.headDrop_txq]
  exact State.headDrop_fits rfl rfl hjoined hup ((s.occupancy_mono p hlen).trans hfits)

/-- A frame that its port keeps counts in no register of the EVT page. -/
theorem State.find_arrived_evt {fr : TxFrame} {u : State} (hq : (u.port p).txq = [fr]) (hd : u.headDrop p fr = none) {a : Nat}
    (ha : 0xA000 ≤ a ∧ a < 0xB000) : smFind (u.arrived p).regs a = smFind u.regs a := by
  have hjob : ¬ JobReg a := by simp only [JobReg]; omega
  rw [State.arrived, State.purge, State.purgeHeads_only hq hd,
    State.find_countEaten_other _ _ _ (by have := portReg_ge p R.PORT_PAUSE_WINDOW_LOST; omega),
    State.find_pace_other _ _ (by simp only [pageBase, R.MOVER_PACE_STOPS]; omega), State.find_departs_notJob _ hjob]
  rfl

theorem eventGenBuild_builds (hx : smFind s.evt.gens g = some x)
    (hports : s.live.genPorts (fld (s.genWord g) 27 8) = some [p]) (huntimed : bit (s.genWord g) 54 = false)
    (hagreed : s.linkBit p 6 = true) (hjoined : s.node.state = .joined) (hup : s.isUp p = true) (hq : (s.port p).txq = [])
    (hfits : s.occupancy p 70 ≤ s.longest p (fld (s.genWord g) 30 28)) :
    Answers (.eventGenBuild g) s fun t => (t.port p).txq = [s.genFrame g x p] ∧ Counted .evt 0 R.EVT_EVENT_GEN_FRAMES s t := by
  obtain ⟨u, hu⟩ : ∃ u, u = s.genPut g x p := ⟨_, rfl⟩
  have hports' : u.ports = (s.loaded p (s.genFrame g x p)).ports := hu ▸ State.ports_genPut hq
  have hholds : (u.port p).txq = [s.genFrame g x p] := by
    rw [State.port_congr hports', State.loaded, State.port_modPort_same]
  have hkept : u.headDrop p (s.genFrame g x p) = none := hu ▸ State.headDrop_genPut hjoined hup hq hfits
  refine ⟨_, exec_eventGenBuild_untimed hx hports huntimed hagreed, ?_, ?_⟩
  · rw [← hu, State.port_congr ((State.pace_ports _).trans (State.count_ports ..))]
    exact State.txq_arrived_only hholds hkept
  · have hsame : smFind (u.arrived p).regs (pageBase .evt 0 + R.EVT_EVENT_GEN_FRAMES) =
        smFind s.regs (pageBase .evt 0 + R.EVT_EVENT_GEN_FRAMES) :=
      (State.find_arrived_evt hholds hkept (by decide)).trans (hu ▸ s.find_genPut g x p (by decide))
    rw [← hu]
    exact counted_of_find (counted_from (counted_count ..) hsame) (State.find_pace_other _ _ (by decide))

end Untimed

/-- Settles O44: the writes take what `State.takeAll` and `State.setOwner` give, a pin that is no output stands through the pulse that its
edge makes (`State.pin_pulse`), and the port keeps the EVENT that fits its window (`State.headDrop_genPut`). -/
theorem eventLinesAndPinsAct : Obligations.EventLinesAndPinsAct := by
  refine ⟨fun s lines h => ⟨fun hfree => eventRxLines_takes h hfree, fun n hlt hset hclear h0 ho hfirst =>
      eventRxLines_refused h hlt hset hclear h0 ho hfirst⟩,
    fun s n v h hoff hout hwidth hfree => pinCfg_putsOut h hoff hout hwidth hfree,
    fun s n hout hlevel => evtPinPulseEnd_returns hout hlevel,
    fun s n rising at_ hin hdir hlevel hapart => evtPinEdge_stamps hin hdir hlevel hapart,
    fun s g x hx hports => eventGenBuild_noEntry hx hports, fun s g x p => ?builds⟩
  case builds =>
    intro w hx hports huntimed hagreed hjoined hup hq hfits
    obtain ⟨t, ht, htxq, hcounted⟩ := eventGenBuild_builds hx hports huntimed hagreed hjoined hup hq hfits
    exact ⟨t, ht, s.genFrame g x p, _, htxq, rfl, rfl, (s.genTaken g).soleReplica_body .., rfl, rfl, rfl, rfl, rfl, hcounted⟩

end Sys2Proof.Machine
end

section
/-! SUPPORT. Fault reports and the reporter bitmaps: how a report joins the queue, the bitmap of an entry in memory without errors, and what
a report does to its entry (R193, R313 to R316). -/

namespace Sys2Proof.Machine

open Sys2Proof

/-! Counts leave the headers' ENABLE (R28, R41). -/

theorem State.enable_cause (s : State) (k : PageKind) (i b : Nat) (k' : PageKind) (i' : Nat) :
    ((s.cause k i b).hdr k' i').enable = (s.hdr k' i').enable := by
  by_cases hpage : pageBase k' i' / 0x1000 = pageBase k i / 0x1000
  · have hsame : ∀ u : State, u.hdr k' i' = u.hdr k i := fun u => by rw [State.hdr, State.hdr, hpage]
    rw [hsame, hsame, State.hdr_cause]
  · rw [State.hdr, State.pages_cause_other _ _ _ _ _ hpage, State.hdr]

theorem State.enable_count (s : State) (k : PageKind) (i po : Nat) (k' : PageKind) (i' : Nat) :
    ((s.count k i po).hdr k' i').enable = (s.hdr k' i').enable := by
  rw [State.hdr, State.count_hdr_pages]
  split
  · exact s.enable_cause k i causeOvf k' i'
  · rfl

/-! A report enters the queue, or is discarded (R314, R316). -/

section FaultIn

variable {s : State} (r : FaultReport)

theorem State.faultIn_queues (hon : (s.hdr .fault 0).enable = true) (hready : s.fault.ready = true)
    (hroom : s.fault.queue.length < 2048) : s.faultIn r = s.modFault fun f => { f with queue := f.queue ++ [r] } := by
  simp [State.faultIn, hon, hready, hroom]

theorem State.faultIn_notReady (h : (s.hdr .fault 0).enable = false ∨ s.fault.ready = false) :
    s.faultIn r = s.count .fault 0 R.FAULT_RX_NOT_READY := by
  rcases h with h | h <;> simp [State.faultIn, h]

theorem State.faultIn_full (hon : (s.hdr .fault 0).enable = true) (hready : s.fault.ready = true)
    (hfull : 2048 ≤ s.fault.queue.length) :
    s.faultIn r = (s.count .fault 0 R.FAULT_AGG_QUEUE_FULL).raise 0x021 0 2 := by
  simp [State.faultIn, hon, hready, hfull]

end FaultIn

/-! Reports that this node sends (R313). -/

section SendReport

variable {s : State} (r : FaultReport)

/-- A report to this node's own aggregation is counted and queued. -/
theorem State.sendReport_own (hown : fld (s.reg .fault 0 R.FAULT_TX_CFG) 15 0 = s.nodeId) (hon : (s.hdr .fault 0).enable = true)
    (hready : s.fault.ready = true) (hroom : s.fault.queue.length < 2048) : s.sendReport r =
      (s.count .fault 0 (if r.resolved then R.FAULT_TX_RESOLVED else R.FAULT_TX_SENT)).modFault fun f =>
        { f with queue := f.queue ++ [r] } := by
  obtain ⟨u, hu⟩ : ∃ u, u = s.count .fault 0 (if r.resolved then R.FAULT_TX_RESOLVED else R.FAULT_TX_SENT) := ⟨_, rfl⟩
  have hfault : u.fault = s.fault := hu ▸ State.count_fault ..
  have hsend : s.sendReport r = u.faultIn r := hu ▸ if_pos hown
  rw [hsend, State.faultIn_queues r (by rw [hu, State.enable_count]; exact hon) (by rw [hfault]; exact hready)
    (by rw [hfault]; exact hroom), hu]

/-- A report to this node's own aggregation: the queue that it joins, and the counter that takes it. -/
theorem State.sendReport_joins (hown : fld (s.reg .fault 0 R.FAULT_TX_CFG) 15 0 = s.nodeId) (hon : (s.hdr .fault 0).enable = true)
    (hready : s.fault.ready = true) (hroom : s.fault.queue.length < 2048) :
    (s.sendReport r).fault = { s.fault with queue := s.fault.queue ++ [r] } ∧
    Counted .fault 0 (if r.resolved then R.FAULT_TX_RESOLVED else R.FAULT_TX_SENT) s (s.sendReport r) := by
  rw [State.sendReport_own r hown hon hready hroom]
  refine ⟨congrArg (fun f : FaultSt => { f with queue := f.queue ++ [r] }) (State.count_fault ..), ?_⟩
  exact counted_count .fault 0 _ s

theorem State.sendReport_halted (hother : fld (s.reg .fault 0 R.FAULT_TX_CFG) 15 0 ≠ s.nodeId) (hhalt : s.node.state = .halted) :
    s.sendReport r = s :=
  (if_neg hother).trans (if_pos hhalt)

theorem State.sendReport_noEntry (hother : fld (s.reg .fault 0 R.FAULT_TX_CFG) 15 0 ≠ s.nodeId) (hrun : s.node.state ≠ .halted)
    (hports : s.live.genPorts (fld (s.reg .fault 0 R.FAULT_TX_CFG) 35 16) = none) :
    s.sendReport r = s.count .fault 0 R.FAULT_TX_FAILED := by
  unfold State.sendReport
  dsimp only
  rw [if_neg hother, if_neg hrun, hports]

end SendReport

/-! Reporter bitmaps (R315, R316). -/

/-- Bit k of a number, taken out and put in again. -/
theorem testBit_replaced (n k : Nat) (on : Bool) : (n - n / 2 ^ k % 2 * 2 ^ k + b2n on * 2 ^ k).testBit k = on := by
  obtain ⟨c, hc⟩ : ∃ c, n / 2 ^ k = 2 * c + n / 2 ^ k % 2 := ⟨n / 2 ^ k / 2, (Nat.div_add_mod _ 2).symm⟩
  have hsplit : n - n / 2 ^ k % 2 * 2 ^ k + b2n on * 2 ^ k = 2 ^ k * (2 * c + b2n on) + n % 2 ^ k := by
    have hn := Nat.div_add_mod n (2 ^ k)
    rw [hc, mul_add, mul_comm (2 ^ k) (n / 2 ^ k % 2)] at hn
    rw [mul_add, mul_comm (2 ^ k) (b2n on)]
    omega
  rw [Nat.testBit_eq_decide_div_mod_eq, hsplit, Nat.mul_add_div (Nat.two_pow_pos k), Nat.div_eq_of_lt (Nat.mod_lt n (Nat.two_pow_pos k))]
  cases on <;> simp [b2n]

/-- A bit that is set or cleared in a byte reads as it was set. -/
theorem nbit_setFld_byte (b : Byte) {k : Nat} (hk : k < 8) (on : Bool) :
    nbit (BitVec.ofNat 8 (setFld (wd b.toNat) k k (b2n on)).toNat).toNat k = on := by
  have hval : (wd b.toNat).toNat = b.toNat := Nat.mod_eq_of_lt (by have := b.isLt; omega)
  have hpow : 2 ^ (k + 1 - k) = 2 := by rw [Nat.add_sub_cancel_left]; rfl
  have hon : b2n on % 2 = b2n on := by cases on <;> rfl
  have h64 : k < 64 := by omega
  rw [setFld, fld, bitsOf, hval, hpow, hon, nbit, BitVec.toNat_ofNat, wd, BitVec.toNat_ofNat, Nat.testBit_mod_two_pow,
    Nat.testBit_mod_two_pow, testBit_replaced]
  simp [hk, h64]

section Bitmaps

variable {s : State}

theorem State.repBit_congr {t : State} (hmem : t.mem = s.mem) (hregs : t.reg .fault 0 R.FAULT_REPORTER_BASE =
    s.reg .fault 0 R.FAULT_REPORTER_BASE) (e n : Nat) : t.repBit e n = s.repBit e n := by
  rw [State.repBit, State.readByte, State.repAddr, State.regF, hmem, hregs]
  rfl

theorem State.readByte_zeroMem (s : State) (a n b : Nat) :
    (s.zeroMem a n).readByte b = if a ≤ b ∧ b < a + n then 0 else s.readByte b := by
  have hfind : smFind (memClear s.mem a n) b = if !(decide (a ≤ b) && decide (b < a + n)) then smFind s.mem b else none :=
    smFind_filter (fun c => !(decide (a ≤ c) && decide (c < a + n))) s.mem b
  show smGet (memClear s.mem a n) b memDefault = _
  rw [smGet, hfind]
  by_cases hin : a ≤ b ∧ b < a + n
  · simp [hin, memDefault]
  · rw [if_neg hin, if_pos (by rw [← Bool.decide_and, decide_eq_false hin]; rfl)]
    rfl

theorem State.repBit_zeroMem {a n : Nat} {e k : Nat} (hin : a ≤ s.repAddr e k ∧ s.repAddr e k < a + n) :
    (s.zeroMem a n).repBit e k = false := by
  have hbyte : (s.zeroMem a n).readByte (s.repAddr e k) = 0 := by rw [State.readByte_zeroMem, if_pos hin]
  have hbit : (s.zeroMem a n).repBit e k = nbit ((s.zeroMem a n).readByte (s.repAddr e k)).toNat (k % 8) := rfl
  rw [hbit, hbyte]
  exact Nat.zero_testBit _

section Sound

variable (he : s.errs = [])
include he

theorem State.storeZero_sound (a n : Nat) : s.storeZero a n = s.zeroMem a n := by
  have hlost : s.linkLost a n = [] := by rw [State.linkLost, he]; rfl
  rw [State.storeZero, hlost, State.linkTake, State.eccTake_sound he]
  rfl

theorem State.zeroMem_sound (a n : Nat) : s.zeroMem a n =
    { s with mem := memClear s.mem a n, poison := unpoison s.poison a n, resv := unreserve s.resv a n } := by
  have herrs : overwritten s.errs a n = s.errs := by rw [he]; rfl
  rw [State.zeroMem, herrs]

/-- A bitmap that is cleared marks no node. -/
theorem State.repBit_clearReps {e k : Nat} (hk : k < 2 ^ 16) : (s.clearReps e).repBit e k = false := by
  rw [State.clearReps, State.storeZero_sound he]
  refine State.repBit_zeroMem ?_
  simp only [State.repAddr]
  omega

theorem State.clearReps_fault (e : Nat) : (s.clearReps e).fault = s.fault := by
  rw [State.clearReps, State.storeZero_sound he]
  rfl

variable (hp : s.poison = [])
include hp

theorem State.load_sound (a n : Nat) : s.load a n = (s, s.readMem a n) := by
  have hgood : ((wordsOf a n).filter fun w => s.readFails w 8) = [] := by
    simp [State.readFails_sound hp he]
  rw [State.load, hgood, State.eccRead, State.eccTake_sound he]
  rfl

theorem State.repByte_sound (e n : Nat) : s.repByte e n = (s, (s.readByte (s.repAddr e n)).toNat) := by
  rw [State.repByte, State.load_sound he hp]
  rfl

omit hp
variable (hm : s.memSafe)
include hm

/-- A node's bit is set or cleared in the byte of the bitmap, and nothing but memory changes. -/
theorem State.setRepBit_sound (e n : Nat) (on : Bool) : let t := s.setRepBit e n (s.readByte (s.repAddr e n)).toNat on
    t.repBit e n = on ∧ t = { s with mem := t.mem, poison := t.poison, resv := t.resv } := by
  rw [State.setRepBit, State.store_sound he]
  refine ⟨?_, State.writeMem_sound he _ _⟩
  obtain ⟨b, hb⟩ : ∃ b, b = BitVec.ofNat 8 (setFld (wd (s.readByte (s.repAddr e n)).toNat) (n % 8) (n % 8) (b2n on)).toNat := ⟨_, rfl⟩
  have hread : (s.writeMem (s.repAddr e n) [b]).readByte (s.repAddr e n) = b := memByte_memSet_same s.mem _ b hm
  have hbit : (s.writeMem (s.repAddr e n) [b]).repBit e n =
    nbit ((s.writeMem (s.repAddr e n) [b]).readByte (s.repAddr e n)).toNat (n % 8) := rfl
  rw [← hb, hbit, hread, hb]
  exact nbit_setFld_byte _ (Nat.mod_lt _ (by decide)) on

end Sound

end Bitmaps

/-! A report updates its entry (R314, R315). -/

theorem State.find_setEntry (s : State) (e : Nat) (x : FaultEntry) : smFind (s.setEntry e x).fault.entries e = some x :=
  smFind_smSet_same ..

/-- An entry that a report has updated. -/
def FaultEntry.reported (x : FaultEntry) (r : FaultReport) (cycle : Nat) : FaultEntry :=
  { x with reports := x.reports + 1, lastRep := r.src, lastCycle := cycle, lastDetail := r.detail, stale := false }

section Update

variable {s : State} {e : Nat} {x : FaultEntry} {r : FaultReport} (hm : s.memSafe) (he : s.errs = [])
include hm he

/-- A report that changes its reporter's bit: the bit and the entry, the queue and the registers after it. -/
theorem State.updateEntry_moves {on : Bool} (y : FaultEntry)
    (hupdate : s.updateEntry e r = (s.setRepBit e r.src (s.readByte (s.repAddr e r.src)).toNat on).setEntry e y) :
    let t := s.updateEntry e r
    t.fault.queue = s.fault.queue ∧ t.repBit e r.src = on ∧ smFind t.fault.entries e = some y ∧ t.regs = s.regs := by
  obtain ⟨u, hu⟩ : ∃ u, u = s.setRepBit e r.src (s.readByte (s.repAddr e r.src)).toNat on := ⟨_, rfl⟩
  obtain ⟨hbit, hrest⟩ := hu ▸ State.setRepBit_sound he hm e r.src on
  rw [hupdate, ← hu]
  refine ⟨?_, hbit, u.find_setEntry e y, ?_⟩
  · show u.fault.queue = _
    rw [hrest]
  · show u.regs = _
    rw [hrest]

variable (hp : s.poison = []) (hx : smFind s.fault.entries e = some x)
include hp hx

theorem State.updateEntry_raised (hr : r.resolved = false) (hb : s.repBit e r.src = false) : let t := s.updateEntry e r
    t.fault.queue = s.fault.queue ∧ t.repBit e r.src = true ∧ smFind t.fault.entries e = some
      { x.reported r s.time.cycle with active := x.active + 1, raises := min (x.raises + 1) 0xFFFFFFFF } ∧ t.regs = s.regs := by
  refine State.updateEntry_moves hm he _ ?_
  have hwas : nbit (s.readByte (s.repAddr e r.src)).toNat (r.src % 8) = false := hb
  unfold State.updateEntry
  rw [hx, State.repByte_sound he hp]
  dsimp only
  rw [hr, hwas]
  rfl

theorem State.updateEntry_resolved (hr : r.resolved = true) (hb : s.repBit e r.src = true) : let t := s.updateEntry e r
    t.fault.queue = s.fault.queue ∧ t.repBit e r.src = false ∧
      smFind t.fault.entries e = some { x.reported r s.time.cycle with active := x.active - 1 } ∧ t.regs = s.regs := by
  refine State.updateEntry_moves hm he _ ?_
  have hwas : nbit (s.readByte (s.repAddr e r.src)).toNat (r.src % 8) = true := hb
  unfold State.updateEntry
  rw [hx, State.repByte_sound he hp]
  dsimp only
  rw [hr, hwas]
  rfl

end Update

end Sys2Proof.Machine
end

section
/-! SUPPORT. The commands of the FAULT block and FAULT frames at the hub: the proof of O55 (R193, R312 to R316, R320). -/

namespace Sys2Proof.Machine

open Sys2Proof

/-! FAULT_RESOLVED_SEND (R312). -/

theorem exec_faultResolvedSend_quiet {s : State} (h : ∀ x ∈ s.fault.slots, cycDiff s.time.cycle x.lastOcc < s.faultRepeat) :
    exec .faultResolvedSend s = .next s := by
  have hold : (s.fault.slots.filter fun x => decide ((s.faultRepeat : Int) ≤ cycDiff s.time.cycle x.lastOcc)) = [] := by
    rw [List.filter_eq_nil_iff]
    intro x hx
    simpa using h x hx
  have hkept : (s.fault.slots.filter fun x => !([] : List LimSlot).contains x) = s.fault.slots := by simp
  show execFaultResolvedSend s = _
  rw [execFaultResolvedSend, hold]
  dsimp only [State.modFault, List.foldl]
  rw [hkept]

theorem exec_faultResolvedSend_one {s : State} {x : LimSlot} (hslots : s.fault.slots = [x])
    (hage : (s.faultRepeat : Int) ≤ cycDiff s.time.cycle x.lastOcc) : exec .faultResolvedSend s =
      .next ((s.modFault fun f => { f with slots := [] }).sendReport (s.ownReport true x)) := by
  have hold : (s.fault.slots.filter fun y => decide ((s.faultRepeat : Int) ≤ cycDiff s.time.cycle y.lastOcc)) = [x] := by
    simp [hslots, hage]
  have hfreed : (s.fault.slots.filter fun y => !([x] : List LimSlot).contains y) = [] := by simp [hslots]
  show execFaultResolvedSend s = _
  rw [execFaultResolvedSend, hold]
  dsimp only [State.modFault, List.foldl]
  rw [hfreed]
  rfl

theorem faultResolvedSend_frees {s : State} {x : LimSlot} (hslots : s.fault.slots = [x])
    (hage : (s.faultRepeat : Int) ≤ cycDiff s.time.cycle x.lastOcc)
    (hown : fld (s.reg .fault 0 R.FAULT_TX_CFG) 15 0 = s.nodeId) (hon : (s.hdr .fault 0).enable = true)
    (hready : s.fault.ready = true) (hroom : s.fault.queue.length < 2048) : Answers .faultResolvedSend s fun t =>
      t.fault.slots = [] ∧
      t.fault.queue = s.fault.queue ++ [⟨s.nodeId, 1, x.node, x.port, x.code, x.firstCycle, x.count, x.detail⟩] ∧
      Counted .fault 0 R.FAULT_TX_RESOLVED s t := by
  obtain ⟨hfault, hcounted⟩ := (s.modFault fun f => { f with slots := [] }).sendReport_joins (s.ownReport true x) hown hon hready hroom
  exact ⟨_, exec_faultResolvedSend_one hslots hage, by rw [hfault]; rfl, by rw [hfault]; rfl, hcounted⟩

/-! SEND of SW_CTRL (R313). -/

theorem exec_faultSwSend {s : State} (h : s.opens .fault R.FAULT_SW_CTRL 22) : exec .faultSwSend s = .next s.faultSend :=
  congrArg Host.Outcome.next (State.regWrite_opens (r := ⟨.fault, R.FAULT_SW_CTRL, 1, 0, 4, .wo, 0x1, 22⟩) (j := 0) rfl h)

/-- The report that the registers of SW_FAULT hold. -/
def State.swReport (s : State) : FaultReport :=
  let a := s.reg .fault 0 R.FAULT_SW_FAULT0
  let b := s.reg .fault 0 R.FAULT_SW_FAULT1
  ⟨s.nodeId, fld a 55 48, fld a 15 0, if bit a 26 then 0x400 else fld a 25 16, fld a 47 32, s.time.cycle, fld b 31 0, fld b 63 32⟩

theorem State.faultSend_eq (s : State) : s.faultSend = s.sendReport s.swReport := rfl

theorem State.swReport_resolved (s : State) :
    s.swReport.resolved = (fld (s.reg .fault 0 R.FAULT_SW_FAULT0) 55 48 == 1) := rfl

section SwSend

variable {s : State} (h : s.opens .fault R.FAULT_SW_CTRL 22)
include h

theorem faultSwSend_queues (hown : fld (s.reg .fault 0 R.FAULT_TX_CFG) 15 0 = s.nodeId) (hon : (s.hdr .fault 0).enable = true)
    (hready : s.fault.ready = true) (hroom : s.fault.queue.length < 2048) : Answers .faultSwSend s fun t =>
      t.fault.queue = s.fault.queue ++ [s.swReport] ∧
      (fld (s.reg .fault 0 R.FAULT_SW_FAULT0) 55 48 ≠ 1 → Counted .fault 0 R.FAULT_TX_SENT s t) ∧
      (fld (s.reg .fault 0 R.FAULT_SW_FAULT0) 55 48 = 1 → Counted .fault 0 R.FAULT_TX_RESOLVED s t) := by
  obtain ⟨hfault, hcounted⟩ := s.sendReport_joins s.swReport hown hon hready hroom
  rw [State.swReport_resolved] at hcounted
  refine ⟨_, exec_faultSwSend h, ?_⟩
  rw [State.faultSend_eq]
  refine ⟨by rw [hfault], fun hraised => ?_, fun hresolved => ?_⟩
  · rwa [beq_false_of_ne hraised] at hcounted
  · rwa [hresolved] at hcounted

theorem faultSwSend_halted (hother : fld (s.reg .fault 0 R.FAULT_TX_CFG) 15 0 ≠ s.nodeId) (hhalt : s.node.state = .halted) :
    exec .faultSwSend s = .next s := by
  rw [exec_faultSwSend h, State.faultSend_eq, State.sendReport_halted _ hother hhalt]

theorem faultSwSend_noEntry (hother : fld (s.reg .fault 0 R.FAULT_TX_CFG) 15 0 ≠ s.nodeId) (hrun : s.node.state ≠ .halted)
    (hports : s.live.genPorts (fld (s.reg .fault 0 R.FAULT_TX_CFG) 35 16) = none) : Answers .faultSwSend s fun t =>
      t.ports = s.ports ∧ t.fault = s.fault ∧ Counted .fault 0 R.FAULT_TX_FAILED s t := by
  refine ⟨_, exec_faultSwSend h, ?_⟩
  rw [State.faultSend_eq, State.sendReport_noEntry _ hother hrun hports]
  exact ⟨State.count_ports .., State.count_fault .., counted_count ..⟩

end SwSend

/-! FAULT_AGGREGATE (R314). -/

/-- The report has been counted. -/
def State.reportCounted (s : State) (r : FaultReport) : State :=
  if 0x000C ≤ r.code ∧ r.code ≤ 0x7FFF then (s.count .fault 0 R.FAULT_RX_REPORTS).count .fault 0 R.FAULT_RX_UNKNOWN_CODE
  else s.count .fault 0 R.FAULT_RX_REPORTS

theorem State.onlyRecords_reportCounted (s : State) (r : FaultReport) : OnlyRecords s (s.reportCounted r) := by
  unfold State.reportCounted
  split
  · exact (s.onlyRecords_countN ..).trans (State.onlyRecords_countN ..)
  · exact s.onlyRecords_countN ..

theorem State.find_reportCounted (s : State) (r : FaultReport) {a : Nat} (hr : a ≠ pageBase .fault 0 + R.FAULT_RX_REPORTS)
    (hu : a ≠ pageBase .fault 0 + R.FAULT_RX_UNKNOWN_CODE) : smFind (s.reportCounted r).regs a = smFind s.regs a := by
  unfold State.reportCounted
  split
  · rw [State.find_count_other _ _ _ _ _ hu, State.find_count_other _ _ _ _ _ hr]
  · exact State.find_count_other _ _ _ _ _ hr

theorem State.reportCounted_fault (s : State) (r : FaultReport) : (s.reportCounted r).fault = s.fault := by
  rw [s.onlyRecords_reportCounted r]; rfl

theorem State.reportCounted_mem (s : State) (r : FaultReport) : (s.reportCounted r).mem = s.mem := by
  rw [s.onlyRecords_reportCounted r]; rfl

theorem State.repBit_reportCounted (s : State) (r : FaultReport) (e n : Nat) : (s.reportCounted r).repBit e n = s.repBit e n :=
  State.repBit_congr (s.reportCounted_mem r) (State.reg_of_find (s.find_reportCounted r (by decide) (by decide))) e n

theorem State.faultKey_reportCounted (s : State) (r : FaultReport) : (s.reportCounted r).faultKey r = s.faultKey r := by
  rw [State.faultKey, State.faultKey, s.reportCounted_fault r]

section Cases

variable {s : State} {r : FaultReport}

theorem State.aggregate_known {e : Nat} (hkey : s.faultKey r = some e) : s.aggregate r = (s.reportCounted r).updateEntry e r := by
  unfold State.aggregate
  dsimp only
  rw [← State.reportCounted, State.faultKey_reportCounted, hkey]

theorem State.aggregate_unknownResolved (hkey : s.faultKey r = none) (hr : r.resolved = true) :
    s.aggregate r = (s.reportCounted r).count .fault 0 R.FAULT_RX_RESOLVED_UNKNOWN := by
  unfold State.aggregate
  dsimp only
  rw [← State.reportCounted, State.faultKey_reportCounted, hkey]
  exact if_pos hr

theorem State.aggregate_opens {e : Nat} (hkey : s.faultKey r = none) (hr : r.resolved = false)
    (hfree : (lowest 4096 fun i => (smFind s.fault.entries i).isNone) = some e) :
    s.aggregate r = ((s.reportCounted r).openEntry e r).updateEntry e r := by
  unfold State.aggregate
  dsimp only
  rw [← State.reportCounted, State.faultKey_reportCounted, hkey, s.reportCounted_fault r, hfree]
  exact if_neg (by rw [hr]; decide)

end Cases

/-- The entry that a report opens, before the report updates it (R314). -/
def FaultReport.opened (r : FaultReport) (cycle : Nat) : FaultEntry :=
  { node := r.node, port := r.port, code := r.code, reports := 0, active := 0, raises := 0, firstRep := r.src,
    firstCycle := r.firstCycle, lastRep := r.src, lastCycle := cycle, firstDetail := r.detail, lastDetail := r.detail, stale := false }

theorem State.openEntry_opens (s : State) (e : Nat) (r : FaultReport) : let t := s.openEntry e r
    t.fault.queue = s.fault.queue ∧ t.mem = s.mem ∧ t.errs = s.errs ∧ t.poison = s.poison ∧
    (∀ n, t.repBit e n = s.repBit e n) ∧ Counted .fault 0 R.FAULT_ENTRIES_OPENED s t ∧
    smFind t.fault.entries e = some (r.opened s.time.cycle) := by
  obtain ⟨u, hu⟩ : ∃ u, u = (s.setEntry e (r.opened s.time.cycle)).count .fault 0 R.FAULT_ENTRIES_OPENED := ⟨_, rfl⟩
  have hfault : u.fault = (s.setEntry e (r.opened s.time.cycle)).fault := hu ▸ State.count_fault ..
  have hmem : u.mem = s.mem := hu ▸ State.count_mem ..
  have hbits : ∀ n, u.repBit e n = s.repBit e n :=
    State.repBit_congr hmem (State.reg_of_find (hu ▸ State.find_count_other _ _ _ _ _ (by decide))) e
  have hopen : s.openEntry e r = u.raise 0x020 r.code e := hu ▸ rfl
  rw [hopen]
  have hqueue : u.fault.queue = s.fault.queue := by
    rw [hfault]
    rfl
  refine ⟨hqueue, hmem, hu ▸ State.count_errs .., hu ▸ State.count_poison .., hbits, ?_, ?_⟩
  · exact hu ▸ counted_count .fault 0 R.FAULT_ENTRIES_OPENED (s.setEntry e (r.opened s.time.cycle))
  · exact (congrArg (fun f : FaultSt => smFind f.entries e) hfault).trans (s.find_setEntry e _)

/-- The aggregator has taken a report from its queue. -/
def State.reportTaken (s : State) (l : List FaultReport) : State := s.modFault fun f => { f with queue := l }

section Aggregate

variable {s : State} {r : FaultReport} {l : List FaultReport} (hq : s.fault.queue = r :: l) (hready : s.fault.ready = true)
include hq hready

theorem exec_faultAggregate : exec .faultAggregate s = .next ((s.reportTaken l).aggregate r) := by
  show execFaultAggregate s = _
  unfold execFaultAggregate
  rw [hq]
  exact if_pos hready

theorem faultAggregate_unknownResolved (hkey : s.faultKey r = none) (hr : r.resolved = true) :
    Answers .faultAggregate s fun t => t.fault.queue = l ∧ t.fault.entries = s.fault.entries ∧ t.mem = s.mem ∧
      Counted .fault 0 R.FAULT_RX_RESOLVED_UNKNOWN s t := by
  obtain ⟨u, hu⟩ : ∃ u, u = (s.reportTaken l).reportCounted r := ⟨_, rfl⟩
  have haggregate : (s.reportTaken l).aggregate r = u.count .fault 0 R.FAULT_RX_RESOLVED_UNKNOWN :=
    hu ▸ State.aggregate_unknownResolved hkey hr
  have hfault : u.fault = (s.reportTaken l).fault := hu ▸ State.reportCounted_fault ..
  have hmem : u.mem = s.mem := hu ▸ State.reportCounted_mem ..
  have hfind : smFind u.regs (pageBase .fault 0 + R.FAULT_RX_RESOLVED_UNKNOWN) =
      smFind s.regs (pageBase .fault 0 + R.FAULT_RX_RESOLVED_UNKNOWN) :=
    hu ▸ State.find_reportCounted _ r (by decide) (by decide)
  refine ⟨_, exec_faultAggregate hq hready, ?_⟩
  rw [haggregate]
  dsimp only
  rw [State.count_fault, State.count_mem, hfault, hmem]
  exact ⟨rfl, rfl, rfl, counted_from (counted_count ..) hfind⟩

variable (hm : s.memSafe) (he : s.errs = []) (hp : s.poison = [])
include hm he hp

omit hq hready in
/-- The memory of an endpoint that has counted a report stands. -/
theorem State.reportCounted_sound : let u := (s.reportTaken l).reportCounted r
    u.memSafe ∧ u.errs = [] ∧ u.poison = [] ∧ u.time = s.time := by
  intro u
  have hu : u = (s.reportTaken l).withRecords u.pages u.regs u.cnt u.trace := (s.reportTaken l).onlyRecords_reportCounted r
  rw [hu]
  exact ⟨hm, he, hp, rfl⟩

section Known

variable {e : Nat} {x : FaultEntry} (hkey : s.faultKey r = some e) (hx : smFind s.fault.entries e = some x)
include hkey hx

/-- A report whose key has an entry updates it in the state that has counted the report. -/
theorem exec_faultAggregate_known : ∃ u : State, exec .faultAggregate s = .next (u.updateEntry e r) ∧
    (u.memSafe ∧ u.errs = [] ∧ u.poison = [] ∧ u.time = s.time) ∧ u.fault.queue = l ∧ smFind u.fault.entries e = some x ∧
    u.repBit e r.src = s.repBit e r.src := by
  have haggregate : (s.reportTaken l).aggregate r = _ := State.aggregate_known hkey
  have hfault := (s.reportTaken l).reportCounted_fault r
  refine ⟨(s.reportTaken l).reportCounted r, ?_, State.reportCounted_sound hm he hp, congrArg FaultSt.queue hfault, ?_,
    (s.reportTaken l).repBit_reportCounted r e r.src⟩
  · rw [exec_faultAggregate hq hready, haggregate]
  · rw [hfault]
    exact hx

theorem faultAggregate_raises (hr : r.resolved = false) (hb : s.repBit e r.src = false) : Answers .faultAggregate s fun t =>
    t.fault.queue = l ∧ t.repBit e r.src = true ∧ smFind t.fault.entries e = some
      { x.reported r s.time.cycle with active := x.active + 1, raises := min (x.raises + 1) 0xFFFFFFFF } := by
  obtain ⟨u, hexec, ⟨hsafe, herrs, hpoison, htime⟩, hl, hux, hub⟩ := exec_faultAggregate_known hq hready hm he hp hkey hx
  obtain ⟨hqueue, hbit, hentry, -⟩ := State.updateEntry_raised hsafe herrs hpoison hux hr (hub.trans hb)
  exact ⟨_, hexec, hqueue.trans hl, hbit, htime ▸ hentry⟩

theorem faultAggregate_resolves (hr : r.resolved = true) (hb : s.repBit e r.src = true) : Answers .faultAggregate s fun t =>
    t.fault.queue = l ∧ t.repBit e r.src = false ∧
      smFind t.fault.entries e = some { x.reported r s.time.cycle with active := x.active - 1 } := by
  obtain ⟨u, hexec, ⟨hsafe, herrs, hpoison, htime⟩, hl, hux, hub⟩ := exec_faultAggregate_known hq hready hm he hp hkey hx
  obtain ⟨hqueue, hbit, hentry, -⟩ := State.updateEntry_resolved hsafe herrs hpoison hux hr (hub.trans hb)
  exact ⟨_, hexec, hqueue.trans hl, hbit, htime ▸ hentry⟩

end Known

theorem faultAggregate_opens {e : Nat} (hkey : s.faultKey r = none) (hr : r.resolved = false)
    (hfree : (lowest 4096 fun i => (smFind s.fault.entries i).isNone) = some e) (hb : s.repBit e r.src = false) :
    Answers .faultAggregate s fun t => t.fault.queue = l ∧ t.repBit e r.src = true ∧
      Counted .fault 0 R.FAULT_ENTRIES_OPENED s t ∧ ∃ x, smFind t.fault.entries e = some x ∧ x.node = r.node ∧ x.port = r.port ∧
      x.code = r.code ∧ x.reports = 1 ∧ x.active = 1 ∧ x.raises = 1 ∧ x.firstRep = r.src ∧ x.lastRep = r.src := by
  obtain ⟨u, hu⟩ : ∃ u, u = (s.reportTaken l).reportCounted r := ⟨_, rfl⟩
  have haggregate : (s.reportTaken l).aggregate r = (u.openEntry e r).updateEntry e r := hu ▸ State.aggregate_opens hkey hr hfree
  have hfault : u.fault = (s.reportTaken l).fault := hu ▸ State.reportCounted_fault ..
  have hfind : smFind u.regs (pageBase .fault 0 + R.FAULT_ENTRIES_OPENED) =
      smFind s.regs (pageBase .fault 0 + R.FAULT_ENTRIES_OPENED) := hu ▸ State.find_reportCounted _ r (by decide) (by decide)
  have hubit : u.repBit e r.src = false := by rw [hu, State.repBit_reportCounted]; exact hb
  obtain ⟨hsafe, herrs, hpoison, -⟩ := hu ▸ State.reportCounted_sound (l := l) (r := r) hm he hp
  obtain ⟨hoqueue, homem, hoerrs, hopoison, hobits, hocount, hoentry⟩ := u.openEntry_opens e r
  have hosafe : (u.openEntry e r).memSafe := by rw [State.memSafe, homem]; exact hsafe
  obtain ⟨hqueue, hbit, hentry, hregs⟩ := State.updateEntry_raised hosafe (hoerrs.trans herrs) (hopoison.trans hpoison) hoentry hr
    ((hobits r.src).trans hubit)
  refine ⟨_, exec_faultAggregate hq hready, ?_⟩
  rw [haggregate]
  refine ⟨hqueue.trans (hoqueue.trans (congrArg FaultSt.queue hfault)), hbit, ?_, _, hentry, rfl, rfl, rfl, rfl, rfl, rfl, rfl, rfl⟩
  exact counted_of_find (counted_from hocount hfind) (by rw [hregs])

end Aggregate

/-! FAULT_STALE (R315). -/

theorem faultStale_clears {s : State} {e : Nat} {x : FaultEntry} (hentries : s.fault.entries = [(e, x)]) (he : s.errs = [])
    (hn : s.regF .fault 0 R.FAULT_AGG_CFG 23 0 ≠ 0) (hactive : x.active ≠ 0)
    (hage : (s.regF .fault 0 R.FAULT_AGG_CFG 23 0 : Int) ≤ cycDiff s.time.cycle x.lastCycle) : Answers .faultStale s fun t =>
      t.fault.entries = [(e, { x with active := 0, stale := true })] ∧ ∀ k, k < 2 ^ 16 → t.repBit e k = false := by
  have hset : smSet s.fault.entries e { x with active := 0, stale := true } = [(e, { x with active := 0, stale := true })] := by
    simp [hentries, smSet]
  have hexec : exec .faultStale s = .next ((s.clearReps e).modFault fun f =>
      { f with entries := smSet f.entries e { x with active := 0, stale := true } }) := by
    show execFaultStale s = _
    simp [execFaultStale, hentries, hn, hactive, hage]
  refine ⟨_, hexec, ?_, fun k hk => State.repBit_clearReps he hk⟩
  rw [← hset, ← State.clearReps_fault he e]
  rfl

theorem exec_faultStale_fresh {s : State} {e : Nat} {x : FaultEntry} (hentries : s.fault.entries = [(e, x)])
    (h : s.regF .fault 0 R.FAULT_AGG_CFG 23 0 = 0 ∨ x.active = 0 ∨
      cycDiff s.time.cycle x.lastCycle < s.regF .fault 0 R.FAULT_AGG_CFG 23 0) : exec .faultStale s = .next s := by
  show execFaultStale s = _
  rcases h with hoff | hactive | hage
  · simp [execFaultStale, hoff]
  · simp [execFaultStale, hentries, hactive]
  · simp [execFaultStale, hentries, Int.not_le.2 hage]

/-! ENTRY_SEL and RELEASE (R310, R315). -/

theorem entrySel_captures {s : State} (v : BitVec 32) (h : s.opens .fault R.FAULT_ENTRY_SEL 0) : Answers (.entrySel v) s fun t =>
    t.regF .fault 0 R.FAULT_ENTRY_SEL 11 0 = v.toNat % 4096 ∧
    t.fault = { s.fault with view := faultView (smFind s.fault.entries (v.toNat % 4096)), changed := false } := by
  have hval : wd v.toNat = v.setWidth 64 := BitVec.ofNat_toNat 64 v
  have hsel : fld (wd v.toNat) 11 0 = v.toNat % 4096 := (congrArg (fld · 11 0) hval).trans (fld_low32 v 11)
  have hexec : exec (.entrySel v) s = .next (s.writeEntrySel (wd v.toNat)) := congrArg Host.Outcome.next
    (State.guarded_pass s .fault 0 R.FAULT_ENTRY_SEL .rw 0 (fun t => t.writeEntrySel (wd v.toNat)) h.1 h.2.1 (.inl rfl))
  refine ⟨_, hexec, ?_⟩
  unfold State.writeEntrySel
  dsimp only
  rw [hsel]
  refine ⟨?_, rfl⟩
  have hreg : fld (wd (v.toNat % 4096)) 11 0 = v.toNat % 4096 := by
    rw [fld_wd (by omega)]
    omega
  exact (congrArg (fld · 11 0) (State.reg_setReg s .fault 0 R.FAULT_ENTRY_SEL (wd (v.toNat % 4096)))).trans hreg

theorem exec_faultRelease {s : State} (h : s.opens .fault R.FAULT_ENTRY_CTRL 22) : exec .faultRelease s = .next s.faultRelease :=
  congrArg Host.Outcome.next (State.regWrite_opens (r := ⟨.fault, R.FAULT_ENTRY_CTRL, 1, 0, 4, .wo, 0x1, 22⟩) (j := 0) rfl h)

section Release

variable {s : State} (h : s.opens .fault R.FAULT_ENTRY_CTRL 22)
include h

theorem faultRelease_frees (hlisted : smFind s.fault.entries (s.regF .fault 0 R.FAULT_ENTRY_SEL 11 0) ≠ none)
    (hsame : s.fault.changed = false) (he : s.errs = []) : Answers .faultRelease s fun t =>
      t.fault = { s.fault with entries := smErase s.fault.entries (s.regF .fault 0 R.FAULT_ENTRY_SEL 11 0) } ∧
      ∀ k, k < 2 ^ 16 → t.repBit (s.regF .fault 0 R.FAULT_ENTRY_SEL 11 0) k = false := by
  obtain ⟨x, hx⟩ := Option.ne_none_iff_exists'.1 hlisted
  have hrelease : s.faultRelease = (s.clearReps (s.regF .fault 0 R.FAULT_ENTRY_SEL 11 0)).modFault fun f =>
      { f with entries := smErase f.entries (s.regF .fault 0 R.FAULT_ENTRY_SEL 11 0) } := by
    simp [State.faultRelease, hx, hsame]
  refine ⟨_, exec_faultRelease h, ?_⟩
  rw [hrelease]
  refine ⟨?_, fun k hk => State.repBit_clearReps he hk⟩
  exact congrArg (fun f : FaultSt => { f with entries := smErase f.entries (s.regF .fault 0 R.FAULT_ENTRY_SEL 11 0) })
    (State.clearReps_fault he _)

theorem faultRelease_unlisted (hnone : smFind s.fault.entries (s.regF .fault 0 R.FAULT_ENTRY_SEL 11 0) = none) :
    exec .faultRelease s = .next (s.err .fault 0 0x01C3 (s.regF .fault 0 R.FAULT_ENTRY_SEL 11 0) 0) := by
  rw [exec_faultRelease h]
  simp [State.faultRelease, hnone]

theorem faultRelease_changed (hlisted : smFind s.fault.entries (s.regF .fault 0 R.FAULT_ENTRY_SEL 11 0) ≠ none)
    (hchanged : s.fault.changed = true) :
    exec .faultRelease s = .next (s.err .fault 0 0x01C2 (s.regF .fault 0 R.FAULT_ENTRY_SEL 11 0) 0) := by
  obtain ⟨x, hx⟩ := Option.ne_none_iff_exists'.1 hlisted
  rw [exec_faultRelease h]
  simp [State.faultRelease, hx, hchanged]

end Release

/-! Enable, and the bitmaps cleared (R316). -/

theorem exec_faultEnable {s : State} (h : s.opens .fault 0x018 22) : exec .faultEnable s = .next (s.faultEnable true) :=
  congrArg Host.Outcome.next (State.guarded_pass s .fault 0 0x018 .rw 22 (fun t => t.faultEnable true) h.1 h.2.1 h.2.2)

theorem faultEnable_enables {s : State} (h : s.opens .fault 0x018 22) (hoff : (s.hdr .fault 0).enable = false)
    (hok : s.repAreaOk = true) : Answers .faultEnable s fun t => (t.hdr .fault 0).enable = true ∧ t.fault.entries = [] ∧
      t.fault.queue = s.fault.queue ∧ t.fault.ready = false ∧ t.mem = s.mem := by
  have henable : s.faultEnable true =
      (s.modHdr .fault 0 fun h => { h with enable := true }).modFault fun f => { f with entries := [], ready := false } := by
    simp [State.faultEnable, hoff, hok]
  refine ⟨_, exec_faultEnable h, ?_⟩
  rw [henable]
  exact ⟨congrArg PageHdr.enable (s.hdr_modHdr .fault 0 fun h => { h with enable := true }), rfl, rfl, rfl, rfl⟩

theorem faultEnable_refused {s : State} (h : s.opens .fault 0x018 22) (hoff : (s.hdr .fault 0).enable = false)
    (hok : s.repAreaOk = false) : exec .faultEnable s = .next (s.refuseEnable .fault 0 0x01C4 0 0x018) := by
  rw [exec_faultEnable h]
  simp [State.faultEnable, hoff, hok]

theorem faultReady_clears {s : State} (hon : (s.hdr .fault 0).enable = true) (hready : s.fault.ready = false) (he : s.errs = []) :
    Answers .faultReady s fun t => t.fault.ready = true ∧ (∀ e k, e < 4096 → k < 2 ^ 16 → t.repBit e k = false) ∧
      ∀ a, a < s.repAddr 0 0 ∨ s.repAddr 0 0 + 2 ^ 25 ≤ a → t.readByte a = s.readByte a := by
  have hexec : exec .faultReady s = .next ((s.zeroMem (s.repAddr 0 0) (2 ^ 25)).modFault fun f => { f with ready := true }) := by
    show execFaultReady s = _
    rw [execFaultReady, State.storeZero_sound he, hon, hready]
    rfl
  refine ⟨_, hexec, rfl, fun e k hlt hk => State.repBit_zeroMem ?_, fun a ha => ?_⟩
  · simp only [State.repAddr]
    omega
  · exact (s.readByte_zeroMem _ _ a).trans (if_neg (by omega))

/-! FAULT frames at the hub (R193, R314, R316). -/

section FaultAtHub

variable {s : State} {x : HubFrame} (hx : s.nextHub = some x) (hi : s.live.identify (hdrOf x.frame.body).handle = none)
  (ht : (hdrOf x.frame.body).typ = tFault)

theorem State.eventTracked_fault (s : State) (ecc : EccList) (x : HubFrame) : (s.eventTracked ecc x).fault = s.fault := by
  rw [State.eventTracked, State.count_fault, State.hubTaken, State.atLeast_fault]
  rfl

theorem State.eventTracked_enable (s : State) (ecc : EccList) (x : HubFrame) :
    ((s.eventTracked ecc x).hdr .fault 0).enable = (s.hdr .fault 0).enable := by
  rw [State.eventTracked, State.enable_count, State.hubTaken, State.hdr, State.atLeast_pages]
  rfl

theorem State.pace_fault (s : State) : s.pace.fault = s.fault := show Part.fault.same s _ by simp [Part.same_refl]

/-- What the hub does with a FAULT frame touches neither memory nor the submission queues. -/
theorem State.faultAtHub_leaves (s : State) (x : HubFrame) (r : FaultReport) {pt : Part} (hpt : pt = .memory ∨ pt = .sq) :
    pt.same s ((s.eventTracked [] x).faultIn r).pace := by
  rcases hpt with rfl | rfl <;>
    simp (maxDischargeDepth := 6) [State.eventTracked, State.hubTaken, State.arise, Part.same_refl]

include hx hi ht

theorem exec_hubReceive_fault : exec (.hubReceive []) s =
    .next ((s.eventTracked [] x).faultIn (faultOf (hdrOf x.frame.body) (payloadOf x.frame.body))).pace := by
  have hafter : ∀ u : State, u.afterStage6 x = u.faultIn (faultOf (hdrOf x.frame.body) (payloadOf x.frame.body)) := by
    intro u
    unfold State.afterStage6
    dsimp only
    rw [ht, if_neg (by decide), if_neg (by decide), if_pos rfl]
  rw [exec_hubReceive [] hx, State.stage6_untracked (by rw [State.hubTaken_live]; exact hi)]
  dsimp only
  rw [if_pos rfl, hafter, State.eventTracked]

theorem hubReceive_queues_fault (hon : (s.hdr .fault 0).enable = true) (hready : s.fault.ready = true)
    (hroom : s.fault.queue.length < 2048) : Answers (.hubReceive []) s fun t =>
      t.fault = { s.fault with queue := s.fault.queue ++ [faultOf (hdrOf x.frame.body) (payloadOf x.frame.body)] } ∧
      t.mem = s.mem ∧ t.sq = s.sq := by
  obtain ⟨u, hu⟩ : ∃ u, u = s.eventTracked [] x := ⟨_, rfl⟩
  have hfault : u.fault = s.fault := hu ▸ s.eventTracked_fault [] x
  refine ⟨_, exec_hubReceive_fault hx hi ht, ?_, (s.faultAtHub_leaves x _ (.inl rfl)).1, s.faultAtHub_leaves x _ (.inr rfl)⟩
  rw [State.pace_fault, ← hu, State.faultIn_queues _ (by rw [hu, State.eventTracked_enable]; exact hon)
    (by rw [hfault]; exact hready) (by rw [hfault]; exact hroom), ← hfault]
  rfl

theorem hubReceive_drops_fault (h : (s.hdr .fault 0).enable = false ∨ s.fault.ready = false) :
    Answers (.hubReceive []) s fun t => t.fault = s.fault ∧ t.mem = s.mem ∧ Counted .fault 0 R.FAULT_RX_NOT_READY s t := by
  obtain ⟨u, hu⟩ : ∃ u, u = s.eventTracked [] x := ⟨_, rfl⟩
  have hfault : u.fault = s.fault := hu ▸ s.eventTracked_fault [] x
  refine ⟨_, exec_hubReceive_fault hx hi ht, ?_, (s.faultAtHub_leaves x _ (.inl rfl)).1, ?_⟩
  all_goals rw [← hu, State.faultIn_notReady _ (by rw [hfault, hu, State.eventTracked_enable]; exact h)]
  · rw [State.pace_fault, State.count_fault, hfault]
  · have hcounted := counted_from (counted_count .fault 0 R.FAULT_RX_NOT_READY u) (hu ▸ s.find_eventTracked [] x (by decide))
    exact counted_of_find hcounted (State.find_pace_other _ _ (by decide))

theorem hubReceive_overflows_fault (hon : (s.hdr .fault 0).enable = true) (hready : s.fault.ready = true)
    (hfull : 2048 ≤ s.fault.queue.length) : Answers (.hubReceive []) s fun t => t.fault = s.fault ∧ t.mem = s.mem ∧
      Counted .fault 0 R.FAULT_AGG_QUEUE_FULL s t ∧ Alarmed 0x021 0 2 t := by
  obtain ⟨u, hu⟩ : ∃ u, u = s.eventTracked [] x := ⟨_, rfl⟩
  obtain ⟨v, hv⟩ : ∃ v, v = (u.count .fault 0 R.FAULT_AGG_QUEUE_FULL).raise 0x021 0 2 := ⟨_, rfl⟩
  have hfault : u.fault = s.fault := hu ▸ s.eventTracked_fault [] x
  have hpace : v.pace.alarm = v.alarm := show Part.alarm.same v _ by simp [Part.same_refl]
  have hin : u.faultIn (faultOf (hdrOf x.frame.body) (payloadOf x.frame.body)) = v := by
    rw [State.faultIn_full _ (by rw [hu, State.eventTracked_enable]; exact hon) (by rw [hfault]; exact hready)
      (by rw [hfault]; exact hfull), hv]
  refine ⟨_, exec_hubReceive_fault hx hi ht, ?_, (s.faultAtHub_leaves x _ (.inl rfl)).1, ?_, ?_⟩
  all_goals rw [← hu, hin]
  · rw [State.pace_fault, hv]
    exact (State.count_fault ..).trans hfault
  · have hcounted : Counted .fault 0 R.FAULT_AGG_QUEUE_FULL u v := hv ▸ counted_count .fault 0 R.FAULT_AGG_QUEUE_FULL u
    exact counted_of_find (counted_from hcounted (hu ▸ s.find_eventTracked [] x (by decide))) (State.find_pace_other _ _ (by decide))
  · rw [Alarmed, hpace, hv]
    exact State.alarmed_raise ..

end FaultAtHub

/-- Settles O55, clause by clause: a report joins the queue by `State.faultIn_queues`, it changes its reporter's bit by
`State.setRepBit_sound`, and a bitmap that is cleared reads zero by `State.repBit_zeroMem`. -/
theorem faultsAreReportedAndAggregated : Obligations.FaultsAreReportedAndAggregated := by
  refine ⟨fun s h => exec_faultResolvedSend_quiet h,
    fun s x hslots hage hown hon hready hroom => faultResolvedSend_frees hslots hage hown hon hready hroom,
    fun s h => ⟨fun hown hon hready hroom => faultSwSend_queues h hown hon hready hroom, faultSwSend_halted h, faultSwSend_noEntry h⟩,
    fun s r l hq hready hm he hp _ => ⟨fun e x hkey hx => faultAggregate_raises hq hready hm he hp hkey hx,
      fun e x hkey hx => faultAggregate_resolves hq hready hm he hp hkey hx, faultAggregate_unknownResolved hq hready,
      fun e => faultAggregate_opens hq hready hm he hp⟩,
    fun s e x => ?stale, fun s v h => entrySel_captures v h,
    fun s h => ⟨faultRelease_frees h, faultRelease_unlisted h, faultRelease_changed h⟩,
    fun s h hoff => ⟨faultEnable_enables h hoff, faultEnable_refused h hoff⟩,
    fun s hon hready he => faultReady_clears hon hready he, fun s x => ?hub⟩
  case stale =>
    intro n hentries he
    exact ⟨faultStale_clears hentries he, exec_faultStale_fresh hentries⟩
  case hub =>
    intro h hx hi ht
    exact ⟨hubReceive_queues_fault hx hi ht, hubReceive_drops_fault hx hi ht, hubReceive_overflows_fault hx hi ht⟩

end Sys2Proof.Machine
end

section
/-! SUPPORT. Memory over a step, elements in memory, and stage 9 of the hub: the proof of O4 (R202, R343) and what a DATA or ACCUM frame
writes and counts where it lands (R205, R211, R262, R263). -/

namespace Sys2Proof.Machine

open Sys2Proof

/-! A step (R202, R343). -/

/-- A step runs the command at the front of the queue on the state with the rest of the queue, or idles. -/
theorem step_cases {s t : State} (h : step s = .next t) :
    t = s ∨ ∃ c rest, s.pending = c :: rest ∧ exec c { s with pending := rest } = .next t := by
  unfold step at h
  split at h
  · exact .inl (Host.Outcome.next.inj h).symm
  next c rest hpending => exact .inr ⟨c, rest, hpending, h⟩

/-- Settles O4: a step idles or runs a command, and `exec_kept` says that every command keeps the canonical form. -/
theorem memoryStaysCanonical : Obligations.MemoryStaysCanonical := by
  intro s t hwf hstep
  rcases step_cases hstep with rfl | ⟨c, rest, -, hexec⟩
  · exact hwf
  · obtain ⟨u, hu, hkept⟩ := exec_kept c { s with pending := rest }
    obtain rfl : t = u := Host.Outcome.next.inj (hexec.symm.trans hu)
    exact hkept.mem hwf

/-! Elements in memory (R252, R262). -/

theorem elemSize_pos (t : Nat) : 0 < elemSize t := by
  unfold elemSize
  repeat' split
  all_goals decide

/-- A list of m pieces of n is cut into m pieces. -/
theorem length_chunks {α : Type} {n : Nat} (hn : 0 < n) {k m : Nat} {l : List α} (hl : l.length = m * n) (hk : m ≤ k) :
    (chunks n k l).length = m := by
  induction k generalizing m l with
  | zero => exact (Nat.le_zero.1 hk).symm
  | succ k ih =>
    cases m with
    | zero =>
      obtain rfl : l = [] := List.length_eq_zero_iff.1 (by rw [hl, Nat.zero_mul])
      rfl
    | succ m =>
      have hdrop : (l.drop n).length = m * n := by rw [List.length_drop, hl, Nat.succ_mul, Nat.add_sub_cancel]
      cases l with
      | nil => exact absurd hl (Nat.mul_pos (Nat.succ_pos m) hn).ne
      | cons a l => exact congrArg (· + 1) (ih hdrop (Nat.le_of_succ_le_succ hk))

theorem length_elemsOfMem {t m : Nat} {bs : List Byte} (h : bs.length = m * elemSize t) : (elemsOfMem t bs).length = m := by
  rw [elemsOfMem, List.length_map, pieces]
  exact length_chunks (elemSize_pos t) h (h ▸ Nat.le_mul_of_pos_right m (elemSize_pos t))

theorem length_memOfElems (t : Nat) (xs : List Nat) : (memOfElems t xs).length = xs.length * elemSize t := by
  induction xs with
  | nil => rw [List.length_nil, Nat.zero_mul]; rfl
  | cons x xs ih =>
    have hcons : memOfElems t (x :: xs) = leBytes (elemSize t) x ++ memOfElems t xs := List.flatMap_cons ..
    rw [hcons, List.length_append, length_leBytes, ih, List.length_cons, Nat.succ_mul, Nat.add_comm]

/-- OPERATION 1 takes the new elements, whatever stands in memory. -/
theorem combineAll_write (t : Nat) {old new : List Nat} (h : old.length = new.length) : (combineAll 1 t old new).map Comb.x = new := by
  induction new generalizing old with
  | nil => rw [combineAll, List.zipWith_nil_right, List.map_nil]
  | cons x xs ih =>
    cases old with
    | nil => cases h
    | cons y ys => exact congrArg (x :: ·) (ih (Nat.succ.inj h))

section Apply

variable (s : State) (op t a : Nat) (xs : List Nat)

theorem State.length_oldElems : (elemsOfMem t (s.readMem a (xs.length * elemSize t))).length = xs.length :=
  length_elemsOfMem (by simp [State.readMem])

theorem State.apply_length : (memOfElems t ((s.apply op t a xs).2.map Comb.x)).length = xs.length * elemSize t := by
  have hold := s.length_oldElems t a xs
  rw [length_memOfElems, List.length_map, State.apply, combineAll, List.length_zipWith, hold, Nat.min_self]

/-- What is combined is written, and no other byte. -/
theorem State.apply_writes (hm : s.memSafe) : let r := s.apply op t a xs
    r.1.readMem a (xs.length * elemSize t) = memOfElems t (r.2.map Comb.x) ∧
    ∀ b, b < a ∨ a + xs.length * elemSize t ≤ b → r.1.readByte b = s.readByte b := by
  have hlen := s.apply_length op t a xs
  refine ⟨?_, fun b hb => ?_⟩
  · have hread := State.readMem_writeMem hm a (memOfElems t ((s.apply op t a xs).2.map Comb.x))
    rwa [hlen] at hread
  · rw [← hlen] at hb
    exact memByte_memWriteBytes_other _ _ _ _ hb

/-- What is combined and what is written rest on memory alone. -/
theorem State.apply_congr {u : State} (h : u.mem = s.mem) :
    (u.apply op t a xs).2 = (s.apply op t a xs).2 ∧ (u.apply op t a xs).1.mem = (s.apply op t a xs).1.mem := by
  have hread : ∀ n, u.readMem a n = s.readMem a n := fun n => by simp only [State.readMem, State.readByte, h]
  have hcombined : (u.apply op t a xs).2 = (s.apply op t a xs).2 := by simp only [State.apply, hread]
  refine ⟨hcombined, ?_⟩
  simp only [State.apply, hread, State.writeMem, h]

end Apply

/-! Reads before a landing (R204, R205). -/

theorem State.readRanges_sound {s : State} (he : s.errs = []) (l : List (Nat × Nat)) : s.readRanges l = s := by
  induction l with
  | nil => rfl
  | cons r l ih =>
    have hread : s.eccRead r.1 r.2 = s := State.eccTake_sound he _
    rw [State.readRanges, List.foldl_cons, hread]
    exact ih

theorem State.anyPoison_none {s : State} (hp : s.poison = []) (l : List (Nat × Nat)) : s.anyPoison l = false := by
  simp [State.anyPoison, State.poisoned, hp]

theorem State.anyPoison_congr {s u : State} (h : u.poison = s.poison) (l : List (Nat × Nat)) : u.anyPoison l = s.anyPoison l := by
  simp only [State.anyPoison, State.poisoned, h]

/-! Zones without jobs that watch them (R211, R228). -/

theorem State.zone_congr {s t : State} (h : t.lz = s.lz) (z : Nat) : t.zone z = s.zone z := by
  simp only [State.zone, h]

theorem State.zone_modZone (s : State) (z : Nat) (f : ZoneSt → ZoneSt) : (s.modZone z f).zone z = f (s.zone z) :=
  smGet_smMod_same ..

theorem State.expectTest_idle {s : State} (hj : s.xfer.jobs = []) (z : Nat) : s.expectTest z = s := by
  rw [State.expectTest, hj]
  rfl

theorem State.landed_idle {s : State} (hj : s.xfer.jobs = []) (z n : Nat) : s.landed z n =
    (s.modZone z fun x => { x with landed := (x.landed + n) % 2 ^ 48 }).count .lz 0 R.LZ_LANDED_FRAMES :=
  State.expectTest_idle (by rw [State.count_xfer]; exact hj) z

theorem State.zonePoison_idle {s : State} (hj : s.xfer.jobs = []) (z : Nat) : s.zonePoison z =
    (s.modZone z fun x => { x with poisoned := true }).count .mem 0 R.MEM_LAND_POISONED :=
  State.expectTest_idle (by rw [State.count_xfer]; exact hj) z

/-! What is counted, sampled and traced of a frame that lands (R263, R296, R302). -/

theorem State.onlyRecords_sample (s : State) (g k c v : Nat) : OnlyRecords s (s.sample g k c v) := by
  unfold State.sample
  dsimp only
  repeat' split
  all_goals rfl

theorem State.onlyRecords_countAccum (s : State) (h : Hdr) (cs : List Comb) : OnlyRecords s (s.countAccum h cs) := by
  unfold State.countAccum
  split
  · exact (((s.onlyRecords_countN ..).trans (State.onlyRecords_countN ..)).trans (State.onlyRecords_countN ..)).trans
      (State.onlyRecords_countN ..)
  · rfl

/-- The elements of a frame stand in memory, and its landing is counted, sampled and traced. -/
def State.placed (s : State) (x : HubFrame) (h : Hdr) (z : Nat) (cs : List Comb) : State :=
  ((s.countAccum h cs).sample (x.port / 16) 0 x.cls (w2m x)).traceHub x 0 (some z)

section Placed

variable (s : State) (x : HubFrame) (h : Hdr) (z : Nat) (cs : List Comb)

theorem State.onlyRecords_placed : OnlyRecords s (s.placed x h z cs) :=
  ((s.onlyRecords_countAccum h cs).trans (State.onlyRecords_sample ..)).trans (State.onlyRecords_traceAt ..)

theorem State.find_placed {a : Nat} (hf : a ≠ pageBase .trace 0 + R.TRACE_LOST_FULL) (hr : a ≠ pageBase .trace 0 + R.TRACE_LOST_RATE) :
    smFind (s.placed x h z cs).regs a = smFind (s.countAccum h cs).regs a :=
  (State.find_traceEv_other _ _ _ _ _ _ _ _ _ a hf hr).trans (congrArg (smFind · a) (State.sample_regs ..))

/-- The counters of combined elements are those of the CODEC page. -/
theorem State.find_countAccum_other {a : Nat} (ha : a < pageBase .codec 0) :
    smFind (s.countAccum h cs).regs a = smFind s.regs a := by
  have hother : ∀ (u : State) (po m : Nat), smFind (u.countN .codec 0 po m).regs a = smFind u.regs a := fun u po m =>
    State.find_countN_other u .codec 0 po m a (by omega)
  unfold State.countAccum
  split
  · rw [hother, hother, hother]
    exact hother s _ 1
  · rfl

theorem State.counted_countAccum (ht : h.typ = tAccum) : Counted .codec 0 R.CODEC_ACC_FRAMES s (s.countAccum h cs) := by
  rw [State.countAccum, if_pos ht]
  refine counted_of_find (counted_count .codec 0 R.CODEC_ACC_FRAMES s) ?_
  rw [State.find_countN_other _ _ _ _ _ _ (by decide), State.find_countN_other _ _ _ _ _ _ (by decide),
    State.find_countN_other _ _ _ _ _ _ (by decide)]

theorem State.counted_placed (ht : h.typ = tAccum) : Counted .codec 0 R.CODEC_ACC_FRAMES s (s.placed x h z cs) :=
  counted_of_find (s.counted_countAccum h cs ht) (s.find_placed x h z cs (by decide) (by decide))

end Placed

/-! Stage 9 (R205, R211, R262). -/

section Stage9

variable {s : State} (x : HubFrame) (h : Hdr) (z : Nat) (xs : List Nat) (he : s.errs = []) (hj : s.xfer.jobs = [])
include he hj

/-- A frame that meets no poisoned word lands: memory, its zone and its counters. -/
theorem State.stage9_lands (hclean : s.anyPoison (readBefore (h.typ == tAccum) h.target (coverOf h)) = false) :
    let t := s.stage9 x h z xs
    t.mem = (s.apply h.op h.elem h.target xs).1.mem ∧
    t.zone z = { s.zone z with landed := ((s.zone z).landed + coverOf h) % 2 ^ 48 } ∧
    Counted .lz 0 R.LZ_LANDED_FRAMES s t ∧ (h.typ = tAccum → Counted .codec 0 R.CODEC_ACC_FRAMES s t) := by
  obtain ⟨u, hu⟩ : ∃ u, u = (s.apply h.op h.elem h.target xs).1 := ⟨_, rfl⟩
  obtain ⟨v, hv⟩ : ∃ v, v = u.placed x h z (s.apply h.op h.elem h.target xs).2 := ⟨_, rfl⟩
  have hregs : u.regs = s.regs := hu ▸ rfl
  have hrec : OnlyRecords u v := hv ▸ u.onlyRecords_placed x h z _
  have hmem : v.mem = u.mem := by rw [hrec]; rfl
  have hlz : v.lz = s.lz := by rw [hrec, hu]; rfl
  have hjobs : v.xfer.jobs = [] := by rw [hrec, hu]; exact hj
  have hstage : s.stage9 x h z xs =
      (v.modZone z fun y => { y with landed := (y.landed + coverOf h) % 2 ^ 48 }).count .lz 0 R.LZ_LANDED_FRAMES := by
    rw [State.stage9, State.readRanges_sound he, hclean, ← State.landed_idle hjobs, hv, hu]
    rfl
  dsimp only
  rw [hstage]
  refine ⟨(State.count_mem ..).trans (hmem.trans (hu ▸ rfl)), ?_, ?_, fun ht => ?_⟩
  · rw [State.zone_congr (State.count_lz ..), State.zone_modZone, State.zone_congr hlz]
  · refine counted_from (counted_count .lz 0 R.LZ_LANDED_FRAMES (v.modZone z _)) ?_
    rw [State.modZone_regs, hv, State.find_placed _ _ _ _ _ (by decide) (by decide), State.find_countAccum_other _ _ _ (by decide),
      hregs]
  · have hcounted : Counted .codec 0 R.CODEC_ACC_FRAMES s v :=
      counted_from (hv ▸ u.counted_placed x h z _ ht) (by rw [hregs])
    exact counted_of_find hcounted (State.find_count_other (v.modZone z _) _ _ _ _ (by decide))

/-- A frame that meets a poisoned word writes nothing and poisons its zone. -/
theorem State.stage9_poisons (hpoison : s.anyPoison (readBefore (h.typ == tAccum) h.target (coverOf h)) = true) :
    s.stage9 x h z xs = (s.modZone z fun y => { y with poisoned := true }).count .mem 0 R.MEM_LAND_POISONED := by
  rw [State.stage9, State.readRanges_sound he, hpoison, ← State.zonePoison_idle hj]
  rfl

end Stage9

end Sys2Proof.Machine
end

section
/-! SUPPORT. DATA and ACCUM frames at the hub, from stage 6 to stage 9: the proof of O33 (R204, R205, R209 to R211, R262, R263). -/

namespace Sys2Proof.Machine

open Sys2Proof

/-! From stage 6 on. -/

theorem State.arise_nil (s : State) : s.arise [] = s := rfl

theorem State.onlyRecords_eventTracked (s : State) (ecc : EccList) (x : HubFrame) :
    OnlyRecords (s.hubTaken ecc x) (s.eventTracked ecc x) :=
  (s.hubTaken ecc x).onlyRecords_countN .stream 0 R.STREAM_RX_UNTRACKED 1

/-- What the hub keeps of the state until stage 6 has counted an unidentified frame. -/
theorem State.eventTracked_keeps (s : State) (ecc : EccList) (x : HubFrame) : let u := s.eventTracked ecc x
    u.mem = s.mem ∧ u.poison = s.poison ∧ u.errs = (s.arise ecc).errs ∧ u.xfer = s.xfer ∧ u.lz = s.lz ∧ u.live = s.live := by
  exact ⟨(State.count_mem ..).trans (State.atLeast_mem ..), (State.count_poison ..).trans (State.atLeast_poison ..),
    (State.count_errs ..).trans (State.atLeast_errs ..), s.eventTracked_xfer ecc x,
    (State.count_lz ..).trans (State.atLeast_lz ..), (State.live_congr (State.count_slate ..)).trans (s.hubTaken_live ecc x)⟩

theorem State.pace_mem (s : State) : s.pace.mem = s.mem ∧ s.pace.poison = s.poison := by
  obtain ⟨hmem, hpoison, -⟩ := show Part.memory.same s s.pace by simp [Part.same_refl]
  exact ⟨hmem, hpoison⟩

theorem State.pace_lz (s : State) : s.pace.lz = s.lz := show Part.lz.same s _ by simp [Part.same_refl]

section AtHub

variable {s : State} {x : HubFrame} (hx : s.nextHub = some x) (hi : s.live.identify (hdrOf x.frame.body).handle = none)
  (ht : (hdrOf x.frame.body).typ = tData ∨ (hdrOf x.frame.body).typ = tAccum)
include hx hi ht

theorem exec_hubReceive_land (ecc : EccList) : exec (.hubReceive ecc) s = .next ((s.eventTracked ecc x).land x).pace := by
  have hafter : ∀ u : State, u.afterStage6 x = u.land x := fun u => if_pos ht
  rw [exec_hubReceive ecc hx, State.stage6_untracked (by rw [State.hubTaken_live]; exact hi)]
  dsimp only
  rw [if_pos rfl, hafter, State.eventTracked]

section Decoded

variable {z : Nat} {xs : List Nat} (hz : s.live.stage7 (hdrOf x.frame.body) = .ok z)
  (hd : stage8 (hdrOf x.frame.body) (payloadOf x.frame.body) = .ok xs) (he : s.errs = []) (hj : s.xfer.jobs = [])
include hz hd he hj

/-- A frame that passes stages 7 and 8 comes to stage 9 in a state that holds memory, the zones and every register but two as they
were. -/
theorem exec_hubReceive_stage9 : ∃ u : State,
    exec (.hubReceive []) s = .next (u.stage9 x (hdrOf x.frame.body) z xs).pace ∧
    u.mem = s.mem ∧ u.poison = s.poison ∧ u.errs = [] ∧ u.xfer.jobs = [] ∧ u.lz = s.lz ∧
    ∀ a, a ≠ pageBase .stream 0 + R.STREAM_RX_UNTRACKED → a ≠ pageBase .codec 0 + R.CODEC_DEC_FRAMES →
      smFind u.regs a = smFind s.regs a := by
  obtain ⟨hmem, hpoison, herrs, hxfer, hlz, hlive⟩ := s.eventTracked_keeps [] x
  refine ⟨(s.eventTracked [] x).count .codec 0 R.CODEC_DEC_FRAMES, ?_, ?_, ?_, ?_, ?_, ?_, fun a ha hb => ?_⟩
  · have hland : (s.eventTracked [] x).land x =
        ((s.eventTracked [] x).count .codec 0 R.CODEC_DEC_FRAMES).stage9 x (hdrOf x.frame.body) z xs := by
      unfold State.land
      dsimp only
      rw [hlive, hz]
      dsimp only
      rw [hd]
    rw [exec_hubReceive_land hx hi ht [], hland]
  · exact (State.count_mem ..).trans hmem
  · exact (State.count_poison ..).trans hpoison
  · exact (State.count_errs ..).trans (herrs.trans he)
  · rw [State.count_xfer, hxfer, hj]
  · exact (State.count_lz ..).trans hlz
  · rw [State.find_count_other _ _ _ _ _ hb, s.find_eventTracked [] x ha]

theorem hubReceive_lands (hm : s.memSafe) (hp : s.poison = []) :
    Answers (.hubReceive []) s fun t => let h := hdrOf x.frame.body
      let cs := combineAll h.op h.elem (elemsOfMem h.elem (s.readMem h.target (xs.length * elemSize h.elem))) xs
      t.readMem h.target (xs.length * elemSize h.elem) = memOfElems h.elem (cs.map Comb.x) ∧
      (∀ a, a < h.target ∨ h.target + xs.length * elemSize h.elem ≤ a → t.readByte a = s.readByte a) ∧
      (t.zone z).landed = ((s.zone z).landed + coverOf h) % 2 ^ 48 ∧ (t.zone z).poisoned = (s.zone z).poisoned ∧
      Counted .lz 0 R.LZ_LANDED_FRAMES s t ∧ (h.typ = tAccum → Counted .codec 0 R.CODEC_ACC_FRAMES s t) := by
  obtain ⟨u, hexec, hmem, hpoison, herrs, hjobs, hlz, hfind⟩ := exec_hubReceive_stage9 hx hi ht hz hd he hj
  obtain ⟨t, htdef⟩ : ∃ t, t = (u.stage9 x (hdrOf x.frame.body) z xs).pace := ⟨_, rfl⟩
  obtain ⟨w, hw⟩ : ∃ w, w = (s.apply (hdrOf x.frame.body).op (hdrOf x.frame.body).elem (hdrOf x.frame.body).target xs).1 := ⟨_, rfl⟩
  obtain ⟨hwritten, hzone, hlanded, haccum⟩ :=
    State.stage9_lands x (hdrOf x.frame.body) z xs herrs hjobs (State.anyPoison_none (hpoison.trans hp) _)
  obtain ⟨hread, hother⟩ := s.apply_writes (hdrOf x.frame.body).op (hdrOf x.frame.body).elem (hdrOf x.frame.body).target xs hm
  rw [← hw] at hread hother
  have hbyte : ∀ a, t.readByte a = w.readByte a := fun a => congrArg (memByte · a) <| by
    rw [htdef, (State.pace_mem _).1, hwritten, hw]
    exact (s.apply_congr _ _ _ _ hmem).2
  have hzone' : t.zone z = { s.zone z with landed := ((s.zone z).landed + coverOf (hdrOf x.frame.body)) % 2 ^ 48 } := by
    rw [htdef, State.zone_congr (State.pace_lz _), hzone, State.zone_congr hlz]
  refine ⟨t, htdef ▸ hexec, ?_, fun a ha => (hbyte a).trans (hother a ha), by rw [hzone'], by rw [hzone'], ?_, fun haccumTyp => ?_⟩
  · exact (congrArg (List.map · (List.range _)) (funext fun i => hbyte _)).trans hread
  · exact htdef ▸ counted_of_find (counted_from hlanded (hfind _ (by decide) (by decide))) (State.find_pace_other _ _ (by decide))
  · exact htdef ▸ counted_of_find (counted_from (haccum haccumTyp) (hfind _ (by decide) (by decide)))
      (State.find_pace_other _ _ (by decide))

theorem hubReceive_poisons (haccum : (hdrOf x.frame.body).typ = tAccum)
    (hp : s.poisoned (hdrOf x.frame.body).target (coverOf (hdrOf x.frame.body)) = true) : Answers (.hubReceive []) s fun t =>
      t.mem = s.mem ∧ t.poison = s.poison ∧ (t.zone z).poisoned = true ∧ (t.zone z).landed = (s.zone z).landed ∧
      Counted .mem 0 R.MEM_LAND_POISONED s t := by
  obtain ⟨u, hexec, hmem, hpoison, herrs, hjobs, hlz, hfind⟩ := exec_hubReceive_stage9 hx hi ht hz hd he hj
  have hmeets : u.anyPoison (readBefore ((hdrOf x.frame.body).typ == tAccum) (hdrOf x.frame.body).target
      (coverOf (hdrOf x.frame.body))) = true := by
    rw [State.anyPoison_congr hpoison, haccum]
    simpa [readBefore, State.anyPoison] using hp
  refine ⟨_, hexec, ?_⟩
  dsimp only
  rw [State.stage9_poisons x _ z xs herrs hjobs hmeets, (State.pace_mem _).1, (State.pace_mem _).2,
    State.zone_congr (State.pace_lz _), State.zone_congr (State.count_lz ..), State.zone_modZone, State.zone_congr hlz]
  refine ⟨(State.count_mem ..).trans hmem, (State.count_poison ..).trans hpoison, rfl, rfl, ?_⟩
  have hcounted : Counted .mem 0 R.MEM_LAND_POISONED u
      ((u.modZone z fun y => { y with poisoned := true }).count .mem 0 R.MEM_LAND_POISONED) :=
    counted_count .mem 0 R.MEM_LAND_POISONED (u.modZone z fun y => { y with poisoned := true })
  exact counted_of_find (counted_from hcounted (hfind _ (by decide) (by decide))) (State.find_pace_other _ _ (by decide))

end Decoded

end AtHub

/-! Rejections (R209, R210). -/

theorem State.feat_congr {s t : State} (hacc : t.featAcc = s.featAcc) (hok : t.featOk = s.featOk) (b : Nat) :
    t.feat b = s.feat b := by
  rw [State.feat, State.feat, hacc, hok]

theorem State.report_off {s : State} (h : s.feat 22 = false) (code : Nat) (subject : Option (Nat × Nat)) (detail : Nat) :
    s.report code subject detail = s := by
  simp [State.report, h]

theorem State.reject_zones (s : State) (src zone chk : Nat) : (s.reject src zone chk).1.lz.zones = s.lz.zones := by
  unfold State.reject
  dsimp only
  repeat' split
  all_goals simp [State.raise, State.alarmAt]

/-- Without fault reports a rejection changes neither memory nor a zone. -/
theorem State.rejectReport_leaves {s : State} (h : s.feat 22 = false) (src zone chk : Nat) : let t := s.rejectReport src zone chk
    Part.memory.same s t ∧ t.lz.zones = s.lz.zones := by
  have hmem : Part.memory.same s (s.reject src zone chk).1 := by simp [Part.same_refl]
  obtain ⟨hacc, -, hok, -⟩ := show Part.feats.same s (s.reject src zone chk).1 by simp [Part.same_refl]
  have hoff : (s.reject src zone chk).1.feat 22 = false := (State.feat_congr hacc hok 22).trans h
  have heq : s.rejectReport src zone chk = (s.reject src zone chk).1 := by
    unfold State.rejectReport
    dsimp only
    rw [State.report_off hoff, ite_self]
  dsimp only
  rw [heq]
  exact ⟨hmem, s.reject_zones src zone chk⟩

theorem hubReceive_rejects {s : State} {x : HubFrame} {e : Nat × Nat} (ecc : EccList) (hx : s.nextHub = some x)
    (hi : s.live.identify (hdrOf x.frame.body).handle = none)
    (ht : (hdrOf x.frame.body).typ = tData ∨ (hdrOf x.frame.body).typ = tAccum)
    (hz : s.live.stage7 (hdrOf x.frame.body) = .error e) (hoff : s.feat 22 = false) :
    Answers (.hubReceive ecc) s fun t => t.mem = s.mem ∧ t.poison = s.poison ∧ t.lz.zones = s.lz.zones := by
  obtain ⟨chk, z⟩ := e
  obtain ⟨u, hu⟩ : ∃ u, u = s.eventTracked ecc x := ⟨_, rfl⟩
  obtain ⟨hmem, hpoison, -, -, hlz, hlive⟩ := s.eventTracked_keeps ecc x
  rw [← hu] at hmem hpoison hlz hlive
  have hfeat : u.feat 22 = false := by
    have hacc : (s.eventTracked ecc x).featAcc = s.featAcc := (State.count_featAcc ..).trans (State.atLeast_featAcc ..)
    have hok : (s.eventTracked ecc x).featOk = s.featOk := (State.count_featOk ..).trans (State.atLeast_featOk ..)
    exact hu ▸ (State.feat_congr hacc hok 22).trans hoff
  obtain ⟨⟨hmem', hpoison', -⟩, hzones⟩ := State.rejectReport_leaves hfeat (hdrOf x.frame.body).src z chk
  obtain ⟨v, hv⟩ : ∃ v, v = u.rejectReport (hdrOf x.frame.body).src z chk := ⟨_, rfl⟩
  have hland : u.land x = v.traceHub x 7 (if z = 0xFFFF then none else some z) := by
    unfold State.land
    dsimp only
    rw [hlive, hz, hv]
  have hrec : OnlyRecords v (u.land x) := hland ▸ State.onlyRecords_traceAt ..
  refine ⟨_, exec_hubReceive_land hx hi ht ecc, ?_⟩
  dsimp only
  rw [← hu, (State.pace_mem _).1, (State.pace_mem _).2, State.pace_lz, hrec]
  rw [← hv] at hmem' hpoison' hzones
  exact ⟨hmem'.trans hmem, hpoison'.trans hpoison, hzones.trans (congrArg LzSt.zones hlz)⟩

/-- Settles O33: a frame comes to stage 9 by `exec_hubReceive_stage9`, which writes what `State.apply` combines; a rejected one goes no
further than `State.rejectReport`. -/
theorem storedFramesLandInTheirZone : Obligations.StoredFramesLandInTheirZone := by
  refine ⟨fun s x z xs => ?data, fun s x z xs => ?accum, fun s x ecc e => ?rejected⟩
  case data =>
    intro h hx hi htyp hop hz hd hm hp he hj
    obtain ⟨t, hexec, hread, hother, hlanded, hpoisoned, hcounted, -⟩ := hubReceive_lands hx hi (.inl htyp) hz hd he hj hm hp
    refine ⟨t, hexec, hread.trans (congrArg (memOfElems h.elem) ?_), hother, hlanded, hpoisoned, hcounted⟩
    have hwrite := combineAll_write h.elem (s.length_oldElems h.elem h.target xs)
    rwa [← hop] at hwrite
  case accum =>
    intro h hx hi htyp hz hd hm he hj n
    refine ⟨fun hp => ?_, hubReceive_poisons hx hi (.inr htyp) hz hd he hj htyp⟩
    obtain ⟨t, hexec, hread, hother, hlanded, hpoisoned, hcounted, haccum⟩ :=
      hubReceive_lands hx hi (.inr htyp) hz hd he hj hm hp
    exact ⟨t, hexec, hread, hother, hlanded, hpoisoned, hcounted, haccum htyp⟩
  case rejected =>
    intro h hx hi htyp hz hoff
    exact hubReceive_rejects ecc hx hi htyp hz hoff

end Sys2Proof.Machine
end

section
/-! SUPPORT. Scrubbing and the commands of the LZ page: the proof of O45 (R204, R206, R210, R212, R214). -/

namespace Sys2Proof.Machine

open Sys2Proof

/-! Scrubbing (R204, R206). -/

/-- A die has scrubbed a line at an instant: it is counted, and the next line follows from then. -/
def Scrubbed (die due : Nat) (s t : State) : Prop :=
  t.mem = s.mem ∧ Counted .mem 0 R.MEM_SCRUB_LINES s t ∧ t.time.now = max s.time.now due ∧
  smGet t.scrubs die (0, 0) = (((smGet s.scrubs die (0, 0)).1 + 1) % 2 ^ 20, t.time.now)

/-- A die's line has been read in `v`: it is counted, and `next` is the line after it. -/
def State.scrubCounted (v : State) (die next : Nat) : State :=
  { v.count .mem 0 R.MEM_SCRUB_LINES with scrubs := smSet v.scrubs die (next, v.time.now) }

theorem exec_scrub_off {s : State} (die : Fin 8) (ecc : EccList) (h : s.regF .mem 0 R.MEM_SCRUB_CFG 15 0 = 0) :
    exec (.scrub die ecc) s = .next (s.arise ecc) :=
  congrArg Host.Outcome.next (if_pos h)

/-- The instant of the scrub is named `due`, so that no proof reduces the product of INTERVAL and the hub clock period. -/
theorem exec_scrub {s : State} (die : Fin 8) {due : Nat} (ecc : EccList) (h : s.regF .mem 0 R.MEM_SCRUB_CFG 15 0 ≠ 0)
    (hdue : (smGet s.scrubs die (0, 0)).2 + s.regF .mem 0 R.MEM_SCRUB_CFG 15 0 * wHub = due) :
    exec (.scrub die ecc) s = .next
      ((((s.arise ecc).atLeast due).eccRead (lineAddr die (smGet s.scrubs die (0, 0)).1) 64).scrubCounted die
        (((smGet s.scrubs die (0, 0)).1 + 1) % 2 ^ 20)) := by
  obtain ⟨v, hv⟩ : ∃ v, v = ((s.arise ecc).atLeast due).eccRead (lineAddr die (smGet s.scrubs die (0, 0)).1) 64 := ⟨_, rfl⟩
  have hexec : exec (.scrub die ecc) s = .next ((s.arise ecc).scrubLine die) := congrArg Host.Outcome.next (if_neg h)
  have hline : (s.arise ecc).scrubLine die = { v.count .mem 0 R.MEM_SCRUB_LINES with
      scrubs := smSet (v.count .mem 0 R.MEM_SCRUB_LINES).scrubs die
        (((smGet s.scrubs die (0, 0)).1 + 1) % 2 ^ 20, (v.count .mem 0 R.MEM_SCRUB_LINES).time.now) } := by
    rw [hv, ← hdue]
    rfl
  rw [hexec, hline, State.count_scrubs, State.count_time, ← hv, State.scrubCounted]

theorem scrubbed_counted {s v : State} {die due : Nat} (hmem : v.mem = s.mem) (htime : v.time.now = max s.time.now due)
    (hregs : smFind v.regs (pageBase .mem 0 + R.MEM_SCRUB_LINES) = smFind s.regs (pageBase .mem 0 + R.MEM_SCRUB_LINES)) :
    Scrubbed die due s (v.scrubCounted die (((smGet s.scrubs die (0, 0)).1 + 1) % 2 ^ 20)) := by
  have hnow : (v.count .mem 0 R.MEM_SCRUB_LINES).time.now = v.time.now := by rw [State.count_time]
  exact ⟨(State.count_mem ..).trans hmem, counted_from (counted_count .mem 0 R.MEM_SCRUB_LINES v) hregs, hnow.trans htime,
    (smGet_smSet_same ..).trans (by rw [State.scrubCounted, hnow])⟩

/-- A line lies in the die that its address names (R203). -/
theorem mchOf_line {die n w : Nat} (hd : die < 8) (hs : memStaging w = true) (hlo : lineAddr die n ≤ w) (hhi : w < lineAddr die n + 64) :
    mchOf w = die := by
  rw [mchOf, if_pos hs]
  simp only [bitsOf, lineAddr] at *
  omega

theorem memLpddr_of_staging {w : Nat} (hs : memStaging w = true) : memLpddr w = false := by
  simp only [memStaging, decide_eq_true_eq] at hs
  have hlow : ¬ lpddrBase ≤ w := by
    unfold lpddrBase
    omega
  rw [memLpddr, decide_eq_false hlow, Bool.false_and]

/-- An error in a word of staging memory stands alone where no other stood. -/
theorem State.arise_one {s : State} (he : s.errs = []) {w : Nat} (hs : memStaging w = true) (k : EccKind) :
    (s.arise [(w, k)]).errs = [(w, k)] := by
  simp [State.arise, he, errAdd, hs]

/-- A read that finds the only error that stands takes it. -/
theorem State.eccTake_one {s : State} {e : Nat × EccKind} (he : s.errs = [e]) {found : Nat × EccKind → Bool} (hf : found e = true) :
    s.eccTake found = ({ s with errs := [] } : State).eccOne e := by
  simp [State.eccTake, he, hf]

section ScrubLine

variable {s : State} {die : Fin 8} {due : Nat} (hon : s.regF .mem 0 R.MEM_SCRUB_CFG 15 0 ≠ 0)
  (hdue : (smGet s.scrubs die (0, 0)).2 + s.regF .mem 0 R.MEM_SCRUB_CFG 15 0 * wHub = due) (he : s.errs = [])
include hon hdue he

theorem scrub_sound : Answers (.scrub die []) s fun t => Scrubbed die due s t ∧ t.poison = s.poison := by
  have hread : (s.atLeast due).eccRead (lineAddr die (smGet s.scrubs die (0, 0)).1) 64 = s.atLeast due :=
    State.eccTake_sound (s := s.atLeast due) he _
  refine ⟨_, exec_scrub die [] hon hdue, ?_⟩
  rw [State.arise_nil, hread]
  exact ⟨scrubbed_counted rfl (congrArg TimeSt.now (State.atLeast_time ..)) rfl, State.count_poison ..⟩

section ErrorInLine

variable {w : Nat} (h8 : w % 8 = 0) (hs : memStaging w = true) (hlo : lineAddr die (smGet s.scrubs die (0, 0)).1 ≤ w)
  (hhi : w < lineAddr die (smGet s.scrubs die (0, 0)).1 + 64)
include h8 hs hlo hhi

/-- The read of the line takes the error that arises in it, in a state that differs from `s` in its clock alone. -/
theorem exec_scrub_error (k : EccKind) : exec (.scrub die [(w, k)]) s = .next
    (((s.atLeast due).eccOne (w, k)).scrubCounted die (((smGet s.scrubs die (0, 0)).1 + 1) % 2 ^ 20)) := by
  have hword : w / 8 * 8 = w := Nat.div_mul_cancel (Nat.dvd_of_mod_eq_zero h8)
  have hhit : eccHits (lineAddr die (smGet s.scrubs die (0, 0)).1) 64 (w, k) = true := by
    rw [eccHits, hword, decide_eq_true hhi, decide_eq_true (Nat.lt_of_le_of_lt hlo (Nat.lt_add_of_pos_right (by decide)))]
    rfl
  have hstand : ((s.arise [(w, k)]).atLeast due).errs = [(w, k)] := State.arise_one he hs k
  have hcleared : ({ (s.arise [(w, k)]).atLeast due with errs := [] } : State) = s.atLeast due := by
    rw [← he]
    rfl
  rw [exec_scrub die _ hon hdue, State.eccRead, State.eccTake_one hstand hhit, hcleared]

variable (hp : w ∉ s.poison)
include hp

theorem scrub_single : Answers (.scrub die [(w, .single)]) s fun t =>
    Scrubbed die due s t ∧ t.poison = s.poison ∧ Counted .mch die R.MCH_ECC_CORRECTED s t := by
  have hword : w / 8 * 8 = w := Nat.div_mul_cancel (Nat.dvd_of_mod_eq_zero h8)
  have hone : (s.atLeast due).eccOne (w, .single) = (s.atLeast due).count .mch die R.MCH_ECC_CORRECTED := by
    simp [State.eccOne, hword, hp, mchOf_line die.isLt hs hlo hhi]
  have hmem : pageBase .mem 0 + R.MEM_SCRUB_LINES ≠ pageBase .mch die + R.MCH_ECC_CORRECTED := by
    simp only [pageBase, R.MEM_SCRUB_LINES, R.MCH_ECC_CORRECTED]
    omega
  refine ⟨_, exec_scrub_error hon hdue he h8 hs hlo hhi .single, ?_⟩
  rw [hone]
  refine ⟨scrubbed_counted (State.count_mem ..) ?_ (State.find_count_other _ _ _ _ _ hmem), ?_, ?_⟩
  · rw [State.count_time, State.atLeast_time]
  · exact (State.count_poison ..).trans (State.count_poison ..)
  · exact counted_of_find (counted_count .mch die R.MCH_ECC_CORRECTED (s.atLeast due))
      (State.find_count_other _ _ _ _ _ hmem.symm)

theorem scrub_uncorrectable : Answers (.scrub die [(w, .uncorrectable)]) s fun t =>
    Scrubbed die due s t ∧ t.poison = w :: s.poison ∧ Counted .mch die R.MCH_ECC_UNCORR s t ∧ Alarmed 0x019 die w t := by
  have hword : w / 8 * 8 = w := Nat.div_mul_cancel (Nat.dvd_of_mod_eq_zero h8)
  obtain ⟨u, hu⟩ : ∃ u : State, u = { s.atLeast due with poison := w :: s.poison } := ⟨_, rfl⟩
  have hone : (s.atLeast due).eccOne (w, .uncorrectable) = (u.count .mch die R.MCH_ECC_UNCORR).raise 0x019 die w := by
    simp [State.eccOne, hword, memLpddr_of_staging hs, hp, mchOf_line die.isLt hs hlo hhi, hu]
  have hmem : pageBase .mem 0 + R.MEM_SCRUB_LINES ≠ pageBase .mch die + R.MCH_ECC_UNCORR := by
    simp only [pageBase, R.MEM_SCRUB_LINES, R.MCH_ECC_UNCORR]
    omega
  have hregs : u.regs = s.regs := hu ▸ rfl
  refine ⟨_, exec_scrub_error hon hdue he h8 hs hlo hhi .uncorrectable, ?_⟩
  rw [hone]
  refine ⟨scrubbed_counted ((State.count_mem u ..).trans (hu ▸ rfl)) ?_ ?_, ?_, ?_, ?_⟩
  · rw [State.raise_time, State.count_time, hu]
    exact congrArg TimeSt.now (State.atLeast_time ..)
  · exact (State.find_count_other u _ _ _ _ hmem).trans (by rw [hregs])
  · exact (State.count_poison ..).trans ((State.count_poison u ..).trans (hu ▸ rfl))
  · have hcounted : Counted .mch die R.MCH_ECC_UNCORR s (u.count .mch die R.MCH_ECC_UNCORR) :=
      counted_from (counted_count .mch die R.MCH_ECC_UNCORR u) (by rw [hregs])
    exact counted_of_find hcounted (State.find_count_other ((u.count .mch die R.MCH_ECC_UNCORR).raise 0x019 die w) _ _ _ _ hmem.symm)
  · have halarm := (u.count .mch die R.MCH_ECC_UNCORR).alarmed_raise 0x019 die w
    rw [Alarmed, State.scrubCounted]
    dsimp only
    rw [State.count_alarm]
    exact halarm

end ErrorInLine

end ScrubLine

/-! Slices (R43, R213). -/

theorem State.ownerOf_setOwner_resSlice (s : State) (o : Nat) {n : Nat} (h : n < 0x1000) :
    (s.setOwner (resSlice n) o).ownerOf (resSlice n) = o := by
  have hdiv : resSlice n / 0x1000 = 4 := by simp only [resSlice]; omega
  simp only [State.setOwner, State.ownerOf, hdiv, smGet_smSet_same]

/-! Edits of the live slate (R212). -/

theorem State.live_modLive (s : State) (f : Bank → Bank) : (s.modLive f).live = f s.live := by
  unfold State.modLive
  split <;> simp_all [State.live]

theorem State.staged_modLive (s : State) (f : Bank → Bank) : (s.modLive f).staged = s.staged := by
  unfold State.modLive
  split <;> simp_all [State.staged]

/-- A slate with the definition of one zone. -/
def Bank.withZone (b : Bank) (z : Nat) (lo hi : Word) : Bank :=
  { b with tbl := smSet (smSet b.tbl (offZone z) lo) (offZone z + 8) hi }

theorem Bank.word_withZone (b : Bank) (z : Nat) (lo hi : Word) :
    (b.withZone z lo hi).word (offZone z) = lo ∧ (b.withZone z lo hi).word (offZone z + 8) = hi := by
  refine ⟨?_, smGet_smSet_same ..⟩
  exact (smGet_smSet_other _ _ _ _ _ (by omega)).trans (smGet_smSet_same ..)

theorem Bank.find_withZone_other (b : Bank) (z : Nat) (lo hi : Word) {o : Nat} (h : o ≠ offZone z) (h8 : o ≠ offZone z + 8) :
    smFind (b.withZone z lo hi).tbl o = smFind b.tbl o :=
  (smFind_smSet_other _ _ _ _ h8).trans (smFind_smSet_other _ _ _ _ h)

section Edit

variable {s : State} {z : Fin 4096} (h : s.opens .lz R.LZ_EDIT_CTRL 0)
include h

theorem exec_lzEditApply : exec (.lzEditApply z) s = .next (s.lzEdit z) :=
  congrArg Host.Outcome.next (State.regWrite_opens (r := ⟨.lz, R.LZ_EDIT_CTRL, 1, 0, 4, .wo, 0xFFF0001, 0⟩) (j := 0) rfl h)

theorem exec_lzEditApply_committed (hc : s.slate.cut = .committed) :
    exec (.lzEditApply z) s = .next (s.err .lz 0 0x0152 z (s.slate.x % 2 ^ 32)) := by
  rw [exec_lzEditApply h, State.lzEdit]
  dsimp only
  rw [if_pos hc]

theorem lzEditApply_edits (hc : s.slate.cut ≠ .committed) {lo hi : Word} (hlo : lo = s.reg .lz 0 R.LZ_EDIT_WORD0)
    (hhi : hi = s.reg .lz 0 R.LZ_EDIT_WORD1) (hgood : s.zoneBad s.live z lo hi = false) :
    Answers (.lzEditApply z) s fun t => t.live = s.live.withZone z lo hi ∧ t.staged = s.staged ∧
      (znValid lo = true → znAccum lo = true → t.ownerOf (resSlice (znScratch lo)) = ownerLz) := by
  obtain ⟨u, hu⟩ : ∃ u, u = s.modLive fun b => b.withZone z lo hi := ⟨_, rfl⟩
  have hedit : s.lzEdit z = if znValid lo && znAccum lo then u.setOwner (resSlice (znScratch lo)) ownerLz else u := by
    rw [State.lzEdit]
    dsimp only
    rw [← hlo, ← hhi, if_neg hc, hgood, if_neg Bool.false_ne_true, hu]
    rfl
  have hslate : (s.lzEdit z).slate = u.slate := by
    rw [hedit]
    exact show Part.slate.same u _ by simp [Part.same_refl]
  refine ⟨_, exec_lzEditApply h, ?_, ?_, fun hvalid haccum => ?_⟩
  · rw [State.live_congr hslate, hu, State.live_modLive]
  · have hstaged : (s.lzEdit z).staged = u.staged := by simp only [State.staged, hslate]
    rw [hstaged, hu, State.staged_modLive]
  · rw [hedit, hvalid, haccum, Bool.and_self, if_pos rfl]
    exact u.ownerOf_setOwner_resSlice ownerLz ((fld_lt lo 11 8).trans (by decide))

end Edit

/-! The reject table and the view of a zone (R210, R214). -/

theorem exec_rejectClear {s : State} (h : s.opens .lz R.LZ_REJECT_CTRL 0) : exec .rejectClear s = .next s.rejectClear :=
  congrArg Host.Outcome.next (State.regWrite_opens (r := ⟨.lz, R.LZ_REJECT_CTRL, 1, 0, 4, .wo, 0x1, 0⟩) (j := 0) rfl h)

theorem exec_zoneSel {s : State} (z : BitVec 32) (h : s.opens .lz R.LZ_ZONE_SEL 0) :
    exec (.zoneSel z) s = .next (s.writeZoneSel (z.setWidth 64 &&& wd 0xFFF)) :=
  congrArg Host.Outcome.next (State.regWriteV_opens (r := ⟨.lz, R.LZ_ZONE_SEL, 1, 0, 4, .rw, 0xFFF, 0⟩) (j := 0) rfl h)

/-- A write of ZONE_SEL selects a zone, and the view captures that zone alone. -/
theorem State.writeZoneSel_selects (s : State) (v : Word) : let t := s.writeZoneSel v
    t.regF .lz 0 R.LZ_ZONE_SEL 11 0 = fld (wd (fld v 11 0)) 11 0 ∧ t.lz = { s.lz with
      view := wd ((s.zone (fld v 11 0)).landed + b2n (s.zone (fld v 11 0)).poisoned * 2 ^ 63) } :=
  have hregs : (s.writeZoneSel v).regs = (s.setReg .lz 0 R.LZ_ZONE_SEL (wd (fld v 11 0))).regs := rfl
  have hreg : (s.writeZoneSel v).reg .lz 0 R.LZ_ZONE_SEL = wd (fld v 11 0) :=
    (State.reg_of_find (by rw [hregs])).trans (State.reg_setReg s .lz 0 R.LZ_ZONE_SEL _)
  ⟨congrArg (fld · 11 0) hreg, rfl⟩

theorem zoneSel_captures {s : State} (z : BitVec 32) (h : s.opens .lz R.LZ_ZONE_SEL 0) : Answers (.zoneSel z) s fun t =>
    t.regF .lz 0 R.LZ_ZONE_SEL 11 0 = z.toNat % 2 ^ 12 ∧ t.lz = { s.lz with
      view := wd ((s.zone (z.toNat % 2 ^ 12)).landed + b2n (s.zone (z.toNat % 2 ^ 12)).poisoned * 2 ^ 63) } := by
  have hsel : fld (z.setWidth 64 &&& wd 0xFFF) 11 0 = z.toNat % 2 ^ 12 := (fld_and_mask _ 11 (by decide)).trans (fld_low32 z 11)
  have hreg : fld (wd (z.toNat % 2 ^ 12)) 11 0 = z.toNat % 2 ^ 12 := by
    rw [fld_wd (by omega)]
    omega
  obtain ⟨hselected, hview⟩ := s.writeZoneSel_selects (z.setWidth 64 &&& wd 0xFFF)
  rw [hsel] at hselected hview
  exact ⟨_, exec_zoneSel z h, hselected.trans hreg, hview⟩

/-- Settles O45, clause by clause: a scrub reads its line by `exec_scrub_error`, and an edit puts `Bank.withZone` into the live slate. -/
theorem scrubbingAndZoneCommands : Obligations.ScrubbingAndZoneCommands := by
  refine ⟨fun s die w => ?scrub, fun s die ecc h => exec_scrub_off die ecc h, fun s z h => ?edit, fun s h => exec_rejectClear h,
    fun s z h => zoneSel_captures z h⟩
  case scrub =>
    intro x a moved hon he h8 hs hlo hhi hp
    exact ⟨scrub_sound hon rfl he, scrub_single hon rfl he h8 hs hlo hhi hp, scrub_uncorrectable hon rfl he h8 hs hlo hhi hp⟩
  case edit =>
    intro lo hi
    refine ⟨fun hc => exec_lzEditApply_committed h hc, fun hc hgood => ?_⟩
    obtain ⟨t, hexec, hlive, hstaged, howns⟩ := lzEditApply_edits h hc rfl rfl hgood
    obtain ⟨hwordLo, hwordHi⟩ := s.live.word_withZone z lo hi
    exact ⟨t, hexec, hlive ▸ hwordLo, hlive ▸ hwordHi, hstaged, fun o ho ho8 => hlive ▸ s.live.find_withZone_other z lo hi ho ho8, howns⟩

end Sys2Proof.Machine
end
